-- ==== Sys2Proof/Word.lean ====
section
/-!
DEFINITION. The word types of the QFM-1024H and their plainest arithmetic.
-/

namespace Sys2Proof

/-- A 32-bit word: a BAR0 register, a mailbox word, a record word (00 R7). -/
abbrev Word := BitVec 32

/-- One byte. -/
abbrev Byte := BitVec 8

/-- A word from a number, modulo 2^32. -/
abbrev wd (n : Nat) : Word := BitVec.ofNat 32 n

end Sys2Proof
end

