-- ==== Sys2Proof/Syntax.lean ====
section
/-!
DEFINITION. The commands of the block, one constructor for each row of spec/opcode_table.json, and the
operands they carry.
-/

namespace Sys2Proof

/-- The transport that carries a mailbox message (04, Transports). -/
inductive Via where
  | boot
  | ring (n : Fin 8)
  | remote (channel : Nat)
deriving DecidableEq, Repr

/-- A ring pair's transport, over PCI Express. -/
def Via.isRing : Via → Bool
  | .ring _ => true
  | _ => false

/-- What the scan of a TX or RX ring reads from POS on when it resumes without a doorbell: the ring, and entries of eight words
(05 R162, R170). -/
structure Scan where
  ring : Fin 512
  entries : List (List Word)
deriving DecidableEq, Repr

/-- A mailbox command message that its transport has taken (04 R122, R129). -/
structure Req where
  via : Via
  extCmd : Bool := false
  extRsp : Bool := false
  /-- A reserved bit of the header is nonzero. -/
  hdrReserved : Bool := false
  tag : Nat := 0
  length : Nat := 4
  session : Nat := 0
  epoch : Nat := 0
  /-- The message's words from word 4. -/
  words : List Word := []
  /-- The words read at EXT_ADDR, when EXT_CMD is set. -/
  mem : List Word := []
  /-- The response slot still has OWN = 1 (04 R128). -/
  rspOwn : Bool := false
deriving DecidableEq, Repr

/-- How the fuses of a command burn: input power is lost after so many of them, when it is lost before the last; the last one reads back
wrong (15 R510, R520). -/
structure Burn where
  cut : Option Nat := none
  wrong : Bool := false
deriving DecidableEq, Repr

/-- What Cairn measured of a surge (02 R77). -/
structure SurgeSeen where
  peakV : Nat
  peakI : Nat
  mode : Nat
  pulses : Nat
  duration : Nat
  /-- Nanoseconds of the master counter from the first pulse to the record, steps apart. -/
  ago : Nat
  /-- The accumulated clamp energy has passed 50 % of its rating. -/
  worn : Bool
deriving DecidableEq, Repr

/-- The input as Cairn measures it (02 R65): 10 mV, 1 mA and 10 mW units. -/
structure InputSeen where
  vin : Nat
  iin : Nat
  pin : Nat
deriving DecidableEq, Repr

/-- Wake triggers of 03 R89. -/
inductive WakeTrigger where
  | frameStart | chunk | flowResult | commit | holdAwake | command | lookup | place
deriving DecidableEq, Repr

/-- What a read of a protected word found (16 R551). -/
inductive EccSeen where
  | clean | corrected | uncorrectable
deriving DecidableEq, Repr

/-- What lies in a burst of a stack (16 R551): half a record, an archive slot, 64 bytes of a buffer, a master table entry, or anything else. -/
inductive Burst where
  | record (h : Fin 268435456)
  | archive (slot : Nat)
  | buffer (key part : Nat)
  | master (fid : Fin 4096) (mac : Nat)
  | other
deriving DecidableEq, Repr

/-- How a frame that was being received ends (06 R206, R209). -/
inductive FrameTail where
  | complete | pcsError | lockLost | assemblyError
deriving DecidableEq, Repr

/-- A line frame at its 64th byte, or at its last byte if that comes first (07 R221), with the bytes received by the time
the pipeline takes it. -/
structure Arrival where
  data : List Byte
  /-- All bytes have arrived, the FCS among them. -/
  whole : Bool
  /-- The length that the frame has at its end (06 R205), on which counters, meters and charges of the entry rest though
  its last byte may be outstanding (log entry 29). -/
  length : Nat
  pcsErr : Bool := false
  /-- Clause 99 fragments received for it beyond an unfragmented frame (06 R213). -/
  fragments : Nat := 0
  /-- Its fragment sequence is one that Clause 99 rejects, so that no frame comes of it (06 R209). -/
  rejected : Bool := false
  /-- FEC blocks or codewords of the port, corrected and uncorrectable, since its last arrival (06 R213; log entry 104). -/
  fecCorrected : Nat := 0
  fecUncorrected : Nat := 0
deriving DecidableEq, Repr

/-- Times of a sampled operation that only a clock could give (17 R572). -/
structure SampleTimes where
  /-- How long its context stalled at an instruction, and at which. -/
  stall : Nat := 0
  stallIndex : Nat := 0
  /-- How long it waited for a context, and behind the same record (17 R573). -/
  contextWait : Nat := 0
  recordWait : Nat := 0
  homeTime : Nat := 0
deriving DecidableEq, Repr

/-- The unit whose supply failed; and, as their fatal events have no row of their own, a stack interface that failed, a word of a GCC
core's control SRAM that its ECC cannot correct, the crypto block's self-test, an error of the flash and one that PCI Express logs (16 R538,
R549, R551; log entry 89). -/
inductive SupplyUnit where
  | cell (c : Fin 64)
  | ridge (r : Fin 8)
  | stackGroup (g : Fin 16)
  | core (k : Fin 16) (word : Nat)
  | crypto
  | rail
  | flash
  | pcie
deriving DecidableEq, Repr

/-- The commands: one constructor per row of spec/opcode_table.json. A mailbox row is the execution of a
command message that a transport has taken; an event row says that its moment has come (log entry 4). -/
inductive Instr where
  /-- SESSION_OPEN (R144). -/
  | sessionOpen (r : Req)
  /-- SESSION_CLOSE (R136). -/
  | sessionClose (r : Req)
  /-- COMMIT (R137). -/
  | commit (r : Req) (b : Burn)
  /-- EPOCH_STATUS (R146). -/
  | epochStatus (r : Req)
  /-- STAGE_DISCARD (R145). -/
  | stageDiscard (r : Req)
  /-- STATS_SNAPSHOT (R142). -/
  | statsSnapshot (r : Req)
  /-- SNAPSHOT_DONE (R142). -/
  | snapshotDone (slots : BitVec 8)
  /-- UNKNOWN_OPCODE (R143). -/
  | unknownOpcode (op : Nat) (r : Req)
  /-- POWER_STATUS (R107). -/
  | powerStatus (r : Req)
  /-- POWER_SET_STATE (R108). -/
  | powerSetState (r : Req)
  /-- POWER_SET_PRESERVE (R109). -/
  | powerSetPreserve (r : Req)
  /-- POWER_HOLD_AWAKE (R110). -/
  | powerHoldAwake (r : Req)
  /-- RESET_WARM (R95). -/
  | resetWarm (r : Req)
  /-- RESET_CELL (R100). -/
  | resetCell (r : Req)
  /-- RESET_LANE (R111). -/
  | resetLane (r : Req)
  /-- POWER_JOURNAL_REPLAY (R107). -/
  | powerJournalReplay (r : Req)
  /-- RING_SET_SERVICE (R186). -/
  | ringSetService (r : Req)
  /-- RING_PUNT_MAP (R187). -/
  | ringPuntMap (r : Req)
  /-- RING_EVENT_ROUTE (R188). -/
  | ringEventRoute (r : Req)
  /-- RING_PUNT_LIMIT (R189). -/
  | ringPuntLimit (r : Req)
  /-- PORT_SET (R216). -/
  | portSet (r : Req)
  /-- PORT_STATUS (R218). -/
  | portStatus (r : Req)
  /-- PORT_STATS_READ (R219). -/
  | portStatsRead (r : Req)
  /-- CLS_PARSER_SET (R252). -/
  | clsParserSet (r : Req)
  /-- CLS_BANK_SET (R253). -/
  | clsBankSet (r : Req)
  /-- CLS_PROFILE_SET (R254). -/
  | clsProfileSet (r : Req)
  /-- CLS_PORT_SET (R255). -/
  | clsPortSet (r : Req)
  /-- CLS_RULE_WRITE (R256). -/
  | clsRuleWrite (r : Req)
  /-- CLS_RULE_DELETE (R258). -/
  | clsRuleDelete (r : Req)
  /-- CLS_RULE_READ (R259). -/
  | clsRuleRead (r : Req)
  /-- CLS_METER_SET (R260). -/
  | clsMeterSet (r : Req)
  /-- CLS_MIRROR_SET (R261). -/
  | clsMirrorSet (r : Req)
  /-- CLS_STATS_READ (R262). -/
  | clsStatsRead (r : Req)
  /-- TBL_VLAN_SET (R295). -/
  | tblVlanSet (r : Req)
  /-- TBL_PORT_SET (R295). -/
  | tblPortSet (r : Req)
  /-- TBL_L2_WRITE (R296). -/
  | tblL2Write (r : Req)
  /-- TBL_L2_FLUSH (R297). -/
  | tblL2Flush (r : Req)
  /-- TBL_L2_READ (R297). -/
  | tblL2Read (r : Req)
  /-- TBL_AGE_SET (R298). -/
  | tblAgeSet (r : Req)
  /-- TBL_ROUTE_WRITE (R299). -/
  | tblRouteWrite (r : Req)
  /-- TBL_NEXTHOP_SET (R300). -/
  | tblNexthopSet (r : Req)
  /-- TBL_ROUTER_MAC (R300). -/
  | tblRouterMac (r : Req)
  /-- TBL_GROUP_SET (R301). -/
  | tblGroupSet (r : Req)
  /-- TBL_HASH_KEY (R300). -/
  | tblHashKey (r : Req)
  /-- TBL_MCAST_SET (R301). -/
  | tblMcastSet (r : Req)
  /-- TBL_LOOKUP (R302). -/
  | tblLookup (r : Req)
  /-- TBL_STATS_READ (R302). -/
  | tblStatsRead (r : Req)
  /-- FLOW_FORMAT (R346). -/
  | flowFormat (r : Req)
  /-- FLOW_TEMPLATE_SET (R347). -/
  | flowTemplateSet (r : Req)
  /-- FLOW_ZONE_SET (R348). -/
  | flowZoneSet (r : Req)
  /-- FLOW_AGE_SET (R349). -/
  | flowAgeSet (r : Req)
  /-- FLOW_READ (R350). -/
  | flowRead (r : Req)
  /-- FLOW_DELETE (R350). -/
  | flowDelete (r : Req)
  /-- FLOW_ZONE_FLUSH (R351). -/
  | flowZoneFlush (r : Req)
  /-- FLOW_ARCHIVE_READ (R352). -/
  | flowArchiveRead (r : Req)
  /-- FLOW_STATS_READ (R353). -/
  | flowStatsRead (r : Req)
  /-- PROG_LOAD (R385). -/
  | progLoad (r : Req)
  /-- PROG_READ (R385). -/
  | progRead (r : Req)
  /-- PROG_METER_SET (R386). -/
  | progMeterSet (r : Req)
  /-- PROG_POOL_SET (R387). -/
  | progPoolSet (r : Req)
  /-- PROG_POOL_STATUS (R388). -/
  | progPoolStatus (r : Req)
  /-- PROG_GROUP_SET (R389). -/
  | progGroupSet (r : Req)
  /-- PROG_EMIT_SET (R390). -/
  | progEmitSet (r : Req)
  /-- PROG_STATS_READ (R391). -/
  | progStatsRead (r : Req)
  /-- FAB_STATUS (R426). -/
  | fabStatus (r : Req)
  /-- FAB_BENCH (R427). -/
  | fabBench (r : Req)
  /-- FAB_COL_POLICER (R428). -/
  | fabColPolicer (r : Req)
  /-- FAB_BUF_SET (R429). -/
  | fabBufSet (r : Req)
  /-- FAB_STATS_READ (R430). -/
  | fabStatsRead (r : Req)
  /-- EGR_PORT_SET (R455). -/
  | egrPortSet (r : Req)
  /-- EGR_QUEUE_SET (R456). -/
  | egrQueueSet (r : Req)
  /-- EGR_GATE_SET (R457). -/
  | egrGateSet (r : Req)
  /-- EGR_GATE_STATUS (R458). -/
  | egrGateStatus (r : Req)
  /-- EGR_STATS_READ (R459). -/
  | egrStatsRead (r : Req)
  /-- TIME_STEP (R466). -/
  | timeStep (r : Req)
  /-- TIME_RATE (R470). -/
  | timeRate (r : Req)
  /-- TIME_STATUS (R482). -/
  | timeStatus (r : Req)
  /-- TIME_UTC_SET (R482). -/
  | timeUtcSet (r : Req)
  /-- TIME_REANCHOR (R469). -/
  | timeReanchor (r : Req)
  /-- TIME_PULSE_SET (R477). -/
  | timePulseSet (r : Req)
  /-- TIME_TC_SET (R484). -/
  | timeTcSet (r : Req)
  /-- TIME_TC_STATS (R484). -/
  | timeTcStats (r : Req)
  /-- IMG_STATUS (R507). -/
  | imgStatus (r : Req)
  /-- IMG_WRITE (R506). -/
  | imgWrite (r : Req)
  /-- IMG_VERIFY (R494). -/
  | imgVerify (r : Req)
  /-- IMG_ACTIVATE (R494). -/
  | imgActivate (r : Req)
  /-- FW_CONFIRM (R495). -/
  | fwConfirm (r : Req) (b : Burn)
  /-- JOURNAL_SET (R506). -/
  | journalSet (r : Req)
  /-- SEC_STATUS (R530). -/
  | secStatus (r : Req)
  /-- SEC_NONCE (R521). -/
  | secNonce (r : Req)
  /-- SEC_OWNER_ENROLL (R531). -/
  | secOwnerEnroll (r : Req) (b : Burn)
  /-- SEC_OWNER_REVOKE (R532). -/
  | secOwnerRevoke (r : Req) (b : Burn)
  /-- SEC_CERT_READ (R533). -/
  | secCertRead (r : Req)
  /-- SEC_ATTEST (R534). -/
  | secAttest (r : Req)
  /-- SEC_DEBUG_ARM (R535). -/
  | secDebugArm (r : Req)
  /-- SEC_DEBUG_LOCK (R527). -/
  | secDebugLock (r : Req)
  /-- FLT_STATUS (R556). -/
  | fltStatus (r : Req)
  /-- FLT_READ (R557). -/
  | fltRead (r : Req)
  /-- FLT_CLEAR (R558). -/
  | fltClear (r : Req)
  /-- FLT_FFR_REARM (R548). -/
  | fltFfrRearm (r : Req)
  /-- FLT_ALERT_SET (R557). -/
  | fltAlertSet (r : Req)
  /-- FLT_INJECT (R559). -/
  | fltInject (r : Req)
  /-- PMU_SET (R578). -/
  | pmuSet (r : Req)
  /-- PMU_READ (R579). -/
  | pmuRead (r : Req)
  /-- PMU_SAMPLE_SET (R580). -/
  | pmuSampleSet (r : Req)
  /-- SKIP (R364). -/
  | skip (e : Fin 128) (k : Fin 16) (w : Word)
  /-- SKIPI (R363). -/
  | skipi (e : Fin 128) (k : Fin 16) (w : Word)
  /-- ADD (R363). -/
  | add (e : Fin 128) (k : Fin 16) (w : Word)
  /-- SADD (R363). -/
  | sadd (e : Fin 128) (k : Fin 16) (w : Word)
  /-- MIN (R363). -/
  | min (e : Fin 128) (k : Fin 16) (w : Word)
  /-- MAX (R363). -/
  | max (e : Fin 128) (k : Fin 16) (w : Word)
  /-- LDI (R363). -/
  | ldi (e : Fin 128) (k : Fin 16) (w : Word)
  /-- EXT (R363). -/
  | ext (e : Fin 128) (k : Fin 16) (w : Word)
  /-- INS (R363). -/
  | ins (e : Fin 128) (k : Fin 16) (w : Word)
  /-- KEYX (R363). -/
  | keyx (e : Fin 128) (k : Fin 16) (w : Word)
  /-- TS (R363). -/
  | ts (e : Fin 128) (k : Fin 16) (w : Word)
  /-- SETSC (R363). -/
  | setsc (e : Fin 128) (k : Fin 16) (w : Word)
  /-- METER (R369). -/
  | meter (e : Fin 128) (k : Fin 16) (w : Word)
  /-- NATALLOC (R371). -/
  | natalloc (e : Fin 128) (k : Fin 16) (w : Word)
  /-- NATFREE (R372). -/
  | natfree (e : Fin 128) (k : Fin 16) (w : Word)
  /-- LBSEL (R378). -/
  | lbsel (e : Fin 128) (k : Fin 16) (w : Word)
  /-- COMP (R373). -/
  | comp (e : Fin 128) (k : Fin 16) (w : Word)
  /-- EMIT (R380). -/
  | emit (e : Fin 128) (k : Fin 16) (w : Word)
  /-- SETACT (R363). -/
  | setact (e : Fin 128) (k : Fin 16) (w : Word)
  /-- BOOT_MAILBOX_GO (R126). -/
  | bootMailboxGo
  /-- MAILBOX_DOORBELL (R127). -/
  | mailboxDoorbell (n : Fin 8) (head : Word)
  /-- MAILBOX_COMMAND_TAKE (R127). -/
  | mailboxCommandTake (n : Fin 8) (head : Word)
  /-- MBX_CTRL_WRITE (R120). -/
  | mbxCtrlWrite (n : Fin 8) (v : Word)
  /-- MBX_IDLE (R120). -/
  | mbxIdle (n : Fin 8)
  /-- RING_CTRL_WRITE (R148). -/
  | ringCtrlWrite (i : Fin 608) (v : Word)
  /-- RING_IDLE (R173). -/
  | ringIdle (i : Fin 608)
  /-- RING_DOORBELL (R161). -/
  | ringDoorbell (i : Fin 512) (entries : List (List Word))
  /-- COMPLETION_DOORBELL (R170). -/
  | completionDoorbell (q : Fin 64) (free : Nat) (scans : List Scan)
  /-- EVENT_DOORBELL (R171). -/
  | eventDoorbell (q : Fin 32) (free : Nat)
  /-- STALL_REREAD (R170). -/
  | stallReread (i : Fin 96) (free : Nat) (scans : List Scan)
  /-- RING_INVAL (R163). -/
  | ringInval (v : Word)
  /-- INVALIDATION_DONE (R152). -/
  | invalidationDone
  /-- TX_DESCRIPTOR_START (R164). -/
  | txDescriptorStart (i : Fin 256) (busOk : Bool) (data : List Byte) (scans : List Scan)
  /-- DESCRIPTOR_DONE (R158). -/
  | descriptorDone (i : Fin 512) (own evOwn : Bool) (scans : List Scan)
  /-- PUNT_DELIVERY (R167). -/
  | puntDelivery (q : Fin 256) (busOk : Bool) (scans : List Scan)
  /-- HOLDOFF_EXPIRY (R172). -/
  | holdoffExpiry (i : Fin 96)
  /-- BPM_ALLOC_REQ (R176). -/
  | bpmAllocReq (q : Fin 32) (v : Word)
  /-- BPM_FREE (R180). -/
  | bpmFree (q : Fin 32) (v : Word) (own : Bool)
  /-- BPM_XFER (R180). -/
  | bpmXfer (q : Fin 32) (v : Word) (own : Bool)
  /-- FLT_EVT_WRITE (R544). -/
  | fltEvtWrite (n : Fin 36) (v : Word)
  /-- FFR_VALID_WRITE (R548). -/
  | ffrValidWrite (v : Word)
  /-- PMU_CNT_LO_WRITE (R562). -/
  | pmuCntLoWrite (off : Nat) (v : Word)
  /-- PMU_CNT_HI_WRITE (R562). -/
  | pmuCntHiWrite (off : Nat) (v : Word)
  /-- LO_READ_LATCH (R116). -/
  | loReadLatch (master : Nat) (off : Nat)
  /-- RESERVED_BAR0_WRITE (R9). -/
  | reservedBar0Write (off : Nat) (v : Word)
  /-- REGISTER_WRITE (R8). -/
  | registerWrite (off : Nat) (v : Word)
  /-- I2C_READ (R62, R63): the 7-bit address, the register offset, the bytes read, and the input as Cairn measures it at the read. -/
  | i2cRead (dev : Nat) (off : Nat) (n : Nat) (input : InputSeen)
  /-- REMOTE_DATAGRAM (R131). -/
  | remoteDatagram (data : List Word)
  /-- KEY_AGREEMENT_INIT (R524). -/
  | keyAgreementInit (src : List Word) (data : List Word)
  /-- KEY_AGREEMENT_FINISH (R525). -/
  | keyAgreementFinish (data : List Word)
  /-- PENDING_AGREEMENT_EXPIRY (R525). -/
  | pendingAgreementExpiry (id : Nat)
  /-- REMOTE_SESSION_TIMEOUT (R132). -/
  | remoteSessionTimeout (ch : Nat)
  /-- NONCE_LAPSE (R521). -/
  | nonceLapse (id : Nat)
  /-- MGMT_FRAME (R133). -/
  | mgmtFrame (m : Fin 2) (data : List Byte)
  /-- UNLOCK_CHALLENGE (R526). -/
  | unlockChallenge
  /-- UNLOCK_RESPONSE (R526). -/
  | unlockResponse (scope : Nat) (key : List Word) (sig : List Word)
  /-- DEBUG_NONCE_LAPSE (R526). -/
  | debugNonceLapse
  /-- DEBUG_ARM_END (R527). -/
  | debugArmEnd
  /-- START_THRESHOLD (R68). -/
  | startThreshold
  /-- CAIRN_POWER_UP (R83). -/
  | cairnPowerUp (straps : Fin 4)
  /-- FIRST_INPUT_MEASUREMENT (R49). -/
  | firstInputMeasurement (vin : Nat) (iin : Nat) (pin : Nat) (above : Bool)
  /-- BOOT_IMAGE_VERIFIED (R83). -/
  | bootImageVerified
  /-- STACKS_TRAINED (R83). -/
  | stacksTrained
  /-- POWER_FAIL_WARNING (R68). -/
  | powerFailWarning
  /-- POWER_FAIL_RELEASE (R70). -/
  | powerFailRelease
  /-- CONVERTER_STOP (R71). -/
  | converterStop (ov : Bool)
  /-- OVERVOLTAGE_RESTART (R68). -/
  | overvoltageRestart
  /-- SURGE (R76). -/
  | surge (g : SurgeSeen)
  /-- VIN_SNS_OPEN (R45). -/
  | vinSnsOpen
  /-- SYSCLK_LOST (R57). -/
  | sysclkLost
  /-- SYSCLK_RETURN (R57). -/
  | sysclkReturn
  /-- SDSREF_LOSS (R58). -/
  | sdsrefLoss (r : Fin 8)
  /-- SDSREF_RETURN (R538). -/
  | sdsrefReturn (r : Fin 8)
  /-- PRST_N_ASSERT (R50). -/
  | prstNAssert
  /-- MODULE_RESET (R97). -/
  | moduleReset
  /-- PERST_N_ASSERT (R605). -/
  | perstNAssert
  /-- PERST_N_RELEASE (R114). -/
  | perstNRelease
  /-- WATCHDOG_EXPIRY (R502). -/
  | watchdogExpiry
  /-- FATAL_FAULT_RESET (R550). -/
  | fatalFaultReset
  /-- DRAIN_COMPLETE (R104). -/
  | drainComplete
  /-- RESET_DONE (R97). -/
  | resetDone
  /-- RUN_ENTRY_COMMIT (R604). -/
  | runEntryCommit
  /-- POWER_TRANSITION_DONE (R79). -/
  | powerTransitionDone
  /-- WATCH_WAKE (R80). -/
  | watchWake
  /-- JOURNAL_SEAL (R497). -/
  | journalSeal
  /-- JOURNAL_SEAL_DONE (R69). -/
  | journalSealDone
  /-- CELL_EPOCH_APPLY (R139). -/
  | cellEpochApply (c : Fin 64) (slots : BitVec 8)
  /-- COMMIT_ISOLATION (R140). -/
  | commitIsolation (c : Fin 64) (slots : BitVec 8)
  /-- DOZE_ENTRY (R87). -/
  | dozeEntry (c : Fin 64)
  /-- SLUMBER_ENTRY (R88). -/
  | slumberEntry (c : Fin 64)
  /-- CELL_WAKE (R89). -/
  | cellWake (c : Fin 64) (t : WakeTrigger)
  /-- WAKE_COMPLETE (R90). -/
  | wakeComplete (c : Fin 64) (own : List Bool) (slots : BitVec 8)
  /-- CELL_WAKE_TIMEOUT (R538). -/
  | cellWakeTimeout (c : Fin 64)
  /-- DUTY_REJOIN (R91). -/
  | dutyRejoin (c : Fin 64)
  /-- LINK_UP (R196). -/
  | linkUp (p : Fin 1024) (deskew : Nat)
  /-- LINK_DOWN (R197). -/
  | linkDown (p : Fin 1024)
  /-- LOSS_OF_SIGNAL (R196). -/
  | lossOfSignal (lane : Fin 1024)
  /-- LANE_SHUTDOWN (R549). -/
  | laneShutdown (p : Fin 1024)
  /-- CELL_ISOLATION (R549). -/
  | cellIsolation (c : Fin 64)
  /-- LPI_ENTRY (R200). -/
  | lpiEntry (p : Fin 1024) (rx : Bool)
  /-- LPI_EXIT (R200). -/
  | lpiExit (p : Fin 1024)
  /-- PARTNER_LPI_EXIT (R202). -/
  | partnerLpiExit (p : Fin 1024)
  /-- VERIFY_RESULT (R208). -/
  | verifyResult (p : Fin 1024) (ok : Bool)
  /-- HOLD_BUFFER_STORE (R203). -/
  | holdBufferStore (p : Fin 1024) (data : List Byte) (pcsErr : Bool) (fragments : Nat)
  /-- HOLD_RELEASE (R226). -/
  | holdRelease (p : Fin 1024) (uncorrectable : Bool)
  /-- PIPELINE_ENTRY (R221). -/
  | pipelineEntry (p : Fin 1024) (a : Arrival)
  /-- LATE_KEY_ENTRY (R222). -/
  | lateKeyEntry (fid : Nat) (more : List Byte)
  /-- RECIRCULATION_PASS (R243). -/
  | recirculationPass (fid : Nat)
  /-- FRAME_END (R206). -/
  | frameEnd (fid : Nat) (rest : List Byte) (t : FrameTail)
  /-- LEARN_FILTER_EXPIRY (R270). -/
  | learnFilterExpiry (c : Fin 64) (fid : Fin 4096) (mac : Nat)
  /-- LEARN_REPORT_HANDLE (R271). -/
  | learnReportHandle (own : Bool)
  /-- AGING_PASS_ROW (R276). -/
  | agingPassRow (c : Fin 64) (fid : Fin 4096) (mac : Nat) (last : Bool) (own : Bool)
  /-- TABLE_SCRUB (R291). -/
  | tableScrub (u : Fin 72) (table : Fin 16) (index : Nat) (err : EccSeen)
  /-- TABLE_WORD_RESTORE (R291). -/
  | tableWordRestore (u : Fin 72) (table : Fin 16) (index : Nat) (own : Bool)
  /-- CACHE_LOOKUP (R325). -/
  | cacheLookup (c : Fin 64) (tag : Fin 256) (void : Bool) (uncorrectable : Bool)
  /-- CREDIT_WAIT_EXPIRY (R322). -/
  | creditWaitExpiry (c : Fin 64) (tag : Fin 256)
  /-- OPERATE (R318). -/
  | operate (c : Fin 64) (tag : Fin 256) (ecc : Option (Fin 268435456)) (fixed : Nat)
  /-- VOID (R338). -/
  | void (c : Fin 64) (ecc : Option (Fin 268435456)) (fixed : Nat)
  /-- COMPANION (R374). -/
  | companion (e : Fin 128) (k : Fin 16) (ecc : Option (Fin 268435456)) (fixed : Nat)
  /-- COMPANION_RESULT (R375). -/
  | companionResult (e : Fin 128) (k : Fin 16)
  /-- READ (R330). -/
  | read (e : Fin 128) (tag : Fin 16) (ecc : Option (Fin 268435456)) (fixed : Nat) (slots : BitVec 8)
  /-- DELETE (R330). -/
  | delete (e : Fin 128) (tag : Fin 16) (ecc : Option (Fin 268435456)) (fixed : Nat) (slots : BitVec 8)
  /-- INVALIDATE (R328). -/
  | invalidate (r : Fin 8) (h : Fin 268435456)
  /-- COLLECT (R328). -/
  | collect (r : Fin 8) (h : Fin 268435456)
  /-- ACK (R329). -/
  | ack (r : Fin 8) (h : Fin 268435456) (slots : BitVec 8)
  /-- FLUSH (R326). -/
  | flush (r : Fin 8) (h : Fin 268435456) (slots : BitVec 8)
  /-- RELEASE (R328). -/
  | release (r : Fin 8) (h : Fin 268435456) (slots : BitVec 8)
  /-- FLOW_RESULT (R368). -/
  | flowResult (c : Fin 64) (tag : Fin 256) (times : SampleTimes) (own : Bool)
  /-- WAIT_LIMIT_EXPIRY (R321). -/
  | waitLimitExpiry (c : Fin 64) (tag : Fin 256)
  /-- SWEEP_VISIT (R331). -/
  | sweepVisit (h : Fin 268435456) (ecc : EccSeen)
  /-- DRAM_SCRUB (R339). -/
  | dramScrub (stack : Fin 4) (burst : Fin (2 ^ 29)) (what : Burst) (err : EccSeen)
  /-- EXPORT_WRITE (R336). -/
  | exportWrite (e : Fin 128) (own : Bool)
  /-- ARCHIVE_WRITE (R337). -/
  | archiveWrite (e : Fin 128)
  /-- IPFIX_EXPORT (R382). -/
  | ipfixExport (stack : Fin 4)
  /-- IPFIX_TEMPLATE_TIMER (R382). -/
  | ipfixTemplateTimer
  /-- SAMPLE_TRIGGER (R571). -/
  | sampleTrigger (c : Fin 64)
  /-- CHUNK_CLOSE (R396). -/
  | chunkClose (src : Fin 64) (dst : Fin 64) (cls : Fin 8)
  /-- FIRST_STAGE_SLOT (R397). -/
  | firstStageSlot (c : Fin 64) (t : Fin 64)
  /-- SECOND_STAGE_SLOT (R399). -/
  | secondStageSlot (c : Fin 64) (t : Fin 64) (slow : BitVec 4)
  /-- ACCEPT_MAP_PUBLISH (R398). -/
  | acceptMapPublish (c : Fin 64)
  /-- CHUNK_ARRIVAL (R400). -/
  | chunkArrival (c : Fin 64) (crcOk : Bool)
  /-- RESEQ_LOST (R401). -/
  | reseqLost (d : Fin 64) (src : Fin 64)
  /-- BENCH_WINDOW (R408). -/
  | benchWindow (c : Fin 64)
  /-- BENCH_START (R410). -/
  | benchStart (c : Fin 64)
  /-- EGRESS_START (R404). -/
  | egressStart (p : Fin 1024)
  /-- QUEUE_ADMIT (R434). -/
  | queueAdmit (p : Fin 1024) (fid : Nat)
  /-- COL_INJECT (R414). -/
  | colInject (fid : Nat)
  /-- COL_HELD_INJECT (R415). -/
  | colHeldInject (c : Fin 64)
  /-- TRANSMIT_SELECT (R435). -/
  | transmitSelect (p : Fin 1024) (sent : Nat)
  /-- SHAPER_REFILL (R440). -/
  | shaperRefill (p : Fin 1024)
  /-- GATE_CHANGE (R444). -/
  | gateChange (p : Fin 1024)
  /-- GATE_LIST_START (R446). -/
  | gateListStart (p : Fin 1024)
  /-- RATE_CHANGE_APPLY (R470). -/
  | rateChangeApply
  /-- PULSE_EDGE (R475). -/
  | pulseEdge (n : Fin 8)
  /-- FOLLOWER_LOCK (R463). -/
  | followerLock (r : Fin 8)
  /-- FOLLOWER_UNLOCK (R538). -/
  | followerUnlock (r : Fin 8)
  /-- THERMAL_WARNING (R587). -/
  | thermalWarning
  /-- THERMAL_LIMIT (R587). -/
  | thermalLimit
  /-- THERMAL_STANDBY (R588). -/
  | thermalStandby
  /-- THERMAL_CONDITION_END (R587). -/
  | thermalConditionEnd (limit : Bool)
  /-- THERMAL_TRIP (R589). -/
  | thermalTrip
  /-- SUPPLY_FAULT (R549). -/
  | supplyFault (u : SupplyUnit)
  /-- PCIE_LINK_DOWN (R538). -/
  | pcieLinkDown
  /-- FLT_ENTRY_WRITE (R542). -/
  | fltEntryWrite (own : Bool)
  /-- COUNTER_WRAP (R561). -/
  | counterWrap (block : Fin 201) (item : Fin 9)
  /-- PRST_N_RELEASE (R50). -/
  | prstNRelease
  /-- PCIE_LINK_UP (R171). -/
  | pcieLinkUp (free : List Nat)
  /-- VIN_SNS_CONNECTED (R45). -/
  | vinSnsConnected
  /-- WATCHDOG_REFRESH (R502). -/
  | watchdogRefresh
  /-- DEFERRED_WATCHDOG_RESET (R502). -/
  | deferredWatchdogReset
  /-- TRIP_LATCH_CLEAR (R589). -/
  | tripLatchClear
  /-- TEMPERATURE_SAMPLE (R586). -/
  | temperatureSample (temps : List (Option Int))
  /-- HOURLY_FLASH_WRITE (R591). -/
  | hourlyFlashWrite
  /-- FLOW_FORMAT_DONE (R346). -/
  | flowFormatDone (slots : BitVec 8)
  /-- ZONE_FLUSH_DONE (R351). -/
  | zoneFlushDone (zone : Fin 4096) (slots : BitVec 8)
  /-- CELL_RESET_DONE (R100). -/
  | cellResetDone (c : Fin 64) (own : List Bool) (slots : BitVec 8)
  /-- FIRMWARE_PUNT_RECEIVE (R167). -/
  | firmwarePuntReceive (c : Fin 64)
  /-- PEER_DELAY_MEASUREMENT (R474). -/
  | peerDelayMeasurement (p : Fin 1024) (delay : Nat)
  /-- FIRMWARE_LOG_LINE (R504). -/
  | firmwareLogLine (core : Fin 16) (sev : Fin 3) (id : Nat) (text : List Byte) (own : Bool)
deriving DecidableEq, Repr

end Sys2Proof
end

