-- ==== Sys2Proof/Config.lean ====
section
/-!
DEFINITION. What an implementation fixes, and the free values.
Every constant of this file is opaque: no proof can see its value (log entries 3, 5, 6, 7).
-/

namespace Sys2Proof.Config

open Sys2Proof

/-- Fresh free value number `n` of a run (log entry 3). -/
opaque freeNat : Nat → Nat

/-- Dreisa's PCI Express Vendor ID (04 R112). -/
opaque vendorId : BitVec 16

/-- Dreisa's JEDEC code (02 R55). -/
opaque jedec : BitVec 11

/-- The text of a boot log line: what it reports, and of which bank. The manual fixes no wording (02 R54; 15 R513; log entry 91). -/
opaque bootText : Nat → Nat → List Byte

/-- First of the module's four MAC addresses (04 R133). -/
opaque macBase : BitVec 48

/-- OTP SERIAL (15 R508). -/
opaque serial : BitVec 64

/-- OTP DREISA_DIGEST (15 R508). -/
opaque dreisaDigest : Vector Word 12

/-- OTP ID_KEY, the private scalar of the device identity key (15 R508, R515). -/
opaque idKey : BitVec 384

/-- The device identity certificate before and after the serial number in its subject, and the two certificates above it, in DER (15
R515). -/
opaque certBefore : List Byte
opaque certAfter : List Byte
opaque certAbove : Nat → List Byte

/-- What a bank's identity area reads as: a certificate's copy and the digest stored beside the chain, as flash may have changed what
was written (15 R515; log entry 151). -/
opaque flashCert : Nat → Nat → List Byte → List Byte
opaque flashDigest : Nat → Vector Word 12 → Vector Word 12

/-- M0, the measurement of the boot ROM (15 R513). -/
opaque romDigest : Vector Word 12

/-- Word `i` of the firmware image that the module is delivered with (log entry 19). -/
opaque factoryWord : Nat → Word

/-- The public key of an owner key digest: the manual does not say where the module takes an owner's public key from
when a FINISH, or an enrollment, names only its slot (15 R524, R531; log entries 6 and 153). -/
opaque ownerKey : List Word → List Word

/-- The secret number of an ECDSA signature by a private scalar over a digest (15 R509; log entry 6). -/
opaque signSecret : Nat → Vector Word 12 → Nat

/-- Firmware's BPM quotas of the requesters that the policy's BPM record does not name (05 R178). -/
opaque firmwareQuota : Nat → Nat → Nat

/-- The MAC address at which a gateway's IP address is reached on a management port (04 R133; log entry 98). -/
opaque gatewayMac : Nat → List Byte → BitVec 48

/-- Numbers of Dreisa's own IPFIX elements: 0 TYPE, 1 ZONE, 2 V0, 3 V1, 16 + i key field i (10 R382). -/
opaque ipfixElement : Nat → Nat

/-- Salts of a cell's L2 ways and route buckets, as firmware chose them: number of the choice, cell, way or choice of
bucket (08 R290). -/
opaque l2Salt : Nat → Nat → Nat → Nat
opaque routeSalt : Nat → Nat → Nat → Nat

/-- Burst beyond one unit that a rate limiter allows whose depth the manual does not state: 0 a cell's punts,
1 the module's punts, 2 the module's punt bits, 3 firmware's punts, 4 a cell's host frames, 5 learn reports,
6 samples, 7 emitted records (05 R165, R168). -/
opaque rateDepth : Nat → Nat

/-- Whether a correction of n tenths of a nanosecond rounds up (06 R211). -/
opaque roundUp : Nat → Nat

end Sys2Proof.Config
end

