-- ==== Sys2Proof/Machine/Tab.lean ====
section
/-!
DEFINITION. Sparse tables: lists of key and value pairs in one canonical form, keys strictly
rising and, where the table has a default, no entry equal to it. Register arrays, counters,
flash words and configuration objects are held this way (INVENTORY.md, Memory and ordering).
-/

namespace Sys2Proof.Machine

/-- A sparse table by number. -/
abbrev Tab (α : Type) := List (Nat × α)

/-- The entry of a key, if the table lists one. -/
def tabFind {α : Type} : Tab α → Nat → Option α
  | [], _ => none
  | (k, v) :: t, n => if k = n then some v else tabFind t n

/-- The value of a key: its entry, else the default. -/
def tabGet {α : Type} (d : α) (t : Tab α) (n : Nat) : α := (tabFind t n).getD d

/-- Sets a key's entry, keeping the keys sorted. -/
def tabIns {α : Type} (n : Nat) (v : α) : Tab α → Tab α
  | [] => [(n, v)]
  | (k, w) :: t =>
    if n < k then (n, v) :: (k, w) :: t
    else if n = k then (n, v) :: t
    else (k, w) :: tabIns n v t

/-- Removes a key's entry. -/
def tabDel {α : Type} (n : Nat) : Tab α → Tab α
  | [] => []
  | (k, w) :: t => if n = k then tabDel n t else (k, w) :: tabDel n t

/-- Writes a value; the default's entry is removed. -/
def tabPut {α : Type} [DecidableEq α] (d : α) (n : Nat) (v : α) (t : Tab α) : Tab α :=
  if v = d then tabDel n t else tabIns n v t

/-- Changes a key's value. -/
def tabMod {α : Type} [DecidableEq α] (d : α) (n : Nat) (f : α → α) (t : Tab α) : Tab α :=
  tabPut d n (f (tabGet d t n)) t

/-- Keeps the entries of some keys. -/
def tabKeep {α : Type} (p : Nat → Bool) (t : Tab α) : Tab α := t.filter fun e => p e.1

/-- Keys strictly rising. -/
def tabSorted {α : Type} : Tab α → Bool
  | [] => true
  | [_] => true
  | a :: b :: t => decide (a.1 < b.1) && tabSorted (b :: t)

/-- The canonical form: keys strictly rising, no entry equal to the default. -/
def tabWf {α : Type} [DecidableEq α] (d : α) (t : Tab α) : Bool :=
  tabSorted t && t.all fun e => decide (e.2 ≠ d)

/-- Removes the first entry that a test names and answers it with the rest. -/
def takeFirst {α : Type} (p : α → Bool) : List α → Option (α × List α)
  | [] => none
  | x :: t => if p x then some (x, t) else (takeFirst p t).map fun r => (r.1, x :: r.2)

/-- Replaces every entry that a test names. -/
def updWhere {α : Type} (p : α → Bool) (f : α → α) (l : List α) : List α :=
  l.map fun x => if p x then f x else x

end Sys2Proof.Machine
end

