-- ==== Sys2Proof/Machine/State.lean ====
section
/-!
DEFINITION. The state of the QFM-1024H-00 as plain data: every register, table, queue and buffer the
manual gives the module, and the queue of waiting commands. Reset values are those of the manual's Reset
columns; the values the manual does not state carry a log entry (INVENTORY.md, State).
-/

namespace Sys2Proof.Machine

open Sys2Proof

/-! ## What leaves the module -/

/-- An information element of an IPFIX template: its number, whether it is one of Dreisa's own, and its bytes (10 R382). -/
structure IpfixField where
  element : Nat
  enterprise : Bool
  size : Nat
deriving DecidableEq, Repr

/-- An IPFIX template. -/
structure IpfixTemplate where
  id : Nat
  fields : List IpfixField
deriving DecidableEq, Repr

/-- An IPFIX data record: its template, and the values of that template's fields. -/
structure IpfixRecord where
  template : Nat
  values : List Nat
deriving DecidableEq, Repr

/-- What leaves the module at its interfaces, newest last in `State.out` (log entry 2). -/
inductive Out where
  /-- A posted write of words to host memory (04 R113). -/
  | hostWrite (addr : Nat) (data : List Word)
  /-- A posted write of bytes to host memory, of any number (05 R153). -/
  | hostBytes (addr : Nat) (data : List Byte)
  /-- An MSI-X message of a vector (04 R121). -/
  | msix (vector : Nat)
  /-- The value that a BAR0 read of a master returned (04 R116). -/
  | barRead (master : Nat) (offset : Nat) (value : Word)
  /-- A remote transport datagram to a channel (04 R130). -/
  | datagram (channel : Nat) (data : List Word)
  /-- A frame sent on a management port (04 R133). -/
  | mgmtFrame (mport : Nat) (data : List Byte)
  /-- Bytes that the I2C target returned (02 R63). -/
  | i2c (data : List Byte)
  /-- Words shifted out of the JTAG port (15 R526). -/
  | jtag (data : List Word)
  /-- An ASCII line on UART_TXD, with its CR LF (02 R54). -/
  | uart (line : List Byte)
  /-- A TPULSE pin's new level (13 R475). -/
  | tpulse (pin : Nat) (high : Bool)
  /-- A fragment or a whole frame transmitted on a port: frame, first byte, bytes, last, stomped, the time field (06 R209). -/
  | transmit (port : Nat) (frame : Nat) (data : List Byte) (whole : Bool) (stomped : Bool)
  /-- IPFIX templates and records to a collector: management port, address, UDP port, observation domain (10 R382). -/
  | ipfix (mport : Nat) (collector : List Word) (udp : Nat) (domain : Nat) (templates : List IpfixTemplate)
      (records : List IpfixRecord)
  /-- A lane shell's low-power idle signal to the partner (06 R200). -/
  | lpi (port : Nat) (idle : Bool)
deriving DecidableEq, Repr

/-! ## Module and Cairn -/

/-- The module states of 03 R78, and the start-up of 03 R83 before Cairn runs. -/
inductive ModState where
  | unpowered | softStart | watch | standby | run
deriving DecidableEq, Repr

/-- RESET_CAUSE, in the order of its codes (03 R107). -/
inductive ResetKind where
  | cold | module | warm | watchdog | fatal | watchExit
deriving DecidableEq, Repr

/-- The transitions of 03 R79 and the resets of 03 R95 that pass through boot. -/
inductive TransKind where
  | coldStart | toStandby | toRun | toWatch | reset (k : ResetKind)
deriving DecidableEq, Repr

/-- A transition or a reset under way. -/
structure Trans where
  kind : TransKind
  /-- The state held when it began, or for a Watch exit the target (03 R97). -/
  back : ModState
  /-- Begun by Cairn under 18 R587: a reset ends in Standby (03 R97). -/
  thermal : Bool := false
  /-- PRESERVE as it stood when it began, in Run (03 R104). -/
  keep : Bool := false
  /-- A Watch exit that PRST_N brings about: a module reset (03 R97; 14 R495). -/
  byPin : Bool := false
  /-- 0 just begun; 1 firmware runs again; 2 stacks trained; 3 the Run-entry commit is published. -/
  phase : Nat := 0
deriving DecidableEq, Repr

/-- The first-fault record (16 R547, R553). -/
structure Ffr where
  valid : Bool := false
  overflow : Bool := false
  carried : Bool := false
  source : Nat := 0
  access : Nat := 0
  master : Nat := 0
  fatal : Bool := false
  reason : Nat := 0
  addr : Nat := 0
  time : Nat := 0
deriving DecidableEq, Repr

/-- Module state and Cairn's control state (03; 02 R50 to R71; 14 R502). -/
structure Crn where
  mod : ModState := .unpowered
  trans : Option Trans := none
  /-- Firmware runs on the GCC. -/
  fwRuns : Bool := false
  /-- PRST_N and PERST_N as last seen, true for high (02 R46). -/
  prstN : Bool := true
  perstN : Bool := true
  /-- PRST_N asked for a module reset that waits for the seal (02 R51, 14 R602). -/
  resetAsked : Bool := false
  /-- Time since Cairn power-up at which Cairn asked firmware to seal the journal before a module reset, and before a fatal-fault one
  (14 R602). -/
  resetAt : Nat := 0
  fatalAt : Nat := 0
  /-- The module is held in reset while PRST_N is low (02 R50). -/
  held : Bool := false
  preserve : Bool := false
  cause : ResetKind := .cold
  storeKept : Bool := false
  afterWatch : ModState := .standby
  wakeTime : Nat := 0
  wdArmed : Bool := false
  wdLast : Nat := 0
  wdDeferred : Bool := false
  /-- Time since Cairn power-up at which PFW_N last fell (02 R51), 0 when Cairn powers up with it low (02 R49). -/
  pfwFell : Nat := 0
  /-- The same for each power-fail warning since Cairn power-up, newest first (02 R68, R77). -/
  pfwWarned : List Nat := []
  draining : Bool := false
  /-- A host has published since the cold start (03 R107). -/
  published : Bool := false
  /-- A thermal move to Standby is ordered and waits (18 R588). -/
  thermal : Bool := false
  /-- The first-fault record carried across a fatal-fault reset (03 R96). -/
  carried : Option Ffr := none
  /-- Source and reason of a fatal event whose action is the module fatal reset (16 R549). -/
  fatalTrig : Option (Nat × Nat) := none
  /-- PCI Express link up (02 R60). -/
  pcieUp : Bool := false
deriving DecidableEq, Repr

/-- Input supply, surge and thermal registers of Cairn (02 R65, R77; 18 R591). -/
structure Sup where
  /-- The first input measurement is complete (02 R49). -/
  measured : Bool := false
  pfw : Bool := true
  snsOpen : Bool := false
  sealed : Bool := false
  sysclkLost : Bool := false
  clampWear : Bool := false
  i2cAddr : Nat := 0
  vin : Nat := 0
  iin : Nat := 0
  pin : Nat := 0
  surgeCount : Nat := 0
  surgeLife : Nat := 0
  surgeLifeFlash : Nat := 0
  surgeHead : Nat := 0
  surgeLog : Tab Word := []
  /-- TEMP in bits [15:0], VALID in bit 16, per sensor. -/
  temp : Tab Nat := []
  tmax : Nat := 0
  sensor : Nat := 0
  warn : Bool := false
  limit : Bool := false
  peak : Nat := 0x8000
  warnings : Nat := 0
  limits : Nat := 0
  /-- Lifetime with Cairn powered before its last power-up, in ns, and as the flash holds it (18 R591). -/
  runBase : Nat := 0
  runFlash : Nat := 0
  /-- Lifetime with sensor 23 above 85.0 °C, in ns, up to `hotSince` where that time runs, and as the flash holds it. -/
  hotBase : Nat := 0
  hotSince : Option Nat := none
  hotFlash : Nat := 0
  /-- Consecutive samples whose hottest junction sensor was above the warning threshold, and above the limit; and since when every junction
  sensor has been below each (18 R587). -/
  warnSamples : Nat := 0
  limitSamples : Nat := 0
  belowWarn : Option Nat := none
  belowLimit : Option Nat := none
  tripLatch : Bool := false
  /-- The overvoltage stop holds the module off (02 R68). -/
  ovStop : Bool := false
deriving DecidableEq, Repr

/-! ## Time base -/

/-- One setting of a TPULSE schedule (13 R483). -/
structure PulseSet where
  mode : Nat := 0
  start : Nat := 0
  period : Nat := 0
  width : Nat := 0
deriving DecidableEq, Repr

/-- A TPULSE pin (13 R475, R477). -/
structure Pulse where
  cur : PulseSet := {}
  /-- Time of the next rising edge, or of the falling edge while high. -/
  edge : Nat := 0
  high : Bool := false
  /-- A new setting that waits for the pulse in progress to end. -/
  next : Option PulseSet := none
deriving DecidableEq, Repr

/-- The time base (13 R460 to R478). -/
structure Tim where
  /-- Master counter in units of 2^-48 ns (13 R460, R461). -/
  ctr : Nat := 0
  /-- Time since Cairn power-up in the same units, which no step moves. -/
  up : Nat := 0
  rate : Int := 0
  /-- Pending scheduled rate change: rate and APPLY_AT (13 R470). -/
  rateNext : Option (Int × Nat) := none
  stepped : Bool := false
  /-- The steps since Cairn power-up (13 R467): when, by the time since Cairn power-up, and the offset in ns, newest first; what a surge's time
  is told from (02 R77). -/
  steps : List (Nat × Int) := []
  domain : Nat := 0
  stepAt : Nat := 0
  utc : Nat := 0
  lock : BitVec 8 := 0
  sdsref : BitVec 8 := 0xFF
  pulse : Tab Pulse := []
deriving DecidableEq, Repr

/-! ## Host interface -/

/-- A held response: the slot of its command, the command, its status and its payload (04 R128). -/
structure HeldRsp where
  slot : Nat
  op : Nat
  req : Req
  status : Nat
  words : List Word
deriving DecidableEq, Repr

/-- A mailbox ring pair (04 R118, R127, R128). -/
structure MbxPair where
  cmdBase : Nat := 0
  rspBase : Nat := 0
  enable : Bool := false
  idle : Bool := true
  enaRefused : Bool := false
  rspStall : Bool := false
  log2size : Nat := 0
  vector : Nat := 0
  pos : Nat := 0
  /-- Command slot whose command is executing. -/
  exec : Option Nat := none
  /-- When its command was taken (04 R125). -/
  takenAt : Nat := 0
  /-- The response that waits for its slot (04 R128). -/
  held : Option HeldRsp := none
deriving DecidableEq, Repr

/-- An open session (04 R134; 15 R521). -/
structure Session where
  id : Nat
  /-- The channel of a remote session. -/
  channel : Option Nat := none
  /-- The live nonce and when it was issued. -/
  nonce : Option (List Word × Nat) := none
deriving DecidableEq, Repr

/-- A remote channel (04 R130 to R132; 15 R524). -/
structure Channel where
  id : Nat
  owner : Nat
  keyIn : List Byte
  keyOut : List Byte
  high : Nat := 0
  /-- Accepted SEQ values that are not more than 64 below the highest, newest first, and the response kept for each of the last 64. -/
  kept : List (Nat × Option (List Word)) := []
  lastAt : Nat := 0
  /-- SEQ of the message that is executing, and its words. -/
  exec : Option Nat := none
  takenAt : Nat := 0
  msg : List Word := []
  /-- SEQ and words of accepted messages that wait for it, oldest first. -/
  waiting : List (Nat × List Word) := []
  /-- SEQ of the last datagram sent on the channel. -/
  sent : Nat := 0
deriving DecidableEq, Repr

/-- A pending key agreement (15 R525). -/
structure Agreement where
  id : Nat
  ephemeral : Nat
  hostKey : List Word
  salt : List Word
  init : List Word
  resp : List Word
  at_ : Nat
deriving DecidableEq, Repr

/-- Why a command has not answered yet. -/
inductive DeferKind where
  | snapshot | format | zoneFlush (zone : Nat) (count : Nat) | cellReset (cell : Nat) | replay
deriving DecidableEq, Repr

/-- A command that has started and whose response waits. -/
structure Deferred where
  kind : DeferKind
  op : Nat
  req : Req
  /-- Its response can no longer be written (04 R114). -/
  lost : Bool := false
deriving DecidableEq, Repr

/-- The HIF block (04 R117, R118) and the mailbox's own state. -/
structure Hif where
  blLow : Nat := 0
  blHigh : Nat := 0
  fwVersion : Nat := 0
  ready : Bool := false
  irq : BitVec 5 := 0
  irqEn : BitVec 5 := 0
  epoch : Nat := 1
  pend : Bool := false
  applied : BitVec 64 := BitVec.allOnes 64
  isolated : BitVec 64 := 0
  epochTime : Nat := 0
  bmbBusy : Bool := false
  bmbDone : Bool := false
  bmbCmd : Tab Word := []
  bmbRsp : Tab Word := []
  /-- The boot mailbox command that the module has taken. -/
  bmbMsg : List Word := []
  bmbAt : Nat := 0
  mbx : Tab MbxPair := []
  msix : Tab Word := []
  msixPend : BitVec 64 := 0
  /-- _HI values latched by a _LO read, by master and offset (04 R116). -/
  latch : Tab Word := []
  sessions : List Session := []
  nextSession : Nat := 1
  blPinned : Nat := 0
  snapId : Nat := 0
  snapAt : Nat := 0
  /-- The counters at the snapshot's instant, once it has come (04 R142). -/
  snapCopy : Option (Tab Nat) := none
  /-- A snapshot was taken since the last reset of the GCC domain (06 R219). -/
  snapOk : Bool := false
  hold : BitVec 64 := 0
  deferred : List Deferred := []
  /-- OWN of the ring pairs' response slots, as the running command found it (04 R128). -/
  slotOwn : BitVec 8 := 0
  channels : List Channel := []
  agreements : List Agreement := []
  nextChannel : Nat := 1
  discards : Nat := 0
deriving DecidableEq, Repr

/-! ## Faults -/

/-- A token bucket: the tokens taken and not yet refilled, in parts of a token, and the time of the last change. -/
structure Bucket where
  used : Nat := 0
  at_ : Nat := 0
deriving DecidableEq, Repr

/-- An event (16 R538, R554). `cls` is 0 information, 1 degraded, 2 fault, 3 fatal. -/
structure Ev where
  src : Nat
  reason : Nat
  cls : Nat
  access : Nat := 0
  master : Nat := 0
  addr : Nat := 0
  detail : Nat := 0
  /-- A persistent condition that begins with the event. -/
  live : Bool := false
  ended : Bool := false
  injected : Bool := false
  first : Bool := false
  time : Nat := 0
deriving DecidableEq, Repr

/-- The FLT block (16 R553). -/
structure Flt where
  evt : BitVec 1152 := 0
  flt : BitVec 1152 := 0
  fatal : BitVec 1152 := 0
  alertEn : BitVec 1152 := 0
  /-- Live persistent conditions: source and reason. CAUSE is derived from them. -/
  live : List (Nat × Nat) := []
  ffr : Ffr := {}
  clrCount : Nat := 0
  clrFirst : Nat := 0
  suppressed : Nat := 0
  supBy : Tab Nat := []
  bucket : Tab Bucket := []
  /-- FLT_RESET_CAUSE: source and reason, when valid. -/
  resetCause : Option (Nat × Nat) := none
  /-- Events whose KIND 2 entry is not yet written (16 R542). -/
  queue : List Ev := []
deriving DecidableEq, Repr

/-! ## Images, journal, security -/

/-- The policy records in force (14 R489, R490). -/
structure Policy where
  dozeDelay : Nat := 10000
  slumberEn : BitVec 64 := 0
  activeSlumber : BitVec 64 := 0
  benchPct : Nat := 85
  placePermit : Nat := 1
  aging : List Nat := List.replicate 16 300
  quotaMax : Nat := 268435456
  rateMax : Nat := 1280000000
  burstMax : Nat := 16777215
  zone : Nat × Nat × Nat × Nat := (0, 0, 128, 0)
  /-- IPFIX collector: address words, UDP port, management port. -/
  collector : Option (List Word × Nat × Nat) := none
  /-- Owner addresses (four words each) and the listening port. -/
  owners : List (List Word) := []
  listenPort : Nat := 0
  rateLimit : Nat := 500000000
  bpm : Option (List Nat) := none
  puntFw : Nat := 100
  requiredBl : Nat := 0
  journal : Bool := true
  /-- The twelve words of each management port (R490 words 1 + 12m to 12 + 12m). -/
  mgmt : List Word := []
deriving DecidableEq, Repr

/-- A firmware or policy slot of the flash (14 R492 to R494). -/
structure Slot where
  /-- Holds the image the module was delivered with, where not written since. -/
  factory : Bool := false
  words : Tab Word := []
  /-- Bytes from the slot's start to the end of the last write since the erase. -/
  written : Nat := 0
  /-- The last IMG_VERIFY answered OK and the slot has not been written since. -/
  verified : Bool := false
deriving DecidableEq, Repr

/-- A configuration: for each opcode and object, the payload words that set it (14 R500, R501).
The key is the opcode times 2^200 plus the object's number. -/
abbrev Cfg := Tab (List Word)

/-- A journal segment (14 R499): its records as words, and the instant of its seal. -/
structure Segment where
  number : Nat
  bl : Nat
  checkpoint : Bool
  epoch : Nat
  opened : Nat
  records : List (List Word)
  sealedAt : Option Nat := none
  /-- Its seal has begun and is not complete. -/
  sealing : Bool := false
  /-- Its place: the bank, and the 4 KiB block of that bank's half of the journal area at which it starts (14 R497, R499). -/
  bank : Nat := 0
  block : Nat := 0
deriving DecidableEq, Repr

/-- Flash slots and the journal (14 R493 to R502). -/
structure Img where
  fw : Tab Slot := [(0, { factory := true })]
  pol : Tab Slot := []
  fwActive : Nat := 0
  trial : Bool := false
  reverted : Bool := false
  polActive : Nat := 0
  /-- The bank whose firmware runs, and M1 and M2 (15 R513). -/
  fwBank : Nat := 0
  m1 : List Word := []
  m2 : List Word := []
  policy : Policy := {}
  polVersion : Nat := 0
  /-- The policy slot in force, when a policy is in force, and the KEY_INDEX of its image as it was put in force (15 R523). -/
  polBank : Option Nat := none
  polKey : Nat := 0
  /-- The activated policy slot, and its contents then, that the next COMMIT puts in force (14 R496). -/
  polStaged : Option (Nat × Slot) := none
  journaling : Bool := true
  open_ : Option Segment := none
  segs : List Segment := []
  nextSeg : Nat := 0
  /-- CONFIG_DIGEST of CURRENT (15 R518). -/
  configDigest : List Word := []
deriving DecidableEq, Repr

/-- OTP, owner keys and the debug port (15 R508, R520, R526 to R528). -/
structure Sec where
  ownerDigest : Tab (List Word) := []
  enrolled : BitVec 4 := 0
  revoked : BitVec 4 := 0
  fwArb : Nat := 0
  polArb : Nat := 0
  jtagLocked : Bool := true
  armScope : Nat := 0
  armUntil : Nat := 0
  unlocked : Nat := 0
  nonce : Option (List Word × Nat) := none
  unlocks : Nat := 0
  failures : Nat := 0
deriving DecidableEq, Repr

/-- Configuration in force, the epoch before it, and staging (04 R137, R141; 14 R497). -/
structure Stg where
  cur : Cfg := []
  prev : Cfg := []
  /-- Older configurations, by epoch, that a frame on its way out is still tagged with (01 R24). -/
  old : Tab Cfg := []
  staged : Cfg := []
  /-- HIF_EPOCH.STAGED. -/
  flag : Bool := false
  /-- The staged commands in normalized form, oldest first (14 R500). -/
  log : List (List Word) := []
  /-- Class J settings that act at once. -/
  imm : Cfg := []
  /-- ZONE_DEFAULT and AGING as they stood at the cold start (14 R496). -/
  coldZone : Nat × Nat × Nat × Nat := (0, 0, 128, 0)
  coldAging : List Nat := List.replicate 16 300
  /-- Which free values the cells' table and route salts are: firmware chooses them at each cold start (08 R290). -/
  salt : Nat := 0
  /-- Load-balancing and pool changes staged for this commit (10 R389). -/
  lbStaged : Nat := 0
deriving DecidableEq, Repr

/-! ## Rings and buffer pools -/

/-- A descriptor in the descriptor cache or in progress (05 R153, R162). -/
structure Desc where
  slot : Nat
  data : List Word
  /-- Completion status once it is finished, bytes transferred, and a timestamp (05 R154, R155). -/
  status : Option Nat := none
  len : Nat := 0
  ts : Option Nat := none
  /-- RX: the frame continues in the next descriptor; its port and punt reason. -/
  more : Bool := false
  port : Nat := 0
  reason : Nat := 0
  /-- Fetched before an endpoint reset: its completion is discarded (04 R114). -/
  lost : Bool := false
  /-- Once it is in progress: the completion ring bound when it started, which takes its completion (log entry 101). -/
  cq : Fin 64 := 0
deriving DecidableEq, Repr

/-- The context of ring i (05 R150, R151) and the module's own state of it. -/
structure Ring where
  base : Nat := 0
  enable : Bool := false
  idle : Bool := true
  enaRefused : Bool := false
  disRefused : Bool := false
  log2size : Nat := 0
  vector : Nat := 0
  irqEn : Bool := false
  cq : Nat := 0
  requester : Nat := 0
  pos : Nat := 0
  holdoff : Nat := 0
  lost : Nat := 0
  /-- Events lost since the previous entry (05 R171). -/
  lostNew : Nat := 0
  /-- A scan stopped short, at 16 cached descriptors or at a stall, and resumes by itself (05 R162, R170). -/
  scan : Bool := false
  /-- Descriptors cached and not started, oldest first. -/
  cache : List Desc := []
  /-- Descriptors started and not finished, oldest first. -/
  busy : List Desc := []
  /-- CQ: completions held; EQ: events queued (without SEQ). -/
  held : List (List Word) := []
  seq : Nat := 1
  /-- End of the running interrupt holdoff, and whether an entry waits to be signalled. -/
  quietTill : Nat := 0
  owed : Bool := false
  weight : Nat := 16
  burst : Nat := 8
  /-- Quota left in the running round, and its BURST (05 R164). -/
  quota : Nat := 0
  roundBurst : Nat := 8
deriving DecidableEq, Repr

/-- A punted frame in its DRAM buffer (05 R167). -/
structure Punt where
  data : List Byte
  cell : Nat
  port : Nat
  reason : Nat
  ts : Nat
  /-- An RX ring, or 0x100 for firmware. -/
  target : Nat
  handle : Nat
  /-- Bytes already copied to the host. -/
  sent : Nat := 0
deriving DecidableEq, Repr

/-- The RING block and the punt path (05). -/
structure Rng where
  rings : Tab Ring := []
  cstall : BitVec 64 := 0
  invalDone : Bool := true
  inval : Nat := 0
  /-- The ring being visited in the running round and its starts at this visit. -/
  visit : Nat × Nat := (0, 0)
  /-- Event routing of a KIND: ENABLE, RING, MIN_CLASS. -/
  route : Tab (Bool × Nat × Nat) := []
  puntLimit : Tab Nat := []
  puntBucket : Tab Bucket := []
  puntAll : Bucket := {}
  puntBits : Bucket := {}
  puntFw : Tab Bucket := []
  hostBucket : Tab Bucket := []
  punts : List Punt := []
deriving DecidableEq, Repr

/-- The buffer pool manager (05 R175 to R184). -/
structure Bpm where
  four : Bool := false
  /-- Owner of each allocated buffer, by pool times 2^21 plus index. -/
  owner : Tab Nat := []
  gen : Tab Nat := []
  quota : Tab Nat := []
  allocStatus : Tab Nat := []
  allocHandle : Tab Nat := []
  xferTo : Tab Nat := []
  opStatus : Tab Nat := []
  opHandle : Tab Nat := []
  /-- Contents of a buffer, where written. -/
  data : Tab (List Byte) := []
deriving DecidableEq, Repr

/-! ## Performance monitors -/

/-- Sampling of a cell's flow operations (17 R571). -/
structure Sample where
  period : Nat := 0
  progEn : Bool := false
  program : Nat := 0
  count : Nat := 0
  /-- The next OPERATE sent is sampled. -/
  armed : Bool := false
deriving DecidableEq, Repr

/-- PMU windows of the 201 blocks (17 R575): registers by block times 128 plus word offset,
counters by block times 16 plus item, item 0 the cycle counter. -/
structure Pmu where
  regs : Tab Nat := []
  cnt : Tab Nat := []
  ovf : Tab Nat := []
  /-- Low words held for a load, by master times 2^22 plus offset (17 R562). -/
  low : Tab Word := []
  /-- Writes held for a slumbering cell: cell, master, offset, value (17 R564). -/
  held : List (Nat × Nat × Nat × Word) := []
  sample : Tab Sample := []
  sampleBucket : Tab Bucket := []
  /-- Keys that each cell's slots took since its last SYSCLK25 cycle, and the SYSCLK25 cycles counted, modulo 8 (17 R566, R569). -/
  keys : Tab Nat := []
  ticks : Nat := 0
deriving DecidableEq, Repr

/-! ## Ports and cells -/

/-- Link states of 06 R196. -/
inductive Link where
  | disabled | down | up | isolated
deriving DecidableEq, Repr

/-- A frame in a holding buffer (06 R203). -/
structure HeldFrame where
  data : List Byte
  ts : Nat
  pcsErr : Bool := false
deriving DecidableEq, Repr

/-- A port's live state (06 R196 to R218). -/
structure Port where
  link : Link := .disabled
  /-- MODE, FEC and ENABLE as the cell applied them last. -/
  applied : Nat × Nat × Bool := (2, 0, false)
  lastChange : Nat := 0
  rxLpi : Bool := false
  txLpi : Bool := false
  /-- Low-power idle left; no frame starts before this time (06 R200). -/
  txReadyAt : Nat := 0
  verify : Nat := 0
  /-- VERIFY_DIS as the cell applied it last. -/
  unverified : Bool := false
  deskew : Nat := 0
  /-- Lane shutdown under 16 R549. -/
  shut : Bool := false
  hold : List HeldFrame := []
  colBucket : Bucket := {}
  /-- LINK_DELAY as firmware measured it last (13 R474). -/
  linkDelay : Option Nat := none
deriving DecidableEq, Repr

/-- Cell states of 03 R86; waking names the state left. -/
inductive CellState where
  | off | run | doze | slumber | waking (fromSlumber : Bool)
deriving DecidableEq, Repr

/-- A dynamic table write held for a slumbering cell (08 R273). -/
structure DynWrite where
  fid : Nat
  mac : Nat
  /-- No value for a delete. -/
  dest : Option Nat
  /-- TYPE, OLD_DEST and PORT of the event that reported it. -/
  ev : Nat × Nat × Nat := (0, 0, 0)
  /-- Deferred by firmware: the ridge controller already held 1,024 (08 R273). -/
  late : Bool := false
deriving DecidableEq, Repr

/-- A cell's live state (03 R86; 11 R408 to R411; 16 R549). -/
structure Cell where
  st : CellState := .off
  wakeAt : Nat := 0
  benched : Bool := false
  benchSoon : Bool := false
  unbenchSoon : Bool := false
  lowWindows : Nat := 0
  sr : Nat := 0xFF
  /-- Second-stage slots of the running window in which it held a chunk for the connected destination, and sent one (11 R408). -/
  svcHeld : Nat := 0
  svcSent : Nat := 0
  /-- It left the bench, or a reset, in the running window, which is not judged (11 R411). -/
  svcSkip : Bool := false
  resetting : Bool := false
  /-- Isolated by a fatal event (16 R549); and it still has intermediate duty, until the next rotation boundary. -/
  fatalIso : Bool := false
  isoSoon : Bool := false
  /-- Reached Run and waits for the rotation boundary (03 R91). -/
  rejoin : Bool := false
  held : List DynWrite := []
  /-- Cell meter buckets: Tc and Tp used, and time (07 R244). -/
  meters : Tab (Nat × Nat × Nat) := []
  /-- Learn filter: FID, MAC, and the time the pair entered (08 R270). -/
  filter : List (Nat × Nat × Nat) := []
  learnBucket : Bucket := {}
  /-- Settings of the aging pass in progress (08 R298). -/
  ageTime : Nat := 300
  ageOn : Bool := true
  ageRow : Nat := 0
  /-- Buffer chunks in use by region (11 R416). -/
  buf : Tab Nat := []
  /-- Col injection channels that frames whose tail was in at their injection hold, and until when by the time since Cairn power-up
  (11 R413). -/
  channels : List (Nat × Nat) := []
deriving DecidableEq, Repr

/-! ## Frames -/

/-- How far a frame's forwarding is: before its result issues, through the fabric, ready for or in the Col
crossbar, or placed at its egress port at once. -/
inductive Path where
  | held | fabric | colReady | col | direct
deriving DecidableEq, Repr

/-- What the pipeline has decided for a frame. -/
structure Plan where
  /-- Destination cell and port mask of each copy (11 R395, R419). -/
  copies : List (Nat × Nat) := []
  /-- The program of its flow operation. -/
  program : Nat := 0
  /-- The lookup routed the frame, so its TTL is decremented (10 R368). -/
  routed : Bool := false
  /-- Resolved to Col, and to a multicast group. -/
  col : Bool := false
  mcast : Bool := false
  /-- The next hop to which the frame is rewritten (08 R287). -/
  hop : Option Nat := none
  /-- Punted with this reason once its last byte is in (05 R167). -/
  punt : Option Nat := none
deriving DecidableEq, Repr

/-- What a lookup or an action decides for a frame: a drop with its cell table counter (08 R293), a punt, or ports with
the next hop to rewrite to, and the members of a multicast group that are dead link-aggregation groups, or absent ones. -/
inductive Verdict where
  | drop (idx : Option Nat)
  | punt (reason : Nat)
  | go (ports : List Nat) (hop : Option Nat) (mcast : Bool) (dead lost : Nat)
deriving DecidableEq, Repr

/-- Where a frame whose key has passed waits for a byte that is no key field: at the resolve stage for the messageType that TC_MODE 2 judges,
with its action's words and what the lookups decided, or at its flow operation for a field of the flow key (09 R307; 13 R471; log entry
143). -/
inductive Stay where
  | resolve (action : List Word) (look : Verdict)
  | flow (action : List Word)
deriving DecidableEq, Repr

/-- A frame in the module. -/
structure Frame where
  data : List Byte := []
  /-- The bytes as the MAC received them, and a PCS error seen by the 64th byte. -/
  line : List Byte := []
  pcs : Bool := false
  /-- The frame's length (06 R205), as the module's rewrites leave it (log entry 29). -/
  length : Nat := 0
  port : Nat := 0
  /-- Ingress timestamp in 2^-16 ns. -/
  ts : Nat := 0
  epoch : Nat := 0
  /-- Whether the last byte has arrived, and the frame was found bad. -/
  ended : Bool := false
  bad : Bool := false
  /-- The module has changed its bytes, so its FCS is computed anew. -/
  rewritten : Bool := false
  recirc : Bool := false
  /-- Bytes of the stripped outer headers that have not arrived yet (07 R243). -/
  skip : Nat := 0
  lateWait : Bool := false
  /-- It waits for a byte after its key has passed. -/
  stay : Option Stay := none
  /-- Its pass has no entry in the slot ledger yet (17 R569, R570). -/
  open_ : Bool := false
  path : Path := .held
  tc : Nat := 0
  yellow : Bool := false
  ptp : Bool := false
  /-- Offset of the precision-time message, and the ingress TC_MODE and LINK_DELAY. -/
  ptpAt : Nat := 0
  tcMode : Nat := 0
  /-- The message is carried over UDP: 4 on IPv4, 6 on IPv6, else 0. -/
  ptpUdp : Nat := 0
  /-- The queue a host frame or a mirror copy names (12 R433). -/
  queue : Option Nat := none
  /-- TX ring, descriptor slot of a host frame (05 R153). -/
  host : Option (Nat × Nat) := none
  /-- Completion status so far of a host frame, and its egress timestamp where asked for (05 R154, R155). -/
  hostStatus : Nat := 0
  tsReq : Bool := false
  txTs : Option Nat := none
  plan : Plan := {}
  /-- The OPERATE posted for it, for the VOID (09 R338). -/
  op : Option (List Word × Nat) := none
  /-- A mirror copy: the frame it copies, and the length it is cut to (07 R246). -/
  mirrorOf : Option (Nat × Option Nat) := none
  /-- Col injection channels that it holds until its tail arrives (11 R413). -/
  chans : Nat := 0
  /-- Bytes already packed into chunks or injected. -/
  packed : Nat := 0
  /-- Copies that are not yet finished. -/
  left : Nat := 0
deriving DecidableEq, Repr

/-- A frame parked for its flow result (09 R321). -/
structure Park where
  fid : Nat
  cell : Nat
  since : Nat
  chunks : Nat
deriving DecidableEq, Repr

/-- Frames and where they wait (07, 11). -/
structure Frm where
  frames : Tab Frame := []
  next : Nat := 0
  late : List Nat := []
  recirc : List Nat := []
  parked : List Park := []
  /-- Frames resolved to Col whose result has issued: frame, egress port. -/
  colReady : List (Nat × Nat) := []
  /-- Col frames held for a sleeping egress cell: frame, egress port, chunks charged. -/
  colHeld : List (Nat × Nat × Nat) := []
deriving DecidableEq, Repr

/-! ## Forwarding tables -/

/-- A dynamic L2 entry of a cell (08 R267). -/
structure DynEntry where
  dest : Nat
  act : Bool
deriving DecidableEq, Repr

/-- A master entry (08 R271). -/
structure Master where
  dest : Nat
  cells : BitVec 64
  moved : Nat
deriving DecidableEq, Repr

/-- A learn report on its way to firmware (08 R269, R274). `kind`: 0 new, 1 move, 3 static violation, 4 demand. -/
structure Report where
  kind : Nat
  cell : Nat
  fid : Nat
  mac : Nat
  port : Nat
  time : Nat
  place : Nat
  flood : Nat
  /-- Further cells of the ridge whose reports of the pair within 1 µs were merged with this one (08 R271). -/
  also : List Nat := []
deriving DecidableEq, Repr

/-- Forwarding tables that firmware and hardware fill (08). Dynamic entries by cell, FID and MAC. -/
structure Tbl where
  dyn : Tab DynEntry := []
  /-- ACT of static entries, by the same key. -/
  act : Tab Bool := []
  /-- The word of its cell's L2 table that an entry stands in: way times 16,384 plus row, by the entry's key twice, plus 1 for a static one
  (08 R267). -/
  rowOf : Tab (List Nat) := []
  /-- The units of its cell's long-prefix table, or of the tries, that a prefix stands in, by its key and its result; a unit of a cell is 8
  times its bucket plus its place there (08 R282, R285). -/
  unitOf : Tab (List Nat) := []
  master : Tab Master := []
  reports : List Report := []
  /-- Table words that behave as absent: unit, TABLE code, word index (08 R291). -/
  absent : List (Nat × Nat × Nat) := []
deriving DecidableEq, Repr

/-! ## Flow store and flow programs -/

/-- A flow record (09 R305, R306). -/
structure Rec where
  zone : Nat := 0
  keyType : Nat := 0
  keyLen : Nat := 0
  key : List Byte := []
  program : Nat := 0
  /-- STATE; 0xF is quarantined. -/
  state : Nat := 1
  cls : Nat := 0
  presence : BitVec 8 := 0
  leaseMask : Nat := 0
  companion : Bool := false
  voided : Bool := false
  last : Nat := 0
  first : Nat := 0
  packets : Nat := 0
  bytes : Nat := 0
  w : List Word := List.replicate 10 0
deriving DecidableEq, Repr

/-- What the run of an operation's program leaves for its sample: the program that ran, the index of the last instruction that it executed,
and those of the COMP, LBSEL, NATALLOC and METER instructions among them (17 R572, R573). -/
structure Ran where
  program : Nat
  last : Option Nat := none
  stalls : List Nat := []
deriving DecidableEq, Repr

/-- Where an operation with a result outstanding is. -/
inductive OpAt where
  | credit | cache | home | held | done
deriving DecidableEq, Repr

/-- An operation of a cell (09 R316, R320). -/
structure Op where
  cell : Nat
  tag : Nat
  msg : List Word
  keyLen : Nat
  engine : Nat
  place : OpAt
  fid : Nat
  wait : Bool
  program : Nat
  /-- When it was ready, when it left the cell. -/
  ready : Nat
  issued : Nat := 0
  sampled : Bool := false
  /-- The run of its program, where one ran. -/
  ran : Option Ran := none
  result : List Word := []
  /-- Its place in the order of its route, stamped when it leaves the cell and when it passes the cache (09 R319). -/
  ord : Nat := 0
  /-- PRIV of its frame: 1 a host frame's, 3 a line frame's (17 R565). -/
  priv : Nat := 3
  /-- At its home it waits for a context, in the order of this stamp; 0 while it does not (10 R356). -/
  queued : Nat := 0
deriving DecidableEq, Repr

/-- A VOID on its way (09 R338). -/
structure VoidMsg where
  cell : Nat
  msg : List Word
  keyLen : Nat
  /-- Passed the summit cache. -/
  passed : Bool := false
  ord : Nat := 0
  /-- PRIV of its frame (17 R565). -/
  priv : Nat := 3
deriving DecidableEq, Repr

/-- Firmware's READ or DELETE (09 R316): the command that waits for it. -/
structure FwOp where
  engine : Nat
  tag : Nat
  delete : Bool
  byHandle : Bool
  handle : Nat
  msg : List Word
  keyLen : Nat
  req : Req
  /-- Its response can no longer be written (04 R114). -/
  lost : Bool := false
  ord : Nat := 0
deriving DecidableEq, Repr

/-- What waits for the ACKs of a record: a leased write, firmware's READ or DELETE, the sweeper's collection, or an
eviction with its reason (09 R329, R330, R332). -/
inductive LockWhy where
  | write
  | read (engine tag : Nat)
  | delete (engine tag : Nat)
  | sweep
  | evict (reason : Nat)
deriving DecidableEq, Repr

/-- A record that waits for ACKs: the ridges outstanding, and all those asked. -/
structure Lock where
  left : BitVec 8
  all : BitVec 8
  why : LockWhy
deriving DecidableEq, Repr

/-- A coherence message (09 R327). -/
structure Coh where
  kind : Nat
  ridge : Nat
  handle : Nat
  empty : Bool := false
  dpkts : Int := 0
  dbytes : Int := 0
  latest : Nat := 0
  ord : Nat := 0
deriving DecidableEq, Repr

/-- A summit cache entry (09, Summit caches). -/
structure CacheEntry where
  handle : Nat
  zone : Nat
  keyType : Nat
  keyLen : Nat
  key : List Byte
  epoch : Nat
  program : Nat
  y : List Word
  lease : Bool
  dpkts : Int := 0
  dbytes : Int := 0
  latest : Nat := 0
deriving DecidableEq, Repr

/-- An export in an engine's queue (09 R334, R335). -/
structure Export where
  archive : List Word
  handle : Nat
  time : Nat
deriving DecidableEq, Repr

/-- The flow store (09). -/
structure Flo where
  formatted : Bool := false
  formatting : Bool := false
  formatId : Nat := 0
  salt : Nat := 0
  archiveGib : Nat := 0
  /-- What the running format will set: salt, archive size. -/
  next : Nat × Nat := (0, 0)
  recs : Tab Rec := []
  zoneBucket : Tab Bucket := []
  flushing : List Nat := []
  ops : List Op := []
  voids : List VoidMsg := []
  fwOps : List FwOp := []
  /-- Coherence messages on their way, oldest first. -/
  coh : List Coh := []
  /-- Records that wait for ACKs (09 R329). -/
  locked : Tab Lock := []
  /-- Each ridge's cache, least recently used first. -/
  cache : Tab (List CacheEntry) := []
  evq : Tab (List Export) := []
  arq : Tab (List Export) := []
  head : Tab Nat := []
  archive : Tab (List Word) := []
  /-- Stamps given to messages. -/
  seq : Nat := 0
  /-- Each engine's sweeper: the slot that it visits next (09 R331). -/
  sweep : Tab Nat := []
deriving DecidableEq, Repr

/-- A run of a flow program on a context (10 R355 to R359). -/
structure Run where
  /-- The record's handle, or none for a run without a record. -/
  handle : Option Nat := none
  /-- Request words, and the status it began with (10 R357). -/
  msg : List Word := []
  keyLen : Nat := 0
  inStatus : Nat := 0
  /-- LAST_SEEN before the count; none without one (10 R363 TS). -/
  lastBefore : Option Nat := none
  y : List Word := List.replicate 6 0
  scratch : List Word := List.replicate 4 0
  program : Nat := 0
  companionRun : Bool := false
  index : Nat := 0
  /-- Ended at once by exhaustion (10 R371, R378). -/
  stopped : Bool := false
  /-- COMP was issued, or failed at once (10 R373). -/
  compSent : Bool := false
  compFailed : Bool := false
  /-- W words written by the run. -/
  wrote : Nat := 0
  /-- Its COMP is a ninth: the context waits before it until one is released (10 R374). -/
  stall : Bool := false
  /-- The last instruction that it executed, and the COMP, LBSEL, NATALLOC and METER instructions that it executed (17 R573). -/
  last : Option Nat := none
  stalls : List Nat := []
  /-- PRIV of the frame that it serves (17 R565). -/
  priv : Nat := 3
  /-- The result waits for a companion: cell, tag of the operation (10 R375). -/
  holds : Option (Nat × Nat) := none
  /-- The companion's result: status, handle. -/
  compResult : Option (Nat × Nat) := none
deriving DecidableEq, Repr

/-- A COMPANION request on its way (10 R374). -/
structure CompMsg where
  engine : Nat
  context : Nat
  home : Nat
  msg : List Word
  keyLen : Nat
  ord : Nat := 0
  /-- PRIV of the frame that it serves (17 R565). -/
  priv : Nat := 3
deriving DecidableEq, Repr

/-- Flow programs' own state (10). -/
structure Prg where
  ctx : Tab Run := []
  comps : List CompMsg := []
  /-- Allocated translation ports, by address index times 65536 plus port. -/
  nat : Tab Bool := []
  /-- Release times of ports within their reuse delay. -/
  freed : Tab Nat := []
  /-- Port last allocated, by engine and address index; 0 before the first. -/
  ptr : Tab Nat := []
  emitBucket : Tab Bucket := []
  ipfixBucket : Bucket := {}
  /-- Staged telemetry records of each stack. -/
  staging : Tab (List (List Word)) := []
  /-- IPFIX templates sent, by TYPE and KEY_TYPE. -/
  templates : List (Nat × Nat × List IpfixField) := []
deriving DecidableEq, Repr

/-! ## Fabric and egress -/

/-- Bytes of one copy in a chunk (11 R395): frame, offset of the frame, bytes. -/
structure Piece where
  fid : Nat
  off : Nat
  len : Nat
  /-- Port mask of the copy. -/
  mask : Nat
  /-- Bytes of the frame header before it: 0 where the frame began in an earlier chunk, 16 with a timestamp extension, else 8. -/
  head : Nat := 0
  /-- LEN of that header: 0 when the frame was packed before its end arrived. -/
  hlen : Nat := 0
  last : Bool
  /-- The frame that ends here is bad: TAIL_BAD. -/
  bad : Bool := false
deriving DecidableEq, Repr

/-- A chunk (11 R394). -/
structure Chunk where
  src : Nat
  dst : Nat
  cls : Nat
  seq : Nat := 0
  fill : Nat := 0
  pgen : Nat := 0
  pieces : List Piece := []
  /-- When its first byte was placed. -/
  opened : Nat := 0
deriving DecidableEq, Repr

/-- Resequencing state of a pair at its destination (11 R400, R401). -/
structure Pair where
  expect : Nat := 0
  pgen : Nat := 0
  held : List Chunk := []
  /-- When a chunk later than the expected one first arrived. -/
  since : Nat := 0
deriving DecidableEq, Repr

/-- The Switchback fabric (11). -/
structure Fab where
  partials : Tab Chunk := []
  first : Tab (List Chunk) := []
  /-- Chunks at an intermediate cell, oldest first. -/
  mid : Tab (List Chunk) := []
  /-- Chunks crossing to a destination: receiving cell and chunk. -/
  wire : List (Nat × Chunk) := []
  seq : Tab Nat := []
  pgen : Tab Nat := []
  pairs : Tab Pair := []
  /-- Chunks discarded before they reached their destination's order, until their loss is declared. -/
  gone : List Chunk := []
  /-- Chunks released in order at their destination that still hold bytes of a frame which has not left or been dropped there
  (11 R417, R420). -/
  landed : List Chunk := []
  /-- Cleared accept bits: intermediate times 512 plus destination times 8 plus class. -/
  refuse : Tab Bool := []
  /-- Cells whose first-stage queue the accept maps refused in the last slot to send its head (11 R398; 17 R569). -/
  refused : BitVec 64 := 0
deriving DecidableEq, Repr

/-- A copy of a frame at an egress port (11 R420). -/
structure Copy where
  fid : Nat
  port : Nat
  /-- Bytes in order at the egress cell. -/
  got : Nat := 0
  whole : Bool := false
  bad : Bool := false
  /-- LEN of its frame header. -/
  len : Nat := 0
  /-- Chunks charged to its queue. -/
  chunks : Nat := 0
  /-- Col: when its head reached the staging, by the time since Cairn power-up (11 R415). -/
  since : Nat := 0
  queue : Nat := 0
  col : Bool := false
deriving DecidableEq, Repr

/-- What a port's transmitter is sending (06 R209; 12 R449). -/
structure Tx where
  copy : Copy
  sent : Nat := 0
  /-- Bytes of the fragment in progress. -/
  frag : Nat := 0
  /-- When the frame's first byte left, in 2^-16 ns; none while it is chosen and not started. -/
  at_ : Option Nat := none
  /-- A held fragment's gate must reopen (12 R449). -/
  gateHeld : Bool := false
  /-- Started under 12 R449: it may be split at its gate's close. -/
  split : Bool := false
  /-- With `split`: the bytes of the frame that a fragment which ends at the close leaves sent (12 R449). -/
  cut : Nat := 0
  /-- Start tag of a frame of a fair group that is chosen and has not started (12 R437). -/
  tag : Option Nat := none
  /-- A Col frame has preempted it, and its gate has closed since its start (12 R450). -/
  preempted : Bool := false
  shut : Bool := false
  /-- The residence time that a corrected message's correctionField grows by (13 R472). -/
  corr : Option Nat := none
  /-- The message's type had not arrived at its start, so it is counted at its end. -/
  tcDue : Bool := false
  /-- Frame length charged at its start. -/
  charged : Nat := 0
deriving DecidableEq, Repr

/-- A gate list (12 R444, R457). -/
structure GateList where
  enable : Bool := false
  base : Nat := 0
  cycle : Nat := 0
  /-- INTERVAL and GATES. -/
  entries : List (Nat × Nat) := []
deriving DecidableEq, Repr

/-- A shaper's bucket and the settings in force for it (12 R440 to R442). -/
structure Shaper where
  /-- The count in units of 2^-16 byte. -/
  count : Int
  on : Bool
  rate : Nat
  depth : Nat
deriving DecidableEq, Repr

/-- A port's gate sequencer (12 R445, R446). -/
structure Gate where
  cur : GateList := {}
  cycleStart : Nat := 0
  entry : Nat := 0
  gates : Nat := 0x1FF
  next : Option (GateList × Nat) := none
  /-- With a pending list: the end of the active list's last cycle; once that has passed, a further list does not move it. -/
  stopAt : Nat := 0
deriving DecidableEq, Repr

/-- Egress ports and queues (12). -/
structure Egr where
  /-- Copies whose bytes are still arriving or that have not been admitted. -/
  arriving : List Copy := []
  /-- Admitted copies, by port times 8 plus queue, oldest first. -/
  queue : Tab (List Copy) := []
  /-- Col copies waiting at a port, in arrival order. -/
  colq : Tab (List Copy) := []
  tx : Tab Tx := []
  /-- A preempted or held preemptable frame. -/
  heldTx : Tab Tx := []
  /-- Shapers, by port times 9 plus queue, 8 for the port; an unlisted one is full, under its configured settings. -/
  shaper : Tab Shaper := []
  vtime : Tab Nat := []
  finish : Tab Nat := []
  /-- Start tag of an eligible head frame. -/
  startTag : Tab Nat := []
  gate : Tab Gate := []
deriving DecidableEq, Repr

/-! ## The machine's state -/

/-- Why a step could stop with a fault. No meaning of this model faults: the block takes no exception
and the spec leaves no row without an effect (INVENTORY.md, Faults). -/
inductive Fault where
  /-- Raised by nobody; safe. -/
  | none_
deriving DecidableEq, Repr

/-- Why a command is refused. -/
inductive Refusal where
  /-- Raised by the dispatcher's arms of commands without a meaning; safe. -/
  | notModelled (mnemonic : String)
deriving DecidableEq, Repr

/-- The state of the QFM-1024H-00, as INVENTORY.md lists it. -/
@[ext]
structure State where
  crn : Crn := {}
  sup : Sup := {}
  tim : Tim := {}
  hif : Hif := {}
  flt : Flt := {}
  img : Img := {}
  sec : Sec := {}
  stg : Stg := {}
  rng : Rng := {}
  bpm : Bpm := {}
  pmu : Pmu := {}
  prt : Tab Port := []
  cel : Tab Cell := []
  frm : Frm := {}
  tbl : Tbl := {}
  flo : Flo := {}
  prg : Prg := {}
  fab : Fab := {}
  egr : Egr := {}
  /-- Counters, by kind times 2^48 plus instance times 2^16 plus index. -/
  ctr : Tab Nat := []
  /-- The shadow copy of the port and queue counters (04 R142). -/
  shadow : Tab Nat := []
  /-- What left the module, newest last. -/
  out : List Out := []
  /-- How many free values have been drawn. -/
  draw : Nat := 0
  /-- The commands that wait, first in, first out. -/
  pending : List Instr := []
deriving DecidableEq, Repr

/-- The unpowered module: every register at its Reset value (log entries 4 and 9). -/
def State.reset : State := {}

end Sys2Proof.Machine
end

