-- ==== Sys2Proof/Machine/Ops.lean ====
section
/-!
DEFINITION. The named operations over State that meanings share: fields of words, updates of one
part of the state, time, counters, token buckets, free values, interrupts, event rings and events.
-/

namespace Sys2Proof.Machine

open Sys2Proof

/-- The outcome type of every meaning. -/
abbrev Res := Host.Outcome State Fault Refusal

/-! ## Fields of words -/

/-- Bits [hi:lo] of a number. -/
def nfld (n hi lo : Nat) : Nat := n / 2 ^ lo % 2 ^ (hi + 1 - lo)

/-- Bits [hi:lo] of a word. -/
def fld (w : Word) (hi lo : Nat) : Nat := nfld w.toNat hi lo

/-- Bit n of a word. -/
def bit (w : Word) (n : Nat) : Bool := w.toNat.testBit n

/-- 1 for true. -/
def b2n (b : Bool) : Nat := if b then 1 else 0

/-- The two words of a 64-bit field, low word first (00 R7). -/
def two (n : Nat) : List Word := [wd n, wd (n / 2 ^ 32)]

/-- The 64-bit field of two words. -/
def join (lo hi : Word) : Nat := lo.toNat + 2 ^ 32 * hi.toNat

/-- A number from its signed 64-bit view. -/
def signed64 (n : Nat) : Int := if n % 2 ^ 64 < 2 ^ 63 then (n % 2 ^ 64 : Nat) else (n % 2 ^ 64 : Nat) - 2 ^ 64

/-- The 64-bit two's complement of an integer. -/
def unsigned64 (i : Int) : Nat := (i % 2 ^ 64).toNat

/-- Word i of a list, 0 beyond its end. -/
def wordAt (l : List Word) (i : Nat) : Word := l.getD i 0

/-- The four bytes of a word, least significant first (00 R7). -/
def wordBytes (w : Word) : List Byte :=
  [BitVec.ofNat 8 w.toNat, BitVec.ofNat 8 (w.toNat / 256), BitVec.ofNat 8 (w.toNat / 65536),
   BitVec.ofNat 8 (w.toNat / 16777216)]

/-- Words as bytes. -/
def wordsToBytes (l : List Word) : List Byte := l.flatMap wordBytes

/-- Bytes as words, the last one filled with zeros. -/
def bytesToWords : List Byte → List Word
  | [] => []
  | a :: b :: c :: d :: t =>
    wd (a.toNat + 256 * b.toNat + 65536 * c.toNat + 16777216 * d.toNat) :: bytesToWords t
  | [a] => [wd a.toNat]
  | [a, b] => [wd (a.toNat + 256 * b.toNat)]
  | [a, b, c] => [wd (a.toNat + 256 * b.toNat + 65536 * c.toNat)]

/-- The number that bytes in network order spell. -/
def beNat (l : List Byte) : Nat := l.foldl (fun a b => a * 256 + b.toNat) 0

/-- The n bytes of a number in network order. -/
def beBytes (n v : Nat) : List Byte := (List.range n).map fun i => BitVec.ofNat 8 (v / 256 ^ (n - 1 - i))

/-- Bytes off to off + n - 1 of a frame in network order; missing bytes read 0. -/
def beAt (l : List Byte) (off n : Nat) : Nat := (List.range n).foldl (fun a i => a * 256 + (l.getD (off + i) 0).toNat) 0

/-- Replaces bytes from an offset. -/
def putBytes (l : List Byte) (off : Nat) (b : List Byte) : List Byte := l.take off ++ b ++ l.drop (off + b.length)

/-- The number of set bits below bit n. -/
def popcount (n v : Nat) : Nat := ((List.range n).filter fun i => v.testBit i).length

/-- The set bits below bit n, lowest first. -/
def bitsOf (n v : Nat) : List Nat := (List.range n).filter fun i => v.testBit i

/-- A mask with the listed bits. -/
def maskOf (l : List Nat) : Nat := l.foldl (fun a i => a ||| 2 ^ i) 0

/-- Saturating addition. -/
def satAdd (top a b : Nat) : Nat := min top (a + b)

/-! ## Updates of one part of the state -/

def State.onCrn (f : Crn → Crn) (s : State) : State := { s with crn := f s.crn }
def State.onSup (f : Sup → Sup) (s : State) : State := { s with sup := f s.sup }
def State.onTim (f : Tim → Tim) (s : State) : State := { s with tim := f s.tim }
def State.onHif (f : Hif → Hif) (s : State) : State := { s with hif := f s.hif }
def State.onFlt (f : Flt → Flt) (s : State) : State := { s with flt := f s.flt }
def State.onImg (f : Img → Img) (s : State) : State := { s with img := f s.img }
def State.onSec (f : Sec → Sec) (s : State) : State := { s with sec := f s.sec }
def State.onStg (f : Stg → Stg) (s : State) : State := { s with stg := f s.stg }
def State.onRng (f : Rng → Rng) (s : State) : State := { s with rng := f s.rng }
def State.onBpm (f : Bpm → Bpm) (s : State) : State := { s with bpm := f s.bpm }
def State.onPmu (f : Pmu → Pmu) (s : State) : State := { s with pmu := f s.pmu }
def State.onFrm (f : Frm → Frm) (s : State) : State := { s with frm := f s.frm }
def State.onTbl (f : Tbl → Tbl) (s : State) : State := { s with tbl := f s.tbl }
def State.onFlo (f : Flo → Flo) (s : State) : State := { s with flo := f s.flo }
def State.onPrg (f : Prg → Prg) (s : State) : State := { s with prg := f s.prg }
def State.onFab (f : Fab → Fab) (s : State) : State := { s with fab := f s.fab }
def State.onEgr (f : Egr → Egr) (s : State) : State := { s with egr := f s.egr }

/-- Port p's live state. -/
def State.port (s : State) (p : Nat) : Port := tabGet {} s.prt p
/-- Cell c's live state. -/
def State.cell (s : State) (c : Nat) : Cell := tabGet {} s.cel c
/-- Ring i's context. -/
def State.ring (s : State) (i : Nat) : Ring := tabGet {} s.rng.rings i
/-- Mailbox ring pair n. -/
def State.pair (s : State) (n : Nat) : MbxPair := tabGet {} s.hif.mbx n

def State.onPort (p : Nat) (f : Port → Port) (s : State) : State := { s with prt := tabMod {} p f s.prt }
def State.onCell (c : Nat) (f : Cell → Cell) (s : State) : State := { s with cel := tabMod {} c f s.cel }
def State.onRing (i : Nat) (f : Ring → Ring) (s : State) : State :=
  s.onRng fun r => { r with rings := tabMod {} i f r.rings }
def State.onPair (n : Nat) (f : MbxPair → MbxPair) (s : State) : State :=
  s.onHif fun h => { h with mbx := tabMod {} n f h.mbx }

/-- Applies an update when a condition holds. -/
def State.onIf (b : Bool) (f : State → State) (s : State) : State := if b then f s else s

/-- Something leaves the module. -/
def State.emit (o : Out) (s : State) : State := { s with out := s.out ++ [o] }

/-- A fresh free value and the state that has drawn it (log entry 3). -/
def State.drawNat (s : State) : Nat × State := (Config.freeNat s.draw, { s with draw := s.draw + 1 })

/-- n fresh free words. -/
def State.drawWords : Nat → State → List Word × State
  | 0, s => ([], s)
  | n + 1, s =>
    let a := s.drawNat
    let b := State.drawWords n a.2
    (wd a.1 :: b.1, b.2)

/-! ## Time (13 R460 to R462) -/

/-- One nanosecond in units of the counter. -/
def nsUnit : Nat := 2 ^ 48

/-- The counter's 64-bit nanosecond view (13 R462). -/
def State.now (s : State) : Nat := s.tim.ctr / nsUnit % 2 ^ 64

/-- The counter in units of 2^-16 ns (13 R460). -/
def State.stamp (s : State) : Nat := s.tim.ctr / 2 ^ 32

/-- Nanoseconds since Cairn power-up, which no step moves. -/
def State.upNs (s : State) : Nat := s.tim.up / nsUnit

/-- Nanoseconds of a number of seconds. -/
def secs (n : Nat) : Nat := n * 10 ^ 9

/-- Whether something that began at t ns and lasts d ns has ended. -/
def State.passed (s : State) (t d : Nat) : Bool := decide (t + d ≤ s.upNs)

/-! ## Counters -/

/-- Key of a counter: kind, instance, index. -/
def ckey (kind inst idx : Nat) : Nat := kind * 2 ^ 48 + inst * 2 ^ 16 + idx

/-- A counter's value. -/
def State.count (s : State) (kind inst idx : Nat) : Nat := tabGet 0 s.ctr (ckey kind inst idx)

/-- Adds to a 64-bit counter; it wraps. -/
def State.bump (kind inst idx n : Nat) (s : State) : State :=
  { s with ctr := tabMod 0 (ckey kind inst idx) (fun v => (v + n) % 2 ^ 64) s.ctr }

/-! ## Token buckets -/

/-- Parts of one token: a rate of one token a second refills one part in one unit of time. -/
def tokenParts : Nat := 10 ^ 9 * 2 ^ 48

/-- The bucket after its refill at time t, at a rate in tokens a second. -/
def Bucket.refill (b : Bucket) (rate t : Nat) : Bucket := { used := b.used - rate * (t - b.at_), at_ := t }

/-- Whether n tokens are there, at a depth in tokens. -/
def Bucket.has (b : Bucket) (depth n : Nat) : Bool := decide (b.used + n * tokenParts ≤ depth * tokenParts)

/-- The bucket after n tokens are taken. -/
def Bucket.take (b : Bucket) (n : Nat) : Bucket := { b with used := b.used + n * tokenParts }

/-- Takes n tokens if they are there: whether they were, and the bucket. -/
def Bucket.draw (b : Bucket) (rate depth n t : Nat) : Bool × Bucket :=
  let c := b.refill rate t
  if c.has depth n then (true, c.take n) else (false, c)

/-! ## Interrupts (04 R117, R121) -/

/-- Word w of MSI-X table entry v; word 3 is the vector control, masked after reset. -/
def msixDefault (k : Nat) : Word := if k % 4 = 3 then 1 else 0

def State.msixWord (s : State) (k : Nat) : Word := tabGet (msixDefault k) s.hif.msix k

/-- Sends a vector, or leaves it pending where it is masked. Nothing leaves while the link is down. -/
def State.sendVector (v : Nat) (s : State) : State :=
  if s.crn.pcieUp then
    if bit (s.msixWord (4 * v + 3)) 0 then
      s.onHif fun h => { h with msixPend := h.msixPend ||| BitVec.ofNat 64 (2 ^ v) }
    else s.emit (.msix v)
  else s

/-- Sets bits of HIF_IRQ_STATUS and signals those that become set while enabled (04 R121). -/
def State.irq (n : Nat) (s : State) : State :=
  let m : BitVec 5 := BitVec.ofNat 5 (2 ^ n)
  let t := s.onHif fun h => { h with irq := h.irq ||| m }
  if s.hif.irq &&& m = 0 ∧ s.hif.irqEn &&& m ≠ 0 then t.sendVector 0 else t

/-- A posted write to host memory (04 R113); nothing leaves while the link is down. -/
def State.hostWrite (addr : Nat) (data : List Word) (s : State) : State :=
  if s.crn.pcieUp then s.emit (.hostWrite addr data) else s

/-- A posted write of bytes to host memory (04 R113; 05 R153). -/
def State.hostPut (addr : Nat) (data : List Byte) (s : State) : State :=
  if s.crn.pcieUp then s.emit (.hostBytes addr data) else s

/-! ## Completion and event rings (05 R169 to R172) -/

/-- Signals a written entry, now or when the holdoff ends (05 R172). -/
def State.signalRing (i : Nat) (s : State) : State :=
  let g := s.ring i
  if g.irqEn then
    if g.holdoff = 0 then s.sendVector g.vector
    else if g.quietTill ≤ s.tim.up then
      (s.sendVector g.vector).onRing i fun g => { g with quietTill := s.tim.up + g.holdoff * 1000 * nsUnit, owed := false }
    else s.onRing i fun g => { g with owed := true }
  else s

/-- Writes one entry at POS of a completion or event ring of an entry size in bytes. -/
def State.writeEntry (i size : Nat) (e : List Word) (s : State) : State :=
  let g := s.ring i
  ((s.hostWrite (g.base + size * g.pos) e).onRing i fun g =>
    { g with pos := (g.pos + 1) % 2 ^ g.log2size }).signalRing i

/-- Writes one event, which takes the ring's next SEQ (05 R157). -/
def State.writeEvent (i : Nat) (e : List Word) (s : State) : State :=
  let g := s.ring i
  (s.writeEntry i 64 (wordAt e 0 :: wd g.seq :: e.drop 1)).onRing i fun g =>
    { g with seq := if g.seq = 0xFFFFFFFF then 1 else g.seq + 1 }

/-- An event entry without its SEQ: the words of 05 R157. -/
def eventWords (kind cls src time : Nat) (body : List Word) : List Word :=
  wd (kind + cls * 2 ^ 4 + src * 2 ^ 6 + 2 ^ 31) :: two time ++ (body ++ List.replicate (12 - body.length) 0)

/-- The ring to which an event of a KIND and a CLASS goes, when it is written to one (05 R188). -/
def State.eventRing (s : State) (kind cls : Nat) : Option Nat :=
  let q := tabGet (false, 0, 0) s.rng.route kind
  if q.1 ∧ q.2.2 ≤ cls ∧ (s.ring (576 + q.2.1)).enable then some (576 + q.2.1) else none

/-- Delivers an event to its ring: it is written, queued behind a full slot, or lost (05 R171).
`own` is the OWN bit found at POS. -/
def State.pushEvent (kind cls src time : Nat) (body : List Word) (own : Bool) (s : State) : State :=
  match s.eventRing kind cls with
  | none => s
  | some i =>
    let e := eventWords kind cls src time body
    let g := s.ring i
    if g.held = [] ∧ g.lostNew = 0 ∧ own = false ∧ s.crn.pcieUp then s.writeEvent i e
    else if g.held.length < 64 then s.onRing i fun g => { g with held := g.held ++ [e] }
    else s.onRing i fun g => { g with lost := satAdd 0xFFFFFFFF g.lost 1, lostNew := g.lostNew + 1 }

/-! ## The console (02 R54) -/

/-- An ASCII line as UART_TXD carries it: the text up to its padding, then CR LF. -/
def asciiLine (text : List Byte) : List Byte := (text.takeWhile fun b => b != 0).map (fun b => b &&& 0x7F) ++ [13, 10]

/-! ## Lifetime counts (18 R591) -/

/-- Lifetime with Cairn powered, and with sensor 23 above 85.0 °C, in ns. -/
def State.lifeRun (s : State) : Nat := s.sup.runBase + s.upNs
def State.lifeHot (s : State) : Nat := s.sup.hotBase + match s.sup.hotSince with | some t => s.upNs - t | none => 0

/-- Writes the lifetime counts to flash, as each journal seal and each hour does (02 R65; 18 R591). -/
def State.saveLife (s : State) : State :=
  s.onSup fun u => { u with surgeLifeFlash := u.surgeLife, runFlash := s.lifeRun, hotFlash := s.lifeHot }

/-! ## Events and status (16 R538 to R549) -/

/-- The bit of a source. -/
def srcMask (n : Nat) : BitVec 1152 := BitVec.ofNat 1152 (2 ^ n)

/-- Sources that Cairn holds (16 R540). -/
def cairnSource (n : Nat) : Bool := decide (1128 ≤ n ∧ n ≤ 1143)

/-- Whether a persistent condition of the source is live: its CAUSE bit (16 R539). -/
def State.causeOf (s : State) (src : Nat) : Bool := s.flt.live.any fun e => e.1 == src

/-- The FLT block runs: while firmware does, and through a drain that goes on without it (14 R485; 16 R540). -/
def State.fltRuns (s : State) : Bool := s.crn.fwRuns || s.crn.draining

/-- The FLT block runs, or, for Cairn-held status, Cairn does (16 R540). -/
def State.eventSeen (s : State) (src : Nat) : Bool :=
  s.fltRuns || (cairnSource src && decide (s.crn.mod = .watch ∨ s.crn.mod = .standby ∨ s.crn.mod = .run))

/-- Master ID of the scrubbers of forwarding tables, classifier rows and DRAM (00 R18). -/
def scrubberId : Nat := 0x5B

/-- The master ID of the unit that a source belongs to (00 R18; log entry 21); for a stack group, that of its first engine (log entry 133). -/
def masterOf (src : Nat) : Nat :=
  if src < 1024 then src / 16
  else if src < 1088 then src - 1024
  else if src < 1096 then 0x40 + (src - 1088)
  else if src < 1112 then 0x80 + (src - 1096) / 4 * 32 + (src - 1096) % 4 * 8
  else if src < 1128 then 0x48 + (src - 1112)
  else if src < 1144 ∨ src = 1149 ∨ src = 1151 then 0x5A
  else 0x58

/-- Raises an event: status bits, live conditions, the first-fault record, and its KIND 2 entry's place in the queue where the kind is
routed to an enabled ring now (05 R188). -/
def State.raise (e : Ev) (s : State) : State :=
  if s.eventSeen e.src then
    let empty := !s.flt.ffr.valid
    let first := s.fltRuns && empty && decide (2 ≤ e.cls)
    let who := if e.master = 0 then masterOf e.src else e.master
    let ev : Ev := { e with first := first, time := s.now, master := who }
    s.onFlt fun f =>
      { f with
        evt := f.evt ||| srcMask e.src
        flt := if 2 ≤ e.cls then f.flt ||| srcMask e.src else f.flt
        fatal := if e.cls = 3 then f.fatal ||| srcMask e.src else f.fatal
        live :=
          if e.live then (if f.live.contains (e.src, e.reason) then f.live else f.live ++ [(e.src, e.reason)])
          else if e.ended then f.live.filter fun x => x != (e.src, e.reason)
          else f.live
        ffr :=
          if first then
            { valid := true, source := e.src, access := e.access, master := who, fatal := e.cls == 3,
              reason := e.reason, addr := e.addr, time := s.now }
          else if s.fltRuns && decide (2 ≤ e.cls) then { f.ffr with overflow := true }
          else f.ffr
        queue := if s.fltRuns && (s.eventRing 2 e.cls).isSome then f.queue ++ [ev] else f.queue }
  else s

/-- Raises an event of firmware: which core runs it is not fixed (14 R486). -/
def State.raiseByCore (e : Ev) (s : State) : State :=
  let d := s.drawNat
  d.2.raise { e with master := 0x48 + d.1 % 16 }

/-- Silicon and module revision of every module of this edition (18 R599). -/
def silRev : Nat := 1
def modRev : Nat := 1

/-- A table word identifier: TABLE in [47:40], the word index in [39:0] (16 R547). -/
def tableWord (table index : Nat) : Nat := table * 2 ^ 40 + index % 2 ^ 40

/-- Ends a live condition: the source raises an information event with ENDED = 1 (16 R538). -/
def State.endLive (src reason : Nat) (s : State) : State :=
  if s.flt.live.contains (src, reason) then s.raise { src := src, reason := reason, cls := 0, ended := true } else s

/-- Sets EVT of a source for an event of another KIND (16 R538). -/
def State.noteEvt (src : Nat) (s : State) : State := s.onFlt fun f => { f with evt := f.evt ||| srcMask src }

/-- An event of a KIND other than 2: EVT of its source, and its ring (16 R538; 05 R157). -/
def State.kindEvent (kind cls src : Nat) (body : List Word) (own : Bool) (s : State) : State :=
  (s.noteEvt src).pushEvent kind cls src s.now body own

/-- A clear of one source's EVT, FLT and FATAL (16 R544): whether it was refused. -/
def State.clearSource (n : Nat) (s : State) : Bool × State :=
  if s.causeOf n then (true, s)
  else (false, s.onFlt fun f =>
    { f with evt := f.evt &&& ~~~ srcMask n, flt := f.flt &&& ~~~ srcMask n, fatal := f.fatal &&& ~~~ srcMask n })

/-- Clears a list of sources as one write; FLT_CLR_RESULT reports it (16 R545). The refused sources, in order. -/
def State.clearSources (l : List Nat) (s : State) : List Nat × State :=
  let refused := l.filter fun n => s.causeOf n
  let t := l.foldl (fun a n => (a.clearSource n).2) s
  (refused, t.onFlt fun f => { f with clrCount := refused.length, clrFirst := refused.foldl min (refused.headD 0) })

end Sys2Proof.Machine
end

