-- ==== Sys2Proof/Machine/Crypto.lean ====
section
/-!
DEFINITION. The cryptographic functions that the manual names by their standards: SHA-384 (FIPS 180-4), HMAC and HKDF (RFC 2104,
RFC 5869), ECDSA and ECDH on P-384 (FIPS 186-5), and AES-256-GCM (FIPS 197, NIST SP 800-38D) (04 R130; 15 R509, R517, R524).
-/

namespace Sys2Proof.Machine

open Sys2Proof

/-! ## SHA-384 -/

/-- The constants of the 80 rounds, and the initial value (FIPS 180-4, 4.2.3 and 5.3.4). -/
def shaK : List (BitVec 64) :=
  ([
    0x428a2f98d728ae22, 0x7137449123ef65cd, 0xb5c0fbcfec4d3b2f, 0xe9b5dba58189dbbc,
    0x3956c25bf348b538, 0x59f111f1b605d019, 0x923f82a4af194f9b, 0xab1c5ed5da6d8118,
    0xd807aa98a3030242, 0x12835b0145706fbe, 0x243185be4ee4b28c, 0x550c7dc3d5ffb4e2,
    0x72be5d74f27b896f, 0x80deb1fe3b1696b1, 0x9bdc06a725c71235, 0xc19bf174cf692694,
    0xe49b69c19ef14ad2, 0xefbe4786384f25e3, 0x0fc19dc68b8cd5b5, 0x240ca1cc77ac9c65] : List (BitVec 64)) ++
  ([
    0x2de92c6f592b0275, 0x4a7484aa6ea6e483, 0x5cb0a9dcbd41fbd4, 0x76f988da831153b5,
    0x983e5152ee66dfab, 0xa831c66d2db43210, 0xb00327c898fb213f, 0xbf597fc7beef0ee4,
    0xc6e00bf33da88fc2, 0xd5a79147930aa725, 0x06ca6351e003826f, 0x142929670a0e6e70,
    0x27b70a8546d22ffc, 0x2e1b21385c26c926, 0x4d2c6dfc5ac42aed, 0x53380d139d95b3df,
    0x650a73548baf63de, 0x766a0abb3c77b2a8, 0x81c2c92e47edaee6, 0x92722c851482353b] : List (BitVec 64)) ++
  ([
    0xa2bfe8a14cf10364, 0xa81a664bbc423001, 0xc24b8b70d0f89791, 0xc76c51a30654be30,
    0xd192e819d6ef5218, 0xd69906245565a910, 0xf40e35855771202a, 0x106aa07032bbd1b8,
    0x19a4c116b8d2d0c8, 0x1e376c085141ab53, 0x2748774cdf8eeb99, 0x34b0bcb5e19b48a8,
    0x391c0cb3c5c95a63, 0x4ed8aa4ae3418acb, 0x5b9cca4f7763e373, 0x682e6ff3d6b2b8a3,
    0x748f82ee5defb2fc, 0x78a5636f43172f60, 0x84c87814a1f0ab72, 0x8cc702081a6439ec] : List (BitVec 64)) ++
  ([
    0x90befffa23631e28, 0xa4506cebde82bde9, 0xbef9a3f7b2c67915, 0xc67178f2e372532b,
    0xca273eceea26619c, 0xd186b8c721c0c207, 0xeada7dd6cde0eb1e, 0xf57d4f7fee6ed178,
    0x06f067aa72176fba, 0x0a637dc5a2c898a6, 0x113f9804bef90dae, 0x1b710b35131c471b,
    0x28db77f523047d84, 0x32caab7b40c72493, 0x3c9ebe0a15c9bebc, 0x431d67c49c100d4c,
    0x4cc5d4becb3e42b6, 0x597f299cfc657e2a, 0x5fcb6fab3ad6faec, 0x6c44198c4a475817] : List (BitVec 64))
def shaInit : List (BitVec 64) :=
  [0xcbbb9d5dc1059ed8, 0x629a292a367cd507, 0x9159015a3070dd17, 0x152fecd8f70e5939, 0x67332667ffc00b31, 0x8eb44a8768581511,  0xdb0c2e0d64f98fa7, 0x47b5481dbefa4fa4]

/-- The words of a block that the rounds take: 16 of the message and 64 made from them, kept newest first. -/
def shaExtend : Nat → List (BitVec 64) → List (BitVec 64)
  | 0, w => w.reverse
  | n + 1, w =>
    let x := w.getD 1 0
    let y := w.getD 14 0
    let s1 := x.rotateRight 19 ^^^ x.rotateRight 61 ^^^ x >>> 6
    let s0 := y.rotateRight 1 ^^^ y.rotateRight 8 ^^^ y >>> 7
    shaExtend n ((s1 + w.getD 6 0 + s0 + w.getD 15 0) :: w)

/-- One round on the working variables a to h. -/
def shaRound (v : List (BitVec 64)) (kw : BitVec 64) : List (BitVec 64) :=
  match v with
  | [a, b, c, d, e, f, g, h] =>
    let t1 := h + (e.rotateRight 14 ^^^ e.rotateRight 18 ^^^ e.rotateRight 41) + (e &&& f ^^^ ~~~ e &&& g) + kw
    let t2 := (a.rotateRight 28 ^^^ a.rotateRight 34 ^^^ a.rotateRight 39) + (a &&& b ^^^ a &&& c ^^^ b &&& c)
    [t1 + t2, a, b, c, d + t1, e, f, g]
  | _ => v

/-- A block of 128 bytes changes the hash value. -/
def shaBlock (h : List (BitVec 64)) (block : List Byte) : List (BitVec 64) :=
  let w := shaExtend 64 ((List.range 16).map fun i => BitVec.ofNat 64 (beAt block (8 * i) 8)).reverse
  List.zipWith (fun x y => x + y) h ((List.zipWith (fun x y => x + y) shaK w).foldl shaRound h)

/-- The message with its padding: a 1 bit, zeros, and its length in bits. -/
def shaPad (m : List Byte) : List Byte :=
  m ++ [0x80] ++ List.replicate ((239 - m.length % 128) % 128) 0 ++ beBytes 16 (8 * m.length)

def shaBlocks : Nat → List (BitVec 64) → List Byte → List (BitVec 64)
  | 0, h, _ => h
  | n + 1, h, m => shaBlocks n (shaBlock h (m.take 128)) (m.drop 128)

/-- The 48 bytes of the digest. -/
def sha384Bytes (m : List Byte) : List Byte :=
  let p := shaPad m
  ((shaBlocks (p.length / 128) shaInit p).take 6).flatMap fun x => beBytes 8 x.toNat

/-- Twelve words as a digest. -/
def toDigest (l : List Word) : Vector Word 12 := Vector.ofFn fun i => l.getD i.val 0

/-- SHA-384 (15 R509). -/
@[irreducible] def sha384 (m : List Byte) : Vector Word 12 := toDigest (bytesToWords (sha384Bytes m))

/-! ## HKDF -/

/-- HMAC-SHA-384. -/
def hmac (key m : List Byte) : List Byte :=
  let k := if 128 < key.length then sha384Bytes key else key
  let k := k ++ List.replicate (128 - k.length) 0
  sha384Bytes ((k.map fun b => b ^^^ 0x5C) ++ sha384Bytes ((k.map fun b => b ^^^ 0x36) ++ m))

/-- Blocks i, i + 1, … of the expansion. -/
def hkdfBlocks : Nat → Nat → List Byte → List Byte → List Byte → List Byte
  | 0, _, _, _, _ => []
  | n + 1, i, prk, info, last =>
    let t := hmac prk (last ++ info ++ [BitVec.ofNat 8 i])
    t ++ hkdfBlocks n (i + 1) prk info t

/-- HKDF-SHA-384: salt, ikm, info, L (15 R517, R524). -/
@[irreducible] def hkdf (salt ikm info : List Byte) (len : Nat) : List Byte :=
  (hkdfBlocks ((len + 47) / 48) 1 (hmac salt ikm) info []).take len

/-! ## P-384 -/

/-- The field's prime, the curve's coefficient b (a is -3), the base point and its order (FIPS 186-5; SP 800-186). -/
def p384 : Nat := 2 ^ 384 - 2 ^ 128 - 2 ^ 96 + 2 ^ 32 - 1
def p384B : Nat := 0xb3312fa7e23ee7e4988e056be3f82d19181d9c6efe8141120314088f5013875ac656398d8a2ed19d2a85c8edd3ec2aef
def p384G : Nat × Nat :=
  (0xaa87ca22be8b05378eb1c71ef320ad746e1d3b628ba79b9859f741e082542a385502f25dbf55296c3a545e3872760ab7,
   0x3617de4a96262c6f5d9e98bf9292dc29f8f41dbd289a147ce9da3113b5f0b8c00a60b1ce1d7e819d7a431d7c90ea0e5f)
def p384N : Nat := 0xffffffffffffffffffffffffffffffffffffffffffffffffc7634d81f4372ddf581a0db248b0a77aecec196accc52973

/-- b to the power of the low `n` bits of e, modulo m. -/
def powMod (m : Nat) : Nat → Nat → Nat → Nat
  | 0, _, _ => 1 % m
  | n + 1, b, e => powMod m n (b * b % m) (e / 2) * (if e % 2 = 1 then b else 1) % m

/-- The inverse of x modulo a prime. -/
def invMod (m x : Nat) : Nat := powMod m 384 (x % m) (m - 2)

/-- A point in Jacobian coordinates: its x is X / Z² and its y is Y / Z³; the point at infinity has Z = 0. -/
structure Point where
  x : Nat := 1
  y : Nat := 1
  z : Nat := 0
deriving DecidableEq, Repr

/-- Product and difference in the field. -/
def mulP (a b : Nat) : Nat := a * b % p384
def subP (a b : Nat) : Nat := (a + p384 - b) % p384

/-- Twice a point. -/
def pointDouble (q : Point) : Point :=
  let zz := mulP q.z q.z
  let yy := mulP q.y q.y
  let b := mulP q.x yy
  let a := mulP 3 (mulP (subP q.x zz) ((q.x + zz) % p384))
  let x := subP (mulP a a) (mulP 8 b)
  { x := x, y := subP (mulP a (subP (mulP 4 b) x)) (mulP 8 (mulP yy yy)), z := mulP 2 (mulP q.y q.z) }

/-- The sum of two points. -/
def pointAdd (p q : Point) : Point :=
  if p.z = 0 then q else if q.z = 0 then p
  else
    let zz1 := mulP p.z p.z
    let zz2 := mulP q.z q.z
    let u1 := mulP p.x zz2
    let u2 := mulP q.x zz1
    let s1 := mulP p.y (mulP q.z zz2)
    let s2 := mulP q.y (mulP p.z zz1)
    if u1 = u2 then (if s1 = s2 then pointDouble p else {})
    else
      let h := subP u2 u1
      let r := subP s2 s1
      let hh := mulP h h
      let v := mulP u1 hh
      let x := subP (subP (mulP r r) (mulP h hh)) (mulP 2 v)
      { x := x, y := subP (mulP r (subP v x)) (mulP s1 (mulP h hh)), z := mulP (mulP p.z q.z) h }

/-- `sum` and the product of the low `n` bits of k and a point. -/
def pointMul : Nat → Nat → Point → Point → Point
  | 0, _, _, sum => sum
  | n + 1, k, q, sum => pointMul n (k / 2) (pointDouble q) (if k % 2 = 1 then pointAdd sum q else sum)

/-- The product of a scalar and a point given by its coordinates. -/
def scalarMul (k : Nat) (q : Nat × Nat) : Point := pointMul 384 k { x := q.1, y := q.2, z := 1 } {}

/-- A point's coordinates; 0 and 0 for the point at infinity. -/
def Point.affine (q : Point) : Nat × Nat :=
  let i := invMod p384 q.z
  let ii := mulP i i
  (mulP q.x ii, mulP q.y (mulP i ii))

def onCurve (q : Nat × Nat) : Bool :=
  decide (q.1 < p384 ∧ q.2 < p384 ∧ q.2 * q.2 % p384 = (q.1 * q.1 * q.1 + (p384 - 3) * q.1 + p384B) % p384)

/-- The two 48-byte numbers of a key or a signature: 96 bytes, each number big-endian (15 R509). -/
def pairOfWords (w : List Word) : Nat × Nat :=
  let b := wordsToBytes w
  (beAt b 0 48, beAt b 48 48)
def wordsOfPair (q : Nat × Nat) : Vector Word 24 :=
  let w := bytesToWords (beBytes 48 q.1 ++ beBytes 48 q.2)
  Vector.ofFn fun i => w.getD i.val 0

/-- A digest as the number that is signed. -/
def digestNat (d : Vector Word 12) : Nat := beAt (wordsToBytes d.toList) 0 48

/-- ECDSA verification of a signature over a digest under a public key (15 R509). -/
@[irreducible] def ecdsaVerify (key : List Word) (d : Vector Word 12) (sig : List Word) : Bool :=
  let q := pairOfWords key
  let r := (pairOfWords sig).1
  let s := (pairOfWords sig).2
  let w := invMod p384N s
  let sum := pointAdd (scalarMul (digestNat d * w % p384N) p384G) (scalarMul (r * w % p384N) q)
  decide (1 ≤ r ∧ r < p384N ∧ 1 ≤ s ∧ s < p384N) && onCurve q && decide (sum.z ≠ 0 ∧ sum.affine.1 % p384N = r)

/-- The public key of a private scalar (15 R509). -/
@[irreducible] def publicKey (k : Nat) : Vector Word 24 := wordsOfPair (scalarMul k p384G).affine

/-- An ECDSA signature by a private scalar over a digest, with secret number k (15 R509). -/
@[irreducible] def ecdsaSign (key k : Nat) (d : Vector Word 12) : Vector Word 24 :=
  let r := (scalarMul k p384G).affine.1 % p384N
  wordsOfPair (r, invMod p384N k * (digestNat d + r * key) % p384N)

/-- The 48-byte x-coordinate of the ECDH product of a private scalar and a public key (15 R524). -/
@[irreducible] def ecdh (k : Nat) (key : List Word) : Vector Word 12 :=
  toDigest (bytesToWords (beBytes 48 (scalarMul k (pairOfWords key)).affine.1))

/-! ## AES-256-GCM -/

/-- Product of two bytes of AES's field. -/
def gf8Mul (a b : Byte) : Byte :=
  ((List.range 8).foldl (fun (x : Byte × Byte) i =>
    (if b.getLsbD i then x.1 ^^^ x.2 else x.1, if x.2.getLsbD 7 then x.2 <<< 1 ^^^ 0x1B else x.2 <<< 1)) (0, a)).1

/-- The S-box (FIPS 197, 5.1.1, figure 7). -/
def sBoxTable : List Byte :=
  ([
    0x63, 0x7c, 0x77, 0x7b, 0xf2, 0x6b, 0x6f, 0xc5, 0x30, 0x01, 0x67, 0x2b, 0xfe, 0xd7, 0xab, 0x76,
    0xca, 0x82, 0xc9, 0x7d, 0xfa, 0x59, 0x47, 0xf0, 0xad, 0xd4, 0xa2, 0xaf, 0x9c, 0xa4, 0x72, 0xc0,
    0xb7, 0xfd, 0x93, 0x26, 0x36, 0x3f, 0xf7, 0xcc, 0x34, 0xa5, 0xe5, 0xf1, 0x71, 0xd8, 0x31, 0x15,
    0x04, 0xc7, 0x23, 0xc3, 0x18, 0x96, 0x05, 0x9a, 0x07, 0x12, 0x80, 0xe2, 0xeb, 0x27, 0xb2, 0x75] : List Byte) ++
  ([
    0x09, 0x83, 0x2c, 0x1a, 0x1b, 0x6e, 0x5a, 0xa0, 0x52, 0x3b, 0xd6, 0xb3, 0x29, 0xe3, 0x2f, 0x84,
    0x53, 0xd1, 0x00, 0xed, 0x20, 0xfc, 0xb1, 0x5b, 0x6a, 0xcb, 0xbe, 0x39, 0x4a, 0x4c, 0x58, 0xcf,
    0xd0, 0xef, 0xaa, 0xfb, 0x43, 0x4d, 0x33, 0x85, 0x45, 0xf9, 0x02, 0x7f, 0x50, 0x3c, 0x9f, 0xa8,
    0x51, 0xa3, 0x40, 0x8f, 0x92, 0x9d, 0x38, 0xf5, 0xbc, 0xb6, 0xda, 0x21, 0x10, 0xff, 0xf3, 0xd2] : List Byte) ++
  ([
    0xcd, 0x0c, 0x13, 0xec, 0x5f, 0x97, 0x44, 0x17, 0xc4, 0xa7, 0x7e, 0x3d, 0x64, 0x5d, 0x19, 0x73,
    0x60, 0x81, 0x4f, 0xdc, 0x22, 0x2a, 0x90, 0x88, 0x46, 0xee, 0xb8, 0x14, 0xde, 0x5e, 0x0b, 0xdb,
    0xe0, 0x32, 0x3a, 0x0a, 0x49, 0x06, 0x24, 0x5c, 0xc2, 0xd3, 0xac, 0x62, 0x91, 0x95, 0xe4, 0x79,
    0xe7, 0xc8, 0x37, 0x6d, 0x8d, 0xd5, 0x4e, 0xa9, 0x6c, 0x56, 0xf4, 0xea, 0x65, 0x7a, 0xae, 0x08] : List Byte) ++
  ([
    0xba, 0x78, 0x25, 0x2e, 0x1c, 0xa6, 0xb4, 0xc6, 0xe8, 0xdd, 0x74, 0x1f, 0x4b, 0xbd, 0x8b, 0x8a,
    0x70, 0x3e, 0xb5, 0x66, 0x48, 0x03, 0xf6, 0x0e, 0x61, 0x35, 0x57, 0xb9, 0x86, 0xc1, 0x1d, 0x9e,
    0xe1, 0xf8, 0x98, 0x11, 0x69, 0xd9, 0x8e, 0x94, 0x9b, 0x1e, 0x87, 0xe9, 0xce, 0x55, 0x28, 0xdf,
    0x8c, 0xa1, 0x89, 0x0d, 0xbf, 0xe6, 0x42, 0x68, 0x41, 0x99, 0x2d, 0x0f, 0xb0, 0x54, 0xbb, 0x16] : List Byte)
def sBox (a : Byte) : Byte := sBoxTable.getD a.toNat 0

/-- The 60 words of the key schedule, of 4 bytes each (FIPS 197, 5.2). -/
def aesSchedule (key : List Byte) : List (List Byte) :=
  let first := (List.range 8).map fun i => (key.drop (4 * i)).take 4
  (List.range 52).foldl (fun w n =>
    let i := n + 8
    let t := w.getD (i - 1) []
    let u := if i % 8 = 0 then List.zipWith (fun x y => x ^^^ y) ((t.drop 1 ++ t.take 1).map sBox) [(1 : Byte) <<< (i / 8 - 1), 0, 0, 0]
      else if i % 8 = 4 then t.map sBox else t
    w ++ [List.zipWith (fun x y => x ^^^ y) (w.getD (i - 8) []) u]) first

/-- Round r's key is added to the state's 16 bytes. -/
def aesKey (w : List (List Byte)) (r : Nat) (s : List Byte) : List Byte :=
  List.zipWith (fun x y => x ^^^ y) s ((w.drop (4 * r)).take 4).flatten

/-- Bytes substituted and rows shifted: the state is in columns. -/
def aesShift (s : List Byte) : List Byte := (List.range 16).map fun i => sBox (s.getD ((i + 4 * (i % 4)) % 16) 0)

/-- The columns mixed. -/
def aesMix (s : List Byte) : List Byte :=
  (List.range 16).map fun i =>
    let x (k : Nat) : Byte := s.getD (i / 4 * 4 + (i + k) % 4) 0
    gf8Mul 2 (x 0) ^^^ gf8Mul 3 (x 1) ^^^ x 2 ^^^ x 3

/-- AES-256 encryption of a block (FIPS 197). -/
def aes256 (key block : List Byte) : List Byte :=
  let w := aesSchedule key
  aesKey w 14 (aesShift ((List.range 13).foldl (fun s r => aesKey w (r + 1) (aesMix (aesShift s))) (aesKey w 0 block)))

/-- Product of two blocks of GCM's field, as numbers whose most significant bit is the block's first (SP 800-38D, 6.3). -/
def gcmMul (x y : BitVec 128) : BitVec 128 :=
  ((List.range 128).foldl (fun (a : BitVec 128 × BitVec 128) i =>
    (if x.getLsbD (127 - i) then a.1 ^^^ a.2 else a.1,
     if a.2.getLsbD 0 then a.2 >>> 1 ^^^ (0xE1#128 <<< 120) else a.2 >>> 1)) (0, y)).1

/-- GHASH over blocks of 16 bytes, the last one filled with zeros. -/
def ghash (h : BitVec 128) (n : Nat) (m : List Byte) (y : BitVec 128) : BitVec 128 :=
  (List.range n).foldl (fun a i => gcmMul (a ^^^ BitVec.ofNat 128 (beAt m (16 * i) 16)) h) y

/-- The key stream on a message of bytes, from counter 2 on, and the tag's mask from counter 1. -/
def gcmStream (key iv : List Byte) (m : List Byte) : List Byte :=
  (List.range ((m.length + 15) / 16)).flatMap fun i =>
    List.zipWith (fun x y => x ^^^ y) ((m.drop (16 * i)).take 16) (aes256 key (iv ++ beBytes 4 (i + 2)))

/-- The tag of associated data and ciphertext. -/
def gcmTag (key iv aad ct : List Byte) : List Byte :=
  let h := BitVec.ofNat 128 (beAt (aes256 key (List.replicate 16 0)) 0 16)
  let a := ghash h ((aad.length + 15) / 16) aad 0
  let c := ghash h ((ct.length + 15) / 16) ct a
  let t := ghash h 1 (beBytes 8 (8 * aad.length) ++ beBytes 8 (8 * ct.length)) c
  List.zipWith (fun x y => x ^^^ y) (beBytes 16 t.toNat) (aes256 key (iv ++ beBytes 4 1))

/-- The n bytes of a number, least significant first. -/
def leBytes (n v : Nat) : List Byte := (List.range n).map fun i => BitVec.ofNat 8 (v / 256 ^ i)

/-- The nonce of 96 bits: SEQ, then the direction (04 R130). -/
def gcmNonce (seq : Nat) (toHost : Bool) : List Byte := leBytes 12 (seq % 2 ^ 64 + b2n toHost * 2 ^ 64)

/-- Encryption: key, SEQ, direction, associated data, plaintext; the ciphertext and its tag (04 R130). -/
@[irreducible] def gcmSeal (key : List Byte) (seq : Nat) (toHost : Bool) (aad plain : List Word) : List Word × Vector Word 4 :=
  let iv := gcmNonce seq toHost
  let ct := gcmStream key iv (wordsToBytes plain)
  let tag := bytesToWords (gcmTag key iv (wordsToBytes aad) ct)
  (bytesToWords ct, Vector.ofFn fun i => tag.getD i.val 0)

/-- Decryption; no value where the tag does not match (04 R130). -/
@[irreducible] def gcmOpen (key : List Byte) (seq : Nat) (toHost : Bool) (aad ct tag : List Word) : Option (List Word) :=
  let iv := gcmNonce seq toHost
  if bytesToWords (gcmTag key iv (wordsToBytes aad) (wordsToBytes ct)) = tag then some (bytesToWords (gcmStream key iv (wordsToBytes ct))) else none

end Sys2Proof.Machine
end

