-- ==== Sys2Proof/Machine/Pmu.lean ====
section
/-!
DEFINITION. The PMU windows, counters and event filters (17 R561 to R567, R574 to R576), and the wake of a cell.
-/

namespace Sys2Proof.Machine

open Sys2Proof

/-! ## Blocks and windows (17 R561, R575, R577) -/

/-- Programmable counters of a block: cells 0 to 63, ridges from 64, engines from 72, the GCC 200. -/
def pmuCounters (b : Nat) : Nat := if b < 64 then 8 else if b < 72 then 6 else if b < 200 then 4 else 8

/-- The block and the word offset of a BAR0 offset in the PMU range. -/
def pmuWindow (off : Nat) : Option (Nat × Nat) :=
  if 0x50000 ≤ off ∧ off < 0x58000 then some ((off - 0x50000) / 0x200, (off - 0x50000) % 0x200 / 4)
  else if 0x58000 ≤ off ∧ off < 0x59000 then some (64 + (off - 0x58000) / 0x200, (off - 0x58000) % 0x200 / 4)
  else if 0x60000 ≤ off ∧ off < 0x68000 then some (72 + (off - 0x60000) / 0x100, (off - 0x60000) % 0x100 / 4)
  else if 0x70000 ≤ off ∧ off < 0x70200 then some (200, (off - 0x70000) / 4)
  else none

/-- Start of a block's window. -/
def pmuBase (b : Nat) : Nat :=
  if b < 64 then 0x50000 + 0x200 * b else if b < 72 then 0x58000 + 0x200 * (b - 64)
  else if b < 200 then 0x60000 + 0x100 * (b - 72) else 0x70000

/-- What a word of a window is. -/
inductive PmuReg where
  | ctrl | ovf | cntLo (item : Nat) | cntHi (item : Nat) | plain (mask : Nat) | none_
deriving DecidableEq, Repr

/-- The register at a word offset of a block's window (17 R575, R576). -/
def pmuReg (b w : Nat) : PmuReg :=
  if w = 0 then .ctrl else if w = 1 then .ovf else if w = 4 then .cntLo 0 else if w = 5 then .cntHi 0
  else if w < 8 then .none_
  else
    let k := (w - 8) / 8
    if pmuCounters b ≤ k then .none_
    else match (w - 8) % 8 with
      | 0 => .plain 0x1FF
      | 1 => .plain 0x1FFFFFFF
      | 6 => .cntLo (k + 1)
      | 7 => .cntHi (k + 1)
      | _ => .plain 0xFFFFFFFF

/-- OVF bit of an item: the cycle counter's is bit 8. -/
def ovfBit (item : Nat) : Nat := if item = 0 then 8 else item - 1

def State.pmuCnt (s : State) (b item : Nat) : Nat := tabGet 0 s.pmu.cnt (16 * b + item)
def State.pmuOvf (s : State) (b : Nat) : Nat := tabGet 0 s.pmu.ovf b
def State.pmuWord (s : State) (b w : Nat) : Nat := tabGet 0 s.pmu.regs (128 * b + w)

/-- The engines are powered: in Run, until a reset has begun there (01 R28; 03 R95; 17 R564). -/
def State.enginesPowered (s : State) : Bool :=
  decide (s.crn.mod = .run) &&
  (s.crn.draining || (match s.crn.trans with | some t => (match t.kind with | .reset _ => false | _ => true) | none => true))

/-- The block is powered: cells by their state, engines in Run (17 R564). -/
def State.pmuPowered (s : State) (b : Nat) : Bool :=
  if b < 64 then decide ((s.cell b).st ≠ .off)
  else if 72 ≤ b ∧ b < 200 then s.enginesPowered else true

/-- Whether the block's clock runs (17 R561). -/
def State.pmuClock (s : State) (b : Nat) : Bool :=
  if b < 64 then decide ((s.cell b).st = .run) else s.pmuPowered b && s.crn.fwRuns

/-- A read of a word of a window (17 R564). -/
def State.pmuRead (s : State) (b w : Nat) : Word :=
  if !s.pmuPowered b then 0
  else match pmuReg b w with
    | .ovf => wd (s.pmuOvf b)
    | .cntLo i => wd (s.pmuCnt b i)
    | .cntHi i => wd (s.pmuCnt b i / 2 ^ 32)
    | .none_ => 0
    | _ => wd (s.pmuWord b w)

/-- Adds to a counter of 48 bits; a wrap sets its OVF bit (17 R561). -/
def State.pmuAdd (b item n : Nat) (s : State) : State :=
  let v := s.pmuCnt b item + n
  s.onPmu fun p => { p with
    cnt := tabPut 0 (16 * b + item) (v % 2 ^ 48) p.cnt
    ovf := if 2 ^ 48 ≤ v then tabMod 0 b (fun o => o ||| 2 ^ ovfBit item) p.ovf else p.ovf }

/-- A write that has reached its block (17 R562, R576). -/
def State.pmuStore (master b w : Nat) (v : Word) (s : State) : State :=
  match pmuReg b w with
  | .ctrl => s.onPmu fun p => { p with regs := tabPut 0 (128 * b + w) (fld v 0 0) p.regs }
  | .ovf =>
    let clear (o : Nat) : Nat :=
      (List.range 9).foldl (fun a i => if v.toNat.testBit i ∧ a.testBit i then a - 2 ^ i else a) o
    s.onPmu fun p => { p with ovf := tabMod 0 b clear p.ovf }
  | .cntLo _ => s.onPmu fun p => { p with low := tabPut 0 (master * 2 ^ 22 + pmuBase b + 4 * w) v p.low }
  | .cntHi i =>
    let low := tabGet 0 s.pmu.low (master * 2 ^ 22 + pmuBase b + 4 * (w - 1))
    s.onPmu fun p => { p with cnt := tabPut 0 (16 * b + i) (join low v % 2 ^ 48) p.cnt }
  | .plain m => s.onPmu fun p => { p with regs := tabPut 0 (128 * b + w) (v.toNat &&& m) p.regs }
  | .none_ => s

/-- A write to a window: ignored while the block is unpowered, held while its cell slumbers (17 R564). -/
def State.pmuWrite (master b w : Nat) (v : Word) (s : State) : State :=
  if !s.pmuPowered b then s
  else if b < 64 ∧ ((s.cell b).st = .slumber ∨ (s.cell b).st = .waking true) then
    s.onPmu fun p => { p with held := p.held ++ [(b, master, w, v)] }
  else s.pmuStore master b w v

/-- Applies the writes held for a cell that has reached Run (17 R564). -/
def State.pmuRelease (c : Nat) (s : State) : State :=
  let l := s.pmu.held.filter fun e => e.1 == c
  l.foldl (fun a e => a.pmuStore e.2.1 c e.2.2.1 e.2.2.2) (s.onPmu fun p => { p with held := p.held.filter fun e => e.1 != c })

/-! ## Events (17 R565) -/

/-- What an occurrence carries for the filters that its event supports. -/
structure Occ where
  priv : Option Nat := none
  master : Option Nat := none
  cls : Option Nat := none
  addr : Option Nat := none
deriving DecidableEq, Repr

/-- PRIV of what a frame brings about: 1 of a host frame, 3 of a line frame (17 R565). -/
def Frame.priv (x : Frame) : Nat := if x.host.isSome then 1 else 3

/-- Whether an occurrence passes the filters of counter k (17 R565). -/
def State.pmuPass (s : State) (b k : Nat) (o : Occ) : Bool :=
  let m := s.pmuWord b (9 + 8 * k)
  let f (hi lo : Nat) : Nat := nfld m hi lo
  (match o.priv with | some p => f 1 0 == 0 || f 1 0 == p | none => true) &&
  (match o.master with | some x => f 2 2 == 0 || decide (x &&& f 18 11 = f 10 3 &&& f 18 11) | none => true) &&
  (match o.cls with | some c => f 19 19 == 0 || m.testBit (20 + c) | none => true) &&
  (match o.addr with
   | some a =>
     f 28 28 == 0 ||
     (decide (s.pmuWord b (10 + 8 * k) + 2 ^ 32 * s.pmuWord b (11 + 8 * k) ≤ a) &&
      decide (a ≤ s.pmuWord b (12 + 8 * k) + 2 ^ 32 * s.pmuWord b (13 + 8 * k)))
   | none => true)

/-- Counts n occurrences of an event in a block's enabled counters (17 R565). -/
def State.pmuEvent (b ev n : Nat) (o : Occ) (s : State) : State :=
  if s.pmu.regs = [] then s
  else (List.range (pmuCounters b)).foldl (fun a k =>
    let sel := a.pmuWord b (8 + 8 * k)
    if nfld sel 7 0 = ev ∧ sel.testBit 8 ∧ a.pmuPass b k o then a.pmuAdd b (k + 1) n else a) s

/-- Counts an event's occurrences at each address from lo to hi (17 R565). -/
def State.pmuSpan (b ev lo hi : Nat) (s : State) : State :=
  if s.pmu.regs = [] then s
  else (List.range (pmuCounters b)).foldl (fun a k =>
    let sel := a.pmuWord b (8 + 8 * k)
    let limited := nfld (a.pmuWord b (9 + 8 * k)) 28 28 == 1
    let from_ := if limited then max lo (a.pmuWord b (10 + 8 * k) + 2 ^ 32 * a.pmuWord b (11 + 8 * k)) else lo
    let to_ := if limited then min hi (a.pmuWord b (12 + 8 * k) + 2 ^ 32 * a.pmuWord b (13 + 8 * k)) else hi
    if nfld sel 7 0 = ev ∧ sel.testBit 8 then a.pmuAdd b (k + 1) (to_ + 1 - from_) else a) s

/-- Counts an open number of occurrences of an event that the manual names and gives no rule to count by (17 R567; log entry 147). -/
def State.pmuOpen (b ev : Nat) (s : State) : State :=
  if s.pmu.regs = [] then s
  else (List.range (pmuCounters b)).foldl (fun a k =>
    let sel := a.pmuWord b (8 + 8 * k)
    if nfld sel 7 0 = ev ∧ sel.testBit 8 then
      let d := a.drawNat
      d.2.pmuAdd b (k + 1) (d.1 % 2 ^ 48)
    else a) s

/-- The address of an occurrence that has no record: it lies in no range (log entry 127). -/
def noHandle : Nat := 2 ^ 64

/-- An occurrence that firmware brings about for a mailbox command: which core runs it is not fixed (14 R486; 17 R565). -/
def State.pmuFirmware (b ev : Nat) (o : Occ) (s : State) : State :=
  if s.pmu.regs = [] then s
  else
    let d := s.drawNat
    d.2.pmuEvent b ev 1 { o with priv := some 1, master := some (0x48 + d.1 % 16) }

/-- A key takes a slot of its cell's back end; a cell none of whose registers is set keeps no ledger (17 R566, R569). -/
def State.pmuKey (c : Nat) (host : Bool) (tc : Nat) (s : State) : State :=
  if !(s.pmu.regs.any fun e => e.1 / 128 == c) then s
  else (s.pmuEvent c 8 1 { priv := some (if host then 1 else 3), cls := some tc }).onPmu fun p => { p with
    keys := tabMod 0 c (fun n => n + 1) p.keys }

/-! ## Wakes (03 R89, R90) -/

/-- A wake trigger reaches a cell (03 R89, R90). -/
def State.startWake (c : Nat) (s : State) : State :=
  match (s.cell c).st with
  | .doze => (s.onCell c fun x => { x with st := .waking false, wakeAt := s.upNs }).pmuEvent c 0x0F 1 {}
  | .slumber => (s.onCell c fun x => { x with st := .waking true, wakeAt := s.upNs }).pmuEvent c 0x0F 1 {}
  | _ => s

end Sys2Proof.Machine
end

