-- ==== Sys2Proof/Machine/Mailbox.lean ====
section
/-!
DEFINITION. The mailbox: the request as its transport gives it, the checks common to every command in
the order of 04 R123, the room of a response (04 R601), and the response on each transport.
-/

namespace Sys2Proof

open Machine

/-! ## The request -/

/-- Words that EXT_CMD's payload counts, and RSP_CAP (04 R129). -/
def Req.extWords (r : Req) : Nat := fld (wordAt r.words 2) 18 0
def Req.rspCap (r : Req) : Nat := fld (wordAt r.words 6) 18 0
def Req.rspAddr (r : Req) : Nat := join (wordAt r.words 4) (wordAt r.words 5)

/-- Payload words that the message carries (04 R129, log entry 12). -/
def Req.size (r : Req) : Nat :=
  if r.extCmd then r.extWords else if r.extRsp then r.length - 12 else r.length - 4

/-- The payload. -/
def Req.payload (r : Req) : List Word :=
  (if r.extCmd then r.mem else if r.extRsp then r.words.drop 8 else r.words).take r.size

/-- The word that a command's definition numbers k; a missing word reads 0 (log entry 12). -/
def Req.w (r : Req) (k : Nat) : Word := wordAt r.payload (k - 4)

/-- A field of word k. -/
def Req.f (r : Req) (k hi lo : Nat) : Nat := fld (r.w k) hi lo

/-- The 64-bit field of words k and k + 1. -/
def Req.f64 (r : Req) (k : Nat) : Nat := join (r.w k) (r.w (k + 1))

/-- Whether any of the listed bits [hi:lo] of a word is nonzero: reserved fields must be 0 (00 R13). -/
def Req.rsv (r : Req) (l : List (Nat × Nat × Nat)) : Bool := l.any fun x => r.f x.1 x.2.1 x.2.2 != 0

/-- The transport's longest message (04 R122, R130). -/
def viaMax : Via → Nat
  | .remote _ => 352
  | _ => 64

/-- Room for a response payload in words (04 R601). -/
def Req.room (r : Req) : Nat :=
  if r.extRsp then r.rspCap else match r.via with | .remote _ => 348 | _ => 60

/-- A malformed header or extension block (04 R122, R126, R129, R130). -/
def Req.malformed (r : Req) : Bool :=
  r.hdrReserved || decide (r.length < 4) || decide (viaMax r.via < r.length) ||
  ((r.extCmd || r.extRsp) &&
    (match r.via with
     | .ring _ =>
       decide (r.length < 12) ||
       (if r.extCmd then
          decide (r.length ≠ 12) || decide (r.extWords = 0) || decide (262144 < r.extWords) ||
          decide (fld (wordAt r.words 2) 31 19 ≠ 0) || decide (wordAt r.words 3 ≠ 0) || decide (fld (wordAt r.words 0) 2 0 ≠ 0)
        else (r.words.take 4).any fun w => w != 0) ||
       (if r.extRsp then
          decide (r.rspCap = 0) || decide (262144 < r.rspCap) || decide (fld (wordAt r.words 6) 31 19 ≠ 0) ||
          decide (wordAt r.words 7 ≠ 0) || decide (fld (wordAt r.words 4) 2 0 ≠ 0)
        else ((r.words.drop 4).take 4).any fun w => w != 0)
     | _ => true))

/-- Words of the response slot after the header, for a payload and a status (04 R129): the words written to RSP_ADDR, or those
that the room of 04 R601 lacks. -/
def Req.slotPayload (r : Req) (status : Nat) (ws : List Word) : List Word :=
  if r.extRsp && !(status == 6 && ws != []) then [wd ws.length] else ws

end Sys2Proof

namespace Sys2Proof.Machine

open Sys2Proof

/-! ## The message that a transport holds -/

/-- A request from the words of its message (04 R122). -/
def decodeReq (via : Via) (w : List Word) : Req :=
  { via := via
    extCmd := bit (wordAt w 0) 16
    extRsp := bit (wordAt w 0) 17
    hdrReserved := fld (wordAt w 0) 31 18 != 0 || fld (wordAt w 3) 31 16 != 0
    tag := fld (wordAt w 1) 15 0
    length := fld (wordAt w 1) 31 16
    session := (wordAt w 2).toNat
    epoch := fld (wordAt w 3) 15 0
    words := w.drop 4 }

/-- The command words that a boot mailbox or remote message holds: opcode and request. -/
def State.heldMessage (s : State) (via : Via) : List Word :=
  match via with
  | .boot => s.hif.bmbMsg
  | .ring _ => []
  | .remote c => ((s.hif.channels.find? fun h => h.id == c).map fun h => h.msg).getD []

/-- Whether firmware runs and the transport has taken a message that waits for its response. -/
def State.taken (s : State) (via : Via) : Bool :=
  s.crn.fwRuns && (match via with
   | .boot => s.hif.bmbBusy
   | .ring n => (s.pair n).exec.isSome
   | .remote c => s.hif.channels.any fun h => h.id == c && h.exec.isSome) &&
  !(s.hif.deferred.any fun d => decide (d.req.via = via) && !d.lost) &&
  !(s.flo.fwOps.any fun d => decide (d.req.via = via) && !d.lost)

/-- When the module took the message that a transport executes (04 R125). -/
def State.takenAt (s : State) (via : Via) : Nat :=
  match via with
  | .boot => s.hif.bmbAt
  | .ring n => (s.pair n).takenAt
  | .remote c => ((s.hif.channels.find? fun h => h.id == c).map fun h => h.takenAt).getD 0

/-- The request that a row of opcode `op` executes: the boot mailbox and a remote channel hold the
message in the state; a ring pair's message is the one the row carries (04 R126, R127, R130). -/
def State.request (s : State) (op : Nat) (r : Req) : Option Req :=
  if s.taken r.via then
    match r.via with
    | .ring _ => some r
    | v =>
      let w := s.heldMessage v
      if fld (wordAt w 0) 15 0 = op then some (decodeReq v w) else none
  else none

/-! ## Status (04 R123) -/

abbrev stOk : Nat := 0
abbrev stInvalid : Nat := 1
abbrev stBusy : Nat := 2
abbrev stRefused : Nat := 3
abbrev stNotFound : Nat := 4
abbrev stExists : Nat := 5
abbrev stNoSpace : Nat := 6
abbrev stLocked : Nat := 7
abbrev stPartial : Nat := 9
abbrev stStale : Nat := 0xA
abbrev stBl : Nat := 0xB
abbrev stAuth : Nat := 0xC
abbrev stPoison : Nat := 0xD

/-- What a command's definition adds to the checks that come before its own statuses. -/
structure Chk where
  /-- INVALID under the command's definition. -/
  bad : Bool := false
  bl : Bool := false
  /-- The command is one that a FATAL bit locks (16 R546). -/
  locks : Bool := false
  busy : Bool := false
  /-- Payload words, where the definition gives a size that the payload must have. -/
  size : Option Nat := none
  /-- Payload words that EXT_WORDS must agree with (04 R129). -/
  ext : Option Nat := none
  /-- The command opens a session, so none is named. -/
  opens : Bool := false

/-- Whether the named session is open on this transport (04 R134). -/
def State.sessionOpen (s : State) (r : Req) : Bool :=
  s.hif.sessions.any fun e =>
    e.id == r.session && decide (e.channel = match r.via with | .remote c => some c | _ => none)

/-- The payload has another size than the definition gives (00 R12; 04 R129). -/
def Chk.wrongSize (k : Chk) (r : Req) : Bool :=
  (k.size.any fun n => decide (r.size ≠ n)) || (r.extCmd && k.ext.any fun n => decide (r.size ≠ n))

/-- The first status of 04 R123 that the common checks and the command's own give, 0 for none. -/
def State.preStatus (s : State) (r : Req) (k : Chk) : Nat :=
  if !k.opens && !s.sessionOpen r then stAuth
  else if r.malformed || k.bad || decide (k.opens ∧ r.session ≠ 0) || k.wrongSize r then stInvalid
  else if k.bl then stBl
  else if k.locks && decide (s.flt.fatal ≠ 0) then stLocked
  else if r.epoch ≠ 0 ∧ r.epoch ≠ s.hif.epoch then stStale
  else if k.busy then stBusy
  else stOk

/-- A command's own answer. -/
structure Ans where
  status : Nat := 0
  /-- Response payload from word 4. -/
  words : List Word := []
  /-- The state it leaves when it answers OK or PARTIAL, or when `keep` holds. -/
  st : State
  /-- The answer comes later, with this many payload words. -/
  wait : Option DeferKind := none
  need : Nat := 0
  /-- The engines answer later. -/
  hold : Bool := false
  keep : Bool := false

/-! ## The response -/

/-- The response message; `own` is bit 31 of word 0 (04 R122). -/
def responseWords (op : Nat) (r : Req) (status epoch : Nat) (own : Bool) (ws : List Word) : List Word :=
  let p := r.slotPayload status ws
  [wd (status + b2n r.extCmd * 2 ^ 16 + b2n r.extRsp * 2 ^ 17 + b2n own * 2 ^ 31),
   wd (r.tag + (4 + p.length) * 2 ^ 16), wd r.session, wd (epoch + op * 2 ^ 16)] ++ p

/-- Bytes of words for an associated-data block of a datagram: words 0 to 3 (04 R130). -/
def datagramHeader (ch seq : Nat) : List Word := [wd 0x201, wd ch] ++ two seq

/-- A datagram that carries a mailbox message to a channel (04 R130). -/
def Channel.seal (h : Channel) (msg : List Word) : List Word :=
  let seq := h.sent + 1
  let aad := datagramHeader h.id seq
  let c := gcmSeal h.keyOut seq true aad msg
  aad ++ c.1 ++ c.2.toList

/-- Writes a ring pair's response, with the epoch of now, into its slot, after its payload where EXT_RSP sends that elsewhere, and
signals it (04 R122, R127, R129). -/
def State.writeResponse (n : Nat) (e : HeldRsp) (s : State) : State :=
  let g := s.pair n
  let m := responseWords e.op e.req e.status s.hif.epoch true e.words
  let apart := e.req.extRsp && e.words != [] && e.status != 6
  (((s.onIf apart fun a => a.hostWrite e.req.rspAddr e.words).hostWrite (g.rspBase + 256 * e.slot) m).sendVector g.vector).onPair n fun g =>
    { g with exec := none, held := none, rspStall := false }

/-- Puts words into the boot mailbox's response registers. -/
def putWords (base : Nat) : List Word → Tab Word → Tab Word
  | [], t => t
  | w :: l, t => putWords (base + 1) l (tabPut 0 base w t)

/-- The response is kept for the last 64 accepted SEQ values only (04 R131). -/
def keepLast (l : List (Nat × Option (List Word))) : List (Nat × Option (List Word)) :=
  l.take 64 ++ (l.drop 64).map fun e => (e.1, none)

/-- The GCC counts a response that is written (17 R567). -/
def State.countDone (s : State) : State := s.pmuEvent 200 0x06 1 { priv := some 1 }

/-- A response is written at once: one whose slot the host holds waits, and one whose transport has gone is lost (04 R114, R128). -/
def State.answersNow (s : State) (r : Req) : Bool :=
  match r.via with
  | .boot => true
  | .ring n => (s.pair n).exec.isSome && !r.rspOwn
  | .remote c => s.hif.channels.any fun h => h.id == c

/-- Gives the response on its transport (04 R126 to R131). -/
def State.respond (op : Nat) (r : Req) (status : Nat) (ws : List Word) (s0 : State) : State :=
  let s := s0.onIf (s0.answersNow r) State.countDone
  match r.via with
  | .boot =>
    (s.onHif fun h =>
      { h with bmbRsp := putWords 0 (responseWords op r status h.epoch false ws) h.bmbRsp
               bmbDone := true, bmbBusy := false }).irq 0
  | .ring n =>
    let g := s.pair n
    match g.exec with
    | none => s
    | some e =>
    let h : HeldRsp := { slot := e, op := op, req := r, status := status, words := ws }
    if r.rspOwn then
      ((s.onPair n fun g => { g with exec := none, held := some h, rspStall := true }).irq 4).raise
        { src := 1146, reason := 2, cls := 0, detail := n }
    else s.writeResponse n h
  | .remote c =>
    match s.hif.channels.find? fun h => h.id == c with
    | none => s
    | some h =>
      let d := h.seal (responseWords op r status s.hif.epoch false ws)
      (s.onHif fun hif => { hif with
        channels := updWhere (fun x => x.id == c) (fun x =>
          { x with sent := x.sent + 1, exec := x.waiting.head?.map fun m => m.1, takenAt := s.now
                   msg := (x.waiting.head?.map fun m => m.2).getD [], waiting := x.waiting.drop 1
                   kept := keepLast (updWhere (fun e => decide (some e.1 = x.exec)) (fun e => (e.1, some d)) x.kept) })
          hif.channels }).emit (.datagram c d)

/-- Ends a command with its own answer: the room of 04 R601, then the response or the wait for it. -/
def State.finish (op : Nat) (r : Req) (s : State) (a : Ans) : State :=
  if a.status = stOk ∨ a.status = stPartial then
    match a.wait with
    | some k =>
      if r.room < a.need then s.respond op r stNoSpace [wd a.need]
      else a.st.onHif fun h => { h with deferred := h.deferred ++ [{ kind := k, op := op, req := r }] }
    | none =>
      if a.hold then a.st
      else if r.room < a.words.length then s.respond op r stNoSpace [wd a.words.length]
      else a.st.respond op r a.status a.words
  else (if a.keep then a.st else s).respond op r a.status a.words

/-- The execution of a mailbox command: it acts only on a message that its transport has taken. -/
def mailbox (op : Nat) (r : Req) (s : State) (chk : Req → Chk) (run : Req → Ans) : Res :=
  .next (match s.request op r with
    | none => s
    | some q =>
      let st := s.preStatus q (chk q)
      if st = stOk then s.finish op q (run q) else s.respond op q st [])

/-- As `mailbox`, and what follows the response when the command answers OK. -/
def mailboxThen (op : Nat) (r : Req) (s : State) (chk : Req → Chk) (run : Req → Ans) (after : Req → State → State) : Res :=
  .next (match s.request op r with
    | none => s
    | some q =>
      let st := s.preStatus q (chk q)
      if st = stOk then
        let a := run q
        let t := s.finish op q a
        if a.status = stOk then after q t else t
      else s.respond op q st [])

/-! ## The shadow copy (04 R142) -/

/-- A snapshot is incomplete. -/
def State.snapping (s : State) : Bool := s.hif.deferred.any fun d => decide (d.kind = .snapshot)

/-- Counters that a snapshot copies: those of ports and of queues (04 R142; 12 R452). -/
def shadowed (k : Nat) : Bool := decide (k / 2 ^ 48 = 1 ∨ k / 2 ^ 48 = 2)

/-- Once a snapshot's instant has come, its copies hold the increments made before it (04 R142). -/
def State.snapTake (s : State) : State :=
  if s.snapping && s.hif.snapCopy.isNone && decide (s.hif.snapAt ≤ s.now) then
    s.onHif fun h => { h with snapCopy := some (tabKeep shadowed s.ctr) }
  else s

/-! ## Answers that come later -/

/-- The response slots' OWN bits, as the running command finds them (04 R128). -/
def State.sees (slots : BitVec 8) (s : State) : State := s.onHif fun h => { h with slotOwn := slots }

/-- A request whose response is given now, after its command: OWN of its slot is read now (04 R128). -/
def State.late (s : State) (r : Req) : Req :=
  match r.via with
  | .ring n => { r with rspOwn := s.hif.slotOwn.getLsbD n }
  | _ => r

/-- Answers every deferred command of a kind whose response can still be written (04 R114). -/
def State.answerDeferred (p : DeferKind → Bool) (ws : DeferKind → List Word) (s : State) : State :=
  let l := s.hif.deferred.filter fun d => p d.kind && !d.lost
  l.foldl (fun a d => a.respond d.op (s.late d.req) stOk (ws d.kind))
    (s.onHif fun h => { h with deferred := h.deferred.filter fun d => !p d.kind })

end Sys2Proof.Machine
end

