-- ==== Sys2Proof/Machine/Conf.lean ====
section
/-!
DEFINITION. Configuration: objects by opcode and name, staging (04 R137), the journal (14 R497 to R501),
CONFIG_DIGEST (15 R518), and the publish of an epoch (04 R137 to R141).
-/

namespace Sys2Proof.Machine

open Sys2Proof

/-! ## Objects -/

/-- Key of the object that opcode `op` sets. -/
def cfgKey (op obj : Nat) : Nat := op * 2 ^ 200 + obj

def cfgOp (key : Nat) : Nat := key / 2 ^ 200
def cfgObj (key : Nat) : Nat := key % 2 ^ 200

/-- The payload words that set an object, when the configuration holds it. -/
def cfgFind (c : Cfg) (op obj : Nat) : Option (List Word) := tabFind c (cfgKey op obj)

/-- The payload words that set an object; its cold-start words where it is absent. -/
def cfgWords (c : Cfg) (op obj : Nat) (d : List Word) : List Word := (cfgFind c op obj).getD d

/-- The objects of one opcode: name and payload words, in ascending order. -/
def cfgAll (c : Cfg) (op : Nat) : List (Nat × List Word) :=
  (c.filter fun e => cfgOp e.1 == op).map fun e => (cfgObj e.1, e.2)

/-- Sets an object; one whose words equal its cold-start words is not held (14 R501). -/
def cfgSet (op obj : Nat) (ws d : List Word) (c : Cfg) : Cfg := tabPut d (cfgKey op obj) ws c

def cfgDel (op obj : Nat) (c : Cfg) : Cfg := tabDel (cfgKey op obj) c

/-- Class J objects: all but the punt map, which is class V (05 R166; 14 R501). -/
def isJ (key : Nat) : Bool := cfgOp key != 0x0202

/-- The configuration that cell c applies: CURRENT where its APPLIED bit is set, else the one before (04 R139, R141). -/
def State.cellCfg (s : State) (c : Nat) : Cfg := if s.hif.applied.getLsbD c then s.stg.cur else s.stg.prev

/-! ## Staging -/

/-- The normalized form of an accepted command (14 R500). -/
def normalized (op : Nat) (r : Req) : List Word :=
  [wd op, wd ((4 + r.size) * 2 ^ 16), 0, 0] ++ (r.payload ++ List.replicate (r.size - r.payload.length) 0)

/-- Stages a change of the configuration that an accepted command makes (04 R137). -/
def State.stageBy (op : Nat) (r : Req) (f : Cfg → Cfg) (s : State) : State :=
  s.onStg fun g => { g with staged := f g.staged, flag := true, log := g.log ++ [normalized op r] }

/-! ## Journal -/

/-- Whether a staged command changes a class J setting (05 R166; 14 R497). -/
def classJ (cmd : List Word) : Bool := fld (wordAt cmd 0) 15 0 != 0x0202

/-- A TYPE 1 record of a command's words, and the TYPE 2 record of a publish (14 R500). -/
def commandRecord (epoch : Nat) (cmd : List Word) : List Word :=
  wd (cmd.length + 2 + 2 ^ 16) :: wd epoch :: cmd

def commitRecord (epoch : Nat) : List Word := [wd (2 + 2 * 2 ^ 16), wd epoch]

/-- The command that sets an object, as a checkpoint writes it (14 R501). -/
def objectCommand (e : Nat × List Word) : List Word :=
  [wd (cfgOp e.1), wd ((4 + e.2.length) * 2 ^ 16), 0, 0] ++ e.2

/-- All class J settings: the staged ones of a configuration and the immediate ones. -/
def wholeJ (cur imm : Cfg) : Cfg := imm.foldl (fun a e => tabIns e.1 e.2 a) (tabKeep isJ cur)

/-- The place of an object among those of its opcode: the fields of its payload words that name it, as one number with the first word most
significant, then its cell, ridge or place (14 R501; log entry 122). Where the number of the object has another order, its fields are those
of 07 R256, 08 R296 and R299, and 12 R456. -/
def nameOrder (op obj : Nat) : Nat :=
  if op = 0x0410 then (obj / 64 % 1024 * 16 + obj / 64 / 1024) * 64 + obj % 64
  else if op = 0x0510 then
    let mac := obj / 64 % 2 ^ 48
    (obj / 64 / 2 ^ 48 * 2 ^ 64 + mac % 2 ^ 32 * 2 ^ 32 + mac / 2 ^ 32) * 64 + obj % 64
  else if op = 0x0520 then
    let a := obj / 128 % 2 ^ 128
    let n := obj / 128 / 2 ^ 128
    let w (i : Nat) : Nat := a / 2 ^ (32 * i) % 2 ^ 32
    (((((n / 512 + n / 256 % 2 * 2 ^ 4 + n % 256 * 2 ^ 5) * 2 ^ 32 + w 0) * 2 ^ 32 + w 1) * 2 ^ 32 + w 2) * 2 ^ 32 + w 3) * 128 + obj % 128
  else if op = 0x0902 then obj % 8 * 1024 + obj / 8
  else obj

/-- The records of the canonical checkpoint, in its order (14 R501). -/
def checkpointRecords (cur imm : Cfg) : List (List Word) :=
  let l := (wholeJ cur imm).foldl (fun (t : Tab (Nat × List Word)) e => tabIns (cfgKey (cfgOp e.1) (nameOrder (cfgOp e.1) (cfgObj e.1))) e t) []
  l.map (fun e => commandRecord 0 (objectCommand e.2)) ++ [commitRecord 0]

/-- CONFIG_DIGEST (15 R518). -/
def digestOf (cur imm : Cfg) : List Word :=
  (sha384 (wordsToBytes (checkpointRecords cur imm).flatten)).toList

/-- Words of a segment: header, records and trailer (14 R499). -/
def Segment.words (g : Segment) : Nat := 32 + g.records.flatten.length

/-- KiB that a segment occupies: whole 4 KiB blocks (14 R499). -/
def Segment.kib (g : Segment) : Nat := (4 * g.words + 4095) / 4096 * 4

/-- Journal area in use, KiB (14 R507). -/
def State.journalUsed (s : State) : Nat :=
  (s.img.segs.map Segment.kib).sum + (match s.img.open_ with | some g => g.kib | none => 0)

/-- Blocks of 4 KiB that a segment occupies, and those of a bank's half of the journal area, 256 MiB (14 R493, R499). -/
def Segment.blocks (g : Segment) : Nat := g.kib / 4
def bankBlocks : Nat := 65536

/-- Opens a segment. Segments alternate between the banks; one starts after the last segment of its bank, or at the start of the area where a
full segment would pass its end (14 R497, R499; log entry 150). -/
def State.openSegment (checkpoint : Bool) (s : State) : State :=
  let bank := s.img.nextSeg % 2
  let next := match (s.img.segs.filter fun g => g.bank == bank).getLast? with
    | some g => g.block + g.blocks
    | none => 0
  s.onImg fun m => { m with
    nextSeg := m.nextSeg + 1
    open_ := some { number := m.nextSeg, bl := if s.hif.blPinned = 0 then 1 else s.hif.blPinned, checkpoint := checkpoint,
                    epoch := s.hif.epoch, opened := s.now, records := [], bank := bank,
                    block := if next + 1024 ≤ bankBlocks then next else 0 } }

/-- The header, and the trailer once it is sealed, of a segment (14 R499). -/
def Segment.header (g : Segment) : List Word :=
  [wd (0x10A5 + 2 ^ 16 + g.bl * 2 ^ 24), wd g.number, wd (b2n g.checkpoint), wd g.epoch] ++ two g.opened ++ List.replicate 10 0
def Segment.trailer (g : Segment) : List Word :=
  match g.sealedAt with
  | some t => [0x5EA1, wd g.records.length] ++ two t ++ (sha384 (wordsToBytes (g.header ++ g.records.flatten))).toList
  | none => []

/-- Completes the seals under way (14 R497, R499). -/
def State.sealDone (s : State) : State :=
  s.onImg fun m => { m with
    segs := m.segs.map fun g => if g.sealing then { g with sealedAt := some s.now, sealing := false } else g }

/-- Begins the seal of the open segment. A seal writes the lifetime counts to flash (02 R65; 18 R591). -/
def State.sealBegin (s : State) : State :=
  let t := s.saveLife
  match s.img.open_ with
  | none => t
  | some g => t.onImg fun m => { m with open_ := none, segs := m.segs ++ [{ g with sealing := true }] }

/-- Seals the open segment (14 R497). -/
def State.sealNow (s : State) : State := s.sealBegin.sealDone

/-- Appends one record to the open segment, opening one where there is none. A segment that it would take past 4 MiB is sealed first (14
R497, R499). -/
def State.appendRecord (s : State) (rec : List Word) : State :=
  let full := match s.img.open_ with
    | some g => decide (4 * (g.words + rec.length) > 4 * 2 ^ 20)
    | none => false
  let t := s.onIf full State.sealNow
  let u := match t.img.open_ with | some _ => t | none => t.openSegment false
  u.onImg fun m => { m with open_ := m.open_.map fun g => { g with records := g.records ++ [rec] } }

/-- Writes a checkpoint segment and discards every older segment. What passes its 4 MiB stands in the segments after it (14 R497, R499,
R501; log entry 150). -/
def State.checkpoint (s : State) : State :=
  let n := s.img.nextSeg
  let t := (s.onImg fun m => { m with open_ := none }).openSegment true
  let u := ((checkpointRecords s.stg.cur s.stg.imm).foldl State.appendRecord t).sealNow
  u.onImg fun m => { m with segs := m.segs.filter fun g => decide (n ≤ g.number) }

/-- Appends records to the journal while it is on; at 75 % full a checkpoint replaces it (14 R497). -/
def State.appendJournal (recs : List (List Word)) (s : State) : State :=
  if s.img.journaling then
    let t := recs.foldl State.appendRecord s
    t.onIf (decide (524288 * 3 ≤ 4 * t.journalUsed)) State.checkpoint
  else s

/-- An immediate class J setting: it acts at once and is journaled when it is answered (14 R497). -/
def State.setImm (op : Nat) (r : Req) (f : Cfg → Cfg) (s : State) : State :=
  (s.onStg fun g => { g with imm := f g.imm }).appendJournal [commandRecord s.hif.epoch (normalized op r)]

/-! ## Publish -/

/-- The epoch after e; epoch 0 is never used (04 R137). -/
def nextEpoch (e : Nat) : Nat := if e = 0xFFFF then 1 else e + 1

/-- The epoch before e. -/
def prevEpoch (e : Nat) : Nat := if e = 1 then 0xFFFF else e - 1

/-- Cells that hold the new epoch at the publish without applying it: all of them outside Run, and each
cell already out of service (04 R139). -/
def State.heldCells (s : State) (cellsOn : Bool) : BitVec 64 :=
  if cellsOn then
    s.hif.isolated ||| BitVec.ofNat 64 (maskOf ((List.range 64).filter fun c => (s.cell c).fatalIso))
  else BitVec.allOnes 64

/-- A zone's QUOTA, RATE, BURST and EXPORT under a configuration (09 R314, R348). -/
def Stg.zone (g : Stg) (c : Cfg) (z : Nat) : Nat × Nat × Nat × Nat :=
  match cfgFind c 0x0603 z with
  | some w => ((wordAt w 1).toNat, (wordAt w 2).toNat, (wordAt w 3).toNat, fld (wordAt w 0) 13 12)
  | none => g.coldZone

/-- A zone's settings in force. -/
def State.zoneSet (s : State) (z : Nat) : Nat × Nat × Nat × Nat := s.stg.zone s.stg.cur z

/-- Depth of an engine's share of a zone's burst: a token is 128 parts of a creation of the share, so that RATE and BURST of the module
serve as they stand (09 R314). -/
def shareDepth (burst : Nat) : Nat := 128 * ((burst + 127) / 128)

/-- What a bucket holds carries over to a new rate and depth at time t: no change grants a token that was not earned. -/
def Bucket.carry (b : Bucket) (rate depth newDepth t : Nat) : Bucket :=
  let left := depth * tokenParts - (b.refill rate t).used
  { used := newDepth * tokenParts - left, at_ := t }

/-- Engines' creation buckets of the zones whose RATE or BURST a publish changes (09 R314). -/
def State.carryZones (old : Cfg) (s : State) : State :=
  let l := (((cfgAll old 0x0603) ++ (cfgAll s.stg.cur 0x0603)).map fun e => e.1).dedup.filter fun z =>
    decide ((s.stg.zone old z).2.1 ≠ (s.zoneSet z).2.1 ∨ (s.stg.zone old z).2.2.1 ≠ (s.zoneSet z).2.2.1)
  s.onFlo fun f => { f with
    zoneBucket := l.foldl (fun m z => (List.range 128).foldl (fun m e =>
      let b := (tabGet {} m (e * 4096 + z)).carry (s.stg.zone old z).2.1 (shareDepth (s.stg.zone old z).2.2.1)
        (shareDepth (s.zoneSet z).2.2.1) s.tim.up
      tabPut {} (e * 4096 + z) (if b.used = 0 then {} else b) m) m) f.zoneBucket }

/-- A copy of an address leaves a cell: the bit of the master's mask, and the entry with its last bit (08 R279). -/
def dropMaskBit (key cell : Nat) (m : Tab Master) : Tab Master :=
  match tabFind m key with
  | none => m
  | some x =>
    let rest := x.cells &&& ~~~ BitVec.ofNat 64 (2 ^ cell)
    if rest = 0 then tabDel key m else tabIns key { x with cells := rest } m

/-- Dynamic entries that static ones of CURRENT replace leave their cells, with what waits to be written there and their copies' bits in
the master (08 R296). -/
def State.dropReplaced (s : State) : State :=
  let static (o : Nat) : Bool := (cfgFind s.stg.cur 0x0510 o).isSome
  let obj (c : Nat) (h : DynWrite) : Nat := (h.fid * 2 ^ 48 + h.mac) * 64 + c
  let waits := s.cel.filter fun e => e.2.held.any fun h => static (obj e.1 h)
  let gone := ((s.tbl.dyn.map fun e => e.1) ++ waits.flatMap fun e => e.2.held.map (obj e.1)).filter static
  (waits.foldl (fun a e => a.onCell e.1 fun x => { x with held := x.held.filter fun h => !static (obj e.1 h) }) s).onTbl fun t => { t with
    dyn := t.dyn.filter fun e => !static e.1
    master := gone.foldl (fun m o => dropMaskBit (o / 64) (o % 64) m) t.master }

/-- Completes the commit once every cell has applied it or is isolated (04 R139, R140). A static entry that it published
replaces a dynamic one of the same address (08 R296). -/
def State.settleCommit (s : State) : State :=
  if s.hif.pend && decide (s.hif.applied ||| s.hif.isolated = BitVec.allOnes 64) then
    ((s.onHif fun h => { h with pend := false }).dropReplaced.irq 1).answerDeferred (fun k => decide (k = .replay)) fun _ => []
  else s

/-- Publishes a configuration as the next epoch; a dozing cell wakes to apply it, and a frame on its way out keeps the configuration of
its epoch (04 R137, R139, R141; 01 R24, R25; 03 R604). The journal gets the class J commands that were staged, then a TYPE 2 record (14
R497, R500). -/
def State.publish (cellsOn : Bool) (cfg : Cfg) (cmds : List (List Word)) (s : State) : State :=
  let e := nextEpoch s.hif.epoch
  let t := (s.onStg fun g => { g with
      prev := g.cur, cur := cfg
      old := (tabIns (prevEpoch s.hif.epoch) g.prev g.old).filter fun x => s.frm.frames.any fun f => f.2.epoch == x.1 }).onHif fun h =>
    { h with epoch := e, applied := s.heldCells cellsOn, pend := true, epochTime := s.now }
  let u := t.appendJournal ((cmds.filter classJ).map (commandRecord e) ++ [commitRecord e])
  let v := (List.range 64).foldl (fun a c => if (a.cell c).st = .doze then a.startWake c else a) u
  ((v.onImg fun m => { m with configDigest := digestOf cfg u.stg.imm }).carryZones s.stg.cur).settleCommit

end Sys2Proof.Machine
end

