-- ==== Sys2Proof/Machine/Operands.lean ====
section
/-!
DEFINITION. Operand forms of the configuration: the fields of the payload words that set each object, with the
cold-start words of an object that is absent (06 R195; 11; 12 R454; 13 R471).
-/

namespace Sys2Proof.Machine

open Sys2Proof

/-! ## Ports (06 R190 to R217) -/

def portDefault (p : Nat) : List Word := [wd (p + 2 * 2 ^ 10), 1522, 0, 0]

def portWords (c : Cfg) (p : Nat) : List Word := cfgWords c 0x0301 p (portDefault p)

/-- Field [hi:lo] of word 4 + i of the port's PORT_SET. -/
def portFld (c : Cfg) (p i hi lo : Nat) : Nat := fld (wordAt (portWords c p) i) hi lo

def portMode (c : Cfg) (p : Nat) : Nat := portFld c p 0 13 10
def portFec (c : Cfg) (p : Nat) : Nat := portFld c p 0 15 14
def portEnabled (c : Cfg) (p : Nat) : Bool := portFld c p 0 16 16 == 1
def colIngress (c : Cfg) (p : Nat) : Bool := portFld c p 0 17 17 == 1
def lpiEn (c : Cfg) (p : Nat) : Bool := portFld c p 0 18 18 == 1
def preemptEn (c : Cfg) (p : Nat) : Bool := portFld c p 0 19 19 == 1
def verifyDis (c : Cfg) (p : Nat) : Bool := portFld c p 0 20 20 == 1
def addFrag (c : Cfg) (p : Nat) : Nat := portFld c p 0 22 21
def maxFrame (c : Cfg) (p : Nat) : Nat := portFld c p 1 13 0
def lpiTw (c : Cfg) (p : Nat) : Nat := portFld c p 2 15 0

/-- Four-lane modes (06 R190). -/
def fourMode (m : Nat) : Bool := decide (m = 3 ∨ m = 4)

/-- Whether a number is the first lane of a port (06 R193, R217). -/
def isPort (c : Cfg) (p : Nat) : Bool :=
  decide (p < 1024) && (p % 4 == 0 || !fourMode (portMode c (p - p % 4)))

/-- The port that a lane belongs to. -/
def portOf (c : Cfg) (lane : Nat) : Nat := if isPort c lane then lane else lane - lane % 4

/-- Lanes of a port. -/
def portLanes (c : Cfg) (p : Nat) : Nat := if fourMode (portMode c p) then 4 else 1

/-- Rate of a mode in bits per second (06 R190). -/
def modeRate (m : Nat) : Nat :=
  if m = 0 then 1000000000 else if m = 1 then 10000000000 else if m = 2 then 25000000000
  else if m = 3 then 40000000000 else 100000000000

def portRate (c : Cfg) (p : Nat) : Nat := modeRate (portMode c p)

/-- The cell of a port. -/
def cellOf (p : Nat) : Nat := p / 16

/-- The configuration that the port's cell applies. -/
def State.portCfg (s : State) (p : Nat) : Cfg := s.cellCfg (cellOf p)

/-- The link state of a port that its cell serves, before it has lock (06 R196). -/
def restLink (c : Cfg) (p : Nat) : Link := if isPort c p && portEnabled c p then .down else .disabled

/-- Outside Run a port takes what the configuration in force makes of it: an enabled one is Down with its lanes Off (06 R196). -/
def State.parkPort (p : Nat) (s : State) : State :=
  let c := s.stg.cur
  let x := s.port p
  s.onPort p fun y => { y with
    link := restLink c p, lastChange := if x.link = restLink c p then x.lastChange else s.now
    applied := (portMode c p, portFec c p, portEnabled c p), deskew := if y.applied.1 = portMode c p then y.deskew else 0 }

/-- Every port that a change of the configuration names, while the cells are off (06 R196). -/
def State.parkPorts (old : Cfg) (s : State) : State :=
  ((cfgAll old 0x0301 ++ cfgAll s.stg.cur 0x0301).map fun e => e.1).foldl (fun a p => a.parkPort p) s

/-- The configuration of an epoch that an engine's two sides hold (10 R360). -/
def State.epochCfg (s : State) (e : Nat) : Option Cfg :=
  if e = s.hif.epoch then some s.stg.cur else if e = prevEpoch s.hif.epoch then some s.stg.prev else none

/-- The configuration of the epoch with which a frame is tagged (01 R24). -/
def State.frameCfg (s : State) (x : Frame) : Cfg := (s.epochCfg x.epoch).getD (tabGet s.stg.cur s.stg.old x.epoch)

/-- RX_CORR and TX_CORR of a mode and FEC in 0.1 ns, without DESKEW (06 R211). -/
def rxCorr (m f : Nat) : Nat :=
  if m = 0 then 1520 else if m = 1 then 612 else if m = 2 then (if f = 0 then 286 else if f = 1 then 1483 else 2417)
  else if m = 3 then 964 else 2089
def txCorr (m f : Nat) : Nat :=
  if m = 0 then 1184 else if m = 1 then 448 else if m = 2 then (if f = 0 then 195 else if f = 1 then 341 else 528)
  else if m = 3 then 582 else 613

/-- Tenths of a nanosecond in units of 2^-16 ns; how the module rounds is not stated (log entry 24). -/
def tenths (n : Nat) : Nat := n * 65536 / 10 + (if n * 65536 % 10 = 0 then 0 else Config.roundUp n % 2)

/-! ## Egress (12 R454 to R457) -/

def egrPortDefault (p : Nat) : List Word := [wd (p + 20 * 2 ^ 15), 0x00FAC688, 100000000, 16777215]
def egrPortFld (c : Cfg) (p i hi lo : Nat) : Nat := fld (wordAt (cfgWords c 0x0901 p (egrPortDefault p)) i) hi lo

def tcSource (c : Cfg) (p : Nat) : Nat := egrPortFld c p 0 11 10
def defaultTc (c : Cfg) (p : Nat) : Nat := egrPortFld c p 0 14 12
/-- OVERHEAD, −32 to +63. -/
def egrOverhead (c : Cfg) (p : Nat) : Int :=
  let n := egrPortFld c p 0 21 15
  if n < 64 then n else (n : Int) - 128
def portShaped (c : Cfg) (p : Nat) : Bool := egrPortFld c p 0 22 22 == 1
def tcQueue (c : Cfg) (p t : Nat) : Nat := egrPortFld c p 1 (3 * t + 2) (3 * t)
def shapeRate (c : Cfg) (p : Nat) : Nat := egrPortFld c p 2 26 0
def shapeDepth (c : Cfg) (p : Nat) : Nat := egrPortFld c p 3 23 0

def egrQueueDefault (p q : Nat) : List Word := [wd (p + q * 2 ^ 10 + 2 ^ 15), 100000000, 16777215]
def egrQueueFld (c : Cfg) (p q i hi lo : Nat) : Nat :=
  fld (wordAt (cfgWords c 0x0902 (8 * p + q) (egrQueueDefault p q)) i) hi lo

def queueGroup (c : Cfg) (p q : Nat) : Nat := egrQueueFld c p q 0 14 13
def queueWeight (c : Cfg) (p q : Nat) : Nat := egrQueueFld c p q 0 22 15
def queueShaped (c : Cfg) (p q : Nat) : Bool := egrQueueFld c p q 0 23 23 == 1
def queueRate (c : Cfg) (p q : Nat) : Nat := egrQueueFld c p q 1 26 0
def queueDepth (c : Cfg) (p q : Nat) : Nat := egrQueueFld c p q 2 23 0

/-- The gate list that EGR_GATE_SET's words describe (12 R457). -/
def gateListOf (w : List Word) : GateList :=
  if w = [] then {}
  else
    { enable := fld (wordAt w 0) 10 10 == 1, base := join (wordAt w 1) (wordAt w 2), cycle := fld (wordAt w 3) 29 0
      entries := (List.range (fld (wordAt w 0) 18 11)).map fun n =>
        (fld (wordAt w (4 + 2 * n)) 29 0, fld (wordAt w (5 + 2 * n)) 8 0) }

/-- A list that is enabled and holds an entry (12 R447). -/
def GateList.active (g : GateList) : Bool := g.enable && decide (g.entries ≠ [])

/-! ## Buffers and the Col policer (11 R428, R429) -/

/-- RATE_PCT and BURST of a port's Col policer. -/
def colPolicer (c : Cfg) (p : Nat) : Nat × Nat :=
  let w := cfgWords c 0x0810 p [wd (p + 25 * 2 ^ 10), 16384]
  (fld (wordAt w 0) 14 10, fld (wordAt w 1) 16 0)

/-- ALPHA codes of a cell, cold-start code 4 for every class. -/
def bufDefault (cell : Nat) : List Word := [0x924924, 0x924924] ++ two (2 ^ cell)
def intCode (c : Cfg) (cell cls : Nat) : Nat := fld (wordAt (cfgWords c 0x0811 cell (bufDefault cell)) 0) (3 * cls + 2) (3 * cls)
def egrCode (c : Cfg) (cell cls : Nat) : Nat := fld (wordAt (cfgWords c 0x0811 cell (bufDefault cell)) 1) (3 * cls + 2) (3 * cls)

/-! ## Transparent clock (13 R471) -/

def tcDefault (p : Nat) : List Word := [wd (p + 2 ^ 10), 0]
def tcModeOf (c : Cfg) (p : Nat) : Nat := fld (wordAt (cfgWords c 0x0A20 p (tcDefault p)) 0) 11 10

/-- LINK_DELAY under a configuration: the one that firmware measured last, else the one configured (13 R474). -/
def State.linkDelay (s : State) (c : Cfg) (p : Nat) : Nat :=
  match (s.port p).linkDelay with
  | some d => d
  | none => (wordAt (cfgWords c 0x0A20 p (tcDefault p)) 1).toNat

end Sys2Proof.Machine
end

