-- ==== Sys2Proof/Machine/Record.lean ====
section
/-!
DEFINITION. Flow records: keys and their hash, homes and buckets, find and insert, zones, coherence with the summit
caches, and eviction (09 R304 to R341; 10 R361, R372).
-/

namespace Sys2Proof.Machine

open Sys2Proof

/-! ## Keys and hashing (09 R307 to R310) -/

/-- A flow key (09 R308). `bytes` holds 40 key bytes. -/
structure FKey where
  zone : Nat
  keyType : Nat
  keyLen : Nat
  bytes : List Byte
deriving DecidableEq, Repr

def Rec.fkey (r : Rec) : FKey := { zone := r.zone, keyType := r.keyType, keyLen := r.keyLen, bytes := r.key }

/-- Four 64-bit words of SipHash's state. -/
structure Sip where
  a : BitVec 64
  b : BitVec 64
  c : BitVec 64
  d : BitVec 64

/-- One SipHash round. -/
def Sip.round (v : Sip) : Sip :=
  let a := v.a + v.b
  let b := v.b.rotateLeft 13 ^^^ a
  let a := a.rotateLeft 32
  let c := v.c + v.d
  let d := v.d.rotateLeft 16 ^^^ c
  let a := a + d
  let d := d.rotateLeft 21 ^^^ a
  let c := c + b
  let b := b.rotateLeft 17 ^^^ c
  { a := a, b := b, c := c.rotateLeft 32, d := d }

/-- One message word of SipHash-2-4. -/
def Sip.absorb (v : Sip) (m : BitVec 64) : Sip :=
  let w := ({ v with d := v.d ^^^ m } : Sip).round.round
  { w with a := w.a ^^^ m }

/-- SipHash-2-4 of whole 64-bit words, with the length word that ends them. -/
def sipHash (k0 k1 : BitVec 64) (l : List (BitVec 64)) : BitVec 64 :=
  let v : Sip := { a := k0 ^^^ 0x736f6d6570736575, b := k1 ^^^ 0x646f72616e646f6d,
                   c := k0 ^^^ 0x6c7967656e657261, d := k1 ^^^ 0x7465646279746573 }
  let w := (l ++ [BitVec.ofNat 64 (8 * l.length % 256 * 2 ^ 56)]).foldl Sip.absorb v
  let x := ({ w with c := w.c ^^^ 0xff } : Sip).round.round.round.round
  x.a ^^^ x.b ^^^ x.c ^^^ x.d

/-- A number from bytes, the first least significant. -/
def leNat (l : List Byte) : Nat := l.foldr (fun b a => b.toNat + 256 * a) 0

/-- H of a key (09 R310). -/
def State.hashKey (s : State) (k : FKey) : Nat :=
  let blk (i : Nat) : BitVec 64 := BitVec.ofNat 64 (leNat ((k.bytes.drop (8 * i)).take 8))
  (sipHash (BitVec.ofNat 64 s.flo.salt) (BitVec.ofNat 64 (s.flo.salt / 2 ^ 64))
    (BitVec.ofNat 64 (k.zone + k.keyType * 2 ^ 16 + k.keyLen * 2 ^ 24) :: (List.range 5).map blk)).toNat

/-- The home engine of a hash. -/
def homeOf (h : Nat) : Nat := nfld h 1 0 * 32 + nfld h 6 2

/-- Handle of slot 0 of the two candidate buckets of a hash. -/
def bucketA (h : Nat) : Nat := homeOf h * 2 ^ 21 + nfld h 11 7 * 2 ^ 16 + nfld h 25 12 * 4
def bucketB (h : Nat) : Nat :=
  homeOf h * 2 ^ 21 + (nfld h 11 7 + 1 + nfld h 34 26 % 31) % 32 * 2 ^ 16 + nfld h 48 35 * 4

/-- The engine of a handle, and the event source of its stack group (09 R304, R336). -/
def engineOf (h : Nat) : Nat := h / 2 ^ 21
def stackSource (e : Nat) : Nat := 1096 + 4 * (e / 32) + e % 32 / 8

/-! ## Request words (09 R316) -/

def msgEpoch (m : List Word) : Nat := fld (wordAt m 0) 15 0
def msgProgram (m : List Word) : Nat := fld (wordAt m 0) 24 16
def msgTag (m : List Word) : Nat := fld (wordAt m 1) 10 3
def msgTime (m : List Word) : Nat := join (wordAt m 13) (wordAt m 14)
def msgLength (m : List Word) : Nat := fld (wordAt m 12) 13 0
def msgKey (m : List Word) (len : Nat) : FKey :=
  { zone := fld (wordAt m 1) 22 11, keyType := fld (wordAt m 1) 30 23, keyLen := len
    bytes := wordsToBytes ((List.range 10).map fun i => wordAt m (2 + i)) }

/-- Whether two requests carry the same key, epoch and arguments: a VOID and the OPERATE that it reverses. -/
def sameRequest (a b : List Word) : Bool := decide (a.drop 2 = b.drop 2) && decide ((wordAt a 1).toNat / 2 ^ 11 = (wordAt b 1).toNat / 2 ^ 11)

/-! ## Settings that engines use -/

def progDefault (p : Nat) : List Word := [wd (p + 15 * 2 ^ 20 + 15 * 2 ^ 24), 100, 0] ++ List.replicate 12 0
def progWords (c : Cfg) (p : Nat) : List Word := cfgWords c 0x0701 p (progDefault p)
def progFld (c : Cfg) (p i hi lo : Nat) : Nat := fld (wordAt (progWords c p) i) hi lo
def progLength (c : Cfg) (p : Nat) : Nat := progFld c p 0 12 9
def progCreate (c : Cfg) (p : Nat) : Bool := progFld c p 0 13 13 == 1
def progCache (c : Cfg) (p : Nat) : Nat := progFld c p 0 15 14
def progDegradedDrop (c : Cfg) (p : Nat) : Bool := progFld c p 0 16 16 == 1
def progOverflow (c : Cfg) (p : Nat) : Nat := progFld c p 0 18 17
def progCkey (c : Cfg) (p : Nat) : Bool := progFld c p 0 19 19 == 1
def progNatWord (c : Cfg) (p : Nat) : Nat := progFld c p 0 23 20
def progHandleWord (c : Cfg) (p : Nat) : Nat := progFld c p 0 27 24
def progWaitLimit (c : Cfg) (p : Nat) : Nat := progFld c p 1 9 0
def progLeaseMask (c : Cfg) (p : Nat) : Nat := progFld c p 1 25 16
def progComp (c : Cfg) (p : Nat) : Nat := progFld c p 2 8 0
def progCompZone (c : Cfg) (p : Nat) : Nat := progFld c p 2 20 9
def progInstr (c : Cfg) (p i : Nat) : Word := wordAt (progWords c p) (3 + i)

/-- FIELDS of a template (09 R309). -/
def templateFields (c : Cfg) (t : Nat) : Nat := fld (wordAt (cfgWords c 0x0602 t [wd (t + 0x19C0 * 2 ^ 5)]) 0) 17 5

/-- Bytes of template field i in a format (09 R307). -/
def fieldSize (fmt i : Nat) : Nat :=
  if i = 11 ∨ i = 12 then (if fmt = 2 then 16 else 4) else [2, 2, 2, 3, 2, 1, 1, 2, 2, 6, 6].getD i 0

/-- Key bytes of a template in a format. -/
def templateLen (fields fmt : Nat) : Nat := ((bitsOf 13 fields).map (fieldSize fmt)).sum

/-- Offset of field i in a key, if the template has it. -/
def fieldOffset (fields fmt i : Nat) : Option Nat :=
  if fields.testBit i then some (((bitsOf i fields).map (fieldSize fmt)).sum) else none

/-- The timeout of a class in seconds (09 R331, R349). -/
def State.timeout (s : State) (cls : Nat) : Nat :=
  match cfgFind s.stg.cur 0x0604 cls with
  | some w => fld (wordAt w 1) 16 0
  | none => s.stg.coldAging.getD cls 300

/-! ## Records -/

def State.recOf (s : State) (h : Nat) : Option Rec := tabFind s.flo.recs h
def State.setRec (h : Nat) (r : Rec) (s : State) : State := s.onFlo fun f => { f with recs := tabIns h r f.recs }
def State.onRec (h : Nat) (f : Rec → Rec) (s : State) : State :=
  match s.recOf h with
  | some r => s.setRec h (f r)
  | none => s

/-- A quarantined slot (09 R340). -/
def quarantinedRec : Rec := { state := 0xF, key := List.replicate 40 0 }

def Rec.quarantined (r : Rec) : Bool := r.state == 0xF

/-- The CONTROL field (09 R306). -/
def Rec.control (r : Rec) : Nat :=
  r.program + r.state * 2 ^ 9 + r.cls * 2 ^ 13 + r.presence.toNat * 2 ^ 17 + r.leaseMask * 2 ^ 25 +
    b2n r.companion * 2 ^ 35 + b2n r.voided * 2 ^ 36

/-- The 128-byte image (09 R305). -/
def Rec.image (r : Rec) : List Word :=
  [wd (r.zone + r.keyType * 2 ^ 16 + r.keyLen * 2 ^ 24), 0] ++ bytesToWords r.key ++ two r.control ++ two r.last ++
    two r.first ++ two r.packets ++ two r.bytes ++ r.w

/-- The record's slots that hold a key, in the order of the search (09 R311). -/
def State.slotsOf (h : Nat) : List Nat := (List.range 4).map (fun i => bucketA h + i) ++ (List.range 4).map (fun i => bucketB h + i)

/-- The slot whose healthy record has the key. -/
def State.findRec (s : State) (k : FKey) : Option Nat :=
  (State.slotsOf (s.hashKey k)).find? fun h => match s.recOf h with | some r => !r.quarantined && decide (r.fkey = k) | none => false

/-- Either bucket of the key holds a quarantined slot (09 R341). -/
def State.poisoned (s : State) (k : FKey) : Bool :=
  (State.slotsOf (s.hashKey k)).any fun h => match s.recOf h with | some r => r.quarantined | none => false

/-- The lowest free slot of a bucket. -/
def State.freeSlot (s : State) (b : Nat) : Option Nat := ((List.range 4).map fun i => b + i).find? fun h => (s.recOf h).isNone

/-! ## Insertion (09 R312) -/

/-- A record that may move: no ridge holds it, and no ACK about it is outstanding, which would come to its old slot (09 R312, R329; log
entry 145). -/
def State.mayMove (s : State) (h : Nat) : Bool :=
  (match s.recOf h with | some r => r.presence == 0 && !r.quarantined | none => false) && (tabFind s.flo.locked h).isNone

/-- A relocation path from a bucket: each step's slot and its record's other bucket. -/
def State.relocPath (s : State) : Nat → Nat → List (Nat × Nat) → Option (List (Nat × Nat))
  | 0, _, _ => none
  | n + 1, b, path =>
    let free (h : Nat) : Bool :=
      s.mayMove h && !(path.any fun p => p.1 == h)
    match ((List.range 4).map fun i => b + i).find? free with
    | none => none
    | some v =>
      let x := s.hashKey ((s.recOf v).getD {}).fkey
      let alt := if bucketA x = b then bucketB x else bucketA x
      if (s.freeSlot alt).isSome then some (path ++ [(v, alt)]) else relocPath s n alt (path ++ [(v, alt)])

/-- Moves the record of slot v to the lowest free slot of a bucket. A held context follows its record. -/
def State.moveRec (v alt : Nat) (s : State) : State :=
  match s.freeSlot alt, s.recOf v with
  | some h, some r =>
    let t := (s.onFlo fun f => { f with recs := tabDel v (tabIns h r f.recs) }).bump 8 (engineOf h) 7 1
    t.onPrg fun p => { p with ctx := p.ctx.map fun e => (e.1, if e.2.handle = some v then { e.2 with handle := some h } else e.2) }
  | _, _ => s

/-- A relocation path of at most n moves from a bucket, by any records that may move. -/
def State.anyPath (s : State) : Nat → Nat → List (Nat × Nat) → Option (List (Nat × Nat))
  | 0, _, _ => none
  | n + 1, b, path =>
    let free (h : Nat) : Bool :=
      s.mayMove h && !(path.any fun p => p.1 == h)
    (((List.range 4).map fun i => b + i).filter free).findSome? fun v =>
      let x := s.hashKey ((s.recOf v).getD {}).fkey
      let alt := if bucketA x = b then bucketB x else bucketA x
      if (s.freeSlot alt).isSome then some (path ++ [(v, alt)]) else anyPath s n alt (path ++ [(v, alt)])

/-- Records of an engine; its quarantined slots count as occupied (09 R313). -/
def State.engineCount (s : State) (e : Nat) : Nat := (s.flo.recs.filter fun x => engineOf x.1 == e).length

/-- The path that frees a slot of a bucket of the key's two: R312's search from either, and, where it fails although the engine holds at
most 1,782,579 records after the insert, one of any length (log entry 108: R312 then gives NO_SPACE, R313 success, and the model lets
the insert succeed where some moves make room). -/
def State.insertPath (s : State) (x : Nat) : Option (Nat × List (Nat × Nat)) :=
  let from_ (f : Nat → Option (List (Nat × Nat))) : Option (Nat × List (Nat × Nat)) :=
    [bucketA x, bucketB x].findSome? fun b => (f b).map fun p => (b, p)
  match from_ fun b => s.relocPath 4 b [] with
  | some p => some p
  | none =>
    let n := s.engineCount (homeOf x)
    if n + 1 ≤ 1782579 then from_ fun b => s.anyPath n b [] else none

/-- A slot for a new record of the key, after any relocation (09 R312, R313). -/
def State.placeFor (k : FKey) (s : State) : Option Nat × State :=
  let x := s.hashKey k
  match s.freeSlot (bucketA x), s.freeSlot (bucketB x) with
  | some h, _ => (some h, s)
  | none, some h => (some h, s)
  | none, none =>
    match s.insertPath x with
    | some (b, path) =>
      let t := path.reverse.foldl (fun a p => a.moveRec p.1 p.2) s
      (t.freeSlot b, t)
    | none => (none, s)

/-! ## Zones (09 R314, R315) -/

/-- Records of a zone at an engine. -/
def State.zoneCount (s : State) (e z : Nat) : Nat :=
  (s.flo.recs.filter fun x => engineOf x.1 == e && x.2.zone == z && !x.2.quarantined).length

/-- The judgement on a create before its space: 0, QUOTA 4 or RATE 5, and the bucket after its token: one
creation; RATE and BURST are shares of 128 (09 R314). -/
def State.zoneJudge (s : State) (e z : Nat) : Nat × Bucket :=
  let q := s.zoneSet z
  let b := tabGet {} s.flo.zoneBucket (e * 4096 + z)
  let d := b.draw q.2.1 (shareDepth q.2.2.1) 128 s.tim.up
  if (q.1 + 127) / 128 ≤ s.zoneCount e z ∨ s.flo.flushing.contains z then (4, b)
  else if q.2.1 = 0 ∨ !d.1 then (5, b)
  else (0, d.2)

/-- Counts a refusal at its engine and zone (09 R343). -/
def State.countRefusal (e z st : Nat) (s : State) : State :=
  let t := s.bump 8 e st 1
  if st = 4 then t.bump 11 z 2 1 else if st = 5 then t.bump 11 z 3 1 else t

/-- Creates a record: its slot, or the refusal's status (09 R312, R314). -/
def State.createRec (e : Nat) (r : Rec) (s : State) : Except Nat Nat × State :=
  let j := s.zoneJudge e r.zone
  if j.1 ≠ 0 then (.error j.1, s.countRefusal e r.zone j.1)
  else
    match s.placeFor r.fkey with
    | (none, _) => (.error 3, s.countRefusal e r.zone 3)
    | (some h, t) =>
      let u := (t.setRec h r).onFlo fun f => { f with zoneBucket := tabPut {} (e * 4096 + r.zone) j.2 f.zoneBucket }
      (.ok h, (u.bump 8 e 1 1).bump 11 r.zone 1 1)

/-! ## Coherence (09 R326 to R330) -/

/-- Adds a cache's deltas to a record. -/
def Rec.absorb (r : Rec) (m : Coh) : Rec :=
  { r with
    packets := unsigned64 ((r.packets : Int) + m.dpkts), bytes := unsigned64 ((r.bytes : Int) + m.dbytes)
    last := max r.last m.latest }

/-- Clears a ridge's PRESENCE bit; with none left, no word is leased (log entry 32). -/
def Rec.clearRidge (r : Rec) (ridge : Nat) : Rec :=
  let p := r.presence &&& ~~~ BitVec.ofNat 8 (2 ^ ridge)
  { r with presence := p, leaseMask := if p = 0 then 0 else r.leaseMask }

/-- Sends INVALIDATE or COLLECT (kind 0 or 1) for a handle to the ridges of a mask; each message is counted. -/
def State.sendCoh (kind h : Nat) (mask : BitVec 8) (s : State) : State :=
  let l := bitsOf 8 mask.toNat
  (s.onFlo fun f => { f with
    coh := f.coh ++ l.map fun r => { kind := kind, ridge := r, handle := h, ord := f.seq + 1 }, seq := f.seq + 1 }).bump 8 (engineOf h)
    (if kind = 0 then 17 else 16) l.length

/-- Asks every ridge in PRESENCE and locks the record until their ACKs have arrived. -/
def State.lockFor (kind h : Nat) (why : LockWhy) (s : State) : State :=
  match s.recOf h with
  | none => s
  | some r =>
    (s.sendCoh kind h r.presence).onFlo fun f =>
      { f with locked := tabIns h { left := r.presence, all := r.presence, why := why } f.locked }

/-- Whether the record waits for ACKs, or its context is held for a companion (09 R311, R329; 10 R375). -/
def State.recBusy (s : State) (h : Nat) : Bool :=
  (tabFind s.flo.locked h).isSome || s.prg.ctx.any fun e => decide (e.2.handle = some h) && e.2.holds.isSome

/-! ## Translation ports (10 R370, R372) -/

/-- The share of an engine holds the port. -/
def natShare (e port : Nat) : Bool := decide (1024 + 504 * e ≤ port ∧ port < 1528 + 504 * e)

/-- Releases the port that a word names (10 R372). -/
def State.natFree (e : Nat) (w : Word) (s : State) : State :=
  let k := w.toNat
  if natShare e (k % 65536) && tabGet false s.prg.nat k then
    (s.onPrg fun p => { p with nat := tabDel k p.nat, freed := tabIns k s.tim.up p.freed }).bump 12 e 4 1
  else s.bump 12 e 5 1

/-- Releases the port in the word that NAT_WORD names, when it is nonzero and names an allocated port of the share. -/
def State.natRelease (e natWord : Nat) (ws : List Word) (s : State) : State :=
  let w := wordAt ws natWord
  if natWord < 10 ∧ w ≠ 0 ∧ natShare e (w.toNat % 65536) ∧ tabGet false s.prg.nat w.toNat then s.natFree e w else s

/-! ## Eviction and export (09 R334 to R337) -/

/-- The 64-byte archive record (09 R335). -/
def Rec.archive (r : Rec) (reason : Nat) : List Word :=
  let p := min r.packets (2 ^ 48 - 1)
  let b := min r.bytes (2 ^ 48 - 1)
  [wd (reason + r.zone * 2 ^ 4 + r.keyType * 2 ^ 16 + r.keyLen * 2 ^ 24), wd (r.last / 10 ^ 9),
   wd (min ((r.last - r.first) / 10 ^ 6) 0xFFFFFFFF), wd p, wd (p / 2 ^ 32 + b % 2 ^ 16 * 2 ^ 16), wd (b / 2 ^ 16)] ++
    bytesToWords r.key

/-- Queues an export at its engine, or loses it. -/
def State.queueExport (event : Bool) (e : Nat) (x : Export) (s : State) : State :=
  let q := tabGet [] (if event then s.flo.evq else s.flo.arq) e
  if 1024 ≤ q.length then s.bump 8 e 15 1
  else s.onFlo fun f =>
    if event then { f with evq := tabIns e (q ++ [x]) f.evq } else { f with arq := tabIns e (q ++ [x]) f.arq }

/-- Counts a record that a zone flush removed (09 R351). -/
def State.countFlush (z : Nat) (s : State) : State :=
  s.onHif fun h => { h with deferred := h.deferred.map fun d =>
    match d.kind with
    | .zoneFlush y n => if y = z then { d with kind := .zoneFlush y (n + 1) } else d
    | _ => d }

/-- Evicts a record: the slot is freed, its port released and one export produced (09 R334; 10 R361, R372). -/
def State.evict (h reason : Nat) (s : State) : State :=
  match s.recOf h with
  | none => s
  | some r =>
    let e := engineOf h
    let x : Export := { archive := r.archive reason, handle := h, time := s.now }
    let dest := (s.zoneSet r.zone).2.2.2
    let t := s.onFlo fun f => { f with recs := tabDel h f.recs, locked := tabDel h f.locked }
    let u := (t.onIf (dest % 2 == 1) fun a => a.queueExport true e x).onIf (dest / 2 % 2 == 1 && decide (s.flo.archiveGib ≠ 0)) fun a =>
      a.queueExport false e x
    let v := u.natRelease e (progNatWord s.stg.cur r.program) r.w
    (v.bump 8 e (if reason = 0 then 8 else if reason = 1 then 9 else 10) 1).onIf (reason == 3) fun a => a.countFlush r.zone

/-- Evicts a record once every ridge in PRESENCE has been invalidated (09 R330, R332). -/
def State.evictSoon (h reason : Nat) (s : State) : State :=
  match s.recOf h with
  | none => s
  | some r => if r.presence = 0 then s.evict h reason else s.lockFor 0 h (.evict reason)

/-- Quarantines a record found uncorrectable (09 R340). Deltas that its ridges still return are discarded. `access`
is the kind of access that found it, 3 a flow operation, 4 a scrub or sweep, and `who` the master that made it (16 R547; 00 R18). -/
def State.quarantine (access who h : Nat) (s : State) : State :=
  match s.recOf h with
  | none => s
  | some r =>
    if r.quarantined then s
    else
      let e := engineOf h
      let all : BitVec 8 := BitVec.allOnes 8
      let lock : Lock := { (tabGet { left := 0, all := all, why := .write } s.flo.locked h) with left := all }
      let t := (((s.setRec h quarantinedRec).sendCoh 0 h all).bump 8 e 14 1).onFlo fun f => { f with locked := tabIns h lock f.locked }
      t.raise { src := stackSource e, reason := 1, cls := 1, access := access, master := who, addr := h }

/-! ## Results (09 R317) -/

/-- Words of a result. -/
def resultWords (tag cell status grant lease cached handle : Nat) (y : List Word) : List Word :=
  [wd (tag % 256 + cell * 2 ^ 8 + status * 2 ^ 14 + grant * 2 ^ 18 + lease * 2 ^ 19 + cached * 2 ^ 20), wd handle] ++
    y ++ List.replicate (6 - y.length) 0

def resultStatus (r : List Word) : Nat := fld (wordAt r 0) 17 14

end Sys2Proof.Machine
end

