-- ==== Sys2Proof/Machine/Flags.lean ====
section
/-!
DEFINITION. Status that the manual derives from other state: module state codes, duty, the pins FAULT_N,
ALERT_N and PFW_N, and the status registers of HIF, FLT, TIME and Cairn.
-/

namespace Sys2Proof.Machine

open Sys2Proof

/-! ## Module state -/

/-- Cairn is powered (03 R78). -/
def State.cairnRuns (s : State) : Bool := decide (s.crn.mod = .watch ∨ s.crn.mod = .standby ∨ s.crn.mod = .run)

/-- The engines, the sweepers and the archive writer run: in Run, until a drain has ended or a reset has begun (01 R28; 03 R104). -/
def State.enginesRun (s : State) : Bool := decide (s.crn.mod = .run) && (s.crn.trans.isNone || s.crn.draining)

/-- A transition or a reset is under way (03 R82). -/
def State.changing (s : State) : Bool := s.crn.trans.isSome

/-- MOD_STATE: 0 Watch, 1 Standby, 2 Run, 3 changing state (02 R65; 04 R118). -/
def State.modCode (s : State) : Nat :=
  if s.changing then 3
  else match s.crn.mod with
    | .standby => 1
    | .run => 2
    | _ => 0

/-- Ingress runs at the front ports: Run, and no transition that stops it (03 R79, R104). -/
def State.running (s : State) : Bool :=
  decide (s.crn.mod = .run) && s.crn.trans.isNone && !s.crn.draining

/-- Cairn drives PFW_N low: until its first input measurement and while the power-fail warning is active (02 R49). An unpowered
Cairn drives no pin; the moment between a converter stop and Cairn's own loss of power is no state of the model (log entry 92). -/
def State.pfwLow (s : State) : Bool := s.cairnRuns && s.sup.pfw

/-! ## Temperature (18 R586, R591) -/

/-- Whole hours of a time in ns. -/
def hoursOf (ns : Nat) : Nat := ns / 3600000000000

/-- A sensor's block is powered: a stack's in Standby and Run, and as firmware trains it before; a ridge's lane shells in Run where one of
its ports is enabled and not shut down (01 R28; 03 R83; 16 R549; 18 R586). -/
def State.sensorPowered (s : State) (k : Nat) : Bool :=
  if 16 ≤ k ∧ k < 20 then decide (s.crn.mod = .standby ∨ s.crn.mod = .run) || s.crn.fwRuns
  else if 8 ≤ k ∧ k < 16 then
    decide (s.crn.mod = .run) && s.prt.any fun e => decide (e.1 / 128 = k - 8 ∧ e.2.link ≠ .disabled) && !e.2.shut
  else true

/-- CRN_TEMP of a sensor: VALID reads 0 while its block is unpowered (18 R586, R591). -/
def State.sensor (s : State) (k : Nat) : Nat :=
  let v := tabGet 0 s.sup.temp k
  if s.sensorPowered k then v else v % 65536

/-! ## Duty (01 R30) -/

/-- A cell out of intermediate duty: benched, in Slumber or not yet rejoined, in a cell reset, or isolated by a fatal event. -/
def Cell.out (c : Cell) : Bool :=
  c.benched || c.resetting || c.fatalIso || c.rejoin ||
  (match c.st with | .slumber => true | .waking b => b | _ => false)

/-- A cell that the first stage passes by: one that a fatal event has isolated stays in until the next rotation boundary (16 R549). -/
def Cell.idle (c : Cell) : Bool := Cell.out { c with fatalIso := c.fatalIso && !c.isoSoon }

/-- Cells out of duty (11 R426). -/
def State.outNow (s : State) : Nat := ((List.range 64).filter fun c => (s.cell c).out).length

/-- Cells out of duty, those that a bench has been decided for among them. -/
def State.outCount (s : State) : Nat := ((List.range 64).filter fun c => (s.cell c).out || (s.cell c).benchSoon).length

/-- Only its sleep keeps the cell out of duty, so that it returns once it is awake. -/
def Cell.returns (c : Cell) : Bool := !c.benched && !c.benchSoon && !c.resetting && !c.fatalIso

/-- The lowest-numbered slumbering cell whose wake frees a place (01 R30; log entry 141). -/
def State.firstSlumber (s : State) : Option Nat :=
  (List.range 64).find? fun c => decide ((s.cell c).st = .slumber) && (s.cell c).returns

/-- A place among the 16 cells out of duty: there is one, or the lowest-numbered slumbering cell that frees one is woken, or there is
none (01 R30). -/
def State.dutyPlace (s : State) : Option State :=
  if s.outCount < 16 then some s else s.firstSlumber.map fun c => s.startWake c

/-- Whether the cell is in service: on, not isolated and not in a reset. -/
def State.inService (s : State) (c : Nat) : Bool :=
  decide ((s.cell c).st ≠ .off) && !s.hif.isolated.getLsbD c && !(s.cell c).fatalIso && !(s.cell c).resetting

/-- The cell's pipeline runs. -/
def State.cellRuns (s : State) (c : Nat) : Bool := decide ((s.cell c).st = .run) && !(s.cell c).resetting

/-! ## FLT status (16 R541, R553) -/

def State.anyFault (s : State) : Bool := decide (s.flt.flt ≠ 0)
def State.anyFatal (s : State) : Bool := decide (s.flt.fatal ≠ 0)
def State.alert (s : State) : Bool := decide (s.flt.evt &&& s.flt.alertEn ≠ 0)

/-- FAULT_N's level: low while any FLT bit is set (16 R541). -/
def State.faultN (s : State) : Bool := !s.anyFault
/-- ALERT_N's level: low while any EVT bit is set whose FLT_ALERT_EN bit is 1. -/
def State.alertN (s : State) : Bool := !s.alert

/-- CAUSE bits: the sources with a live condition. -/
def State.cause (s : State) : BitVec 1152 := s.flt.live.foldl (fun a e => a ||| srcMask e.1) 0

/-- Word n of a status vector. -/
def statusWord (v : BitVec 1152) (n : Nat) : Word := wd (v.toNat / 2 ^ (32 * n))

/-- Replaces word n of a status vector. -/
def setStatusWord (v : BitVec 1152) (n : Nat) (w : Word) : BitVec 1152 :=
  (v &&& ~~~ BitVec.ofNat 1152 ((2 ^ 32 - 1) * 2 ^ (32 * n))) ||| BitVec.ofNat 1152 (w.toNat * 2 ^ (32 * n))

def State.fltSummary (s : State) : Word :=
  wd (b2n s.anyFault + 2 * b2n s.anyFatal + 4 * b2n s.alert + 8 * popcount 1152 s.flt.evt.toNat)

def State.fltClrResult (s : State) : Word := wd (s.flt.clrCount + s.flt.clrFirst * 2 ^ 11)

def State.ffrCtrl (s : State) : Word :=
  let f := s.flt.ffr
  wd (b2n f.valid + 2 * b2n f.overflow + 4 * b2n f.carried + f.source * 2 ^ 3 + f.access * 2 ^ 14 +
    f.master * 2 ^ 17 + b2n f.fatal * 2 ^ 25)

def State.fltResetCause (s : State) : Word :=
  match s.flt.resetCause with
  | none => 0
  | some (src, reason) => wd (1 + src * 2 + reason * 2 ^ 12)

/-! ## HIF (04 R118) -/

def State.localSessions (s : State) : Nat := (s.hif.sessions.filter fun e => e.channel.isNone).length
def State.remoteSessions (s : State) : Nat := (s.hif.sessions.filter fun e => e.channel.isSome).length

def State.hifStatus (s : State) : Word :=
  wd (b2n s.hif.ready + s.modCode * 2 + b2n s.sup.pfw * 2 ^ 3 + s.hif.blPinned * 2 ^ 4 +
    s.localSessions * 2 ^ 12 + s.remoteSessions * 2 ^ 16)

def State.hifEpoch (s : State) : Word := wd (s.hif.epoch + b2n s.hif.pend * 2 ^ 16 + b2n s.stg.flag * 2 ^ 17)

/-! ## TIME (13 R478) -/

def State.timeStatus (s : State) : Word :=
  wd (b2n s.tim.stepped + b2n s.sup.sysclkLost * 2 + b2n (decide (s.tim.lock = BitVec.allOnes 8)) * 4 +
    b2n s.tim.rateNext.isSome * 8 + s.tim.domain * 2 ^ 8)

/-! ## Cairn (02 R65) -/

/-- VIN_OK: the input lies above the start threshold and below the overvoltage stop, at their nominal values (02 R65, R68; log
entry 93). -/
def vinInRange (vin : Nat) : Bool := decide (3400 < vin ∧ vin < 8100)

def State.crnStatus (s : State) : Word :=
  wd (b2n (vinInRange s.sup.vin) + b2n s.sup.pfw * 2 + b2n s.sup.snsOpen * 4 + b2n s.sup.sealed * 8 +
    b2n s.sup.sysclkLost * 16 + b2n s.sup.clampWear * 32 + s.sup.i2cAddr * 2 ^ 8 + s.modCode * 2 ^ 10)

end Sys2Proof.Machine
end

