-- ==== Sys2Proof/Machine/Policy.lean ====
section
/-!
DEFINITION. Images in the flash slots, their verification (15 R511, R512; 14 R494), and the policy
records (14 R489, R490).
-/

namespace Sys2Proof.Machine

open Sys2Proof

/-! ## Slots -/

/-- Word i of a slot: erased flash reads all ones (14 R499). -/
def Slot.word (g : Slot) (i : Nat) : Word :=
  match tabFind g.words i with
  | some w => w
  | none => if g.factory then Config.factoryWord i else 0xFFFFFFFF

/-- Words a to a + n - 1 of a slot. -/
def Slot.range (g : Slot) (a n : Nat) : List Word := (List.range n).map fun i => g.word (a + i)

def Slot.length (g : Slot) : Nat := (g.word 1).toNat
def Slot.arb (g : Slot) : Nat := fld (g.word 2) 6 0
def Slot.version (g : Slot) : Nat := (g.word 3).toNat
def Slot.blLow (g : Slot) : Nat := fld (g.word 4) 7 0
def Slot.blHigh (g : Slot) : Nat := fld (g.word 4) 15 8
def Slot.keyIndex (g : Slot) : Nat := fld (g.word 4) 17 16
def Slot.header (g : Slot) : List Byte := wordsToBytes (g.range 0 64)

/-- The payload's bytes. -/
def Slot.payload (g : Slot) : List Byte := (wordsToBytes (g.range 64 ((g.length + 3) / 4))).take g.length

def State.fwSlot (s : State) (b : Nat) : Slot := tabGet {} s.img.fw b
def State.polSlot (s : State) (b : Nat) : Slot := tabGet {} s.img.pol b

/-- Slot sizes in bytes: 128 MiB and 16 MiB (14 R493). -/
def slotBytes (policy : Bool) : Nat := if policy then 16777216 else 134217728

/-! ## Policy records -/

/-- Splits the record words; no value where a record is malformed (14 R489). -/
def splitRecords : Nat → List Word → Option (List (Nat × List Word))
  | _, [] => some []
  | 0, _ :: _ => none
  | n + 1, w :: t =>
    let len := fld w 31 16
    if len = 0 ∨ t.length + 1 < len then none
    else (splitRecords n (t.drop (len - 1))).map fun r => (fld w 15 0, w :: t.take (len - 1)) :: r

/-- LENGTH of a record type (14 R490). -/
def recordLength : Nat → Option Nat
  | 1 => some 6 | 2 => some 2 | 3 => some 2 | 4 => some 17 | 5 => some 4 | 6 => some 5 | 7 => some 6
  | 8 => some 18 | 9 => some 3 | 10 => some 49 | 11 => some 2 | 12 => some 2 | 13 => some 2 | 14 => some 25
  | _ => none

def inRange (n lo hi : Nat) : Bool := decide (lo ≤ n ∧ n ≤ hi)

/-- Reads one record into the policy; no value where a field is out of its range or a reserved bit is set
(14 R489, R490). -/
def readRecord (p : Policy) (ty : Nat) (w : List Word) : Option Policy :=
  let f (i hi lo : Nat) : Nat := fld (wordAt w i) hi lo
  if recordLength ty ≠ some w.length then none
  else match ty with
  | 1 =>
    if f 1 31 20 = 0 && inRange (f 1 19 0) 100 1000000 then
      some { p with dozeDelay := f 1 19 0, slumberEn := BitVec.ofNat 64 (join (wordAt w 2) (wordAt w 3))
                    activeSlumber := BitVec.ofNat 64 (join (wordAt w 4) (wordAt w 5)) } else none
  | 2 => if f 1 31 7 = 0 && inRange (f 1 6 0) 50 99 then some { p with benchPct := f 1 6 0 } else none
  | 3 => if f 1 31 3 = 0 then some { p with placePermit := f 1 2 0 } else none
  | 4 =>
    let l := (List.range 16).map fun c => (wordAt w (1 + c)).toNat
    if l.all fun t => inRange t 1 86400 then some { p with aging := l } else none
  | 5 =>
    if inRange (wordAt w 1).toNat 0 268435456 && inRange (wordAt w 2).toNat 0 1280000000 &&
        inRange (wordAt w 3).toNat 128 16777215 then
      some { p with quotaMax := (wordAt w 1).toNat, rateMax := (wordAt w 2).toNat, burstMax := (wordAt w 3).toNat }
    else none
  | 6 =>
    if f 1 31 29 = 0 && f 3 31 24 = 0 && f 4 31 2 = 0 then
      some { p with zone := ((wordAt w 1).toNat, (wordAt w 2).toNat, (wordAt w 3).toNat, (wordAt w 4).toNat) }
    else none
  | 7 =>
    if f 5 31 17 = 0 && inRange (f 5 15 0) 1 65535 then
      some { p with collector := if (w.drop 1).take 4 = [0, 0, 0, 0] then none else some ((w.drop 1).take 4, f 5 15 0, f 5 16 16) } else none
  | 8 =>
    let n := f 1 2 0
    let l := (List.range 4).map fun a => (w.drop (2 + 4 * a)).take 4
    if f 1 15 3 = 0 && decide (n ≤ 4) && decide (f 1 31 16 ≠ 0) && (l.drop n).all (fun a => a.all fun x => x == 0) then
      some { p with owners := (l.take n).filter fun a => a != [0, 0, 0, 0], listenPort := f 1 31 16 } else none
  | 9 =>
    let n := join (wordAt w 1) (wordAt w 2)
    if inRange n 0 500000000 then some { p with rateLimit := n } else none
  | 10 =>
    if (w.drop 1).all fun x => fld x 31 22 == 0 then some { p with bpm := some ((w.drop 1).map fun x => x.toNat) } else none
  | 11 => if f 1 31 10 = 0 && inRange (f 1 9 0) 0 1000 then some { p with puntFw := f 1 9 0 } else none
  | 12 => if f 1 31 8 = 0 then some { p with requiredBl := f 1 7 0 } else none
  | 13 => if f 1 31 1 = 0 then some { p with journal := f 1 0 0 == 1 } else none
  | 14 =>
    let ok (m : Nat) : Bool :=
      let g (hi lo : Nat) : Nat := f (1 + 12 * m) hi lo
      inRange (g 7 2) 1 32 && inRange (g 15 8) 1 128 &&
      decide (g 27 16 ≤ 4094) && g 31 28 == 0 && wordAt w (12 + 12 * m) == 0
    if ok 0 && ok 1 then some { p with mgmt := w.drop 1 } else none
  | _ => none

/-- Reads a list of records, each TYPE at most once. -/
def readRecords : Policy → List (Nat × List Word) → Option Policy
  | p, [] => some p
  | p, (ty, w) :: t =>
    if t.any fun x => x.1 == ty then none
    else match readRecord p ty w with
      | some q => readRecords q t
      | none => none

/-- The policy of an image's payload; no value where a record fails R489 or R490. ZONE_DEFAULT must lie
within the image's own limits. -/
def Slot.policy (g : Slot) : Option Policy :=
  match splitRecords (g.length / 4) (g.range 96 (g.length / 4 - 32)) with
  | none => none
  | some l =>
    match readRecords {} l with
    | none => none
    | some p =>
      if p.zone.1 ≤ p.quotaMax ∧ p.zone.2.1 ≤ p.rateMax ∧ 128 ≤ p.zone.2.2.1 ∧ p.zone.2.2.1 ≤ p.burstMax ∧ g.length % 4 = 0
      then some p else none

/-! ## Verification -/

/-- Digest of a public key of 24 words (15 R509). -/
def keyDigest (k : List Word) : List Word := (sha384 (wordsToBytes k)).toList

/-- Whether an owner slot is enrolled and not revoked (15 R520). -/
def Sec.usable (c : Sec) (k : Nat) : Bool := c.enrolled.getLsbD k && !c.revoked.getLsbD k

/-- 0 when the image verifies, else the reason of 14 R494, in the order of 15 R512's checks. The image the
module is delivered with verifies (log entry 19). -/
def State.imageReason (s : State) (policy : Bool) (g : Slot) : Nat :=
  if g.factory && g.words.isEmpty then (if g.arb < s.sec.fwArb then 3 else 0)
  else
    let key := g.range 64 24
    let fuses := if policy then s.sec.polArb else s.sec.fwArb
    let digestOk :=
      if policy then s.sec.usable g.keyIndex && decide (keyDigest key = tabGet [] s.sec.ownerDigest g.keyIndex)
      else decide (keyDigest key = Config.dreisaDigest.toList)
    if fld (g.word 0) 15 0 ≠ 0xD4E1 ∨ fld (g.word 0) 23 16 ≠ (if policy then 2 else 1) ∨ fld (g.word 0) 31 24 ≠ 1 then 5
    else if slotBytes policy < g.length + 256 ∨ (!g.factory && decide (g.written < g.length + 256)) = true then 6
    else if !digestOk then 1
    else if g.arb < fuses ∨ 64 < g.arb then 3
    else if (sha384 g.payload).toList ≠ g.range 8 12 then 2
    else if !ecdsaVerify key (sha384 (wordsToBytes (g.range 0 20))) (g.range 20 24) then 1
    else if policy ∧ g.policy = none then 7
    else 0

/-- IMG_VERIFY's reason: also a firmware level range that excludes a level in use (14 R494). -/
def State.verifyReason (s : State) (policy : Bool) (g : Slot) : Nat :=
  let outside (n : Nat) : Bool := decide (n ≠ 0 ∧ (n < g.blLow ∨ g.blHigh < n))
  let r := s.imageReason policy g
  if r = 0 ∧ !policy ∧ (outside s.hif.blPinned || outside s.img.policy.requiredBl) = true then 4 else r

/-- BPM quotas that the policy and firmware set: requesters 0 to 7 and 24 to 27, and 8 to 23 (05 R178; 14 R489). -/
def Policy.bpmQuota (p : Policy) (r pool : Nat) : Nat :=
  match p.bpm with
  | some l => if r < 8 then l.getD (4 * r + pool) 0 else l.getD (4 * (r - 16) + pool) 0
  | none =>
    if r < 8 then [8192, 16384, 1024, 0].getD pool 0 else [0, 4096, 0, 0].getD pool 0

/-- Writes the quotas of requesters below 32. -/
def State.setQuotas (s : State) : State :=
  let q (r pool : Nat) : Nat :=
    if r < 8 ∨ (24 ≤ r ∧ r < 28) then s.img.policy.bpmQuota r pool
    else if r < 24 then Config.firmwareQuota r pool % 2 ^ 22 else 0
  s.onBpm fun b => { b with
    quota := (List.range 128).foldl (fun t k => tabPut 0 k (q (k / 4) (k % 4)) t) b.quota }

/-- Puts the policy of slot b in force, by the slot's contents (14 R489; 15 R513). -/
def State.usePolicy (b : Nat) (g : Slot) (s : State) : State :=
  (s.onImg fun m => { m with
    policy := g.policy.getD {}, polVersion := g.version, polBank := some b, polKey := g.keyIndex, polActive := b
    m2 := (sha384 g.header).toList }).setQuotas

/-- Every policy record at its default (14 R489). -/
def State.noPolicy (s : State) : State :=
  (s.onImg fun m => { m with policy := {}, polVersion := 0, polBank := none, m2 := List.replicate 12 0 }).setQuotas

/-! ## Fuses (15 R508, R510, R520) -/

/-- A fuse of a burn that reads back wrong raises an event (16 R538). -/
def State.fuseWrong (did : Bool) (s : State) : State := s.onIf did fun a => a.raise { src := 1137, reason := 1, cls := 2 }

/-- An anti-rollback counter after a burn up to a target: a fuse that reads back wrong does not count (15 R510). -/
def burnCounter (b : Burn) (old target : Nat) : Nat := if b.wrong && decide (old < target) then target - 1 else max old target

/-- Fuses of a list of words. -/
def fuseCount (l : List Word) : Nat := (l.map fun w => ((List.range 32).filter fun i => w.getLsbD i).length).sum

/-- The first k fuses of a list of words, lowest offset first. -/
def burnWords : Nat → List Word → List Word
  | _, [] => []
  | k, w :: t =>
    let l := (List.range 32).filter fun i => w.getLsbD i
    wd (maskOf (l.take k)) :: burnWords (k - l.length) t

/-- Owner digests that a burn from one OTP to another writes. -/
def Sec.newDigests (a b : Sec) : List (Nat × List Word) := b.ownerDigest.filter fun e => tabFind a.ownerDigest e.1 != some e.2

/-- Fuses that a burn from one OTP to another takes. -/
def Sec.burned (a b : Sec) : Nat :=
  ((a.newDigests b).map fun e => fuseCount e.2).sum + (bitsOf 4 (b.enrolled &&& ~~~ a.enrolled).toNat).length + (bitsOf 4 (b.revoked &&& ~~~ a.revoked).toNat).length +
    (b.fwArb - a.fwArb) + (b.polArb - a.polArb)

/-- The OTP when k of those fuses are burned, fewer than all: a digest's come first and ENROLLED or REVOKED last (15 R510, R520). -/
def Sec.partBurn (a b : Sec) (k : Nat) : Sec :=
  { a with
    ownerDigest := (a.newDigests b).foldl (fun t e => tabIns e.1 (burnWords k e.2) t) a.ownerDigest
    fwArb := min b.fwArb (a.fwArb + k), polArb := min b.polArb (a.polArb + k) }

/-- The staged policy goes in force and its ARB is burned, as a commit publishes it (14 R496; 15 R510). -/
def State.commitPolicy (b : Burn) (s : State) : State :=
  match s.img.polStaged with
  | none => s
  | some (bank, g) =>
    (((s.usePolicy bank g).onImg fun m => { m with polStaged := none }).onSec fun c => { c with
      polArb := burnCounter b c.polArb g.arb }).fuseWrong (b.wrong && decide (s.sec.polArb < g.arb))

end Sys2Proof.Machine
end

