-- ==== Sys2Proof/Machine/Reset.lean ====
section
/-!
DEFINITION. What each reset covers (03 R95, R96, R101, R102; 16 R540, R550), the loss of input power (02
R71), and the journal restore (03 R97, R103; 14 R498).
-/

namespace Sys2Proof.Machine

open Sys2Proof

/-! ## Retention (03 R101) -/

/-- The flow store, the archive and the port allocations empty; FORMAT_ID runs on (03 R102; 09 R346; 10 R354). -/
def State.dropStore (s : State) : State :=
  { s with flo := { formatId := s.flo.formatId }, prg := {}, tbl := { s.tbl with master := [] } }

/-- What a kept store keeps: records, salt, archive and the allocations; the engines' work is class V. -/
def State.keepStore (s : State) : State :=
  { s with
    flo := { formatted := s.flo.formatted, formatId := s.flo.formatId, salt := s.flo.salt,
             archiveGib := s.flo.archiveGib, recs := s.flo.recs, head := s.flo.head, archive := s.flo.archive }
    prg := { nat := s.prg.nat, freed := s.prg.freed, ptr := s.prg.ptr } }

/-- Live conditions that outlast a reset of the FLT block: Cairn's (16 R540) and the debug lockout (16 R538). A
reference that is absent is found absent anew as firmware starts. -/
def lastingCondition (e : Nat × Nat) : Bool := cairnSource e.1 || decide (e = (1151, 3))

/-- Mask of the Cairn sources. -/
def cairnMask : BitVec 1152 := BitVec.ofNat 1152 ((2 ^ 16 - 1) * 2 ^ 1128)

/-- The FLT block after a reset: Cairn-held status stays (16 R540). -/
def State.resetFlt (s : State) : State :=
  s.onFlt fun f =>
    { evt := f.evt &&& cairnMask, flt := f.flt &&& cairnMask, fatal := f.fatal &&& cairnMask,
      alertEn := f.alertEn &&& cairnMask, live := f.live.filter lastingCondition, resetCause := f.resetCause }

/-- The HIF block after a reset: CURRENT is class A, session and channel numbers are not used again (04 R118, R134). -/
def State.resetHif (keepMsix : Bool) (s : State) : State :=
  s.onHif fun h =>
    { epoch := h.epoch, nextSession := h.nextSession, nextChannel := h.nextChannel, snapId := h.snapId
      msix := if keepMsix then h.msix else [] }

/-- The journal after a reset: a segment whose seal has not completed keeps no trailer (14 R602). -/
def State.resetJournal (s : State) : State :=
  s.onImg fun m => { m with
    open_ := none
    segs := (match m.open_ with | some g => m.segs ++ [g] | none => m.segs).map fun g : Segment => { g with sealing := false } }

/-- Class V of the GCC domain, the cells, lanes and ridges, and the staged configuration (03 R95, R101, R604).
CURRENT's configuration returns to its Reset values until the journal restores it. -/
def State.resetDomains (keepMsix keep : Bool) (s : State) : State :=
  let t := if keep then s.keepStore else s.dropStore
  let u : State := { t with
    img := { t.img with polStaged := none }
    stg := { coldZone := s.stg.coldZone, coldAging := s.stg.coldAging, salt := s.stg.salt }
    rng := {}, bpm := {}, pmu := {}, prt := [], cel := [], frm := { next := s.frm.next }
    tbl := { master := t.tbl.master }, fab := {}, egr := {}, ctr := [], shadow := [] }
  (u.resetFlt.resetHif keepMsix).resetJournal

/-- Where a reset that begins now returns to (03 R97): Standby, too, where a thermal move is ordered and waits (18 R588). -/
def State.resetTarget (s : State) : ModState :=
  if s.crn.thermal then .standby
  else match s.crn.trans with
  | some t => if t.thermal then .standby else t.back
  | none => if s.crn.mod = .watch then s.crn.afterWatch else s.crn.mod

/-- Ends a firmware trial, as the reset that ends it begins (14 R495). -/
def State.endTrial (s : State) : State :=
  if s.img.trial && decide (s.img.fwBank ≠ s.img.fwActive) then
    (s.onImg fun m => { m with trial := false, reverted := true }).raise { src := 1128, reason := 2, cls := 2 }
  else s

/-- Drops the PMU registers, counters, held words and sampling settings of the blocks that a reset or a loss of power covers (17 R560). -/
def State.pmuDrop (gone : Nat → Bool) (s : State) : State :=
  s.onPmu fun p => { p with
    regs := p.regs.filter fun e => !gone (e.1 / 128), cnt := p.cnt.filter fun e => !gone (e.1 / 16)
    ovf := p.ovf.filter fun e => !gone e.1
    low := p.low.filter fun e => !(match pmuWindow (e.1 % 2 ^ 22) with | some (b, _) => gone b | none => false)
    held := p.held.filter fun e => !gone e.1, sample := p.sample.filter fun e => !gone e.1
    sampleBucket := p.sampleBucket.filter fun e => !gone e.1, keys := p.keys.filter fun e => !gone e.1 }

/-- Performs a reset that boots firmware: the domains it covers, then the wait for the boot ROM (03 R95 to R99).
`keep` says that the flow store survives. -/
def State.applyReset (k : ResetKind) (back : ModState) (keep : Bool) (s : State) : State :=
  let whole := decide (k = .module ∨ k = .fatal ∨ k = .watchExit)
  let t := s.resetDomains (!whole) keep
  let u := t.onCrn fun c => { c with
    trans := some { kind := .reset k, back := back }, fwRuns := false, cause := k, storeKept := keep
    wdArmed := false, wdDeferred := false, draining := false, thermal := false, fatalTrig := none, resetAsked := false
    pcieUp := c.pcieUp && !whole }
  let v := u.onTim fun m => { m with lock := 0 }
  if whole then v.onSec fun c => { c with unlocked := 0, armScope := 0, armUntil := 0 } else v

/-- A reset begins. With preserve-on-warm set, a warm or watchdog reset in Run waits for the drain (03 R104). -/
def State.beginReset (k : ResetKind) (s : State) : State :=
  let back := s.resetTarget
  let canKeep := s.crn.preserve && decide (k = .warm ∨ k = .watchdog)
  if canKeep ∧ s.crn.mod = .run then
    (s.onCrn fun c => { c with
      trans := some { kind := .reset k, back := back }, draining := true, fwRuns := false, wdArmed := false, wdDeferred := false }).onHif fun h =>
        { h with blLow := 0, blHigh := 0, ready := false }
  else s.applyReset k back canKeep

/-! ## Journal restore (03 R97, R103) -/

/-- A segment without a matching trailer is discarded at replay, and every segment after it (14 R498). -/
def State.dropUnsealed (s : State) : State :=
  if s.img.segs.any fun g => g.sealedAt.isNone && !g.sealing then
    (s.onImg fun m => { m with segs := m.segs.takeWhile fun g => g.sealedAt.isSome }).raise { src := 1128, reason := 3, cls := 1 }
  else s

/-! ## Loss of input power (02 R71) -/

/-- The module without input power: flash, OTP and life counters stay; the board's pins and references stay as
they are; the comparator's latch stays (18 R589). -/
def State.powerOff (s : State) : State :=
  let t := s.resetJournal
  { crn := { prstN := s.crn.prstN, perstN := s.crn.perstN }
    sup := { surgeLife := s.sup.surgeLifeFlash, surgeLifeFlash := s.sup.surgeLifeFlash,
             runBase := s.sup.runFlash, runFlash := s.sup.runFlash, hotBase := s.sup.hotFlash, hotFlash := s.sup.hotFlash, tripLatch := s.sup.tripLatch, ovStop := s.sup.ovStop }
    tim := { sdsref := s.tim.sdsref }
    img := { fw := t.img.fw, pol := t.img.pol, fwActive := t.img.fwActive, trial := t.img.trial, reverted := t.img.reverted,
             polActive := t.img.polActive, segs := t.img.segs, nextSeg := t.img.nextSeg }
    sec := { ownerDigest := s.sec.ownerDigest, enrolled := s.sec.enrolled, revoked := s.sec.revoked,
             fwArb := s.sec.fwArb, polArb := s.sec.polArb, jtagLocked := s.sec.jtagLocked }
    out := s.out, draw := s.draw, pending := s.pending }

/-- A command whose burn power loss interrupts leaves the fuses burned so far, and the module without power (15 R510, R520). -/
def interruptBurn (b : Burn) (s : State) (x : Res) : Res :=
  match b.cut, x with
  | some k, .next t => if k < s.sec.burned t.sec then .next ({ s with sec := s.sec.partBurn t.sec k }).powerOff else x
  | _, _ => x

end Sys2Proof.Machine
end

