-- ==== Sys2Proof/Machine/Session.lean ====
section
/-!
DEFINITION. Sessions, COMMIT, staging, snapshots and undefined opcodes (04 R134 to R146).
-/

namespace Sys2Proof.Machine

open Sys2Proof

/-- SESSION_OPEN (04 R135, R144; 14 R503). -/
def execSessionOpen (r : Req) (s : State) : Res :=
  mailbox 0x0001 r s
    (fun q => { opens := true, bad := q.rsv [(4, 31, 8)] || q.f 4 7 0 == 0, ext := some 1
                bl := decide (q.f 4 7 0 < s.hif.blLow ∨ s.hif.blHigh < q.f 4 7 0) })
    fun q =>
      let l := q.f 4 7 0
      let ch := match q.via with | .remote c => some c | _ => none
      let full := match q.via with
        | .remote _ => decide (4 ≤ s.remoteSessions)
        | _ => decide (8 ≤ s.localSessions)
      if (s.hif.blPinned ≠ 0 ∧ s.hif.blPinned ≠ l) ∨ (s.img.policy.requiredBl ≠ 0 ∧ s.img.policy.requiredBl ≠ l) then
        { status := stRefused, st := s }
      else if full then { status := stNoSpace, st := s }
      else
        { words := [wd s.hif.nextSession, wd (l + s.hif.blLow * 2 ^ 8 + s.hif.blHigh * 2 ^ 16), wd s.hif.fwVersion,
            wd s.hif.epoch] ++ two Config.macBase.toNat
          st := s.onHif fun h => { h with
            sessions := h.sessions ++ [{ id := h.nextSession, channel := ch }]
            nextSession := h.nextSession + 1, blPinned := l } }

/-- Closes the sessions that a test names; the pin lapses with the last one (04 R135, R136). -/
def State.closeSessions (p : Session → Bool) (s : State) : State :=
  s.onHif fun h =>
    let l := h.sessions.filter fun e => !p e
    { h with sessions := l, blPinned := if l = [] then 0 else h.blPinned }

/-- SESSION_CLOSE (04 R136). -/
def execSessionClose (r : Req) (s : State) : Res :=
  mailbox 0x0002 r s (fun _ => { ext := some 0 }) fun q => { st := s.closeSessions fun e => e.id == q.session }

/-- A cell reset is in progress (04 R138). -/
def State.cellResetting (s : State) : Bool := (List.range 64).any fun c => (s.cell c).resetting

/-- COMMIT (04 R137, R138; 16 R546). -/
def execCommit (r : Req) (b : Burn) (s : State) : Res :=
  interruptBurn b s <| mailbox 0x0010 r s (fun _ => { locks := true, busy := s.hif.pend || s.changing || s.cellResetting, ext := some 0 })
    fun _ =>
      if s.pfwLow then { status := stRefused, st := s }
      else if !s.stg.flag then { words := wd (s.hif.epoch + 2 ^ 16) :: two s.hif.epochTime, st := s }
      else
        let t := ((s.commitPolicy b).publish (decide (s.crn.mod = .run)) s.stg.staged s.stg.log).onStg fun g =>
          { g with flag := false, log := [], lbStaged := 0 }
        let u := (t.onIf (decide (s.crn.mod ≠ .run)) fun a => a.parkPorts s.stg.cur).onCrn fun c => { c with published := true }
        { words := wd u.hif.epoch :: two u.hif.epochTime, st := u }

/-- EPOCH_STATUS (04 R146). -/
def execEpochStatus (r : Req) (s : State) : Res :=
  mailbox 0x0011 r s (fun _ => { ext := some 0 }) fun _ =>
    { words := s.hifEpoch :: (two s.hif.applied.toNat ++ two s.hif.isolated.toNat ++ two s.hif.epochTime), st := s }

/-- Drops everything staged (04 R145). -/
def State.discardStaged (s : State) : State :=
  (s.onStg fun g => { g with staged := g.cur, flag := false, log := [], lbStaged := 0 }).onImg fun m =>
    { m with polStaged := none }

/-- STAGE_DISCARD (04 R145). -/
def execStageDiscard (r : Req) (s : State) : Res :=
  mailbox 0x0012 r s (fun _ => { ext := some 0 }) fun _ => { st := s.discardStaged }

/-- STATS_SNAPSHOT: the instant is 2 µs after the arrival, and the answer comes with SNAPSHOT_DONE (04 R125, R142). -/
def execStatsSnapshot (r : Req) (s : State) : Res :=
  mailbox 0x0020 r s (fun _ => { busy := s.snapping, ext := some 0 }) fun q =>
    { wait := some .snapshot, need := 3
      st := s.onHif fun h =>
        let t := (s.takenAt q.via + 2000) % 2 ^ 64
        { h with snapAt := t, snapCopy := if t ≤ s.now then some (tabKeep shadowed s.ctr) else none } }

/-- SNAPSHOT_DONE: the copies are complete, the bit is set and the command answers (04 R142, R146). -/
def execSnapshotDone (slots : BitVec 8) (s0 : State) : Res :=
  let s := (s0.sees slots).snapTake
  .next (match s.hif.snapCopy with
  | some l =>
    let t := ({ s with shadow := l }.onHif fun h =>
      { h with snapId := (h.snapId + 1) % 2 ^ 32, snapOk := true, snapCopy := none }).irq 3
    t.answerDeferred (fun k => decide (k = .snapshot)) fun _ => wd t.hif.snapId :: two t.hif.snapAt
  | none => s)

/-- Opcodes that are defined at BL1 (04 R143 and the tables of the other chapters). -/
def definedOpcodes : List Nat :=
  [0x0001, 0x0002, 0x0010, 0x0011, 0x0012, 0x0020,
   0x0100, 0x0101, 0x0102, 0x0103, 0x0110, 0x0111, 0x0112, 0x0120,
   0x0201, 0x0202, 0x0203, 0x0204, 0x0301, 0x0302, 0x0303,
   0x0401, 0x0402, 0x0403, 0x0404, 0x0410, 0x0411, 0x0412, 0x0420, 0x0421, 0x0430,
   0x0501, 0x0502, 0x0510, 0x0511, 0x0512, 0x0513, 0x0520, 0x0521, 0x0522, 0x0530, 0x0531, 0x0540, 0x0550, 0x0560,
   0x0601, 0x0602, 0x0603, 0x0604, 0x0610, 0x0611, 0x0612, 0x0620, 0x0630,
   0x0701, 0x0702, 0x0710, 0x0720, 0x0721, 0x0730, 0x0740, 0x0750,
   0x0801, 0x0802, 0x0810, 0x0811, 0x0820, 0x0901, 0x0902, 0x0903, 0x0904, 0x0910,
   0x0A01, 0x0A02, 0x0A03, 0x0A04, 0x0A0F, 0x0A10, 0x0A20, 0x0A21,
   0x0B01, 0x0B02, 0x0B03, 0x0B04, 0x0B05, 0x0B06,
   0x0C01, 0x0C02, 0x0C03, 0x0C04, 0x0C05, 0x0C06, 0x0C07, 0x0C08,
   0x0D01, 0x0D02, 0x0D03, 0x0D04, 0x0D05, 0x0D06, 0x0E01, 0x0E02, 0x0E03]

/-- A command whose opcode is not defined is answered INVALID and changes nothing (04 R143). -/
def execUnknownOpcode (op : Nat) (r : Req) (s : State) : Res :=
  if definedOpcodes.contains op || decide (2 ^ 16 ≤ op) then .next s
  else mailbox op r s (fun _ => { bad := true }) fun _ => { status := stInvalid, st := s }

end Sys2Proof.Machine
end

