-- ==== Sys2Proof/Machine/Rings.lean ====
section
/-!
DEFINITION. Descriptor, completion and event rings, the punt path and the buffer pool manager (05).
-/

namespace Sys2Proof.Machine

open Sys2Proof

/-! ## Buffer pool manager (05 R175 to R184) -/

/-- Buffer sizes and counts of the pools (05 R175). -/
def poolBytes (p : Nat) : Nat := [256, 2048, 16384, 131072].getD p 0
def poolCount (p : Nat) : Nat := [2097152, 524288, 65536, 8192].getD p 0

/-- Key of a buffer. -/
def bufKey (pool index : Nat) : Nat := pool * 2 ^ 21 + index

def State.poolUsed (s : State) (pool : Nat) : Nat := (s.bpm.owner.filter fun e => e.1 / 2 ^ 21 == pool).length
def State.poolFree (s : State) (pool : Nat) : Nat := poolCount pool - s.poolUsed pool
def State.bpmUsed (s : State) (r pool : Nat) : Nat :=
  (s.bpm.owner.filter fun e => e.1 / 2 ^ 21 == pool && e.2 == r).length
def State.bpmQuota (s : State) (r pool : Nat) : Nat := tabGet 0 s.bpm.quota (4 * r + pool)

/-- A handle's fields (05 R179). -/
def hIndex (h : Word) : Nat := fld h 20 0
def hOwner (h : Word) : Nat := fld h 26 21
def hGen (h : Word) : Nat := fld h 29 27
def hPool (h : Word) : Nat := fld h 31 30
def hKey (h : Word) : Nat := bufKey (hPool h) (hIndex h)
def mkHandle (pool index owner gen : Nat) : Word := wd (index + owner * 2 ^ 21 + gen * 2 ^ 27 + pool * 2 ^ 30)

/-- The pool that a request of a size takes a buffer from (05 R176, R177), or its status. A request of 0 bytes or of more than 131,072 is
INVALID in single-size mode too (log entry 129). -/
def State.poolFor (s : State) (size : Nat) : Except Nat Nat :=
  if size = 0 ∨ 131072 < size then .error stInvalid
  else if s.bpm.four then .ok (if size ≤ 256 then 0 else if size ≤ 2048 then 1 else if size ≤ 16384 then 2 else 3)
  else if 2048 < size then .error stRefused
  else .ok 1

/-- A free buffer of a pool at or after a drawn index: which one the module takes is not stated (log entry 15). -/
def Bpm.pick (b : Bpm) (pool start : Nat) : Nat :=
  let run (i : Nat) : Nat := b.owner.foldl (fun j e => if e.1 = bufKey pool j then j + 1 else j) i
  let j := run start
  if j < poolCount pool then j else run 0

/-- An allocation for a requester: status, handle, state (05 R176 to R178). -/
def State.bpmAlloc (r size : Nat) (s : State) : Nat × Word × State :=
  match s.poolFor size with
  | .error e => (e, 0, s)
  | .ok pool =>
    if s.poolFree pool = 0 ∨ s.bpmQuota r pool ≤ s.bpmUsed r pool then (stNoSpace, 0, s)
    else
      let d := s.drawNat
      let i := s.bpm.pick pool (d.1 % poolCount pool)
      let k := bufKey pool i
      (stOk, mkHandle pool i r (tabGet 0 s.bpm.gen k), d.2.onBpm fun b => { b with owner := tabIns k r b.owner })

/-- Whether a handle names a buffer that this requester owns, at the current generation (05 R180). -/
def State.ownsHandle (s : State) (r : Nat) (h : Word) : Bool :=
  hOwner h == r && decide (tabFind s.bpm.owner (hKey h) = some r) && tabGet 0 s.bpm.gen (hKey h) == hGen h

/-- Frees a buffer; its generation advances (05 R179). -/
def State.bpmRelease (k : Nat) (s : State) : State :=
  s.onBpm fun b => { b with owner := tabDel k b.owner, gen := tabMod 0 k (fun g => (g + 1) % 8) b.gen, data := tabDel k b.data }

/-- The KIND 5 event of a refused free or transfer: the handle and the requester (05 R180, log entry 20). -/
def State.bpmRefusal (h : Word) (r : Nat) (own : Bool) (s : State) : State :=
  s.kindEvent 5 0 1145 [h, wd r] own

/-- A free by a requester: status and state (05 R180). -/
def State.bpmFree (r : Nat) (h : Word) (own : Bool) (s : State) : Nat × State :=
  if s.ownsHandle r h then (stOk, s.bpmRelease (hKey h)) else (stRefused, s.bpmRefusal h r own)

/-- A transfer by a requester: status, new handle, state (05 R180). -/
def State.bpmTransfer (r dst : Nat) (h : Word) (own : Bool) (s : State) : Nat × Word × State :=
  if (28 ≤ dst ∧ dst < 32) ∨ 63 < dst then (stInvalid, 0, s)
  else if !s.ownsHandle r h then (stRefused, 0, s.bpmRefusal h r own)
  else if s.bpmQuota dst (hPool h) ≤ s.bpmUsed dst (hPool h) then (stNoSpace, 0, s)
  else (stOk, mkHandle (hPool h) (hIndex h) dst (hGen h), s.onBpm fun b => { b with owner := tabIns (hKey h) dst b.owner })

/-- Bytes of a buffer; bytes that nothing has written are free values (log entry 3). -/
def State.bufferBytes (s : State) (k off n : Nat) : List Byte × State :=
  let have_ := tabGet [] s.bpm.data k
  let d := s.drawNat
  ((List.range n).map fun i =>
    match have_[off + i]? with
    | some b => b
    | none => BitVec.ofNat 8 (Config.freeNat (d.1 + off + i)), d.2)

/-- Writes bytes into a buffer. -/
def State.bufferWrite (k off : Nat) (b : List Byte) (s : State) : State :=
  s.onBpm fun m =>
    let old := tabGet [] m.data k
    let pad := (List.range (off - old.length)).map fun i => BitVec.ofNat 8 (Config.freeNat (k + i))
    { m with data := tabIns k (putBytes (old ++ pad) off b) m.data }

/-- The host reaches BAR0 while the PCI Express link is up, a warm or a watchdog reset included (03 R99; 04 R118, R605). -/
def State.hostAccess (s : State) : Bool := s.crn.pcieUp

/-- What a host access at a BAR0 offset does; the GCC counts it (17 R567). -/
def State.access (off : Nat) (f : State → State) (s : State) : State :=
  if s.hostAccess then f (s.pmuEvent 200 0x05 1 { addr := some off }) else s

/-- BPM_ALLOC_REQ (05 R176, R183). -/
def execBpmAllocReq (q : Fin 32) (v : Word) (s : State) : Res :=
  .next (s.access (0x21000 + 0x20 * q.val) fun s =>
    let a := s.bpmAlloc (32 + q.val) (fld v 17 0)
    a.2.2.onBpm fun b => { b with
      allocStatus := tabPut 0 q.val a.1 b.allocStatus, allocHandle := tabPut 0 q.val a.2.1.toNat b.allocHandle })

/-- BPM_FREE (05 R180, R183). -/
def execBpmFree (q : Fin 32) (v : Word) (own : Bool) (s : State) : Res :=
  .next (s.access (0x2100C + 0x20 * q.val) fun s =>
    let a := s.bpmFree (32 + q.val) v own
    a.2.onBpm fun b => { b with opStatus := tabPut 0 q.val a.1 b.opStatus })

/-- BPM_XFER (05 R180, R183). -/
def execBpmXfer (q : Fin 32) (v : Word) (own : Bool) (s : State) : Res :=
  .next (s.access (0x21014 + 0x20 * q.val) fun s =>
    let a := s.bpmTransfer (32 + q.val) (tabGet 0 s.bpm.xferTo q.val) v own
    a.2.2.onBpm fun b => { b with
      opStatus := tabPut 0 q.val a.1 b.opStatus
      opHandle := if a.1 = stOk then tabPut 0 q.val a.2.1.toNat b.opHandle else b.opHandle })

/-! ## Punts (05 R166 to R168) -/

/-- Target of a punt reason under a configuration: 0x100 firmware, 0x1FF drop, else an RX ring (05 R187). -/
def puntTarget (c : Cfg) (reason : Nat) : Nat := (wordAt (cfgWords c 0x0202 reason [0x100]) 0).toNat

/-- Takes one token from each bucket of a list, or from none: rate and depth in tokens per second and tokens, and the cost. -/
def takeAll (t : Nat) (l : List (Bucket × Nat × Nat × Nat)) : Bool × List Bucket :=
  let r := l.map fun x => (x.1.refill x.2.1 t, x.2.2.1, x.2.2.2)
  if r.all fun x => x.1.has x.2.1 x.2.2 then (true, r.map fun x => x.1.take x.2.2) else (false, r.map fun x => x.1)

/-- The token buckets that a punt of so many bytes passes: the cell's, the module's of frames and of bits, and the cell's
of firmware, each with rate, depth and cost; and whether it passes them (05 R168). -/
def State.puntTokens (s : State) (c bytes : Nat) (fw : Bool) : Bool × List Bucket :=
  takeAll s.tim.up
    [(tabGet {} s.rng.puntBucket c, tabGet 1000 s.rng.puntLimit c * 1000, 1 + Config.rateDepth 0, 1),
     (s.rng.puntAll, 16000000, 1 + Config.rateDepth 1, 1),
     (s.rng.puntBits, 64000000000, 73728 + Config.rateDepth 2, 8 * bytes),
     (tabGet {} s.rng.puntFw c, s.img.policy.puntFw * 1000, 1 + Config.rateDepth 3, if fw then 1 else 0)]

/-- Punts a frame of a cell: it takes a DRAM buffer, or is dropped and counted (05 R167, R168). -/
def State.punt (c port reason : Nat) (data : List Byte) (ts : Nat) (s : State) : State :=
  let target := puntTarget (s.cellCfg c) reason
  let drop (s : State) : State := s.bump 16 c 0 1
  let fw := decide (target = 0x100)
  let b := s.puntTokens c data.length fw
  if target = 0x1FF ∨ tabGet 1000 s.rng.puntLimit c = 0 ∨ (fw ∧ s.img.policy.puntFw = 0) then drop s
  else
    let t := s.onRng fun r => { r with
      puntBucket := tabPut {} c (b.2.getD 0 {}) r.puntBucket, puntAll := b.2.getD 1 {}
      puntBits := b.2.getD 2 {}, puntFw := tabPut {} c (b.2.getD 3 {}) r.puntFw }
    if !b.1 then drop t
    else
      let a := t.bpmAlloc (c / 8) data.length
      if a.1 ≠ stOk then drop t
      else (a.2.2.bufferWrite (hKey a.2.1) 0 data).onRng fun r => { r with
        punts := r.punts ++ [{ data := data, cell := c, port := port, reason := reason, ts := ts, target := target,
                               handle := a.2.1.toNat }] }

/-- Removes a punt and frees its buffer. -/
def State.endPunt (p : Punt) (s : State) : State :=
  (s.bpmRelease (hKey (wd p.handle))).onRng fun r => { r with punts := r.punts.filter fun x => x.handle != p.handle }

/-- Firmware takes the oldest punt of a cell whose target is firmware (05 R167; 13 R474). -/
def execFirmwarePuntReceive (c : Fin 64) (s : State) : Res :=
  .next (match s.rng.punts.find? fun p => p.cell == c.val && p.target == 0x100 with
    | some p => if s.crn.fwRuns then s.endPunt p else s
    | none => s)

/-! ## Completions (05 R154, R169, R170) -/

/-- The completion ring of a descriptor ring. -/
def State.cqOf (s : State) (i : Nat) : Nat := 512 + (s.ring i).cq

/-- Descriptors in progress whose completions go to completion ring q. -/
def State.inProgress (s : State) (q : Nat) : Nat :=
  (s.rng.rings.map fun e => if e.1 < 512 then (e.2.busy.filter fun d => d.cq.val == q).length else 0).sum

/-- HELD plus the descriptors in progress. -/
def State.cqLoad (s : State) (q : Nat) : Nat := (s.ring (512 + q)).held.length + s.inProgress q

def cstallBit (q : Nat) : BitVec 64 := BitVec.ofNat 64 (2 ^ q)

/-- Stalls completion ring q once the completions held and the descriptors in progress are 32; DETAIL of its event is the completion ring's
number (05 R169; log entry 130). -/
def State.cqStall (q : Nat) (s : State) : State :=
  if 32 ≤ s.cqLoad q ∧ !s.rng.cstall.getLsbD q then
    (s.onRng fun r => { r with cstall := r.cstall ||| cstallBit q }).raise { src := 1145, reason := 1, cls := 0, detail := q }
  else s

/-- Seconds [15:0] and nanoseconds of a timestamp in 2^-16 ns (05 R154). -/
def tsWords (ts : Nat) : Nat × Nat := (ts / 2 ^ 16 / 10 ^ 9 % 2 ^ 16, ts / 2 ^ 16 % 10 ^ 9)

/-- A completion entry (05 R154). -/
def completionWords (i : Nat) (d : Desc) : List Word :=
  let t := tsWords (d.ts.getD 0)
  [wd (d.len + d.status.getD 0 * 2 ^ 18 + b2n d.more * 2 ^ 22 + b2n d.ts.isSome * 2 ^ 23 + 2 ^ 31),
   wd (fld (wordAt d.data 1) 15 0 + i * 2 ^ 16),
   wd (d.port + d.reason * 2 ^ 10 + t.1 * 2 ^ 16), wd t.2]

/-- The stall of completion ring q ends once fewer than 32 are held or in progress (05 R170). -/
def State.cqResume (q : Nat) (s : State) : State :=
  if s.cqLoad q < 32 then s.onRng fun r => { r with cstall := r.cstall &&& ~~~ cstallBit q } else s

/-- Writes up to n held completions of completion ring q into free slots (05 R170). -/
def State.cqFlush (q n : Nat) (s : State) : State :=
  let l := (s.ring (512 + q)).held
  if s.crn.pcieUp then
    let t := (l.take n).foldl (fun a e => a.writeEntry (512 + q) 16 e) s
    (t.onRing (512 + q) fun g => { g with held := l.drop n }).cqResume q
  else s

/-! ## Scans (05 R161, R162, R170) -/

/-- Takes owned descriptors into a ring's cache: the entries read from a slot on, up to the first with OWN = 0 or the first that the
module still holds; whether it stopped for want of room, which it does at the sixteenth without a look at the entry after it (log entries 99
and 131). -/
def takeOwned (size : Nat) (held : Nat → Bool) : Nat → Nat → List (List Word) → List Desc × Bool
  | 0, _, _ => ([], true)
  | _, _, [] => ([], false)
  | n + 1, slot, e :: t =>
    if bit (wordAt e 0) 31 && !held (slot % size) then
      let r := takeOwned size held n (slot + 1) t
      ({ slot := slot % size, data := e } :: r.1, r.2)
    else ([], false)

/-- A scan of ring i over the entries read from POS on; one that the stall of its completion ring forbids waits (05 R161, R162, R169). -/
def State.scanRing (i : Nat) (entries : List (List Word)) (s : State) : State :=
  let g := s.ring i
  if !g.enable then s
  else if s.rng.cstall.getLsbD g.cq then s.onRing i fun g => { g with scan := true }
  else
    let size := 2 ^ g.log2size
    let l := takeOwned size (fun k => (g.cache ++ g.busy).any fun d => d.slot == k) (16 - g.cache.length) g.pos (entries.take size)
    s.onRing i fun g => { g with cache := g.cache ++ l.1, pos := (g.pos + l.1.length) % size, scan := l.2 }

/-- Scans that had stopped short go on without a doorbell, with what they read (05 R162, R170). -/
def State.rescan (l : List Scan) (s : State) : State :=
  l.foldl (fun a x => if (a.ring x.ring.val).scan then a.scanRing x.ring.val x.entries else a) s

/-- The completion status of a finished descriptor is recorded; its entry follows with DESCRIPTOR_DONE. -/
def State.finishDesc (i slot status len : Nat) (ts : Option Nat) (s : State) : State :=
  let fin (d : Desc) : Desc := { d with status := some status, len := len, ts := ts }
  s.onRing i fun g => { g with busy := updWhere (fun d => d.slot == slot && d.status.isNone) fin g.busy }

/-- A descriptor that failed on the bus raises an event: a DMA read (5) or write (6) of a host address (16 R538, R547). -/
def State.busError (access addr : Nat) (s : State) : State :=
  s.raise { src := 1145, reason := 2, cls := 1, access := access, addr := addr }

/-- The oldest flushed descriptor of a ring whose others are done is in progress, when its completion has room (05 R169, R173). -/
def State.flushNext (i : Nat) (s : State) : State :=
  let g := s.ring i
  match g.busy, g.cache with
  | [], d :: rest =>
    if d.status.isSome && decide (s.cqLoad g.cq < 32) then
      (s.onRing i fun g => { g with busy := [{ d with cq := Fin.ofNat 64 g.cq }], cache := rest }).cqStall g.cq
    else s
  | _, _ => s

/-- DESCRIPTOR_DONE: the oldest descriptor of the ring, once finished, has its OWN cleared and its completion
written or held (05 R158, R159, R169), or discarded (04 R114). FREE_AFTER frees its buffer first, or has the free refused (05 R180, R181);
`evOwn` is the OWN bit found in the event ring. While the PCI Express link is down it stays in progress (log entry 100). The ring's
REQUESTER and BASE as they are now decide, and the completion ring of its start (log entry 101). -/
def execDescriptorDone (i : Fin 512) (own evOwn : Bool) (scans : List Scan) (s0 : State) : Res :=
  let s := s0.flushNext i.val
  let g := s.ring i.val
  .next ((match g.busy with
  | [] => s
  | d :: rest =>
    if d.status.isNone || (!d.lost && !s.crn.pcieUp) then s
    else
      let q := d.cq.val
      let due := fld (wordAt d.data 0) 21 18 == 1 && bit (wordAt d.data 5) 15 && decide (i.val < 256) && !inRange (d.status.getD 0) 1 4
      let t := s.onIf due fun a => (a.bpmFree (32 + g.requester) (wordAt d.data 4) evOwn).2
      if d.lost then (t.onRing i.val fun g => { g with busy := rest }).cqResume q else
      let u := (t.hostWrite (g.base + 32 * d.slot) [wd (fld (wordAt d.data 0) 30 0)]).onRing i.val fun g => { g with busy := rest }
      let e := completionWords i.val d
      if own = false ∧ (u.ring (512 + q)).held = [] then (u.writeEntry (512 + q) 16 e).cqResume q
      else (u.onRing (512 + q) fun c => { c with held := c.held ++ [e] }).cqStall q).rescan scans)

/-- COMPLETION_DOORBELL (05 R170). `free` counts the free slots found from POS on. -/
def execCompletionDoorbell (q : Fin 64) (free : Nat) (scans : List Scan) (s : State) : Res :=
  .next (s.access (0x8800 + 4 * q.val) fun s => (s.cqFlush q.val free).rescan scans)

/-! ## Events (05 R171) -/

/-- Writes the KIND 15 entry and queued events of event ring q into free slots (05 R171). -/
def State.eqFlush (q n : Nat) (s : State) : State :=
  let i := 576 + q
  let g := s.ring i
  if s.crn.pcieUp && g.enable && decide (0 < n) then
    let lost := decide (0 < g.lostNew)
    let k := if lost then n - 1 else n
    let t := s.onIf lost fun a =>
      (a.writeEvent i (eventWords 15 0 0 a.now [wd g.lostNew])).onRing i fun g => { g with lostNew := 0 }
    ((g.held.take k).foldl (fun a e => a.writeEvent i e) t).onRing i fun x => { x with held := g.held.drop k }
  else s

/-- EVENT_DOORBELL (05 R171). -/
def execEventDoorbell (q : Fin 32) (free : Nat) (s : State) : Res :=
  .next (s.access (0x8900 + 4 * q.val) fun s => s.eqFlush q.val free)

/-- The 1 ms reread of a stalled completion ring, or of an event ring with queued events (05 R170, R171). -/
def execStallReread (i : Fin 96) (free : Nat) (scans : List Scan) (s : State) : Res :=
  .next (if i.val < 64 then (if s.rng.cstall.getLsbD i.val then (s.cqFlush i.val free).rescan scans else s)
    else if (s.ring (512 + i.val)).held ≠ [] ∨ (s.ring (512 + i.val)).lostNew ≠ 0 then s.eqFlush (i.val - 64) free else s)

/-- HOLDOFF_EXPIRY: entries written during the holdoff are signalled (05 R172). -/
def execHoldoffExpiry (i : Fin 96) (s : State) : Res :=
  let k := 512 + i.val
  .next (if (s.ring k).owed then
    (s.onRing k fun g => { g with quietTill := 0, owed := false }).signalRing k
  else s.onRing k fun g => { g with quietTill := 0 })

/-! ## Ring control (05 R148, R150, R173, R174) -/

/-- Disables a ring that a write of ENABLE = 0 names. -/
def State.ringDisable (i : Nat) (s : State) : State :=
  if 512 ≤ i ∧ i < 576 then
    let q := i - 512
    if s.rng.rings.any fun e => decide (e.1 < 512) &&
        ((e.2.cq == q && (e.2.enable || !e.2.idle)) || e.2.busy.any fun d => d.cq.val == q) then
      s.onRing i fun g => { g with disRefused := true }
    else s.onRing i fun g => { g with enable := false, disRefused := false }
  else if 576 ≤ i then
    let t := s.onRing i fun g => { g with
      enable := false, lost := satAdd 0xFFFFFFFF g.lost g.held.length, held := [], lostNew := 0 }
    let q := tabGet (false, 0, 0) s.rng.route 2
    if q.1 ∧ 576 + q.2.1 = i then t.onFlt fun f => { f with queue := [] } else t
  else if 256 ≤ i then
    let t := s.onRing i fun g => { g with
      enable := false, scan := false, cache := g.cache.map fun d => { d with status := some 6, len := 0 } }
    (t.rng.punts.filter fun p => p.target == i - 256).foldl
      (fun a p => (a.endPunt p).bump 16 p.cell 0 1) t
  else s.onRing i fun g => { g with enable := false, scan := false }

/-- RING_CTRL_WRITE (05 R148, R150, R151). -/
def execRingCtrlWrite (i : Fin 608) (v : Word) (s : State) : Res :=
  .next (s.access (0x10008 + 0x20 * i.val) fun s =>
    let g := s.ring i.val
    let t := s.onRing i.val fun g => { g with vector := fld v 14 9, irqEn := bit v 15 }
    if g.enable then (if bit v 0 then t else t.ringDisable i.val)
    else
      let u := t.onRing i.val fun g => { g with log2size := fld v 8 4, cq := fld v 21 16, requester := fld v 26 22 }
      if bit v 0 then
        let ok := inRange (fld v 8 4) 4 16 && (decide (512 ≤ i.val) || (u.ring (512 + fld v 21 16)).enable)
        u.onRing i.val fun g =>
          if ok then { g with enable := true, idle := false, enaRefused := false, pos := 0, seq := 1, lost := 0, lostNew := 0 }
          else { g with enaRefused := true }
      else u)

/-- RING_IDLE: a disabled ring sets IDLE once its work is written (05 R173, R174). -/
def execRingIdle (i : Fin 608) (s : State) : Res :=
  let g := s.ring i.val
  let mine (e : List Word) : Bool := fld (wordAt e 1) 24 16 == i.val
  let done := !g.enable && g.cache.isEmpty && g.busy.isEmpty && g.held.isEmpty &&
    (decide (512 ≤ i.val) || !(s.rng.rings.any fun e => inRange e.1 512 575 && e.2.held.any mine))
  .next (if done then s.onRing i.val fun g => { g with idle := true } else s)

/-! ## Doorbells and invalidation (05 R161 to R163) -/

/-- RING_DOORBELL: a scan of a TX or RX ring (05 R161, R162). -/
def execRingDoorbell (i : Fin 512) (entries : List (List Word)) (s : State) : Res :=
  .next (s.access (0x8000 + 4 * i.val) fun s => s.scanRing i.val entries)

/-- RING_INVAL (05 R152, R163). -/
def execRingInval (v : Word) (s : State) : Res :=
  .next (s.access 0x18000 fun s => if s.rng.invalDone && decide (fld v 9 0 < 512) then
    s.onRng fun r => { r with invalDone := false, inval := fld v 9 0 }
  else s)

/-- INVALIDATION_DONE: the cached descriptors that have not started are dropped, and POS is the first of them (05 R163). -/
def execInvalidationDone (s : State) : Res :=
  .next (if s.rng.invalDone then s
  else
    (s.onRing s.rng.inval fun g => { g with
      cache := [], quota := 0, scan := false, pos := match g.cache with | d :: _ => d.slot | [] => g.pos }).onRng fun r =>
        { r with invalDone := true })

/-! ## Delivery of punts (05 R167) -/

/-- Whether an RX descriptor breaks the layout of 05 R153; the fields that only a TX descriptor uses must be 0 (log entry 102). -/
def rxBad (d : Desc) : Bool :=
  fld (wordAt d.data 0) 30 18 != 0 || fld (wordAt d.data 1) 31 16 != 0 || (d.data.drop 4).any fun w => w != 0

/-- Fills the cached descriptors of RX ring i with the rest of a punt: state and bytes sent. One that takes no bytes completes without
MORE, and the frame goes on in the next (log entry 102). -/
def fillDescs (i : Nat) (p : Punt) (busOk : Bool) : List Desc → Nat → State → State × Nat × Bool
  | [], sent, s => (s, sent, false)
  | d :: t, sent, s =>
    let cap := fld (wordAt d.data 0) 17 0
    let q := (s.ring i).cq
    if 32 ≤ s.cqLoad q then (s, sent, false)
    else
      let put (d : Desc) (s : State) : State :=
        (s.onRing i fun g => { g with cache := g.cache.drop 1, busy := g.busy ++ [{ d with cq := Fin.ofNat 64 q }] }).cqStall q
      if d.status.isSome then fillDescs i p busOk t sent (put d s)
      else if rxBad d then fillDescs i p busOk t sent (put { d with status := some 2 } s)
      else if cap = 0 then fillDescs i p busOk t sent (put { d with status := some 1 } s)
      else if !busOk then (((put { d with status := some 4 } s).busError 6 (join (wordAt d.data 2) (wordAt d.data 3))), sent, true)
      else
        let part := (p.data.drop sent).take cap
        let last := decide (p.data.length ≤ sent + cap)
        let u := (put { d with
          status := some 0, len := part.length, more := !last, port := p.port, reason := p.reason
          ts := if last then some p.ts else none } s).hostPut (join (wordAt d.data 2) (wordAt d.data 3)) part
        if last then (u, sent + part.length, true) else fillDescs i p busOk t (sent + part.length) u

/-- PUNT_DELIVERY: the oldest frame that waits for RX ring q is copied into cached descriptors (05 R167). A frame
whose copy fails on the bus ends there. -/
def execPuntDelivery (q : Fin 256) (busOk : Bool) (scans : List Scan) (s : State) : Res :=
  let i := 256 + q.val
  .next (match s.rng.punts.find? fun p => p.target == q.val with
  | none => s
  | some p =>
    if s.rng.cstall.getLsbD (s.ring i).cq then s
    else
      let r := fillDescs i p busOk (s.ring i).cache p.sent s
      (if r.2.2 then r.1.endPunt p
      else r.1.onRng fun g => { g with
        punts := updWhere (fun x => x.handle == p.handle) (fun x => { x with sent := r.2.1 }) g.punts }).rescan scans)

/-! ## Mailbox commands (05 R185 to R189) -/

/-- RING_SET_SERVICE (05 R186). -/
def execRingSetService (r : Req) (s : State) : Res :=
  mailbox 0x0201 r s
    (fun q => { bad := q.rsv [(4, 31, 23)] || q.f 4 15 8 == 0 || !inRange (q.f 4 22 16) 1 64, ext := some 1 })
    fun q => { st := s.onRing (q.f 4 7 0) fun g => { g with weight := q.f 4 15 8, burst := q.f 4 22 16 } }

/-- The items of RING_PUNT_MAP. -/
def puntItems (q : Req) : List Word := (List.range (q.f 4 6 0)).map fun n => q.w (5 + n)

/-- RING_PUNT_MAP (05 R187). -/
def execRingPuntMap (r : Req) (s : State) : Res :=
  mailbox 0x0202 r s
    (fun q =>
      let l := puntItems q
      { bad := q.rsv [(4, 31, 7)] || decide (64 < q.f 4 6 0) || decide (q.size < 1 + q.f 4 6 0) ||
          (l.any fun w => fld w 7 6 != 0 || fld w 31 17 != 0 || inRange (fld w 16 8) 0x101 0x1FE) ||
          decide (¬ (l.map fun w => fld w 5 0).Nodup)
        ext := some (1 + q.f 4 6 0) })
    fun q =>
      if q.f 4 6 0 = 0 then { st := s }
      else { st := s.stageBy 0x0202 q fun c =>
        (puntItems q).foldl (fun c w => cfgSet 0x0202 (fld w 5 0) [wd (fld w 16 8)] [0x100] c) c }

/-- RING_EVENT_ROUTE (05 R188). -/
def execRingEventRoute (r : Req) (s : State) : Res :=
  mailbox 0x0203 r s
    (fun q => { bad := q.rsv [(4, 31, 12)] || decide (5 < q.f 4 3 0), ext := some 1 })
    fun q => { st := s.onRng fun g => { g with
      route := tabPut (false, 0, 0) (q.f 4 3 0) (bit (q.w 4) 9, q.f 4 8 4, q.f 4 11 10) g.route } }

/-- RING_PUNT_LIMIT (05 R189). -/
def execRingPuntLimit (r : Req) (s : State) : Res :=
  mailbox 0x0204 r s
    (fun q => { bad := q.rsv [(4, 31, 7), (5, 31, 16)] || inRange (q.f 4 6 0) 64 126 || decide (1000 < q.f 5 15 0)
                ext := some 2 })
    fun q =>
      let c := q.f 4 6 0
      { st := s.onRng fun g => { g with
          puntLimit := (if c = 127 then List.range 64 else [c]).foldl
            (fun t k => tabPut 1000 k (q.f 5 15 0) t) g.puntLimit } }

end Sys2Proof.Machine
end

