-- ==== Sys2Proof/Machine/Program.lean ====
section
/-!
DEFINITION. Flow programs on the Nimif engines: operands, the instructions, a run, the check of a program, the
commands of opcodes 0x0700 to 0x07FF, and IPFIX (10 R354 to R391).
-/

namespace Sys2Proof.Machine

open Sys2Proof

/-! ## Operands (10 R357) -/

/-- A run and the state it runs in. -/
abbrev Exec := Run × State

def Run.time (x : Run) : Nat := msgTime x.msg
def Run.fkey (x : Run) : FKey := msgKey x.msg x.keyLen

/-- The configuration of the run's epoch. -/
def Run.cfg (x : Run) (s : State) : Cfg := (s.epochCfg (msgEpoch x.msg)).getD s.stg.cur

/-- The record the run works on, if it has one. -/
def Run.record (x : Run) (s : State) : Option Rec := x.handle.bind s.recOf

/-- Operand ST (10 R357); without a record STATE and CLASS read 0 (log entry 33). -/
def Run.stWord (x : Run) (s : State) : Word :=
  let r : Rec := (x.record s).getD { state := 0 }
  wd (r.state + r.cls * 2 ^ 4 + x.inStatus * 2 ^ 8)

/-- The value of operand n. -/
def readOp (n : Nat) (p : Exec) : Word :=
  let x := p.1
  let r := x.record p.2
  if n < 10 then (match r with | some r => wordAt r.w n | none => 0)
  else if n < 16 then wordAt x.y (n - 10)
  else if n < 20 then wordAt x.scratch (n - 16)
  else if n < 24 then wordAt x.msg (n - 8)
  else if n = 24 then (match r with | some r => wd r.packets | none => 0)
  else if n = 25 then (match r with | some r => wd r.bytes | none => 0)
  else if n = 26 then x.stWord p.2
  else if n = 27 then wd (p.2.hashKey x.fkey)
  else 0

/-- Writes operand n; read-only operands and ZERO take no value. -/
def writeOp (n : Nat) (v : Word) (p : Exec) : Exec :=
  let x := p.1
  if n < 10 then
    match x.handle with
    | some h => ({ x with wrote := x.wrote ||| 2 ^ n }, p.2.onRec h fun r => { r with w := r.w.set n v })
    | none => p
  else if n < 16 then ({ x with y := x.y.set (n - 10) v }, p.2)
  else if n < 20 then ({ x with scratch := x.scratch.set (n - 16) v }, p.2)
  else p

/-- Passes on to the instruction after the next n. -/
def skipBy (n : Nat) (p : Exec) : Exec := ({ p.1 with index := p.1.index + n }, p.2)

/-- Y2 of a program's OVERFLOW field (10 R358, R385). -/
def overflowY (c : Cfg) (prog : Nat) : List Word := [wd (progOverflow c prog), 0, 0, 0, 0, 0]

/-- Ends the run at once with the OVERFLOW action of the request's program; its record closes (10 R371, R378). -/
def endRun (p : Exec) : Exec :=
  let x := p.1
  let t := match x.handle with | some h => p.2.onRec h fun r => { r with state := 0xE } | none => p.2
  ({ x with stopped := true, y := overflowY (x.cfg p.2) (msgProgram x.msg) }, t)

def opD (w : Word) : Nat := fld w 26 22
def opA (w : Word) : Nat := fld w 21 17

/-- An engine's program counter of index i. -/
def countProg (e i : Nat) (p : Exec) : Exec := (p.1, p.2.bump 12 e i 1)

/-! ## Instructions (10 R362 to R380) -/

/-- Operand B of an ALU instruction, with its immediate extended as the instruction says. -/
def aluB (signed : Bool) (w : Word) (p : Exec) : Word :=
  if bit w 16 then (let n := fld w 11 0; if signed && decide (2048 ≤ n) then wd (n + 0xFFFFF000) else wd n)
  else readOp (fld w 4 0) p

/-- COND (10 R364). -/
def condHolds (cond : Nat) (a b : Word) : Bool :=
  match cond with
  | 0 => decide (a = b)
  | 1 => decide (a ≠ b)
  | 2 => decide (a.toNat < b.toNat)
  | 3 => decide (b.toNat ≤ a.toNat)
  | 4 => decide (a &&& b ≠ 0)
  | 5 => decide (a &&& b = 0)
  | _ => false

def instrSkip (w : Word) (p : Exec) : Exec :=
  if condHolds (fld w 26 24) (readOp (fld w 19 15) p) (readOp (fld w 4 0) p) then skipBy (fld w 23 20) p else p

def instrSkipi (w : Word) (p : Exec) : Exec :=
  if condHolds (fld w 26 24) (readOp (fld w 19 15) p) (wd (fld w 11 0)) then skipBy (fld w 23 20) p else p

def instrAdd (w : Word) (p : Exec) : Exec := writeOp (opD w) (readOp (opA w) p + aluB true w p) p

/-- SADD: the sum, an immediate signed, clamped to 0 and 0xFFFF_FFFF. -/
def saddSum (w : Word) (p : Exec) : Int :=
  let b := aluB true w p
  (readOp (opA w) p).toNat + (if bit w 16 then b.toInt else (b.toNat : Int))

def instrSadd (w : Word) (p : Exec) : Exec := writeOp (opD w) (wd (min 0xFFFFFFFF (saddSum w p).toNat)) p

def instrMin (w : Word) (p : Exec) : Exec := writeOp (opD w) (wd (min (readOp (opA w) p).toNat (aluB false w p).toNat)) p

def instrMax (w : Word) (p : Exec) : Exec := writeOp (opD w) (wd (max (readOp (opA w) p).toNat (aluB false w p).toNat)) p

def instrLdi (w : Word) (p : Exec) : Exec := writeOp (opD w) (wd (fld w 11 0 * 2 ^ (8 * fld w 21 20))) p

def instrExt (w : Word) (p : Exec) : Exec :=
  writeOp (opD w) (wd ((readOp (opA w) p).toNat / 2 ^ fld w 16 12 % 2 ^ (fld w 11 7 + 1))) p

/-- INS: W bits of A at bit POS of D. -/
def insertBits (d a : Word) (pos width : Nat) : Word :=
  let m : Word := wd ((2 ^ width - 1) * 2 ^ pos)
  (d &&& ~~~ m) ||| (wd (a.toNat % 2 ^ width * 2 ^ pos) &&& m)

def instrIns (w : Word) (p : Exec) : Exec :=
  writeOp (opD w) (insertBits (readOp (opD w) p) (readOp (opA w) p) (fld w 16 12) (fld w 11 7 + 1)) p

def instrKeyx (w : Word) (p : Exec) : Exec :=
  writeOp (opD w) (wd (beAt p.1.fkey.bytes (fld w 21 16) (2 ^ fld w 15 14))) p

/-- TS (10 R363). -/
def tsValue (mode : Nat) (x : Run) : Word :=
  let t := x.time
  match mode with
  | 0 => wd t
  | 1 => wd (t / 1000)
  | 2 => wd (t / 10 ^ 9)
  | _ => match x.lastBefore with | some l => wd (min 0xFFFFFFFF ((t - l) / 1000)) | none => 0

def instrTs (w : Word) (p : Exec) : Exec := writeOp (opD w) (tsValue (fld w 21 20) p.1) p

def instrSetsc (w : Word) (p : Exec) : Exec :=
  match p.1.handle with
  | none => p
  | some h => (p.1, p.2.onRec h fun r =>
      { r with
        state := if bit w 9 then fld w 26 23 else r.state
        cls := if bit w 8 then fld w 22 19 else r.cls
        program := if bit w 7 then fld w 18 10 else r.program })

/-- A meter profile's CIR, PIR, CBS, PBS (10 R386). -/
def meterProfile (c : Cfg) (n : Nat) : Nat × Nat × Nat × Nat :=
  let w := cfgWords c 0x0710 n [wd n, 100000000, 100000000, 16777215, 16777215]
  ((wordAt w 1).toNat, (wordAt w 2).toNat, (wordAt w 3).toNat, (wordAt w 4).toNat)

/-- METER (10 R369). The products are taken in 64 bits. -/
def instrMeter (e : Nat) (w : Word) (p : Exec) : Exec :=
  let x := p.1
  match x.record p.2 with
  | none => writeOp (opD w) 0 p
  | some r =>
    let c := x.cfg p.2
    let (cir, pir, cbs, pbs) := meterProfile c (fld w 17 8)
    let n := fld w 21 18
    let t := match x.lastBefore with | some l => x.time - l | none => 0
    let fresh := decide (x.inStatus = 1)
    let tc0 := if fresh then cbs else (wordAt r.w n).toNat
    let tp0 := if fresh then pbs else (wordAt r.w (n + 1)).toNat
    let tc := min cbs (tc0 + cir * t % 2 ^ 64 / 8000000)
    let tp := min pbs (tp0 + pir * t % 2 ^ 64 / 8000000)
    let len := (max 1 ((msgLength x.msg : Int) + egrOverhead c (fld (wordAt x.msg 12) 23 14))).toNat
    let color := if tp < len then 2 else if tc < len then 1 else 0
    let q := writeOp n (wd (if color = 0 then tc - len else tc)) p
    let q := writeOp (n + 1) (wd (if color = 2 then tp else tp - len)) q
    countProg e (13 + color) (writeOp (opD w) (wd color) q)

/-- A pool's REUSE_DELAY and its ADDR_INDEX and address pairs (10 R387). -/
def poolOf (c : Cfg) (n : Nat) : Nat × List (Nat × Word) :=
  let w := cfgWords c 0x0720 n [wd n]
  (fld (wordAt w 0) 20 13, (List.range (fld (wordAt w 0) 12 8)).map fun i => (fld (wordAt w (1 + 2 * i)) 11 0, wordAt w (2 + 2 * i)))

/-- A port of an address index is neither allocated nor within a reuse delay in seconds (10 R371, R372). -/
def State.portFree (s : State) (delay idx port : Nat) : Bool :=
  let k := idx * 65536 + port
  !tabGet false s.prg.nat k &&
  (match tabFind s.prg.freed k with
   | some t => decide (t + delay * 10 ^ 9 * nsUnit ≤ s.tim.up)
   | none => true)

/-- The first free port of an engine's share after the one it allocated last for the address. Before its first, the
share is taken from its start (log entry 17). -/
def State.natPort (s : State) (e delay idx : Nat) : Option Nat :=
  let base := 1024 + 504 * e
  let last := tabGet 0 s.prg.ptr (e * 4096 + idx)
  let from_ := if last = 0 then 0 else last + 1 - base
  ((List.range 504).map fun i => base + (from_ + i) % 504).find? fun q => s.portFree delay idx q

/-- NATALLOC (10 R371). -/
def instrNatalloc (e : Nat) (w : Word) (p : Exec) : Exec :=
  let x := p.1
  let d := opD w
  match x.handle with
  | none => writeOp (d + 1) 0 (writeOp d 0 p)
  | some _ =>
    let (delay, l) := poolOf (x.cfg p.2) (fld w 16 9)
    let start := if l.length = 0 then 0 else (readOp (opA w) p).toNat % l.length
    let order := l.drop start ++ l.take start
    match order.findSome? fun a => (p.2.natPort e delay a.1).map fun q => (a.1, a.2, q) with
    | none => countProg e 3 (endRun p)
    | some (idx, addr, q) =>
      let t := p.2.onPrg fun g => { g with
        nat := tabIns (idx * 65536 + q) true g.nat, freed := tabDel (idx * 65536 + q) g.freed
        ptr := tabPut 0 (e * 4096 + idx) q g.ptr }
      countProg e 2 (writeOp (d + 1) (wd (idx * 65536 + q)) (writeOp d addr (x, t)))

/-- NATFREE (10 R372). -/
def instrNatfree (e : Nat) (w : Word) (p : Exec) : Exec := (p.1, p.2.natFree e (readOp (opA w) p))

/-- Members of a group: VALUE, NEXTHOP, LIVE (10 R377, R389). -/
def lbMembers (c : Cfg) (g : Nat) : List (Word × Nat × Bool) :=
  let w := cfgWords c 0x0730 g [wd g]
  (List.range (fld (wordAt w 0) 24 16)).map fun i =>
    (wordAt w (1 + 2 * i), fld (wordAt w (2 + 2 * i)) 15 0, bit (wordAt w (2 + 2 * i)) 16)

/-- The member that a selection value picks (10 R378). -/
def lbPick (l : List (Word × Nat × Bool)) (x : Nat) : Option (Word × Nat × Bool) :=
  let live := l.filter fun m => m.2.2
  match l[x / 2 ^ 16 * l.length / 2 ^ 16]? with
  | some m => if m.2.2 then some m else live[x % 2 ^ 16 * live.length / 2 ^ 16]?
  | none => none

/-- LBSEL (10 R378). -/
def instrLbsel (e : Nat) (w : Word) (p : Exec) : Exec :=
  let l := lbMembers (p.1.cfg p.2) ((readOp (opA w) p).toNat % 65536)
  let x := if bit w 11 then (readOp (fld w 16 12) p).toNat * 0x9E3779B1 % 2 ^ 32 else p.2.hashKey p.1.fkey / 2 ^ 32
  match lbPick l x with
  | none => countProg e 7 (endRun p)
  | some m => countProg e 6 (writeOp (opD w + 1) (wd m.2.1) (writeOp (opD w) m.1 p))

/-- The companion key, where one can be built (10 R373). -/
def compKey (c : Cfg) (x : Run) (mode : Nat) (a b : Word) : Option FKey :=
  let k := x.fkey
  let fmt := nfld k.keyType 6 5
  let fields := templateFields c (nfld k.keyType 4 0)
  let n := if fmt = 2 then 16 else 4
  match fieldOffset fields fmt 11, fieldOffset fields fmt 12, fieldOffset fields fmt 7, fieldOffset fields fmt 8 with
  | some sip, some dip, some sp, some dp =>
    if (mode < 2 ∧ fmt ≠ 1) ∨ nfld k.keyType 7 7 = 1 then none
    else
      let get (o len : Nat) : List Byte := (k.bytes.drop o).take len
      let port (v : Word) : List Byte := beBytes 2 (v.toNat % 65536)
      let put (o : Nat) (v l : List Byte) : List Byte := putBytes l o v
      let swapped (l : List Byte) : List Byte :=
        match fieldOffset fields fmt 9, fieldOffset fields fmt 10 with
        | some sm, some dm => put dm (get sm 6) (put sm (get dm 6) l)
        | _, _ => l
      let addr (v : Word) : List Byte := beBytes 4 v.toNat
      let l :=
        if mode = 0 then put dp (port b) (put sp (get dp 2) (put dip (addr a) (put sip (get dip n) k.bytes)))
        else if mode = 1 then put dp (get sp 2) (put sp (port b) (put dip (get sip n) (put sip (addr a) k.bytes)))
        else swapped (put dp (get sp 2) (put sp (get dp 2) (put dip (get sip n) (put sip (get dip n) k.bytes))))
      some { zone := progCompZone c (msgProgram x.msg), keyType := k.keyType + 128, keyLen := k.keyLen, bytes := l }
  | _, _, _, _ => none

/-- The COMPANION request (10 R374; 09 R316). -/
def compMsg (c : Cfg) (x : Run) (e ctx : Nat) (k : FKey) (vc vd : Word) : List Word :=
  [wd (msgEpoch x.msg + progComp c (msgProgram x.msg) * 2 ^ 16 + ctx * 2 ^ 25),
   wd (2 + e * 2 ^ 3 + k.zone * 2 ^ 11 + k.keyType * 2 ^ 23)] ++ bytesToWords k.bytes ++
  [vc, wordAt x.msg 13, wordAt x.msg 14, vd]

/-- Contexts of an engine that hold for companions (10 R374). -/
def State.heldContexts (s : State) (e : Nat) : Nat :=
  (s.prg.ctx.filter fun x => x.1 / 16 == e && x.2.holds.isSome && !x.2.stall).length

/-- COMP (10 R373, R374): a ninth of an engine stalls its context. -/
def instrComp (e ctx : Nat) (w : Word) (p : Exec) : Exec :=
  let x := p.1
  if x.handle.isNone ∨ x.companionRun then countProg e 10 p
  else
    let c := x.cfg p.2
    match compKey c x (fld w 26 25) (readOp (fld w 24 20) p) (readOp (fld w 19 15) p) with
    | none => ({ x with compFailed := true }, p.2)
    | some k =>
      if 8 ≤ p.2.heldContexts e then ({ x with stall := true }, p.2)
      else
      let m : CompMsg :=
        { engine := e, context := ctx, home := homeOf (p.2.hashKey k), keyLen := k.keyLen, priv := x.priv
          msg := compMsg c x e ctx k (readOp (fld w 14 10) p) (readOp (fld w 9 5) p) }
      countProg e 8 ({ x with compSent := true },
        (p.2.onPrg fun g => { g with comps := g.comps ++ [{ m with ord := p.2.flo.seq + 1 }] }).onFlo fun f => { f with seq := f.seq + 1 })

/-- A telemetry record (10 R380). -/
def emitRecord (e : Nat) (x : Run) (s : State) (type : Nat) (v0 v1 : Word) : List Word :=
  let k := x.fkey
  let r : Rec := (x.record s).getD {}
  [wd (type + k.zone * 2 ^ 8 + k.keyType * 2 ^ 20), wd (k.keyLen + e * 2 ^ 6 + b2n (decide (24 < k.keyLen)) * 2 ^ 13)] ++
    two x.time ++ two r.packets ++ two r.bytes ++ [v0, v1] ++ bytesToWords (k.bytes.take 24)

/-- RATE and OBS_DOMAIN (10 R390). -/
def State.emitSet (s : State) : Nat × Nat :=
  let w := cfgWords s.stg.imm 0x0740 0 [0, 0]
  ((wordAt w 0).toNat, (wordAt w 1).toNat)

/-- Puts a record into a stack's staging: 2 KiB buffers of 32 records, or none where staging is full (log entry 34). -/
def State.stage (stack : Nat) (r : List Word) (s : State) : Option State :=
  let l := tabGet [] s.prg.staging stack
  let put (t : State) : State := t.onPrg fun g => { g with staging := tabIns stack (l ++ [r]) g.staging }
  if l.length % 32 = 0 then
    let a := s.bpmAlloc (24 + stack) 2048
    if a.1 = stOk then some (put a.2.2) else none
  else some (put s)

/-- EMIT (10 R380, R381). -/
def instrEmit (e : Nat) (w : Word) (p : Exec) : Exec :=
  let s := p.2
  let rate := s.emitSet.1
  let b := (tabGet {} s.prg.emitBucket e).draw rate 64 1 s.tim.up
  let r := emitRecord e p.1 s (fld w 26 19) (readOp (fld w 18 14) p) (readOp (fld w 13 9) p)
  if rate = 0 ∨ !b.1 then countProg e 12 p
  else
    match s.stage (e / 32) r with
    | none => countProg e 12 p
    | some t => countProg e 11 (p.1, t.onPrg fun g => { g with emitBucket := tabPut {} e b.2 g.emitBucket })

/-- SETACT (10 R363). -/
def instrSetact (w : Word) (p : Exec) : Exec :=
  let y := (wordAt p.1.y 0).toNat
  let dest := if bit w 5 then (readOp (fld w 10 6) p).toNat % 65536 else y / 65536
  writeOp 10 (wd (fld w 26 11 + dest * 65536)) p

/-- The effect of an instruction word at a context of an engine. -/
def instrOf (e ctx : Nat) (w : Word) (p : Exec) : Exec :=
  match fld w 31 27 with
  | 0x01 => instrSkip w p
  | 0x02 => instrSkipi w p
  | 0x03 => instrAdd w p
  | 0x04 => instrSadd w p
  | 0x05 => instrMin w p
  | 0x06 => instrMax w p
  | 0x07 => instrLdi w p
  | 0x08 => instrExt w p
  | 0x09 => instrIns w p
  | 0x0A => instrKeyx w p
  | 0x0B => instrTs w p
  | 0x0C => instrSetsc w p
  | 0x0D => instrMeter e w p
  | 0x0E => instrNatalloc e w p
  | 0x0F => instrNatfree e w p
  | 0x10 => instrLbsel e w p
  | 0x11 => instrComp e ctx w p
  | 0x12 => instrEmit e w p
  | 0x13 => instrSetact w p
  | _ => p

/-- The instructions at which a context can stall: COMP, LBSEL, NATALLOC and METER (17 R573). -/
def mayStall (w : Word) : Bool := [0x0D, 0x0E, 0x10, 0x11].contains (fld w 31 27)

/-- One instruction: it is counted, it acts, and the run passes to the next one unless it has ended. One that stalls has no effect yet
(10 R374). -/
def doInstr (e : Nat) (w : Word) (act : Exec → Exec) (p : Exec) : Exec :=
  let o : Occ :=
    { priv := some p.1.priv, master := some (0x80 + e), cls := some (if p.1.companionRun then 2 else 0), addr := some (p.1.handle.getD noHandle) }
  let q := act (p.1, (p.2.bump 12 e 1 1).pmuEvent (72 + e) 0x04 1 o)
  if q.1.stall then ({ p.1 with stall := true }, p.2)
  else ({ q.1 with
    index := q.1.index + 1, last := some p.1.index, stalls := if mayStall w then p.1.stalls ++ [p.1.index] else p.1.stalls }, q.2)

/-- Runs a program's instructions from the run's index to its end (10 R355, R364). -/
def runFrom (c : Cfg) (e ctx : Nat) : Nat → Exec → Exec
  | 0, p => p
  | n + 1, p =>
    if p.1.stopped ∨ p.1.stall ∨ progLength c p.1.program ≤ p.1.index then p
    else
      let w := progInstr c p.1.program p.1.index
      runFrom c e ctx n (doInstr e w (instrOf e ctx w) p)

/-- A whole run (10 R358). -/
def runProgram (c : Cfg) (e ctx : Nat) (x : Run) (s : State) : Exec := runFrom c e ctx 12 (x, s.bump 12 e 0 1)

/-! ## The check of an instruction (10 R362, R365) -/

/-- The bits that an instruction's form names. -/
def formMask (w : Word) : Nat :=
  let r (hi lo : Nat) : Nat := 2 ^ (hi + 1) - 2 ^ lo
  match fld w 31 27 with
  | 0x01 => r 31 15 + r 4 0
  | 0x02 => r 31 15 + r 11 0
  | 0x03 | 0x04 | 0x05 | 0x06 => r 31 16 + (if bit w 16 then r 11 0 else r 4 0)
  | 0x07 => r 31 20 + r 11 0
  | 0x08 | 0x09 => r 31 7
  | 0x0A => r 31 14
  | 0x0B => r 31 20
  | 0x0C => r 31 7
  | 0x0D => r 31 8
  | 0x0E => r 31 9
  | 0x0F => r 31 27 + r 21 17
  | 0x10 => r 31 11
  | 0x11 => r 31 5
  | 0x12 => r 31 9
  | 0x13 => r 31 5
  | _ => 0

/-- Operands that an instruction reads. -/
def instrReads (w : Word) : List Nat :=
  match fld w 31 27 with
  | 0x01 => [fld w 19 15, fld w 4 0]
  | 0x02 => [fld w 19 15]
  | 0x03 | 0x04 | 0x05 | 0x06 => opA w :: (if bit w 16 then [] else [fld w 4 0])
  | 0x08 => [opA w]
  | 0x09 => [opD w, opA w]
  | 0x0D => [fld w 21 18, fld w 21 18 + 1]
  | 0x0E | 0x0F => [opA w]
  | 0x10 => [opA w, fld w 16 12]
  | 0x11 => [fld w 24 20, fld w 19 15, fld w 14 10, fld w 9 5]
  | 0x12 => [fld w 18 14, fld w 13 9]
  | 0x13 => [fld w 10 6]
  | _ => []

/-- Operands that the values an instruction writes depend on: SETACT takes A only with DEST_EN, and an INS of all 32 bits keeps none of D
(10 R363). -/
def instrUses (w : Word) : List Nat :=
  if fld w 31 27 = 0x13 ∧ !bit w 5 then []
  else if fld w 31 27 = 0x09 ∧ fld w 16 7 = 31 then [opA w]
  else instrReads w

/-- Operands that an instruction writes. -/
def instrWrites (w : Word) : List Nat :=
  match fld w 31 27 with
  | 0x03 | 0x04 | 0x05 | 0x06 | 0x07 | 0x08 | 0x09 | 0x0A | 0x0B => [opD w]
  | 0x0D => [opD w, fld w 21 18, fld w 21 18 + 1]
  | 0x0E | 0x10 => [opD w, opD w + 1]
  | 0x13 => [10]
  | _ => []

/-- A pair D's range (10 R363). -/
def pairOk (d : Nat) : Bool := inRange d 0 8 || inRange d 10 14 || inRange d 16 18

/-- Whether an instruction word is one that PROG_LOAD accepts anywhere (10 R365). -/
def instrOk (w : Word) : Bool :=
  let op := fld w 31 27
  inRange op 1 0x13 && decide (w.toNat &&& formMask w = w.toNat) &&
  !((instrReads w).any fun n => inRange n 28 30) && !((instrWrites w).any fun n => inRange n 20 30) &&
  (decide (op ≠ 1 ∧ op ≠ 2) || (decide (fld w 26 24 < 6) && inRange (fld w 23 20) 1 11)) &&
  (op != 0x0A || (decide (fld w 15 14 < 3) && decide (fld w 21 16 + 2 ^ fld w 15 14 ≤ 40))) &&
  (decide (op ≠ 8 ∧ op ≠ 9) || decide (fld w 16 12 + fld w 11 7 + 1 ≤ 32)) &&
  (op != 0x0C || !bit w 9 || (fld w 26 23 != 0 && fld w 26 23 != 0xF)) &&
  (op != 0x0D || decide (fld w 21 18 ≤ 8)) &&
  (decide (op ≠ 0x0E ∧ op ≠ 0x10) || pairOk (opD w)) &&
  (op != 0x11 || fld w 26 25 != 3)

/-- A program of n instructions holds only accepted instructions, with the limits on their number (10 R365). -/
def programOk (n : Nat) (l : List Word) : Bool :=
  let code := l.take n
  let many (op top : Nat) : Bool := decide (top < (code.filter fun w => fld w 31 27 == op).length)
  code.all instrOk && (l.drop n).all (fun w => w == 0) &&
  ((List.range n).all fun i =>
    let w := wordAt l i
    decide (fld w 31 27 ≠ 1 ∧ fld w 31 27 ≠ 2) || decide (i + fld w 23 20 ≤ n - 1)) &&
  !many 0x0D 1 && !many 0x0E 1 && !many 0x10 1 && !many 0x11 1 && !many 0x12 2

/-! ### Cached programs (10 R366) -/

/-- A skip that the trace of a cached program has met: the last index that it passes over, whether its condition depends on something else
than a lease holds, and the operands that did so at the skip. -/
structure SkipSeen where
  upTo : Nat
  ctrl : Bool
  dirty : List Nat

/-- What the trace of a cached program knows at an instruction: operands that depend on something else than a lease
holds, and the skips whose end it has not reached. -/
structure Trace where
  dirty : List Nat := []
  skips : List SkipSeen := []
  ok : Bool := true

/-- One instruction of the trace under a LEASE_MASK. Where a skip ends, its way and the way through join. -/
def Trace.step (mask : Nat) (t : Trace) (i : Nat) (w : Word) : Trace :=
  let here := t.skips.filter fun k => decide (i ≤ k.upTo)
  let dirty := t.dirty ++ (t.skips.filter fun k => decide (k.upTo < i)).flatMap fun k => k.dirty
  let ctrl := here.any fun k => k.ctrl
  let unclean (n : Nat) : Bool := if n < 10 then !mask.testBit n else if n < 20 then dirty.contains n else decide (n < 31)
  let src := ctrl || (instrUses w).any unclean
  let op := fld w 31 27
  if op = 1 ∨ op = 2 then { t with dirty := dirty, skips := here ++ [{ upTo := i + fld w 23 20, ctrl := src, dirty := dirty }] }
  else
    let d := instrWrites w
    { dirty := if src then dirty ++ d else dirty.filter fun n => !d.contains n
      skips := here
      ok := t.ok && !(src && d.any fun n => inRange n 10 15) }

/-- Whether a program may carry CACHE (10 R366). -/
def cacheOk (cache mask : Nat) (code : List Word) : Bool :=
  let bad (w : Word) : Bool :=
    inRange (fld w 31 27) 0x0B 0x12 || ((instrWrites w).any fun n => decide (n < 10)) ||
    (cache == 1 && (instrWrites w).any fun n => inRange n 10 15)
  cache == 0 || (!code.any bad &&
    (cache == 1 || ((List.range code.length).foldl (fun t i => t.step mask i (wordAt code i)) ({} : Trace)).ok))

/-! ## Instruction rows -/

def ctxKey (e ctx : Nat) : Nat := e * 16 + ctx
def State.ctxRun (s : State) (e ctx : Nat) : Run := tabGet {} s.prg.ctx (ctxKey e ctx)

/-- An instruction word of an opcode executes on a context while the engines run (01 R28). A word that PROG_LOAD refuses reaches no context,
and a run that has ended or waits for a companion executes none (10 R362, R375; log entry 35). -/
def State.instrRow (e : Fin 128) (k : Fin 16) (op : Nat) (act : Exec → Exec) (w : Word) (s : State) : State :=
  let x := s.ctxRun e.val k.val
  if s.enginesRun ∧ fld w 31 27 = op ∧ instrOk w ∧ x.holds.isNone ∧ !x.stopped then
    let q := doInstr e.val w act ({ x with stall := false }, s)
    q.2.onPrg fun p => { p with ctx := tabPut {} (ctxKey e.val k.val) q.1 p.ctx }
  else s

def execSkip (e : Fin 128) (k : Fin 16) (w : Word) (s : State) : Res := .next (s.instrRow e k 0x01 (instrSkip w) w)
def execSkipi (e : Fin 128) (k : Fin 16) (w : Word) (s : State) : Res := .next (s.instrRow e k 0x02 (instrSkipi w) w)
def execAdd (e : Fin 128) (k : Fin 16) (w : Word) (s : State) : Res := .next (s.instrRow e k 0x03 (instrAdd w) w)
def execSadd (e : Fin 128) (k : Fin 16) (w : Word) (s : State) : Res := .next (s.instrRow e k 0x04 (instrSadd w) w)
def execMin (e : Fin 128) (k : Fin 16) (w : Word) (s : State) : Res := .next (s.instrRow e k 0x05 (instrMin w) w)
def execMax (e : Fin 128) (k : Fin 16) (w : Word) (s : State) : Res := .next (s.instrRow e k 0x06 (instrMax w) w)
def execLdi (e : Fin 128) (k : Fin 16) (w : Word) (s : State) : Res := .next (s.instrRow e k 0x07 (instrLdi w) w)
def execExt (e : Fin 128) (k : Fin 16) (w : Word) (s : State) : Res := .next (s.instrRow e k 0x08 (instrExt w) w)
def execIns (e : Fin 128) (k : Fin 16) (w : Word) (s : State) : Res := .next (s.instrRow e k 0x09 (instrIns w) w)
def execKeyx (e : Fin 128) (k : Fin 16) (w : Word) (s : State) : Res := .next (s.instrRow e k 0x0A (instrKeyx w) w)
def execTs (e : Fin 128) (k : Fin 16) (w : Word) (s : State) : Res := .next (s.instrRow e k 0x0B (instrTs w) w)
def execSetsc (e : Fin 128) (k : Fin 16) (w : Word) (s : State) : Res := .next (s.instrRow e k 0x0C (instrSetsc w) w)
def execMeter (e : Fin 128) (k : Fin 16) (w : Word) (s : State) : Res := .next (s.instrRow e k 0x0D (instrMeter e.val w) w)
def execNatalloc (e : Fin 128) (k : Fin 16) (w : Word) (s : State) : Res :=
  .next (s.instrRow e k 0x0E (instrNatalloc e.val w) w)
def execNatfree (e : Fin 128) (k : Fin 16) (w : Word) (s : State) : Res :=
  .next (s.instrRow e k 0x0F (instrNatfree e.val w) w)
def execLbsel (e : Fin 128) (k : Fin 16) (w : Word) (s : State) : Res := .next (s.instrRow e k 0x10 (instrLbsel e.val w) w)
def execComp (e : Fin 128) (k : Fin 16) (w : Word) (s : State) : Res :=
  .next (s.instrRow e k 0x11 (instrComp e.val k.val w) w)
def execEmit (e : Fin 128) (k : Fin 16) (w : Word) (s : State) : Res := .next (s.instrRow e k 0x12 (instrEmit e.val w) w)
def execSetact (e : Fin 128) (k : Fin 16) (w : Word) (s : State) : Res := .next (s.instrRow e k 0x13 (instrSetact w) w)

/-! ## Commands (10 R383 to R391) -/

/-- What PROG_LOAD changes of a configuration. -/
def setProg (q : Req) : Cfg → Cfg :=
  cfgSet 0x0701 (q.f 4 8 0) ((List.range 15).map fun i => q.w (4 + i)) (progDefault (q.f 4 8 0))

/-- PROG_LOAD (10 R365, R366, R385). -/
def execProgLoad (r : Req) (s : State) : Res :=
  mailbox 0x0701 r s
    (fun q =>
      let n := q.f 4 12 9
      let code := (List.range 12).map fun i => q.w (7 + i)
      let word (v : Nat) : Bool := decide (v < 10) || v == 15
      { bad := q.rsv [(4, 31, 28), (5, 15, 10), (5, 31, 26), (6, 31, 21)] || decide (12 < n) || q.f 4 15 14 == 3 ||
          q.f 4 18 17 == 3 || !word (q.f 4 23 20) || !word (q.f 4 27 24) || !inRange (q.f 5 9 0) 1 1000 ||
          ((q.f 5 25 16 != 0) != (q.f 4 15 14 == 2)) || !programOk n code || !cacheOk (q.f 4 15 14) (q.f 5 25 16) (code.take n)
        size := some 15 })
    fun q =>
      { st := s.stageBy 0x0701 q (setProg q) }

/-- PROG_READ (10 R385). -/
def execProgRead (r : Req) (s : State) : Res :=
  mailbox 0x0702 r s (fun q => { bad := q.rsv [(4, 31, 10)], ext := some 1 }) fun q =>
    let p := q.f 4 8 0
    if q.f 4 9 9 = 0 then { words := progWords s.stg.cur p, st := s }
    else if s.stg.log.any (fun w => fld (wordAt w 0) 15 0 == 0x0701 && fld (wordAt w 4) 8 0 == p) then
      { words := progWords s.stg.staged p, st := s }
    else { status := stNotFound, st := s }

/-- What PROG_METER_SET changes of a configuration. -/
def setProgMeter (q : Req) : Cfg → Cfg :=
  cfgSet 0x0710 (q.f 4 9 0) [q.w 4, q.w 5, q.w 6, q.w 7, q.w 8]
    [wd (q.f 4 9 0), 100000000, 100000000, 16777215, 16777215]

/-- PROG_METER_SET (10 R386). -/
def execProgMeterSet (r : Req) (s : State) : Res :=
  mailbox 0x0710 r s
    (fun q =>
      { bad := q.rsv [(4, 31, 10), (5, 31, 27), (6, 31, 27), (7, 31, 24), (8, 31, 24)] || decide (q.f 6 26 0 < q.f 5 26 0) ||
          decide (100000000 < q.f 6 26 0) || decide (q.f 7 23 0 < 64) || decide (q.f 8 23 0 < 64)
        ext := some 5 })
    fun q => { st := s.stageBy 0x0710 q (setProgMeter q) }

/-- ADDR_INDEX and address pairs that PROG_POOL_SET carries. -/
def poolItems (q : Req) : List (Nat × Word) :=
  (List.range (q.f 4 12 8)).map fun n => (q.f (5 + 2 * n) 11 0, q.w (6 + 2 * n))

/-- The pool that holds an address index in a configuration, and its address. -/
def indexOwner (c : Cfg) (idx : Nat) : Option (Nat × Word) :=
  (cfgAll c 0x0720).findSome? fun e => ((poolOf c e.1).2.find? fun a => a.1 == idx).map fun a => (e.1, a.2)

/-- Ports of an address index that are allocated. -/
def State.portsUsed (s : State) (idx : Nat) : Nat := (s.prg.nat.filter fun e => e.1 / 65536 == idx).length

/-- A new address for an index that holds allocated ports (10 R387; log entry 36). -/
def State.rebinds (s : State) (a : Nat × Word) : Bool :=
  s.portsUsed a.1 != 0 &&
  (match indexOwner s.stg.staged a.1, indexOwner s.stg.cur a.1 with
   | some o, _ => o.2 != a.2
   | none, some o => o.2 != a.2
   | none, none => true)

/-- What PROG_POOL_SET changes of a configuration. -/
def setPool (q : Req) : Cfg → Cfg :=
  cfgSet 0x0720 (q.f 4 7 0) (q.w 4 :: (poolItems q).flatMap fun a => [wd a.1, a.2]) [wd (q.f 4 7 0)]

/-- PROG_POOL_SET (10 R387). -/
def execProgPoolSet (r : Req) (s : State) : Res :=
  mailbox 0x0720 r s
    (fun q =>
      let n := q.f 4 12 8
      let l := poolItems q
      { bad := q.rsv [(4, 31, 21)] || decide (16 < n) || (List.range n).any (fun i => q.f (5 + 2 * i) 31 12 != 0) ||
          l.any (fun a => a.2 == 0) || !decide ((l.map fun a => a.1).Nodup)
        busy := l.any s.rebinds, ext := some (1 + 2 * n) })
    fun q =>
      let l := poolItems q
      let p := q.f 4 7 0
      if l.any (fun a => match indexOwner s.stg.staged a.1 with | some o => o.1 != p | none => false) then { status := stExists, st := s }
      else { st := s.stageBy 0x0720 q (setPool q) }

/-- PROG_POOL_STATUS (10 R388). -/
def execProgPoolStatus (r : Req) (s : State) : Res :=
  mailbox 0x0721 r s (fun q => { bad := q.rsv [(4, 31, 12)], ext := some 1 }) fun q =>
    let idx := q.f 4 11 0
    match indexOwner s.stg.cur idx with
    | none => { status := stNotFound, st := s }
    | some (p, a) =>
      let delay := (poolOf s.stg.cur p).1
      let full := ((List.range 128).filter fun e => (s.natPort e delay idx).isNone).length
      { words := [a, wd (s.portsUsed idx), wd (full + p * 2 ^ 8)], st := s }

/-- What PROG_GROUP_SET changes of a configuration. -/
def setLbGroup (q : Req) : Cfg → Cfg :=
  cfgSet 0x0730 (q.f 4 15 0) ((List.range (1 + 2 * q.f 4 24 16)).map fun i => q.w (4 + i)) [wd (q.f 4 15 0)]

/-- PROG_GROUP_SET: a group of more than 29 members needs EXT_CMD (10 R389). -/
def execProgGroupSet (r : Req) (s : State) : Res :=
  mailbox 0x0730 r s
    (fun q =>
      let n := q.f 4 24 16
      { bad := q.rsv [(4, 31, 25)] || decide (256 < n) || (!q.extCmd && decide (29 < n)) ||
          (List.range n).any (fun i => q.f (6 + 2 * i) 31 17 != 0)
        ext := some (1 + 2 * n) })
    fun q =>
      if 512 ≤ s.stg.lbStaged then { status := stNoSpace, st := s }
      else { st := (s.stageBy 0x0730 q (setLbGroup q)).onStg fun t => { t with lbStaged := t.lbStaged + 1 } }

/-- What PROG_EMIT_SET changes of the immediate settings. -/
def setEmit (q : Req) : Cfg → Cfg :=
  cfgSet 0x0740 0 [q.w 4, q.w 5] [0, 0]

/-- PROG_EMIT_SET (10 R390). -/
def execProgEmitSet (r : Req) (s : State) : Res :=
  mailbox 0x0740 r s (fun q => { bad := q.rsv [(4, 31, 17)] || decide (100000 < q.f 4 16 0), ext := some 2 }) fun q =>
    { st := s.setImm 0x0740 q (setEmit q) }

/-- PROG_STATS_READ (10 R391). -/
def execProgStatsRead (r : Req) (s : State) : Res :=
  mailbox 0x0750 r s
    (fun q =>
      let t := q.f 4 7 0
      { bad := q.rsv [(4, 31, 18)] || decide (191 < t) || decide ((if t < 128 then 16 else 4) < q.f 4 12 8 + q.f 4 17 13), ext := some 1 })
    fun q =>
      let t := q.f 4 7 0
      let v (j : Nat) : Nat := if t < 128 then s.count 12 t j else s.count 13 (t - 128) j
      { words := wd (q.f 4 17 13) :: (List.range (q.f 4 17 13)).flatMap fun j => two (v (q.f 4 12 8 + j)), st := s }

/-! ## IPFIX (10 R382) -/

/-- The element of key field i: a listed one, or one of Dreisa's own (10 R382). -/
def keyElement (fmt i : Nat) : IpfixField :=
  let listed (n : Nat) : IpfixField := { element := n, enterprise := false, size := fieldSize fmt i }
  match i with
  | 1 => listed 58
  | 5 => listed 195
  | 6 => listed 4
  | 7 => listed 7
  | 8 => listed 11
  | 9 => listed 56
  | 10 => listed 80
  | 11 => listed (if fmt = 2 then 27 else 8)
  | 12 => listed (if fmt = 2 then 28 else 12)
  | _ => { element := Config.ipfixElement (16 + i), enterprise := true, size := fieldSize fmt i }

/-- The key fields that a record of a KEY_TYPE carries whole: those that TRUNC cuts off are left out (10 R382). Field, offset. -/
def emitFields (c : Cfg) (keyType : Nat) : List (Nat × Nat) :=
  let f := templateFields c (nfld keyType 4 0)
  let fmt := nfld keyType 6 5
  (bitsOf 13 f).filterMap fun i =>
    match fieldOffset f fmt i with
    | some o => if o + fieldSize fmt i ≤ 24 then some (i, o) else none
    | none => none

/-- What defines the template of a staged record: its TYPE, its KEY_TYPE and the fields that these have (10 R382; log entry 113). -/
def emitTemplate (c : Cfg) (r : List Word) : Nat × Nat × List IpfixField :=
  let own (i n : Nat) : IpfixField := { element := Config.ipfixElement i, enterprise := true, size := n }
  let std (e : Nat) : IpfixField := { element := e, enterprise := false, size := 8 }
  let kt := fld (wordAt r 0) 27 20
  (fld (wordAt r 0) 7 0, kt, [own 0 1, own 1 2, std 325, std 86, std 85, own 2 4, own 3 4] ++
    (emitFields c kt).map fun f => keyElement (nfld kt 6 5) f.1)

/-- A staged record as IPFIX: TIME is UTC (10 R382). -/
def ipfixRecord (c : Cfg) (id utc : Nat) (r : List Word) : IpfixRecord :=
  let kt := fld (wordAt r 0) 27 20
  let key := wordsToBytes (r.drop 10)
  { template := id
    values := [fld (wordAt r 0) 7 0, fld (wordAt r 0) 19 8, join (wordAt r 2) (wordAt r 3) - utc * 10 ^ 9, join (wordAt r 4) (wordAt r 5),
        join (wordAt r 6) (wordAt r 7), (wordAt r 8).toNat, (wordAt r 9).toNat] ++
      (emitFields c kt).map fun f => beAt key f.2 (fieldSize (nfld kt 6 5) f.1) }

/-- Templates by their IDs, from 256 upward in the order of their first use (10 R382). -/
def ipfixId (l : List (Nat × Nat × List IpfixField)) (t : Nat × Nat × List IpfixField) : Nat := 256 + l.findIdx fun x => x == t

/-- Firmware sends an IPFIX message to the policy's collector. -/
def State.sendIpfix (templates : List (Nat × Nat × List IpfixField)) (records : List (List Word)) (s : State) : State :=
  match s.img.policy.collector with
  | some (a, udp, m) => s.emit (.ipfix m a udp s.emitSet.2
      (templates.map fun t => { id := ipfixId s.prg.templates t, fields := t.2.2 })
      (records.map fun r => ipfixRecord s.stg.cur (ipfixId s.prg.templates (emitTemplate s.stg.cur r)) s.tim.utc r))
  | none => s

/-- IPFIX_EXPORT: the oldest staged record of a stack is sent, its template before the first use; staging that it
empties is freed. -/
def execIpfixExport (stack : Fin 4) (s : State) : Res :=
  .next (match tabGet [] s.prg.staging stack.val with
  | [] => s
  | r :: rest =>
    let b := s.prg.ipfixBucket.draw 1000000 (1 + Config.rateDepth 7) 1 s.tim.up
    if s.img.policy.collector.isNone ∨ !s.crn.fwRuns ∨ !b.1 then s
    else
      let t := emitTemplate s.stg.cur r
      let new := !s.prg.templates.contains t
      let u := (s.sendIpfix (if new then [t] else []) [r]).onPrg fun g => { g with
        staging := tabPut [] stack.val rest g.staging, ipfixBucket := b.2
        templates := if new then g.templates ++ [t] else g.templates }
      if rest.length % 32 = 0 then
        match u.bpm.owner.find? fun e => e.2 == 24 + stack.val with
        | some e => u.bpmRelease e.1
        | none => u
      else u)

/-- IPFIX_TEMPLATE_TIMER: every template is sent again. -/
def execIpfixTemplateTimer (s : State) : Res :=
  .next (if s.crn.fwRuns ∧ s.prg.templates ≠ [] then s.sendIpfix s.prg.templates [] else s)

end Sys2Proof.Machine
end

