-- ==== Sys2Proof/Machine/Frames.lean ====
section
/-!
DEFINITION. Frames in the module: their check sequence, buffer regions (11 R416, R417), chunks and packing
(11 R394 to R396), the copies at egress ports, and the end of a frame (06 R206; 11 R405, R406).
-/

namespace Sys2Proof.Machine

open Sys2Proof

/-! ## Cyclic redundancy checks -/

/-- One byte into a reflected CRC with polynomial `poly`. -/
def crcByte (poly crc : BitVec 32) (b : Byte) : BitVec 32 :=
  (List.range 8).foldl (fun c _ => if c.getLsbD 0 then (c >>> 1) ^^^ poly else c >>> 1) (crc ^^^ b.setWidth 32)

/-- A reflected CRC with initial value and final XOR all ones. -/
def crcOf (poly : BitVec 32) (l : List Byte) : BitVec 32 := ~~~ (l.foldl (crcByte poly) (BitVec.allOnes 32))

/-- The frame check sequence of IEEE 802.3, in the order its bytes are sent. -/
def fcsOf (l : List Byte) : List Byte := wordBytes (crcOf 0xEDB88320 l)

/-- CRC-32C of RFC 3720 (08 R290). -/
def crc32c (l : List Byte) : Nat := (crcOf 0x82F63B78 l).toNat

/-- A frame with a newly computed FCS, padded with zeros to 64 bytes (06 R606). `l` is the frame without its FCS. -/
def withFcs (l : List Byte) : List Byte :=
  let p := l ++ List.replicate (60 - l.length) 0
  p ++ fcsOf p

/-- Whether the last four bytes are the FCS of the rest. -/
def fcsGood (l : List Byte) : Bool := decide (l.drop (l.length - 4) = fcsOf (l.take (l.length - 4)))

/-! ## Frames -/

/-- The bytes of a frame as it leaves, once its last byte is in. -/
def Frame.final (x : Frame) : List Byte := if x.rewritten then withFcs (x.data.take (x.data.length - 4)) else x.data

/-- The bytes of a mirror copy that is cut to n bytes, of a whole frame (07 R246). -/
def cutCopy (n : Nat) (l : List Byte) : List Byte := if n < l.length then withFcs (l.take (n - 4)) else l

def State.frame (s : State) (fid : Nat) : Frame := tabGet {} s.frm.frames fid

def State.onFrame (fid : Nat) (f : Frame → Frame) (s : State) : State :=
  match tabFind s.frm.frames fid with
  | some x => s.onFrm fun m => { m with frames := tabIns fid (f x) m.frames }
  | none => s

/-- A new frame and its number. -/
def State.newFrame (x : Frame) (s : State) : Nat × State :=
  (s.frm.next, s.onFrm fun m => { m with frames := tabIns m.next x m.frames, next := m.next + 1 })

/-- Completes a host frame's descriptor (05 R154, R155). -/
def State.hostDone (x : Frame) (s : State) : State :=
  match x.host with
  | none => s
  | some (i, slot) =>
    match (s.ring i).busy.find? fun d => d.slot == slot && d.status.isNone with
    | none => s
    | some d => s.finishDesc i slot x.hostStatus (fld (wordAt d.data 0) 17 0) x.txTs

/-- Whether the frame waits for something before its result issues. -/
def State.frameWaits (s : State) (fid : Nat) : Bool :=
  s.frm.late.contains fid || s.frm.recirc.contains fid || (s.frm.parked.any fun p => p.fid == fid) ||
  (s.frm.colReady.any fun p => p.1 == fid) || (s.frm.colHeld.any fun p => p.1 == fid)

/-- Forgets a frame whose last byte has arrived and that has nothing left to send. -/
def State.settle (fid : Nat) (s : State) : State :=
  let x := s.frame fid
  if x.ended && decide (x.left = 0) && (decide (x.path ≠ .fabric) || decide (x.data.length ≤ x.packed)) && !s.frameWaits fid then
    (s.hostDone x).onFrm fun m => { m with frames := tabDel fid m.frames }
  else s

/-! ## Buffer regions (11 R416, R417) -/

def regIngress : Nat := 0
def regPark : Nat := 1
def regMid (dst cls : Nat) : Nat := 2 + dst * 8 + cls
def regEgress (p q : Nat) : Nat := 1000 + p % 16 * 8 + q
def regReseq : Nat := 2000

def regMin (r : Nat) : Nat := if r = 0 then 640 else if r = 1 then 256 else if r < 1000 then 1 else if r < 2000 then 4 else 1024

def State.bufUse (s : State) (c r : Nat) : Nat := tabGet 0 (s.cell c).buf r

/-- Free chunks of the shared pool. -/
def State.poolRoom (s : State) (c : Nat) : Nat := 5248 - ((s.cell c).buf.map fun e => e.2 - regMin e.1).sum

/-- The region's ALPHA code; an egress queue takes the code of the class of its number (log entry 27). -/
def State.alphaCode (s : State) (c r : Nat) : Nat :=
  if r < 2 then 4 else if r < 1000 then intCode (s.cellCfg c) c ((r - 2) % 8)
  else if r < 2000 then egrCode (s.cellCfg c) c ((r - 1000) % 8) else 5

/-- Whether a region above its minimum may take pool chunks: usage below ALPHA × F over a divisor. -/
def State.poolAllows (s : State) (c r div : Nat) : Bool :=
  decide ((s.bufUse c r - regMin r) * 16 * div < 2 ^ s.alphaCode c r * s.poolRoom c)

/-- Whether a region may take n chunks more. -/
def State.hasRoom (s : State) (c r n : Nat) : Bool :=
  decide (s.bufUse c r + n ≤ regMin r) ||
  (s.poolAllows c r 1 && decide (s.bufUse c r + n - max (s.bufUse c r) (regMin r) ≤ s.poolRoom c))

def State.bufAdd (c r n : Nat) (s : State) : State := s.onCell c fun x => { x with buf := tabMod 0 r (fun v => v + n) x.buf }
def State.bufSub (c r n : Nat) (s : State) : State := s.onCell c fun x => { x with buf := tabMod 0 r (fun v => v - n) x.buf }

/-- Chunks that a frame of a length is charged (11 R417). -/
def chunksFor (len : Nat) : Nat := (len + 16 + 111) / 112

/-! ## Egress copies -/

def qkey (p q : Nat) : Nat := p * 8 + q

/-- Applies an update to every copy that a test names, wherever it waits. -/
def State.onCopies (t : Copy → Bool) (f : Copy → Copy) (s : State) : State :=
  let g := updWhere t f
  s.onEgr fun e => { e with
    arriving := g e.arriving, queue := e.queue.map fun x => (x.1, g x.2), colq := e.colq.map fun x => (x.1, g x.2)
    tx := e.tx.map fun x => (x.1, if t x.2.copy then { x.2 with copy := f x.2.copy } else x.2)
    heldTx := e.heldTx.map fun x => (x.1, if t x.2.copy then { x.2 with copy := f x.2.copy } else x.2) }

/-- Every copy that waits or is sent at egress ports. -/
def State.allCopies (s : State) : List Copy :=
  s.egr.arriving ++ s.egr.queue.flatMap (fun x => x.2) ++ s.egr.colq.flatMap (fun x => x.2) ++
  s.egr.tx.map (fun x => x.2.copy) ++ s.egr.heldTx.map (fun x => x.2.copy)

/-- A chunk at its destination is freed when every frame with bytes in it has left or been dropped there (11 R417, R420). -/
def State.freeChunks (s : State) : State :=
  let live := s.allCopies
  s.onFab fun f => { f with
    landed := f.landed.filter fun d => d.pieces.any fun p => live.any fun c => c.fid == p.fid && cellOf c.port == d.dst }

/-- Releases what a copy holds at its egress port and ends it. -/
def State.endCopy (c : Copy) (s : State) : State :=
  let cell := cellOf c.port
  let t := if c.chunks = 0 then s else s.bufSub cell (regEgress c.port c.queue) c.chunks
  ((t.onFrame c.fid fun x => { x with left := x.left - 1 }).freeChunks).settle c.fid

/-- The copy of a frame at a port is under way on the line. -/
def State.txOf (s : State) (p : Nat) : Option Tx := tabFind s.egr.tx p

/-- Whether the copy of frame fid at port p has started. -/
def State.started (s : State) (fid p : Nat) : Bool :=
  (match tabFind s.egr.tx p with | some t => t.copy.fid == fid && t.at_.isSome | none => false) ||
  (match tabFind s.egr.heldTx p with | some t => t.copy.fid == fid | none => false)

/-- Removes a copy that has not started from the places where it waits. -/
def State.pullCopy (fid p : Nat) (s : State) : State :=
  let keep (l : List Copy) : List Copy := l.filter fun c => !(c.fid == fid && c.port == p)
  s.onEgr fun e => { e with
    arriving := keep e.arriving
    queue := (e.queue.map fun x => (x.1, keep x.2)).filter fun x => x.2 != []
    colq := (e.colq.map fun x => (x.1, keep x.2)).filter fun x => x.2 != []
    tx := e.tx.filter fun x => !(x.1 == p && x.2.copy.fid == fid && x.2.at_.isNone) }

/-- Drops a copy that has not started, under a port counter or a fabric counter of its cell. -/
def State.dropCopy (c : Copy) (kind idx : Nat) (s : State) : State :=
  ((s.pullCopy c.fid c.port).endCopy c).bump kind (if kind = 1 then c.port else if kind = 14 then cellOf c.port else qkey c.port c.queue) idx 1

/-- The copies of a frame that has been found bad: those that have started are stomped when they end, the others are
dropped (11 R405). -/
def State.badTail (fid : Nat) (ports : List Nat) (s : State) : State :=
  ports.foldl (fun a p =>
    if a.started fid p then a.onCopies (fun c => c.fid == fid && c.port == p) fun c => { c with bad := true, whole := true }
    else
      match a.allCopies.find? fun c => c.fid == fid && c.port == p with
      | some c => a.dropCopy c 14 10
      | none => a) s

/-- Ports of a mask at a cell (11 R395). -/
def maskPorts (cell mask : Nat) : List Nat := (bitsOf 16 mask).map fun k => 16 * cell + k

/-- The frame length that an egress cell goes by: the bytes in order once the frame is whole, else LEN of its frame header; where that is 0,
the length told at its entry (11 R395; 06 R205; log entry 29). -/
def State.lengthOf (s : State) (c : Copy) : Nat :=
  if c.whole then c.got else if c.len ≠ 0 then c.len else (s.frame c.fid).length

/-! ## Chunks (11 R394 to R396) -/

/-- The frame starts in the chunk. -/
def Piece.first (p : Piece) : Bool := p.head != 0

/-- The frame header before a piece, and its timestamp extension (11 R395). -/
def State.frameHeader (s : State) (p : Piece) : List Word :=
  let x := s.frame p.fid
  let ns := x.ts / 2 ^ 16
  [wd (p.hlen + x.tc * 2 ^ 14 + b2n x.yellow * 2 ^ 17 + b2n (p.head == 16) * 2 ^ 18), wd (x.epoch + p.mask * 2 ^ 16)] ++
  if p.head = 16 then [wd (ns % 10 ^ 9), wd (x.ts % 2 ^ 16 + ns / 10 ^ 9 % 2 ^ 16 * 2 ^ 16)] else []

/-- The payload of a chunk: frame headers and frame bytes (11 R394, R395). -/
def State.payload (s : State) (c : Chunk) : List Byte :=
  c.pieces.flatMap fun p =>
    (if p.first then (s.frameHeader p).flatMap wordBytes else []) ++ ((s.frame p.fid).data.drop p.off).take p.len

/-- The continuation of a frame at the start of a chunk. -/
def Chunk.cont (c : Chunk) : Option Piece := match c.pieces with | p :: _ => if p.first then none else some p | [] => none

/-- Words 0 to 2 of a chunk's header: FIRST, CONT, CONT_END and TAIL_BAD follow from what lies in it (11 R394). -/
def Chunk.words (c : Chunk) : List Word :=
  let first := match c.cont with
    | some p => if 2 ≤ c.pieces.length then p.len else 127
    | none => if c.pieces = [] then 127 else 0
  let tail := match c.cont with
    | some p => 2 ^ 14 + (if p.last then p.len else 127) * 2 ^ 15 + b2n (p.last && p.bad) * 2 ^ 22
    | none => 0
  [wd (c.src + c.dst * 2 ^ 6 + c.cls * 2 ^ 12 + c.seq * 2 ^ 16), wd (c.fill + first * 2 ^ 7 + tail + c.pgen * 2 ^ 23), 0]

/-- The 16-byte header of a chunk: its check covers words 0 to 2 and the payload (11 R394). -/
def State.chunkHeader (s : State) (c : Chunk) : List Word :=
  c.words ++ [wd (crc32c (c.words.flatMap wordBytes ++ s.payload c))]

def ckeyOf (src dst cls : Nat) : Nat := (src * 64 + dst) * 8 + cls

/-- Closes the partial chunk of a destination and class: it takes the pair's next SEQ and joins the first-stage queue. -/
def State.closeChunk (src dst cls : Nat) (s : State) : State :=
  match tabFind s.fab.partials (ckeyOf src dst cls) with
  | none => s
  | some c =>
    let k := src * 64 + dst
    let d : Chunk := { c with seq := tabGet 0 s.fab.seq k, pgen := tabGet 0 s.fab.pgen src }
    s.onFab fun f => { f with
      partials := tabDel (ckeyOf src dst cls) f.partials
      first := tabMod [] src (fun l => l ++ [d]) f.first
      seq := tabMod 0 k (fun n => (n + 1) % 65536) f.seq }

/-- The partial chunk of a destination and class; a new one takes a chunk of ingress staging. -/
def State.openChunk (src dst cls : Nat) (s : State) : Chunk × State :=
  match tabFind s.fab.partials (ckeyOf src dst cls) with
  | some c => (c, s)
  | none => ({ src := src, dst := dst, cls := cls, opened := s.now }, s.bufAdd src regIngress 1)

/-- A piece behind those of a chunk; one that goes on where the last piece ended is one with it (11 R394). -/
def addPiece (p : Piece) : List Piece → List Piece
  | [] => [p]
  | [q] => if q.fid == p.fid && !p.first && q.off + q.len == p.off then [{ q with len := q.len + p.len, last := p.last, bad := p.bad }] else [q, p]
  | q :: t => q :: addPiece p t

/-- Packs `len` bytes of a frame from `off` into the partial chunks of one destination. `head` is the size of its
header where the frame has not begun there. -/
def packBytes : Nat → Nat → Nat → Nat → Nat → Nat → Nat → Nat → Nat → Bool → Bool → State → State
  | 0, _, _, _, _, _, _, _, _, _, _, s => s
  | n + 1, src, dst, cls, mask, fid, off, len, head, last, bad, s =>
    let o := s.openChunk src dst cls
    let c := o.1
    if 112 - c.fill < head ∨ c.fill = 112 then packBytes n src dst cls mask fid off len head last bad (s.closeChunk src dst cls)
    else
      let k := min len (112 - c.fill - head)
      let fin := last && decide (k = len)
      let x := s.frame fid
      let p : Piece :=
        { fid := fid, off := off, len := k, mask := mask, head := head, hlen := if head ≠ 0 ∧ x.ended then x.length else 0
          last := fin, bad := fin && bad }
      let d : Chunk := { c with fill := c.fill + head + k, pieces := addPiece p c.pieces }
      let t := o.2.onFab fun f => { f with partials := tabIns (ckeyOf src dst cls) d f.partials }
      let u := if d.fill = 112 then t.closeChunk src dst cls else t
      if k < len then packBytes n src dst cls mask fid (off + k) (len - k) 0 last bad u else u

/-- More bytes of an admitted copy: its charge and its counted bytes grow with it (12 R434). -/
def State.growCopies (fid p n : Nat) (last : Bool) (s : State) : State :=
  match s.allCopies.find? fun c => c.fid == fid && c.port == p with
  | none => s
  | some c =>
    let k := if c.chunks = 0 then 0 else max c.chunks (chunksFor (c.got + n))
    let t := (s.onIf (decide (c.chunks < k)) fun a => a.bufAdd (cellOf p) (regEgress p c.queue) (k - c.chunks))
    t.onCopies (fun d => d.fid == fid && d.port == p) fun d => { d with got := d.got + n, whole := d.whole || last, chunks := k }

/-- Bytes of one piece reach the egress side of their cell. -/
def State.landPiece (cell : Nat) (p : Piece) (s : State) : State :=
  let ports := maskPorts cell p.mask
  let t :=
    if p.first then
      s.onEgr fun e => { e with
        arriving := e.arriving ++ ports.map fun k => { fid := p.fid, port := k, got := p.len, len := p.hlen, whole := p.last } }
    else ports.foldl (fun a k => a.growCopies p.fid k p.len p.last) s
  if p.last && p.bad then t.badTail p.fid ports else t

/-- The end of a frame is known once its last byte is packed: the piece with that byte ends the frame, wherever its
chunk is, so no chunk is sent for the end alone (11 R394: FILL is 1 to 112). -/
def State.endPacked (fid : Nat) (s : State) : State :=
  let x := s.frame fid
  let tail (p : Piece) : Bool := p.fid == fid && p.off + p.len == x.packed
  let mark (c : Chunk) : Chunk :=
    { c with pieces := c.pieces.map fun p => if tail p then { p with last := true, bad := x.bad } else p }
  let f := s.fab
  let all : List Chunk :=
    f.partials.map (fun e => e.2) ++ f.first.flatMap (fun e => e.2) ++ f.mid.flatMap (fun e => e.2) ++
    f.wire.map (fun e => e.2) ++ f.gone ++ f.pairs.flatMap fun e => e.2.held
  let t := s.onFab fun f => { f with
    partials := f.partials.map fun e => (e.1, mark e.2)
    first := f.first.map fun e => (e.1, e.2.map mark)
    mid := f.mid.map fun e => (e.1, e.2.map mark)
    wire := f.wire.map fun e => (e.1, mark e.2)
    gone := f.gone.map mark
    pairs := f.pairs.map fun e => (e.1, { e.2 with held := e.2.held.map mark }) }
  x.plan.copies.foldl (fun a c =>
    if all.any fun d => d.dst == c.1 && d.pieces.any tail then a
    else a.landPiece c.1 { fid := fid, off := x.packed, len := 0, mask := c.2, last := true, bad := x.bad }) t

/-! ## The slot ledger (17 R569) -/

/-- The pass of a frame that has no entry yet is entered as Kept or Spent (17 R566, R569). -/
def State.ledger (fid : Nat) (kept : Bool) (s : State) : State :=
  let x := s.frame fid
  if x.open_ then
    (s.pmuEvent (cellOf x.port) (if kept then 1 else 2) 1 { priv := some x.priv, cls := some x.tc }).onFrame fid fun y =>
      { y with open_ := false }
  else s

/-- Chunks of ingress staging that packing takes, beyond the partial chunk of a destination and class. -/
def State.freshChunks (s : State) (src dst cls head len : Nat) : Nat :=
  let room := match tabFind s.fab.partials (ckeyOf src dst cls) with | some c => 112 - c.fill | none => 0
  if room = 0 ∨ room < head then (head + len + 111) / 112 else (len - (room - head) + 111) / 112

/-- A frame whose further bytes find no ingress staging room is dropped: what the fabric has of it ends bad (11 R405, R418). -/
def State.cutPacked (fid : Nat) (s : State) : State :=
  let x := s.frame fid
  let src := cellOf x.port
  let t := (s.onFrame fid fun y => { y with data := y.data.take y.packed, bad := true, hostStatus := 7 }).endPacked fid
  ((((t.ledger fid false).onFrame fid fun y => { y with path := .direct }).bump 14 src 11 1).onIf (!x.bad) fun a => a.bump 14 src 9 1).settle fid

/-- Packs the bytes of a frame that have arrived and are not packed yet into the chunks of each of its copies (11 R396,
R419). Without room in ingress staging the frame is lost (11 R418). -/
def State.packFrame (fid : Nat) (s : State) : State :=
  let x := s.frame fid
  let src := cellOf x.port
  let len := x.data.length - x.packed
  if x.path ≠ .fabric then s
  else if len = 0 then s.onIf x.ended fun a => a.endPacked fid
  else
    let head := if x.packed = 0 then (if x.ptp then 16 else 8) else 0
    let need := (x.plan.copies.map fun c => s.freshChunks src c.1 x.tc head len).sum
    let lost := need != 0 && !s.hasRoom src regIngress need
    if lost && decide (x.packed ≠ 0) then s.cutPacked fid
    else if lost then
      (((s.bump 14 src 11 1).ledger fid false).onFrame fid fun y => { y with
        packed := y.data.length, left := 0, plan := { y.plan with copies := [] }, path := .direct, hostStatus := 7 }).settle fid
    else
      let t := x.plan.copies.foldl (fun a c =>
        packBytes (len + 2) src c.1 x.tc c.2 fid x.packed len head x.ended x.bad a) s
      t.onFrame fid fun y => { y with packed := y.data.length }

/-- Whether anything of a frame, its header among it, has left its ingress cell: it lies elsewhere than in the cell's own chunks. -/
def State.hasLeft (s : State) (fid : Nat) : Bool :=
  let x := s.frame fid
  let src := cellOf x.port
  let here : List Chunk := s.fab.partials.map (fun e => e.2) ++ tabGet [] s.fab.first src
  let mine := (here.flatMap fun c => (c.pieces.filter fun p => p.fid == fid).map fun p => p.head + p.len).sum
  let all := if x.packed = 0 then 0 else x.packed + (if x.ptp then 16 else 8)
  decide (all * x.plan.copies.length ≠ mine)

/-- A chunk without the pieces of a frame: what follows them moves up. A closed chunk that nothing is left in goes on with the FILL and SEQ it
has (11 R394; log entry 114). -/
def Chunk.without (fid : Nat) (c : Chunk) : Chunk :=
  let l := c.pieces.filter fun p => p.fid != fid
  { c with pieces := l, fill := if l = [] then c.fill else (l.map fun p => p.head + p.len).sum }

/-- Takes a frame's pieces out of the ingress cell's chunks; a partial chunk that is left empty is given up. -/
def State.unpack (fid : Nat) (s : State) : State :=
  let src := cellOf (s.frame fid).port
  let strip (c : Chunk) : Chunk := c.without fid
  let gone := (s.fab.partials.filter fun e => (strip e.2).pieces.isEmpty).length
  (s.onFab fun f => { f with
    partials := (f.partials.map fun e => (e.1, strip e.2)).filter fun e => !e.2.pieces.isEmpty
    first := tabMod [] src (fun l => l.map strip) f.first }).bufSub src regIngress gone

/-! ## Cut-through into Col staging (11 R413, R415) -/

/-- Bytes of Col staging of a port (11 R413). -/
def stageBytes (c : Cfg) (p : Nat) : Nat := 12288 * portLanes c p

/-- Bytes in a port's Col staging: those of waiting Col frames, and those that the port has yet to send of the one it is sending. -/
def State.staged (s : State) (p : Nat) : Nat :=
  ((tabGet [] s.egr.colq p).map fun c => c.got).sum +
  match s.txOf p with | some t => if t.copy.col then t.copy.got - t.sent else 0 | none => 0

/-- Bytes of a Col frame that have arrived reach the egress cell. A frame that they find the staging full for is dropped; one that has started
is stomped (11 R405, R415). -/
def State.feedCol (fid : Nat) (s : State) : State :=
  let x := s.frame fid
  if x.path = .col then
    let grow (a : State) (c : Copy) : State :=
      let here (d : Copy) : Bool := d.fid == fid && d.port == c.port
      if c.bad then a
      else if a.staged c.port + (x.data.length - c.got) ≤ stageBytes (a.portCfg c.port) c.port then
        a.onCopies here fun d => { d with got := x.data.length, whole := x.ended }
      else if a.started fid c.port then (a.bump 14 (cellOf c.port) 17 1).onCopies here fun d => { d with bad := true, whole := true }
      else (a.onFrame fid fun y => { y with hostStatus := if y.hostStatus = 0 then 7 else y.hostStatus }).dropCopy c 14 17
    (s.allCopies.filter fun c => c.fid == fid).foldl grow s
  else s

/-- Injection channels that a frame of a port takes (11 R413). -/
def colChannels (mode : Nat) : Nat := if mode = 4 then 4 else if mode = 3 then 2 else 1

/-! ## The end of a frame (06 R206; 11 R405, R406) -/

/-- Posts the VOID of a frame whose OPERATE was posted: OPCODE 1, else the OPERATE's words (09 R316, R338; 11 R406). -/
def State.postVoid (fid : Nat) (s : State) : State :=
  let x := s.frame fid
  match x.op with
  | none => s
  | some (m, k) =>
    let c := cellOf x.port
    let t := s.onFrame fid fun y => { y with op := none }
    if 256 ≤ (s.flo.voids.filter fun v => v.cell == c && !v.passed).length then
      (t.bump 9 c 4 1).raise { src := 1024 + c, reason := 7, cls := 1 }
    else t.onFlo fun f => { f with
      voids := f.voids ++ [{ cell := c, msg := m.set 1 (wordAt m 1 + 1), keyLen := k, ord := f.seq + 1, priv := x.priv }], seq := f.seq + 1 }

/-- A frame's last byte has arrived: the rest of it goes where its first bytes went. A bad frame is removed while all
of it is in its ingress cell, else it is carried to its end and marked. -/
def State.closeFrame (fid : Nat) (bad : Bool) (s : State) : State :=
  let y := s.frame fid
  let body := if y.rewritten && !bad then withFcs (y.data.take (y.data.length - 4)) else y.data
  let t0 := s.onFrame fid fun x => { x with ended := true, bad := x.bad || bad, data := body, length := body.length, chans := 0 }
  let t := if bad && !(t0.frm.parked.any fun p => p.fid == fid) then t0.postVoid fid else t0
  let x := t.frame fid
  match x.path with
  | .fabric =>
    if bad && !t.hasLeft fid then
      (((t.unpack fid).ledger fid true).onFrame fid fun x => { x with packed := x.data.length, left := 0 }).settle fid
    else (((t.packFrame fid).ledger fid true).onIf x.bad fun a => a.bump 14 (cellOf x.port) 9 1).settle fid
  | .col =>
    let u := t.feedCol fid
    let v := if bad then u.badTail fid (maskPorts ((x.plan.copies.headD (0, 0)).1) ((x.plan.copies.headD (0, 0)).2)) else u
    v.settle fid
  | _ =>
    if bad ∧ x.path ≠ .direct ∧ !(t.frm.parked.any fun p => p.fid == fid) then
      let h := ((t.frm.colHeld.filter fun p => p.1 == fid).map fun p => p.2.2).sum
      (((t.ledger fid true).bufSub (cellOf x.port) regIngress h).onFrm fun m => { m with
        late := m.late.filter fun f => f != fid, recirc := m.recirc.filter fun f => f != fid
        colReady := m.colReady.filter fun e => e.1 != fid, colHeld := m.colHeld.filter fun e => e.1 != fid
        frames := tabDel fid m.frames }).hostDone x
    else t.settle fid

/-- The mirror copies of a frame end with it. A cut copy of a frame that leaves stomped is stomped (07 R246). -/
def State.endCopies (fid : Nat) (bad : Bool) (s : State) : State :=
  let x := s.frame fid
  let copies := (s.frm.frames.filter fun e => (match e.2.mirrorOf with | some (f, _) => f == fid | none => false) && !e.2.ended)
  let out := decide (x.path = .col) || (decide (x.path = .fabric) && s.hasLeft fid)
  copies.foldl (fun b e =>
    match e.2.mirrorOf with
    | some (_, some n) =>
      if bad && !out then b.closeFrame e.1 true
      else
        let l := e.2.final
        let c := b.onFrame e.1 fun y => { y with data := cutCopy n l, rewritten := false, path := .fabric }
        if bad then ((c.onFrame e.1 fun y => { y with ended := true, bad := true }).packFrame e.1).settle e.1
        else c.closeFrame e.1 false
    | _ => b.closeFrame e.1 bad) s

end Sys2Proof.Machine
end

