-- ==== Sys2Proof/Machine/Parser.lean ====
section
/-!
DEFINITION. The parser and the search key of the cell pipeline (07 R222, R223, R230 to R234).
-/

namespace Sys2Proof.Machine

open Sys2Proof

/-- What the parser finds in a frame (07 R230, R233). Offsets are from the frame's first byte. -/
structure Parsed where
  dmac : Nat := 0
  smac : Nat := 0
  otagV : Bool := false
  opcp : Nat := 0
  ovid : Nat := 0
  itagV : Bool := false
  ivid : Nat := 0
  etype : Nat := 0
  /-- Offset of the first byte after the EtherType. -/
  l2End : Nat := 14
  labels : List (Nat × Nat) := []
  hdrExcess : Bool := false
  /-- 0 L2, 1 IPv4, 2 IPv6. -/
  fmt : Nat := 0
  l3 : Nat := 0
  proto : Nat := 0
  dscp : Nat := 0
  ttl : Nat := 0
  frag : Bool := false
  nonfirst : Bool := false
  ipOpt : Bool := false
  deep : Bool := false
  sip : Nat := 0
  dip : Nat := 0
  l4V : Bool := false
  l4 : Nat := 0
  sport : Nat := 0
  dport : Nat := 0
  tcpFlags : Nat := 0
  vxlan : Bool := false
  vni : Nat := 0
  /-- Offset of the inner Ethernet header. -/
  inner : Nat := 0
  isip : Nat := 0
  idip : Nat := 0
  iproto : Nat := 0
  /-- The VNI of a VXLAN header that a Col ingress port does not present (07 R223). -/
  lateVni : Bool := false
  ptp : Bool := false
  ptpAt : Nat := 0
  ptpUdp : Nat := 0
  /-- The end of the last field that was looked for, of all and of those outside the tunnel unit, and whether a field
  lies at or beyond byte 64. -/
  want : Nat := 0
  outer : Nat := 0
  lateAbsent : Bool := false
deriving DecidableEq, Repr

/-- The bytes a parse works on: the frame, how far headers may reach, and how far bytes can be read. -/
structure View where
  data : List Byte
  lim : Nat
  vis : Nat
  /-- A Col ingress port: what lies beyond the readable bytes is absent, and not merely still to come. -/
  col : Bool
deriving DecidableEq, Repr

/-- n bytes at an offset; a field that reaches beyond the visible bytes is 0 (07 R223). -/
def View.rd (v : View) (off n : Nat) : Nat := if off + n ≤ v.vis then beAt v.data off n else 0

/-- A header of n bytes at an offset lies within the limit. -/
def View.fits (v : View) (off n : Nat) : Bool := decide (off + n ≤ v.lim)

/-- A field of n bytes at an offset was looked for; one of the tunnel unit. -/
def Parsed.seek (p : Parsed) (off n : Nat) : Parsed := { p with want := max p.want (off + n), outer := max p.outer (off + n) }
def Parsed.seekIn (p : Parsed) (off n : Nat) : Parsed := { p with want := max p.want (off + n) }

/-- The bytes that the key needs: the IPv6 format holds no tunnel unit (07 R222, R232). -/
def Parsed.needs (p : Parsed) : Nat := min 128 (if p.fmt = 2 then p.outer else p.want)

/-- Whether a field can be read. -/
def View.sees (v : View) (off n : Nat) : Bool := decide (off + n ≤ v.vis)

/-- Extension headers of IPv6 (07 R230). -/
def isExtension (nh : Nat) : Bool := decide (nh = 0 ∨ nh = 43 ∨ nh = 44 ∨ nh = 60)

/-- VXLAN and its inner headers (07 R230). `u` is the offset of the UDP header. -/
def parseVxlan (v : View) (u : Nat) (p : Parsed) : Parsed :=
  if !v.fits u 16 then p
  else
    let q := p.seekIn (u + 12) 3
    if v.col && !v.sees (u + 12) 3 then { q with lateVni := true }
    else
      let a := u + 16
      let r : Parsed := { q with vxlan := true, vni := v.rd (u + 12) 3, inner := a }
      if !v.fits a 14 then r
      else
        let t := v.rd (a + 12) 2
        let tag := decide (t = 0x8100 ∨ t = 0x88A8)
        let e := if tag then v.rd (a + 16) 2 else t
        let i := if tag then a + 18 else a + 14
        let r := r.seekIn (i - 2) 2
        let ihl := v.rd i 1 % 16
        let nh := v.rd (i + 6) 1
        if !v.fits a (i - a) then r
        else if e = 0x0800 ∧ v.fits i 20 then
          let w := r.seekIn (i + 9) 11
          if v.sees i 1 && (decide (ihl < 5) || !v.fits i (4 * ihl)) then r.seekIn i 1
          else { w with iproto := v.rd (i + 9) 1, isip := v.rd (i + 12) 4, idip := v.rd (i + 16) 4 }
        else if e = 0x86DD ∧ v.fits i 40 then
          let w := r.seekIn (i + 6) 1
          if v.sees (i + 6) 1 && isExtension nh then w else { w with iproto := nh }
        else r

/-- The layer 4 header (07 R230). -/
def parseL4 (v : View) (vport : Option Nat) (o : Nat) (p : Parsed) : Parsed :=
  if p.nonfirst then p
  else if p.proto = 6 ∧ v.fits o 20 then
    let ok := v.sees o 14
    { p.seek o 14 with l4 := o, l4V := ok, sport := v.rd o 2, dport := v.rd (o + 2) 2, tcpFlags := v.rd (o + 13) 1 }
  else if p.proto = 17 ∧ v.fits o 8 then
    let d := v.rd (o + 2) 2
    let u : Parsed := { p.seek o 4 with l4 := o, l4V := v.sees o 4, sport := v.rd o 2, dport := d }
    let q : Parsed := if d = 319 ∨ d = 320 then { u with ptp := true, ptpAt := o + 8, ptpUdp := if p.fmt = 1 then 4 else 6 } else u
    if vport = some d then parseVxlan v o q else q
  else if p.proto = 132 ∧ v.fits o 12 then
    { p.seek o 4 with l4 := o, l4V := v.sees o 4, sport := v.rd o 2, dport := v.rd (o + 2) 2 }
  else if ((p.fmt = 1 ∧ p.proto = 1) ∨ (p.fmt = 2 ∧ p.proto = 58)) ∧ v.fits o 4 then
    { p.seek o 2 with l4 := o, l4V := v.sees o 2, sport := v.rd o 2 }
  else p

/-- Extension headers of IPv6, at most two: a third that is not cut sets DEEP (07 R230). -/
def parseExt (v : View) (vport : Option Nat) : Nat → Nat → Nat → Parsed → Parsed
  | n, o, nh, p =>
    if isExtension nh then
      match n with
      | 0 =>
        if nh = 44 ∨ !v.fits o 8 then { p with deep := v.fits o 8, proto := nh }
        else { p.seek (o + 1) 1 with deep := v.fits o ((v.rd (o + 1) 1 + 1) * 8), proto := nh }
      | k + 1 =>
        if !v.fits o 8 then { p with proto := nh }
        else
          let len := if nh = 44 then 8 else (v.rd (o + 1) 1 + 1) * 8
          let q := if nh = 44 then p.seek o 4 else p.seek o 1
          if !v.sees o 1 then { q with proto := 0 }
          else if !v.sees o (if nh = 44 then 4 else 2) then { q.seek (o + 8) 1 with proto := v.rd o 1 }
          else
            let f := v.rd (o + 2) 2
            let q := if nh = 44 then { q with frag := decide (f / 8 ≠ 0 ∨ f % 2 = 1), nonfirst := decide (f / 8 ≠ 0) } else q
            if !v.fits o len then { q with proto := nh }
            else parseExt v vport k (o + len) (v.rd o 1) q
    else parseL4 v vport o { p with proto := nh }

/-- The IPv4 header (07 R230). -/
def parseV4 (v : View) (vport : Option Nat) (o : Nat) (p : Parsed) : Parsed :=
  let ihl := v.rd o 1 % 16
  if !v.fits o 20 then p
  else if !v.sees o 1 then p.seek o 1
  else if ihl < 5 ∨ !v.fits o (4 * ihl) then p
  else
    let f := v.rd (o + 6) 2
    let q : Parsed := { p.seek o 20 with
      fmt := 1, l3 := o, dscp := v.rd (o + 1) 1 / 4, ttl := v.rd (o + 8) 1, proto := v.rd (o + 9) 1
      sip := v.rd (o + 12) 4, dip := v.rd (o + 16) 4, ipOpt := decide (5 < ihl)
      frag := decide (f % 8192 ≠ 0 ∨ f / 8192 % 2 = 1), nonfirst := decide (f % 8192 ≠ 0) }
    parseL4 v vport (o + 4 * ihl) q

/-- The IPv6 header (07 R230). -/
def parseV6 (v : View) (vport : Option Nat) (o : Nat) (p : Parsed) : Parsed :=
  if !v.fits o 40 then p
  else
    let q : Parsed := { p.seek o 40 with
      fmt := 2, l3 := o, dscp := v.rd o 2 / 64 % 64, ttl := v.rd (o + 7) 1
      sip := v.rd (o + 8) 16, dip := v.rd (o + 24) 16 }
    parseExt v vport 2 (o + 40) (v.rd (o + 6) 1) q

/-- MPLS labels, at most three: a fourth that is not cut sets HDR_EXCESS (07 R230). -/
def parseMpls (v : View) (vport : Option Nat) : Nat → Nat → Parsed → Parsed
  | 0, o, p => { p with hdrExcess := v.fits o 4 }
  | n + 1, o, p =>
    if !v.fits o 4 then p
    else
      let w := v.rd o 4
      let q := { p.seek o 4 with labels := p.labels ++ [(w / 4096, w / 512 % 8)] }
      if w / 256 % 2 = 1 then
        let k := v.rd (o + 4) 1 / 16
        if !v.fits (o + 4) 1 then q
        else if k = 4 then parseV4 v vport (o + 4) q else if k = 6 then parseV6 v vport (o + 4) q else q
      else parseMpls v vport n (o + 4) q

/-- What follows the L2 header (07 R230). -/
def parseL3 (v : View) (vport : Option Nat) (o : Nat) (p : Parsed) : Parsed :=
  if p.etype = 0x8847 ∨ p.etype = 0x8848 then parseMpls v vport 3 o p
  else if p.etype = 0x0800 then parseV4 v vport o p
  else if p.etype = 0x86DD then parseV6 v vport o p
  else if p.etype = 0x88F7 then { p with ptp := true, ptpAt := o }
  else p

/-- Parses a frame (07 R230). -/
def parseFrame (v : View) (vport : Option Nat) : Parsed :=
  if !v.fits 0 14 then {}
  else
    let e := v.rd 12 2
    let p : Parsed := { ({} : Parsed).seek 0 14 with dmac := v.rd 0 6, smac := v.rd 6 6, etype := e }
    if (e = 0x88A8 ∨ e = 0x8100) ∧ v.fits 14 4 then
      let t := v.rd 14 2
      let e2 := v.rd 16 2
      let q := { p.seek 14 4 with otagV := true, opcp := t / 8192, ovid := t % 4096, etype := e2, l2End := 18 }
      if e2 = 0x8100 ∧ v.fits 18 4 then
        let e3 := v.rd 20 2
        let r := { q.seek 18 4 with itagV := true, ivid := v.rd 18 2 % 4096, etype := e3, l2End := 22 }
        if e3 = 0x8100 then { r with hdrExcess := v.fits 22 4 } else parseL3 v vport 22 r
      else parseL3 v vport 18 q
    else parseL3 v vport 14 p

/-- The parse of a frame of a length: headers end before the FCS and at byte 128; a Col ingress port reads only the
first 64 bytes, and LATE_ABSENT marks a field of its format's key beyond them (07 R222, R223, R230; log entry 136). -/
def parseOf (data : List Byte) (len : Nat) (col : Bool) (vport : Option Nat) : Parsed :=
  let v : View :=
    { data := data
      lim := min 128 (len - 4)
      vis := if col then min 64 data.length else data.length, col := col }
  let p := parseFrame v vport
  { p with want := min 128 p.want, lateAbsent := col && decide (64 < p.needs) }

/-- VXLAN_PORT, where VXLAN is recognized (07 R252). -/
def vxlanPort (c : Cfg) : Option Nat :=
  let w := wordAt (cfgWords c 0x0401 0 [wd (4789 + 2 ^ 16)]) 0
  if bit w 16 then some (fld w 15 0) else none

/-! ## The search key (07 R232 to R234) -/

def Parsed.bcast (p : Parsed) : Bool := decide (p.dmac = 0xFFFFFFFFFFFF)
def Parsed.mcast (p : Parsed) : Bool := decide (p.dmac / 2 ^ 40 % 2 = 1) && !p.bcast

/-- Unit U0 (07 R233). -/
def Parsed.unit0 (p : Parsed) (port : Nat) (recirc host colPort : Bool) : Nat :=
  port + p.ovid * 2 ^ 10 + p.opcp * 2 ^ 22 + p.ivid * 2 ^ 25 + p.etype * 2 ^ 37 + p.fmt * 2 ^ 53 + p.proto * 2 ^ 55 +
  p.dscp * 2 ^ 63 + p.tcpFlags * 2 ^ 69 + b2n p.otagV * 2 ^ 77 + b2n p.itagV * 2 ^ 78 + b2n (!p.labels.isEmpty) * 2 ^ 79 +
  b2n p.l4V * 2 ^ 80 + b2n p.frag * 2 ^ 81 + b2n p.nonfirst * 2 ^ 82 + b2n p.ipOpt * 2 ^ 83 + b2n p.deep * 2 ^ 84 +
  b2n p.hdrExcess * 2 ^ 85 + b2n p.vxlan * 2 ^ 86 + b2n p.ptp * 2 ^ 87 + b2n (decide (p.fmt ≠ 0 ∧ p.ttl ≤ 1)) * 2 ^ 88 +
  b2n p.bcast * 2 ^ 89 + b2n p.mcast * 2 ^ 90 + b2n recirc * 2 ^ 91 + b2n host * 2 ^ 92 + b2n p.lateAbsent * 2 ^ 93 +
  b2n colPort * 2 ^ 94

/-- The tunnel unit (07 R234). -/
def Parsed.tunnel (p : Parsed) : Nat :=
  if p.lateVni then 0
  else if p.vxlan then p.vni + p.isip * 2 ^ 24 + p.idip * 2 ^ 56 + p.iproto * 2 ^ 88
  else
    let l (i : Nat) : Nat × Nat := p.labels.getD i (0, 0)
    (l 0).1 + (l 1).1 * 2 ^ 20 + (l 2).1 * 2 ^ 40 + (l 0).2 * 2 ^ 60 + (l 1).2 * 2 ^ 63 + (l 2).2 * 2 ^ 66

/-- The 384-bit key (07 R232). -/
def Parsed.key (p : Parsed) (port : Nat) (recirc host colPort : Bool) : Nat :=
  let macs := p.dmac + p.smac * 2 ^ 48
  let ports := p.sport * 2 ^ 64 + p.dport * 2 ^ 80
  let u :=
    if p.fmt = 1 then (p.sip + p.dip * 2 ^ 32 + ports, macs, p.tunnel)
    else if p.fmt = 2 then
      (p.dip / 2 ^ 32, p.sip / 2 ^ 32, p.dip % 2 ^ 32 + p.sip % 2 ^ 32 * 2 ^ 32 + ports)
    else (macs, 0, p.tunnel)
  p.unit0 port recirc host colPort + u.1 * 2 ^ 96 + u.2.1 * 2 ^ 192 + u.2.2 * 2 ^ 288

/-- Bytes of a MAC address, given as a number whose bits [47:40] are sent first (08 R265). -/
def macBytes (n : Nat) : List Byte := beBytes 6 n

end Sys2Proof.Machine
end

