-- ==== Sys2Proof/Machine/Classify.lean ====
section
/-!
DEFINITION. The classifier: banks, profiles, the winning entry (07 R235 to R241), meters (07 R244), and the
classification commands (07 R250 to R262).
-/

namespace Sys2Proof.Machine

open Sys2Proof

/-! ## Objects and their cold-start words (07 R251) -/

/-- Object number of item n in a cell. -/
def perCell (n cell : Nat) : Nat := n * 64 + cell

def bankDefault (b c : Nat) : List Word := wd b :: two (2 ^ c)
def profileDefault (p c : Nat) : List Word :=
  wd p :: two (2 ^ c) ++ List.replicate 12 0xFFFFFFFF ++ [wd (2 ^ 9 + 2 * 2 ^ 18), 3, 0, 0, 0, 0]
def clsPortDefault (p : Nat) : List Word := [wd p]
def meterDefault (m c : Nat) : List Word := wd m :: two (2 ^ c) ++ [100000000, 100000000, 16777215, 16777215]
def mirrorDefault (m c : Nat) : List Word := wd m :: two (2 ^ c)

/-- WIDTH, UNIT_A, UNIT_B and FORMATS of a bank in a cell: word 4 of CLS_BANK_SET. -/
def bankWord (c : Cfg) (b cell : Nat) : Word := wordAt (cfgWords c 0x0402 (perCell b cell) (bankDefault b cell)) 0
def bankWidth (c : Cfg) (b cell : Nat) : Nat := fld (bankWord c b cell) 5 4

/-- Entries of a width code, and words of one entry's VALUE (07 R235). -/
def widthEntries (w : Nat) : Nat := if w = 1 then 1024 else if w = 2 then 512 else if w = 3 then 256 else 0
def widthWords (w : Nat) : Nat := if w = 1 then 3 else if w = 2 then 6 else if w = 3 then 12 else 0

/-- Units that a bank compares (07 R235). -/
def bankUnits (w : Word) : List Nat :=
  let k := fld w 5 4
  if k = 1 then [fld w 7 6] else if k = 2 then [fld w 7 6, fld w 9 8] else if k = 3 then [0, 1, 2, 3] else []

def profileWords (c : Cfg) (p cell : Nat) : List Word := cfgWords c 0x0403 (perCell p cell) (profileDefault p cell)

/-- The number that a list of words spells, first word lowest. -/
def wordsNat : List Word → Nat
  | [] => 0
  | w :: t => w.toNat + 2 ^ 32 * wordsNat t

def profileMask (w : List Word) : Nat := wordsNat ((w.drop 3).take 12)
def profileSel (w : List Word) (i : Nat) : Nat :=
  if i = 3 then fld (wordAt w 16) 8 0 else fld (wordAt w 15) (9 * i + 8) (9 * i)
def profileBanks (w : List Word) : Nat := fld (wordAt w 16) 24 9
def profileAction (w : List Word) : List Word := (w.drop 17).take 4

def clsPortWord (c : Cfg) (p : Nat) : Word := wordAt (cfgWords c 0x0404 p (clsPortDefault p)) 0
/-- The profile that a port names for a format (07 R237, R255). -/
def portProfile (c : Cfg) (p fmt : Nat) : Nat := fld (clsPortWord c p) (12 + 3 * fmt) (10 + 3 * fmt)
def defaultZone (c : Cfg) (p : Nat) : Nat := fld (clsPortWord c p) 30 19

/-- Object number of a classifier entry. -/
def ruleObj (bank entry cell : Nat) : Nat := perCell (bank * 1024 + entry) cell
def ruleBank (o : Nat) : Nat := o / 64 / 1024
def ruleEntry (o : Nat) : Nat := o / 64 % 1024

/-! ## The winning entry (07 R236 to R240) -/

/-- The bits of a number at a list of units, the first unit lowest. -/
def unitBits (k : Nat) : List Nat → Nat
  | [] => 0
  | u :: t => k / 2 ^ (96 * u) % 2 ^ 96 + 2 ^ 96 * unitBits k t

/-- Whether an entry takes part and matches: its words, the key before and after the profile's mask. -/
def entryMatches (w : List Word) (units : List Nat) (p masked : Nat) : Bool :=
  let tag := fld (wordAt w 0) 21 18
  let k := unitBits masked units
  let n := 3 * units.length
  let value := wordsNat ((w.drop 3).take n)
  let mask := wordsNat ((w.drop 15).take n)
  (tag == p || tag == 15) && decide (k &&& mask = value)

/-- The better of two matches: the higher priority, then the lower bank, then the lower first row (07 R240). -/
def betterRule (a b : Nat × List Word) : Nat × List Word :=
  let pa := fld (wordAt a.2 0) 17 14
  let pb := fld (wordAt b.2 0) 17 14
  if pb < pa ∨ (pa = pb ∧ a.1 ≤ b.1) then a else b

/-- The action words of the winning entry, and whether one matched (07 R236 to R240). -/
def classify (c : Cfg) (cell port fmt key : Nat) : List Word × Bool :=
  let prof := profileWords c (portProfile c port fmt) cell
  let masked := key &&& profileMask prof
  let p := (List.range 4).foldl (fun a i => a + b2n (key.testBit (profileSel prof i)) * 2 ^ i) 0
  let banks := profileBanks prof
  let hits := (cfgAll c 0x0410).filter fun e =>
    let w := bankWord c (ruleBank e.1) cell
    e.1 % 64 == cell && banks.testBit (ruleBank e.1) && (fld w 12 10).testBit fmt && fld w 5 4 != 0 &&
      entryMatches e.2 (bankUnits w) p masked
  match hits with
  | [] => (profileAction prof, false)
  | a :: t => (((t.foldl betterRule a).2.drop 27).take 4, true)

/-- An action's words (07 R241). -/
structure Action where
  w : List Word
deriving DecidableEq, Repr

def Action.f (a : Action) (i hi lo : Nat) : Nat := fld (wordAt a.w i) hi lo
def Action.b (a : Action) (i n : Nat) : Bool := bit (wordAt a.w i) n

/-- Whether an action's words are answered INVALID (07 R241). -/
def actionBad (w : List Word) : Bool :=
  let a : Action := { w := w }
  let fwd := a.f 0 10 8
  a.f 0 31 24 != 0 || a.f 1 31 29 != 0 || a.f 2 31 28 != 0 || a.f 3 31 13 != 0 ||
  (if a.f 0 1 0 = 3 then inRange (a.f 0 7 2) 1 15 else a.f 0 7 2 != 0) ||
  decide (3 < fwd) ||
  decide ((if fwd = 0 then 0 else if fwd = 1 then 1023 else if fwd = 2 then 4095 else 16383) < a.f 1 15 0)

/-! ## Meters (07 R244) -/

def meterWords (c : Cfg) (m cell : Nat) : List Word := cfgWords c 0x0420 (perCell m cell) (meterDefault m cell)

/-- A two-rate three-color meter of RFC 2698, color-blind: rates in kb/s, bursts in bytes, the two buckets and the
length. 0 green, 1 yellow, 2 red. -/
def trTcm (cir pir cbs pbs : Nat) (tc tp : Bucket) (len t : Nat) : Nat × Bucket × Bucket :=
  let c := tc.refill (cir * 125) t
  let p := tp.refill (pir * 125) t
  if pir = 0 ∨ !p.has pbs len then (2, c, p)
  else if cir = 0 ∨ !c.has cbs len then (1, c, p.take len)
  else (0, c.take len, p.take len)

/-- Charges meter m of a cell: the color and the state. -/
def State.chargeMeter (c : Cfg) (cell m len : Nat) (s : State) : Nat × State :=
  let w := meterWords c m cell
  let b := tabGet (0, 0, 0) (s.cell cell).meters m
  let r := trTcm (fld (wordAt w 3) 26 0) (fld (wordAt w 4) 26 0) (fld (wordAt w 5) 23 0) (fld (wordAt w 6) 23 0)
    { used := b.1, at_ := b.2.2 } { used := b.2.1, at_ := b.2.2 } len s.tim.up
  (r.1, (s.onCell cell fun x => { x with
    meters := tabPut (0, 0, 0) m (r.2.1.used, r.2.2.used, s.tim.up) x.meters }).bump 4 (cell * 4096 + m) r.1 1)

/-! ## Staged settings (07 R252 to R255, R260, R261) -/

/-- Sets an object of each named cell: the words carry one cell each. -/
def setCells (op n cells : Nat) (f : Nat → List Word) (d : Nat → List Word) (c : Cfg) : Cfg :=
  (bitsOf 64 cells).foldl (fun c k => cfgSet op (perCell n k) (f k) (d k) c) c

/-- The payload with its CELLS words naming one cell. -/
def oneCell (w : List Word) (k : Nat) : List Word := w.take 1 ++ two (2 ^ k) ++ w.drop 3

/-- What CLS_PARSER_SET changes of a configuration. -/
def setClsParser (q : Req) : Cfg → Cfg :=
  cfgSet 0x0401 0 [q.w 4] [wd (4789 + 2 ^ 16)]

/-- CLS_PARSER_SET (07 R252). -/
def execClsParserSet (r : Req) (s : State) : Res :=
  mailbox 0x0401 r s (fun q => { bad := q.rsv [(4, 31, 17)] || q.f 4 15 0 == 0, ext := some 1 }) fun q =>
    { st := s.stageBy 0x0401 q (setClsParser q) }

/-- The older configurations that the entries of some cells still serve: the one before CURRENT while the commit is not complete, and
that of each frame of the cells whose second pass, under an older epoch, is still to come (07 R229, R247, R248). -/
def State.oldSidesOf (s : State) (p : Nat → Bool) : List Cfg :=
  (if s.hif.pend then [s.stg.prev] else []) ++
  (s.frm.frames.filter fun e => e.2.recirc && (s.frm.recirc.contains e.1 || s.frm.late.contains e.1) && p (cellOf e.2.port) &&
    decide (e.2.epoch ≠ s.hif.epoch)).map fun e => s.frameCfg e.2

/-- The older configurations that one cell's entries still serve. -/
def State.oldSides (s : State) (cell : Nat) : List Cfg := s.oldSidesOf fun k => k == cell

/-- An entry of a cell is occupied: live, staged, or deleted and not yet free (07 R247, R248). -/
def State.occupied (s : State) (op obj : Nat) : Bool :=
  (cfgFind s.stg.cur op obj).isSome || (cfgFind s.stg.staged op obj).isSome ||
  (s.oldSides (obj % 64)).any fun c => (cfgFind c op obj).isSome

/-- Whether any entry of a bank is occupied in a cell. -/
def State.bankBusy (s : State) (b cell : Nat) : Bool :=
  let any (c : Cfg) : Bool := (cfgAll c 0x0410).any fun e => e.1 % 64 == cell && ruleBank e.1 == b
  any s.stg.cur || any s.stg.staged || (s.oldSides cell).any any

/-- What CLS_BANK_SET changes of a configuration. -/
def setClsBank (q : Req) : Cfg → Cfg :=
  setCells 0x0402 (q.f 4 3 0) (q.f64 5) (oneCell [q.w 4, q.w 5, q.w 6]) (bankDefault (q.f 4 3 0))

/-- CLS_BANK_SET (07 R249, R253). -/
def execClsBankSet (r : Req) (s : State) : Res :=
  mailbox 0x0402 r s
    (fun q =>
      let w := q.f 4 5 4
      { bad := q.rsv [(4, 31, 13)] || q.f64 5 == 0 || (w == 0 && q.f 4 12 6 != 0) || (w == 1 && q.f 4 9 8 != 0) ||
          (w == 2 && decide (q.f 4 9 8 ≤ q.f 4 7 6)) || (w == 3 && q.f 4 9 6 != 0) || (w != 0 && q.f 4 12 10 == 0)
        ext := some 3 })
    fun q =>
      let b := q.f 4 3 0
      let l := bitsOf 64 (q.f64 5)
      let same (k : Nat) : Bool := bankWord s.stg.staged b k == q.w 4
      if l.all same then { st := s }
      else if l.any (fun k => s.bankBusy b k) then { status := stRefused, st := s }
      else { st := s.stageBy 0x0402 q (setClsBank q) }

/-- What CLS_PROFILE_SET changes of a configuration. -/
def setClsProfile (q : Req) : Cfg → Cfg :=
  setCells 0x0403 (q.f 4 2 0) (q.f64 5) (oneCell q.payload) (profileDefault (q.f 4 2 0))

/-- CLS_PROFILE_SET (07 R254). -/
def execClsProfileSet (r : Req) (s : State) : Res :=
  mailbox 0x0403 r s
    (fun q =>
      { bad := q.rsv [(4, 31, 3), (19, 31, 27), (20, 31, 25)] || q.f64 5 == 0 || decide (383 < q.f 19 8 0) ||
          decide (383 < q.f 19 17 9) || decide (383 < q.f 19 26 18) || decide (383 < q.f 20 8 0) ||
          actionBad [q.w 21, q.w 22, q.w 23, q.w 24]
        size := some 21 })
    fun q =>
      { st := s.stageBy 0x0403 q (setClsProfile q) }

/-- What CLS_PORT_SET changes of a configuration. -/
def setClsPort (q : Req) : Cfg → Cfg :=
  cfgSet 0x0404 (q.f 4 9 0) [q.w 4] (clsPortDefault (q.f 4 9 0))

/-- CLS_PORT_SET (07 R255). -/
def execClsPortSet (r : Req) (s : State) : Res :=
  mailbox 0x0404 r s (fun q => { bad := q.rsv [(4, 31, 31)], ext := some 1 }) fun q =>
    let p := q.f 4 9 0
    if !isPort s.stg.staged p then { status := stNotFound, st := s }
    else { st := s.stageBy 0x0404 q (setClsPort q) }

/-- What CLS_METER_SET changes of a configuration. -/
def setClsMeter (q : Req) : Cfg → Cfg :=
  setCells 0x0420 (q.f 4 11 0) (q.f64 5)
    (oneCell [q.w 4, q.w 5, q.w 6, q.w 7, q.w 8, q.w 9, q.w 10]) (meterDefault (q.f 4 11 0))

/-- CLS_METER_SET (07 R260). -/
def execClsMeterSet (r : Req) (s : State) : Res :=
  mailbox 0x0420 r s
    (fun q =>
      { bad := q.rsv [(4, 31, 12), (7, 31, 27), (8, 31, 27), (9, 31, 24), (10, 31, 24)] || q.f64 5 == 0 ||
          decide (q.f 8 26 0 < q.f 7 26 0) || decide (100000000 < q.f 8 26 0) || decide (q.f 9 23 0 < 64) ||
          decide (q.f 10 23 0 < 64)
        ext := some 7 })
    fun q =>
      { st := s.stageBy 0x0420 q (setClsMeter q) }

def mirrorWord (c : Cfg) (m cell : Nat) : Word := wordAt (cfgWords c 0x0421 (perCell m cell) (mirrorDefault m cell)) 0

/-- What CLS_MIRROR_SET changes of a configuration. -/
def setClsMirror (q : Req) : Cfg → Cfg :=
  setCells 0x0421 (q.f 4 2 0) (q.f64 5) (oneCell [q.w 4, q.w 5, q.w 6]) (mirrorDefault (q.f 4 2 0))

/-- CLS_MIRROR_SET (07 R261). -/
def execClsMirrorSet (r : Req) (s : State) : Res :=
  mailbox 0x0421 r s
    (fun q => { bad := q.rsv [(4, 31, 27)] || q.f64 5 == 0 || (q.f 4 17 17 == 1 && !inRange (q.f 4 26 18) 64 256), ext := some 3 })
    fun q =>
      if q.f 4 16 16 = 1 ∧ !isPort s.stg.staged (q.f 4 12 3) then { status := stNotFound, st := s }
      else
        { st := s.stageBy 0x0421 q (setClsMirror q) }

/-! ## Rules (07 R247, R256 to R259) -/

/-- The cells that AUTO chooses for a bank (07 R257). -/
def autoCells (c : Cfg) (b : Nat) : List Nat :=
  (List.range 64).filter fun k => (List.range 16).any fun i =>
    let p := 16 * k + i
    isPort c p && portEnabled c p && (List.range 3).any fun f =>
      (profileBanks (profileWords c (portProfile c p f) k)).testBit b

/-- The cells in which CLS_RULE_WRITE places an entry: those of CELLS, or those that use the bank (07 R257). -/
def ruleCells (q : Req) (c : Cfg) : List Nat := if q.f 4 22 22 = 1 then autoCells c (q.f 4 3 0) else bitsOf 64 (q.f64 5)

/-- What CLS_RULE_WRITE and CLS_RULE_DELETE change of a configuration. -/
def setClsRule (q : Req) (c : Cfg) : Cfg :=
  (ruleCells q c).foldl (fun a k => cfgSet 0x0410 (ruleObj (q.f 4 3 0) (q.f 4 13 4) k)
    (wd ((q.w 4).toNat % 2 ^ 22) :: two (2 ^ k) ++ q.payload.drop 3) [] a) c
def delClsRule (q : Req) (c : Cfg) : Cfg :=
  (bitsOf 64 (q.f64 5)).foldl (fun a k => cfgDel 0x0410 (ruleObj (q.f 4 3 0) (q.f 4 13 4) k) a) c

/-- CLS_RULE_WRITE (07 R256, R257). The bank is judged as it is staged (log entry 137). -/
def execClsRuleWrite (r : Req) (s : State) : Res :=
  mailbox 0x0410 r s
    (fun q =>
      let auto := q.f 4 22 22 == 1
      { bad := q.rsv [(4, 31, 23)] || (if auto then q.f64 5 != 0 else q.f64 5 == 0) ||
          ((List.range 12).any fun i => (q.w (7 + i) &&& ~~~ q.w (19 + i)) != 0) || actionBad [q.w 31, q.w 32, q.w 33, q.w 34]
        size := some 31 })
    fun q =>
      let b := q.f 4 3 0
      let e := q.f 4 13 4
      let c := s.stg.staged
      let l := ruleCells q c
      let w := bankWidth c b (l.headD 0)
      if l = [] then { words := [0, 0], st := s }
      else if w = 0 ∨ l.any (fun k => bankWidth c b k != w) then { status := stRefused, st := s }
      else if widthEntries w ≤ e ∨ (List.range 12).any (fun i => decide (widthWords w ≤ i) && (q.w (7 + i) != 0 || q.w (19 + i) != 0))
      then { status := stInvalid, st := s }
      else if l.any (fun k => s.occupied 0x0410 (ruleObj b e k)) then { status := stExists, st := s }
      else
        { words := two (maskOf l)
          st := s.stageBy 0x0410 q (setClsRule q) }

/-- CLS_RULE_DELETE (07 R258). -/
def execClsRuleDelete (r : Req) (s : State) : Res :=
  mailbox 0x0411 r s (fun q => { bad := q.rsv [(4, 31, 14)] || q.f64 5 == 0, ext := some 3 }) fun q =>
    let l := bitsOf 64 (q.f64 5)
    let o (k : Nat) : Nat := ruleObj (q.f 4 3 0) (q.f 4 13 4) k
    if l.any (fun k => (cfgFind s.stg.staged 0x0410 (o k)).isNone) then { status := stNotFound, st := s }
    else { st := s.stageBy 0x0411 q (delClsRule q) }

/-- CLS_RULE_READ (07 R259). The WIDTH code of a free entry is that of CURRENT, save with STATE 3 (log entry 138). -/
def execClsRuleRead (r : Req) (s : State) : Res :=
  mailbox 0x0412 r s (fun q => { bad := q.rsv [(4, 31, 20)], ext := some 1 }) fun q =>
    let cell := q.f 4 5 0
    let b := q.f 4 9 6
    let o := ruleObj b (q.f 4 19 10) cell
    let cur := cfgFind s.stg.cur 0x0410 o
    let staged := cfgFind s.stg.staged 0x0410 o
    let old := (s.oldSides cell).findSome? fun c => cfgFind c 0x0410 o
    let x : Nat × Nat × List Word := match cur, staged, old with
      | some w, some _, _ => (1, 0, w)
      | some w, none, _ => (2, 0, w)
      | none, some w, _ => (3, 0, w)
      | none, none, some w => (2, 1, w)
      | none, none, none => (0, 0, [])
    let width := bankWidth (if x.1 = 3 then s.stg.staged else s.stg.cur) b cell
    let body := (x.2.2.drop 3).take 28
    { words := wd (x.1 + fld (wordAt x.2.2 0) 17 14 * 2 ^ 2 + fld (wordAt x.2.2 0) 21 18 * 2 ^ 6 + width * 2 ^ 10 + x.2.1 * 2 ^ 12) ::
        (body ++ List.replicate (28 - body.length) 0)
      st := s }

/-- CLS_STATS_READ (07 R262). Bits that the rule names as no field are judged as reserved (log entry 139). -/
def execClsStatsRead (r : Req) (s : State) : Res :=
  mailbox 0x0430 r s
    (fun q =>
      let top := [8192, 4096, 8].getD (q.f 4 7 6) 0
      { bad := q.rsv [(4, 31, 8), (5, 31, 27)] || q.f 4 7 6 == 3 || decide (top < q.f 5 12 0 + q.f 5 26 13), ext := some 2 })
    fun q =>
      let c := q.f 4 5 0
      let item (i : Nat) : List Word :=
        if q.f 4 7 6 = 0 then two (s.count 3 (c * 2 ^ 16 + i) 0) ++ two (s.count 3 (c * 2 ^ 16 + i) 1)
        else if q.f 4 7 6 = 1 then (List.range 3).flatMap fun k => two (s.count 4 (c * 4096 + i) k)
        else two (s.count 5 c i)
      { words := wd (q.f 5 26 13) :: (List.range (q.f 5 26 13)).flatMap fun n => item (q.f 5 12 0 + n), st := s }

end Sys2Proof.Machine
end

