-- ==== Sys2Proof/Machine/Egress.lean ====
section
/-!
DEFINITION. Egress: admission, gate windows, the choice of the next frame, its start, preemption and end,
shapers, gate lists and the egress commands (12; 06 R205 to R210; 13 R472).
-/

namespace Sys2Proof.Machine

open Sys2Proof

/-! ## Checksums of the Internet protocols -/

/-- One's complement sum of 16-bit numbers. -/
def ocAdd (a b : Nat) : Nat := let s := a + b; s % 65536 + s / 65536

/-- The 16-bit words of a byte list in network order, an odd last byte filled with 0. -/
def beWords : List Byte → List Nat
  | [] => []
  | [a] => [a.toNat * 256]
  | a :: b :: t => (a.toNat * 256 + b.toNat) :: beWords t

/-- A checksum after the words `old` become `new`, updated incrementally. -/
def csumUpdate (c : Nat) (old new : List Nat) : Nat :=
  0xFFFF - new.foldl ocAdd (old.foldl (fun a m => ocAdd a (0xFFFF - m)) (0xFFFF - c))

/-! ## Gate lists (12 R444 to R450) -/

/-- The segments of one full cycle: lengths in ns and gates, from what is left of the cycle. -/
def gateSegs : List (Nat × Nat) → Nat → List (Nat × Nat)
  | [], _ => []
  | [(_, g)], rem => if rem = 0 then [] else [(rem, g)]
  | (i, g) :: t, rem => if rem = 0 then [] else if rem ≤ i then [(rem, g)] else (i, g) :: gateSegs t (rem - i)

def GateList.segs (l : GateList) : List (Nat × Nat) := gateSegs l.entries l.cycle

/-- Segments after n ns have passed. -/
def dropTime : List (Nat × Nat) → Nat → List (Nat × Nat)
  | [], _ => []
  | (i, g) :: t, n => if n < i then (i - n, g) :: t else dropTime t (n - i)

/-- The time until a gate closes; no value where it stays open through the list. -/
def openRun (q : Nat) : List (Nat × Nat) → Option Nat
  | [] => none
  | (i, g) :: t => if g.testBit q then (openRun q t).map fun n => n + i else some 0

def State.gateOf (s : State) (p : Nat) : Gate := tabGet {} s.egr.gate p

/-- Gate states now. -/
def State.gatesNow (s : State) (p : Nat) : Nat := (s.gateOf p).gates

def State.gateOpen (s : State) (p q : Nat) : Bool := (s.gatesNow p).testBit q

/-- Gate segments from now on, as far as the window of a gate looks (12 R448). -/
def Gate.ahead (g : Gate) (now : Nat) : List (Nat × Nat) :=
  let next (l : GateList) : List (Nat × Nat) :=
    if l.active then l.segs ++ l.segs else []
  if g.cur.active then
    let rest := dropTime g.cur.segs (now - g.cycleStart)
    match g.next with
    | none => rest ++ g.cur.segs ++ g.cur.segs
    | some (l, start) =>
      let e := g.cycleStart + g.cur.cycle
      let k := (g.stopAt - e) / g.cur.cycle
      let keep := match g.cur.segs.getLast? with | some x => x.2 | none => 0x1FF
      rest ++ (List.replicate k g.cur.segs).flatten ++ [(start - max now g.stopAt, keep)] ++ next l
  else match g.next with
    | none => []
    | some (l, start) => (start - now, 0x1FF) :: next l

/-- A queue's window in ns, queue 8 for Col; no value when its gate does not close. -/
def State.window (s : State) (p q : Nat) : Option Nat := openRun q ((s.gateOf p).ahead s.now)

/-- Whether n bytes on the line end within a window, after the transmitter's wait (12 R448, R451). -/
def State.endsIn (s : State) (p : Nat) (w : Option Nat) (n : Nat) : Bool :=
  match w with
  | none => true
  | some t => decide (((s.port p).txReadyAt - s.now) * portRate (s.portCfg p) p + n * 8 * 10 ^ 9 ≤ t * portRate (s.portCfg p) p)

/-- The longest window of a queue in a full cycle of a list; no value when it never closes (12 R448). -/
def longestWindow (l : GateList) (q : Nat) : Option Nat :=
  if !l.active then none
  else if l.segs.all fun e => e.2.testBit q then none
  else
    let step (a : Nat × Nat) (e : Nat × Nat) : Nat × Nat :=
      if e.2.testBit q then (a.1 + e.1, max a.2 (a.1 + e.1)) else (0, a.2)
    some ((l.segs ++ l.segs).foldl step (0, 0)).2

/-- The gate list that a port's configuration holds. -/
def cfgGate (c : Cfg) (p : Nat) : GateList := gateListOf ((cfgFind c 0x0903 p).getD [])

/-- The gate list that a port's configuration puts into force. A list requires that time has been stepped, so one that a journal replay brings
back before that stays out of force (13 R468; log entry 119). -/
def State.wantedGates (s : State) (p : Nat) : GateList := if s.tim.stepped then cfgGate (s.portCfg p) p else {}

/-- End of the active list's cycle in progress at a time (12 R446). -/
def Gate.cycleEnd (g : Gate) (t : Nat) : Nat := g.cycleStart + ((t - g.cycleStart) / g.cur.cycle + 1) * g.cur.cycle

/-- The active list's last cycle has ended before a pending list's start: the gate states of its end stay (12 R446). -/
def Gate.stopped (g : Gate) (now : Nat) : Bool := g.cur.active && g.next.isSome && decide (g.stopAt ≤ now)

/-- Schedules a new gate list as the cell applies its epoch; one that replaces a pending list after the old one has stopped leaves it so
(12 R446; log entry 144). -/
def State.scheduleGates (p : Nat) (l : GateList) (s : State) : State :=
  let g := s.gateOf p
  let t0 := s.now + 1000
  let e := if g.cur.active then g.cycleEnd t0 else t0
  let start :=
    if !l.enable then e
    else if e ≤ l.base then l.base
    else l.base + (e - l.base + l.cycle - 1) / l.cycle * l.cycle
  s.onEgr fun x => { x with gate := tabPut {} p { g with next := some (l, start), stopAt := if g.stopped s.now then g.stopAt else e } x.gate }

/-! ## Shapers (12 R440 to R442) -/

/-- Configured settings of bucket b of a port, 8 for the port's: enabled, kb/s, bytes. -/
def shaperCfg (c : Cfg) (p b : Nat) : Bool × Nat × Nat :=
  if b = 8 then (portShaped c p, shapeRate c p, shapeDepth c p) else (queueShaped c p b, queueRate c p b, queueDepth c p b)

/-- A full bucket under a configuration. -/
def freshShaper (c : Cfg) (p b : Nat) : Shaper :=
  let x := shaperCfg c p b
  { count := x.2.2 * 65536, on := x.1, rate := x.2.1, depth := x.2.2 }

/-- The bucket as it stands. -/
def State.shaper (s : State) (p b : Nat) : Shaper :=
  (tabFind s.egr.shaper (p * 9 + b)).getD (freshShaper (s.portCfg p) p b)

def State.putShaper (p b : Nat) (x : Shaper) (s : State) : State :=
  s.onEgr fun e => { e with shaper := tabIns (p * 9 + b) x e.shaper }

/-- The bucket after a refill: the settings of the configuration take effect at it. -/
def Shaper.refill (x : Shaper) (c : Bool × Nat × Nat) : Shaper :=
  let top : Int := c.2.2 * 65536
  { count := if c.1 && !x.on then top else min top (x.count + (c.2.1 * 8192 / 1000 : Nat))
    on := c.1, rate := c.2.1, depth := c.2.2 }

/-- Subtracts a charge from an enabled bucket (12 R441). -/
def State.chargeShaper (p b : Nat) (n : Int) (s : State) : State :=
  let x := s.shaper p b
  if x.on then s.putShaper p b { x with count := x.count - n * 65536 } else s

/-- A bucket that lets a frame start. -/
def Shaper.allows (x : Shaper) : Bool := !x.on || decide (0 ≤ x.count)

/-! ## Admission (12 R433, R434) -/

/-- CT_BYTES of an egress rate (11 R404). -/
def ctBytes (rate : Nat) : Nat := rate * 1024 / 10 ^ 9 / 8

/-- Whether a copy's frame may start on its port: enough of it is in order (11 R404). -/
def State.startable (s : State) (c : Copy) : Bool :=
  let x := s.frame c.fid
  let out := portRate (s.portCfg c.port) c.port
  c.whole || (decide (out ≤ portRate (s.portCfg x.port) x.port) && decide (ctBytes out ≤ c.got))

/-- The queue of a copy: the one it names, else TC_MAP's in its epoch (12 R433; 01 R24). -/
def State.queueOf (s : State) (fid p : Nat) : Nat :=
  let x := s.frame fid
  match x.queue with
  | some q => q
  | none => tcQueue (s.frameCfg x) p x.tc

def State.portUp (s : State) (p : Nat) : Bool := decide ((s.port p).link = .up)

/-- Refuses a copy at its port; a host frame's completion says so (05 R155). -/
def State.refuseCopy (c : Copy) (kind idx status : Nat) (s : State) : State :=
  ((s.onFrame c.fid fun x => { x with hostStatus := if x.hostStatus = 0 then status else x.hostStatus }).dropCopy c kind idx)

/-- No window of a queue in a full cycle holds a frame (12 R448). -/
def State.neverFits (s : State) (p q len : Nat) : Bool :=
  match longestWindow (s.wantedGates p) q with
  | some w => decide (w * portRate (s.portCfg p) p < (8 + len) * 8 * 10 ^ 9)
  | none => false

/-! ## The choice of the next frame (12 R435 to R439) -/

/-- Frame bytes that are sent before the check sequence may be split off: Clause 99's minimum (06 R209). -/
def fragMin (c : Cfg) (p : Nat) : Nat := 60 + 64 * addFrag c p

/-- Preemption is active on a port (06 R208). -/
def State.preempts (s : State) (p : Nat) : Bool := preemptEn (s.portCfg p) p && decide ((s.port p).verify = 2)

/-- Whether a frame fits its queue's window (12 R448). -/
def State.fits (s : State) (p q len : Nat) : Bool := s.endsIn p (s.window p q) (8 + len)

/-- From a queue's close until its gate reopens, no queue gate opens (12 R449). -/
def onlyColUntil (q : Nat) : List (Nat × Nat) → Bool
  | [] => false
  | (_, g) :: t => if g.testBit q then true else if g % 256 ≠ 0 then false else onlyColUntil q t

/-- The segments from the close of a gate on. -/
def afterClose (q : Nat) : List (Nat × Nat) → List (Nat × Nat)
  | [] => []
  | (i, g) :: t => if g.testBit q then afterClose q t else (i, g) :: t

/-- Whether a frame that does not fit may start and be split at the close (12 R449). -/
def State.maySplit (s : State) (p q len : Nat) : Bool :=
  let m := fragMin (s.portCfg p) p
  s.preempts p && decide (m + 60 ≤ len - 4) && s.endsIn p (s.window p q) (8 + m + 4) &&
  onlyColUntil q (afterClose q ((s.gateOf p).ahead s.now))

def State.headOf (s : State) (p q : Nat) : Option Copy := (tabGet [] s.egr.queue (qkey p q)).head?

/-- A queue that may send (12 R435). -/
def State.eligible (s : State) (p q : Nat) : Bool :=
  match s.headOf p q with
  | none => false
  | some c =>
    let len := s.lengthOf c
    s.gateOpen p q && (s.fits p q len || s.maySplit p q len) && (s.shaper p q).allows

def top48 : Nat := 2 ^ 48

/-- The later of two tags, compared by their difference modulo 2^48 (12 R437). -/
def laterTag (a b : Nat) : Nat := if (a + top48 - b) % top48 < 2 ^ 47 then a else b

def State.vtimeOf (s : State) (p g : Nat) : Nat := tabGet 0 s.egr.vtime (p * 2 + g - 1)
def State.finishOf (s : State) (p q : Nat) : Nat := tabGet 0 s.egr.finish (qkey p q)

/-- Gives a start tag to each eligible queue of a fair group that has none, and takes it from the others. A queue whose frame is chosen and
has not started gets its next tag after that start (12 R437). -/
def State.retag (p : Nat) (s : State) : State :=
  let chosen (q : Nat) : Bool := match s.txOf p with | some t => t.at_.isNone && !t.copy.col && t.copy.queue == q | none => false
  (List.range 8).foldl (fun a q =>
    let g := queueGroup (a.portCfg p) p q
    let has := (tabFind a.egr.startTag (qkey p q)).isSome
    if chosen q then a
    else if g ≠ 0 ∧ a.eligible p q then
      if has then a
      else a.onEgr fun e => { e with startTag := tabIns (qkey p q) (laterTag (a.finishOf p q) (a.vtimeOf p g)) e.startTag }
    else if has then a.onEgr fun e => { e with startTag := tabDel (qkey p q) e.startTag } else a) s

/-- QUEUE_ADMIT (12 R434; 11 R417, R420; 06 R207). -/
def execQueueAdmit (p : Fin 1024) (fid : Nat) (s : State) : Res :=
  .next (match s.egr.arriving.find? fun c => c.fid == fid && c.port == p.val with
  | none => s
  | some c =>
    let x := s.frame fid
    let q := s.queueOf fid p.val
    let k : Copy := { c with queue := q }
    let cell := cellOf p.val
    let len := s.lengthOf c
    let n := chunksFor len
    let r := regEgress p.val q
    if !s.portUp p.val then s.refuseCopy k 1 19 5
    else if !s.startable c then s
    else if s.neverFits p.val q len then s.refuseCopy k 2 6 7
    else if x.yellow && !s.poolAllows cell r 2 then s.refuseCopy k 2 5 7
    else if !s.hasRoom cell r n then s.refuseCopy k 2 4 7
    else
      let t := ((s.pullCopy fid p.val).bufAdd cell r n).onEgr fun e => { e with
        queue := tabMod [] (qkey p.val q) (fun l => l ++ [{ k with chunks := n }]) e.queue }
      let u := (t.bump 2 (qkey p.val q) 0 1).bump 2 (qkey p.val q) 1 len
      (u.onIf x.plan.mcast fun a => a.bump 14 cell 18 1).retag p.val)

/-- A frame whose gate closes while the port sends or holds it (12 R450). -/
def Tx.close (gates : Nat) (t : Tx) : Tx :=
  if t.at_.isSome && !t.copy.col && !gates.testBit t.copy.queue then { t with shut := true } else t

/-- A port's gate sequencer moves on (12 R444, R450). -/
def State.putGate (p : Nat) (g : Gate) (s : State) : State :=
  (s.onEgr fun e => { e with
    gate := tabPut {} p g e.gate
    tx := e.tx.map fun x => (x.1, if x.1 = p then x.2.close g.gates else x.2)
    heldTx := e.heldTx.map fun x => (x.1, if x.1 = p then x.2.close g.gates else x.2) }).retag p

/-- GATE_CHANGE: the next entry's boundary, or the start of the next cycle (12 R444). -/
def execGateChange (p : Fin 1024) (s : State) : Res :=
  let g := s.gateOf p.val
  .next (if g.cur.active then
    let l := g.cur.segs
    if g.entry + 1 < l.length then s.putGate p.val { g with entry := g.entry + 1, gates := (l.getD (g.entry + 1) (0, 0)).2 }
    else if g.next.isSome ∧ g.stopAt ≤ g.cycleStart + g.cur.cycle then s
    else s.putGate p.val { g with cycleStart := g.cycleStart + g.cur.cycle, entry := 0, gates := (l.headD (0, 0)).2 }
  else s)

/-- GATE_LIST_START (12 R446). -/
def execGateListStart (p : Fin 1024) (s : State) : Res :=
  let g := s.gateOf p.val
  .next (match g.next with
  | none => s
  | some (l, start) =>
    let x : Gate :=
      { cur := l, cycleStart := if l.active then start else 0
        gates := if l.active then (l.segs.headD (0, 0)).2 else 0x1FF }
    s.putGate p.val x)

/-- SHAPER_REFILL: every bucket of the port (12 R440, R442). -/
def execShaperRefill (p : Fin 1024) (s : State) : Res :=
  .next (if (s.cell (cellOf p.val)).st = .off then s
  else ((List.range 9).foldl (fun a b =>
    a.putShaper p.val b ((a.shaper p.val b).refill (shaperCfg (a.portCfg p.val) p.val b))) s).retag p.val)

/-- The members of a scheduling unit (12 R436). -/
def unitOf (c : Cfg) (p q : Nat) : List Nat :=
  let g := queueGroup c p q
  if g = 0 then [q] else (List.range 8).filter fun k => queueGroup c p k == g

/-- Chooses among the eligible members of a unit: the smallest start tag, then the higher number (12 R437). -/
def State.pickMember (s : State) (p : Nat) (l : List Nat) : Option Nat :=
  let tag (q : Nat) : Nat := (tabFind s.egr.startTag (qkey p q)).getD 0
  l.foldl (fun b q => match b with
    | none => some q
    | some r => if tag q = tag r ∨ laterTag (tag q) (tag r) = tag r then some q else some r) none

/-- The queue that sends next: the unit of highest priority with an eligible queue (12 R435, R436). -/
def State.nextQueue (s : State) (p : Nat) : Option Nat :=
  (List.range 8).reverse.findSome? fun q =>
    let u := unitOf (s.portCfg p) p q
    if u.foldl max 0 = q then s.pickMember p (u.filter fun k => s.eligible p k) else none

/-- Whether a port that is faster than a Col frame's ingress port cannot run short of the frame's bytes: by the bytes in, or by the delay
(L - 64) × 8 × (1/r_in - 1/r_out) since its head reached the staging (11 R415). -/
def State.colReady (s : State) (p : Nat) (c : Copy) : Bool :=
  let rin := portRate (s.portCfg (s.frame c.fid).port) (s.frame c.fid).port
  let rout := portRate (s.portCfg p) p
  let l := s.lengthOf c
  c.whole || decide (rout ≤ rin) || decide ((l - c.got) * rout ≤ (l - 64) * rin) ||
  decide ((l - 64) * 8 * (rout - rin) * 10 ^ 9 * nsUnit ≤ (s.tim.up - c.since) * (rin * rout))

/-- The Col frame that starts next: the oldest, once it may start (12 R435; 11 R415). -/
def State.nextCol (s : State) (p : Nat) : Option Copy :=
  match tabGet [] s.egr.colq p with
  | [] => none
  | c :: _ => if s.gateOpen p 8 && s.fits p 8 (s.lengthOf c) && s.colReady p c then some c else none

/-- Whether the egress cell corrects a precision-time message: its messageType and the ingress port's TC_MODE (13 R471). -/
def Frame.corrected (x : Frame) : Bool :=
  let ty := (x.data.getD x.ptpAt 0).toNat % 16
  x.ptp && decide (x.ptpAt < x.data.length) && (decide (x.tcMode = 1 ∧ ty < 2) || decide (x.tcMode = 2 ∧ ty = 0))

/-- The corrected bytes of a message, with the residence time R in units of 2^-16 ns (13 R472). -/
def Frame.correct (x : Frame) (r : Nat) : List (Nat × List Byte) :=
  let at_ := x.ptpAt + 8
  let new := beBytes 8 ((beAt x.data at_ 8 + r) % 2 ^ 64)
  let old := (x.data.drop at_).take 8
  let c := beAt x.data (x.ptpAt - 2) 2
  if x.ptpUdp = 0 ∨ (x.ptpUdp = 4 ∧ c = 0) then [(at_, new)]
  else
    let k := csumUpdate c (beWords old) (beWords new)
    [(at_, new), (x.ptpAt - 2, beBytes 2 (if k = 0 then 0xFFFF else k))]

/-- The bytes that a transmitter replaces on the line, once the correctionField is in (13 R472). -/
def State.patchOf (s : State) (t : Tx) : List (Nat × List Byte) :=
  let x := s.frame t.copy.fid
  match t.corr with
  | some r => if x.corrected && decide (x.ptpAt + 16 ≤ x.data.length) then x.correct r else []
  | none => []

/-- The bytes of a frame as the port sends them: corrected where TC changed them, stomped where it is bad
(11 R405; 13 R472). -/
def State.lineBytes (s : State) (t : Tx) : List Byte :=
  let d := (s.frame t.copy.fid).data.take t.copy.got
  let b := (s.patchOf t).foldl (fun l e => putBytes l e.1 e.2) d
  let body := b.take (b.length - 4)
  if t.copy.bad then body ++ (fcsOf body).map fun x => ~~~ x
  else if t.copy.whole && decide (s.patchOf t ≠ []) then body ++ fcsOf body else b

def setTx (p : Nat) (t : Option Tx) (s : State) : State :=
  s.onEgr fun e => { e with tx := match t with | some x => tabIns p x e.tx | none => tabDel p e.tx }
def setHeld (p : Nat) (t : Option Tx) (s : State) : State :=
  s.onEgr fun e => { e with heldTx := match t with | some x => tabIns p x e.heldTx | none => tabDel p e.heldTx }

/-- Charges a frame length, or what it grew by since its start, to the port's buckets and tags (12 R437, R441). -/
def State.chargeFrame (p : Nat) (c : Copy) (n : Int) (s : State) : State :=
  let t := s.chargeShaper p 8 n
  if c.col then t else t.chargeShaper p c.queue n

/-- INC of a charged length (12 R437). -/
def fairInc (lc : Int) (w : Nat) : Nat := (lc * 65536 / (w : Int)).toNat

/-- A frame ends on the line (12 R452; 06 R206, R213). -/
def State.endTx (p : Nat) (t : Tx) (stomp : Bool) (s : State) : State :=
  let c := s.portCfg p
  let cp : Copy := { t.copy with bad := t.copy.bad || stomp, whole := true }
  let l := s.lineBytes { t with copy := cp }
  let n := l.length
  let grow : Int := (n : Int) - t.charged
  let a := (setTx p none s).emit (.transmit p cp.fid (l.drop t.frag) true cp.bad)
  let b := if grow = 0 then a else
    let g := queueGroup c p cp.queue
    let u := a.chargeFrame p cp grow
    if cp.col ∨ g = 0 then u
    else
      let w := queueWeight c p cp.queue
      let o := egrOverhead (s.frameCfg (s.frame cp.fid)) p
      let more := fairInc ((n : Int) + o) w - fairInc ((t.charged : Int) + o) w
      u.onEgr fun e => { e with finish := tabMod 0 (qkey p cp.queue) (fun f => (f + more) % top48) e.finish }
  let first := (l.headD 0).toNat
  let bcast := decide (l.take 6 = List.replicate 6 0xFF)
  let d := if cp.bad then b.bump 1 p 16 1
    else (((b.bump 1 p 12 1).bump 1 p 13 n).onIf (first % 2 == 1 && !bcast) fun x => x.bump 1 p 14 1).onIf bcast fun x => x.bump 1 p 15 1
  let late := t.preempted && t.shut && !t.split
  let e := if cp.col then d
    else ((d.bump 2 (qkey p cp.queue) 2 1).bump 2 (qkey p cp.queue) 3 n).onIf late fun x => x.bump 2 (qkey p cp.queue) 8 1
  let x := s.frame cp.fid
  ((e.onIf (t.tcDue && x.corrected) fun y => y.bump 15 p (if t.corr.isSome then 0 else 1) 1).onIf x.tsReq fun y => y.onFrame cp.fid fun f => { f with txTs := t.at_ }).endCopy cp

/-- The bytes of a frame that have left at the close of its gate, where `sent` have left now and `lead` bytes go before the next: the largest
fragment whose mCRC ends by then, and at least 60 bytes of data remain (12 R449). -/
def State.cutAt (s : State) (p : Nat) (c : Copy) (sent lead : Nat) : Nat :=
  match s.window p c.queue with
  | some w => min (s.lengthOf c - 64) (sent + (w * portRate (s.portCfg p) p / (8 * 10 ^ 9) - lead - 4))
  | none => s.lengthOf c - 64

/-- Chooses a frame for a free transmitter (12 R435). -/
def State.chooseTx (p : Nat) (s : State) : State :=
  match s.nextCol p with
  | some c =>
    setTx p (some { copy := c }) (s.onEgr fun e => { e with
      colq := tabMod [] p (fun l => l.filter fun d => d.fid != c.fid) e.colq })
  | none =>
    match tabFind s.egr.heldTx p with
    | some t =>
      if t.gateHeld && !s.gateOpen p t.copy.queue then s
      else if t.split && !s.gateOpen p t.copy.queue then
        (setHeld p (some { t with gateHeld := true }) s).bump 2 (qkey p t.copy.queue) 7 1
      else
        let cut := if s.gateOpen p t.copy.queue then s.cutAt p t.copy t.sent 8 else t.cut
        (setTx p (some { t with frag := t.sent, gateHeld := false, cut := cut }) (setHeld p none s)).bump 1 p 17 1
    | none =>
      if !(s.shaper p 8).allows then s
      else
        let u := s.retag p
        match u.nextQueue p with
        | none => u
        | some q =>
          match u.headOf p q with
          | none => u
          | some c =>
            let split := !u.fits p q (u.lengthOf c)
            setTx p (some { copy := c, split := split, tag := tabFind u.egr.startTag (qkey p q) }) (u.onEgr fun e => { e with
              queue := tabMod [] (qkey p q) (fun l => l.drop 1) e.queue, startTag := tabDel (qkey p q) e.startTag })

/-- The mCRC that ends a fragment: the check over the frame's bytes so far, its last two bytes inverted (06 R209, IEEE 802.3 Clause 99;
log entry 103). -/
def mcrcOf (l : List Byte) : List Byte := (fcsOf l).take 2 ++ ((fcsOf l).drop 2).map fun b => ~~~ b

/-- TRANSMIT_SELECT: `sent` is how many bytes of the frame in progress have left. The frame ends, is preempted for a
Col frame, is held at its gate's close with the fragment that fits its window, or goes on; a free transmitter takes the next frame, also
while it still waits to leave low-power idle (12 R435, R449, R451; 06 R209). -/
def execTransmitSelect (p : Fin 1024) (sent : Nat) (s : State) : Res :=
  let ready := s.portUp p.val && !(s.port p.val).txLpi
  .next (match s.txOf p.val with
  | none => if ready then s.chooseTx p.val else s
  | some t =>
    if t.at_.isNone then s
    else
      let closed := t.split && !s.gateOpen p.val t.copy.queue
      let left := max t.sent (min sent t.copy.got)
      let n := if closed ∧ left ≠ t.copy.got then max t.sent (min t.cut t.copy.got) else left
      let len := s.lengthOf t.copy
      let u : Tx := { t with sent := n }
      if t.copy.whole ∧ n = t.copy.got then
        let e := s.endTx p.val u false
        if ready then e.chooseTx p.val else e
      else
        let canSplit := s.preempts p.val && !t.copy.col && !t.copy.bad && decide (fragMin (s.portCfg p.val) p.val ≤ n - t.frag) &&
          decide (n + 60 ≤ len - 4)
        let part (a : State) : State :=
          a.emit (.transmit p.val t.copy.fid (((s.lineBytes u).take n).drop t.frag ++ mcrcOf ((s.lineBytes u).take n)) false false)
        let col := (s.nextCol p.val).isSome
        if canSplit && (col || closed) then
          let h := (setHeld p.val (some { u with gateHeld := closed, preempted := u.preempted || col }) (setTx p.val none (part s))).onIf closed
            fun a => a.bump 2 (qkey p.val t.copy.queue) 7 1
          h.onIf col fun a => a.chooseTx p.val
        else setTx p.val (some u) s)

/-! ## The start of a frame (11 R404, R407; 13 R471, R472) -/

/-- A message under a TC_MODE that corrects some, whose messageType has not arrived: its bytes are judged as they pass (13 R471, R472). -/
def Frame.typeDue (x : Frame) : Bool := x.ptp && decide (x.data.length ≤ x.ptpAt) && (x.tcMode == 1 || x.tcMode == 2)

/-- The residence time of a message at its start on a port, in units of 2^-16 ns, its ingress settings those of the frame's epoch (01 R24; 13
R472). -/
def State.residence (s : State) (x : Frame) (p : Nat) : Int :=
  let ci := s.frameCfg x
  let ce := s.portCfg p
  let corr := txCorr (portMode ce p) (portFec ce p) + rxCorr (portMode ci x.port) (portFec ci x.port) + (s.port x.port).deskew
  (s.stamp : Int) - x.ts + tenths corr + (if x.tcMode = 2 then (s.linkDelay ci x.port : Int) else 0)

/-- EGRESS_START: the chosen frame starts on the line once the transmitter has left low-power idle, or is dropped for its epoch or its link
(11 R404, R407; 06 R201, R207; 12 R451). -/
def execEgressStart (p : Fin 1024) (s : State) : Res :=
  .next (match s.txOf p.val with
  | none => s
  | some t =>
    if t.at_.isSome ∨ s.now < (s.port p.val).txReadyAt then s
    else
      let x := s.frame t.copy.fid
      let c := s.portCfg p.val
      let k : Copy := { t.copy with port := p.val }
      if !s.portUp p.val then s.refuseCopy k 1 19 5
      else if x.epoch ≠ s.hif.epoch ∧ x.epoch ≠ prevEpoch s.hif.epoch then s.refuseCopy k 1 18 7
      else
        let r := s.residence x p.val
        let ok := decide (0 ≤ r ∧ r ≤ 16000000 * 65536)
        let a := s.onIf x.corrected fun y => y.bump 15 p.val (if ok then 0 else 1) 1
        let len := s.lengthOf t.copy
        let lc : Int := (len : Int) + egrOverhead (s.frameCfg x) p.val
        let b := a.chargeFrame p.val t.copy lc
        let g := queueGroup c p.val t.copy.queue
        let d := if t.copy.col ∨ g = 0 then b
          else
            let st := t.tag.getD (b.vtimeOf p.val g)
            b.onEgr fun e => { e with
              vtime := tabPut 0 (p.val * 2 + g - 1) st e.vtime
              finish := tabPut 0 (qkey p.val t.copy.queue) ((st + fairInc lc (queueWeight c p.val t.copy.queue)) % top48) e.finish }
        setTx p.val (some { t with
          at_ := some s.stamp, corr := if ok then some r.toNat else none, tcDue := x.typeDue, charged := len, cut := if t.split then s.cutAt p.val t.copy 0 0 else 0 }) d)

/-! ## Mailbox commands (12 R453 to R459) -/

/-- What EGR_PORT_SET changes of a configuration. -/
def setEgrPort (q : Req) : Cfg → Cfg :=
  cfgSet 0x0901 (q.f 4 9 0) [q.w 4, q.w 5, q.w 6, q.w 7] (egrPortDefault (q.f 4 9 0))

/-- EGR_PORT_SET (12 R455). -/
def execEgrPortSet (r : Req) (s : State) : Res :=
  mailbox 0x0901 r s
    (fun q =>
      { bad := q.rsv [(4, 31, 23), (5, 31, 24), (6, 31, 27), (7, 31, 24)] || q.f 4 11 10 == 3 ||
          inRange (q.f 4 21 15) 64 95 || decide (100000000 < q.f 6 26 0) || decide (q.f 7 23 0 < 64)
        ext := some 4 })
    fun q =>
      let p := q.f 4 9 0
      if !isPort s.stg.staged p then { status := stNotFound, st := s }
      else { st := s.stageBy 0x0901 q (setEgrPort q) }

/-- What EGR_QUEUE_SET changes of a configuration. -/
def setEgrQueue (q : Req) : Cfg → Cfg :=
  cfgSet 0x0902 (8 * q.f 4 9 0 + q.f 4 12 10) [q.w 4, q.w 5, q.w 6] (egrQueueDefault (q.f 4 9 0) (q.f 4 12 10))

/-- EGR_QUEUE_SET (12 R456). -/
def execEgrQueueSet (r : Req) (s : State) : Res :=
  mailbox 0x0902 r s
    (fun q =>
      { bad := q.rsv [(4, 31, 24), (5, 31, 27), (6, 31, 24)] || q.f 4 14 13 == 3 || q.f 4 22 15 == 0 ||
          decide (100000000 < q.f 5 26 0) || decide (q.f 6 23 0 < 64)
        ext := some 3 })
    fun q =>
      let p := q.f 4 9 0
      if !isPort s.stg.staged p then { status := stNotFound, st := s }
      else { st := s.stageBy 0x0902 q (setEgrQueue q) }

/-- What EGR_GATE_SET changes of a configuration. -/
def setEgrGate (q : Req) : Cfg → Cfg :=
  if q.f 4 10 10 = 1 then cfgSet 0x0903 (q.f 4 9 0) q.payload [] else cfgDel 0x0903 (q.f 4 9 0)

/-- EGR_GATE_SET (12 R445, R457). -/
def execEgrGateSet (r : Req) (s : State) : Res :=
  mailbox 0x0903 r s
    (fun q =>
      let n := q.f 4 18 11
      let len (v : Nat) : Bool := inRange v 32 1000000000
      { bad := q.rsv [(4, 31, 19), (7, 31, 30)] || decide (128 < n) ||
          ((List.range n).any fun k => !len (q.f (8 + 2 * k) 29 0) || q.f (8 + 2 * k) 31 30 != 0 || q.f (9 + 2 * k) 31 9 != 0) ||
          (if q.f 4 10 10 = 1 then !len (q.f 7 29 0) else n != 0 || q.f64 5 != 0 || q.f 7 29 0 != 0)
        size := some (4 + 2 * n) })
    fun q =>
      let p := q.f 4 9 0
      if !isPort s.stg.staged p then { status := stNotFound, st := s }
      else if q.f 4 10 10 = 1 ∧ !s.tim.stepped then { status := stRefused, st := s }
      else { st := s.stageBy 0x0903 q (setEgrGate q) }

/-- EGR_GATE_STATUS (12 R458). -/
def execEgrGateStatus (r : Req) (s : State) : Res :=
  mailbox 0x0904 r s (fun q => { bad := q.rsv [(4, 31, 10)], ext := some 1 }) fun q =>
    let p := q.f 4 9 0
    if !isPort s.stg.staged p then { status := stNotFound, st := s }
    else
      let g := s.gateOf p
      let act := g.cur.active
      { words := [wd (b2n act + 2 * b2n g.next.isSome + g.entry * 2 ^ 2 + g.gates * 2 ^ 9 + g.cur.entries.length * 2 ^ 18)] ++
          two (if act then g.cycleStart else 0) ++ two (match g.next with | some (_, t) => t | none => 0)
        st := s }

/-- EGR_STATS_READ (12 R459). -/
def execEgrStatsRead (r : Req) (s : State) : Res :=
  mailbox 0x0910 r s
    (fun q =>
      let none_ := q.f 4 21 21 == 1 && !s.hif.snapOk
      { bad := q.rsv [(4, 31, 22)] || (!none_ && decide (9 < q.f 4 16 13 + q.f 4 20 17)), ext := some 1 })
    fun q =>
      let p := q.f 4 9 0
      let sh := q.f 4 21 21 = 1
      let n := q.f 4 20 17
      if sh ∧ !s.hif.snapOk then { status := stNotFound, st := s }
      else if !isPort s.stg.staged p then { status := stNotFound, st := s }
      else
        let v (j : Nat) : Nat := tabGet 0 (if sh then s.shadow else s.ctr) (ckey 2 (qkey p (q.f 4 12 10)) (q.f 4 16 13 + j))
        { words := [if sh then wd s.hif.snapId else 0, wd n] ++ (List.range n).flatMap fun j => two (v j), st := s }

end Sys2Proof.Machine
end

