-- ==== Sys2Proof/Machine/Table.lean ====
section
/-!
DEFINITION. Forwarding tables: VLANs, the L2 table, routes, next hops and groups, learning and aging, table
errors, and the table commands (08).
-/

namespace Sys2Proof.Machine

open Sys2Proof

/-! ## Objects and their cold-start words (08 R266, R287 to R289) -/

def vlanDefault (v : Nat) : List Word :=
  if v = 1 then [wd (1 + 2 ^ 12 + 2 ^ 28 + 2 ^ 29), 0] else [wd v, 0]
def vlanFld (c : Cfg) (v i hi lo : Nat) : Nat := fld (wordAt (cfgWords c 0x0501 v (vlanDefault v)) i) hi lo

def tblPortDefault (p : Nat) : List Word := [wd (p + 2 ^ 10 + 2 ^ 22)]
def pvid (c : Cfg) (p : Nat) : Nat := fld (wordAt (cfgWords c 0x0502 p (tblPortDefault p)) 0) 21 10
def portLearn (c : Cfg) (p : Nat) : Bool := fld (wordAt (cfgWords c 0x0502 p (tblPortDefault p)) 0) 22 22 == 1

/-- Number of a (FID, MAC) pair, and the object number of its entry in a cell. -/
def l2Key (fid mac : Nat) : Nat := fid * 2 ^ 48 + mac
def l2Obj (fid mac cell : Nat) : Nat := l2Key fid mac * 64 + cell

def nextHopDefault (i : Nat) : List Word := [wd i, 0, 0, 0]
def nextHop (c : Cfg) (i : Nat) : List Word := cfgWords c 0x0521 i (nextHopDefault i)
def routerMac (c : Cfg) : Nat := join (wordAt (cfgWords c 0x0522 0 [0, 0]) 0) (wordAt (cfgWords c 0x0522 0 [0, 0]) 1)

def hashKeyDefault (r : Nat) : List Word := [0, 0, wd (2 ^ r)]
/-- The hash key G of a ridge. -/
def hashKey (c : Cfg) (r : Nat) : Nat :=
  let w := cfgWords c 0x0531 r (hashKeyDefault r)
  join (wordAt w 0) (wordAt w 1)

def groupObj (g ridge : Nat) : Nat := g * 8 + ridge
def groupWords (c : Cfg) (g ridge : Nat) : List Word := cfgWords c 0x0530 (groupObj g ridge) []
def groupIsLag (c : Cfg) (g ridge : Nat) : Bool := fld (wordAt (groupWords c g ridge) 0) 12 12 == 1

/-- n half-words from word i on. -/
def halves (w : List Word) (i n : Nat) : List Nat :=
  (List.range n).map fun k => if k % 2 = 0 then fld (wordAt w (i + k / 2)) 15 0 else fld (wordAt w (i + k / 2)) 31 16

def groupMembers (c : Cfg) (g ridge : Nat) : List Nat :=
  let w := groupWords c g ridge
  halves w 2 (fld (wordAt w 0) 19 13)

def mcastDefault (g : Nat) : List Word := [wd g]
def mcastMembers (c : Cfg) (g : Nat) : List Nat :=
  let w := cfgWords c 0x0540 g (mcastDefault g)
  halves w 1 (fld (wordAt w 0) 20 14)

/-- Object number of a route: VRF, family (1 IPv6), length, address as a number, and its place: a cell, or 64 for the tries. -/
def routeObj (vrf fam len addr place : Nat) : Nat := ((((vrf * 2 + fam) * 256 + len) * 2 ^ 128) + addr) * 128 + place
def routePlace (o : Nat) : Nat := o % 128
def routeAddr (o : Nat) : Nat := o / 128 % 2 ^ 128
def routeLen (o : Nat) : Nat := o / 128 / 2 ^ 128 % 256
def routeFam (o : Nat) : Nat := o / 128 / 2 ^ 128 / 256 % 2
def routeVrf (o : Nat) : Nat := o / 128 / 2 ^ 128 / 256 / 2

def famBits (fam : Nat) : Nat := if fam = 1 then 128 else 32

/-- Long prefixes, which live in the cells (08 R282, R285). -/
def longPrefix (fam len : Nat) : Bool := if fam = 1 then decide (64 < len) else decide (24 < len)

/-! ## Destinations (08 R265) -/

def destKind (d : Nat) : Nat := d / 2 ^ 14 % 4
def destId (d : Nat) : Nat := d % 2 ^ 14

/-- Whether a DEST lies in the ranges of R265; a port number is the first lane of a port of the configuration. -/
def destInRange (c : Cfg) (d : Nat) : Bool :=
  let k := destKind d
  if k = 0 then isPort c (destId d) else if k = 1 then decide (destId d < 4096) else if k = 2 then true else destId d == 0

/-! ## Errors in table words (08 R291, R292) -/

/-- TABLE codes (16 R548). The numbers of the words within a table are the model's (log entry 30). -/
abbrev tL2 : Nat := 1
abbrev tLong : Nat := 2
abbrev tLens : Nat := 3
abbrev tTrie : Nat := 4
abbrev tHop : Nat := 5
abbrev tGroup : Nat := 6
abbrev tMcast : Nat := 7
abbrev tVlan : Nat := 8
abbrev tRule : Nat := 9
abbrev tChunk : Nat := 10
abbrev tStaging : Nat := 11
abbrev tSummit : Nat := 12
abbrev tHold : Nat := 14

/-- The codes of what stands in a cell, from unit 0 on, or in a ridge, from unit 64 on (16 R548). -/
def unitTable (u code : Nat) : Bool :=
  if u < 64 then [tL2, tLong, tLens, tVlan, tRule, tChunk, tStaging, tHold].contains code else [tTrie, tHop, tGroup, tMcast, tSummit].contains code

def State.isAbsent (s : State) (u table index : Nat) : Bool := s.tbl.absent.contains (u, table, index)

def ridgeOf (cell : Nat) : Nat := cell / 8

/-- The classifier rows that an entry of a cell occupies, as 1,024 times the bank plus the row (07 R235). -/
def ruleRows (c : Cfg) (cell obj : Nat) : List Nat :=
  let n := (bankUnits (bankWord c (ruleBank obj) cell)).length
  (List.range n).map fun i => 1024 * ruleBank obj + n * ruleEntry obj + i

/-! ## L2 (08 R267, R268) -/

/-- An L2 entry of a cell as what stands in a word: its object and whether it is static. -/
def l2Item (obj : Nat) (static : Bool) : Nat := obj * 2 + b2n static

/-- Whether an L2 entry stands in an absent word (08 R291). -/
def State.l2Gone (s : State) (obj : Nat) (static : Bool) : Bool :=
  (tabGet [] s.tbl.rowOf (l2Item obj static)).any fun w => s.isAbsent (obj % 64) tL2 w

/-- What an L2 lookup of a cell finds: the entry's DEST and whether it is static. A static entry goes first. -/
def State.l2Find (s : State) (c : Cfg) (cell fid mac : Nat) : Option (Nat × Bool) :=
  match (if s.l2Gone (l2Obj fid mac cell) true then none else cfgFind c 0x0510 (l2Obj fid mac cell)) with
  | some w => some (fld (wordAt w 2) 31 16, true)
  | none =>
    if s.l2Gone (l2Obj fid mac cell) false then none
    else (tabFind s.tbl.dyn (l2Obj fid mac cell)).map fun e => (e.dest, false)

/-- A hit sets ACT (08 R268). -/
def State.touch (c : Cfg) (cell fid mac : Nat) (s : State) : State :=
  match s.l2Find c cell fid mac with
  | none => s
  | some (_, true) => s.onTbl fun t => { t with act := tabPut false (l2Obj fid mac cell) true t.act }
  | some (_, false) => s.onTbl fun t => { t with
      dyn := match tabFind t.dyn (l2Obj fid mac cell) with
        | some e => tabIns (l2Obj fid mac cell) { e with act := true } t.dyn
        | none => t.dyn }

/-! ### Rows (08 R267, R272, R290) -/

/-- The 8-byte key of a hash, least significant byte first. -/
def keyBytes (g : Nat) : List Byte := wordsToBytes (two g)

/-- The row of way w in which a cell may hold an address: bits [13:0] of its L2 hash under the way's salt. -/
def State.l2Row (s : State) (cell w key : Nat) : Nat :=
  crc32c (keyBytes (Config.l2Salt s.stg.salt cell w) ++ beBytes 2 (key / 2 ^ 48) ++ beBytes 6 (key % 2 ^ 48)) % 2 ^ 14

/-- What a row of a cell's L2 table holds (08 R267). -/
structure L2Entry where
  dyn : Bool
  v0 : Bool
  v1 : Bool
  act : Bool
  fid : Nat
  mac : Nat
  dest : Nat
deriving DecidableEq, Repr

/-- The configurations whose static entries and prefixes take room of a cell, or of the tries at place 64: CURRENT, the staged one, and
the older ones that still serve (08 R286; 07 R247, R248). -/
def State.sides (s : State) (place : Nat) : List Cfg :=
  s.stg.cur :: s.stg.staged :: s.oldSidesOf fun k => place == 64 || k == place

/-- The static entries that take room of a cell. -/
def State.l2Statics (s : State) (cell : Nat) : List Nat :=
  ((s.sides cell).flatMap fun c => ((cfgAll c 0x0510).filter fun e => e.1 % 64 == cell).map fun e => e.1).dedup

/-- Whether a static entry is valid in a side: that of CURRENT, or the other one, which serves what is left of the older epoch and
takes what is staged (07 R229). -/
def State.validIn (s : State) (side cell obj : Nat) : Bool :=
  let l := if s.hif.epoch % 2 = side then [s.stg.cur] else s.stg.staged :: s.oldSides cell
  l.any fun c => (cfgFind c 0x0510 obj).isSome

/-- The rows of a cell's L2 table that are not free. -/
def State.l2Rows (s : State) (cell : Nat) : List L2Entry :=
  ((s.tbl.dyn.filter fun e => e.1 % 64 == cell).map fun e =>
    { dyn := true, v0 := false, v1 := false, act := e.2.act, fid := e.1 / 64 / 2 ^ 48, mac := e.1 / 64 % 2 ^ 48, dest := e.2.dest }) ++
  (s.l2Statics cell).map fun o =>
    { dyn := false, v0 := s.validIn 0 cell o, v1 := s.validIn 1 cell o, act := tabGet false s.tbl.act o
      fid := o / 64 / 2 ^ 48, mac := o / 64 % 2 ^ 48
      dest := fld (wordAt (((s.sides cell).findSome? fun c => cfgFind c 0x0510 o).getD []) 2) 31 16 }

/-- L2 entries that a cell holds under any configuration. -/
def State.l2Count (s : State) (cell : Nat) : Nat := (s.l2Rows cell).length

/-- The L2 entries that a cell holds, as what stands in its words. -/
def State.l2Items (s : State) (cell : Nat) : List Nat :=
  ((s.tbl.dyn.filter fun e => e.1 % 64 == cell).map fun e => l2Item e.1 false) ++ (s.l2Statics cell).map fun o => l2Item o true

/-- The words that may hold an L2 entry: its row of each way. -/
def State.l2Words (s : State) (i : Nat) : List (List Nat) :=
  (List.range 4).map fun w => [w * 2 ^ 14 + s.l2Row (i / 2 % 64) w (i / 128)]

/-- Words for all of some items, each among the item's own and none used twice. -/
def placeAll (words : Nat → List (List Nat)) : List Nat → List Nat → Option (List (Nat × List Nat))
  | [], _ => some []
  | i :: t, used => (words i).findSome? fun l =>
    if l.any fun w => used.contains w then none else (placeAll words t (l ++ used)).map fun r => (i, l) :: r

/-- How a table takes an item beside those that it holds: in words that are free, or else with all of them placed anew, for firmware moves
items among their words to free one (08 R272, R282; log entry 10). What is written, or none where there is no such place. -/
def placeItem (words : Nat → List (List Nat)) (at_ : Tab (List Nat)) (items : List Nat) (i : Nat) : Option (List (Nat × List Nat)) :=
  let others := items.filter fun j => j != i
  let used := others.flatMap fun j => tabGet [] at_ j
  match (words i).find? fun l => !l.any fun w => used.contains w with
  | some l => some [(i, l)]
  | none => placeAll words (i :: others) []

/-- Whether an insert into a cell succeeds: always up to 58,982 entries, beyond that while the candidate rows have a place (08 R272,
R296; log entry 10). -/
def State.l2Room (s : State) (cell i : Nat) : Bool :=
  decide (s.l2Count cell + 1 ≤ 58982) || (placeItem s.l2Words s.tbl.rowOf (s.l2Items cell) i).isSome

/-- The live event of a unit's uncorrectable words: cell 2, or ridge 1 (16 R538). -/
def eccEvent (u : Nat) : Nat × Nat := if u < 64 then (1024 + u, 2) else (1088 + (u - 64), 1)

/-- A word is written anew, so that it is absent no more; the unit's live condition ends with its last absent word (08 R291). -/
def State.rewrite (u table index : Nat) (s : State) : State :=
  if s.isAbsent u table index then
    let t := s.onTbl fun m => { m with absent := m.absent.filter fun e => e != (u, table, index) }
    if t.tbl.absent.any fun e => e.1 == u then t else t.endLive (eccEvent u).1 (eccEvent u).2
  else s

/-- Words of a unit are written anew. -/
def State.rewriteAll (u table : Nat) (l : List Nat) (s : State) : State := l.foldl (fun a w => a.rewrite u table w) s

/-- An L2 entry of a cell comes to stand in a word; one that the guarantee admits although no place is found stands in none (log entry
10). -/
def State.l2Put (i : Nat) (s : State) : State :=
  let cell := i / 2 % 64
  let put := (placeItem s.l2Words s.tbl.rowOf (s.l2Items cell) i).getD [(i, [])]
  (s.onTbl fun t => { t with rowOf := put.foldl (fun m e => tabPut [] e.1 e.2 m) t.rowOf }).rewriteAll cell tL2 (put.flatMap fun e => e.2)

/-- A dynamic entry leaves its cell, and its row is free (08 R267). -/
def State.dynFree (obj : Nat) (s : State) : State :=
  (s.onTbl fun t => { t with dyn := tabDel obj t.dyn, rowOf := tabDel (l2Item obj false) t.rowOf }).rewriteAll (obj % 64) tL2
    (tabGet [] s.tbl.rowOf (l2Item obj false))

/-- What became of a dynamic write: the cell holds it, or its ridge controller does; firmware defers it; the cell has no row for it. -/
inductive Took where
  | done
  | later
  | full
deriving DecidableEq, Repr

/-- Makes a dynamic write or delete in a cell's table (08 R272). -/
def State.dynMake (cell fid mac : Nat) (dest : Option Nat) (s : State) : Took × State :=
  let obj := l2Obj fid mac cell
  match dest with
  | none => (.done, s.dynFree obj)
  | some d =>
    match tabFind s.tbl.dyn obj with
    | none =>
      if s.l2Room cell (l2Item obj false) then
        (.done, (s.onTbl fun t => { t with dyn := tabIns obj { dest := d, act := true } t.dyn }).l2Put (l2Item obj false))
      else (.full, s)
    | some e =>
      (.done, (s.onTbl fun t => { t with dyn := tabIns obj { dest := d, act := e.act || s.l2Gone obj false } t.dyn }).rewriteAll cell tL2
        (tabGet [] s.tbl.rowOf (l2Item obj false)))

/-- A dynamic write or delete of a cell. A change for a cell in Slumber is held, up to 1,024 of them; firmware defers what goes beyond (08
R272, R273). A change for a cell in reset follows those that it still holds. -/
def State.dynWrite (cell fid mac : Nat) (dest : Option Nat) (ev : Nat × Nat × Nat) (s : State) : Took × State :=
  let x := s.cell cell
  let late := decide (1024 ≤ x.held.length)
  let hold : Took × State :=
    (if late then .later else .done,
      s.onCell cell fun x => { x with held := x.held ++ [{ fid := fid, mac := mac, dest := dest, ev := ev, late := late }] })
  match x.st with
  | .off => (.later, s)
  | .slumber => hold
  | .waking true => hold
  | _ => if x.resetting && x.held != [] then hold else s.dynMake cell fid mac dest

/-! ## Learn reports (08 R269, R270) -/

/-- Whether a DEST is the port or a link-aggregation group of the ridge that contains it. -/
def destHolds (c : Cfg) (ridge d port : Nat) : Bool :=
  if destKind d = 0 then destId d == port
  else destKind d == 1 && groupIsLag c (destId d) ridge && (groupMembers c (destId d) ridge).contains port

/-- The ridge controller's queue takes a report; one of the same pair and kind from a cell of the ridge within 1 µs is merged with the
earliest (08 R271; log entry 106). -/
def queueReport (r : Report) : List Report → List Report
  | [] => [r]
  | x :: t =>
    if ridgeOf x.cell = ridgeOf r.cell ∧ x.kind = r.kind ∧ x.fid = r.fid ∧ x.mac = r.mac ∧ r.time ≤ x.time + 1000 then
      { x with also := if x.cell = r.cell then x.also else x.also ++ [r.cell] } :: t
    else x :: queueReport r t

/-- Raises a report through the cell's filter and token bucket (08 R270). -/
def State.report (r : Report) (s : State) : State :=
  let x := s.cell r.cell
  if x.filter.any fun e => e.1 == r.fid && e.2.1 == r.mac then s.bump 6 r.cell 14 1
  else
    let b := x.learnBucket.draw 65536 64 1 s.tim.up
    let t := s.onCell r.cell fun y => { y with learnBucket := b.2 }
    if b.1 then
      ((t.onCell r.cell fun y => { y with
        filter := (if 64 ≤ y.filter.length then y.filter.drop 1 else y.filter) ++ [(r.fid, r.mac, s.upNs)] }).onTbl fun m =>
          { m with reports := queueReport r m.reports }).pmuEvent (64 + ridgeOf r.cell) 0x07 1 {}
    else t.bump 6 r.cell 15 1

/-- LEARN_FILTER_EXPIRY (08 R270). -/
def execLearnFilterExpiry (c : Fin 64) (fid : Fin 4096) (mac : Nat) (s : State) : Res :=
  .next (s.onCell c.val fun x => { x with filter := x.filter.filter fun e =>
    !(e.1 == fid.val && e.2.1 == mac && s.passed e.2.2 10000000) })

/-- A KIND 0 event of a cell (08 R275). -/
def State.learnEvent (ty cell fid mac new old cells outcome port : Nat) (own : Bool) (s : State) : State :=
  s.kindEvent 0 (if ty = 3 then 1 else 0) (1024 + cell)
    ([wd (ty + cell * 2 ^ 3 + fid * 2 ^ 9), wd mac, wd (mac / 2 ^ 32), wd (new + old * 2 ^ 16)] ++ two cells ++ [wd outcome, wd port]) own

/-- Ports that a DEST of a multicast group stands for. -/
def memberPorts (c : Cfg) (ridge d : Nat) : List Nat :=
  if destKind d = 0 then [destId d] else if destKind d = 1 then groupMembers c (destId d) ridge else []

/-- Cells with a port in a multicast group. -/
def groupCells (c : Cfg) (g : Nat) : List Nat :=
  (List.range 64).filter fun k => (mcastMembers c g).any fun d => (memberPorts c (ridgeOf k) d).any fun p => cellOf p == k

/-- The cells that placement names (08 R274). -/
def placeCells (c : Cfg) (r : Report) : List Nat :=
  if r.place = 1 then List.range 64
  else if r.place = 0 then (r.cell :: r.also ++ groupCells c r.flood).dedup
  else r.cell :: r.also

def State.master (s : State) (fid mac : Nat) : Option Master := tabFind s.tbl.master (l2Key fid mac)
def State.putMaster (fid mac : Nat) (m : Master) (s : State) : State :=
  s.onTbl fun t => { t with master := tabIns (l2Key fid mac) m t.master }

/-- Installs a DEST in cells: the cells that took it, whether some were full, and the state. -/
def State.install (l : List Nat) (fid mac dest : Nat) (ev : Nat × Nat × Nat) (s : State) : List Nat × Bool × State :=
  l.foldl (fun a k =>
    let r := a.2.2.dynWrite k fid mac (some dest) ev
    match r.1 with
    | .done => (a.1 ++ [k], a.2.1, r.2)
    | .later => (a.1, a.2.1, r.2)
    | .full => (a.1, true, r.2)) ([], false, s)

def maskBits (l : List Nat) : BitVec 64 := BitVec.ofNat 64 (maskOf l)

/-- Whether a cell holds a copy of a dynamic entry, or its ridge controller holds the write of one (08 R273, R275). -/
def State.holdsCopy (s : State) (fid mac cell : Nat) : Bool :=
  match ((s.cell cell).held.filter fun h => !h.late && h.fid == fid && h.mac == mac).getLast? with
  | some h => h.dest.isSome
  | none => (tabFind s.tbl.dyn (l2Obj fid mac cell)).isSome

/-- The static entry of an address in force in some cell: its DEST and the cells that hold it, which the master holds as a static entry
(08 R271). -/
def State.staticMaster (s : State) (fid mac : Nat) : Option (Nat × Nat) :=
  let l := (cfgAll s.stg.cur 0x0510).filter fun e => e.1 / 64 == l2Key fid mac
  match l with
  | [] => none
  | e :: _ => some (fld (wordAt e.2 2) 31 16, maskOf (l.map fun e => e.1 % 64))

/-- CELLS of a KIND 0 event: the cells of the master's mask that hold a copy, and those that hold the address as a static entry (08 R271,
R275). -/
def State.copies (s : State) (fid mac : Nat) : Nat :=
  maskOf ((List.range 64).filter fun k =>
    (match s.master fid mac with | some m => m.cells.getLsbD k && s.holdsCopy fid mac k | none => false) ||
    (match s.staticMaster fid mac with | some (_, cells) => cells.testBit k | none => false))

/-- Entries of the master table: the dynamic ones, and the static ones of other addresses (08 R271). -/
def State.masterCount (s : State) : Nat :=
  s.tbl.master.length +
  (((cfgAll s.stg.cur 0x0510).map fun e => e.1 / 64).dedup.filter fun k => (tabFind s.tbl.master k).isNone).length

/-- Firmware handles one report (08 R271, R274, R275). A move of an address that the master no longer holds is answered as a stale one, both
destinations the ingress port (log entry 140). -/
def State.handleReport (r : Report) (own : Bool) (s : State) : State :=
  let c := s.cellCfg r.cell
  let old := s.master r.fid r.mac
  let ev (ty new prev cells outcome : Nat) (t : State) : State := t.learnEvent ty r.cell r.fid r.mac new prev cells outcome r.port own
  let after (ty new prev : Nat) (full : Bool) (t : State) : State := ev ty new prev (t.copies r.fid r.mac) (if full then 2 else 0) t
  match r.kind with
  | 0 =>
    match old with
    | none =>
      if 4194304 ≤ s.masterCount then ev 0 r.port 0 0 1 s
      else if !s.img.policy.placePermit.testBit r.place then ev 0 r.port 0 0 3 s
      else
        let x := s.install (placeCells c r) r.fid r.mac r.port (0, 0, r.port)
        after 0 r.port 0 x.2.1 (x.2.2.putMaster r.fid r.mac { dest := r.port, cells := maskBits x.1, moved := r.time })
    | some m =>
      let x := s.install (placeCells c r) r.fid r.mac m.dest (0, 0, r.port)
      after 0 m.dest 0 x.2.1 (x.2.2.putMaster r.fid r.mac { m with cells := m.cells ||| maskBits x.1 })
  | 1 =>
    match old with
    | none => ev 1 r.port r.port 0 4 s
    | some m =>
      if r.time < m.moved then ev 1 m.dest m.dest (s.copies r.fid r.mac) 4 s
      else
        let x := s.install (bitsOf 64 m.cells.toNat) r.fid r.mac r.port (1, m.dest, r.port)
        after 1 r.port m.dest x.2.1 (x.2.2.putMaster r.fid r.mac { m with dest := r.port, moved := r.time })
  | 4 =>
    match old with
    | some m =>
      let x := s.install (r.cell :: r.also) r.fid r.mac m.dest (4, m.dest, r.port)
      after 4 m.dest m.dest x.2.1 (x.2.2.putMaster r.fid r.mac { m with cells := m.cells ||| maskBits x.1 })
    | none =>
      match s.staticMaster r.fid r.mac with
      | none => s
      | some (d, _) =>
        let x := s.install (r.cell :: r.also) r.fid r.mac d (4, d, r.port)
        after 4 d d x.2.1 (if x.1 = [] then x.2.2
          else x.2.2.putMaster r.fid r.mac { dest := d, cells := maskBits x.1, moved := 0 })
  | _ =>
    match cfgFind c 0x0510 (l2Obj r.fid r.mac r.cell) with
    | some w => ev 3 (fld (wordAt w 2) 31 16) (fld (wordAt w 2) 31 16) (s.copies r.fid r.mac) 0 s
    | none => s

/-- LEARN_REPORT_HANDLE: the oldest report (08 R271). -/
def execLearnReportHandle (own : Bool) (s : State) : Res :=
  .next (match s.tbl.reports with
  | [] => s
  | r :: t => if s.crn.fwRuns then (s.onTbl fun m => { m with reports := t }).handleReport r own else s)

/-! ## Aging (08 R276 to R279, R298) -/

/-- AGE_TIME and ENABLE as they are set (08 R298). -/
def State.ageWord (s : State) : Word := wordAt (cfgWords s.stg.imm 0x0513 0 [wd (300 + 2 ^ 20)]) 0

/-- A copy leaves a cell: the master's mask, and the entry with its last bit. -/
def State.dropCopyOf (cell fid mac : Nat) (s : State) : State :=
  s.onTbl fun t => { t with master := dropMaskBit (l2Key fid mac) cell t.master }

/-- AGING_PASS_ROW: the pass of a cell visits a dynamic row (08 R276 to R279). `last` marks the pass's last row. -/
def execAgingPassRow (c : Fin 64) (fid : Fin 4096) (mac : Nat) (last : Bool) (own : Bool) (s : State) : Res :=
  let x := s.cell c.val
  let awake := match x.st with | .off => false | .slumber => false | .waking b => !b | _ => true
  .next (if !awake ∨ !s.crn.fwRuns then s
  else
    let y := if x.ageRow = 0 then { x with ageTime := fld s.ageWord 19 0, ageOn := bit s.ageWord 20 } else x
    let t := s.onCell c.val fun _ => { y with ageRow := if y.ageOn && !last then y.ageRow + 1 else 0 }
    if !y.ageOn then t
    else
      match (if t.l2Gone (l2Obj fid.val mac c.val) false then none else tabFind t.tbl.dyn (l2Obj fid.val mac c.val)) with
      | none => t
      | some e =>
        if e.act then t.onTbl fun m => { m with dyn := tabIns (l2Obj fid.val mac c.val) { e with act := false } m.dyn }
        else
          let u := (t.dynFree (l2Obj fid.val mac c.val)).dropCopyOf c.val fid.val mac
          u.learnEvent 2 c.val fid.val mac e.dest e.dest (u.copies fid.val mac) 0 0 own)

/-! ## Routes (08 R280 to R286) -/

/-- Whether a route object covers an address. -/
def routeCovers (o vrf fam addr : Nat) : Bool :=
  routeVrf o == vrf && routeFam o == fam &&
  decide (addr / 2 ^ (famBits fam - routeLen o) = routeAddr o / 2 ^ (famBits fam - routeLen o))

/-- The longest of the routes that a test keeps: length, TYPE and INDEX. -/
def longest (l : List (Nat × List Word)) : Option (Nat × Nat × Nat) :=
  l.foldl (fun b e =>
    let len := routeLen e.1
    let x := (len, fld (wordAt e.2 5) 2 0, fld (wordAt e.2 5) 18 3)
    match b with
    | none => some x
    | some y => if y.1 < len then some x else b) none

/-- Index of an address in a cell's length-presence map: its first 16 bits (08 R283). -/
def lensIndex (fam addr : Nat) : Nat := addr / 2 ^ (famBits fam - 16)

/-- The length of bit 0 of an entry of the length-presence map (08 R283). -/
def lensFirst (fam : Nat) : Nat := if fam = 1 then 65 else 25

/-- An entry of a cell's length-presence map: bit i is set while some configuration of a list has a prefix of length 25 + i, or 65 + i for
IPv6, under the index (08 R283). -/
def lensEntry (l : List Cfg) (cell fam index : Nat) : Nat :=
  maskOf ((l.flatMap fun c => (cfgAll c 0x0520).filterMap fun e =>
    if routePlace e.1 = cell ∧ routeFam e.1 = fam ∧ lensIndex fam (routeAddr e.1) = index then some (routeLen e.1 - lensFirst fam) else none).dedup)

/-- The lengths that a lookup of a cell probes: those set for its address in either side, longest first, at most 8 (08 R283). -/
def State.probes (s : State) (c : Cfg) (cell fam addr : Nat) : List Nat :=
  if s.isAbsent cell tLens (lensIndex fam addr) then []
  else (((bitsOf 64 (lensEntry (c :: s.stg.cur :: s.oldSides cell) cell fam (lensIndex fam addr))).reverse.take 8).map fun i => lensFirst fam + i)

/-- A prefix as what stands in words: its object and its result, for a replaced prefix is there twice (08 R286). -/
def prefixItem (obj : Nat) (w : List Word) : Nat := obj * 2 ^ 32 + (wordAt w 5).toNat

/-- Whether a prefix of a cell, or of a ridge's trie, stands in an absent word (08 R291). -/
def State.prefixGone (s : State) (unit table : Nat) (e : Nat × List Word) : Bool :=
  (tabGet [] s.tbl.unitOf (prefixItem e.1 e.2)).any fun w => s.isAbsent unit table w

/-- A route lookup of a cell: level 1 the cell's, 2 the ridge's trie; length, TYPE and INDEX (08 R281, R283, R292). -/
def State.routeFind (s : State) (c : Cfg) (cell vrf fam addr : Nat) : Option (Nat × Nat × Nat × Nat) :=
  let hits (place unit table : Nat) : List (Nat × List Word) :=
    (cfgAll c 0x0520).filter fun e =>
      routePlace e.1 == place && routeCovers e.1 vrf fam addr && !s.prefixGone unit table e
  let here := hits cell cell tLong
  match (s.probes c cell fam addr).findSome? fun n => longest (here.filter fun e => routeLen e.1 == n) with
  | some x => some (1, x)
  | none => (longest (hits 64 (64 + ridgeOf cell) tTrie)).map fun x => (2, x)

/-! ## Groups (08 R288 to R290) -/

/-- Group hash of an IP frame (08 R290): addresses, protocol, ports. -/
def hashIp (g fam sip dip proto sport dport : Nat) : Nat :=
  let n := if fam = 1 then 16 else 4
  crc32c (keyBytes g ++ beBytes n sip ++ beBytes n dip ++ beBytes 1 proto ++ beBytes 2 sport ++ beBytes 2 dport)

/-- Group hash of a frame (08 R290). -/
def Parsed.hash (p : Parsed) (g : Nat) : Nat :=
  let l4 := p.l4V && !p.frag
  if p.fmt = 0 then crc32c (keyBytes g ++ beBytes 6 p.dmac ++ beBytes 6 p.smac ++ beBytes 2 p.ovid ++ beBytes 2 p.etype)
  else hashIp g (p.fmt - 1) p.sip p.dip p.proto (if l4 then p.sport else 0) (if l4 then p.dport else 0)

/-- Selection of a member by liveness: its position (08 R288). -/
def selectMember (h : Nat) (live : List Bool) : Option Nat :=
  let n := live.length
  let m := h / 2 ^ 16 * n / 2 ^ 16
  if live.getD m false then some m
  else
    let l := (List.range n).filter fun i => live.getD i false
    if l = [] then none else l[h % 2 ^ 16 * l.length / 2 ^ 16]?

/-- The hash within a next hop's own group (08 R288). -/
def swapHash (h : Nat) : Nat := h % 2 ^ 16 * 2 ^ 16 + h / 2 ^ 16

/-- The port that a link-aggregation group selects. -/
def State.lagPort (s : State) (c : Cfg) (g ridge h : Nat) : Option Nat :=
  let l := groupMembers c g ridge
  match selectMember h (l.map fun p => s.portUp p) with
  | some i => l[i]?
  | none => none

/-- Whether a next hop is live (08 R288). -/
def State.hopLive (s : State) (c : Cfg) (ridge i : Nat) : Bool :=
  let d := fld (wordAt (nextHop c i) 1) 15 0
  if destKind d = 0 then s.portUp (destId d) else (groupMembers c (destId d) ridge).any fun p => s.portUp p

/-- The next hop that an ECMP group selects: position and index. -/
def State.ecmpHop (s : State) (c : Cfg) (g ridge h : Nat) : Option (Nat × Nat) :=
  let l := groupMembers c g ridge
  match selectMember h (l.map fun i => s.hopLive c ridge i) with
  | some i => (l[i]?).map fun x => (i, x)
  | none => none

/-! ## Mailbox commands (08 R294 to R302) -/

/-- What TBL_VLAN_SET changes of a configuration. -/
def setVlan (q : Req) : Cfg → Cfg :=
  cfgSet 0x0501 (q.f 4 11 0) [q.w 4, q.w 5] (vlanDefault (q.f 4 11 0))

/-- TBL_VLAN_SET (08 R274, R295). -/
def execTblVlanSet (r : Req) (s : State) : Res :=
  mailbox 0x0501 r s
    (fun q =>
      { bad := q.rsv [(4, 31, 31), (5, 31, 18)] || q.f 4 11 0 == 0 || q.f 4 11 0 == 4095 || q.f 5 1 0 == 3 || q.f 5 3 2 == 3
        ext := some 2 })
    fun q =>
      if !s.img.policy.placePermit.testBit (q.f 5 3 2) then { status := stRefused, st := s }
      else { st := s.stageBy 0x0501 q (setVlan q) }

/-- What TBL_PORT_SET changes of a configuration. -/
def setTblPort (q : Req) : Cfg → Cfg :=
  cfgSet 0x0502 (q.f 4 9 0) [q.w 4] (tblPortDefault (q.f 4 9 0))

/-- TBL_PORT_SET (08 R295). -/
def execTblPortSet (r : Req) (s : State) : Res :=
  mailbox 0x0502 r s (fun q => { bad := q.rsv [(4, 31, 23)], ext := some 1 }) fun q =>
    let p := q.f 4 9 0
    if !isPort s.stg.staged p then { status := stNotFound, st := s }
    else { st := s.stageBy 0x0502 q (setTblPort q) }

/-- The cells that CELLS or AUTO names. -/
def namedCells (auto : Bool) (cells : Nat) : List Nat := if auto then List.range 64 else bitsOf 64 cells

/-- What TBL_L2_WRITE changes of a configuration. -/
def setL2 (q : Req) (c : Cfg) : Cfg :=
  let o (k : Nat) : Nat := l2Obj (q.f 4 11 0) (join (q.w 5) (q.w 6) % 2 ^ 48) k
  (namedCells (q.f 4 13 13 == 1) (q.f64 7)).foldl (fun a k =>
    if q.f 4 12 12 = 1 then cfgDel 0x0510 (o k) a
    else cfgSet 0x0510 (o k) ([wd (q.f 4 11 0), q.w 5, q.w 6] ++ two (2 ^ k)) [] a) c

/-- TBL_L2_WRITE (08 R296). -/
def execTblL2Write (r : Req) (s : State) : Res :=
  mailbox 0x0510 r s
    (fun q =>
      let auto := q.f 4 13 13 == 1
      let del := q.f 4 12 12 == 1
      let d := q.f 6 31 16
      let l := namedCells auto (q.f64 7)
      { bad := q.rsv [(4, 31, 14)] || q.f 4 11 0 == 0 || (if auto then q.f64 7 != 0 else q.f64 7 == 0) ||
          (if del then d != 0
           else !destInRange s.stg.staged d || (destKind d == 1 && l.any fun k => !groupIsLag s.stg.staged (destId d) (ridgeOf k)))
        ext := some 5 })
    fun q =>
      let fid := q.f 4 11 0
      let mac := join (q.w 5) (q.w 6) % 2 ^ 48
      let l := namedCells (q.f 4 13 13 == 1) (q.f64 7)
      let o (k : Nat) : Nat := l2Obj fid mac k
      if q.f 4 12 12 = 1 then
        if l.any (fun k => (cfgFind s.stg.staged 0x0510 (o k)).isNone) then { status := stNotFound, st := s }
        else { st := s.stageBy 0x0510 q (setL2 q) }
      else if l.any (fun k => (s.sides k).any fun c => (cfgFind c 0x0510 (o k)).isSome) then { status := stExists, st := s }
      else if l.any (fun k => !s.l2Room k (l2Item (o k) true)) then { status := stNoSpace, st := s }
      else
        { st := l.foldl (fun a k => a.l2Put (l2Item (o k) true)) (s.stageBy 0x0510 q (setL2 q)) }

/-- The DEST of an entry of a cell once the writes that wait for the cell are made; `d` where none waits (08 R273, R297). -/
def State.destAfter (s : State) (obj d : Nat) : Nat :=
  match ((s.cell (obj % 64)).held.filter fun h => l2Obj h.fid h.mac (obj % 64) == obj).getLast? with
  | some h => h.dest.getD d
  | none => d

/-- TBL_L2_FLUSH (08 R297). What waits for a sleeping cell is judged with its entry: by the DEST that the cell is to hold. A static master
entry whose copies on demand go stays. -/
def execTblL2Flush (r : Req) (s : State) : Res :=
  mailbox 0x0511 r s (fun q => { bad := q.rsv [(4, 15, 14)], ext := some 1 }) fun q =>
    let hit (key dest : Nat) : Bool :=
      (q.f 4 12 12 == 1 || key / 2 ^ 48 == q.f 4 11 0) && (q.f 4 13 13 == 1 || dest == q.f 4 31 16)
    let gone := s.tbl.master.filter fun e => hit e.1 e.2.dest
    let rows := s.tbl.dyn.filter fun e => hit (e.1 / 64) (s.destAfter e.1 e.2.dest)
    let t := (List.range 64).foldl (fun a k => a.onCell k fun x => { x with
      held := x.held.filter fun h => !hit (l2Key h.fid h.mac) (s.destAfter (l2Obj h.fid h.mac k) 0xC000) }) s
    let u := rows.foldl (fun a e => (a.dynWrite (e.1 % 64) (e.1 / 64 / 2 ^ 48) (e.1 / 64 % 2 ^ 48) none (0, 0, 0)).2) t
    { words := [wd (gone.filter fun e => (s.staticMaster (e.1 / 2 ^ 48) (e.1 % 2 ^ 48)).isNone).length]
      st := u.onTbl fun m => { m with master := m.master.filter fun e => !hit e.1 e.2.dest } }

/-- TBL_L2_READ (08 R297). -/
def execTblL2Read (r : Req) (s : State) : Res :=
  mailbox 0x0512 r s (fun q => { bad := q.rsv [(4, 31, 12), (6, 31, 16)], ext := some 3 }) fun q =>
    let fid := q.f 4 11 0
    let mac := join (q.w 5) (q.w 6) % 2 ^ 48
    let holds := (List.range 64).filter fun k => (cfgFind s.stg.cur 0x0510 (l2Obj fid mac k)).isSome
    match holds with
    | k :: _ =>
      let w := (cfgFind s.stg.cur 0x0510 (l2Obj fid mac k)).getD []
      let m := (s.master fid mac).getD { dest := 0, cells := 0, moved := 0 }
      { words := [wd (fld (wordAt w 2) 31 16 + 2 ^ 16)] ++ two (maskOf holds ||| m.cells.toNat) ++ two m.moved, st := s }
    | [] =>
      match s.master fid mac with
      | some m => { words := [wd m.dest] ++ two m.cells.toNat ++ two m.moved, st := s }
      | none => { status := stNotFound, st := s }

/-- What TBL_AGE_SET changes of the immediate settings. -/
def setAge (q : Req) : Cfg → Cfg :=
  cfgSet 0x0513 0 [q.w 4] [wd (300 + 2 ^ 20)]

/-- TBL_AGE_SET (08 R298). -/
def execTblAgeSet (r : Req) (s : State) : Res :=
  mailbox 0x0513 r s (fun q => { bad := q.rsv [(4, 31, 21)] || !inRange (q.f 4 19 0) 10 1000000, ext := some 1 }) fun q =>
    { st := s.setImm 0x0513 q (setAge q) }

/-- The prefixes that take room of a cell, or of the tries at place 64, as what stands in words. A replaced prefix is there twice, with its
new result and its old one (08 R286). -/
def State.prefixItems (s : State) (place : Nat) : List Nat :=
  (((s.sides place).flatMap fun c => (cfgAll c 0x0520).filter fun e => routePlace e.1 == place).map fun e => prefixItem e.1 e.2).dedup

/-- The route object of a prefix that stands in words. -/
def itemRoute (i : Nat) : Nat := i / 2 ^ 32

/-- Units that the prefixes of a cell take, over both sides (08 R282, R286). -/
def State.longUnits (s : State) (cell : Nat) : Nat := ((s.prefixItems cell).map fun i => 1 + routeFam (itemRoute i)).sum

/-- Units that the trie's prefixes take, over both sides (08 R285). -/
def State.trieUnits (s : State) : Nat := s.longUnits 64

/-- The IPv6 lengths that a cell's length-presence map has, or would have at the next COMMIT, under an index (08 R283, R284). -/
def State.v6Lengths (s : State) (cell index : Nat) : List Nat :=
  (bitsOf 64 (lensEntry (s.sides cell) cell 1 index)).map fun i => 65 + i

/-- The bucket of a prefix under choice j: bits [11:0] of its route hash under the cell's salt (08 R282, R290). -/
def State.routeBucket (s : State) (cell j o : Nat) : Nat :=
  crc32c (keyBytes (Config.routeSalt s.stg.salt cell j) ++ beBytes 1 (routeVrf o) ++ beBytes 1 (if routeFam o = 1 then 6 else 4) ++
    beBytes 1 (routeLen o) ++ beBytes (famBits (routeFam o) / 8) (routeAddr o)) % 2 ^ 12

/-- The units of a cell that may hold a prefix: one for IPv4, two adjacent ones for IPv6, in either of its two buckets (08 R282). -/
def State.longWords (s : State) (i : Nat) : List (List Nat) :=
  let o := itemRoute i
  (List.range 2).flatMap fun j => (List.range (8 - routeFam o)).map fun u =>
    (List.range (1 + routeFam o)).map fun k => 8 * s.routeBucket (routePlace o) j o + u + k

/-- Whether a cell takes a further prefix: always up to 26,214 units, beyond that while its buckets have a place (08 R282; log entry 10). -/
def State.longRoom (s : State) (cell i : Nat) : Bool :=
  decide (s.longUnits cell + 1 + routeFam (itemRoute i) ≤ 26214) ||
    (placeItem s.longWords s.tbl.unitOf (s.prefixItems cell) i).isSome

/-- A prefix comes to stand in units: of its cell, or the lowest free ones of the tries, which all hold the same (08 R282, R285). -/
def State.prefixPut (i : Nat) (s : State) : State :=
  let place := routePlace (itemRoute i)
  let items := s.prefixItems place
  let put :=
    if place = 64 then
      let used := (items.filter fun j => j != i).flatMap fun j => tabGet [] s.tbl.unitOf j
      [(i, ((List.range (used.length + 2)).filter fun w => !used.contains w).take (1 + routeFam (itemRoute i)))]
    else (placeItem s.longWords s.tbl.unitOf items i).getD [(i, [])]
  let t := s.onTbl fun t => { t with unitOf := put.foldl (fun m e => tabPut [] e.1 e.2 m) t.unitOf }
  let l := put.flatMap fun e => e.2
  if place = 64 then (List.range 8).foldl (fun a r => a.rewriteAll (64 + r) tTrie l) t else t.rewriteAll place tLong l

/-- The L2 entries, and the prefixes, that stand in words of the tables. -/
def State.l2All (s : State) : List Nat := (List.range 64).flatMap s.l2Items
def State.prefixAll (s : State) : List Nat := (List.range 65).flatMap s.prefixItems

/-- What no table holds any more leaves its words. -/
def State.tidyWords (s : State) : State :=
  s.onTbl fun t => { t with
    rowOf := t.rowOf.filter fun e => s.l2All.contains e.1, unitOf := t.unitOf.filter fun e => s.prefixAll.contains e.1 }

/-- What a restored configuration brings is placed (08 R267, R282, R285; 14 R500). -/
def State.placeRestored (s : State) : State :=
  let t := (s.l2All.filter fun i => (tabFind s.tbl.rowOf i).isNone).foldl (fun a i => a.l2Put i) s
  (t.prefixAll.filter fun i => (tabFind s.tbl.unitOf i).isNone).foldl (fun a i => a.prefixPut i) t

/-- The places of a route that TBL_ROUTE_WRITE names: the cells of a long prefix, or the tries; its object there, and its words. -/
def routePlaces (q : Req) : List Nat :=
  if longPrefix (q.f 4 4 4) (q.f 4 12 5) then namedCells (q.f 4 13 13 == 1) (q.f64 10) else [64]
def routeAt (q : Req) (k : Nat) : Nat :=
  routeObj (q.f 4 3 0) (q.f 4 4 4) (q.f 4 12 5) (wordsNat [q.w 5, q.w 6, q.w 7, q.w 8]) k
def routeWords (q : Req) (k : Nat) : List Word :=
  [wd (q.f 4 12 0), q.w 5, q.w 6, q.w 7, q.w 8, q.w 9] ++ two (if longPrefix (q.f 4 4 4) (q.f 4 12 5) then 2 ^ k else 0)

/-- What TBL_ROUTE_WRITE changes of a configuration. -/
def setRoute (q : Req) (c : Cfg) : Cfg :=
  (routePlaces q).foldl (fun a k =>
    if q.f 4 14 14 = 1 then cfgDel 0x0520 (routeAt q k) a else cfgSet 0x0520 (routeAt q k) (routeWords q k) [] a) c

/-- TBL_ROUTE_WRITE (08 R284, R299). -/
def execTblRouteWrite (r : Req) (s : State) : Res :=
  mailbox 0x0520 r s
    (fun q =>
      let fam := q.f 4 4 4
      let len := q.f 4 12 5
      let auto := q.f 4 13 13 == 1
      let addr := wordsNat [q.w 5, q.w 6, q.w 7, q.w 8]
      let ty := q.f 9 2 0
      let idx := q.f 9 18 3
      { bad := q.rsv [(4, 31, 15), (9, 31, 19)] || decide (famBits fam < len) || (fam == 0 && decide (2 ^ 32 ≤ addr)) ||
          (addr % 2 ^ (famBits fam - len) != 0) || decide (3 < ty) ||
          (if q.f 4 14 14 = 1 then ty != 0 || idx != 0
           else ((ty == 0 || ty == 3) && idx != 0) || (ty == 2 && decide (4095 < idx))) ||
          (if longPrefix fam len then (if auto then q.f64 10 != 0 else q.f64 10 == 0) else q.f64 10 != 0)
        ext := some 8 })
    fun q =>
      let fam := q.f 4 4 4
      let len := q.f 4 12 5
      let addr := wordsNat [q.w 5, q.w 6, q.w 7, q.w 8]
      let long := longPrefix fam len
      let l := routePlaces q
      if q.f 4 14 14 = 1 then
        if l.any (fun k => (cfgFind s.stg.staged 0x0520 (routeAt q k)).isNone) then { status := stNotFound, st := s }
        else { st := s.stageBy 0x0520 q (setRoute q) }
      else if l.any (fun k => (cfgFind s.stg.staged 0x0520 (routeAt q k)).isSome) then { status := stExists, st := s }
      else
        let ninth (k : Nat) : Bool :=
          let n := s.v6Lengths k (addr / 2 ^ 112)
          fam == 1 && !n.contains len && decide (8 ≤ n.length)
        let item (k : Nat) : Nat := prefixItem (routeAt q k) (routeWords q k)
        let full (k : Nat) : Bool := !s.longRoom k (item k) || ninth k
        let no := if long then l.any full else decide (1048576 < s.trieUnits + 1 + fam)
        if no then { status := stNoSpace, st := s }
        else { st := l.foldl (fun a k => a.prefixPut (item k)) (s.stageBy 0x0520 q (setRoute q)) }

/-- What TBL_NEXTHOP_SET changes of a configuration. -/
def setNexthop (q : Req) : Cfg → Cfg :=
  cfgSet 0x0521 (q.f 4 15 0) [q.w 4, q.w 5, q.w 6, q.w 7] (nextHopDefault (q.f 4 15 0))

/-- TBL_NEXTHOP_SET (08 R300). -/
def execTblNexthopSet (r : Req) (s : State) : Res :=
  mailbox 0x0521 r s
    (fun q =>
      { bad := q.rsv [(4, 31, 17), (5, 31, 28), (7, 31, 16)] || decide (1 < destKind (q.f 5 15 0)) || !destInRange s.stg.staged (q.f 5 15 0)
        ext := some 4 })
    fun q => { st := s.stageBy 0x0521 q (setNexthop q) }

/-- What TBL_ROUTER_MAC changes of a configuration. -/
def setRouterMac (q : Req) : Cfg → Cfg :=
  cfgSet 0x0522 0 [q.w 4, q.w 5] [0, 0]

/-- TBL_ROUTER_MAC (08 R300). -/
def execTblRouterMac (r : Req) (s : State) : Res :=
  mailbox 0x0522 r s (fun q => { bad := q.rsv [(5, 31, 16)] || (q.w 5).toNat / 256 % 2 == 1, ext := some 2 }) fun q =>
    { st := s.stageBy 0x0522 q (setRouterMac q) }

/-- What TBL_GROUP_SET changes of a configuration. -/
def setGroup (q : Req) (c : Cfg) : Cfg :=
  (bitsOf 8 (q.f 5 7 0)).foldl (fun a k => cfgSet 0x0530 (groupObj (q.f 4 11 0) k)
    ([q.w 4, wd (2 ^ k)] ++ (List.range ((q.f 4 19 13 + 1) / 2)).map fun i => q.w (6 + i)) [] a) c

/-- TBL_GROUP_SET (08 R301). -/
def execTblGroupSet (r : Req) (s : State) : Res :=
  mailbox 0x0530 r s
    (fun q =>
      let n := q.f 4 19 13
      { bad := q.rsv [(4, 31, 20), (5, 31, 8)] || !inRange n 1 64 || q.f 5 7 0 == 0 ||
          (q.f 4 12 12 == 1 && (halves q.payload 2 n).any fun p => !isPort s.stg.staged p)
        ext := some (2 + (n + 1) / 2) })
    fun q => { st := s.stageBy 0x0530 q (setGroup q) }

/-- What TBL_HASH_KEY changes of a configuration. -/
def setHashKey (q : Req) (c : Cfg) : Cfg :=
  (bitsOf 8 (q.f 6 7 0)).foldl (fun a k => cfgSet 0x0531 k [q.w 4, q.w 5, wd (2 ^ k)] (hashKeyDefault k) a) c

/-- TBL_HASH_KEY (08 R300). -/
def execTblHashKey (r : Req) (s : State) : Res :=
  mailbox 0x0531 r s (fun q => { bad := q.rsv [(6, 31, 8)] || q.f 6 7 0 == 0, ext := some 3 }) fun q =>
    { st := s.stageBy 0x0531 q (setHashKey q) }

/-- What TBL_MCAST_SET changes of a configuration. -/
def setMcast (q : Req) : Cfg → Cfg :=
  cfgSet 0x0540 (q.f 4 13 0) (q.w 4 :: (List.range ((q.f 4 20 14 + 1) / 2)).map fun i => q.w (5 + i)) (mcastDefault (q.f 4 13 0))

/-- TBL_MCAST_SET (08 R301). -/
def execTblMcastSet (r : Req) (s : State) : Res :=
  mailbox 0x0540 r s
    (fun q =>
      let n := q.f 4 20 14
      let ecmp (g : Nat) : Bool := (List.range 8).any fun k => groupWords s.stg.staged g k != [] && !groupIsLag s.stg.staged g k
      { bad := q.rsv [(4, 31, 21)] || decide (64 < n) ||
          ((halves q.payload 1 n).any fun d => decide (1 < destKind d) || !destInRange s.stg.staged d || (destKind d == 1 && ecmp (destId d)))
        ext := some (1 + (n + 1) / 2) })
    fun q => { st := s.stageBy 0x0540 q (setMcast q) }

/-- The member that a route result selects: of a group, or of the link-aggregation group of a next hop. None where a word is absent,
the next hop is not valid or no member is live (08 R287, R288, R292, R302). -/
def State.lookupMember (s : State) (c : Cfg) (ridge ty i h : Nat) : Option Nat :=
  let u := 64 + ridge
  let lag (g h : Nat) : Option Nat := selectMember h ((groupMembers c g ridge).map fun p => s.portUp p)
  if ty = 2 then
    if s.isAbsent u tGroup i then none else if groupIsLag c i ridge then lag i h else (s.ecmpHop c i ridge h).map fun x => x.1
  else
    let w := nextHop c i
    let d := fld (wordAt w 1) 15 0
    if ty = 1 ∧ s.isAbsent u tHop i = false ∧ bit (wordAt w 0) 16 ∧ destKind d = 1 ∧ s.isAbsent u tGroup (destId d) = false then
      lag (destId d) (swapHash h)
    else none

/-- TBL_LOOKUP (08 R302). The layout of the hash fields in words 9 to 14 is the model's (log entry 31). -/
def execTblLookup (r : Req) (s : State) : Res :=
  mailbox 0x0550 r s (fun q => { bad := q.rsv [(4, 31, 11)], ext := some 11 }) fun q =>
    let cell := q.f 4 5 0
    let fam := q.f 4 10 10
    let c := s.cellCfg cell
    let addr := if fam = 1 then wordsNat [q.w 5, q.w 6, q.w 7, q.w 8] else (q.w 5).toNat
    let g := hashKey c (ridgeOf cell)
    let h :=
      if fam = 1 then hashIp g 1 (wordsNat [q.w 9, q.w 10, q.w 11, q.w 12]) addr (q.f 13 7 0) (q.f 14 15 0) (q.f 14 31 16)
      else hashIp g 0 (q.w 9).toNat (q.w 10).toNat (q.f 11 7 0) (q.f 12 15 0) (q.f 13 15 0)
    match s.routeFind c cell (q.f 4 9 6) fam addr with
    | none => { words := [0, wd h, 0x3F], st := s }
    | some (level, len, ty, idx) =>
      let m := (s.lookupMember c (ridgeOf cell) ty idx h).getD 0x3F
      { words := [wd (level + len * 2 ^ 2 + ty * 2 ^ 10 + idx * 2 ^ 13), wd h, wd m], st := s }

/-- TBL_STATS_READ (08 R302). -/
def execTblStatsRead (r : Req) (s : State) : Res :=
  mailbox 0x0560 r s
    (fun q =>
      let t := q.f 4 6 0
      { bad := q.rsv [(4, 31, 16)] || decide (71 < t) || decide ((if t < 64 then 16 else 3) < q.f 4 10 7 + q.f 4 15 11), ext := some 1 })
    fun q =>
      let t := q.f 4 6 0
      let v (j : Nat) : Nat := if t < 64 then s.count 6 t j else s.count 7 (t - 64) j
      { words := wd (q.f 4 15 11) :: (List.range (q.f 4 15 11)).flatMap fun j => two (v (q.f 4 10 7 + j)), st := s }

end Sys2Proof.Machine
end

