-- ==== Sys2Proof/Machine/Flow.lean ====
section
/-!
DEFINITION. The flow store: operations at their cells, the summit caches and the home engines, coherence, aging and
export, errors, and the commands of opcodes 0x0600 to 0x06FF (09).
-/

namespace Sys2Proof.Machine

open Sys2Proof

/-! ## Operations at their cell (09 R320) -/

/-- Replaces or drops the operation of a cell and tag. -/
def State.onOp (c tag : Nat) (f : Op → Option Op) (s : State) : State :=
  s.onFlo fun g => { g with ops := g.ops.filterMap fun o => if o.cell = c ∧ o.tag = tag then f o else some o }

/-- An operation has left its cell and its result has not arrived. -/
def Op.out (o : Op) : Bool := decide (o.place ≠ .credit)

/-- Whether the cell holds a credit of each kind for an engine (09 R320). -/
def State.hasCredit (s : State) (c e : Nat) : Bool :=
  let l := s.flo.ops.filter fun o => o.cell == c && o.out
  decide (l.length < 256) && decide ((l.filter fun o => o.engine / 32 == e / 32).length < 64) &&
  decide ((l.filter fun o => o.engine == e).length < 8)

/-- The lowest number from `base` that no operation of a cell uses. An operation that waits for credits has no TAG yet
and takes a number of 256 or more; a sent one has a TAG. -/
def State.freeTag (s : State) (c base : Nat) : Nat :=
  (((List.range (s.flo.ops.length + 1)).map fun t => base + t).find? fun t =>
    !(s.flo.ops.any fun o => o.cell == c && o.tag == t)).getD base

/-- Puts a TAG into a request. -/
def putTag (m : List Word) (tag : Nat) : List Word :=
  m.set 1 (wd ((wordAt m 1).toNat - msgTag m * 2 ^ 3 + tag % 256 * 2 ^ 3))

/-- The count that a sampling cell reloads: PERIOD plus a random whole number within an eighth of it, at least 1 (17 R571). -/
def sampleReload (period : Nat) (s : State) : Nat × State :=
  let d := s.drawNat
  (max 1 (period - period / 8 + d.1 % (2 * (period / 8) + 1)), d.2)

/-- The cell counts an operation that it sends: whether that is the one at which the count expires, which is sampled; the count is reloaded
after it (17 R571). -/
def State.sampleOp (c prog : Nat) (s : State) : Bool × State :=
  let m := tabGet {} s.pmu.sample c
  if m.period = 0 ∨ (m.progEn ∧ m.program ≠ prog) then (false, s)
  else if m.armed ∨ m.count ≤ 1 then
    let d := sampleReload m.period s
    (true, d.2.onPmu fun p => { p with sample := tabPut {} c { m with armed := false, count := d.1 } p.sample })
  else (false, s.onPmu fun p => { p with sample := tabPut {} c { m with count := m.count - 1 } p.sample })

/-- A VOID that waited for its OPERATE to leave the cell follows it (09 R319, R338). -/
def State.stampVoids (o : Op) (s : State) : State :=
  s.onFlo fun f => { f with
    voids := f.voids.map fun v => if v.cell = o.cell ∧ !v.passed ∧ sameRequest v.msg o.msg then { v with ord := f.seq + 2 } else v
    seq := f.seq + 2 }

/-- Sends one operation that waits for credits, if they are there. -/
def State.sendOp (c tag : Nat) (s : State) : State :=
  match s.flo.ops.find? fun o => o.cell == c && o.tag == tag && !o.out with
  | none => s
  | some o =>
    if s.hasCredit c o.engine then
      let a := s.sampleOp c (msgProgram o.msg)
      let n := s.freeTag c 0
      ((a.2.onOp c tag fun o => some { o with
        tag := n, msg := putTag o.msg n, place := .cache, issued := s.now, sampled := a.1, ord := s.flo.seq + 1 }).stampVoids o).pmuEvent c 0x0A 1
          { priv := some o.priv, cls := some (fld (wordAt o.msg 12) 27 25) }
    else s

/-- Sends the cell's waiting operations that have credits, oldest first. -/
def State.sendOps (c : Nat) (s : State) : State :=
  ((s.flo.ops.filter fun o => o.cell == c && !o.out).map fun o => o.tag).foldl (fun a t => a.sendOp c t) s

/-- Posts a frame's OPERATE at its cell; its tag. -/
def State.postOp (c fid : Nat) (msg : List Word) (keyLen : Nat) (wait : Bool) (s : State) : Nat × State :=
  let e := homeOf (s.hashKey (msgKey msg keyLen))
  let tag := s.freeTag c 256
  let o : Op := { cell := c, tag := tag, msg := putTag msg tag, keyLen := keyLen, engine := e, place := .credit, fid := fid
                  wait := wait, program := msgProgram msg, ready := s.now, priv := (tabGet {} s.frm.frames fid).priv }
  let t := s.onFlo fun f => { f with ops := f.ops ++ [o] }
  (tag, (t.onIf (!s.hasCredit c e) fun a => a.bump 9 c 0 1).sendOp c tag)

/-- Takes back an OPERATE that was not sent: its frame no longer needs a VOID, and none that waits is sent. -/
def State.unpostOp (o : Op) (s : State) : State :=
  let t := s.onFlo fun f => { f with
    ops := f.ops.filter fun x => !(x.cell == o.cell && x.tag == o.tag)
    voids := f.voids.filter fun v => !(v.cell == o.cell && sameRequest v.msg o.msg) }
  { t with frm := { t.frm with frames := t.frm.frames.map fun e => (e.1, if e.1 = o.fid then { e.2 with op := none } else e.2) } }

/-- CREDIT_WAIT_EXPIRY: an operation whose frame does not wait is not sent (09 R322). -/
def execCreditWaitExpiry (c : Fin 64) (tag : Fin 256) (s : State) : Res :=
  .next (match s.flo.ops.find? fun o => o.cell == c.val && o.tag % 256 == tag.val && !o.out && !o.wait with
  | none => s
  | some o => (s.unpostOp o).bump 9 c.val 3 1)

/-! ## Summit caches (09 R324 to R328) -/

def State.cacheOf (s : State) (r : Nat) : List CacheEntry := tabGet [] s.flo.cache r
def State.setCache (r : Nat) (l : List CacheEntry) (s : State) : State :=
  s.onFlo fun f => { f with cache := tabPut [] r l f.cache }

/-- Whether an entry holds a key. -/
def CacheEntry.holds (x : CacheEntry) (k : FKey) : Bool :=
  x.zone == k.zone && x.keyType == k.keyType && x.keyLen == k.keyLen && decide (x.key = k.bytes)

/-- An entry's deltas as a message to the home. -/
def CacheEntry.deltas (x : CacheEntry) (kind ridge : Nat) : Coh :=
  { kind := kind, ridge := ridge, handle := x.handle, dpkts := x.dpkts, dbytes := x.dbytes, latest := x.latest }

/-- Zeroes what an entry has handed over. -/
def CacheEntry.zeroed (x : CacheEntry) : CacheEntry := { x with dpkts := 0, dbytes := 0, latest := 0 }

def State.pushCoh (m : Coh) (s : State) : State :=
  s.onFlo fun f => { f with coh := f.coh ++ [{ m with ord := f.seq + 1 }], seq := f.seq + 1 }

/-- Puts an entry that was used at the recent end of its cache; at 65,536 packets its deltas leave in a FLUSH (09 R326). -/
def State.useEntry (r : Nat) (x : CacheEntry) (s : State) : State :=
  let l := (s.cacheOf r).filter fun y => y.handle != x.handle
  if 65536 ≤ x.dpkts then
    (((s.setCache r (l ++ [x.zeroed])).pushCoh (x.deltas 4 r)).bump 10 r 3 1).pmuEvent (64 + r) 0x06 1 { addr := some x.handle }
  else s.setCache r (l ++ [x])

/-- A ridge takes a granted entry: one that it holds for the handle is refreshed, else its least recently used entry
makes room (09 R324, R328). -/
def State.grantEntry (r : Nat) (x : CacheEntry) (s : State) : State :=
  let l := s.cacheOf r
  match l.find? fun y => y.handle == x.handle with
  | some y =>
    s.setCache r ((l.filter fun z => z.handle != x.handle) ++ [{ x with dpkts := y.dpkts, dbytes := y.dbytes, latest := y.latest }])
  | none =>
    match l with
    | y :: rest =>
      if 32768 ≤ l.length then
        (((s.setCache r (rest ++ [x])).pushCoh (y.deltas 3 r)).bump 10 r 2 1).pmuEvent (64 + r) 0x06 1 { addr := some y.handle }
      else s.setCache r (l ++ [x])
    | [] => s.setCache r [x]

/-- The summit cache drops an entry that its ECC cannot correct; its deltas are lost, and the condition ends with the drop unless a
table word of the ridge keeps it live (16 R538, R551). What found the error: an operation, by the entry's handle, or the scrubber, by its
word. -/
def State.dropEntry (r : Nat) (x : CacheEntry) (scrub : Option Nat) (s : State) : State :=
  let ev : Ev := { src := 1088 + r, reason := 1, cls := 1, live := true }
  let t := (s.setCache r ((s.cacheOf r).filter fun y => y != x)).raise
    (match scrub with
     | none => { ev with access := 3, addr := x.handle }
     | some n => { ev with access := 4, master := scrubberId, addr := tableWord tSummit n })
  if s.flt.live.contains (1088 + r, 1) then t else t.endLive (1088 + r) 1

/-- A lookup's read of the summit cache finds an uncorrectable error in the entry of a key. -/
def State.loseEntry (r : Nat) (k : FKey) (s : State) : State :=
  match (s.cacheOf r).find? fun x => x.holds k with
  | some x => s.dropEntry r x none
  | none => s

/-- The VOIDs of a cell that have left it: their OPERATEs wait for no credit. -/
def State.sentVoid (s : State) (v : VoidMsg) : Bool :=
  !v.passed && !(s.flo.ops.any fun o => o.cell == v.cell && sameRequest o.msg v.msg && decide (o.place = .credit))

/-- The stack that a VOID goes to. -/
def State.voidHome (s : State) (v : VoidMsg) : Nat := homeOf (s.hashKey (msgKey v.msg v.keyLen))

/-- Whether a message is the next that a ridge's cache takes on its way to a stack: the cache takes them as they left the cells
(09 R319). -/
def State.nextAtCache (s : State) (ridge stack ord : Nat) : Bool :=
  !(s.flo.ops.any fun o => decide (o.place = .cache ∧ ridgeOf o.cell = ridge ∧ o.engine / 32 = stack ∧ o.ord < ord)) &&
  !(s.flo.voids.any fun v => s.sentVoid v && decide (ridgeOf v.cell = ridge ∧ s.voidHome v / 32 = stack ∧ v.ord < ord))

/-- The handle of the entry that a cache holds for a key, for the address filter (17 R565). -/
def State.cachedHandle (s : State) (r : Nat) (k : FKey) : Nat :=
  match (s.cacheOf r).find? fun x => x.holds k with | some x => x.handle | none => noHandle

/-- The handle of the record of a key, for the address filter (17 R565). -/
def State.keyHandle (s : State) (k : FKey) : Nat := (s.findRec k).getD noHandle

/-- CACHE_LOOKUP of the oldest OPERATE of a route: it is answered, or passes to its home (09 R319, R325). -/
def State.lookupOp (c tag : Nat) (bad : Bool) (s0 : State) : State :=
  let r := ridgeOf c
  match s0.flo.ops.find? fun o => o.cell == c && o.tag == tag && decide (o.place = .cache) with
  | none => s0
  | some o =>
    if !s0.nextAtCache r (o.engine / 32) o.ord then s0
    else
      let k := msgKey o.msg o.keyLen
      let lost := s0.onIf bad fun a => a.loseEntry r k
      let occ : Occ := { master := some c, cls := some 0, addr := some (lost.cachedHandle r k) }
      let s := lost.pmuEvent (64 + r) 0x01 1 occ
      match (s.cacheOf r).find? fun x => x.holds k && x.epoch == msgEpoch o.msg && x.program == msgProgram o.msg with
      | some x =>
        let y := { x with dpkts := x.dpkts + 1, dbytes := x.dbytes + msgLength o.msg, latest := max x.latest (msgTime o.msg) }
        let t := (s.useEntry r y).onOp c tag fun o => some { o with
          place := .done, result := resultWords o.tag c 0 0 0 1 x.handle x.y }
        (t.bump 10 r 0 1).pmuEvent (64 + r) 0x02 1 { occ with cls := none }
      | none =>
        let t := s.onFlo fun f => { f with
          ops := (f.ops.filter fun p => !(p.cell == c && p.tag == tag)) ++ [{ o with place := .home, ord := f.seq + 1 }]
          seq := f.seq + 1 }
        t.pmuEvent (64 + r) 0x03 1 occ

/-- CACHE_LOOKUP of a cell's oldest VOID, which comes after the OPERATE that it reverses (09 R319, R325, R338). -/
def State.lookupVoid (c : Nat) (bad : Bool) (s0 : State) : State :=
  let r := ridgeOf c
  match takeFirst (fun v => v.cell == c && s0.sentVoid v && s0.nextAtCache r (s0.voidHome v / 32) v.ord) s0.flo.voids with
  | none => s0
  | some (v, rest) =>
      let k := msgKey v.msg v.keyLen
      let lost := s0.onIf bad fun a => a.loseEntry r k
      let occ : Occ := { master := some c, cls := some 1, addr := some (lost.cachedHandle r k) }
      let s := lost.pmuEvent (64 + r) 0x01 1 occ
      match (s.cacheOf r).find? fun x => x.holds k with
      | some x =>
        let y := { x with dpkts := x.dpkts - 1, dbytes := x.dbytes - msgLength v.msg }
        (s.onFlo fun f => { f with voids := rest }).useEntry r y
      | none => (s.onFlo fun f => { f with voids := rest ++ [{ v with passed := true, ord := f.seq + 1 }], seq := f.seq + 1 }).pmuEvent
          (64 + r) 0x03 1 occ

def execCacheLookup (c : Fin 64) (tag : Fin 256) (void : Bool) (uncorrectable : Bool) (s : State) : Res :=
  .next (if void then s.lookupVoid c.val uncorrectable else s.lookupOp c.val tag.val uncorrectable)

/-! ## Coherence at the ridges -/

/-- Takes the oldest message of a stack to a ridge, if it has the kind and the handle (09 R319). -/
def State.takeRidge (kind r h : Nat) (s : State) : Option (Coh × State) :=
  match takeFirst (fun m : Coh => m.ridge == r && m.handle / 2 ^ 26 == h / 2 ^ 26 && decide (m.kind < 2)) s.flo.coh with
  | some (m, rest) => if m.kind = kind ∧ m.handle = h then some (m, s.onFlo fun f => { f with coh := rest }) else none
  | none => none

/-! ### What has reached a home (09 R311, R319) -/

/-- An operation at its home engine: its stamp, its route (the ridge, or 8 and more for an engine's or firmware's own), and its key. -/
structure AtHome where
  ord : Nat
  route : Nat
  engine : Nat
  key : FKey

/-- The key of firmware's READ or DELETE: its own, or that of the record in its slot. -/
def State.fwKey (s : State) (o : FwOp) : Option FKey :=
  if o.byHandle then (match s.recOf o.handle with | some r => if r.quarantined then none else some r.fkey | none => none)
  else some (msgKey o.msg o.keyLen)

/-- The operations at their homes. -/
def State.atHome (s : State) : List AtHome :=
  ((s.flo.ops.filter fun o => decide (o.place = .home)).map fun o =>
    { ord := o.ord, route := ridgeOf o.cell, engine := o.engine, key := msgKey o.msg o.keyLen }) ++
  ((s.flo.voids.filter fun v => v.passed).map fun v =>
    { ord := v.ord, route := ridgeOf v.cell, engine := s.voidHome v, key := msgKey v.msg v.keyLen }) ++
  (s.prg.comps.map fun m => { ord := m.ord, route := 8 + m.engine, engine := m.home, key := msgKey m.msg m.keyLen }) ++
  (s.flo.fwOps.filter fun o => decide (o.tag < 16)).filterMap fun o =>
    (s.fwKey o).map fun k => { ord := o.ord, route := 136, engine := o.engine, key := k }

/-- An earlier operation at the engine has an equal H (09 R311). -/
def State.behind (s : State) (ord e : Nat) (k : FKey) : Bool :=
  s.atHome.any fun a => a.engine == e && decide (a.ord < ord) && s.hashKey a.key == s.hashKey k

/-- The record of a key waits for ACKs, or its context is held. -/
def State.keyBusy (s : State) (k : FKey) : Bool := match s.findRec k with | some h => s.recBusy h | none => false

/-- An operation held behind one of equal H, or for its record (09 R311, R329). -/
def State.waitsRecord (s : State) (a : AtHome) : Bool := s.behind a.ord a.engine a.key || s.keyBusy a.key

/-- A context of those for operations is free (10 R355). -/
def State.contextFree (s : State) (e : Nat) : Bool := (List.range 12).any fun k => (tabFind s.prg.ctx (ctxKey e k)).isNone

/-- An OPERATE that only a context keeps has waited for one longer; operations without a stamp come after those with one (10 R356). -/
def State.contextOwed (s : State) (e stamp : Nat) : Bool :=
  s.flo.ops.any fun o =>
    o.engine == e && decide (o.place = .home ∧ o.queued ≠ 0 ∧ (stamp = 0 ∨ o.queued < stamp)) &&
    !s.behind o.ord e (msgKey o.msg o.keyLen) && !s.keyBusy (msgKey o.msg o.keyLen)

/-- An operation can take a context (10 R355, R356). -/
def State.contextOpen (s : State) (e stamp : Nat) : Bool := s.contextFree e && !s.contextOwed e stamp

/-- An operation that its engine has taken and that waits, for its record or for a context. -/
def State.atRest (s : State) (a : AtHome) : Bool := s.waitsRecord a || !s.contextOpen a.engine 0

/-- A FLUSH or RELEASE that waits behind a READ, DELETE or eviction that has its ridge's contribution (09 R330). -/
def State.cohRests (s : State) (m : Coh) : Bool :=
  decide (2 < m.kind) && (match tabFind s.flo.locked m.handle with | some k => !k.left.getLsbD m.ridge | none => false)

/-- Whether all that a ridge sent to an engine before a stamp has been taken (09 R319). -/
def State.routeClear (s : State) (ridge e ord : Nat) : Bool :=
  !(s.flo.coh.any fun m => m.ridge == ridge && engineOf m.handle == e && decide (2 ≤ m.kind ∧ m.ord < ord) && !s.cohRests m) &&
  !(s.atHome.any fun a => a.route == ridge && a.engine == e && decide (a.ord < ord) && !s.atRest a)

/-- Takes the oldest message of a ridge about a handle to its home, if it has the kind and its turn (09 R319, R330). -/
def State.takeHome (kind r h : Nat) (s : State) : Option (Coh × State) :=
  match takeFirst (fun m : Coh => m.ridge == r && m.handle == h && decide (2 ≤ m.kind)) s.flo.coh with
  | some (m, rest) =>
    if m.kind = kind ∧ !s.cohRests m ∧ s.routeClear r (engineOf h) m.ord then some (m, s.onFlo fun f => { f with coh := rest }) else none
  | none => none

/-- A ridge's answer to INVALIDATE or COLLECT (09 R328). -/
def State.ridgeAck (kind r h : Nat) (s : State) : State :=
  match s.takeRidge kind r h with
  | none => s
  | some (_, t) =>
    let u := t.pmuEvent (64 + r) 0x05 1 { addr := some h }
    match (u.cacheOf r).find? fun x => x.handle == h with
    | none => u.pushCoh { kind := 2, ridge := r, handle := h, empty := true }
    | some x =>
      let l := u.cacheOf r
      (u.setCache r (if kind = 0 then l.filter fun y => y.handle != h
        else l.map fun y => if y.handle = h then y.zeroed else y)).pushCoh (x.deltas 2 r)

def execInvalidate (r : Fin 8) (h : Fin 268435456) (s : State) : Res := .next (s.ridgeAck 0 r.val h.val)
def execCollect (r : Fin 8) (h : Fin 268435456) (s : State) : Res := .next (s.ridgeAck 1 r.val h.val)

/-! ## Firmware's READ and DELETE (09 R330, R341, R350) -/

/-- Answers firmware's operation and the command that waits for it; the operation that waits longest for its credit takes it (09 R320). -/
def State.answerFw (o : FwOp) (status h collected : Nat) (image : List Word) (s : State) : State :=
  let t := s.onFlo fun f => { f with
    fwOps := ((f.fwOps.filter fun x => !(x.engine == o.engine && x.tag == o.tag)).map fun x =>
      if x.engine = o.engine ∧ 16 ≤ x.tag then
        (if x.tag = 16 then { x with tag := o.tag, msg := putTag x.msg o.tag, ord := f.seq + 1 } else { x with tag := x.tag - 1 }) else x)
    seq := f.seq + 1 }
  let op := if o.delete then 0x0611 else 0x0610
  t.onIf (!o.lost) fun a => a.respond op (a.late o.req) status
    (if status = stOk then [wd h, wd collected] ++ image else if status = stNoSpace then [34] else [])

/-- Ends a READ or DELETE whose record has been collected. -/
def State.endFw (o : FwOp) (h : Nat) (collected : BitVec 8) (s : State) : State :=
  match s.recOf h with
  | none => s.answerFw o stNotFound 0 0 []
  | some r =>
    if r.quarantined then
      if o.delete && o.byHandle then
        (s.onFlo fun f => { f with recs := tabDel h f.recs }).answerFw o stOk h 0 r.image
      else s.answerFw o stPoison 0 0 []
    else if o.delete then (s.evict h 2).answerFw o stOk h collected.toNat r.image
    else s.answerFw o stOk h collected.toNat r.image

/-- A find that reads an uncorrectable burst of a record quarantines it (09 R340). -/
def State.findEcc (k : FKey) (ecc : Option (Fin 268435456)) (s : State) : State :=
  match ecc with
  | some h => if (State.slotsOf (s.hashKey k)).contains h.val then s.quarantine 3 (0x80 + engineOf h.val) h.val else s
  | none => s

/-- The same for an operation by handle, which reads one slot. -/
def State.slotEcc (slot : Nat) (ecc : Option (Fin 268435456)) (s : State) : State :=
  match ecc with
  | some h => if h.val = slot then s.quarantine 3 (0x80 + engineOf slot) slot else s
  | none => s

/-- A READ or DELETE reaches its engine: it collects from the ridges in PRESENCE, or ends at once. An image without room changes
nothing (04 R601). `fixed` is the number of the bursts it reads whose errors the stack corrected (09 R339). -/
def State.startFw (e tag : Nat) (delete : Bool) (ecc : Option (Fin 268435456)) (fixed : Nat) (s0 : State) : State :=
  match s0.flo.fwOps.find? fun o => o.engine == e && o.tag == tag && o.delete == delete with
  | none => s0
  | some o =>
    let k := msgKey o.msg o.keyLen
    let found := ((if o.byHandle then s0.slotEcc o.handle ecc else s0.findEcc k ecc)).bump 8 e 13 fixed
    let s := found.pmuFirmware (72 + e) 0x01
      { cls := some (if delete then 4 else 3), addr := some (if o.byHandle then o.handle else found.keyHandle k) }
    if !s0.contextOpen e 0 then s0
    else if (s0.fwKey o).any fun k => s0.behind o.ord e k then s0
    else if (if o.byHandle then s0.recBusy o.handle else s0.keyBusy k) then s0
    else if o.byHandle ∧ found.recBusy o.handle then found
    else match (if o.byHandle then (s.recOf o.handle).map fun _ => o.handle else s.findRec k) with
    | none => s.answerFw o (if !o.byHandle && s.poisoned k then stPoison else stNotFound) 0 0 []
    | some h =>
        let r := (s.recOf h).getD {}
        if o.req.room < 34 ∧ (!r.quarantined || (o.delete && o.byHandle)) then s.answerFw o stNoSpace 0 0 []
        else if r.presence = 0 then s.endFw o h 0
        else s.lockFor (if delete then 0 else 1) h (if delete then .delete e tag else .read e tag)

def execRead (e : Fin 128) (tag : Fin 16) (ecc : Option (Fin 268435456)) (fixed : Nat) (slots : BitVec 8) (s : State) : Res :=
  .next ((s.sees slots).startFw e.val tag.val false ecc fixed)
def execDelete (e : Fin 128) (tag : Fin 16) (ecc : Option (Fin 268435456)) (fixed : Nat) (slots : BitVec 8) (s : State) : Res :=
  .next ((s.sees slots).startFw e.val tag.val true ecc fixed)

/-! ## Coherence at the home (09 R328, R329, R332) -/

/-- Expired at the engine's current time (09 R331, R467). -/
def State.expired (s : State) (r : Rec) : Bool := decide (s.timeout r.cls * 10 ^ 9 ≤ s.now - r.last)

/-- What follows once no ACK of a record is outstanding. -/
def State.unlock (h : Nat) (s : State) : State :=
  match tabFind s.flo.locked h with
  | none => s
  | some k =>
    if k.left ≠ 0 then s
    else
      let t := s.onFlo fun f => { f with locked := tabDel h f.locked }
      let healthy := match t.recOf h with | some r => !r.quarantined | none => false
      match k.why with
      | .write => t
      | .read e tag | .delete e tag =>
        (match t.flo.fwOps.find? fun o => o.engine == e && o.tag == tag with
         | some o => t.endFw o h k.all
         | none => t)
      | .sweep =>
        (match t.recOf h with
         | some r => if healthy && t.expired r then t.evictSoon h 0 else t
         | none => t)
      | .evict reason => if healthy then t.evict h reason else t

/-- Applies a ridge's deltas to the record; those of a quarantined one are discarded (09 R328, R340). -/
def State.applyCoh (m : Coh) (clear : Bool) (s : State) : State :=
  match s.recOf m.handle with
  | none => s
  | some r =>
    if r.quarantined then s.onIf (!m.empty) fun a => a.bump 8 (engineOf m.handle) 19 1
    else
      let q := r.absorb m
      s.setRec m.handle (if clear then q.clearRidge m.ridge else q)

/-- ACK (09 R328, R329): the ridge's bit is cleared when it holds no entry any more. -/
def execAck (r : Fin 8) (h : Fin 268435456) (slots : BitVec 8) (s0 : State) : Res :=
  let s := s0.sees slots
  .next (match s.takeHome 2 r.val h.val with
  | none => s
  | some (m, t) =>
    let keeps := match tabFind t.flo.locked h.val with
      | some k => (match k.why with | .read _ _ | .sweep => !m.empty | _ => false)
      | none => !m.empty
    let u := (t.applyCoh m (!keeps)).onFlo fun f => { f with
      locked := f.locked.map fun e =>
        (e.1, if e.1 = h.val then { e.2 with left := e.2.left &&& ~~~ BitVec.ofNat 8 (2 ^ r.val) } else e.2) }
    u.unlock h.val)

/-- The write-back of an entry 1 ms after its first delta: its FLUSH leaves the ridge. What it has absorbed may come to no packets and no
bytes, with a later timestamp (09 R326). -/
def State.writeFlush (r h : Nat) (s : State) : State :=
  match (s.cacheOf r).find? fun x => x.handle == h && decide (x.dpkts ≠ 0 ∨ x.dbytes ≠ 0 ∨ x.latest ≠ 0) with
  | none => s
  | some x =>
    (((s.setCache r ((s.cacheOf r).map fun y => if y.handle = h then y.zeroed else y)).pushCoh (x.deltas 4 r)).bump 10 r 3 1).pmuEvent
      (64 + r) 0x06 1 { addr := some h }

/-- FLUSH: the message that left at 65,536 packets, or the write-back 1 ms after the first delta, reaches the home in its turn
(09 R326, R330). -/
def execFlush (r : Fin 8) (h : Fin 268435456) (slots : BitVec 8) (s0 : State) : Res :=
  let s1 := s0.sees slots
  let s := s1.onIf (!(s1.flo.coh.any fun m => m.ridge == r.val && m.handle == h.val && decide (2 ≤ m.kind))) fun a => a.writeFlush r.val h.val
  .next (match s.takeHome 4 r.val h.val with
  | some (m, t) => t.applyCoh m false
  | none => s)

/-- RELEASE: the home applies the deltas and clears the ridge's bit (09 R328). -/
def execRelease (r : Fin 8) (h : Fin 268435456) (slots : BitVec 8) (s0 : State) : Res :=
  let s := s0.sees slots
  .next (match s.takeHome 3 r.val h.val with
  | some (m, t) => t.applyCoh m true
  | none => s)

/-! ## Operations at the home (09 R311, R318, R324, R329, R341; 10 R358, R359) -/

/-- The lowest free context of those for operations (10 R355). -/
def State.freeContext (s : State) (e : Nat) : Nat :=
  ((List.range 12).find? fun k => (tabFind s.prg.ctx (ctxKey e k)).isNone).getD 0

/-- The end of a run on a record: a closed record is evicted; a write to a leased word invalidates the ridges. -/
def State.endRecord (x : Run) (h : Nat) (s : State) : State :=
  match s.recOf h with
  | none => s
  | some r =>
    if r.quarantined then s
    else if r.state = 0xE then s.evictSoon h 1
    else if r.presence ≠ 0 ∧ r.leaseMask &&& x.wrote ≠ 0 then s.lockFor 0 h .write
    else s

/-- A failed companion: the port is released, the record closes and the OVERFLOW action replaces the result (10 R375). -/
def State.failCompanion (e : Nat) (x : Run) (h : Nat) (s : State) : Run × State :=
  let c := x.cfg s
  let ws := ((s.recOf h).getD {}).w
  let t := (s.natRelease e (progNatWord c x.program) ws).onRec h fun r => { r with state := 0xE }
  ({ x with y := overflowY c (msgProgram x.msg) }, t.bump 12 e 9 1)

/-- Sends an operation's result to its cell. -/
def State.sendResult (c tag status grant lease handle : Nat) (y : List Word) (ran : Option Ran) (s : State) : State :=
  s.onOp c tag fun o => some { o with
    place := .done, ran := ran, result := resultWords o.tag c status grant lease 0 handle y }

/-- What a run leaves for a sample. -/
def Run.ran (x : Run) : Ran := { program := x.program, last := x.last, stalls := x.stalls }

/-- Whether the home grants a cache entry to the operation's ridge (09 R324). -/
def grants (c : Cfg) (x : Run) : Bool :=
  x.inStatus == 0 && inRange (progCache c x.program) 1 2 &&
  (match x.lastBefore with | some l => decide (msgTime x.msg ≤ l + 10000) | none => false)

/-- The end of a run that holds for no companion: the grant, the result, and the record's end. -/
def State.endOperate (c tag : Nat) (x : Run) (h : Nat) (s : State) : State :=
  let cfg := x.cfg s
  let r := ridgeOf c
  let rec1 := (s.recOf h).getD {}
  let yes := grants cfg x && rec1.state != 0xE && !rec1.quarantined
  let lease := decide (progCache cfg x.program = 2)
  let t :=
    if yes then
      let k := x.fkey
      let entry : CacheEntry :=
        { handle := h, zone := k.zone, keyType := k.keyType, keyLen := k.keyLen, key := k.bytes, epoch := msgEpoch x.msg
          program := msgProgram x.msg, y := x.y, lease := lease }
      let u := s.onRec h fun q => { q with
        presence := q.presence ||| BitVec.ofNat 8 (2 ^ r)
        leaseMask := if lease then q.leaseMask ||| progLeaseMask cfg x.program else q.leaseMask }
      ((u.grantEntry r entry).bump 10 r 1 1).pmuEvent (64 + r) 0x04 1 { addr := some h }
    else s
  (t.sendResult c tag x.inStatus (b2n yes) (b2n (yes && lease)) h x.y (some x.ran)).endRecord x h

/-- The program of an operation has run on context k: the operation ends, or holds its context for a companion, or keeps it at a ninth
COMP (10 R373 to R375). -/
def State.settleRun (c tag e k : Nat) (p : Exec) : State :=
  let y := p.1
  match y.handle with
  | none => p.2.sendResult c tag 2 0 0 0 y.y (some y.ran)
  | some h =>
    if y.compSent ∨ y.stall then
      (p.2.onPrg fun g => { g with ctx := tabIns (ctxKey e k) { y with holds := some (c, tag) } g.ctx }).onOp c tag fun o =>
        some { o with place := .held }
    else if y.compFailed then
      let f := p.2.failCompanion e y h
      f.2.endOperate c tag f.1 h
    else p.2.endOperate c tag y h

/-- Runs an operation's program on its record or without one. -/
def State.runOperate (c tag e : Nat) (x : Run) (s : State) : State :=
  let k := s.freeContext e
  State.settleRun c tag e k (runProgram (x.cfg s) e k x s)

/-- An engine with fewer than eight contexts held goes on with a stalled one, the lowest (10 R374; log entry 146). -/
def State.resumeStalled (e : Nat) (s : State) : State :=
  match (List.range 12).find? fun k => match tabFind s.prg.ctx (ctxKey e k) with | some x => x.stall && x.holds.isSome | none => false with
  | some k =>
    let x := tabGet {} s.prg.ctx (ctxKey e k)
    let ct := x.holds.getD (0, 0)
    if 8 ≤ s.heldContexts e then s
    else State.settleRun ct.1 ct.2 e k (runFrom (x.cfg s) e k 12
      ({ x with stall := false, holds := none }, s.onPrg fun g => { g with ctx := tabDel (ctxKey e k) g.ctx }))
  | none => s

/-- A new record of a request (09 R318). -/
def newRec (k : FKey) (m : List Word) (companion : Bool) : Rec :=
  { zone := k.zone, keyType := k.keyType, keyLen := k.keyLen, key := k.bytes, program := msgProgram m, companion := companion
    last := msgTime m, first := msgTime m, packets := if companion then 0 else 1, bytes := if companion then 0 else msgLength m }

/-- An OPERATE that finds no context waits for one in arrival order (10 R356). -/
def State.queueOp (c tag : Nat) (s : State) : State :=
  (s.onOp c tag fun o => some { o with queued := s.flo.seq + 1 }).onFlo fun f => { f with seq := f.seq + 1 }

/-- OPERATE (09 R311, R317 to R319, R339, R341; 10 R355, R356, R358, R361). `fixed` is the number of its bursts whose errors the stack corrected. -/
def execOperate (c : Fin 64) (tag : Fin 256) (ecc : Option (Fin 268435456)) (fixed : Nat) (s0 : State) : Res :=
  .next (match s0.flo.ops.find? fun o => o.cell == c.val && o.tag == tag.val && decide (o.place = .home) with
  | none => s0
  | some o =>
    let k := msgKey o.msg o.keyLen
    let e := o.engine
    if s0.behind o.ord e k || !s0.routeClear (ridgeOf c.val) e o.ord || s0.keyBusy k then s0
    else if !s0.contextOpen e o.queued then (if o.queued = 0 then s0.queueOp c.val tag.val else s0)
    else
      let found := (s0.findEcc k ecc).bump 8 e 13 fixed
      let s := found.pmuEvent (72 + e) 0x01 1 { priv := some o.priv, master := some c.val, cls := some 0, addr := some (found.keyHandle k) }
      let answer (st : Nat) (y : List Word) (t : State) : State := t.sendResult c.val tag.val st 0 0 0 y none
      let prog := msgProgram o.msg
      match s.epochCfg (msgEpoch o.msg) with
      | none => (answer 8 [] s).bump 8 e 18 1
      | some cfg =>
        if !s.flo.formatted then answer 7 [] s
        else
          let run0 : Run := { msg := o.msg, keyLen := o.keyLen, program := prog, priv := o.priv }
          match s.findRec k with
          | some h =>
              let r := (s.recOf h).getD {}
              let t := (s.setRec h { r with
                packets := (r.packets + 1) % 2 ^ 64, bytes := (r.bytes + msgLength o.msg) % 2 ^ 64
                last := max r.last (msgTime o.msg) }).bump 8 e 0 1
              t.runOperate c.val tag.val e { run0 with handle := some h, lastBefore := some r.last, program := r.program }
          | none =>
            if s.poisoned k then (answer 6 [] s).bump 8 e 6 1
            else if progCreate cfg prog then
              match s.createRec e (newRec k o.msg false) with
              | (.ok h, t) => t.runOperate c.val tag.val e { run0 with handle := some h, inStatus := 1 }
              | (.error st, t) => answer st (overflowY cfg prog) t
            else (s.bump 8 e 2 1).runOperate c.val tag.val e { run0 with inStatus := 2 })

/-- A VOID at its home that can run: its turn has come, its record is free and so is a context (09 R311, R319; 10 R355). -/
def State.voidReady (s : State) (v : VoidMsg) : Bool :=
  let k := msgKey v.msg v.keyLen
  let e := s.voidHome v
  v.passed && !s.behind v.ord e k && s.routeClear (ridgeOf v.cell) e v.ord && !s.keyBusy k && s.contextOpen e 0

/-- VOID at the home: the cell's oldest that can run (09 R311, R319, R338 to R340). -/
def execVoid (c : Fin 64) (ecc : Option (Fin 268435456)) (fixed : Nat) (s0 : State) : Res :=
  .next (match takeFirst (fun v => v.cell == c.val && s0.voidReady v) s0.flo.voids with
  | none => s0
  | some (v, rest) =>
    let k := msgKey v.msg v.keyLen
    let e := s0.voidHome v
    let found := ((s0.onFlo fun f => { f with voids := rest }).findEcc k ecc).bump 8 e 13 fixed
    let s := found.pmuEvent (72 + e) 0x01 1 { priv := some v.priv, master := some c.val, cls := some 1, addr := some (found.keyHandle k) }
    match s.findRec k with
    | none => s.bump 8 e 12 1
    | some h =>
      (s.onRec h fun r => { r with
        packets := unsigned64 ((r.packets : Int) - 1), bytes := unsigned64 ((r.bytes : Int) - msgLength v.msg)
        voided := true }).bump 8 e 11 1)

/-! ## Companions (10 R374 to R376) -/

/-- The companion's result goes back to the context that waits for it. -/
def State.compAnswer (m : CompMsg) (status h : Nat) (s : State) : State :=
  s.onPrg fun g => { g with
    comps := g.comps.filter fun x => !(x.engine == m.engine && x.context == m.context)
    ctx := tabMod {} (ctxKey m.engine m.context) (fun x => { x with compResult := some (status, h) }) g.ctx }

/-- Runs COMP_PROGRAM and ends it; a companion's run holds no context. -/
def State.runCompanion (m : CompMsg) (x : Run) (s : State) : State :=
  let p := runProgram (x.cfg s) m.home 12 { x with companionRun := true } s
  let t := p.2.compAnswer m p.1.inStatus (p.1.handle.getD 0)
  match p.1.handle with
  | some h => t.endRecord p.1 h
  | none => t

def execCompanion (e : Fin 128) (k : Fin 16) (ecc : Option (Fin 268435456)) (fixed : Nat) (s0 : State) : Res :=
  .next (match s0.prg.comps.find? fun m => m.engine == e.val && m.context == k.val with
  | none => s0
  | some m =>
    let key := msgKey m.msg m.keyLen
    let found := (s0.findEcc key ecc).bump 8 m.home 13 fixed
    let s := found.pmuEvent (72 + m.home) 0x01 1
      { priv := some m.priv, master := some (0x80 + m.engine), cls := some 2, addr := some (found.keyHandle key) }
    let prog := msgProgram m.msg
    if s0.behind m.ord m.home key || s0.keyBusy key then s0
    else match s.epochCfg (msgEpoch m.msg) with
    | none => (s.compAnswer m 8 0).bump 8 m.home 18 1
    | some cfg =>
      let run0 : Run := { msg := m.msg, keyLen := m.keyLen, program := prog, priv := m.priv }
      match s.findRec key with
      | some h =>
          let r := (s.recOf h).getD {}
          (s.bump 8 m.home 0 1).runCompanion m { run0 with handle := some h, lastBefore := some r.last }
      | none =>
        if s.poisoned key then (s.compAnswer m 6 0).bump 8 m.home 6 1
        else if progCreate cfg prog then
          match s.createRec m.home (newRec key m.msg true) with
          | (.ok h, t) => t.runCompanion m { run0 with handle := some h, inStatus := 1 }
          | (.error st, t) => t.compAnswer m st 0
        else (s.bump 8 m.home 2 1).runCompanion m { run0 with inStatus := 2 })

/-- COMPANION_RESULT (10 R375): the operation ends, and the context that it releases lets a stalled one go on (10 R374). -/
def execCompanionResult (e : Fin 128) (k : Fin 16) (s : State) : Res :=
  .next (match tabFind s.prg.ctx (ctxKey e.val k.val) with
  | none => s
  | some x => State.resumeStalled e.val (match x.compResult, x.holds, x.handle with
    | some (st, h2), some (c, tag), some h =>
      let t := s.onPrg fun g => { g with ctx := tabDel (ctxKey e.val k.val) g.ctx }
      let healthy := match t.recOf h with | some r => !r.quarantined | none => false
      if st ≤ 1 then
        let n := progHandleWord (x.cfg t) x.program
        let p : Exec := if n < 10 && healthy then writeOp n (wd h2) (x, t) else (x, t)
        p.2.endOperate c tag p.1 h
      else if healthy then
        let f := t.failCompanion e.val x h
        f.2.endOperate c tag f.1 h
      else ((t.bump 12 e.val 9 1).sendResult c tag x.inStatus 0 0 h (overflowY (x.cfg t) (msgProgram x.msg)) (some x.ran))
    | _, _, _ => s))

/-! ## Aging, scrub, export (09 R331 to R337, R339) -/

/-- The sweeper's visit of a slot (09 R331, R332, R339, R340). -/
def State.visit (h : Nat) (ecc : EccSeen) (s : State) : State :=
  let e := engineOf h
  let t := s.onIf (decide (ecc = .corrected)) fun a => a.bump 8 e 13 1
  match t.recOf h with
  | none => t
  | some r =>
    if r.quarantined then t
    else if ecc = .uncorrectable then t.quarantine 4 (0x80 + e) h
    else if t.expired r then (if r.presence = 0 then t.evict h 0 else t.lockFor 1 h .sweep)
    else t

/-- The records of an engine that its sweeper passes from its place to a slot, in slot order (09 R331). -/
def State.sweepWay (s : State) (h : Nat) : List Nat :=
  let e := engineOf h
  let at_ := tabGet 0 s.flo.sweep e
  let l := (s.flo.recs.filter fun x => engineOf x.1 == e).map fun x => x.1
  let n (x : Nat) : Nat := x % 2 ^ 21
  if at_ ≤ n h then l.filter fun x => decide (at_ ≤ n x ∧ n x < n h)
  else (l.filter fun x => decide (at_ ≤ n x)) ++ l.filter fun x => decide (n x < n h)

/-- The slots that the sweeper reads on that way are counted, the empty ones with the others (17 R567). -/
def State.sweepReads (h : Nat) (s : State) : State :=
  let e := engineOf h
  let at_ := e * 2 ^ 21 + tabGet 0 s.flo.sweep e
  if at_ ≤ h then s.pmuSpan (72 + e) 0x08 at_ h
  else (s.pmuSpan (72 + e) 0x08 at_ (e * 2 ^ 21 + 2 ^ 21 - 1)).pmuSpan (72 + e) 0x08 (e * 2 ^ 21) h

/-- SWEEP_VISIT: the sweeper comes to a slot, by way of those before it (09 R331 to R333, R339, R340). -/
def execSweepVisit (h : Fin 268435456) (ecc : EccSeen) (s : State) : Res :=
  .next (if s.enginesRun ∧ s.flo.formatted ∧ !s.recBusy h.val then
    let t := (s.sweepWay h.val).foldl (fun a x => if a.recBusy x then a else a.visit x .clean) (s.sweepReads h.val)
    (t.visit h.val ecc).onFlo fun f => { f with sweep := tabPut 0 (engineOf h.val) ((h.val % 2 ^ 21 + 1) % 2 ^ 21) f.sweep }
  else s)

/-- The event of an uncorrectable burst outside the flow store: which of the stack's channels it lies on is not fixed (16 R538, R548; log
entry 37). -/
def State.dramEvent (stack burst : Nat) (s : State) : State :=
  let d := s.drawNat
  d.2.raise { src := 1096 + 4 * stack + d.1 % 4, reason := 2, cls := 1, access := 4, master := scrubberId,
              addr := tableWord 15 (stack * 2 ^ 38 + burst % 2 ^ 38) }

/-- A burst of a stack under an uncorrectable error, by what lies in it (09 R340; 16 R551). -/
def State.loseBurst (stack burst : Nat) (what : Burst) (s : State) : State :=
  match what with
  | .record h => if h.val / 2 ^ 26 = stack then s.quarantine 4 scrubberId h.val else s
  | .archive n =>
    (s.onFlo fun f => { f with
      archive := if (tabFind f.archive (stack * 2 ^ 32 + n)).isSome
        then tabIns (stack * 2 ^ 32 + n) (List.replicate 16 0xFFFFFFFF) f.archive else f.archive }).dramEvent stack burst
  | .buffer k off =>
    (s.onIf (off * 64 < poolBytes (k / 2 ^ 21)) fun a => a.bufferWrite k (off * 64) (List.replicate 64 0xFF)).dramEvent stack burst
  | .master fid mac => (s.onTbl fun t => { t with master := tabDel (l2Key fid.val mac) t.master }).dramEvent stack burst
  | .other => s.dramEvent stack burst

/-- DRAM_SCRUB (09 R339, R340; 16 R551): the stacks' channels run with their engines (01 R28). The operand says what lies in the burst, for
the manual gives no map of the DRAM (log entry 37). -/
def execDramScrub (stack : Fin 4) (burst : Fin (2 ^ 29)) (what : Burst) (err : EccSeen) (s : State) : Res :=
  .next (if !s.enginesRun then s else match err with
  | .clean => s
  | .corrected =>
    (match what with
     | .record h => s.bump 8 (engineOf h.val) 13 1
     | _ => let d := s.drawNat; d.2.bump 8 (32 * stack.val + d.1 % 32) 13 1)
  | .uncorrectable => s.loseBurst stack.val burst.val what)

/-- EXPORT_WRITE (09 R334, R336): the routing of KIND 1 counts as it is now (log entry 132). -/
def execExportWrite (e : Fin 128) (own : Bool) (s : State) : Res :=
  .next (match tabGet [] s.flo.evq e.val with
  | [] => s
  | x :: rest =>
    if !s.crn.fwRuns then s
    else
      let a (i : Nat) : Word := wordAt x.archive i
      let body := [wd ((a 0).toNat + b2n (decide (24 < fld (a 0) 29 24)) * 2 ^ 30), a 2, a 3, a 4, a 5, wd x.handle] ++
        (x.archive.drop 6).take 6
      let t := (s.onFlo fun f => { f with evq := tabPut [] e.val rest f.evq }).noteEvt (stackSource e.val)
      t.pushEvent 1 0 (stackSource e.val) x.time body own)

/-- Records that a stack's archive holds (09 R337). -/
def State.archiveCap (s : State) : Nat := s.flo.archiveGib * 4194304

/-- ARCHIVE_WRITE (09 R337). -/
def execArchiveWrite (e : Fin 128) (s : State) : Res :=
  .next (if !s.enginesRun then s else match tabGet [] s.flo.arq e.val with
  | [] => s
  | x :: rest =>
    let stack := e.val / 32
    let n := tabGet 0 s.flo.head stack
    s.onFlo fun f => { f with
      arq := tabPut [] e.val rest f.arq
      archive := if s.archiveCap = 0 then f.archive else tabIns (stack * 2 ^ 32 + n % s.archiveCap) x.archive f.archive
      head := if s.archiveCap = 0 then f.head else tabPut 0 stack (n + 1) f.head })

/-! ## Commands (09 R344 to R353) -/

/-- The module is in Run (09 R345). -/
def State.inRun (s : State) : Bool := s.modCode == 2

/-- A store command cannot run (09 R345). -/
def State.storeAway (s : State) : Bool := !s.inRun || s.flo.formatting || !s.flo.formatted

/-- FLOW_FORMAT_DONE: once no operation is in flight (09 R346; 10 R354). -/
def execFlowFormatDone (slots : BitVec 8) (s0 : State) : Res :=
  let s := s0.sees slots
  .next (if s.flo.formatting && s.flo.ops.all (fun o => decide (o.place = .done)) && s.flo.voids.isEmpty &&
      s.flo.fwOps.isEmpty && s.flo.coh.isEmpty && s.prg.comps.isEmpty && s.prg.ctx.isEmpty then
    let n := s.flo.formatId + 1
    let t := (s.onFlo fun f => { f with
      formatted := true, formatting := false, formatId := n, salt := f.next.1, archiveGib := f.next.2
      recs := [], locked := [], cache := [], archive := [], head := [] }).onPrg fun g => { g with nat := [], freed := [] }
    t.answerDeferred (fun k => decide (k = .format)) fun _ => [wd n]
  else s)

/-- What FLOW_TEMPLATE_SET changes of a configuration. -/
def setTemplate (q : Req) : Cfg → Cfg :=
  cfgSet 0x0602 (q.f 4 4 0) [q.w 4] [wd (q.f 4 4 0 + 0x19C0 * 2 ^ 5)]

/-- FLOW_TEMPLATE_SET (09 R309, R347). -/
def execFlowTemplateSet (r : Req) (s : State) : Res :=
  mailbox 0x0602 r s
    (fun q => { bad := q.rsv [(4, 31, 18)] || q.f 4 17 5 == 0 || decide (40 < templateLen (q.f 4 17 5) 2), ext := some 1 })
    fun q => { st := s.stageBy 0x0602 q (setTemplate q) }

/-- The words of a zone at its cold-start settings. -/
def coldZoneWords (z : Nat) (d : Nat × Nat × Nat × Nat) : List Word := [wd (z + d.2.2.2 * 2 ^ 12), wd d.1, wd d.2.1, wd d.2.2.1]

/-- What FLOW_ZONE_SET changes of a configuration. -/
def setZone (g : Stg) (q : Req) : Cfg → Cfg :=
  cfgSet 0x0603 (q.f 4 11 0) [q.w 4, q.w 5, q.w 6, q.w 7] (coldZoneWords (q.f 4 11 0) g.coldZone)

/-- FLOW_ZONE_SET (09 R315, R348). -/
def execFlowZoneSet (r : Req) (s : State) : Res :=
  mailbox 0x0603 r s
    (fun q =>
      { bad := q.rsv [(4, 31, 14), (5, 31, 29), (7, 31, 24)] || decide (268435456 < q.f 5 28 0) ||
          decide (1280000000 < (q.w 6).toNat) || decide (q.f 7 23 0 < 128) || (s.flo.archiveGib == 0 && decide (2 ≤ q.f 4 13 12))
        ext := some 4 })
    fun q =>
      let p := s.img.policy
      if p.quotaMax < q.f 5 28 0 ∨ p.rateMax < (q.w 6).toNat ∨ p.burstMax < q.f 7 23 0 then { status := stRefused, st := s }
      else { st := s.stageBy 0x0603 q (setZone s.stg q) }

/-- What FLOW_AGE_SET changes of a configuration. -/
def setAging (g : Stg) (q : Req) : Cfg → Cfg :=
  cfgSet 0x0604 (q.f 4 3 0) [q.w 4, q.w 5] [wd (q.f 4 3 0), wd (g.coldAging.getD (q.f 4 3 0) 300)]

/-- FLOW_AGE_SET (09 R349). -/
def execFlowAgeSet (r : Req) (s : State) : Res :=
  mailbox 0x0604 r s
    (fun q => { bad := q.rsv [(4, 31, 4), (5, 31, 17)] || !inRange (q.f 5 16 0) 1 86400, ext := some 2 })
    fun q => { st := s.stageBy 0x0604 q (setAging s.stg q) }

/-- Key length of a KEY_TYPE under a configuration. -/
def typeLen (c : Cfg) (keyType : Nat) : Nat := templateLen (templateFields c (nfld keyType 4 0)) (nfld keyType 6 5)

/-- The READ or DELETE that a command asks firmware for. A seventeenth of an engine waits for a credit, with a number above the tags
(09 R316, R320, R350). -/
def fwOpOf (s : State) (q : Req) (delete : Bool) : FwOp :=
  let byH := q.f 4 0 0 == 1
  let m := [wd s.hif.epoch, wd ((if delete then 4 else 3) + q.f 5 11 0 * 2 ^ 11 + q.f 5 19 12 * 2 ^ 23)] ++
    (List.range 10).map (fun i => q.w (6 + i)) ++ [if byH then wd (q.f 5 27 0 + 2 ^ 31) else 0, 0, 0, 0]
  let len := typeLen s.stg.cur (q.f 5 19 12)
  let e := if byH then engineOf (q.f 5 27 0) else homeOf (s.hashKey (msgKey m len))
  let tag := ((List.range (17 + s.flo.fwOps.length)).find? fun t => !(s.flo.fwOps.any fun o => o.engine == e && o.tag == t)).getD 0
  { engine := e, tag := tag, delete := delete, byHandle := byH, handle := q.f 5 27 0, msg := putTag m tag, keyLen := len, req := q, ord := s.flo.seq + 1 }

/-- The checks of FLOW_READ and FLOW_DELETE (09 R350). -/
def fwChk (s : State) (q : Req) : Chk :=
  let byH := q.f 4 0 0 == 1
  let key := wordsToBytes ((List.range 10).map fun i => q.w (6 + i))
  let len := typeLen s.stg.cur (q.f 5 19 12)
  { bad := q.rsv [(4, 31, 1)] || (if byH then q.f 5 31 28 != 0 || key.any (fun b => b != 0)
      else q.f 5 31 20 != 0 || (key.drop len).any fun b => b != 0)
    size := some 12 }

/-- Hands a READ or DELETE to firmware. -/
def fwRun (s : State) (delete : Bool) (q : Req) : Ans :=
  if s.storeAway then { status := stRefused, st := s }
  else { hold := true, st := s.onFlo fun f => { f with fwOps := f.fwOps ++ [fwOpOf s q delete], seq := f.seq + 1 } }

/-- FLOW_READ (09 R350). -/
def execFlowRead (r : Req) (s : State) : Res := mailbox 0x0610 r s (fwChk s) (fwRun s false)

/-- FLOW_DELETE (09 R350). -/
def execFlowDelete (r : Req) (s : State) : Res := mailbox 0x0611 r s (fwChk s) (fwRun s true)

/-- Healthy records of a zone. -/
def State.zoneRecords (s : State) (z : Nat) : List Nat :=
  (s.flo.recs.filter fun e => e.2.zone == z && !e.2.quarantined).map fun e => e.1

/-- The engines delete each record of a zone that they can, as a DELETE does (09 R351). -/
def State.flushZone (z : Nat) (s : State) : State :=
  (s.zoneRecords z).foldl (fun a h => if a.recBusy h then a else a.evictSoon h 3) s

/-- FLOW_ZONE_FLUSH (09 R351). -/
def execFlowZoneFlush (r : Req) (s : State) : Res :=
  mailbox 0x0612 r s (fun q => { bad := q.rsv [(4, 31, 12)], ext := some 1 }) fun q =>
    let z := q.f 4 11 0
    if s.storeAway then { status := stRefused, st := s }
    else
      let t := (s.onFlo fun f => { f with flushing := if f.flushing.contains z then f.flushing else f.flushing ++ [z] }).flushZone z
      { wait := some (.zoneFlush z ((s.zoneRecords z).length - (t.zoneRecords z).length)), need := 1, st := t }

/-- ZONE_FLUSH_DONE (09 R351). -/
def execZoneFlushDone (zone : Fin 4096) (slots : BitVec 8) (s0 : State) : Res :=
  let s := s0.sees slots
  .next (if s.flo.flushing.contains zone.val then
    let t := s.flushZone zone.val
    if t.zoneRecords zone.val = [] then
      (t.onFlo fun f => { f with flushing := f.flushing.filter fun z => z != zone.val }).answerDeferred
        (fun k => match k with | .zoneFlush z _ => z == zone.val | _ => false)
        fun k => match k with | .zoneFlush _ n => [wd n] | _ => []
    else t
  else s)

/-- FLOW_ARCHIVE_READ (09 R337, R352). The number of the first record is free where no record is returned. -/
def execFlowArchiveRead (r : Req) (s : State) : Res :=
  mailbox 0x0620 r s (fun q => { bad := q.rsv [(4, 31, 15)] || decide (4096 < q.f 4 14 2), ext := some 3 }) fun q =>
    if s.storeAway then { status := stRefused, st := s }
    else if s.flo.archiveGib = 0 then { status := stNotFound, st := s }
    else
      let stack := q.f 4 1 0
      let head := tabGet 0 s.flo.head stack
      let first := max (q.f64 5) (head - s.archiveCap)
      let l := (List.range (q.f 4 14 2)).filterMap fun i =>
        let n := q.f64 5 + i
        if first ≤ n ∧ n < head then some (tabGet [] s.flo.archive (stack * 2 ^ 32 + n % s.archiveCap)) else none
      let d := State.drawWords 2 s
      { words := wd l.length :: (two head ++ (if l = [] then d.1 else two first) ++ l.flatten), st := d.2 }

/-- Items of FLOW_STATS_READ (09 R343). -/
def State.flowItem (s : State) (kind id j : Nat) : Nat :=
  match kind with
  | 0 => s.count 8 id j
  | 1 => s.count 9 id j
  | 2 => s.count 10 id j
  | 3 => if j = 0 then (s.zoneRecords id).length else s.count 11 id j
  | _ =>
    if j = 0 then (if s.flo.formatted then s.flo.formatId else 0)
    else if j = 1 then (s.flo.recs.filter fun e => !e.2.quarantined).length else s.flo.archiveGib

/-- FLOW_STATS_READ (09 R353). -/
def execFlowStatsRead (r : Req) (s : State) : Res :=
  mailbox 0x0630 r s
    (fun q =>
      let k := q.f 4 2 0
      { bad := q.rsv [(4, 31, 25)] || decide (4 < k) || decide ([128, 64, 8, 4096, 1].getD k 0 ≤ q.f 4 14 3) ||
          decide ([20, 5, 4, 4, 3].getD k 0 < q.f 4 19 15 + q.f 4 24 20)
        ext := some 1 })
    fun q =>
      { words := wd (q.f 4 24 20) :: (List.range (q.f 4 24 20)).flatMap fun j => two (s.flowItem (q.f 4 2 0) (q.f 4 14 3) (q.f 4 19 15 + j))
        st := s }

end Sys2Proof.Machine
end

