-- ==== Sys2Proof/Machine/Fabric.lean ====
section
/-!
DEFINITION. The Switchback fabric, benching, the Col path and the fabric commands (11).
-/

namespace Sys2Proof.Machine

open Sys2Proof

/-! ## First stage (11 R393, R396, R397) -/

/-- CHUNK_CLOSE: the timer of a partial chunk runs out (11 R396). -/
def execChunkClose (src : Fin 64) (dst : Fin 64) (cls : Fin 8) (s : State) : Res :=
  .next (if (tabFind s.fab.partials (ckeyOf src.val dst.val cls.val)).isSome then
    (s.closeChunk src.val dst.val cls.val).bump 14 src.val 3 1
  else s)

/-- The cell that plane p connects cell i to in slot t (11 R393). -/
def planeTo (i t p : Nat) : Nat := (i + t + 16 * p) % 64

def refuseKey (k dst cls : Nat) : Nat := k * 512 + dst * 8 + cls

/-- Whether intermediate k accepts a chunk: its newest accept map, and its own deliveries (11 R397, R398). -/
def State.accepts (s : State) (k : Nat) (c : Chunk) : Bool := !tabGet false s.fab.refuse (refuseKey k c.dst c.cls)

/-- Whether the accept map of an intermediate in duty refused the head of a cell's first-stage queue in a slot that did not send it
(17 R569). -/
def State.headRefused (before after : State) (c t : Nat) : Bool :=
  match tabGet [] before.fab.first c, tabGet [] after.fab.first c with
  | d :: _, e :: _ => decide (d = e) && (List.range 4).any fun p =>
      let k := planeTo c t p
      !(before.cell k).idle && decide ((before.cell k).st ≠ .off) && !before.accepts k d
  | _, _ => false

/-- FIRST_STAGE_SLOT: on each plane, in order, the oldest chunk that the connected intermediate accepts (11 R397, R410). -/
def execFirstStageSlot (c : Fin 64) (t : Fin 64) (s : State) : Res :=
  let mark (u : State) : State := u.onFab fun f => { f with
    refused := (f.refused &&& ~~~ BitVec.ofNat 64 (2 ^ c.val)) ||| BitVec.ofNat 64 (b2n (s.headRefused u c.val t.val) * 2 ^ c.val) }
  .next (if !s.cellRuns c.val then s
  else mark <| (List.range 4).foldl (fun a p =>
    let k := planeTo c.val t.val p
    if (a.cell k).idle ∨ (a.cell k).st = .off then a
    else
      match takeFirst (fun d => a.accepts k d) (tabGet [] a.fab.first c.val) with
      | none => a
      | some (d, rest) =>
        (((a.onFab fun f => { f with first := tabPut [] c.val rest f.first, wire := f.wire ++ [(k, d)] }).bufSub c.val regIngress 1).bump
          14 c.val 0 1).startWake k) s)

/-- ACCEPT_MAP_PUBLISH: a bit is clear when the queue's room has fallen below 64 chunks (11 R398). -/
def execAcceptMapPublish (c : Fin 64) (s : State) : Res :=
  let full (dst cls : Nat) : Bool :=
    decide (1 + 2 ^ intCode (s.cellCfg c.val) c.val cls * s.poolRoom c.val / 16 < 64 + s.bufUse c.val (regMid dst cls))
  .next (s.onFab fun f => { f with
    refuse := (List.range 512).foldl (fun t i =>
      tabPut false (c.val * 512 + i) (full (i / 8) (i % 8)) t) f.refuse })

/-! ## Second stage (11 R399) -/

/-- The bench measurement of one connection of a slot: whether the cell held a chunk for it, and sent one. A cell out of duty is not
measured (11 R408). -/
def State.measure (c : Nat) (sent : Bool) (s : State) : State :=
  s.onIf (!(s.cell c).idle) fun a => a.onCell c fun x => { x with svcHeld := x.svcHeld + 1, svcSent := x.svcSent + b2n sent }

/-- SECOND_STAGE_SLOT: on each plane, the oldest chunk held for the connected destination. A chunk for a cell in Slumber
waits, and a cell that serves slowly fails to send on the planes of `slow` (11 R399, R408; 03 R92). -/
def execSecondStageSlot (c : Fin 64) (t : Fin 64) (slow : BitVec 4) (s : State) : Res :=
  .next (if !s.cellRuns c.val then s
  else (List.range 4).foldl (fun a p =>
    let j := planeTo c.val t.val p
    match takeFirst (fun d => d.dst == j) (tabGet [] a.fab.mid c.val) with
    | none => a
    | some (d, rest) =>
      let waits : Bool := slow.getLsbD p || (match (a.cell j).st with | .slumber => true | .waking true => true | .off => true | _ => false)
      if waits then a.measure c.val false
      else
        ((((a.measure c.val true).onFab fun f => { f with mid := tabPut [] c.val rest f.mid, wire := f.wire ++ [(j, d)] }).bufSub
          c.val (regMid d.dst d.cls) 1).bump 14 c.val 1 1).startWake j) s)

/-! ## Release at the destination (11 R400, R405, R420) -/

/-- A chunk is released in order; the egress side keeps it while a frame with bytes in it is there (11 R417). -/
def State.landChunk (c : Chunk) (s : State) : State :=
  ((c.pieces.foldl (fun a p => a.landPiece c.dst p) s).onFab fun f => { f with landed := f.landed ++ [c] }).freeChunks

/-- The copies whose bytes are in a lost chunk end (11 R405). -/
def State.losePieces (cell : Nat) (l : List Piece) (s : State) : State :=
  l.foldl (fun a p =>
    let ports := maskPorts cell p.mask
    let t := a.badTail p.fid ports
    if p.first then (t.onFrame p.fid fun x => { x with left := x.left - ports.length }).settle p.fid else t) s

/-- The distance from one SEQ to another. -/
def seqFrom (a b : Nat) : Nat := (b + 65536 - a) % 65536

def pairKey (dst src : Nat) : Nat := dst * 64 + src
def State.pairOf (s : State) (dst src : Nat) : Pair := tabGet {} s.fab.pairs (pairKey dst src)
def State.onPairOf (dst src : Nat) (f : Pair → Pair) (s : State) : State :=
  s.onFab fun x => { x with pairs := tabMod {} (pairKey dst src) f x.pairs }

/-- Releases held chunks while the expected one is among them. -/
def releaseRun : Nat → Nat → Nat → State → State
  | 0, _, _, s => s
  | n + 1, dst, src, s =>
    let p := s.pairOf dst src
    match takeFirst (fun c => c.seq == p.expect) p.held with
    | none => s.onPairOf dst src fun q => { q with since := if q.held = [] then 0 else s.now }
    | some (c, rest) =>
      releaseRun n dst src (((s.onPairOf dst src fun q => { q with expect := (q.expect + 1) % 65536, held := rest }).bufSub
        dst regReseq 1).landChunk c)

/-- Takes the pieces of a missing chunk wherever it still is, so that a late arrival carries nothing. -/
def State.takeMissing (src dst seq pgen : Nat) (s : State) : List Piece × State :=
  let hit (c : Chunk) : Bool := c.src == src && c.dst == dst && c.seq == seq && c.pgen == pgen
  let f := s.fab
  let everywhere := f.gone ++ f.first.flatMap (fun e => e.2) ++ f.mid.flatMap (fun e => e.2) ++ f.wire.map fun e => e.2
  let strip (c : Chunk) : Chunk := if hit c then { c with pieces := [] } else c
  ((everywhere.filter hit).flatMap fun c => c.pieces,
    s.onFab fun f => { f with
      gone := f.gone.filter fun c => !hit c
      first := f.first.map fun e => (e.1, e.2.map strip)
      mid := f.mid.map fun e => (e.1, e.2.map strip)
      wire := f.wire.map fun e => (e.1, strip e.2) })

/-- The distance to the first held SEQ of a pair. -/
def Pair.gap (p : Pair) : Nat := (p.held.map fun c => seqFrom p.expect c.seq).foldl min 65535

/-- Declares the expected chunk of a pair lost and advances to the next SEQ held (11 R401). -/
def State.declareLost (dst src : Nat) (s : State) : State :=
  let p := s.pairOf dst src
  if p.held = [] then s
  else
    let m := (List.range p.gap).foldl (fun (a : List Piece × State) i =>
      let r := a.2.takeMissing src dst ((p.expect + i) % 65536) p.pgen
      (a.1 ++ r.1, r.2)) ([], s)
    let n := (m.1.map fun x => x.fid).dedup.length
    let t := (((m.2.losePieces dst m.1).bump 14 dst 5 1).bump 14 dst 8 n).raise
      { src := 1024 + dst, reason := 4, cls := 1, detail := src + p.expect * 2 ^ 16 }
    releaseRun (p.held.length + 1) dst src
      (t.onPairOf dst src fun q => { q with expect := (p.expect + p.gap) % 65536 })

/-- RESEQ_LOST (11 R401). -/
def execReseqLost (d : Fin 64) (src : Fin 64) (s : State) : Res := .next (s.declareLost d.val src.val)

/-- Declares the oldest missing SEQ lost at once while early chunks fill the reserve and its allowance (11 R403). -/
def forceRoom : Nat → Nat → State → State
  | 0, _, s => s
  | n + 1, dst, s =>
    if s.hasRoom dst regReseq 1 then s
    else
      let waiting := (List.range 64).filter fun src => (s.pairOf dst src).held ≠ []
      match waiting with
      | [] => s
      | a :: l =>
        let old := l.foldl (fun b x => if (s.pairOf dst x).since < (s.pairOf dst b).since then x else b) a
        forceRoom n dst ((s.declareLost dst old).bump 14 dst 7 1)

/-- A chunk is released, held as early, or discarded as stale or late (11 R400). -/
def State.judgeChunk (c : Chunk) (s : State) : State :=
  let p := s.pairOf c.dst c.src
  if c.pgen ≠ p.pgen ∨ 32768 ≤ seqFrom p.expect c.seq then (s.losePieces c.dst c.pieces).bump 14 c.dst 6 1
  else if c.seq = p.expect then
    releaseRun (p.held.length + 1) c.dst c.src
      ((s.onPairOf c.dst c.src fun q => { q with expect := (q.expect + 1) % 65536 }).landChunk c)
  else
    (s.onPairOf c.dst c.src fun x => { x with
      held := x.held ++ [c], since := if p.held = [] then s.now else x.since }).bufAdd c.dst regReseq 1

/-- An arriving chunk at its destination. Losses are forced before it is judged where other regions have left an early chunk no room, and
after it where it is the one that fills the reserve and its allowance (11 R400, R403). -/
def State.resequence (c : Chunk) (s : State) : State :=
  let p := s.pairOf c.dst c.src
  let early : Bool := c.pgen == p.pgen && c.seq != p.expect && decide (seqFrom p.expect c.seq < 32768)
  if early then forceRoom 64 c.dst ((forceRoom 64 c.dst s).judgeChunk c) else s.judgeChunk c

/-- CHUNK_ARRIVAL: the oldest chunk on its way to the cell, at an intermediate or at its destination (11 R399, R400). -/
def execChunkArrival (c : Fin 64) (crcOk : Bool) (s : State) : Res :=
  .next (if !s.cellRuns c.val && !(s.cell c.val).resetting then s
  else match takeFirst (fun e => e.1 == c.val) s.fab.wire with
  | none => s
  | some ((_, d), rest) =>
    let t := s.onFab fun f => { f with wire := rest }
    if (s.cell c.val).resetting then
      if d.dst = c.val then t.losePieces d.dst d.pieces else t.onFab fun f => { f with gone := f.gone ++ [d] }
    else if !crcOk then
      ((t.onFab fun f => { f with gone := f.gone ++ [d] }).bump 14 c.val 4 1).raise { src := 1024 + c.val, reason := 3, cls := 1 }
    else if d.dst = c.val then (t.bump 14 c.val 2 1).resequence d
    else (t.onFab fun f => { f with mid := tabMod [] c.val (fun l => l ++ [d]) f.mid }).bufAdd c.val (regMid d.dst d.cls) 1)

/-! ## Benching (11 R408 to R411) -/

/-- Benches a cell from the next rotation boundary; false when it is refused (11 R409; 01 R30). -/
def State.bench (c : Nat) (s : State) : Bool × State :=
  let place := if (s.cell c).out then some s else s.dutyPlace
  match place with
  | none => (false, s)
  | some t =>
    (true, ((t.onCell c fun x => { x with benchSoon := true, unbenchSoon := false, lowWindows := 0 }).bump 14 c 19 1).raise
      { src := 1024 + c, reason := 5, cls := 1, detail := (s.cell c).sr, live := true })

/-- BENCH_WINDOW: a measurement window of a cell ends and is judged; the next one starts. A window with fewer than 256 slots, or in which
the cell returned to duty, is not judged (11 R408, R409, R411). -/
def execBenchWindow (c : Fin 64) (s0 : State) : Res :=
  let x := s0.cell c.val
  let s := s0.onCell c.val fun y => { y with svcHeld := 0, svcSent := 0, svcSkip := y.svcSkip && y.idle }
  .next (if x.idle ∨ x.st = .off ∨ x.svcSkip ∨ x.svcHeld < 256 then s
  else
    let t := s.onCell c.val fun y => { y with sr := 100 * x.svcSent / x.svcHeld }
    if 100 * x.svcSent < s.img.policy.benchPct * x.svcHeld then
      if x.lowWindows = 0 then t.onCell c.val fun y => { y with lowWindows := 1 }
      else if x.benchSoon then t
      else
        let b := t.bench c.val
        if b.1 then b.2 else t.raise { src := 1024 + c.val, reason := 6, cls := 2, live := true }
    else (t.onCell c.val fun y => { y with lowWindows := 0 }).endLive (1024 + c.val) 6)

/-- BENCH_START: the cell leaves the first stage at the rotation boundary, as one that a fatal event has isolated does (11 R409, R410; 16
R549). -/
def execBenchStart (c : Fin 64) (s : State) : Res :=
  .next (if (s.cell c.val).benchSoon ∨ (s.cell c.val).isoSoon then
    s.onCell c.val fun x => { x with benchSoon := false, benched := x.benched || x.benchSoon, isoSoon := false }
  else s)

/-- DUTY_REJOIN: at a rotation boundary a cell that woke, or that left the bench, takes duty again (03 R91; 11 R411). -/
def execDutyRejoin (c : Fin 64) (s : State) : Res :=
  let x := s.cell c.val
  let t := if x.rejoin ∧ x.st = .run then s.onCell c.val fun y => { y with rejoin := false } else s
  .next (if x.unbenchSoon then
    (t.onCell c.val fun y => { y with unbenchSoon := false, benched := false, lowWindows := 0, svcSkip := true }).endLive (1024 + c.val) 5
  else t)

/-! ## Col path (11 R413 to R415) -/

/-- The frame is forwarded as Switchback with its traffic class. -/
def State.demote (fid : Nat) (s : State) : State :=
  let t := (s.onFrame fid fun x => { x with path := .fabric }).packFrame fid
  t.onIf (t.frame fid).ended fun a => a.ledger fid true

/-- The frame goes no further. -/
def State.dropFrame (fid status : Nat) (s : State) : State :=
  (s.onFrame fid fun x => { x with
    path := .direct, left := 0, plan := { x.plan with copies := [] }
    hostStatus := if x.hostStatus = 0 then status else x.hostStatus }).settle fid

/-- Col injection channels in use at a cell: those of frames whose tail is still arriving, and those that a frame which was whole at its
injection needs for its bytes, at 25 Gb/s each (11 R413; log entry 115). -/
def State.channelsUsed (s : State) (c : Nat) : Nat :=
  ((s.frm.frames.filter fun e => cellOf e.2.port == c).map fun e => e.2.chans).sum +
  (((s.cell c).channels.filter fun e => decide (s.tim.up < e.2)).map fun e => e.1).sum

/-- A frame takes n injection channels from its head to its tail (11 R413). -/
def State.takeChannels (fid n : Nat) (s : State) : State :=
  let x := s.frame fid
  if x.ended then s.onCell (cellOf x.port) fun c => { c with
    channels := (c.channels.filter fun e => decide (s.tim.up < e.2)) ++ [(n, s.tim.up + x.data.length * 8 * nsUnit / (25 * n))] }
  else s.onFrame fid fun y => { y with chans := n }

/-- A Col frame takes its injection channels, or leaves the Col path (11 R413, R414). -/
def State.injectCol (fid p : Nat) (s : State) : State :=
  let x := s.frame fid
  let src := cellOf x.port
  let n := colChannels (portMode (s.portCfg x.port) x.port)
  if 4 < s.channelsUsed src + n then (s.bump 14 src 15 1).demote fid
  else
    let t := ((s.bump 14 src 13 1).ledger fid true).takeChannels fid n
    if !t.portUp p then (t.bump 1 p 19 1).dropFrame fid 5
    else if t.neverFits p 8 x.length then (t.bump 2 (qkey p (t.queueOf fid p)) 6 1).dropFrame fid 7
    else if stageBytes (t.portCfg p) p < t.staged p + x.data.length then
      (t.bump 14 (cellOf p) 17 1).dropFrame fid 7
    else
      let u := t.onEgr fun e => { e with
        colq := tabMod [] p (fun l => l ++ [{ fid := fid, port := p, col := true, whole := x.ended, since := s.tim.up }]) e.colq }
      ((u.onFrame fid fun y => { y with path := .col }).feedCol fid)

/-- The Col policer of a frame's ingress port under the frame's epoch (01 R24; 11 R415): whether it conforms. -/
def State.colPolice (x : Frame) (s : State) : Bool × State :=
  let c := s.frameCfg x
  let l := colPolicer c x.port
  if l.1 = 0 then (false, s)
  else
    let r := (s.port x.port).colBucket.draw (portRate c x.port * l.1 / 800) l.2 x.length s.tim.up
    (r.1, s.onPort x.port fun p => { p with colBucket := r.2 })

/-- COL_INJECT (11 R414, R415). -/
def execColInject (fid : Nat) (s : State) : Res :=
  .next (match takeFirst (fun e => e.1 == fid) s.frm.colReady with
  | none => s
  | some ((_, p), rest) =>
    let x := s.frame fid
    let src := cellOf x.port
    let b := (s.onFrm fun m => { m with colReady := rest }).colPolice x
    let t := b.2
    if !b.1 then (t.bump 14 src 14 1).demote fid
    else if x.plan.mcast then (t.bump 14 src 16 1).demote fid
    else if (t.cell (cellOf p)).st = .run then t.injectCol fid p
    else
      let n := chunksFor x.length
      if t.hasRoom src regIngress n then
        (t.bufAdd src regIngress n).onFrm fun m => { m with colHeld := m.colHeld ++ [(fid, p, n)] }
      else ((t.bump 14 src 11 1).ledger fid false).dropFrame fid 7)

/-- COL_HELD_INJECT: the oldest Col frame held for an egress cell that has reached Run (11 R415). -/
def execColHeldInject (c : Fin 64) (s : State) : Res :=
  .next (if (s.cell c.val).st ≠ .run then s
  else match takeFirst (fun e => cellOf e.2.1 == c.val) s.frm.colHeld with
  | none => s
  | some ((fid, p, n), rest) =>
    ((s.onFrm fun m => { m with colHeld := rest }).bufSub (cellOf (s.frame fid).port) regIngress n).injectCol fid p)

/-! ## Mailbox commands (11 R425 to R430) -/

/-- A mask of the cells that a test names. -/
def State.cellMask (s : State) (t : Cell → Bool) : Nat := maskOf ((List.range 64).filter fun c => t (s.cell c))

/-- FAB_STATUS (11 R426). -/
def execFabStatus (r : Req) (s : State) : Res :=
  mailbox 0x0801 r s (fun _ => { ext := some 0 }) fun _ =>
    { words := [wd (s.img.policy.benchPct + s.outNow * 2 ^ 7)] ++ two (s.cellMask fun c => c.benched) ++
        two (s.cellMask fun c => match c.st with | .slumber => true | .waking b => b | _ => false) ++
        (List.range 16).map fun n => wd ((List.range 4).map fun k => (s.cell (4 * n + k)).sr * 256 ^ k).sum
      st := s }

/-- FAB_BENCH (11 R427). -/
def execFabBench (r : Req) (s : State) : Res :=
  mailbox 0x0802 r s (fun q => { bad := q.rsv [(4, 31, 7)], ext := some 1 }) fun q =>
    let c := q.f 4 5 0
    let x := s.cell c
    let on := (x.benched && !x.unbenchSoon) || x.benchSoon
    if q.f 4 6 6 = 1 then
      if on then { st := s }
      else if 16 ≤ s.outCount ∧ s.firstSlumber.isNone then { status := stRefused, st := s }
      else { st := (s.bench c).2 }
    else if !on then { st := s }
    else if x.benchSoon then
      { st := (s.onCell c fun y => { y with benchSoon := false }).endLive (1024 + c) 5 }
    else { st := s.onCell c fun y => { y with unbenchSoon := true } }

/-- What FAB_COL_POLICER changes of a configuration. -/
def setColPolicer (q : Req) : Cfg → Cfg :=
  cfgSet 0x0810 (q.f 4 9 0) [q.w 4, q.w 5] [wd (q.f 4 9 0 + 25 * 2 ^ 10), 16384]

/-- FAB_COL_POLICER (11 R428). -/
def execFabColPolicer (r : Req) (s : State) : Res :=
  mailbox 0x0810 r s
    (fun q => { bad := q.rsv [(4, 31, 15), (5, 31, 17)] || decide (25 < q.f 4 14 10) || decide (q.f 5 16 0 < 64), ext := some 2 })
    fun q =>
      let p := q.f 4 9 0
      if !isPort s.stg.staged p then { status := stNotFound, st := s }
      else { st := s.stageBy 0x0810 q (setColPolicer q) }

/-- What FAB_BUF_SET changes of a configuration. -/
def setBuf (q : Req) (c : Cfg) : Cfg :=
  (bitsOf 64 (q.f64 6)).foldl (fun a k => cfgSet 0x0811 k ([q.w 4, q.w 5] ++ two (2 ^ k)) (bufDefault k) a) c

/-- FAB_BUF_SET (11 R429). -/
def execFabBufSet (r : Req) (s : State) : Res :=
  mailbox 0x0811 r s
    (fun q => { bad := q.rsv [(4, 31, 24), (5, 31, 24)] || q.f64 6 == 0, ext := some 4 })
    fun q => { st := s.stageBy 0x0811 q (setBuf q) }

/-- FAB_STATS_READ (11 R430). -/
def execFabStatsRead (r : Req) (s : State) : Res :=
  mailbox 0x0820 r s (fun q => { bad := q.rsv [(4, 31, 16)] || decide (20 < q.f 4 10 6 + q.f 4 15 11), ext := some 1 }) fun q =>
    { words := wd (q.f 4 15 11) :: (List.range (q.f 4 15 11)).flatMap fun j => two (s.count 14 (q.f 4 5 0) (q.f 4 10 6 + j)), st := s }

end Sys2Proof.Machine
end

