-- ==== Sys2Proof/Machine/Port.lean ====
section
/-!
DEFINITION. Ports: link states, low-power idle, preemption's verification, holding buffers, and the port
commands (06).
-/

namespace Sys2Proof.Machine

open Sys2Proof

/-! ## Link states (06 R196, R197) -/

/-- What a port that leaves Up gives up: the frame in transmission is stomped, its queues are discarded, and a frame
being received is cut (06 R197). -/
def State.dropLink (p : Nat) (s : State) : State :=
  let a := match s.txOf p with
    | some t => if t.at_.isSome then s.endTx p t true else s
    | none => s
  let b := match tabFind a.egr.heldTx p with
    | some t => setHeld p none (a.endTx p t true)
    | none => a
  let waiting := (b.allCopies.filter fun c => c.port == p && !(b.egr.arriving.contains c))
  let c := waiting.foldl (fun x k => x.refuseCopy k 1 19 5) b
  let cut := (c.frm.frames.filter fun e => e.2.port == p && !e.2.ended && e.2.mirrorOf.isNone).map fun e => e.1
  cut.foldl (fun x fid => ((x.bump 1 p 7 1).endCopies fid true).closeFrame fid true) c

/-- Moves a port to a link state, with the effects and the event of a change from Up (06 R196, R197). What its holding buffer keeps waits
there until the port is Up again (log entry 134). -/
def State.setLink (p : Nat) (l : Link) (s : State) : State :=
  let old := (s.port p).link
  if old = l then s
  else
    let t := if old = .up then ((s.dropLink p).bump 1 p 23 1).raise { src := p, reason := 2, cls := 0 } else s
    t.onPort p fun x => { x with
      link := l, lastChange := t.now, rxLpi := false, txLpi := false, txReadyAt := 0, verify := 0 }

/-- LINK_UP (02 R58; 06 R191, R196, R208). -/
def execLinkUp (p : Fin 1024) (deskew : Nat) (s : State) : Res :=
  let c := s.portCfg p.val
  let x := s.port p.val
  .next (if x.link = .down ∧ !x.shut ∧ isPort c p.val ∧ s.crn.mod = .run ∧ s.inService (cellOf p.val) ∧ s.tim.sdsref.getLsbD (p.val / 128) then
    (s.onPort p.val fun y => { y with
      link := .up, lastChange := s.now
      deskew := if portLanes c p.val = 4 then deskew % 65536 else 0
      verify := if !preemptEn c p.val then 0 else if verifyDis c p.val then 2 else 1, unverified := verifyDis c p.val }).raise
        { src := p.val, reason := 1, cls := 0 }
  else s)

/-- LINK_DOWN (06 R197). -/
def execLinkDown (p : Fin 1024) (s : State) : Res :=
  .next (if (s.port p.val).link = .up then s.setLink p.val .down else s)

/-- LOSS_OF_SIGNAL: the lane raises reason 3 (06 R196; 16 R538). -/
def execLossOfSignal (lane : Fin 1024) (s : State) : Res :=
  let p := portOf (s.portCfg lane.val) lane.val
  .next (if (s.port p).link = .disabled ∨ (s.port p).shut then s else s.raise { src := lane.val, reason := 3, cls := 0 })

/-- LANE_SHUTDOWN: a fatal event of a port turns its lanes Off (16 R549). -/
def execLaneShutdown (p : Fin 1024) (s : State) : Res :=
  .next (if s.fltRuns ∧ isPort (s.portCfg p.val) p.val then
    let t := s.raise { src := p.val, reason := 6, cls := 3, live := true }
    let u := if (t.port p.val).link = .up then t.setLink p.val .down else t
    u.onPort p.val fun x => { x with shut := true }
  else s)

/-! ## Low-power idle (06 R200 to R202) -/

/-- A port with low-power idle (06 R190, R200). -/
def lpiPort (c : Cfg) (p : Nat) : Bool := lpiEn c p && decide (portMode c p = 1 ∨ portMode c p = 2)

/-- Nothing waits or is sent at a port. -/
def State.portIdle (s : State) (p : Nat) : Bool := !(s.allCopies.any fun c => c.port == p && !(s.egr.arriving.contains c))

/-- LPI_ENTRY of the transmitter, or of the receiver as the partner signals it (06 R200). -/
def execLpiEntry (p : Fin 1024) (rx : Bool) (s : State) : Res :=
  let x := s.port p.val
  .next (if x.link = .up ∧ lpiPort (s.portCfg p.val) p.val then
    if rx then s.onPort p.val fun y => { y with rxLpi := true }
    else if !x.txLpi ∧ s.portIdle p.val then
      ((s.onPort p.val fun y => { y with txLpi := true }).bump 1 p.val 22 1).emit (.lpi p.val true)
    else s
  else s)

/-- LPI_EXIT: a frame is admitted; the port decides what it sends, and the transmitter waits LPI_TW from that decision (06 R200, R201; 12
R451). -/
def execLpiExit (p : Fin 1024) (s : State) : Res :=
  .next (if (s.port p.val).txLpi ∧ !s.portIdle p.val then
    let t := (s.onPort p.val fun y => { y with txLpi := false, txReadyAt := s.now + 10 * lpiTw (s.portCfg p.val) p.val }).emit
      (.lpi p.val false)
    if (s.txOf p.val).isNone then t.chooseTx p.val else t
  else s)

/-- PARTNER_LPI_EXIT: it counts as a frame start for the cell's wake (06 R202; 03 R89). -/
def execPartnerLpiExit (p : Fin 1024) (s : State) : Res :=
  .next (if (s.port p.val).rxLpi then (s.onPort p.val fun y => { y with rxLpi := false }).startWake (cellOf p.val) else s)

/-- VERIFY_RESULT (06 R208; 16 R538). -/
def execVerifyResult (p : Fin 1024) (ok : Bool) (s : State) : Res :=
  .next (if (s.port p.val).verify = 1 then
    let t := s.onPort p.val fun y => { y with verify := if ok then 2 else 3 }
    if ok then t.endLive p.val 4 else t.raise { src := p.val, reason := 4, cls := 1, live := true }
  else s)

/-! ## Holding buffer (06 R203, R204) -/

/-- The timestamp of a frame's first byte, once `n` bytes of it have been received on a port (13 R471). -/
def State.firstByte (s : State) (p n : Nat) : Nat := s.stamp - n * 8 * 10 ^ 9 * 2 ^ 16 / portRate (s.portCfg p) p

/-- HOLD_BUFFER_STORE: the frame is kept with the timestamp of its arrival, or dropped in full; its fragments are counted as they are
received (06 R203, R204, R213; 03 R93). -/
def execHoldBufferStore (p : Fin 1024) (data : List Byte) (pcsErr : Bool) (fragments : Nat) (s : State) : Res :=
  let x := s.port p.val
  .next (if x.link = .up ∧ s.running ∧ !s.cellRuns (cellOf p.val) then
    let used := (x.hold.map fun h => h.data.length).sum
    let t := (s.startWake (cellOf p.val)).onIf (fragments != 0) fun a => a.bump 1 p.val 10 fragments
    if 16384 * portLanes (s.portCfg p.val) p.val < used + data.length then t.bump 1 p.val 8 1
    else t.onPort p.val fun y => { y with hold := y.hold ++ [{ data := data, ts := s.firstByte p.val data.length, pcsErr := pcsErr }] }
  else s)

/-! ## Mailbox commands (06 R215 to R219) -/

/-- A FEC option that R190 allows for a mode. -/
def fecAllowed (m f : Nat) : Bool :=
  if m = 2 then decide (f ≤ 2) else if m = 4 then f == 2 else f == 0

/-- What PORT_SET changes of a configuration. -/
def setPort (q : Req) (c : Cfg) : Cfg :=
  let p := q.f 4 9 0
  let d := if fourMode (q.f 4 13 10) then [p + 1, p + 2, p + 3].foldl (fun a k => cfgDel 0x0301 k a) c else c
  cfgSet 0x0301 p [q.w 4, q.w 5, q.w 6, q.w 7] (portDefault p) d

/-- PORT_SET (06 R216, R217). -/
def execPortSet (r : Req) (s : State) : Res :=
  mailbox 0x0301 r s
    (fun q =>
      let m := q.f 4 13 10
      { bad := q.rsv [(4, 31, 23), (5, 31, 14), (7, 31, 10)] || decide (4 < m) || !fecAllowed m (q.f 4 15 14) ||
          (q.f 4 18 18 == 1 && (decide (m ≠ 1 ∧ m ≠ 2) || q.f 6 15 0 == 0 || q.f 6 31 16 == 0)) ||
          !inRange (q.f 5 13 0) 64 9216 || decide (1000 < q.f 7 9 0) ||
          (fourMode m && q.f 4 9 0 % 4 != 0)
        ext := some 4 })
    fun q =>
      let p := q.f 4 9 0
      let c := s.stg.staged
      let four := fourMode (q.f 4 13 10)
      if four && [p + 1, p + 2, p + 3].any (fun k => isPort c k && portEnabled c k) then { status := stExists, st := s }
      else if !four && !isPort c p then { status := stRefused, st := s }
      else { st := s.stageBy 0x0301 q (setPort q) }

def linkCode : Link → Nat
  | .disabled => 0
  | .down => 1
  | .up => 2
  | .isolated => 3

/-- VERIFY: off without PREEMPT_EN, 2 where verification is disabled, and else how far it is; a port that is not Up is not at it (06 R208,
R218; log entry 135). -/
def State.verifyCode (s : State) (p : Nat) : Nat :=
  if !preemptEn (s.portCfg p) p then 0 else if verifyDis (s.portCfg p) p then 2 else (s.port p).verify

/-- PORT_STATUS (06 R218). -/
def execPortStatus (r : Req) (s : State) : Res :=
  mailbox 0x0302 r s (fun q => { bad := q.rsv [(4, 31, 10)], ext := some 1 }) fun q =>
    let p := q.f 4 9 0
    let c := s.portCfg p
    if !isPort c p then { status := stNotFound, st := s }
    else
      let x := s.port p
      { words := [wd (linkCode x.link + b2n x.rxLpi * 4 + b2n x.txLpi * 8 + s.verifyCode p * 2 ^ 4 + portMode c p * 2 ^ 6 +
            portFec c p * 2 ^ 10), wd (if portLanes c p = 4 then x.deskew else 0)] ++ two x.lastChange
        st := s }

/-- PORT_STATS_READ (06 R219). -/
def execPortStatsRead (r : Req) (s : State) : Res :=
  mailbox 0x0303 r s
    (fun q => { bad := q.rsv [(4, 31, 22)] || decide (1024 < q.f 4 9 0 + q.f 4 20 10), ext := some 1 })
    fun q =>
      let sh := q.f 4 21 21 = 1
      if sh ∧ !s.hif.snapOk then { status := stNotFound, st := s }
      else
        let v (p j : Nat) : Nat := tabGet 0 (if sh then s.shadow else s.ctr) (ckey 1 p j)
        let one (p : Nat) : List Word :=
          let ok := isPort (s.portCfg p) p
          wd (p + b2n ok * 2 ^ 10) :: (List.range 24).flatMap fun j => two (if ok then v p j else 0)
        { words := [if sh then wd s.hif.snapId else 0, wd (q.f 4 20 10)] ++
            (List.range (q.f 4 20 10)).flatMap fun n => one (q.f 4 9 0 + n)
          st := s }

end Sys2Proof.Machine
end

