-- ==== Sys2Proof/Machine/Lookup.lean ====
section
/-!
DEFINITION. The lookups of a frame (08 R263 to R269, R280 to R289, R603) and what they decide.
-/

namespace Sys2Proof.Machine

open Sys2Proof

/-- A frame at the lookups: its configuration, ingress port, parse and group hash. -/
structure Look where
  c : Cfg
  port : Nat
  p : Parsed
  h : Nat

def Look.cell (k : Look) : Nat := cellOf k.port
def Look.ridge (k : Look) : Nat := ridgeOf k.cell

/-- A frame with its group hash (08 R290). -/
def lookOf (c : Cfg) (port : Nat) (p : Parsed) : Look :=
  { c := c, port := port, p := p, h := p.hash (hashKey c (ridgeOf (cellOf port))) }

/-- TTL_LE1 (07 R233). -/
def Parsed.ttlLow (p : Parsed) : Bool := decide (p.fmt ≠ 0 ∧ p.ttl ≤ 1)

/-! ## Groups and next hops (08 R287 to R289, R292) -/

/-- A member of a link-aggregation group under a hash. -/
def State.viaLag (s : State) (k : Look) (g h : Nat) (hop : Option Nat) : Verdict :=
  if s.isAbsent (64 + k.ridge) tGroup g then .drop (some 13)
  else match s.lagPort k.c g k.ridge h with
    | some p => .go [p] hop false 0 0
    | none => .drop (some 10)

/-- A next hop. A frame with TTL_LE1 that reaches a valid one is punted with reason 2 before any rewrite (08 R287). -/
def State.viaHop (s : State) (k : Look) (i : Nat) : Verdict :=
  let w := nextHop k.c i
  let d := fld (wordAt w 1) 15 0
  if s.isAbsent (64 + k.ridge) tHop i then .drop (some 13)
  else if fld (wordAt w 0) 16 16 = 0 then .drop (some 9)
  else if k.p.ttlLow then .punt 2
  else if destKind d = 0 then .go [destId d] (some i) false 0 0
  else s.viaLag k (destId d) (swapHash k.h) (some i)

/-- A group of the ridge: a link-aggregation group's port, or an ECMP group's next hop. -/
def State.viaGroup (s : State) (k : Look) (g : Nat) : Verdict :=
  if s.isAbsent (64 + k.ridge) tGroup g then .drop (some 13)
  else if groupIsLag k.c g k.ridge then s.viaLag k g k.h none
  else match s.ecmpHop k.c g k.ridge k.h with
    | some (_, i) => s.viaHop k i
    | none => if k.p.ttlLow then .punt 2 else .drop (some 10)

/-- A multicast group: one port for each member that is a port or a group with a live member (08 R289, R292). -/
def State.viaMcast (s : State) (k : Look) (g : Nat) : Verdict :=
  if s.isAbsent (64 + k.ridge) tMcast g then .drop (some 13)
  else
    let pick (d : Nat) : Option Nat := if destKind d = 0 then some (destId d) else s.lagPort k.c (destId d) k.ridge k.h
    let gone (d : Nat) : Bool := destKind d != 0 && s.isAbsent (64 + k.ridge) tGroup (destId d)
    let all := mcastMembers k.c g
    let l := all.filter fun d => !gone d
    .go (l.filterMap pick).dedup none true (l.filter fun d => (pick d).isNone).length (all.filter gone).length

/-- A destination (08 R265). -/
def State.viaDest (s : State) (k : Look) (d : Nat) : Verdict :=
  if destKind d = 0 then .go [destId d] none false 0 0
  else if destKind d = 1 then s.viaGroup k (destId d)
  else if destKind d = 2 then s.viaMcast k (destId d)
  else .drop none

/-! ## The lookups -/

/-- The frame's VLAN (08 R263). -/
def Look.vlan (k : Look) : Nat := if k.p.otagV then k.p.ovid else pvid k.c k.port

/-- The route of a routed frame (08 R281, R287). -/
def State.lookupRoute (k : Look) (s : State) : Verdict × State :=
  match s.routeFind k.c k.cell (vlanFld k.c k.vlan 0 27 24) (k.p.fmt - 1) k.p.dip with
  | none => (.drop (some 8), s)
  | some (level, _, ty, i) =>
    let v : Verdict :=
      if ty = 0 then .drop (some 9)
      else if ty = 1 then s.viaHop k i
      else if ty = 2 then s.viaGroup k i
      else .punt 6
    (v, s.bump 6 k.cell (if level = 1 then 6 else 7) 1)

/-- The source lookup of a bridged frame: what it drops, and its reports (08 R268, R269). -/
def State.lookupSource (k : Look) (fid : Nat) (s : State) : Option Verdict × State :=
  let v := k.vlan
  let learn := vlanFld k.c v 0 29 29 == 1 && portLearn k.c k.port
  let rep (kind : Nat) (t : State) : State := t.onIf learn fun a => a.report
    { kind := kind, cell := k.cell, fid := fid, mac := k.p.smac, port := k.port, time := s.now, place := vlanFld k.c v 1 3 2
      flood := vlanFld k.c v 1 17 4 }
  if k.p.smac / 2 ^ 40 % 2 = 1 then (some (.drop (some 5)), s)
  else match s.l2Find k.c k.cell fid k.p.smac with
    | none => (none, rep 0 (s.bump 6 k.cell 2 1))
    | some (d, static) =>
      let t := s.touch k.c k.cell fid k.p.smac
      if destHolds k.c k.ridge d k.port then (none, t)
      else if static then (some (.drop (some 4)), rep 3 t)
      else (none, rep 1 (t.bump 6 k.cell 3 1))

/-- The destination lookup of a bridged frame. A miss on an address that the master holds raises a demand under PLACE 2, and the cell
floods until the entry is there (08 R268, R274). -/
def State.lookupDest (k : Look) (fid : Nat) (s : State) : Verdict × State :=
  let v := k.vlan
  let flood := vlanFld k.c v 1 17 4
  match s.l2Find k.c k.cell fid k.p.dmac with
  | some (d, _) => (s.viaDest k d, (s.touch k.c k.cell fid k.p.dmac).bump 6 k.cell 0 1)
  | none =>
    let t := s.bump 6 k.cell 1 1
    let demand := vlanFld k.c v 1 3 2 == 2 && ((s.master fid k.p.dmac).isSome || (s.staticMaster fid k.p.dmac).isSome)
    let u := t.onIf demand fun a => a.report
      { kind := 4, cell := k.cell, fid := fid, mac := k.p.dmac, port := k.port, time := s.now, place := 2, flood := flood }
    let miss := vlanFld k.c v 1 1 0
    (if miss = 0 ∨ demand ∨ k.p.dmac / 2 ^ 40 % 2 = 1 then s.viaMcast k flood else if miss = 1 then .punt 1 else .drop none, u)

/-- All lookups of a frame (08 R263, R264, R603). An absent VLAN word admits no frame, as ENABLE 0. -/
def State.lookups (k : Look) (s : State) : Verdict × State :=
  let v := k.vlan
  if s.isAbsent k.cell tVlan v ∨ vlanFld k.c v 0 28 28 = 0 then (.drop (some 5), s)
  else if vlanFld k.c v 0 30 30 = 1 ∧ k.p.dmac = routerMac k.c ∧ k.p.fmt ≠ 0 then s.lookupRoute k
  else
    let fid := vlanFld k.c v 0 23 12
    let a := s.lookupDest k fid
    let b := a.2.lookupSource k fid
    (b.1.getD a.1, b.2)

end Sys2Proof.Machine
end

