-- ==== Sys2Proof/Machine/Rewrite.lean ====
section
/-!
DEFINITION. What the module changes in a frame's bytes: the routed rewrite (08 R287; 06 R606) and the rewrites of a
flow result (10 R367, R368).
-/

namespace Sys2Proof.Machine

open Sys2Proof

/-- The bytes with each patch, an offset and bytes, put in. -/
def patchBytes (l : List Byte) (ps : List (Nat × List Byte)) : List Byte := ps.foldl (fun a p => putBytes a p.1 p.2) l

/-- The checksum at an offset after the patches, updated incrementally. -/
def csumPatch (l : List Byte) (off : Nat) (ps : List (Nat × List Byte)) : Nat :=
  csumUpdate (beAt l off 2) (ps.flatMap fun p => beWords ((l.drop p.1).take p.2.length)) (ps.flatMap fun p => beWords p.2)

/-- TTL or hop limit less one, and the IPv4 header checksum (08 R287). -/
def ttlDown (p : Parsed) (l : List Byte) : List Byte :=
  if p.fmt = 1 then
    let ps := [(p.l3 + 8, beBytes 2 (beAt l (p.l3 + 8) 2 - 256))]
    patchBytes (putBytes l (p.l3 + 10) (beBytes 2 (csumPatch l (p.l3 + 10) ps))) ps
  else if p.fmt = 2 then putBytes l (p.l3 + 7) (beBytes 1 (beAt l (p.l3 + 7) 1 - 1))
  else l

/-- The L2 header of a routed frame: DMAC and VID of the next hop, ROUTER_MAC, one tag or none, the EtherType (08 R287). -/
def routedHeader (c : Cfg) (hop tc etype : Nat) : List Byte :=
  let w := nextHop c hop
  let vid := fld (wordAt w 1) 27 16
  macBytes (join (wordAt w 2) (wordAt w 3)) ++ macBytes (routerMac c) ++
    (if vid = 0 then [] else beBytes 2 0x8100 ++ beBytes 2 (tc * 2 ^ 13 + vid)) ++ beBytes 2 etype

/-- A frame rewritten to a next hop (08 R287). -/
def Frame.route (x : Frame) (c : Cfg) (p : Parsed) (hop : Nat) : Frame :=
  let h := routedHeader c hop x.tc p.etype
  { x with
    data := h ++ (ttlDown p x.data).drop p.l2End
    length := max 64 (x.length + h.length - p.l2End)
    ptpAt := x.ptpAt + h.length - p.l2End
    rewritten := true }

/-! ## Result rewrites (10 R367, R368) -/

/-- RW bits of Y2. -/
def rwBits (y2 : Word) : Nat := fld y2 6 3

/-- The frame has a TCP or UDP header whose ports may be rewritten. -/
def Parsed.hasPorts (p : Parsed) : Bool := p.l4V && !p.nonfirst && decide (p.proto = 6 ∨ p.proto = 17)

/-- The offset of the TCP or UDP checksum. -/
def Parsed.csumAt (p : Parsed) : Nat := p.l4 + (if p.proto = 6 then 16 else 6)

/-- Bytes that a result's rewrites touch reach up to here. -/
def Parsed.rwEnd (p : Parsed) (y2 : Word) : Nat :=
  if rwBits y2 = 0 then 0 else if p.hasPorts then max (p.l3 + 20) (p.csumAt + 2) else p.l3 + 20

/-- The bytes of an IPv4 frame after a result's rewrites: Y2 to Y5. -/
def rwApply (p : Parsed) (y : List Word) (l : List Byte) : List Byte :=
  let y2 := wordAt y 0
  let addr := (if bit y2 3 then [(p.l3 + 12, beBytes 4 (wordAt y 1).toNat)] else []) ++
    (if bit y2 4 then [(p.l3 + 16, beBytes 4 (wordAt y 2).toNat)] else [])
  let ports := if p.hasPorts then
      (if bit y2 5 then [(p.l4, beBytes 2 (fld (wordAt y 3) 15 0))] else []) ++
      (if bit y2 6 then [(p.l4 + 2, beBytes 2 (fld (wordAt y 3) 31 16))] else [])
    else []
  let ip := [(p.l3 + 10, beBytes 2 (csumPatch l (p.l3 + 10) addr))]
  let old := beAt l p.csumAt 2
  let new := csumPatch l p.csumAt (addr ++ ports)
  let l4 := if !p.hasPorts ∨ (p.proto = 17 ∧ old = 0) then []
    else [(p.csumAt, beBytes 2 (if p.proto = 17 ∧ new = 0 then 0xFFFF else new))]
  patchBytes l (addr ++ ports ++ ip ++ l4)

end Sys2Proof.Machine
end

