-- ==== Sys2Proof/Machine/Pipeline.lean ====
section
/-!
DEFINITION. The cell pipeline: entry, passes and the resolve stage (07 R221 to R246; 12 R432; 13 R471), the end of a
received frame (06 R205, R206, R213), and flow results (09 R320 to R323; 10 R367, R368).
-/

namespace Sys2Proof.Machine

open Sys2Proof

/-! ## Frames in the pipeline -/

def Frame.cell (x : Frame) : Nat := cellOf x.port

/-- The epoch that a cell has applied (07 R229). -/
def State.cellEpoch (s : State) (c : Nat) : Nat := if s.hif.applied.getLsbD c then s.hif.epoch else prevEpoch s.hif.epoch

def State.parsed (s : State) (x : Frame) : Parsed :=
  let c := s.frameCfg x
  parseOf x.data x.length (colIngress c x.port) (vxlanPort c)

/-- The frame ends here under a counter; its pass stands. -/
def State.stopFrame (fid kind inst idx : Nat) (s : State) : State := ((s.bump kind inst idx 1).ledger fid true).dropFrame fid 0

/-- Bytes of a frame arrive, for itself and its mirror copies; those of stripped headers are passed over (07 R243). -/
def State.arrive (fid : Nat) (l : List Byte) (s : State) : State :=
  s.onFrm fun m => { m with frames := m.frames.map fun e =>
    (e.1,
      if e.1 = fid then { e.2 with data := e.2.data ++ l.drop e.2.skip, skip := e.2.skip - l.length, line := e.2.line ++ l }
      else match e.2.mirrorOf with
        | some (f, _) => if f = fid ∧ !e.2.ended then { e.2 with data := e.2.data ++ l.drop e.2.skip, skip := e.2.skip - l.length } else e.2
        | none => e.2) }

/-! ## Punts (05 R166, R167) -/

/-- Punts a frame, at once where its last byte is in, else at its end. -/
def State.puntFrame (fid reason : Nat) (s : State) : State :=
  let x := s.frame fid
  let t := s.ledger fid true
  if x.ended then (t.punt x.cell x.port reason x.final x.ts).dropFrame fid 0
  else t.onFrame fid fun y => { y with plan := { y.plan with punt := some reason } }

/-! ## The result issues (11 R395, R414, R418, R419; 03 R92) -/

/-- Destination cell and port mask of each copy. -/
def copiesOf (ports : List Nat) : List (Nat × Nat) :=
  (ports.map cellOf).dedup.map fun c => (c, maskOf ((ports.filter fun p => cellOf p == c).map fun p => p % 16))

/-- The frame is forwarded as its plan says. The pass of one that may yet find no ingress staging room is entered in the slot ledger later
(17 R569, R570). -/
def State.issueFrame (fid : Nat) (s : State) : State :=
  let x := s.frame fid
  let c := s.frameCfg x
  let y := match x.plan.hop with
    | some i => x.route c (s.parsed x) i
    | none => x
  let z : Frame := { y with data := if y.ended then y.final else y.data, length := max 64 y.length }
  let n := (z.plan.copies.map fun e => (bitsOf 16 e.2).length).sum
  if n = 0 then (s.ledger fid true).dropFrame fid 0
  else
    let e := z.plan.copies.headD (0, 0)
    if z.plan.col then
      (s.onFrame fid fun _ => { z with left := n, path := .colReady }).onFrm fun m => { m with
        colReady := m.colReady ++ [(fid, 16 * e.1 + (bitsOf 16 e.2).headD 0)] }
    else
      let t := (s.onFrame fid fun _ => { z with left := n, path := .fabric }).packFrame fid
      t.onIf z.ended fun a => a.ledger fid true

/-- The degraded action of a frame's program (09 R321; 10 R385). -/
def State.degrade (fid : Nat) (s : State) : State :=
  let x := s.frame fid
  if progDegradedDrop (s.frameCfg x) x.plan.program then ((s.bump 9 x.cell 2 1).ledger fid false).dropFrame fid 0
  else (s.bump 9 x.cell 1 1).issueFrame fid

/-! ## Flow operations (09 R307, R316, R320, R323) -/

/-- Bytes of a template field (09 R307). -/
def Parsed.keyField (p : Parsed) (port i : Nat) : List Byte :=
  beBytes (fieldSize p.fmt i)
    ([port, p.ovid, p.ivid, p.vni, p.etype, p.dscp, p.proto, p.sport, p.dport, p.smac, p.dmac, p.sip, p.dip].getD i 0)

/-- The OPERATE of a frame, without its TAG, and its KEY_LEN (09 R307, R308, R316). -/
def flowRequest (c : Cfg) (x : Frame) (p : Parsed) (a : Action) : List Word × Nat :=
  let t := a.f 2 6 2
  let prog := a.f 2 15 7
  let fields := templateFields c t
  let key := (bitsOf 13 fields).flatMap (p.keyField x.port)
  let zone := if a.b 1 28 then a.f 1 27 16 else defaultZone c x.port
  let ty := t + p.fmt * 2 ^ 5 + b2n (progCkey c prog) * 2 ^ 7
  ([wd (x.epoch + prog * 2 ^ 16 + x.cell * 2 ^ 25), wd (zone * 2 ^ 11 + ty * 2 ^ 23)] ++
    bytesToWords (key ++ List.replicate (40 - key.length) 0) ++
    [wd (x.length % 2 ^ 14 + x.port * 2 ^ 14 + b2n x.yellow * 2 ^ 24 + x.tc * 2 ^ 25)] ++ two (x.ts / 2 ^ 16 % 2 ^ 64) ++
    [wd (p.tcpFlags + p.dscp * 2 ^ 8 + p.ttl * 2 ^ 14 + b2n p.frag * 2 ^ 22 + b2n p.nonfirst * 2 ^ 23)],
   key.length)

/-- A frame stays where it is until more of its bytes are in. -/
def State.holdAt (fid : Nat) (y : Stay) (s : State) : State :=
  (s.onFrame fid fun x => { x with stay := some y }).onFrm fun m => { m with
    late := if m.late.contains fid then m.late else m.late ++ [fid] }

/-- The flow key names a VNI that is still to come: an IPv6 key does not wait for one (07 R222; 09 R307; log entry 143). -/
def Parsed.vniDue (p : Parsed) (fields : Nat) (x : Frame) : Bool :=
  fields.testBit 3 && p.vxlan && !x.ended && decide (x.data.length < p.inner - 1)

/-- Posts a frame's flow operation; a frame that waits is parked (09 R320 to R323; 11 R418). -/
def State.postFlow (fid : Nat) (p : Parsed) (a : Action) (s : State) : State :=
  let x := s.frame fid
  let c := s.frameCfg x
  let wait := a.b 2 1
  if p.vniDue (templateFields c (a.f 2 6 2)) x then s.holdAt fid (.flow a.w)
  else if !s.flo.formatted || s.flo.formatting then
    if wait then (s.onFrame fid fun y => { y with plan := { y.plan with program := a.f 2 15 7 } }).degrade fid else s.issueFrame fid
  else
    let m := flowRequest c x p a
    let t := (s.postOp x.cell fid m.1 m.2 wait).2.onFrame fid fun y => { y with
      op := some m, plan := { y.plan with program := a.f 2 15 7 } }
    let n := chunksFor x.length
    if !wait then t.issueFrame fid
    else if t.hasRoom x.cell regPark n then
      (t.bufAdd x.cell regPark n).onFrm fun f => { f with
        parked := f.parked ++ [{ fid := fid, cell := x.cell, since := t.now, chunks := n }] }
    else (t.bump 14 x.cell 12 1).degrade fid

/-! ## The resolve stage (07 R231, R241 to R246) -/

/-- A mirror copy (07 R246): a Switchback frame of its own; one that is cut leaves when the frame has ended. -/
def State.mirror (fid session : Nat) (s : State) : State :=
  let x := s.frame fid
  let w := mirrorWord (s.frameCfg x) session x.cell
  if bit w 16 then
    let p := fld w 12 3
    let cut := if bit w 17 then some (fld w 26 18) else none
    let len := match cut with | some n => min x.length n | none => x.length
    let out : Bool := x.ended || cut.isNone
    let y := s.newFrame { x with
      data := if x.ended then (match cut with | some n => cutCopy n x.final | none => x.final) else x.data
      rewritten := x.rewritten && !x.ended
      length := len, host := none, tsReq := false, open_ := false, op := none, queue := some (fld w 15 13), mirrorOf := some (fid, cut)
      plan := { copies := copiesOf [p] }, path := if out then .fabric else .held, left := 1, packed := 0 }
    let t := y.2.startWake (cellOf p)
    if out then t.packFrame y.1 else t
  else s

/-- A verdict decides the destination (07 R242 step 7). The frame goes on to its flow operation or issues. -/
def State.conclude (fid : Nat) (p : Parsed) (a : Action) (col : Bool) (v : Verdict) (s : State) : State :=
  let x := s.frame fid
  match v with
  | .drop none => (s.ledger fid true).dropFrame fid 0
  | .drop (some i) => s.stopFrame fid 6 x.cell i
  | .punt r => s.puntFrame fid r
  | .go ports hop mcast dead lost =>
    let cs := copiesOf ports
    let t := ((s.onIf (dead != 0) fun u => u.bump 6 x.cell 10 dead).onIf (lost != 0) fun u => u.bump 6 x.cell 13 lost).onFrame fid fun y => { y with
      plan := { y.plan with copies := cs, col := col, mcast := mcast, hop := hop, routed := hop.isSome } }
    if cs = [] then (t.ledger fid true).dropFrame fid 0
    else
      let u := cs.foldl (fun b e => b.startWake e.1) t
      if a.b 2 0 && !col then u.postFlow fid p a else u.issueFrame fid

/-- The outer headers of a VXLAN frame are stripped, and the inner frame waits for its second pass (07 R243). -/
def State.decap (fid inner : Nat) (s : State) : State :=
  ((s.onFrame fid fun x => { x with
    data := x.data.drop inner, skip := inner - x.data.length, length := x.length - inner, rewritten := true, recirc := true }).onFrm fun m => { m with
      recirc := m.recirc ++ [fid] }).ledger fid false

/-- Whether the ingress port's TC_MODE punts a precision-time message (13 R471). -/
def ptpPunted (mode ty : Nat) : Bool := mode == 3 || (mode == 2 && (ty == 2 || ty == 3))

/-- TC_MODE 2 judges the frame by a byte at or beyond byte 64, so that it cannot be Col (01 R31; 13 R471; log entry 143). -/
def Frame.lateType (x : Frame) (p : Parsed) : Bool := p.ptp && x.tcMode == 2 && decide (64 ≤ p.ptpAt)

/-- Steps 4 to 8 of the resolve stage (07 R242, R243). A precision-time message under TC_MODE 2 waits there for its messageType (13 R471). -/
def State.decide_ (fid : Nat) (k : Look) (a : Action) (look : Verdict) (s : State) : State :=
  let x := s.frame fid
  let p := k.p
  let late := x.lateWait || x.lateType p
  if (p.ipOpt || p.deep) && !a.b 0 12 then (s.bump 5 k.cell 4 1).puntFrame fid 3
  else if x.lateType p && !x.ended && decide (x.data.length ≤ p.ptpAt) then s.holdAt fid (.resolve a.w look)
  else if p.ptp && ptpPunted x.tcMode ((x.data.getD p.ptpAt 0).toNat % 16) then s.puntFrame fid 4
  else if a.f 0 1 0 = 3 then s.puntFrame fid (a.f 0 7 2)
  else
    let wants := a.f 0 1 0 == 1 || colIngress k.c k.port
    let t := s.onIf (wants && late) fun b => b.bump 5 k.cell 3 1
    let col := wants && !late
    if a.b 0 13 && !x.recirc && !col && p.vxlan then t.decap fid p.inner
    else
      let id := a.f 1 15 0
      match a.f 0 10 8 with
      | 0 => t.conclude fid p a col look
      | 1 => if isPort k.c id then t.conclude fid p a col (.go [id] none false 0 0) else t.stopFrame fid 5 k.cell 7
      | 2 => t.conclude fid p a col (t.viaGroup k id)
      | _ => t.conclude fid p a col (t.viaMcast k id)

/-- The resolve stage (07 R242). -/
def State.resolve (fid : Nat) (k : Look) (a : Action) (look : Verdict) (s : State) : State :=
  let x := s.frame fid
  let n := k.cell * 2 ^ 16 + a.f 3 12 0
  let t := (s.onIf (a.b 0 23) fun b => (b.bump 3 n 0 1).bump 3 n 1 x.length).onIf (a.b 0 18) fun b => b.mirror fid (a.f 0 21 19)
  if a.b 0 11 then t.stopFrame fid 5 k.cell 7
  else if a.b 0 22 then
    let m := t.chargeMeter k.c k.cell (a.f 2 27 16) ((x.length : Int) + egrOverhead k.c k.port).toNat
    if m.1 = 2 then (m.2.ledger fid true).dropFrame fid 0
    else (m.2.onFrame fid fun y => { y with yellow := y.yellow || m.1 == 1 }).decide_ fid k a look
  else t.decide_ fid k a look

/-- The ingress traffic class (12 R432), without a flow result. -/
def trafficClass (c : Cfg) (port : Nat) (p : Parsed) (a : Action) : Nat :=
  let dflt := defaultTc c port
  if a.b 0 14 then a.f 0 17 15
  else if tcSource c port = 1 ∧ p.fmt ≠ 0 then p.dscp / 8
  else if tcSource c port = 2 ∨ tcSource c port = 3 then dflt
  else if p.otagV then p.opcp else dflt

/-- A key enters the back end: search, lookups and resolve (07 R221). -/
def State.pass (fid : Nat) (s : State) : State :=
  let x := s.frame fid
  let c := s.frameCfg x
  let cell := x.cell
  let p := s.parsed x
  let key := p.key x.port x.recirc x.host.isSome (colIngress c x.port)
  let rules := c.filter fun e =>
    !(cfgOp e.1 == 0x0410 && cfgObj e.1 % 64 == cell && (ruleRows c cell (cfgObj e.1)).any fun r => s.isAbsent cell tRule r)
  let r := classify (if s.tbl.absent = [] then c else rules) cell x.port p.fmt key
  let a : Action := { w := r.1 }
  let tc := trafficClass c x.port p a
  let k := lookOf c x.port p
  let t := (((s.bump 5 cell 0 1).onIf x.recirc fun b => b.bump 5 cell 1 1).onIf (!r.2) fun b => b.bump 5 cell 2 1).onIf
    p.hdrExcess fun b => b.bump 5 cell 5 1
  let u := ((t.pmuKey cell x.host.isSome tc).onIf (x.lateWait && !x.recirc) fun b =>
    b.pmuEvent cell 9 1 { priv := some x.priv, cls := some tc }).onFrame fid fun y => { y with
    open_ := true, tc := tc, ptp := p.ptp, ptpAt := p.ptpAt, ptpUdp := p.ptpUdp, tcMode := tcModeOf c x.port }
  let l := u.lookups k
  l.2.resolve fid k a l.1

/-! ## Waiting for key bytes (07 R222 to R224) -/

/-- A frame of a port without COL_INGRESS whose key has a field at or beyond byte 64 waits for it, whichever command brings that byte;
each frame counts once (07 R222, R224; 01 R31; log entry 105). -/
def State.countLate (fid : Nat) (s : State) : State :=
  let x := s.frame fid
  if !x.lateWait && !colIngress (s.frameCfg x) x.port && decide (64 < (s.parsed x).needs) then
    (s.bump 5 x.cell 6 1).onFrame fid fun y => { y with lateWait := true }
  else s

/-- A key that enters the back end carries the epoch that its cell has applied; a second pass keeps its first's (07 R229). -/
def State.tagFrame (fid : Nat) (s : State) : State :=
  s.onFrame fid fun y => if y.recirc then y else { y with epoch := s.cellEpoch y.cell }

/-- A frame that stays for a byte after its pass goes on with what it waited for. -/
def State.goOn (fid : Nat) (y : Stay) (s : State) : State :=
  let t := (s.onFrame fid fun x => { x with stay := none }).onFrm fun m => { m with late := m.late.filter fun f => f != fid }
  let x := t.frame fid
  let p := t.parsed x
  match y with
  | .resolve w look => t.decide_ fid (lookOf (t.frameCfg x) x.port p) { w := w } look
  | .flow w => t.postFlow fid p { w := w }

/-- A frame goes to its pass, or waits for the bytes that its key needs; one whose key has passed goes on. -/
def State.advance (fid : Nat) (s : State) : State :=
  match (s.frame fid).stay with
  | some y => s.goOn fid y
  | none =>
  let t := (s.tagFrame fid).countLate fid
  let x := t.frame fid
  if !x.ended && !colIngress (t.frameCfg x) x.port && decide (x.data.length < x.length ∧ x.data.length < (t.parsed x).needs) then
    if t.frm.late.contains fid then t else t.onFrm fun m => { m with late := m.late ++ [fid] }
  else (t.onFrm fun m => { m with late := m.late.filter fun f => f != fid }).pass fid

/-! ## The end of a received frame (06 R205, R206, R213) -/

/-- The rest of a frame is in: its pending punt, its mirror copies and the frame itself end (07 R246). -/
def State.finishFrame (fid : Nat) (rest : List Byte) (bad : Bool) (s : State) : State :=
  let t := s.arrive fid rest
  let x := t.frame fid
  let u := match x.plan.punt with
    | some r => if bad then t else t.punt x.cell x.port r x.final x.ts
    | none => t
  (u.endCopies fid bad).closeFrame fid bad

/-- The counter of the reason for which a received frame is bad (06 R205, R206, R213). -/
def Frame.badCause (x : Frame) (max_ : Nat) (t : FrameTail) (all : List Byte) : Option Nat :=
  if x.pcs ∨ t = .pcsError ∨ t = .lockLost then some 7
  else if t = .assemblyError then some 11
  else if max_ < all.length then some 6
  else if !fcsGood all then some 4
  else none

/-- The last byte of a line frame arrives. -/
def State.endFrame (fid : Nat) (rest : List Byte) (t : FrameTail) (s : State) : State :=
  match tabFind s.frm.frames fid with
  | none => s
  | some x =>
    if x.ended ∨ x.mirrorOf.isSome ∨ x.host.isSome then s
    else
      let p := x.port
      let top := maxFrame (s.frameCfg x) p
      let all := x.line ++ rest
      let first := (all.headD 0).toNat
      let bcast := decide (all.take 6 = List.replicate 6 0xFF)
      match x.badCause top t all with
      | some i => (s.bump 1 p i 1).finishFrame fid (rest.take (top + 1 - x.line.length)) true
      | none =>
        ((((s.bump 1 p 0 1).bump 1 p 1 all.length).onIf (first % 2 == 1 && !bcast) fun b => b.bump 1 p 2 1).onIf bcast
          fun b => b.bump 1 p 3 1).finishFrame fid rest false

/-- FRAME_END (06 R206; 11 R405, R406). A frame that had entered when ingress stopped goes on until the drain ends (03 R104; log entry 142). -/
def execFrameEnd (fid : Nat) (rest : List Byte) (t : FrameTail) (s : State) : Res :=
  .next (if s.enginesRun then s.endFrame fid rest t else s)

/-! ## Entry (07 R221 to R229) -/

/-- PAUSE and priority flow-control frames (06 R213). -/
def isPause (l : List Byte) : Bool :=
  decide (beAt l 12 2 = 0x8808) && decide (beAt l 14 2 = 1 ∨ beAt l 14 2 = 0x0101)

/-- A frame enters a cell's pipeline; its number. -/
def State.enterFrame (x : Frame) (s : State) : Nat × State :=
  let n := s.newFrame { x with epoch := s.cellEpoch (cellOf x.port) }
  (n.1, n.2.advance n.1)

/-- What the PCS and the MAC Merge sublayer count as a frame arrives: fragments, and FEC blocks where the port has FEC (06 R213). -/
def State.countLine (p : Nat) (a : Arrival) (s : State) : State :=
  let fec := portFec (s.portCfg p) p != 0
  ((s.onIf (a.fragments != 0) fun b => b.bump 1 p 10 a.fragments).onIf (fec && a.fecCorrected != 0) fun b =>
    b.bump 1 p 20 a.fecCorrected).onIf (fec && a.fecUncorrected != 0) fun b => b.bump 1 p 21 a.fecUncorrected

/-- A line frame that is neither short, nor known to be too long, nor a rejected fragment sequence enters, and ends at once where it is
whole (06 R205, R209, R213). -/
def State.receive (p : Nat) (a : Arrival) (ts : Nat) (s : State) : State :=
  let t := s.countLine p a
  if a.rejected then t.bump 1 p 11 1
  else if maxFrame (s.portCfg p) p < a.data.length then t.bump 1 p (if a.pcsErr then 7 else 6) 1
  else if a.data.length < 64 then t.onIf a.whole fun b => b.bump 1 p 5 1
  else
    let x : Frame :=
      { data := a.data, line := a.data, pcs := a.pcsErr, port := p, ts := ts
        length := if a.whole then a.data.length else max a.length a.data.length }
    let e :=
      if isPause a.data then
        let n := (t.bump 1 p 9 1).newFrame x
        (n.1, n.2.dropFrame n.1 0)
      else t.enterFrame x
    if a.whole then e.2.endFrame e.1 [] .complete else e.2

/-- The port's line is served: ingress has not stopped for a transition or a reset (03 R79, R104), the port is up and its cell takes
frames. -/
def State.lineOpen (s : State) (p : Nat) : Bool := s.running && s.portUp p && s.cellRuns (cellOf p) && isPort (s.portCfg p) p

/-- PIPELINE_ENTRY (07 R221). The timestamp is that of the frame's first byte, taken back from the bytes received. -/
def execPipelineEntry (p : Fin 1024) (a : Arrival) (s : State) : Res :=
  .next (if s.lineOpen p.val then
    s.receive p.val a (s.firstByte p.val a.data.length)
  else s)

/-- LATE_KEY_ENTRY (07 R222): more bytes of a frame that waits for its key; one that grows past MAX_FRAME is dropped (06 R205). -/
def execLateKeyEntry (fid : Nat) (more : List Byte) (s : State) : Res :=
  let x := s.frame fid
  let top := maxFrame (s.frameCfg x) x.port
  .next (if s.enginesRun && s.frm.late.contains fid && s.cellRuns x.cell then
    if x.ended then s.advance fid
    else if x.host.isNone ∧ top < x.line.length + more.length then
      (s.bump 1 x.port (if x.pcs then 7 else 6) 1).finishFrame fid (more.take (top + 1 - x.line.length)) true
    else (s.arrive fid more).advance fid
  else s)

/-- RECIRCULATION_PASS (07 R243). -/
def execRecirculationPass (fid : Nat) (s : State) : Res :=
  .next (if s.enginesRun && s.frm.recirc.contains fid && s.cellRuns (s.frame fid).cell then
    (s.onFrm fun m => { m with recirc := m.recirc.filter fun f => f != fid }).advance fid
  else s)

/-- HOLD_RELEASE: the oldest stored frame of a port enters, with the timestamp of its arrival (07 R226; 06 R203, R204;
16 R551). -/
def execHoldRelease (p : Fin 1024) (uncorrectable : Bool) (s : State) : Res :=
  .next (match (s.port p.val).hold with
  | [] => s
  | h :: rest =>
    if s.lineOpen p.val then
      let t := (s.onPort p.val fun x => { x with hold := rest }).pmuEvent (cellOf p.val) 0x0E 1 {}
      if uncorrectable then
        let w := (t.bump 1 p.val 7 1).drawNat
        w.2.raise { src := p.val, reason := 5, cls := 1, access := 1, addr := tableWord 14 w.1 }
      else t.receive p.val { data := h.data, whole := true, length := h.data.length, pcsErr := h.pcsErr } h.ts
    else s)

/-! ## Flow results (09 R321; 10 R367, R368; 17 R572) -/

/-- Takes a frame out of parking. -/
def State.unpark (fid : Nat) (s : State) : State :=
  match s.frm.parked.find? fun k => k.fid == fid with
  | none => s
  | some k => (s.bufSub k.cell regPark k.chunks).onFrm fun m => { m with parked := m.parked.filter fun q => q.fid != fid }

/-- STOP_KIND and STOP_INDEX (17 R573): of a run's waits of more than 20 ns, the longest, the lowest code on a tie. A stall is at an
instruction that the run executed and that can stall. -/
def Op.stop (o : Op) (times : SampleTimes) : Nat × Nat :=
  match o.ran with
  | none => (4, 15)
  | some x =>
    let stall := if x.stalls.contains times.stallIndex then times.stall else 0
    let top := max stall (max times.contextWait times.recordWait)
    if top ≤ 20 then (0, x.last.getD 15)
    else if top = stall then (1, times.stallIndex)
    else if top = times.contextWait then (2, 15)
    else (3, 15)

/-- The body of a KIND 3 event (17 R572, R573). -/
def sampleBody (o : Op) (times : SampleTimes) (now : Nat) : List Word :=
  let y0 := wordAt o.result 0
  let cached := bit y0 20
  let kind := if cached then 5 else (o.stop times).1
  let idx := if cached then 15 else (o.stop times).2
  let k := msgKey o.msg o.keyLen
  [wd ((match o.ran with | some x => x.program | none => o.program) + idx * 2 ^ 9 + kind * 2 ^ 13 + resultStatus o.result * 2 ^ 16 + b2n cached * 2 ^ 20 +
      o.engine * 2 ^ 21),
   wordAt o.result 1, wd (min (now - o.issued) 0xFFFFFFFF), wd (o.issued - o.ready), wd (if cached then 0 else times.homeTime),
   wd (o.tag + fld (wordAt o.msg 12) 23 14 * 2 ^ 8 + fld (wordAt o.msg 12) 27 25 * 2 ^ 18 + b2n o.wait * 2 ^ 21),
   wd (k.zone + k.keyType * 2 ^ 12), wd (msgEpoch o.msg)]

/-- Writes the sample of an operation whose result has arrived (17 R572). -/
def State.sampleResult (o : Op) (times : SampleTimes) (own : Bool) (s : State) : State :=
  if !o.sampled then s
  else
    let b := (tabGet {} s.pmu.sampleBucket o.cell).draw 100000 16 1 s.tim.up
    let t := s.onPmu fun p => { p with sampleBucket := tabPut {} o.cell b.2 p.sampleBucket }
    if b.1 then
      (t.noteEvt (1024 + o.cell)).pushEvent 3 0 (1024 + o.cell) o.issued (sampleBody o times s.now) own
    else t.pmuEvent o.cell 0x10 1 {}

/-- A result is applied to its frame's bytes and destination (10 R367, R368). -/
def State.applyResult (fid : Nat) (y : List Word) (s : State) : State :=
  let x := s.frame fid
  let c := s.frameCfg x
  let p := s.parsed x
  let y2 := wordAt y 0
  let cell := x.cell
  let disp := fld y2 1 0
  if disp = 1 ∨ disp = 3 then s.stopFrame fid 13 cell 0
  else if disp = 2 then (s.bump 13 cell 1 1).puntFrame fid 5
  else if rwBits y2 ≠ 0 ∧ p.fmt ≠ 1 then s.stopFrame fid 13 cell 2
  else
    let rw (t : State) : State := t.onFrame fid fun z => { z with
      data := if rwBits y2 = 0 then z.data else rwApply p y z.data, rewritten := z.rewritten || rwBits y2 != 0
      tc := if bit y2 7 then fld y2 10 8 else z.tc }
    if bit y2 2 then
      let k := lookOf c x.port p
      let t := s.bump 13 cell 3 1
      match s.viaHop k (fld y2 31 16) with
      | .drop (some i) => t.stopFrame fid 6 cell i
      | .drop none => (t.ledger fid true).dropFrame fid 0
      | .punt r => t.puntFrame fid r
      | .go ports hop _ _ _ =>
        let cs := copiesOf ports
        ((cs.foldl (fun b e => b.startWake e.1) (rw t)).onFrame fid fun z => { z with
          plan := { z.plan with copies := cs, mcast := false, hop := hop } }).issueFrame fid
    else (rw s).issueFrame fid

/-- What a parked frame does with its result. -/
def State.frameResult (fid : Nat) (r : List Word) (s : State) : State :=
  let x := s.frame fid
  let st := resultStatus r
  if x.ended && x.bad then (((s.postVoid fid).ledger fid true).onFrame fid fun y => { y with plan := { y.plan with copies := [] } }).dropFrame fid 0
  else if st = 6 ∨ st = 7 then s.degrade fid
  else s.applyResult fid (r.drop 2)

/-- FLOW_RESULT (10 R368). The result of a frame whose checksum bytes are still arriving waits for them. -/
def execFlowResult (c : Fin 64) (tag : Fin 256) (times : SampleTimes) (own : Bool) (s : State) : Res :=
  .next (match s.flo.ops.find? fun o => o.cell == c.val && o.tag == tag.val && decide (o.place = .done) with
  | none => s
  | some o =>
    if !s.cellRuns c.val then s.startWake c.val
    else
      let x := s.frame o.fid
      let parked := s.frm.parked.any fun k => k.fid == o.fid
      if parked && !x.ended && decide (x.data.length < (s.parsed x).rwEnd (wordAt o.result 2)) then s
      else
        let t := (s.onOp c.val tag.val fun _ => none).sendOps c.val
        let u := t.sampleResult o times own
        if parked then (u.unpark o.fid).frameResult o.fid o.result else u)

/-- A frame waits for its operation no longer: one that has not left its cell is not sent, and a parked frame takes its program's
degraded action (09 R321). -/
def State.giveUp (o : Op) (s : State) : State :=
  let parked := s.frm.parked.any fun k => k.fid == o.fid
  let t := (s.unpark o.fid).onIf (!o.out) fun a => a.unpostOp o
  let x := t.frame o.fid
  if !parked then t
  else if x.ended && x.bad then
    (((t.postVoid o.fid).ledger o.fid true).onFrame o.fid fun y => { y with plan := { y.plan with copies := [] } }).dropFrame o.fid 0
  else t.degrade o.fid

/-- WAIT_LIMIT_EXPIRY (09 R321). -/
def execWaitLimitExpiry (c : Fin 64) (tag : Fin 256) (s : State) : Res :=
  let hit (o : Op) : Bool := o.cell == c.val && o.tag % 256 == tag.val && s.frm.parked.any fun k => k.fid == o.fid
  .next (match s.flo.ops.find? hit with
  | none => s
  | some o => s.giveUp o)

/-- FLOW_FORMAT (09 R345, R346): the cells answer the operations that still wait for credits themselves, and their frames take the
degraded action at once (09 R323). -/
def execFlowFormat (r : Req) (s : State) : Res :=
  mailbox 0x0601 r s
    (fun q =>
      { bad := q.rsv [(4, 31, 7)] || decide (48 < q.f 4 5 0) || q.f 4 5 0 % 4 != 0 ||
          (q.f 4 6 6 == 0 && (q.f64 5 != 0 || q.f64 7 != 0))
        locks := true, busy := s.hif.pend || s.flo.formatting, ext := some 5 })
    fun q =>
      if !s.inRun || s.pfwLow then { status := stRefused, st := s }
      else
        let d := State.drawWords 4 s
        let l := if q.f 4 6 6 = 1 then [q.w 5, q.w 6, q.w 7, q.w 8] else d.1
        let salt := join (wordAt l 0) (wordAt l 1) + 2 ^ 64 * join (wordAt l 2) (wordAt l 3)
        let t := (s.flo.ops.filter fun o => !o.out).foldl (fun a o => a.giveUp o) (if q.f 4 6 6 = 1 then s else d.2)
        { wait := some .format, need := 1, st := t.onFlo fun f => { f with formatting := true, next := (salt, q.f 4 5 0) } }

end Sys2Proof.Machine
end

