-- ==== Sys2Proof/Machine/Cells.lean ====
section
/-!
DEFINITION. Cells: sleep and wake (03 R86 to R93), the application of an epoch and its isolation (04 R139, R140),
fatal isolation (16 R549), and the resets of a cell and of a port's lanes (03 R100, R111; 11 R402).
-/

namespace Sys2Proof.Machine

open Sys2Proof

/-- The ports of a cell. -/
def cellPorts (c : Nat) : List Nat := (List.range 16).map fun i => 16 * c + i

/-! ## Sleep (03 R87, R88) -/

/-- No frame is in the cell's pipeline, buffer or holding buffers, no operation of it is in flight, no chunk is queued in
it, and no hold-awake bit is set (03 R87). -/
def State.cellIdle (s : State) (c : Nat) : Bool :=
  !(s.frm.frames.any fun e => e.2.cell == c && (!e.2.ended || s.frameWaits e.1)) &&
  !(s.allCopies.any fun d => cellOf d.port == c) &&
  !((cellPorts c).any fun p => (s.port p).hold != []) &&
  !(s.flo.ops.any fun o => o.cell == c) && !(s.flo.voids.any fun v => v.cell == c) &&
  !(s.fab.partials.any fun e => e.2.src == c) && tabGet [] s.fab.first c == [] && tabGet [] s.fab.mid c == [] &&
  !((List.range 64).any fun j => (s.pairOf c j).held != []) && !(s.fab.landed.any fun d => d.dst == c) &&
  !s.hif.hold.getLsbD c

/-- DOZE_ENTRY (03 R87). -/
def execDozeEntry (c : Fin 64) (s : State) : Res :=
  .next (if s.cellRuns c.val && s.cellIdle c.val then s.onCell c.val fun x => { x with st := .doze } else s)

/-- The port has an active gate list, in force or pending (12 R447). -/
def State.gated (s : State) (p : Nat) : Bool :=
  (s.gateOf p).cur.active || (match (s.gateOf p).next with | some (l, _) => l.active | none => false)

/-- Every link of the cell is down or in low-power idle in both directions (03 R88; 06 R202). -/
def State.linksQuiet (s : State) (c : Nat) : Bool :=
  (cellPorts c).all fun p => !s.portUp p || ((s.port p).rxLpi && (s.port p).txLpi)

/-- SLUMBER_ENTRY (03 R88; 01 R30). -/
def execSlumberEntry (c : Fin 64) (s : State) : Res :=
  .next (if (s.cell c.val).st = .doze ∧ s.cellIdle c.val ∧ s.img.policy.slumberEn.getLsbD c.val ∧
      (s.linksQuiet c.val ∨ s.img.policy.activeSlumber.getLsbD c.val) ∧ !((cellPorts c.val).any s.gated) ∧
      s.outCount + b2n (!(s.cell c.val).out && !(s.cell c.val).benchSoon) ≤ 16 then
    s.onCell c.val fun x => { x with st := .slumber }
  else s)

/-! ## The application of an epoch (04 R139; 01 R24, R25) -/

/-- A port takes MODE, FEC and ENABLE of its cell's configuration: a change passes through Down (06 R199). -/
def State.applyLink (p : Nat) (s : State) : State :=
  let c := s.portCfg p
  let want := (portMode c p, portFec c p, portEnabled c p)
  if !isPort c p then (s.setLink p .disabled).onPort p fun x => { x with applied := (want.1, want.2.1, false) }
  else if (s.port p).applied = want then s
  else (((if (s.port p).link = .disabled then s else s.setLink p .down).setLink p (restLink c p)).onPort p fun x =>
    { x with applied := want, deskew := if x.applied.1 = want.1 then x.deskew else 0 })

/-- Preemption's verification follows its settings, and starts where it was disabled (06 R208); a port that may no longer idle leaves low-power idle. -/
def State.applyPreempt (p : Nat) (s : State) : State :=
  let c := s.portCfg p
  s.onPort p fun x => { x with
    verify := if x.link ≠ .up then x.verify else if !preemptEn c p then 0 else if verifyDis c p then 2
      else if x.verify = 0 ∨ x.unverified then 1 else x.verify
    unverified := verifyDis c p
    txLpi := x.txLpi && lpiPort c p, rxLpi := x.rxLpi && lpiPort c p }

/-- A new gate list is scheduled (12 R446). -/
def State.applyGate (p : Nat) (s : State) : State :=
  let g := s.gateOf p
  let have_ := match g.next with | some (l, _) => l | none => g.cur
  if s.wantedGates p = have_ then s else s.scheduleGates p (s.wantedGates p)

/-- What a port changes as its cell's APPLIED bit is set: a queue that changes its group starts its tags anew, a full bucket keeps its old
settings until its first refill, and a new LINK_DELAY replaces a measured one (12 R439, R442; 13 R474). -/
def State.applyPort (old : Cfg) (p : Nat) (s : State) : State :=
  let c := s.stg.cur
  let moved := (List.range 8).filter fun q => queueGroup old p q != queueGroup c p q
  let t := s.onEgr fun e => { e with
    finish := moved.foldl (fun f q => tabDel (qkey p q) f) e.finish
    startTag := moved.foldl (fun f q => tabDel (qkey p q) f) e.startTag
    shaper := ((List.range 9).filter fun b =>
      (tabFind e.shaper (p * 9 + b)).isNone && shaperCfg old p b != shaperCfg c p b).foldl (fun f b =>
        tabIns (p * 9 + b) (freshShaper old p b) f) e.shaper }
  if cfgFind old 0x0A20 p = cfgFind c 0x0A20 p then t else t.onPort p fun x => { x with linkDelay := none }

/-- The cell's APPLIED bit is set; meters that the epoch changes are full (07 R244). -/
def State.acceptEpoch (c : Nat) (s : State) : State :=
  let old := s.stg.prev
  if s.hif.applied.getLsbD c then s
  else
    let t := s.onHif fun h => { h with applied := h.applied ||| BitVec.ofNat 64 (2 ^ c) }
    let u := t.onCell c fun x => { x with
      meters := x.meters.filter fun e => meterWords old e.1 c == meterWords t.stg.cur e.1 c }
    (cellPorts c).foldl (fun a p => a.applyPort old p) u

/-- What a powered cell does with the epoch that it has accepted. -/
def State.enactEpoch (c : Nat) (s : State) : State :=
  (cellPorts c).foldl (fun a p => ((a.applyLink p).applyPreempt p).applyGate p) s

/-- CELL_EPOCH_APPLY: a running cell applies the epoch; a ridge controller accepts it for a slumbering one (04 R139; 01 R25). -/
def execCellEpochApply (c : Fin 64) (slots : BitVec 8) (s0 : State) : Res :=
  let s := s0.sees slots
  .next (if s.hif.applied.getLsbD c.val ∨ !s.inService c.val then s
  else match (s.cell c.val).st with
    | .run => ((s.acceptEpoch c.val).enactEpoch c.val).settleCommit
    | .slumber => (s.acceptEpoch c.val).settleCommit
    | .waking true => (s.acceptEpoch c.val).settleCommit
    | _ => s)

/-- Ports that are in use leave service; the others stay Disabled (06 R196). -/
def State.isolatePorts (c : Nat) (s : State) : State :=
  (cellPorts c).foldl (fun a p => if (a.port p).link = .disabled then a else a.setLink p .isolated) s

/-- COMMIT_ISOLATION: a cell that was in service at the publish has not applied the epoch 50 µs after it; one that a fatal event has
isolated since is among them (04 R139, R140). -/
def execCommitIsolation (c : Fin 64) (slots : BitVec 8) (s0 : State) : Res :=
  let s := s0.sees slots
  .next (if !s.hif.pend ∨ s.hif.applied.getLsbD c.val ∨ s.hif.isolated.getLsbD c.val then s
  else
    ((((s.isolatePorts c.val).onHif fun h => { h with isolated := h.isolated ||| BitVec.ofNat 64 (2 ^ c.val) }).raise
      { src := 1024 + c.val, reason := 1, cls := 2, live := true }).irq 2).settleCommit)

/-! ## Wakes (03 R89 to R93) -/

/-- CELL_WAKE: a trigger reaches a sleeping cell; a chunk wakes only a dozing one, and a commit too (03 R89, R92; 01 R25). -/
def execCellWake (c : Fin 64) (t : WakeTrigger) (s : State) : Res :=
  .next (match t with
  | .chunk | .commit => if (s.cell c.val).st = .doze then s.startWake c.val else s
  | _ => s.startWake c.val)

/-- A write that the ridge controller held, or firmware deferred, is made: whether it succeeds. One that firmware deferred installs the DEST
that the master holds by now, nothing where it holds none, and makes the cell one of the master's mask (08 R271, R273). -/
def State.makeHeld (c : Nat) (h : DynWrite) (s : State) : Bool × State :=
  match h.late && h.dest.isSome, s.master h.fid h.mac with
  | true, none => (true, s)
  | true, some m =>
    let r := s.dynMake c h.fid h.mac (some m.dest)
    if r.1 = .full then (false, r.2) else (true, r.2.putMaster h.fid h.mac { m with cells := m.cells ||| maskBits [c] })
  | false, _ =>
    let r := s.dynMake c h.fid h.mac h.dest
    (r.1 != .full, r.2)

/-- The writes that waited for a cell are made in order; each that fails is reported, as `own` finds its slot of the event ring (05 R159; 08
R273). -/
def State.applyHeld (c : Nat) : List DynWrite → List Bool → State → State
  | [], _, s => s
  | h :: l, own, s =>
    let r := s.makeHeld c h
    if r.1 then r.2.applyHeld c l own
    else
      let t := r.2.dropCopyOf c h.fid h.mac
      State.applyHeld c l own.tail
        (t.learnEvent h.ev.1 c h.fid h.mac (h.dest.getD 0) h.ev.2.1 (t.copies h.fid h.mac) 2 h.ev.2.2 (own.headD false))

/-- A cell that has lost its pipeline, meter and scheduler state starts with it anew (03 R90). -/
def State.reinitCell (c : Nat) (s : State) : State :=
  let gone (n : Nat) (t : Nat) : Bool := cellOf (t / n) == c
  (s.onCell c fun x => { x with meters := [], filter := [], learnBucket := {}, buf := [], channels := [] }).onEgr fun e =>
    { e with
      shaper := e.shaper.filter fun x => !gone 9 x.1
      vtime := e.vtime.filter fun x => !gone 2 x.1
      finish := e.finish.filter fun x => !gone 8 x.1
      startTag := e.startTag.filter fun x => !gone 8 x.1 }

/-- WAKE_COMPLETE (03 R90, R91; 08 R273; 17 R564). -/
def execWakeComplete (c : Fin 64) (own : List Bool) (slots : BitVec 8) (s0 : State) : Res :=
  let s := s0.sees slots
  .next (match (s.cell c.val).st with
  | .waking false => s.onCell c.val fun x => { x with st := .run }
  | .waking true =>
    let held := (s.cell c.val).held
    let t := (s.reinitCell c.val).onCell c.val fun x => { x with st := .run, rejoin := true, held := [] }
    let u := if s.inService c.val then ((t.acceptEpoch c.val).enactEpoch c.val).settleCommit else t
    (u.applyHeld c.val held own).pmuRelease c.val
  | _ => s)

/-! ## Fatal isolation (16 R549; 01 R30) -/

/-- Wakes cells of a list in order until `n` that return to duty are waking. -/
def wakeSome : Nat → List Nat → State → State
  | 0, _, s => s
  | _, [], s => s
  | n + 1, c :: l, s => wakeSome (if (s.cell c).returns then n else n + 1) l (s.startWake c)

/-- Wakes slumbering cells, lowest-numbered first, until at most 16 stay out of duty; a cell that already wakes from
Slumber returns (01 R30). -/
def State.wakeForDuty (s : State) : State :=
  let back := ((List.range 64).filter fun c => decide ((s.cell c).st = .waking true) && (s.cell c).returns).length
  wakeSome (s.outCount - 16 - back) ((List.range 64).filter fun c => decide ((s.cell c).st = .slumber)) s

/-- A fatal event of a cell isolates it: it counts as out of duty at once, and leaves duty at the next rotation boundary. -/
def State.isolateCell (c : Nat) (s : State) : State :=
  if (s.cell c).fatalIso then s
  else ((s.isolatePorts c).onCell c fun x => { x with fatalIso := true, isoSoon := !x.out }).wakeForDuty

/-- CELL_WAKE_TIMEOUT: the cell is not in Run 2.6 µs after a trigger (16 R538). -/
def execCellWakeTimeout (c : Fin 64) (s : State) : Res :=
  .next (match (s.cell c.val).st with
  | .waking _ =>
    if s.passed (s.cell c.val).wakeAt 2600 then
      (s.raise { src := 1024 + c.val, reason := 9, cls := 3, live := true }).isolateCell c.val
    else s
  | _ => s)

/-- CELL_ISOLATION: the action of a cell's fatal event that is still live (16 R549). -/
def execCellIsolation (c : Fin 64) (s : State) : Res :=
  .next (if (s.cell c.val).st ≠ .off ∧
      (s.flt.live.contains (1024 + c.val, 9) ∨ s.flt.live.contains (1024 + c.val, 10)) then s.isolateCell c.val
  else s)

/-- A fatal event whose action is the module fatal reset; the reset follows the seal of the journal (16 R549; 14 R602). -/
def State.fatalEvent (e : Ev) (s : State) : State :=
  let t := (s.raise e).onIf s.crn.fwRuns State.sealBegin
  t.onCrn fun c => match c.fatalTrig with
    | some _ => c
    | none => { c with fatalTrig := some (e.src, e.reason), fatalAt := s.upNs }

/-- What a unit's failure brings about while the FLT block runs (16 R538, R549, R551; log entry 89). -/
def State.unitFault (u : SupplyUnit) (s : State) : State :=
  match u with
  | .cell c =>
    if (s.cell c.val).st = .off then s
    else (s.raise { src := 1024 + c.val, reason := 10, cls := 3, live := true }).isolateCell c.val
  | .ridge r => s.fatalEvent { src := 1088 + r.val, reason := 4, cls := 3 }
  | .stackGroup g => s.fatalEvent { src := 1096 + g.val, reason := 3, cls := 3 }
  | .core k w => s.fatalEvent { src := 1112 + k.val, reason := 1, cls := 3, access := 1, addr := tableWord 13 w }
  | .crypto => s.fatalEvent { src := 1149, reason := 1, cls := 3 }
  | .pcie => s.raise { src := 1144, reason := 1, cls := 1 }
  | .rail => s.fatalEvent { src := 1134, reason := 1, cls := 3 }
  | .flash => s.raise { src := 1136, reason := 1, cls := 1 }

/-- SUPPLY_FAULT: fault actions need no firmware. Cairn sees its rail and its flash whenever it runs, the other units fail while the FLT block
runs (14 R485; 16 R540, R549). -/
def execSupplyFault (u : SupplyUnit) (s : State) : Res :=
  let seen := match u with | .rail => s.cairnRuns | .flash => s.cairnRuns | _ => s.fltRuns
  .next (if seen then s.unitFault u else s)

/-! ## Cell reset (03 R100; 11 R402) -/

/-- Drops what waits at a port of a cell that is reset, and cuts what it sends and receives (06 R197). -/
def State.resetPort (p : Nat) (s : State) : State :=
  let t := s.dropLink p
  ((t.allCopies.filter fun c => c.port == p).foldl (fun a c => a.refuseCopy c 1 19 5) t).onPort p fun x => { x with colBucket := {} }

/-- A frame that waits in the cell ends, counted in LINK_DOWN_DROP of its port (03 R100; log entry 57). -/
def State.loseFrame (fid : Nat) (s : State) : State :=
  ((((s.onIf ((s.frame fid).host.isNone && (s.frame fid).mirrorOf.isNone) fun a => a.bump 1 (s.frame fid).port 19 1).unpark fid).onFrm fun m => { m with
    late := m.late.filter fun f => f != fid, recirc := m.recirc.filter fun f => f != fid
    colReady := m.colReady.filter fun e => e.1 != fid, colHeld := m.colHeld.filter fun e => e.1 != fid }).onFrame fid fun x =>
      { x with plan := { x.plan with punt := none }, packed := x.data.length }).dropFrame fid 7

/-- Chunks of a reset cell: those from it are lost with its next PGEN; those it relays are gone until their loss is
declared; its own pairs start at each source's next SEQ (11 R402). A chunk dropped here counts in RESEQ_LOST of the cell, one that a
destination discards in RESEQ_LATE of that one (03 R100; 11 R400; log entry 57). -/
def State.resetChunks (c : Nat) (s : State) : State :=
  let f := s.fab
  let own := (f.partials.filter fun e => e.2.src == c).map (fun e => e.2) ++ tabGet [] f.first c
  let held := (List.range 64).flatMap fun j => (s.pairOf j c).held ++ (s.pairOf c j).held
  let g := (tabGet 0 f.pgen c + 1) % 4
  let t := s.onFab fun f => { f with
    partials := f.partials.filter fun e => e.2.src != c, first := tabDel c f.first
    gone := f.gone ++ tabGet [] f.mid c, mid := tabDel c f.mid, pgen := tabPut 0 c g f.pgen
    seq := f.seq.filter fun e => e.1 / 64 != c }
  let u := (List.range 64).foldl (fun a j =>
    let b := if j = c then a else (a.pairOf j c).held.foldl (fun x _ => x.bufSub j regReseq 1) a
    let d := b.onPairOf j c fun _ => { pgen := g }
    if j = c then d else d.onPairOf c j fun q => { expect := tabGet 0 d.fab.seq (j * 64 + c), pgen := q.pgen }) t
  let late (a : State) (j : Nat) : State :=
    if j = c then a else (s.pairOf j c).held.foldl (fun x _ => x.bump 14 j 6 1) a
  let v := ((List.range 64).foldl late u).onIf true fun a =>
    a.bump 14 c 5 (own.length + ((List.range 64).map fun j => (s.pairOf c j).held.length).sum)
  (own ++ held).foldl (fun a d => a.losePieces d.dst d.pieces) v

/-- A cell reset begins: what the cell holds is dropped and counted; its class V state returns to reset (03 R100, R101). -/
def State.startCellReset (c : Nat) (s : State) : State :=
  let kinds : List Nat := [3, 4, 5, 6, 9, 13, 14, 16]
  let mine (k : Nat) : Bool :=
    let kind := k / 2 ^ 48
    let inst := k % 2 ^ 48 / 2 ^ 16
    kinds.contains kind && (if kind = 3 then inst / 2 ^ 16 else if kind = 4 then inst / 4096 else inst) == c
  let t : State := { s with ctr := s.ctr.filter fun e => !mine e.1 }
  let u := (cellPorts c).foldl (fun a p => a.resetPort p) t
  let waits := (u.frm.frames.filter fun e => e.2.cell == c && decide (e.2.path = .held ∨ e.2.path = .colReady)).map fun e => e.1
  let v := (waits.foldl (fun a f => a.loseFrame f) u).resetChunks c
  let w := v.onFlo fun f => { f with
    ops := f.ops.filter fun o => !(o.cell == c && !o.out), voids := f.voids.filter fun x => !(x.cell == c && !x.passed && !v.sentVoid x) }
  let x := w.reinitCell c
  (x.pmuDrop fun b => b == c).onCell c fun y => { y with
      st := .run, resetting := true, ageRow := 0, svcSkip := true }

/-- A cell's isolation ends with the live conditions that last until RESET_CELL succeeds (03 R100; 16 R538). -/
def State.clearIsolation (c : Nat) (s : State) : State :=
  let t := (s.onHif fun h => { h with isolated := h.isolated &&& ~~~ BitVec.ofNat 64 (2 ^ c) }).onCell c fun x => { x with
    fatalIso := false, isoSoon := false, benched := false, benchSoon := false, unbenchSoon := false }
  [1, 5, 9, 10].foldl (fun a r => a.endLive (1024 + c) r) t

/-- RESET_CELL (03 R81, R82, R100). -/
def execResetCell (r : Req) (s : State) : Res :=
  mailbox 0x0111 r s (fun q => { bad := q.rsv [(4, 31, 6)], busy := s.hif.pend || s.changing, ext := some 1 }) fun q =>
    let c := q.f 4 5 0
    if s.sup.pfw then { status := stRefused, st := s }
    else if s.crn.mod ≠ .run then
      { st := (cellPorts c).foldl (fun a p =>
          if (a.port p).link = .isolated then a.setLink p (restLink a.stg.cur p) else a) (s.clearIsolation c) }
    else match (if (s.cell c).out then some s else s.dutyPlace) with
      | none => { status := stRefused, st := s }
      | some t => { st := t.startCellReset c, wait := some (.cellReset c) }

/-- CELL_RESET_DONE: the cell reapplies the current epoch, its ports return, the writes that waited for it are made, and it rejoins duty
(03 R100; 04 R140; 08 R273). -/
def execCellResetDone (c : Fin 64) (own : List Bool) (slots : BitVec 8) (s0 : State) : Res :=
  let s := s0.sees slots
  .next (if (s.cell c.val).resetting then
    let held := (s.cell c.val).held
    let t := (s.clearIsolation c.val).onCell c.val fun x => { x with resetting := false, rejoin := true, held := [] }
    let u := (cellPorts c.val).foldl (fun a p =>
      if (a.port p).link = .isolated then a.setLink p (restLink a.stg.cur p) else a) t
    let v := ((u.acceptEpoch c.val).enactEpoch c.val).settleCommit
    (v.applyHeld c.val held own).answerDeferred (fun k => k == .cellReset c.val) fun _ => []
  else s)

/-! ## Lane reset and hold-awake (03 R110, R111) -/

/-- RESET_LANE (03 R81, R82, R111; 16 R549). -/
def execResetLane (r : Req) (s : State) : Res :=
  mailbox 0x0112 r s (fun q => { bad := q.rsv [(4, 31, 10)], busy := s.changing, ext := some 1 }) fun q =>
    let lane := q.f 4 9 0
    let p := portOf (s.portCfg lane) lane
    if s.sup.pfw then { status := stRefused, st := s }
    else
      let t := if (s.port p).link = .up then s.setLink p .down else s
      { st := (t.onPort p fun x => { x with
          shut := false, hold := [], deskew := 0, rxLpi := false, txLpi := false, txReadyAt := 0 }).endLive p 6 }

/-- POWER_HOLD_AWAKE (03 R110). -/
def execPowerHoldAwake (r : Req) (s : State) : Res :=
  mailbox 0x0103 r s (fun _ => { ext := some 2 }) fun q =>
    let m := q.f64 4
    let t := s.onHif fun h => { h with hold := BitVec.ofNat 64 m }
    { st := (bitsOf 64 m).foldl (fun a c => a.startWake c) t }

end Sys2Proof.Machine
end

