-- ==== Sys2Proof/Machine/Fault.lean ====
section
/-!
DEFINITION. Fault commands, the clearing of sources, and KIND 2 entries (16).
-/

namespace Sys2Proof.Machine

open Sys2Proof

/-- Empties the first-fault record (16 R548). -/
def State.rearm (s : State) : State := s.onFlt fun f => { f with ffr := {} }

/-- FLT_EVT_WRITE to word n (16 R544, R545). -/
def execFltEvtWrite (n : Fin 36) (v : Word) (s : State) : Res :=
  .next (s.access (0x30100 + 4 * n.val) fun s => (s.clearSources ((bitsOf 32 v.toNat).map fun b => 32 * n.val + b)).2)

/-- FFR_VALID_WRITE (16 R548). -/
def execFfrValidWrite (v : Word) (s : State) : Res :=
  .next (s.access 0x30010 fun s => if bit v 0 then s.rearm else s)

/-- FLT_STATUS (16 R556). -/
def execFltStatus (r : Req) (s : State) : Res :=
  mailbox 0x0D01 r s (fun _ => { ext := some 0 }) fun _ =>
    { words := [s.fltSummary, s.fltClrResult, s.ffrCtrl, wd s.flt.ffr.reason] ++ two s.flt.ffr.addr ++
        two s.flt.ffr.time ++ [s.fltResetCause, wd s.flt.suppressed]
      st := s }

/-- The status words of index n (16 R557). -/
def State.fltWords (s : State) (n : Nat) : List Word :=
  [statusWord s.flt.evt n, statusWord s.flt.flt n, statusWord s.flt.fatal n, statusWord s.cause n]

/-- FLT_READ (16 R557). -/
def execFltRead (r : Req) (s : State) : Res :=
  mailbox 0x0D02 r s
    (fun q => { bad := q.rsv [(4, 31, 12)] || decide (14 < q.f 4 11 6) || decide (36 < q.f 4 5 0 + q.f 4 11 6), ext := some 1 })
    fun q => { words := wd (q.f 4 11 6) :: ((List.range (q.f 4 11 6)).flatMap fun j => s.fltWords (q.f 4 5 0 + j)), st := s }

/-- The sources that FLT_CLEAR names (16 R558). -/
def clearList (q : Req) : List Nat :=
  (List.range (q.f 4 6 0)).map fun i => if i % 2 = 0 then q.f (5 + i / 2) 10 0 else q.f (5 + i / 2) 26 16

/-- Packs sources two to a word (16 R558). -/
def packSources : List Nat → List Word
  | [] => []
  | [a] => [wd a]
  | a :: b :: t => wd (a + b * 2 ^ 16) :: packSources t

/-- FLT_CLEAR (16 R558). -/
def execFltClear (r : Req) (s : State) : Res :=
  mailbox 0x0D03 r s
    (fun q =>
      let n := (q.f 4 6 0 + 1) / 2
      { bad := q.rsv [(4, 31, 7)] || decide (118 < q.f 4 6 0) || decide (q.size < 1 + n) ||
          ((List.range n).any fun m => q.f (5 + m) 15 11 != 0 || q.f (5 + m) 31 27 != 0) ||
          (clearList q).any fun x => decide (1151 < x)
        ext := some (1 + n) })
    fun q =>
      if q.f 4 6 0 = 0 then { st := s }
      else
        let c := s.clearSources (clearList q).dedup
        if c.1 = [] then { st := c.2 } else { status := stPartial, words := wd c.1.length :: packSources c.1, st := c.2 }

/-- FLT_FFR_REARM (16 R548, R556). -/
def execFltFfrRearm (r : Req) (s : State) : Res :=
  mailbox 0x0D04 r s (fun _ => { ext := some 0 }) fun _ => { st := s.rearm }

/-- FLT_ALERT_SET: COUNT is from 0 to 14, as FLT_READ's (16 R557; log entry 126). -/
def execFltAlertSet (r : Req) (s : State) : Res :=
  mailbox 0x0D05 r s
    (fun q => { bad := q.rsv [(4, 31, 12)] || decide (14 < q.f 4 11 6) || decide (36 < q.f 4 5 0 + q.f 4 11 6) ||
          decide (q.size < 1 + q.f 4 11 6)
                ext := some (1 + q.f 4 11 6) })
    fun q => { st := s.onFlt fun f => { f with
      alertEn := (List.range (q.f 4 11 6)).foldl (fun v j => setStatusWord v (q.f 4 5 0 + j) (q.w (5 + j))) f.alertEn } }

/-- FLT_INJECT: the GCC core that runs it is not fixed (16 R559; log entry 3). -/
def execFltInject (r : Req) (s : State) : Res :=
  mailbox 0x0D06 r s
    (fun q => { bad := q.rsv [(4, 31, 13)] || q.f 4 12 11 == 3 || decide (1151 < q.f 4 10 0), ext := some 1 })
    fun q => { st := s.raiseByCore { src := q.f 4 10 0, reason := 0xFFFF, cls := q.f 4 12 11, injected := true } }

/-- ACTION of a KIND 2 entry (16 R549, R554). -/
def actionOf (e : Ev) : Nat :=
  if e.cls ≠ 3 then 0 else if e.src < 1024 then 1 else if e.src < 1088 then 2 else if e.src = 1129 then 0 else 3

/-- The body of a KIND 2 entry (16 R554). -/
def kind2Body (e : Ev) (suppressed : Nat) : List Word :=
  [wd (e.reason + actionOf e * 2 ^ 16 + b2n e.first * 2 ^ 18 + b2n e.live * 2 ^ 19 + b2n e.ended * 2 ^ 20 + b2n e.injected * 2 ^ 21),
   wd (e.master + e.access * 2 ^ 8 + suppressed * 2 ^ 16)] ++ two e.addr ++ two e.detail

/-- Whether an event's ring can neither take its entry now nor queue it, so that the entry is lost (05 R171). -/
def State.entryLost (s : State) (e : Ev) : Bool :=
  match s.eventRing 2 e.cls with
  | none => false
  | some i => decide (64 ≤ (s.ring i).held.length)

/-- FLT_ENTRY_WRITE: the oldest event's entry goes to its ring, or is suppressed; the number suppressed stays for the next entry
that is written where this one is lost (16 R542, R543). -/
def execFltEntryWrite (own : Bool) (s : State) : Res :=
  .next (match s.flt.queue with
  | [] => s
  | e :: rest =>
    let t := s.onFlt fun f => { f with queue := rest }
    if (t.eventRing 2 e.cls).isNone then t
    else
      let b := (tabGet {} t.flt.bucket e.src).draw 1000 32 1 t.tim.up
      let u := t.onFlt fun f => { f with bucket := tabPut {} e.src b.2 f.bucket }
      if b.1 then
        let v := u.pushEvent 2 e.cls e.src e.time (kind2Body e (tabGet 0 u.flt.supBy e.src)) own
        if u.entryLost e then v else v.onFlt fun f => { f with supBy := tabDel e.src f.supBy }
      else u.onFlt fun f => { f with
        suppressed := satAdd 0xFFFFFFFF f.suppressed 1, supBy := tabMod 0 e.src (fun n => satAdd 65535 n 1) f.supBy })

/-- A firmware log line: a KIND 4 entry of its core, and the same line on UART_TXD (14 R504; 02 R54). -/
def execFirmwareLogLine (core : Fin 16) (sev : Fin 3) (id : Nat) (text : List Byte) (own : Bool) (s : State) : Res :=
  .next (if s.crn.fwRuns then
    let body := wd (sev.val + id % 2 ^ 16 * 2 ^ 16) :: bytesToWords (text.take 44)
    (s.kindEvent 4 (if sev.val = 2 then 1 else 0) (1112 + core.val) body own).emit (.uart (asciiLine (text.take 44)))
  else s)

end Sys2Proof.Machine
end

