-- ==== Sys2Proof/Machine/Perf.lean ====
section
/-!
DEFINITION. Performance monitors: the rows of the windows and of sampling settings (17), and the SYSCLK25
cycle that moves the master counter (13 R461).
-/

namespace Sys2Proof.Machine

open Sys2Proof

/-! ## The SYSCLK25 cycle (13 R461; 17 R561) -/

/-- What the master counter gains in one SYSCLK25 cycle, in units of 2^-48 ns (13 R461). -/
def Tim.cycle (t : Tim) : Nat := (((40 * 2 ^ 48 : Int) * (10 ^ 12 + t.rate)) / 10 ^ 12).toNat

/-- Cycles that a block's clock makes in 40 ns. -/
def pmuCycles (b : Nat) : Nat := if b < 72 then 50 else if b < 200 then 40 else 80

/-- The levels of a block's occupancy events (17 R566, R567). A run takes no time, so a context is busy only while a COMP
holds or stalls it (log entry 127). -/
def State.pmuLevels (s : State) (b : Nat) : List (Nat × Nat) :=
  if b < 64 then
    [(0x0B, (s.flo.ops.filter fun o => o.cell == b && o.out).length), (0x0C, (s.frm.parked.filter fun k => k.cell == b).length),
     (0x0D, (tabGet [] s.fab.first b).length)]
  else if b < 72 then [(0x08, (s.cacheOf (b - 64)).length)]
  else if b < 200 then
    let e := b - 72
    [(0x02, (s.prg.ctx.filter fun x => x.1 / 16 == e && x.2.holds.isSome).length),
     (0x03, (s.flo.ops.filter fun o => o.engine == e && o.queued != 0 && decide (o.place = .home)).length),
     (0x06, (s.atHome.filter fun a => a.engine == e && s.waitsRecord a).length), (0x07, s.heldContexts e)]
  else []

/-- What a level adds over a SYSCLK25 cycle: a sixteenth in each of the block's cycles, the remainder in the last cycle of each window of
16 (17 R566). -/
def levelParts (b tick level : Nat) : Nat :=
  let n := pmuCycles b
  n * (level / 16) + level % 16 * ((tick + 1) * n / 16 - tick * n / 16)

/-- The hold that kept a cell from using its slots: credit, buffer or fabric (17 R569). -/
def State.slotHold (s : State) (c : Nat) : Option Nat :=
  if (s.flo.ops.any fun o => o.cell == c && decide (o.place = .credit)) then some 5
  else if !s.hasRoom c regIngress 1 || !s.hasRoom c regPark 1 then some 6
  else if s.fab.refused.getLsbD c then some 7
  else none

/-- The slots of a cell's SYSCLK25 cycle that no key took are Held or Empty; keys beyond the cycle's slots took those of later cycles
(17 R569). -/
def State.slotTick (c : Nat) (s : State) : State :=
  let used := tabGet 0 s.pmu.keys c
  let free := pmuCycles c - used
  let t := s.onPmu fun p => { p with keys := tabPut 0 c (used - pmuCycles c) p.keys }
  match s.slotHold c with
  | none => t.pmuEvent c 3 free {}
  | some h => (t.pmuEvent c 4 free {}).pmuEvent c h free {}

/-- A cell whose last register has been cleared forgets the keys that it has not served. -/
def State.dropKeys (s : State) : State :=
  s.onPmu fun p => { p with keys := p.keys.filter fun e => p.regs.any fun r => r.1 / 128 == e.1 }

/-- One SYSCLK25 cycle of a block's PMU. -/
def State.pmuTick (b : Nat) (s : State) : State :=
  if !s.pmuClock b then s
  else
    let t := s.onIf (s.pmuWord b 0 % 2 == 1) fun a => a.pmuAdd b 0 (pmuCycles b)
    let u := (t.pmuLevels b).foldl (fun a e => a.pmuEvent b e.1 (levelParts b t.pmu.ticks e.2) {}) t
    if b < 64 then u.slotTick b
    else if b < 72 then u
    else (if b < 200 then [0x05] else [0x01, 0x02, 0x03, 0x04]).foldl (fun a ev => a.pmuOpen b ev) u

/-- A pending scheduled change whose time has come is applied after an immediate one (13 R470). -/
def State.applyDueRate (s : State) : State :=
  match s.tim.rateNext with
  | some (r, at_) => if at_ ≤ s.now then s.onTim fun t => { t with rate := r, rateNext := none } else s
  | none => s

/-- One SYSCLK25 cycle: the counter and the time since power-up, an immediate change at its edge and then a scheduled rate that is due, and
the running cycle counters (13 R470; log entry 4). -/
def State.edge (f : Tim → Tim) (s : State) : State :=
  if s.crn.mod = .unpowered ∨ s.crn.mod = .softStart then s
  else
    let t := (s.onTim fun t => f { t with ctr := t.ctr + t.cycle, up := t.up + t.cycle }).applyDueRate.snapTake
    if t.pmu.regs = [] ∧ t.pmu.keys = [] then t
    else
      let u := t.dropKeys
      ((u.pmu.regs.map fun e => e.1 / 128).dedup.foldl (fun a b => a.pmuTick b) u).onPmu fun p => { p with ticks := (p.ticks + 1) % 8 }

/-- A SYSCLK25 cycle without an immediate change. -/
def State.tick (s : State) : State := s.edge id

/-! ## Rows -/

/-- The PMU counter half that a BAR0 offset names, with its block and word. -/
def pmuHalf (off : Nat) (high : Bool) : Option (Nat × Nat) :=
  match pmuWindow off with
  | some (b, w) =>
    match pmuReg b w with
    | .cntLo _ => if high then none else some (b, w)
    | .cntHi _ => if high then some (b, w) else none
    | _ => none
  | none => none

/-- PMU_CNT_LO_WRITE: the low word is held for its master (17 R562). -/
def execPmuCntLoWrite (off : Nat) (v : Word) (s : State) : Res :=
  .next (match pmuHalf off false with
  | some (b, w) => s.access off fun s => s.pmuWrite 0x59 b w v
  | none => s)

/-- PMU_CNT_HI_WRITE: the held low word and the high word are loaded together (17 R562). -/
def execPmuCntHiWrite (off : Nat) (v : Word) (s : State) : Res :=
  .next (match pmuHalf off true with
  | some (b, w) => s.access off fun s => s.pmuWrite 0x59 b w v
  | none => s)

/-- COUNTER_WRAP: a counter passes from 2^48 - 1 to 0 and its OVF bit is set (17 R561). The row stands for
wraps of counters whose occurrences the model does not count one by one (log entry 22). -/
def execCounterWrap (block : Fin 201) (item : Fin 9) (s : State) : Res :=
  .next (if item.val ≤ pmuCounters block.val ∧ s.pmuClock block.val then
    s.pmuAdd block.val item.val (2 ^ 48 - s.pmuCnt block.val item.val)
  else s)

/-- The master for whose load a mailbox command's low word is held: firmware's, not the host's (17 R562, R577). -/
def mailboxMaster : Nat := 0x48

/-- PMU_SET (17 R578). -/
def execPmuSet (r : Req) (s : State) : Res :=
  mailbox 0x0E01 r s
    (fun q =>
      { bad := q.rsv [(4, 31, 13), (5, 31, 9), (6, 31, 29)] || decide (200 < q.f 4 7 0) ||
          decide (pmuCounters (q.f 4 7 0) ≤ q.f 4 11 8)
        ext := some 7 })
    fun q =>
      let b := q.f 4 7 0
      let k := q.f 4 11 8
      let t := (List.range 6).foldl (fun a i => a.pmuWrite mailboxMaster b (8 + 8 * k + i) (q.w (5 + i))) s
      let zero (o : Nat) (v : Word) (a : State) : State := a.pmuWrite mailboxMaster b o v
      { st := t.onIf (q.f 4 12 12 == 1) fun a => zero 1 (wd (2 ^ k)) (zero (15 + 8 * k) 0 (zero (14 + 8 * k) 0 a)) }

/-- PMU_READ (17 R579). -/
def execPmuRead (r : Req) (s : State) : Res :=
  mailbox 0x0E02 r s
    (fun q =>
      { bad := q.rsv [(4, 31, 16)] || decide (200 < q.f 4 7 0) ||
          decide (pmuCounters (q.f 4 7 0) + 1 < q.f 4 11 8 + q.f 4 15 12)
        ext := some 1 })
    fun q =>
      let b := q.f 4 7 0
      { words := [wd (q.f 4 15 12), s.pmuRead b 1] ++ two s.now ++ two s.now ++
          ((List.range (q.f 4 15 12)).flatMap fun i => if s.pmuPowered b then two (s.pmuCnt b (q.f 4 11 8 + i)) else [0, 0])
        st := s }

/-- PMU_SAMPLE_SET: a cell that is off keeps no setting (17 R560, R564, R580). -/
def execPmuSampleSet (r : Req) (s : State) : Res :=
  mailbox 0x0E03 r s
    (fun q => { bad := q.rsv [(4, 31, 26)] || q.f64 5 == 0, ext := some 3 })
    fun q =>
      let set1 (a : State) (c : Nat) : State :=
        let d := sampleReload (q.f 4 15 0) a
        let m : Sample :=
          if q.f 4 15 0 = 0 then {}
          else { period := q.f 4 15 0, progEn := q.f 4 16 16 == 1, program := q.f 4 25 17, count := d.1 }
        d.2.onPmu fun p => { p with sample := tabPut {} c m p.sample }
      { st := ((bitsOf 64 (q.f64 5)).filter s.pmuPowered).foldl set1 s }

/-- SAMPLE_TRIGGER: the count has expired, so the next OPERATE that the cell sends is sampled (17 R571). -/
def execSampleTrigger (c : Fin 64) (s : State) : Res :=
  let m := tabGet {} s.pmu.sample c.val
  .next (if m.period ≠ 0 ∧ m.count ≤ 1 then
    s.onPmu fun p => { p with sample := tabPut {} c.val { m with armed := true } p.sample }
  else s)

end Sys2Proof.Machine
end

