-- ==== Sys2Proof/Machine/Time.lean ====
section
/-!
DEFINITION. The time base: step, rate, reanchor, timed outputs, followers and the transparent clock's settings (13).
-/

namespace Sys2Proof.Machine

open Sys2Proof

/-! ## Step and rate (13 R466, R470, R480, R481) -/

/-- The end of the counter's range: 2^48 seconds, in units of 2^-48 ns. -/
def ctrTop : Int := (2 ^ 48 * 10 ^ 9 * nsUnit : Nat)

/-- The counter after a step of a signed offset in ns. -/
def State.steppedCtr (s : State) (off : Int) : Int := (s.tim.ctr : Int) + off * (nsUnit : Int)

/-- TIME_STEP: the step falls at the first SYSCLK25 edge after the command arrives (13 R466, R480). -/
def execTimeStep (r : Req) (s : State) : Res :=
  let t := s.tick
  mailbox 0x0A01 r s
    (fun q =>
      let c := t.steppedCtr (signed64 (q.f64 4))
      { bad := decide (c < 0) || decide (ctrTop ≤ c), ext := some 2 })
    fun q =>
      if s.tim.stepped then { status := stRefused, st := s }
      else
        let u := t.onTim fun m => { m with
          ctr := (t.steppedCtr (signed64 (q.f64 4))).toNat, stepped := true
          steps := (t.upNs, signed64 (q.f64 4)) :: m.steps }
        let v := ((u.onTim fun m => { m with stepAt := u.now }).applyDueRate.snapTake).raise { src := 1130, reason := 1, cls := 0 }
        { words := two v.tim.stepAt, st := v }

/-- Counter time, in ns, of the first edge at or after a counter time (13 R470). -/
def State.edgeAt (s : State) (at_ : Nat) : Nat :=
  let c := max 1 s.tim.cycle
  let k := max 1 ((at_ * nsUnit - s.tim.ctr + c - 1) / c)
  (s.tim.ctr + k * c) / nsUnit % 2 ^ 64

/-- TIME_RATE (13 R470, R481). -/
def execTimeRate (r : Req) (s : State) : Res :=
  mailbox 0x0A02 r s
    (fun q =>
      let rate := signed64 (q.f64 4)
      { bad := decide (rate < -500000000) || decide (500000000 < rate) ||
          decide (q.f64 6 ≠ 0 ∧ q.f64 6 < s.now + 10000)
        ext := some 4 })
    fun q =>
      let rate := signed64 (q.f64 4)
      if s.img.policy.rateLimit < rate.natAbs then { status := stRefused, st := s }
      else if q.f64 6 = 0 then
        let t := s.edge fun m => { m with rate := rate }
        { words := two t.now, st := t }
      else
        { words := two (s.edgeAt (q.f64 6)), st := s.onTim fun m => { m with rateNext := some (rate, q.f64 6) } }

/-- RATE_CHANGE_APPLY: the edge at which the pending scheduled rate takes effect, the first at or after its time (13 R470). -/
def execRateChangeApply (s : State) : Res :=
  let t := s.tick
  .next (if s.tim.rateNext.isSome && t.tim.rateNext.isNone then t else s)

/-! ## Status, UTC and reanchor (13 R469, R482) -/

/-- TIME_STATUS (13 R482). -/
def execTimeStatus (r : Req) (s : State) : Res :=
  mailbox 0x0A03 r s (fun _ => { ext := some 0 }) fun _ =>
    { words := s.timeStatus :: two s.now ++ two (unsigned64 s.tim.rate) ++ two s.tim.stepAt ++
        two (match s.tim.rateNext with | some (_, a) => a | none => 0)
      st := s }

/-- TIME_UTC_SET (13 R482). -/
def execTimeUtcSet (r : Req) (s : State) : Res :=
  mailbox 0x0A04 r s (fun q => { bad := q.rsv [(4, 31, 8)], ext := some 1 }) fun q =>
    { st := s.onTim fun t => { t with utc := q.f 4 7 0 } }

/-- A configuration without gate lists. -/
def noGates (c : Cfg) : Cfg := tabKeep (fun k => cfgOp k != 0x0903) c

/-- The command words that disable a port's gate list (12 R457). -/
def gateOff (p : Nat) : List Word := [0x0903, wd (8 * 2 ^ 16), 0, 0, wd p, 0, 0, 0]

/-- Clears every gate list, in force, committed and staged, and journals that the committed ones are gone
(13 R469; 12 R445; log entry 23). -/
def State.clearGates (s : State) : State :=
  let l := (cfgAll s.stg.cur 0x0903).map fun e => e.1
  let t := (s.onStg fun g => { g with
    cur := noGates g.cur, prev := noGates g.prev, staged := noGates g.staged
    log := g.log.filter fun w => fld (wordAt w 0) 15 0 != 0x0903 }).onEgr fun e => { e with gate := [] }
  if l = [] then t
  else
    (t.appendJournal (l.map (fun p => commandRecord s.hif.epoch (gateOff p)) ++ [commitRecord s.hif.epoch])).onImg fun m =>
      { m with configDigest := digestOf t.stg.cur t.stg.imm }

/-- Drives every TPULSE pin low and turns every schedule off (13 R469). -/
def State.clearPulses (s : State) : State :=
  let t := s.tim.pulse.foldl (fun a e => a.onIf e.2.high fun b => b.emit (.tpulse e.1 false)) s
  t.onTim fun m => { m with pulse := [] }

/-- TIME_REANCHOR (13 R469). -/
def execTimeReanchor (r : Req) (s : State) : Res :=
  mailbox 0x0A0F r s (fun _ => { busy := s.hif.pend, ext := some 0 }) fun _ =>
    { st := (s.clearGates.clearPulses.onTim fun t => { t with
        rateNext := none, stepped := false, stepAt := 0, domain := satAdd 255 t.domain 1 }).raise
          { src := 1130, reason := 2, cls := 1 } }

/-! ## Timed outputs (13 R475 to R477, R483) -/

def State.pulseOf (s : State) (n : Nat) : Pulse := tabGet {} s.tim.pulse n

/-- The first edge of a setting at or after a time (13 R477). -/
def firstEdge (g : PulseSet) (t : Nat) : Nat :=
  if g.mode = 2 ∧ g.start < t then g.start + (t - g.start + g.period - 1) / g.period * g.period else g.start

/-- Puts a setting into force on a pin that is low. A single pulse whose START has passed does not begin (log entry 25). -/
def startPulse (g : PulseSet) (now : Nat) : Pulse :=
  if g.mode = 0 ∨ (g.mode = 1 ∧ g.start < now) then {} else { cur := g, edge := firstEdge g now }

/-- TIME_PULSE_SET (13 R468, R477, R483). -/
def execTimePulseSet (r : Req) (s : State) : Res :=
  mailbox 0x0A10 r s
    (fun q =>
      let m := q.f 4 4 3
      let start := q.f64 5
      let period := q.f 7 31 0
      let width := q.f 8 29 0
      { bad := q.rsv [(4, 31, 5), (8, 31, 30)] || m == 3 ||
          (m == 0 && (start != 0 || period != 0 || width != 0)) ||
          (m != 0 && !inRange width 8 1000000000) ||
          (m == 1 && (period != 0 || decide (start < s.now + 10000))) ||
          (m == 2 && (!inRange period 100 4000000000 || decide (period ≤ width)))
        ext := some 5 })
    fun q =>
      let m := q.f 4 4 3
      if m ≠ 0 ∧ !s.tim.stepped then { status := stRefused, st := s }
      else
        let g0 : PulseSet := { mode := m, start := q.f64 5, period := q.f 7 31 0, width := q.f 8 29 0 }
        let g : PulseSet := { g0 with start := firstEdge g0 (s.now + 10000) }
        let old := s.pulseOf (q.f 4 2 0)
        let new : Pulse := if old.high then { old with next := some g } else startPulse g s.now
        { st := s.onTim fun t => { t with pulse := tabPut {} (q.f 4 2 0) new t.pulse } }

/-- PULSE_EDGE: the pin's next edge, once the master counter has come to it (13 R475, R477). -/
def execPulseEdge (n : Fin 8) (s : State) : Res :=
  let p := s.pulseOf n.val
  .next (if s.now < p.edge then s
  else if p.high then
    let q : Pulse := match p.next with
      | some g => startPulse g p.edge
      | none => if p.cur.mode = 2 then { cur := p.cur, edge := p.edge - p.cur.width + p.cur.period } else {}
    (s.onTim fun t => { t with pulse := tabPut {} n.val q t.pulse }).emit (.tpulse n.val false)
  else if p.cur.mode ≠ 0 then
    (s.onTim fun t => { t with
      pulse := tabPut {} n.val { p with high := true, edge := p.edge + p.cur.width } t.pulse }).emit (.tpulse n.val true)
  else s)

/-- TIME_PULSE_STATUS (13 R478). -/
def State.pulseStatus (s : State) : Word :=
  wd (s.tim.pulse.map fun e => e.2.cur.mode * 4 ^ e.1).sum

/-! ## Followers (13 R463) -/

/-- FOLLOWER_LOCK: the GCC domain, which holds the followers, is powered (13 R463; 16 R538). -/
def execFollowerLock (r : Fin 8) (s : State) : Res :=
  .next (if !s.cairnRuns || (decide (s.crn.mod = .watch) && s.crn.trans.isNone) then s
  else (s.onTim fun t => { t with lock := t.lock ||| BitVec.ofNat 8 (2 ^ r.val) }).endLive (1088 + r.val) 3)

/-- FOLLOWER_UNLOCK: a follower leaves ±0.2 ns of the master (16 R538). -/
def execFollowerUnlock (r : Fin 8) (s : State) : Res :=
  .next (if s.tim.lock.getLsbD r.val then
    (s.onTim fun t => { t with lock := t.lock &&& ~~~ BitVec.ofNat 8 (2 ^ r.val) }).raise
      { src := 1088 + r.val, reason := 3, cls := 2, live := true }
  else s)

/-! ## Transparent clock settings (13 R471, R474, R484) -/

/-- What TIME_TC_SET changes of a configuration. -/
def setTc (q : Req) : Cfg → Cfg :=
  cfgSet 0x0A20 (q.f 4 9 0) [q.w 4, q.w 5] (tcDefault (q.f 4 9 0))

/-- TIME_TC_SET (13 R484). -/
def execTimeTcSet (r : Req) (s : State) : Res :=
  mailbox 0x0A20 r s (fun q => { bad := q.rsv [(4, 31, 12)], ext := some 2 }) fun q =>
    let p := q.f 4 9 0
    if !isPort s.stg.staged p then { status := stNotFound, st := s }
    else { st := s.stageBy 0x0A20 q (setTc q) }

/-- TIME_TC_STATS (13 R484; log entry 120). -/
def execTimeTcStats (r : Req) (s : State) : Res :=
  mailbox 0x0A21 r s (fun q => { bad := q.rsv [(4, 31, 10)], ext := some 1 }) fun q =>
    if !isPort s.stg.staged (q.f 4 9 0) then { status := stNotFound, st := s }
    else { words := two (s.count 15 (q.f 4 9 0) 0) ++ two (s.count 15 (q.f 4 9 0) 1), st := s }

/-- Firmware measures the peer delay of a port with TC_MODE 2 and writes its LINK_DELAY (13 R474). -/
def execPeerDelayMeasurement (p : Fin 1024) (delay : Nat) (s : State) : Res :=
  .next (if s.crn.fwRuns && decide (tcModeOf (s.portCfg p.val) p.val = 2) && decide ((s.port p.val).link = .up) then
    s.onPort p.val fun t => { t with linkDelay := some (delay % 2 ^ 32) }
  else s)

end Sys2Proof.Machine
end

