-- ==== Sys2Proof/Machine/Replay.lean ====
section
/-!
DEFINITION. The replay of the journal: its records applied in order (03 R97, R103; 14 R498 to R501).
-/

namespace Sys2Proof.Machine

open Sys2Proof

/-- The command of a TYPE 1 record as its meaning reads it (14 R500). -/
def recordCommand (cmd : List Word) : Req :=
  { via := .boot, length := fld (wordAt cmd 1) 31 16, words := cmd.drop 4 }

/-- What a staged command of a record changes of a configuration (14 R500). -/
def applyStaged (g : Stg) (cmd : List Word) (c : Cfg) : Cfg :=
  let q := recordCommand cmd
  match fld (wordAt cmd 0) 15 0 with
  | 0x0301 => setPort q c
  | 0x0401 => setClsParser q c
  | 0x0402 => setClsBank q c
  | 0x0403 => setClsProfile q c
  | 0x0404 => setClsPort q c
  | 0x0410 => setClsRule q c
  | 0x0411 => delClsRule q c
  | 0x0420 => setClsMeter q c
  | 0x0421 => setClsMirror q c
  | 0x0501 => setVlan q c
  | 0x0502 => setTblPort q c
  | 0x0510 => setL2 q c
  | 0x0520 => setRoute q c
  | 0x0521 => setNexthop q c
  | 0x0522 => setRouterMac q c
  | 0x0530 => setGroup q c
  | 0x0531 => setHashKey q c
  | 0x0540 => setMcast q c
  | 0x0602 => setTemplate q c
  | 0x0603 => setZone g q c
  | 0x0604 => setAging g q c
  | 0x0701 => setProg q c
  | 0x0710 => setProgMeter q c
  | 0x0720 => setPool q c
  | 0x0730 => setLbGroup q c
  | 0x0810 => setColPolicer q c
  | 0x0811 => setBuf q c
  | 0x0901 => setEgrPort q c
  | 0x0902 => setEgrQueue q c
  | 0x0903 => setEgrGate q c
  | 0x0A20 => setTc q c
  | _ => c

/-- What an immediate command of a record changes of the immediate settings (14 R500). -/
def applyImm (cmd : List Word) (c : Cfg) : Cfg :=
  let q := recordCommand cmd
  match fld (wordAt cmd 0) 15 0 with
  | 0x0513 => setAge q c
  | 0x0740 => setEmit q c
  | _ => c

/-- A replay under way: what the records so far give, what stood at the last TYPE 2 record, and the immediate settings. -/
structure Replay where
  work : Cfg := []
  cfg : Cfg := []
  imm : Cfg := []
deriving DecidableEq, Repr

/-- Applies one record: a command, or a publish point (14 R500). -/
def Replay.record (g : Stg) (x : Replay) (rec : List Word) : Replay :=
  if fld (wordAt rec 0) 19 16 = 2 then { x with cfg := x.work }
  else { x with work := applyStaged g (rec.drop 2) x.work, imm := applyImm (rec.drop 2) x.imm }

/-- The segments that a replay takes: the newest checkpoint segment and the sealed ones after it, or all sealed ones (14 R499). -/
def replaySegments (l : List Segment) : List Segment :=
  let sealed := l.takeWhile fun g => g.sealedAt.isSome
  match (sealed.filter fun g => g.checkpoint).getLast? with
  | some c => sealed.filter fun g => decide (c.number ≤ g.number)
  | none => sealed

/-- What the journal restores; none where no segment is sealed (03 R97, R103; 14 R500). -/
def State.replayed (s : State) : Option Replay :=
  match replaySegments s.img.segs with
  | [] => none
  | l => some ((l.flatMap fun g => g.records).foldl (Replay.record s.stg) {})

/-- Restores class J from the journal, when journaling is on (03 R101); its enabled ports are Down (06 R196). Nothing is published. -/
def State.restoreJ (s : State) : State :=
  if s.img.journaling then
    let t := s.dropUnsealed
    match t.replayed with
    | some x =>
      ((t.onStg fun g => { g with cur := x.cfg, prev := x.cfg, staged := x.cfg, imm := x.imm }).onImg fun m => { m with
        configDigest := digestOf x.cfg x.imm }).parkPorts []
    | none => t
  else s

end Sys2Proof.Machine
end

