-- ==== Sys2Proof/Machine/Image.lean ====
section
/-!
DEFINITION. Image update, firmware trial and journal control (14 R492 to R507).
-/

namespace Sys2Proof.Machine

open Sys2Proof

/-- The firmware of the trial slot runs (14 R495). -/
def State.trialRuns (s : State) : Bool := s.img.trial && decide (s.img.fwBank ≠ s.img.fwActive)

/-- The inactive slot of a kind (14 R494). -/
def State.inactiveBank (s : State) (policy : Bool) : Nat := if policy then 1 - s.img.polActive else 1 - s.img.fwActive
def State.inactive (s : State) (policy : Bool) : Slot :=
  if policy then s.polSlot (s.inactiveBank true) else s.fwSlot (s.inactiveBank false)

/-- Changes the inactive slot of a kind. -/
def State.onInactive (policy : Bool) (f : Slot → Slot) (s : State) : State :=
  let b := s.inactiveBank policy
  s.onImg fun m =>
    if policy then { m with pol := tabMod {} b f m.pol } else { m with fw := tabMod {} b f m.fw }

/-- IMG_STATUS (14 R507). -/
def execImgStatus (r : Req) (s : State) : Res :=
  mailbox 0x0B01 r s (fun _ => { ext := some 0 }) fun _ =>
    { words := [wd (s.img.fwActive + b2n s.trialRuns * 2 + b2n s.img.reverted * 4 + s.img.polActive * 8 +
                  b2n s.img.journaling * 16 + s.sec.fwArb * 2 ^ 5 + s.sec.polArb * 2 ^ 12),
                wd s.hif.fwVersion, wd s.img.polVersion, wd s.img.policy.requiredBl, wd s.journalUsed]
      st := s }

/-- Writes words into a slot from a word on. -/
def Slot.write (at_ : Nat) (ws : List Word) (g : Slot) : Slot :=
  { g with
    words := (ws.foldl (fun (a : Nat × Tab Word) w => (a.1 + 1, tabIns a.1 w a.2)) (at_, g.words)).2
    written := max g.written (4 * (at_ + ws.length)), verified := false }

/-- IMG_WRITE (14 R495, R496, R506). -/
def execImgWrite (r : Req) (s : State) : Res :=
  mailbox 0x0B02 r s
    (fun q =>
      let off := (q.w 5).toNat
      { bad := !q.extCmd || !inRange q.size 3 16386 || q.rsv [(4, 31, 2)] || decide (off % 256 ≠ 0) ||
          decide (slotBytes (bit (q.w 4) 0) < off + 4 * (q.size - 2)) })
    fun q =>
      let policy := bit (q.w 4) 0
      if s.pfwLow || (!policy && s.trialRuns) then { status := stRefused, st := s }
      else { st := s.onInactive policy fun g =>
        (if bit (q.w 4) 1 then ({} : Slot) else g).write ((q.w 5).toNat / 4) ((List.range (q.size - 2)).map fun i => q.w (6 + i)) }

/-- IMG_VERIFY (14 R494). A failure is remembered: IMG_ACTIVATE asks whether the last check of the slot passed. -/
def execImgVerify (r : Req) (s : State) : Res :=
  mailbox 0x0B03 r s (fun q => { bad := q.rsv [(4, 31, 1)], ext := some 1 }) fun q =>
    let policy := bit (q.w 4) 0
    let reason := s.verifyReason policy (s.inactive policy)
    if reason = 0 then { st := s.onInactive policy fun g => { g with verified := true } }
    else { status := stRefused, words := [wd reason], keep := true
           st := s.onInactive policy fun g => { g with verified := false } }

/-- Whether a committed or staged setting lies outside the limits of a policy record of a type: PLACE, zone limits and
the time rate are the settings that a record limits (14 R496). -/
def State.breaks (s : State) (p : Policy) (ty : Nat) : Bool :=
  let any (op : Nat) (f : List Word → Bool) : Bool :=
    ((cfgAll s.stg.cur op).any fun e => f e.2) || ((cfgAll s.stg.staged op).any fun e => f e.2)
  if ty = 3 then any 0x0501 fun w => !p.placePermit.testBit (fld (wordAt w 1) 3 2)
  else if ty = 5 then
    decide (p.quotaMax < s.stg.coldZone.1) || decide (p.rateMax < s.stg.coldZone.2.1) || decide (p.burstMax < s.stg.coldZone.2.2.1) ||
    any 0x0603 fun w =>
    decide (p.quotaMax < fld (wordAt w 1) 28 0) || decide (p.rateMax < (wordAt w 2).toNat) ||
    decide (p.burstMax < fld (wordAt w 3) 23 0)
  else if ty = 9 then
    decide (p.rateLimit < s.tim.rate.natAbs) ||
    (match s.tim.rateNext with | some x => decide (p.rateLimit < x.1.natAbs) | none => false)
  else false

/-- The record types of a policy image in its order, and those it leaves at their defaults after them. -/
def Slot.recordTypes (g : Slot) : List Nat :=
  let l := ((splitRecords (g.length / 4) (g.range 96 (g.length / 4 - 32))).getD []).map fun x => x.1
  l ++ (List.range 15).filter fun t => !l.contains t

/-- IMG_ACTIVATE (14 R494 to R496, R506). -/
def execImgActivate (r : Req) (s : State) : Res :=
  mailboxThen 0x0B04 r s (fun q => { bad := q.rsv [(4, 31, 2)] || q.f 4 1 0 == 3, ext := some 1 })
    (fun q =>
      let policy := bit (q.w 4) 0
      let g := s.inactive policy
      if s.pfwLow || !g.verified || (!policy && s.trialRuns) then { status := stRefused, st := s }
      else if policy then
        match g.recordTypes.find? (s.breaks (g.policy.getD {})) with
        | some ty => { status := stRefused, words := [wd ty], st := s }
        | none =>
          { st := (s.onImg fun m => { m with reverted := false, polStaged := some (1 - m.polActive, g) }).onStg fun x =>
              { x with flag := true } }
      else { st := s.onImg fun m => { m with trial := true, reverted := false } })
    fun q t => if bit (q.w 4) 1 then t.sealNow.beginReset .warm else t

/-- FW_CONFIRM (14 R495, R496, R506; 15 R510). -/
def execFwConfirm (r : Req) (b : Burn) (s : State) : Res :=
  interruptBurn b s <| mailbox 0x0B05 r s (fun _ => { ext := some 0 }) fun _ =>
    if s.pfwLow then { status := stRefused, st := s }
    else if !s.trialRuns then { st := s }
    else
      let arb := (s.fwSlot s.img.fwBank).arb
      { st := ((s.onSec fun c => { c with fwArb := burnCounter b c.fwArb arb }).onImg fun m =>
          { m with trial := false, fwActive := m.fwBank }).fuseWrong (b.wrong && decide (s.sec.fwArb < arb)) }

/-- JOURNAL_SET (14 R506). -/
def execJournalSet (r : Req) (s : State) : Res :=
  mailbox 0x0B06 r s (fun q => { bad := q.rsv [(4, 31, 1)], ext := some 1 }) fun q =>
    { st :=
        if bit (q.w 4) 0 = s.img.journaling then s
        else if bit (q.w 4) 0 then (s.onImg fun m => { m with journaling := true }).checkpoint
        else s.sealNow.onImg fun m => { m with journaling := false } }

end Sys2Proof.Machine
end

