-- ==== Sys2Proof/Machine/Security.lean ====
section
/-!
DEFINITION. Owner keys, attestation, the debug port (15), and the remote transport with its key agreement
(04 R130 to R132; 15 R524, R525).
-/

namespace Sys2Proof.Machine

open Sys2Proof

/-! ## Bytes -/

/-- The bytes of an ASCII string. -/
def ascii (t : String) : List Byte := t.toList.map fun c => BitVec.ofNat 8 c.toNat

def serialBytes : List Byte := leBytes 8 Config.serial.toNat

/-! ## The module's keys (15 R508, R515 to R517) -/

/-- A private scalar from a number: 1 to n - 1. -/
def scalarOf (n : Nat) : Nat := n % (p384N - 1) + 1

/-- A signature by a private scalar over a digest. -/
def signWith (key : Nat) (d : Vector Word 12) : Vector Word 24 := ecdsaSign key (scalarOf (Config.signSecret key d)) d

/-- The identity key's signature (15 R516). -/
def idSign (d : Vector Word 12) : Vector Word 24 := signWith Config.idKey.toNat d

/-- The private scalar of the attestation key under measurement M1, its public key and its signature (15 R517, R519). -/
def akScalar (m1 : Vector Word 12) : Nat :=
  scalarOf (beAt (hkdf (wordsToBytes Config.romDigest.toList) (beBytes 48 Config.idKey.toNat)
    (ascii "QORLON-AK" ++ wordsToBytes m1.toList) 64) 0 64)
def akPub (m1 : Vector Word 12) : Vector Word 24 := publicKey (akScalar m1)
def akSign (m1 d : Vector Word 12) : Vector Word 24 := signWith (akScalar m1) d

/-- Public key of an ephemeral key that number n of a run gives (15 R524). -/
def ephemeralPub (n : Nat) : Vector Word 24 := publicKey (scalarOf n)

/-! ## Owner authorization (15 R521) -/

/-- The live nonce of the session that a request names: it lapses 60 s after it was issued. -/
def State.liveNonce (s : State) (q : Req) : Option (List Word) :=
  match s.hif.sessions.find? fun e => e.id == q.session with
  | some e => match e.nonce with | some (n, t) => if s.passed t (secs 60) then none else some n | none => none
  | none => none

/-- The digest that an owner signs for a command: `words` are the payload words before SIG. -/
def ownerMessage (nonce : List Word) (op : Nat) (words : List Word) : Vector Word 12 :=
  sha384 (ascii "QORLON-OWN" ++ serialBytes ++ wordsToBytes nonce ++ leBytes 2 op ++ wordsToBytes words)

/-- Words k to k + n - 1 of a request. -/
def reqWords (q : Req) (k n : Nat) : List Word := (List.range n).map fun i => q.w (k + i)

/-- The authorization of a command whose public key lies at word `key` and SIG after it: whether it passes, and the
state in which a live nonce is consumed. SEC_OWNER_ENROLL carries the key to enroll alone: where that is not the signer's, the signature is
checked under the key of the signer's digest (15 R521, R531; log entry 153). -/
def State.authorize (op : Nat) (q : Req) (signer key : Nat) (s : State) : Bool × State :=
  match s.liveNonce q with
  | none => (false, s)
  | some n =>
    let pub := reqWords q key 24
    let d := tabGet [] s.sec.ownerDigest signer
    let own := decide (keyDigest pub = d)
    let ok := s.sec.usable signer && (own || op == 0x0C03) &&
      ecdsaVerify (if own then pub else Config.ownerKey d) (ownerMessage n op (reqWords q 4 (key + 20))) (reqWords q (key + 24) 24)
    (ok, s.onHif fun h => { h with
      sessions := updWhere (fun e => e.id == q.session) (fun e => { e with nonce := none }) h.sessions })

/-- A slot with a digest and no enrollment (15 R520). -/
def Sec.spoiled (c : Sec) (k : Nat) : Bool :=
  !c.enrolled.getLsbD k && (tabGet [] c.ownerDigest k).any fun w => w != 0

/-- Any slot enrolled. -/
def Sec.anyOwner (c : Sec) : Bool := decide (c.enrolled ≠ 0)

/-- Closes remote channels and their sessions. -/
def State.closeChannels (p : Channel → Bool) (s : State) : State :=
  let gone := (s.hif.channels.filter p).map fun c => c.id
  (s.closeSessions fun e => match e.channel with | some c => gone.contains c | none => false).onHif fun h =>
    { h with channels := h.channels.filter fun c => !p c }

/-! ## Mailbox commands -/

/-- The debug port's state: 0 locked, 1 armed, 2 boundary scan, 3 full (15 R530). -/
def State.jtagState (s : State) : Nat :=
  if s.sec.unlocked = 2 then 3 else if s.sec.unlocked = 1 then 2 else if s.sec.armScope ≠ 0 then 1 else 0

/-- After 8 failures the unlock instructions behave as BYPASS (15 R528). -/
def State.lockout (s : State) : Bool := decide (8 ≤ s.sec.failures)

/-- SEC_STATUS (15 R530). -/
def execSecStatus (r : Req) (s : State) : Res :=
  mailbox 0x0C01 r s (fun _ => { ext := some 0 }) fun _ =>
    { words := [wd (s.sec.enrolled.toNat + s.sec.revoked.toNat * 2 ^ 4 +
                  maskOf ((List.range 4).filter s.sec.spoiled) * 2 ^ 8 + s.jtagState * 2 ^ 12 + b2n s.lockout * 2 ^ 14 +
                  s.sec.unlocks * 2 ^ 16)] ++
        two Config.serial.toNat ++ [wd (s.sec.fwArb + s.sec.polArb * 2 ^ 7)] ++ two s.sec.armUntil ++
        Config.dreisaDigest.toList
      st := s }

/-- SEC_NONCE (15 R521, R530). -/
def execSecNonce (r : Req) (s : State) : Res :=
  mailbox 0x0C02 r s (fun _ => { ext := some 0 }) fun q =>
    let d := State.drawWords 8 s
    { words := d.1
      st := d.2.onHif fun h => { h with
        sessions := updWhere (fun e => e.id == q.session) (fun e => { e with nonce := some (d.1, s.upNs) }) h.sessions } }

/-- SEC_OWNER_ENROLL (15 R520 to R523, R531): the digest is burned and read back before ENROLLED is; a slot whose digest reads back wrong is
spoiled, and the command is answered PARTIAL (log entry 152). -/
def execSecOwnerEnroll (r : Req) (b : Burn) (s : State) : Res :=
  interruptBurn b s <| mailbox 0x0C03 r s
    (fun q =>
      let first := bit (q.w 4) 4
      { bad := q.rsv [(4, 31, 5)] || (first && (s.sec.anyOwner || q.f 4 3 2 != 0 || (reqWords q 29 24).any fun w => w != 0)) ||
          (!first && !s.sec.anyOwner)
        size := some 49 })
    fun q =>
      let first := bit (q.w 4) 4
      let k := q.f 4 1 0
      let a := if first then ((match q.via with | .remote _ => false | _ => true), s) else s.authorize 0x0C03 q (q.f 4 3 2) 5
      let t := a.2
      if !a.1 || s.pfwLow then { status := stRefused, st := t, keep := true }
      else if s.sec.enrolled.getLsbD k then { status := stExists, st := t, keep := true }
      else if s.sec.spoiled k then { status := stRefused, st := t, keep := true }
      else
        let d := keyDigest (reqWords q 5 24)
        if b.wrong then
          { status := stPartial
            st := (t.onSec fun c => { c with ownerDigest := tabIns k (burnWords (fuseCount d - 1) d) c.ownerDigest }).fuseWrong true }
        else { st := t.onSec fun c => { c with
                ownerDigest := tabIns k d c.ownerDigest, enrolled := c.enrolled ||| BitVec.ofNat 4 (2 ^ k) } }

/-- The slot signs the active policy, the staged one, or a verified one (15 R523). -/
def State.keyInUse (s : State) (k : Nat) : Bool :=
  (s.img.polBank.isSome && s.img.polKey == k) ||
  (match s.img.polStaged with | some x => x.2.keyIndex == k | none => false) ||
  ((s.inactive true).verified && (s.inactive true).keyIndex == k)

/-- SEC_OWNER_REVOKE (15 R523, R532). A fuse that reads back wrong leaves the slot as it is, and the command is answered PARTIAL (log entry
152). -/
def execSecOwnerRevoke (r : Req) (b : Burn) (s : State) : Res :=
  interruptBurn b s <| mailbox 0x0C04 r s (fun q => { bad := q.rsv [(4, 31, 4)], size := some 49 }) fun q =>
    let k := q.f 4 1 0
    let a := s.authorize 0x0C04 q (q.f 4 3 2) 5
    let t := a.2
    if !a.1 || s.pfwLow then { status := stRefused, st := t, keep := true }
    else if !s.sec.enrolled.getLsbD k then { status := stNotFound, st := t, keep := true }
    else if s.sec.revoked.getLsbD k then { st := t }
    else if ((List.range 4).all fun j => j == k || !s.sec.usable j) || s.keyInUse k then
      { status := stRefused, st := t, keep := true }
    else if b.wrong then { status := stPartial, st := t.fuseWrong true }
    else { st := (t.onSec fun c => { c with revoked := c.revoked ||| BitVec.ofNat 4 (2 ^ k) }).closeChannels fun c => c.owner == k }

/-- SERIAL as 16 uppercase hexadecimal digits. -/
def serialDigits : List Byte :=
  (List.range 16).map fun i =>
    let d := Config.serial.toNat / 16 ^ (15 - i) % 16
    BitVec.ofNat 8 (if d < 10 then 48 + d else 55 + d)

/-- Certificate i of the chain as it was written: at most 2,048 bytes; certificate 0 names SERIAL in its subject's serialNumber attribute,
a PrintableString under object identifier 2.5.4.5 (15 R515). -/
def certWritten (i : Nat) : List Byte :=
  (if i = 0 then Config.certBefore ++ [0x06, 0x03, 0x55, 0x04, 0x05, 0x13, 0x10] ++ serialDigits ++ Config.certAfter
   else Config.certAbove i).take 2048

/-- A bank's copy of the chain, and whether it passes its check against the digest stored beside it (15 R515). -/
def certCopy (bank i : Nat) : List Byte := (Config.flashCert bank i (certWritten i)).take 2048
def chainPasses (bank : Nat) : Bool :=
  decide (sha384 ((List.range 3).flatMap (certCopy bank)) = Config.flashDigest bank (sha384 ((List.range 3).flatMap certWritten)))

/-- Certificate i as firmware reads it: from bank 0 where its copy passes, else from bank 1 (15 R515; log entry 151). -/
def certificate (i : Nat) : List Byte := certCopy (if chainPasses 0 then 0 else 1) i

/-- SEC_CERT_READ (15 R533). -/
def execSecCertRead (r : Req) (s : State) : Res :=
  mailbox 0x0C05 r s
    (fun q => { bad := q.rsv [(4, 31, 2)] || q.f 4 1 0 == 3 || decide ((certificate (q.f 4 1 0)).length ≤ (q.w 5).toNat)
                ext := some 2 })
    fun q =>
      let c := certificate (q.f 4 1 0)
      let part := (c.drop (q.w 5).toNat).take (4 * (q.room - 2))
      { words := [wd c.length, wd part.length] ++ bytesToWords part, st := s }

/-- The attestation report for a verifier's nonce (15 R519). -/
def State.attest (s : State) (nonce : List Word) : List Word :=
  let m1 := toDigest s.img.m1
  let ak := akPub m1
  let endorse := idSign (sha384 (wordsToBytes (ak.toList ++ Config.romDigest.toList ++ m1.toList)))
  let keys := ((List.range 4).map fun k =>
    b2n (s.sec.enrolled.getLsbD k) * 2 ^ (2 * k) + b2n (s.sec.revoked.getLsbD k) * 2 ^ (2 * k + 1)).sum
  let body :=
    [wd (0xA7E5 + 2 ^ 16), 149,
     wd (s.hif.blPinned + keys * 2 ^ 8 + s.sec.fwArb * 2 ^ 16 + s.sec.polArb * 2 ^ 23 + b2n s.trialRuns * 2 ^ 30 +
       b2n (decide (s.sec.unlocks ≠ 0)) * 2 ^ 31),
     wd (s.hif.epoch + b2n s.hif.pend * 2 ^ 16 + s.sec.unlocks * 2 ^ 17)] ++
    two s.now ++ nonce ++ Config.romDigest.toList ++ m1.toList ++ (toDigest s.img.m2).toList ++
    (toDigest s.img.configDigest).toList ++ [wd s.hif.fwVersion, wd s.img.polVersion, 0] ++
    (sha384 (certificate 0)).toList ++ ak.toList ++ endorse.toList
  body ++ (akSign m1 (sha384 (wordsToBytes body))).toList

/-- SEC_ATTEST (15 R519, R534). -/
def execSecAttest (r : Req) (s : State) : Res :=
  mailbox 0x0C06 r s
    (fun q => { bad := ((reqWords q 4 8).all fun w => w == 0) || (q.extRsp && !q.extCmd && decide (q.length ≠ 20)), ext := some 8 }) fun q =>
    { words := s.attest (reqWords q 4 8), st := s }

/-- SEC_DEBUG_ARM (15 R527, R535). -/
def execSecDebugArm (r : Req) (s : State) : Res :=
  mailbox 0x0C07 r s
    (fun q => { bad := q.rsv [(4, 31, 4), (5, 31, 12)] || !inRange (q.f 4 3 2) 1 2 || !inRange (q.f 5 11 0) 1 3600
                ext := some 50 })
    fun q =>
      let a := s.authorize 0x0C07 q (q.f 4 1 0) 6
      if !a.1 || !s.sec.anyOwner then { status := stRefused, st := a.2, keep := true }
      else { st := a.2.onSec fun c => { c with armScope := q.f 4 3 2, armUntil := (s.now + secs (q.f 5 11 0)) % 2 ^ 64 } }

/-- Locks and disarms the debug port (15 R527). -/
def State.lockDebug (s : State) : State := s.onSec fun c => { c with unlocked := 0, armScope := 0, armUntil := 0 }

/-- SEC_DEBUG_LOCK (15 R527). -/
def execSecDebugLock (r : Req) (s : State) : Res := mailbox 0x0C08 r s (fun _ => { ext := some 0 }) fun _ => { st := s.lockDebug }

/-- NONCE_LAPSE: a session's nonce lapses 60 s after it was issued (15 R521). -/
def execNonceLapse (id : Nat) (s : State) : Res :=
  .next (s.onHif fun h => { h with
    sessions := updWhere (fun e => e.id == id && (match e.nonce with | some n => s.passed n.2 (secs 60) | none => false))
      (fun e => { e with nonce := none }) h.sessions })

/-! ## Debug port (15 R526 to R528) -/

/-- The instructions of the JTAG port: those that a locked port accepts, those of IEEE 1149.1 boundary scan, and those of GCC and Cairn
debug (02 R55; 15 R526). -/
inductive JtagInstr where
  | bypass | idcode | unlockChallenge | unlockResponse | boundaryScan | debug
deriving DecidableEq, Repr

/-- IDCODE: the silicon revision, the part number, the manufacturer code, and 1 (02 R55). -/
def jtagIdcode : Word := wd (1 + Config.jedec.toNat * 2 + 0x1024 * 2 ^ 12 + silRev * 2 ^ 28)

/-- The instruction as which one behaves: one that the port's scope has not unlocked is BYPASS, and after the lockout the unlock instructions
are (02 R55; 15 R526, R528). -/
def State.jtagActs (s : State) (i : JtagInstr) : JtagInstr :=
  match i with
  | .boundaryScan => if s.sec.jtagLocked && decide (s.sec.unlocked < 1) then .bypass else i
  | .debug => if s.sec.jtagLocked && decide (s.sec.unlocked < 2) then .bypass else i
  | .unlockChallenge | .unlockResponse => if s.lockout then .bypass else i
  | _ => i

/-- The data register between TDI and TDO under an instruction whose register the manual gives: its width and its value (02 R55). -/
def State.jtagRegister (s : State) (i : JtagInstr) : Option (Nat × Nat) :=
  match s.jtagActs i with
  | .bypass => some (1, 0)
  | .idcode => some (32, jtagIdcode.toNat)
  | _ => none

/-- UNLOCK_CHALLENGE (15 R526, R528). -/
def execUnlockChallenge (s : State) : Res :=
  .next (if s.cairnRuns && !s.lockout then
    let d := State.drawWords 8 s
    (d.2.onSec fun c => { c with nonce := some (d.1, s.upNs) }).emit (.jtag (two Config.serial.toNat ++ d.1))
  else s)

/-- Whether an unlock response succeeds (15 R526, R527). -/
def State.unlockOk (s : State) (scope : Nat) (key sig : List Word) : Bool :=
  match s.sec.nonce with
  | none => false
  | some (n, t) =>
    !s.passed t (secs 600) && decide (scope = 1 ∨ scope = 2) && decide (keyDigest key = Config.dreisaDigest.toList) &&
    ecdsaVerify key (sha384 (ascii "QORLON-DBG" ++ serialBytes ++ wordsToBytes n ++ leBytes 1 scope)) sig &&
    (!s.sec.anyOwner || (decide (s.now < s.sec.armUntil) && decide (scope ≤ s.sec.armScope)))

/-- UNLOCK_RESPONSE (15 R526 to R528). -/
def execUnlockResponse (scope : Nat) (key : List Word) (sig : List Word) (s : State) : Res :=
  .next (if s.cairnRuns && !s.lockout then
    let t := s.onSec fun c => { c with nonce := none }
    if s.unlockOk scope key sig then
      (t.onSec fun c => { c with unlocked := max c.unlocked scope, unlocks := satAdd 255 c.unlocks 1 }).raise
        { src := 1151, reason := 1, cls := 1 }
    else
      let u := (t.onSec fun c => { c with failures := c.failures + 1 }).raise { src := 1151, reason := 2, cls := 1 }
      u.onIf u.lockout fun a => a.raise { src := 1151, reason := 3, cls := 2, live := true }
  else s)

/-- DEBUG_NONCE_LAPSE: 600 s after it was issued (15 R526). -/
def execDebugNonceLapse (s : State) : Res :=
  .next (match s.sec.nonce with
  | some n => if s.passed n.2 (secs 600) then s.onSec fun c => { c with nonce := none } else s
  | none => s)

/-- DEBUG_ARM_END: the master counter has reached the arm's end (15 R527, R530). -/
def execDebugArmEnd (s : State) : Res :=
  .next (if s.sec.armScope ≠ 0 ∧ s.sec.armUntil ≤ s.now then s.onSec fun c => { c with armScope := 0, armUntil := 0 } else s)

/-! ## Remote transport (04 R130 to R132) -/

/-- Counts a discarded datagram (04 R131); the count stops at its top (log entry 96). -/
def State.discard (s : State) : State := s.onHif fun h => { h with discards := satAdd (2 ^ 32 - 1) h.discards 1 }

/-- A discarded datagram raises an event (16 R538). -/
def State.discardDatagram (s : State) : State := s.discard.raiseByCore { src := 1147, reason := 1, cls := 0 }

/-- REMOTE_DATAGRAM (04 R130, R131): the message starts, waits for the one that executes, is answered from the kept
response, or is discarded. A repeated SEQ whose response is kept no longer is neither executed nor answered, and reserved bits
of word 0 and a SEQ of 0 are accepted (log entry 97). -/
def execRemoteDatagram (data : List Word) (s : State) : Res :=
  let seq := join (wordAt data 2) (wordAt data 3)
  let ct := (data.drop 4).take (data.length - 8)
  .next (if !s.crn.fwRuns then s
  else match s.hif.channels.find? fun c => c.id == (wordAt data 1).toNat with
  | none => s.discardDatagram
  | some c =>
    if fld (wordAt data 0) 15 0 ≠ 0x201 then s.discardDatagram
    else match gcmOpen c.keyIn seq false (data.take 4) ct (data.drop (data.length - 4)) with
    | none => s.discardDatagram
    | some m =>
      if seq + 64 < c.high then s.discardDatagram
      else match c.kept.find? fun e => e.1 == seq with
      | some (_, some d) => s.emit (.datagram c.id d)
      | some (_, none) => s
      | none =>
        s.onHif fun h => { h with
          channels := updWhere (fun x => x.id == c.id) (fun x =>
            { x with
              high := max x.high seq, lastAt := s.upNs
              kept := keepLast (((seq, none) :: x.kept).filter fun e => decide (max x.high seq ≤ e.1 + 64))
              exec := if x.exec = none then some seq else x.exec
              takenAt := if x.exec = none then s.now else x.takenAt
              msg := if x.exec = none then m else x.msg
              waiting := if x.exec = none then x.waiting else x.waiting ++ [(seq, m)] }) h.channels })

/-- REMOTE_SESSION_TIMEOUT: 600 s without an accepted datagram (04 R132). -/
def execRemoteSessionTimeout (ch : Nat) (s : State) : Res :=
  .next (s.closeChannels fun c => c.id == ch && s.passed c.lastAt (secs 600))

/-! ## Key agreement (15 R524, R525) -/

/-- A refused agreement or a discarded INIT raises an event. -/
def State.refuseAgreement (s : State) : State := s.raiseByCore { src := 1150, reason := 1, cls := 0 }

/-- The key of one direction: its label, channel, salt and Z. -/
def channelKey (label : String) (ch : Nat) (salt : List Word) (z : Vector Word 12) : List Byte :=
  hkdf (wordsToBytes salt) (wordsToBytes z.toList) (ascii label ++ leBytes 4 ch) 32

/-- KEY_AGREEMENT_INIT from a source address: 37 words with CHANNEL and SEQ 0 (15 R524, R525). -/
def execKeyAgreementInit (src : List Word) (data : List Word) (s : State) : Res :=
  .next (if !s.crn.fwRuns then s
  else if !s.img.policy.owners.contains src || decide (data.length ≠ 37) ||
      decide (data.take 4 ≠ [0x101, 0, 0, 0]) || decide (fld (wordAt data 4) 7 0 ≠ 1) || decide (4 ≤ s.hif.channels.length) then
    s.discard.refuseAgreement
  else
    let n := State.drawWords 8 s
    let e := n.2.drawNat
    let init := data.drop 4
    let ch := s.hif.nextChannel
    let body := [2] ++ n.1 ++ (ephemeralPub e.1).toList
    let sig := idSign (sha384 (wordsToBytes (init ++ body)))
    let resp := body ++ sig.toList
    let a : Agreement :=
      { id := ch, ephemeral := e.1, hostKey := (init.drop 9).take 24, salt := (init.drop 1).take 8 ++ n.1
        init := init, resp := resp, at_ := s.upNs }
    (e.2.onHif fun h => { h with
      nextChannel := h.nextChannel + 1
      agreements :=
        let live := h.agreements.filter fun x => !s.passed x.at_ (secs 2)
        live.drop (live.length - 3) ++ [a] }).emit
        (.datagram ch ([0x101, wd ch, 0, 0] ++ resp)))

/-- KEY_AGREEMENT_FINISH: 29 words with SEQ 0 (15 R524, R525). The owner's public key is the one of its slot's digest. -/
def execKeyAgreementFinish (data : List Word) (s : State) : Res :=
  let ch := (wordAt data 1).toNat
  .next (if !s.crn.fwRuns then s
  else match s.hif.agreements.find? fun a => a.id == ch && !s.passed a.at_ (secs 2) with
  | none => s.discardDatagram
  | some a =>
    if data.length ≠ 29 ∨ data.take 4 ≠ [0x101, wd ch, 0, 0] ∨ fld (wordAt data 4) 7 0 ≠ 3 then s.discardDatagram
    else
      let k := fld (wordAt data 4) 9 8
      let ok := s.sec.usable k &&
        ecdsaVerify (Config.ownerKey (tabGet [] s.sec.ownerDigest k))
          (sha384 (wordsToBytes (a.init ++ a.resp))) (data.drop 5)
      let z := ecdh (scalarOf a.ephemeral) a.hostKey
      let hm := channelKey "QORLON-H2M" ch a.salt z
      let mh := channelKey "QORLON-M2H" ch a.salt z
      let head := [0x101, wd ch, 0, 0, wd (4 + (if ok then 0 else stRefused) * 2 ^ 16)]
      let result := head ++ (gcmSeal mh 0 true head []).2.toList
      let t := (s.onHif fun h => { h with
        agreements := h.agreements.filter fun x => x.id != ch
        channels := if ok then h.channels ++ [{ id := ch, owner := k, keyIn := hm, keyOut := mh, lastAt := s.upNs }] else h.channels }).emit
          (.datagram ch result)
      if ok then t else t.refuseAgreement)

/-- PENDING_AGREEMENT_EXPIRY: 2 s after its RESP (15 R525). -/
def execPendingAgreementExpiry (id : Nat) (s : State) : Res :=
  .next (s.onHif fun h => { h with agreements := h.agreements.filter fun a => !(a.id == id && s.passed a.at_ (secs 2)) })

end Sys2Proof.Machine
end

