-- ==== Sys2Proof/Machine/Power.lean ====
section
/-!
DEFINITION. Module states, their transitions, boot and resets (03; 14 R495, R502, R602; 15 R513, R514).
-/

namespace Sys2Proof.Machine

open Sys2Proof

/-! ## Power commands (03 R106 to R109) -/

/-- RESET_CAUSE's code (03 R107). -/
def ResetKind.code : ResetKind → Nat
  | .cold => 0 | .module => 1 | .warm => 2 | .watchdog => 3 | .fatal => 4 | .watchExit => 5

/-- POWER_STATUS (03 R107). -/
def execPowerStatus (r : Req) (s : State) : Res :=
  let mask (p : Cell → Bool) : Nat := maskOf ((List.range 64).filter fun c => p (s.cell c))
  mailbox 0x0100 r s (fun _ => { ext := some 0 }) fun _ =>
    { words := [wd (s.modCode + s.crn.cause.code * 2 ^ 2 + b2n s.crn.preserve * 2 ^ 5 + b2n s.img.journaling * 2 ^ 6 +
                  b2n s.crn.storeKept * 2 ^ 7 + popcount 64 (mask Cell.out) * 2 ^ 8)] ++
        two (mask fun c => decide (c.st = .doze)) ++ two (mask fun c => decide (c.st = .slumber)) ++ two s.hif.hold.toNat
      st := s }

/-- A number of 16 bits in two's complement. -/
def signed16 (n : Nat) : Int := if n % 65536 < 32768 then (n % 65536 : Nat) else (n % 65536 : Nat) - 65536

/-- A junction sensor reads above the warning threshold of 137.0 °C (18 R587, R588). -/
def State.hot (s : State) : Bool :=
  (List.range 21).any fun k => (s.sensor k).testBit 16 && decide (1370 < signed16 (s.sensor k))

/-- A transition begins; one that leaves Run stops ingress and drains (03 R79, R104). The journal is sealed. -/
def State.beginTrans (k : TransKind) (thermal : Bool) (s : State) : State :=
  s.sealNow.onCrn fun c => { c with
    trans := some { kind := k, back := c.mod, thermal := thermal, keep := c.preserve && decide (c.mod = .run) }, draining := decide (c.mod = .run), thermal := false }

/-- POWER_SET_STATE (03 R79 to R82, R108; 16 R546; 18 R588). -/
def execPowerSetState (r : Req) (s : State) : Res :=
  mailbox 0x0101 r s
    (fun q =>
      let target := q.f 4 1 0
      let aft := q.f 4 3 2
      let wake := q.f64 5
      { bad := q.rsv [(4, 31, 4)] || target == 3 ||
          (if target = 0 then !inRange aft 1 2 || (decide (wake ≠ 0) && decide (wake < s.now + 10000000))
           else aft != 0 || wake != 0)
        locks := decide (target = 2), busy := s.hif.pend || s.changing, ext := some 3 })
    fun q =>
      let target := q.f 4 1 0
      if s.pfwLow ∨ (target = 2 ∧ s.hot) then { status := stRefused, st := s }
      else if target = s.modCode then { st := s }
      else if target = 2 then { st := s.onCrn fun c => { c with trans := some { kind := .toRun, back := c.mod } } }
      else if target = 1 then { st := s.beginTrans .toStandby false }
      else { st := (s.beginTrans .toWatch false).onCrn fun c => { c with
              afterWatch := if q.f 4 3 2 = 2 then .run else .standby, wakeTime := q.f64 5 } }

/-- POWER_SET_PRESERVE (03 R109). -/
def execPowerSetPreserve (r : Req) (s : State) : Res :=
  mailbox 0x0102 r s (fun q => { bad := q.rsv [(4, 31, 1)], ext := some 1 }) fun q =>
    { st := s.onCrn fun c => { c with preserve := bit (q.w 4) 0 } }

/-- RESET_WARM: answered, and then the journal is sealed and the reset begins (03 R81, R82, R95, R106; 14 R497). A response
in the boot mailbox stays readable until firmware runs again (log entry 38). -/
def execResetWarm (r : Req) (s : State) : Res :=
  mailboxThen 0x0110 r s (fun _ => { busy := s.hif.pend || s.changing, ext := some 0 })
    (fun _ => if s.pfwLow then { status := stRefused, st := s } else { st := s })
    fun q t =>
      let u := t.sealNow.beginReset .warm
      if q.via = .boot then u.onHif fun h => { h with bmbRsp := t.hif.bmbRsp, bmbDone := true } else u

/-- What is staged beyond `cur`, staged anew on another configuration. -/
def rebase (cur staged new : Cfg) : Cfg :=
  let a := staged.foldl (fun t e => if tabFind cur e.1 = some e.2 then t else tabIns e.1 e.2 t) new
  cur.foldl (fun t e => if (tabFind staged e.1).isNone then tabDel e.1 t else t) a

/-- POWER_JOURNAL_REPLAY (03 R82, R106, R107; 14 R498, R500): answered once its commit is complete. Settings that are not class J stay. -/
def execPowerJournalReplay (r : Req) (s : State) : Res :=
  mailbox 0x0120 r s (fun _ => { busy := s.hif.pend || s.changing, ext := some 0 }) fun _ =>
    if s.crn.published then { status := stRefused, st := s }
    else if s.replayed.isNone then { status := stNotFound, st := s }
    else
      let t := s.dropUnsealed.tidyWords
      match t.replayed with
      | none => { status := stNotFound, st := t }
      | some x =>
        let cfg := (tabKeep (fun k => !isJ k) s.stg.cur).foldl (fun a e => tabIns e.1 e.2 a) x.cfg
        let u := t.onStg fun g => { g with staged := rebase g.cur g.staged cfg, imm := x.imm }
        let v := ((u.publish (decide (s.crn.mod = .run)) cfg []).onIf (decide (s.crn.mod ≠ .run)) fun a => a.parkPorts s.stg.cur).onCrn fun c => { c with published := true }
        { st := v.placeRestored, wait := if v.hif.pend then some .replay else none }

/-! ## Boot (03 R83; 14 R495; 15 R513, R514) -/

/-- Boot log line: what it reports and of which bank. -/
def State.bootLine (line detail : Nat) (s : State) : State := s.emit (.uart (asciiLine (Config.bootText line detail)))

/-- A bank's firmware fails verification: the reason goes to the boot log (15 R513). -/
def State.bankFails (b : Nat) (s : State) : State := s.bootLine 1 (16 * b + s.imageReason false (s.fwSlot b))

/-- Whether a trial slot is booted now: an activated image runs from the next warm, watchdog or module reset or cold
start, a module reset that ends Watch among them, and a trial that runs goes on through any reset that does not end it (14 R495). -/
def State.bootsTrial (s : State) (k : TransKind) : Bool :=
  s.img.trial && (s.trialRuns ||
    !decide (k = .reset .fatal ∨ (k = .reset .watchExit ∧ (match s.crn.trans with | some t => !t.byPin | none => true) = true)))

/-- The trial slot fails verification: the trial ends (14 R495). -/
def State.failTrial (s : State) : State :=
  ((s.bankFails (1 - s.img.fwActive)).onImg fun m => { m with trial := false, reverted := true }).raise
    { src := 1128, reason := 2, cls := 2 }

/-- The bank that the boot ROM boots, if any, and the state it leaves. -/
def State.pickBank (k : TransKind) (s : State) : Option Nat × State :=
  let ok (b : Nat) : Bool := s.imageReason false (s.fwSlot b) == 0
  let a := s.img.fwActive
  if s.bootsTrial k && ok (1 - a) then (some (1 - a), s)
  else
    let t := if s.bootsTrial k then s.failTrial else s
    if ok a then (some a, t)
    else
      let u := t.bankFails a
      if s.bootsTrial k then (none, u)
      else if ok (1 - a) then (some (1 - a), u)
      else (none, u.bankFails (1 - a))

/-- The policy of boot stage 2 (15 R514). An erased slot holds no image that verifies (log entry 48). -/
def State.bootPolicy (s : State) : State :=
  let a := s.img.polActive
  let ok (b : Nat) : Bool := s.imageReason true (s.polSlot b) == 0
  if ok a then s.usePolicy a (s.polSlot a)
  else
    let t := s.raiseByCore { src := 1148, reason := 1, cls := 2 }
    if ok (1 - a) then t.usePolicy (1 - a) (s.polSlot (1 - a)) else t.noPolicy

/-- Cairn writes back the first-fault record of before a fatal-fault reset and sets the status of its cause (03 R96; 16 R550). -/
def State.restoreFfr (s : State) : State :=
  match s.crn.carried with
  | none => s
  | some f =>
    let t := s.onFlt fun x => { x with ffr := if f.valid then { f with carried := true } else f }
    let u := match s.flt.resetCause with
      | some (src, _) => t.onFlt fun x =>
          { x with evt := x.evt ||| srcMask src, flt := x.flt ||| srcMask src, fatal := x.fatal ||| srcMask src }
      | none => t
    u.onCrn fun c => { c with carried := none }

/-- References that are absent as the FLT block starts. -/
def State.raiseAbsent (s : State) : State :=
  ((List.range 8).filter fun r => !s.tim.sdsref.getLsbD r && !s.flt.live.contains (1088 + r, 2)).foldl
    (fun a r => a.raise { src := 1088 + r, reason := 2, cls := 2, live := true }) s

/-- Firmware of bank b starts; a cold start takes the policy's journaling, zone and aging defaults, and new salts (08 R290; 14 R489,
R496, R502). -/
def State.startFirmware (b : Nat) (t : Trans) (s : State) : State :=
  let g := s.fwSlot b
  let a := ((s.bootLine 0 b).onImg fun m => { m with fwBank := b, m1 := (sha384 g.header).toList }).onHif fun h =>
    { h with blLow := g.blLow, blHigh := g.blHigh, fwVersion := g.version, bmbRsp := [], bmbDone := false }
  let c := a.onCrn fun c => { c with fwRuns := true, wdArmed := true, wdLast := s.upNs, trans := some { t with phase := 1 } }
  let d := c.restoreFfr.raiseAbsent.bootPolicy.onImg fun m => { m with configDigest := digestOf s.stg.cur s.stg.imm }
  if t.kind = .coldStart then
    (d.onImg fun m => { m with journaling := m.policy.journal }).onStg fun x =>
      { x with coldZone := d.img.policy.zone, coldAging := d.img.policy.aging, salt := x.salt + 1 }
  else d

/-- The GCC and stack domains power off (03 R79, R101). -/
def State.enterWatch (s : State) : State :=
  ((s.resetDomains false false).onCrn fun c => { c with
    mod := .watch, trans := none, fwRuns := false, wdArmed := false, wdDeferred := false, pcieUp := false
    storeKept := false, fatalTrig := none, thermal := false }).onTim fun t => { t with lock := 0 }

/-- BOOT_IMAGE_VERIFIED (03 R83; 14 R495; 15 R513, R514). With no bank to boot the module stays in Watch, its links down (02 R60). -/
def execBootImageVerified (s : State) : Res :=
  .next (match s.crn.trans with
  | none => s
  | some t =>
    let boots := match t.kind with | .coldStart | .reset _ => true | _ => false
    if !boots || decide (t.phase ≠ 0) || s.crn.held || s.crn.draining then s
    else match s.pickBank t.kind with
      | (some b, u) => u.startFirmware b t
      | (none, u) =>
        (u.enterWatch.raise { src := 1129, reason := 1, cls := 3 }).bootLine 2 0)

/-- Sets the phase of the transition under way. -/
def State.phase (n : Nat) (s : State) : State :=
  s.onCrn fun c => { c with trans := c.trans.map fun t => { t with phase := n } }

/-- Standby is reached: the mailbox is ready (03 R83, R95). -/
def State.atStandby (s : State) : State :=
  (s.onCrn fun c => { c with mod := .standby, trans := none, thermal := false }).onHif fun h => { h with ready := true }

/-- STACKS_TRAINED: a cold start ends in Standby (03 R83). -/
def execStacksTrained (s : State) : Res :=
  .next (match s.crn.trans with
  | some t => if t.phase = 1 then (if t.kind = .coldStart then s.atStandby else s.phase 2) else s
  | none => s)

/-- RESET_DONE: Standby is reached, class J is restored where it applies, and a reset that returns to Run goes on there
(03 R97, R101, R103). -/
def execResetDone (s : State) : Res :=
  .next (match s.crn.trans with
  | some t =>
    let isReset := match t.kind with | .reset _ => true | _ => false
    if isReset && (t.phase == 2 || (t.phase == 1 && s.crn.storeKept)) then
      let u := s.restoreJ.placeRestored.atStandby
      if t.back = .run ∧ !s.crn.thermal then u.onCrn fun c => { c with trans := some { kind := .toRun, back := .run } } else u
    else s
  | none => s)

/-! ## Run, Standby and Watch (03 R79, R101, R102; 04 R139) -/

/-- RUN_ENTRY_COMMIT: every follower has locked; the cells power up and apply the commit that firmware publishes, those that are still
isolated with their ports Isolated (03 R604; 05 R177; 06 R196; 13 R463). -/
def execRunEntryCommit (s : State) : Res :=
  .next (match s.crn.trans with
  | some t =>
    if t.kind = .toRun ∧ t.phase = 0 ∧ s.tim.lock = BitVec.allOnes 8 then
      let u := ((List.range 64).foldl (fun a c => a.onCell c fun x => { x with st := .run }) s).onBpm fun b => { b with four := true }
      let v := ((List.range 64).filter fun c => !u.inService c).foldl (fun a c => a.isolatePorts c) u
      (v.publish true v.stg.cur []).phase 3
    else s
  | none => s)

/-- Firmware reinstalls the copies of the master's dynamic entries; copies of a static entry that cells took on demand do not return (08
R271, R274). -/
def State.reinstall (s : State) : State :=
  let t := s.onTbl fun t => { t with master := t.master.filter fun e => (s.staticMaster (e.1 / 2 ^ 48) (e.1 % 2 ^ 48)).isNone }
  t.tbl.master.foldl (fun a e =>
    (bitsOf 64 e.2.cells.toNat).foldl (fun b c => (b.dynWrite c (e.1 / 2 ^ 48) (e.1 % 2 ^ 48) (some e.2.dest) (0, 0, 0)).2) a) t

/-- Counters of cells, stacks and their engines. -/
def cellCounter (k : Nat) : Bool := [3, 4, 5, 6, 8, 9, 11, 12, 13, 14, 16].contains (k / 2 ^ 48)

/-- PMU blocks of cells and engines. -/
def offBlock (b : Nat) : Bool := decide (b < 64 ∨ 72 ≤ b ∧ b < 200)

/-- Run ends in Standby: links drop, lanes and cells are off, with what their tables kept live, and the stacks keep what preserve-on-warm
asks for (03 R79, R94, R101; 06 R196; 16 R538). -/
def State.leaveRun (s : State) : State :=
  let keep := match s.crn.trans with | some t => t.keep | none => false
  let s := ((List.range 64).filter fun c => s.flt.live.contains (1024 + c, 2)).foldl (fun a c => a.endLive (1024 + c) 2) s
  let t := (s.prt.filter fun e => decide (e.2.link = .up ∨ e.2.link = .isolated)).foldl (fun a e => a.setLink e.1 .down) s
  let u := if keep then t.keepStore else t.dropStore
  let off (x : Cell) : Cell :=
    { fatalIso := x.fatalIso, isoSoon := x.isoSoon, benched := x.benched, benchSoon := x.benchSoon, unbenchSoon := x.unbenchSoon, sr := x.sr, lowWindows := x.lowWindows }
  let rest (x : Port) : Port :=
    { link := x.link, applied := x.applied, lastChange := x.lastChange, shut := x.shut, linkDelay := x.linkDelay }
  let v : State := { u with
    cel := t.cel.foldl (fun m e => tabPut {} e.1 (off e.2) m) []
    prt := t.prt.foldl (fun m e => tabPut {} e.1 (rest e.2) m) []
    frm := { next := t.frm.next }, fab := {}, egr := {}, 
    tbl := { t.tbl with dyn := [], act := [], master := u.tbl.master, absent := t.tbl.absent.filter fun e => decide (64 ≤ e.1) }
    ctr := t.ctr.filter fun e => !cellCounter e.1 }
  (v.pmuDrop offBlock).onCrn fun c => { c with storeKept := keep }

/-- Commands that have started in the cells or the store complete before the module leaves Run. -/
def State.settled (s : State) : Bool :=
  (s.hif.deferred.all fun d => decide (d.kind = .snapshot ∨ d.kind = .replay)) && s.flo.fwOps.isEmpty

/-- POWER_TRANSITION_DONE (03 R79). -/
def execPowerTransitionDone (s : State) : Res :=
  .next (match s.crn.trans with
  | none => s
  | some t =>
    match t.kind with
    | .toRun => if t.phase = 3 then (s.onCrn fun c => { c with mod := .run, trans := none }).reinstall else s
    | .toStandby =>
      if s.crn.draining || !s.settled || s.hif.pend then s
      else (if s.crn.mod = .run then s.leaveRun else s).onCrn fun c => { c with mod := .standby, trans := none, thermal := false }
    | .toWatch =>
      if s.crn.draining || !s.settled || s.hif.pend then s else (if s.crn.mod = .run then s.leaveRun else s).enterWatch
    | _ => s)

/-- Every operation in flight has completed or is voided, so the drain may end (03 R104). -/
def State.drained (s : State) : Bool :=
  (s.flo.ops.all fun o => decide (o.place = .credit ∨ o.place = .done)) && s.flo.voids.isEmpty && s.prg.comps.isEmpty &&
  (s.settled || !s.crn.fwRuns)

/-- Coalesced deltas go back to their homes, those on their way and those in the caches; the ridges hold nothing then
(03 R104, R105). -/
def State.writeBack (s : State) : State :=
  let t := s.flo.coh.foldl (fun a m => a.applyCoh m false) s
  let u := t.flo.cache.foldl (fun a e => e.2.foldl (fun b x => b.applyCoh (x.deltas 4 e.1) false) a) t
  u.onFlo fun f => { f with coh := [], cache := [], locked := [] }

/-- DRAIN_COMPLETE (03 R104). -/
def execDrainComplete (s : State) : Res :=
  .next (if s.crn.draining && s.drained then
    let t := s.writeBack.onCrn fun c => { c with draining := false }
    match s.crn.trans with
    | some x => (match x.kind with | .reset k => t.applyReset k x.back true | _ => t)
    | none => t
  else s)

/-- WATCH_WAKE (03 R80). -/
def execWatchWake (s : State) : Res :=
  .next (if s.crn.mod = .watch ∧ s.crn.trans = none ∧ s.crn.wakeTime ≠ 0 ∧ s.crn.wakeTime ≤ s.now then
    (s.onCrn fun c => { c with wakeTime := 0 }).applyReset .watchExit s.crn.afterWatch false
  else s)

/-! ## Resets (03 R95 to R99; 14 R502, R602) -/

/-- 3.0 ms have passed since PFW_N fell, or SEALED is set, or PFW_N is high (02 R51; 14 R502; 18 R588). -/
def State.sealWaited (s : State) : Bool := !s.sup.pfw || s.sup.sealed || s.passed s.crn.pfwFell 3000000

/-- The seal that Cairn asked firmware for is complete. -/
def State.sealComplete (s : State) : Bool := !(s.img.segs.any fun g => g.sealing) && (s.img.open_.isNone || s.crn.fwRuns)

/-- The seal that Cairn asked firmware for at a time has completed, or 3.0 ms have passed since (14 R602). -/
def State.askedSealed (s : State) (at_ : Nat) : Bool := s.sealComplete || s.passed at_ 3000000

/-- The wait before a module reset is over: its seal is complete, with SEALED set while PFW_N is low; or 3.0 ms have passed since PRST_N asked
for it; or they have passed since PFW_N fell, where it asked before that (02 R51; 14 R602; log entry 148). -/
def State.moduleResetDue (s : State) : Bool :=
  (s.sealComplete && (!s.sup.pfw || s.sup.sealed)) || s.passed s.crn.resetAt 3000000 ||
  (s.sup.pfw && decide (s.crn.resetAt ≤ s.crn.pfwFell + 3000000) && s.passed s.crn.pfwFell 3000000)

/-- A watchdog reset begins; it ends a trial (14 R495, R502). -/
def State.watchdogReset (s : State) : State := s.endTrial.beginReset .watchdog

/-- WATCHDOG_EXPIRY: 250 ms without a refresh (14 R495, R502). -/
def execWatchdogExpiry (s : State) : Res :=
  .next (if s.crn.wdArmed ∧ !s.crn.wdDeferred ∧ s.passed s.crn.wdLast 250000000 then
    let t := s.raise { src := 1128, reason := 1, cls := 2 }
    if s.sealWaited then t.watchdogReset else t.onCrn fun c => { c with wdDeferred := true }
  else s)

/-- DEFERRED_WATCHDOG_RESET (14 R502). -/
def execDeferredWatchdogReset (s : State) : Res :=
  .next (if s.crn.wdDeferred && s.passed s.crn.pfwFell 3000000 then s.watchdogReset else s)

/-- WATCHDOG_REFRESH (14 R502). -/
def execWatchdogRefresh (s : State) : Res :=
  .next (if s.crn.wdArmed && s.crn.fwRuns then s.onCrn fun c => { c with wdLast := s.upNs } else s)

/-- JOURNAL_SEAL: firmware begins the seal of the open segment (14 R497). -/
def execJournalSeal (s : State) : Res := .next (if s.crn.fwRuns then s.sealBegin else s)

/-- JOURNAL_SEAL_DONE: SEALED is set while PFW_N is low (02 R69); a deferred watchdog reset begins (14 R502). -/
def execJournalSealDone (s : State) : Res :=
  .next (if s.cairnRuns then
    let t := s.sealDone.onSup fun u => { u with sealed := u.pfw }
    if s.crn.wdDeferred && s.sup.pfw then t.watchdogReset else t
  else s)

/-- PRST_N_ASSERT: a module reset is asked for; firmware seals the journal first (02 R50; 14 R602). -/
def execPrstNAssert (s : State) : Res :=
  .next (if s.cairnRuns then
    (s.onCrn fun c => { c with prstN := false, resetAsked := true, resetAt := s.upNs }).onIf s.crn.fwRuns State.sealBegin
  else s.onCrn fun c => { c with prstN := false })

/-- MODULE_RESET, after the seal that Cairn asked for (02 R51; 03 R97; 14 R602). One that ends Watch goes to the target given at Watch entry. -/
def execModuleReset (s : State) : Res :=
  .next (if s.crn.resetAsked && s.moduleResetDue then
    let exit := decide (s.crn.mod = .watch) && (match s.crn.trans with
      | none => true
      | some t => decide (t.kind = .reset .watchExit))
    (s.applyReset (if exit then .watchExit else .module) s.resetTarget false).onCrn fun c =>
      { c with held := !c.prstN, wakeTime := 0, trans := c.trans.map fun t => { t with byPin := true } }
  else s)

/-- PRST_N_RELEASE (02 R50). -/
def execPrstNRelease (s : State) : Res := .next (s.onCrn fun c => { c with prstN := true, held := false })

/-- FATAL_FAULT_RESET, after the seal that Cairn asked for (03 R96; 14 R495, R602; 16 R549, R550). -/
def execFatalFaultReset (s : State) : Res :=
  .next (match s.crn.fatalTrig with
  | none => s
  | some x =>
    if !s.askedSealed s.crn.fatalAt then s
    else
      let t := (s.onFlt fun f => { f with resetCause := some x }).endTrial
      (t.applyReset .fatal s.resetTarget false).onCrn fun c => { c with carried := some t.flt.ffr })

end Sys2Proof.Machine
end

