-- ==== Sys2Proof/Machine/Supply.lean ====
section
/-!
DEFINITION. Input power, surges, reference clocks, the PCI Express link and temperature (02 R45 to R77; 04 R114,
R605; 18 R586 to R591).
-/

namespace Sys2Proof.Machine

open Sys2Proof

/-! ## Input power (02 R49, R68 to R71; 03 R83) -/

/-- START_THRESHOLD: the trip latch holds the converter (02 R68; 18 R589). -/
def execStartThreshold (s : State) : Res :=
  .next (if s.crn.mod = .unpowered ∧ !s.sup.tripLatch then
    (s.onSup fun u => { u with ovStop := false }).onCrn fun c => { c with mod := .softStart }
  else s)

/-- OVERVOLTAGE_RESTART (02 R68). -/
def execOvervoltageRestart (s : State) : Res :=
  .next (if s.crn.mod = .unpowered ∧ s.sup.ovStop ∧ !s.sup.tripLatch then
    (s.onSup fun u => { u with ovStop := false }).onCrn fun c => { c with mod := .softStart }
  else s)

/-- CAIRN_POWER_UP: Cairn starts in Watch on its way to Standby; the straps are sampled (02 R62; 03 R83). -/
def execCairnPowerUp (straps : Fin 4) (s : State) : Res :=
  .next (if s.crn.mod = .softStart then
    (s.onSup fun u => { u with i2cAddr := straps.val }).onCrn fun c =>
      { c with mod := .watch, trans := some { kind := .coldStart, back := .standby } }
  else s)

/-- FIRST_INPUT_MEASUREMENT (02 R49; 03 R83). -/
def execFirstInputMeasurement (vin : Nat) (iin : Nat) (pin : Nat) (above : Bool) (s : State) : Res :=
  let first := match s.crn.trans with | some t => decide (t.kind = .coldStart ∧ t.phase = 0) | none => false
  .next (if first && !s.sup.measured then
    s.onSup fun u => { u with
      measured := true, vin := vin % 65536, iin := iin % 65536, pin := pin % 65536, pfw := !above, sealed := u.sealed && !above }
  else s)

/-- POWER_FAIL_WARNING: PFW_N falls and firmware begins the seal (02 R68, R69). -/
def execPowerFailWarning (s : State) : Res :=
  .next (if s.cairnRuns && !s.sup.pfw then
    (((s.onSup fun u => { u with pfw := true, sealed := false }).onCrn fun c =>
      { c with pfwFell := s.upNs, pfwWarned := s.upNs :: c.pfwWarned }).raise { src := 1132, reason := 1, cls := 0 }).sealBegin
  else s)

/-- POWER_FAIL_RELEASE (02 R65, R70). -/
def execPowerFailRelease (s : State) : Res :=
  .next (if s.cairnRuns && s.sup.pfw then
    (s.onSup fun u => { u with pfw := false, sealed := false }).raise { src := 1132, reason := 2, cls := 0 }
  else s)

/-- CONVERTER_STOP, by undervoltage or by overvoltage (02 R68, R71). -/
def execConverterStop (ov : Bool) (s : State) : Res :=
  .next (if s.crn.mod = .unpowered then s else s.powerOff.onSup fun u => { u with ovStop := ov })

/-- VIN_SNS_OPEN (02 R45). -/
def execVinSnsOpen (s : State) : Res :=
  .next (if s.cairnRuns && !s.sup.snsOpen then
    (s.onSup fun u => { u with snsOpen := true }).raise { src := 1132, reason := 3, cls := 1, live := true }
  else s)

/-- VIN_SNS_CONNECTED (02 R45; 16 R538). -/
def execVinSnsConnected (s : State) : Res :=
  .next (if s.sup.snsOpen then (s.onSup fun u => { u with snsOpen := false }).endLive 1132 3 else s)

/-! ## Surges (02 R75 to R77) -/

/-- When a surge's first pulse came, by the time since Cairn power-up. -/
def State.pulseAt (s : State) (g : SurgeSeen) : Nat := s.upNs - g.ago

/-- The master counter at a surge's first pulse: what it reads now, less the time since and the steps made since (02 R77). -/
def State.counterAt (s : State) (g : SurgeSeen) : Nat :=
  ((s.now : Int) - g.ago - ((s.tim.steps.filter fun e => decide (s.pulseAt g < e.1)).map fun e => e.2).sum).toNat

/-- A power-fail warning asserted within 1 ms of the first pulse (02 R77). -/
def State.pfwSeen (s : State) (g : SurgeSeen) : Bool :=
  s.crn.pfwWarned.any fun t => decide (t ≤ s.pulseAt g + 1000000 ∧ s.pulseAt g ≤ t + 1000000)

/-- A surge log entry (02 R77). PEAK_I is held to its field as PEAK_V is (log entry 94). -/
def surgeWords (s : State) (g : SurgeSeen) : List Word :=
  two (s.counterAt g) ++
  [wd (min 0xFFFF g.peakV + min 0xFFFF g.peakI * 2 ^ 16),
   wd (g.mode % 4 + b2n (!s.tim.steps.any fun e => decide (e.1 ≤ s.pulseAt g)) * 2 ^ 2 + b2n (s.pfwSeen g) * 2 ^ 3 + min 255 g.pulses * 2 ^ 4 +
     min 4095 g.duration * 2 ^ 12)]

/-- SURGE (02 R75, R76): the record is made once the 1 ms is over in which pulses merge with the first, which came while Cairn was
powered. The lifetime count wraps at 2^32, and CLAMP_WEAR, which a removal of power clears, is set and raised anew
(log entry 94). -/
def execSurge (g : SurgeSeen) (s : State) : Res :=
  .next (if s.cairnRuns ∧ 1000000 ≤ g.ago ∧ g.ago ≤ s.upNs then
    let slot := s.sup.surgeHead
    let t := (s.onSup fun u => { u with
      surgeCount := satAdd 0xFFFFFFFF u.surgeCount 1, surgeLife := (u.surgeLife + 1) % 2 ^ 32
      surgeHead := (u.surgeHead + 1) % 16, surgeLog := putWords (4 * slot) (surgeWords s g) u.surgeLog }).raise
        { src := 1133, reason := 1, cls := 0, detail := slot }
    if g.worn && !t.sup.clampWear then
      (t.onSup fun u => { u with clampWear := true }).raise { src := 1133, reason := 2, cls := 1 }
    else t
  else s)

/-! ## Reference clocks (02 R57, R58) -/

/-- SYSCLK_LOST (02 R57). -/
def execSysclkLost (s : State) : Res :=
  .next (if s.cairnRuns && !s.sup.sysclkLost then
    (s.onSup fun u => { u with sysclkLost := true }).raise { src := 1131, reason := 1, cls := 2, live := true }
  else s)

/-- SYSCLK_RETURN (02 R57). -/
def execSysclkReturn (s : State) : Res :=
  .next (if s.sup.sysclkLost then (s.onSup fun u => { u with sysclkLost := false }).endLive 1131 1 else s)

/-- SDSREF_LOSS: every link of the ridge drops (02 R58). -/
def execSdsrefLoss (r : Fin 8) (s : State) : Res :=
  .next (if s.tim.sdsref.getLsbD r.val then
    let t := s.onTim fun t => { t with sdsref := t.sdsref &&& ~~~ BitVec.ofNat 8 (2 ^ r.val) }
    let links := (s.prt.filter fun e => decide (e.1 / 128 = r.val ∧ e.2.link = .up)).map fun e => e.1
    (links.foldl (fun a p => a.setLink p .down) t).raise { src := 1088 + r.val, reason := 2, cls := 2, live := true }
  else s)

/-- SDSREF_RETURN (16 R538). -/
def execSdsrefReturn (r : Fin 8) (s : State) : Res :=
  .next (if s.tim.sdsref.getLsbD r.val then s
  else (s.onTim fun t => { t with sdsref := t.sdsref ||| BitVec.ofNat 8 (2 ^ r.val) }).endLive (1088 + r.val) 2)

/-! ## PCI Express (02 R52; 04 R114, R605; 05 R171) -/

/-- The PCI Express link goes down. -/
def State.linkLost (s : State) : State :=
  if s.crn.pcieUp then (s.onCrn fun c => { c with pcieUp := false }).raise { src := 1144, reason := 2, cls := 0 } else s

/-- PERST_N_ASSERT: the endpoint enters reset (04 R605). -/
def execPerstNAssert (s : State) : Res := .next ((s.onCrn fun c => { c with perstN := false }).linkLost)

/-- What an endpoint reset does to a ring: no new work, and completions that can no longer be written are discarded;
fetched transmit descriptors complete without one (04 R114). -/
def State.cutRing (i : Nat) (s : State) : State :=
  if 576 ≤ i then s.ringDisable i
  else if 512 ≤ i then s.onRing i fun g => { g with enable := false, held := [], disRefused := false }
  else if 256 ≤ i then (s.ringDisable i).onRing i fun g => { g with cache := [], busy := [] }
  else
    let cut (d : Desc) : Desc := { d with lost := true }
    s.onRing i fun g => { g with enable := false, scan := false, cache := g.cache.map cut, busy := g.busy.map cut }

/-- An endpoint reset (04 R114, R605): PCI Express sessions close, ring pairs and rings are disabled, and MSI-X returns to reset. -/
def State.endpointReset (s : State) : State :=
  let t := (s.closeSessions fun e => e.channel.isNone).onHif fun h => { h with
    mbx := h.mbx.map fun e => (e.1, { e.2 with enable := false, idle := true, exec := none, held := none, rspStall := false })
    deferred := h.deferred.map fun d => { d with lost := d.lost || d.req.via.isRing }
    msix := [], msixPend := 0 }
  let u := t.onFlo fun f => { f with fwOps := f.fwOps.map fun d => { d with lost := d.lost || d.req.via.isRing } }
  ((u.rng.rings.map fun e => e.1).foldl (fun a i => a.cutRing i) u).onRng fun r => { r with cstall := 0 }

/-- PERST_N_RELEASE (04 R114, R605; 02 R52). Without a powered endpoint nothing of it is left to reset. -/
def execPerstNRelease (s : State) : Res := .next ((s.onCrn fun c => { c with perstN := true }).endpointReset)

/-- PCIE_LINK_DOWN (16 R538). -/
def execPcieLinkDown (s : State) : Res := .next s.linkLost

/-- PCIE_LINK_UP: queued event entries are written into the free slots of each event ring (05 R171). -/
def execPcieLinkUp (free : List Nat) (s : State) : Res :=
  .next (if s.crn.fwRuns && s.crn.perstN && !s.crn.pcieUp then
    (List.range 32).foldl (fun a q => a.eqFlush q (free.getD q 0)) (s.onCrn fun c => { c with pcieUp := true })
  else s)

/-! ## Temperature (18 R586 to R591) -/

/-- Since when a condition holds: since before, or since now, or not. -/
def sinceWhen (holds : Bool) (now : Nat) (old : Option Nat) : Option Nat := if holds then some (old.getD now) else none

/-- TEMPERATURE_SAMPLE: one value in 0.1 °C for each sensor whose block is powered (18 R586, R591). What R587's thresholds go by follows. -/
def execTemperatureSample (temps : List (Option Int)) (s : State) : Res :=
  .next (if s.cairnRuns then
    let one (old : Nat) (t : Option Int) : Nat :=
      match t with | some v => (v % 65536).toNat + 2 ^ 16 | none => old % 65536
    let all := (List.range 24).map fun k =>
      one (tabGet 0 s.sup.temp k) (if s.sensorPowered k then temps.getD k none else none)
    let hottest := (List.range 21).foldl (fun (b : Option Nat) k =>
      if (all.getD k 0).testBit 16 then
        match b with
        | some j => if signed16 (all.getD j 0) < signed16 (all.getD k 0) then some k else b
        | none => some k
      else b) none
    let top := match hottest with | some j => (all.getD j 0 % 65536, j) | none => (0, 0)
    let junction := ((List.range 21).map fun k => all.getD k 0).filter fun v => v.testBit 16
    let above (limit : Int) : Bool := hottest.isSome && decide (limit < signed16 top.1)
    let below (limit : Int) : Bool := junction.all fun v => decide (signed16 v < limit)
    let hot := (all.getD 23 0).testBit 16 && decide (850 < signed16 (all.getD 23 0))
    s.onSup fun u => { u with
      warnSamples := if above 1370 then u.warnSamples + 1 else 0
      limitSamples := if above 1420 then u.limitSamples + 1 else 0
      belowWarn := sinceWhen (below 1370) s.upNs u.belowWarn
      belowLimit := sinceWhen (below 1420) s.upNs u.belowLimit
      hotBase := if hot then u.hotBase else s.lifeHot
      hotSince := sinceWhen hot s.upNs u.hotSince
      temp := (List.range 24).foldl (fun t k => tabPut 0 k (all.getD k 0) t) u.temp
      tmax := top.1, sensor := top.2
      peak := if hottest.isSome ∧ signed16 u.peak < signed16 top.1 then top.1 else u.peak }
  else s)

/-- THERMAL_WARNING: ten samples in a row above 137.0 °C (18 R587). -/
def execThermalWarning (s : State) : Res :=
  .next (if s.cairnRuns && !s.sup.warn && decide (10 ≤ s.sup.warnSamples) then
    (s.onSup fun u => { u with warn := true, warnings := satAdd 0xFFFF u.warnings 1 }).raise
      { src := 1135, reason := 1, cls := 1, live := true, detail := s.sup.tmax }
  else s)

/-- The module is in Run, or on its way there (03 R79, R97). -/
def State.runAhead (s : State) : Bool :=
  decide (s.crn.mod = .run) ||
  (match s.crn.trans with
   | some t => (match t.kind with | .toRun => true | .reset _ => decide (t.back = .run) | _ => false)
   | none => false)

/-- THERMAL_LIMIT: ten samples in a row above 142.0 °C. In Run, or on the way there, a move to Standby is ordered (18 R587). -/
def execThermalLimit (s : State) : Res :=
  .next (if s.cairnRuns && !s.sup.limit && decide (10 ≤ s.sup.limitSamples) then
    ((s.onSup fun u => { u with limit := true, limits := satAdd 0xFFFF u.limits 1 }).raise
      { src := 1135, reason := 2, cls := 2, live := true, detail := s.sup.tmax }).onCrn fun c =>
        { c with thermal := s.runAhead }
  else s)

/-- THERMAL_STANDBY: the ordered move begins once no commit and no seal is in its way (18 R588). -/
def execThermalStandby (s : State) : Res :=
  .next (if s.crn.thermal && decide (s.crn.mod = .run) && s.crn.trans.isNone && !s.hif.pend && s.sealWaited then
    s.beginTrans .toStandby true
  else s)

/-- Every junction sensor has stayed below a threshold for 1 s (18 R587). -/
def State.cool (s : State) (since : Option Nat) : Bool := match since with | some t => s.passed t 1000000000 | none => false

/-- THERMAL_CONDITION_END (18 R587). -/
def execThermalConditionEnd (limit : Bool) (s : State) : Res :=
  .next (if limit then
    (if s.sup.limit && s.cool s.sup.belowLimit then (s.onSup fun u => { u with limit := false }).endLive 1135 2 else s)
  else if s.sup.warn && s.cool s.sup.belowWarn then (s.onSup fun u => { u with warn := false }).endLive 1135 1 else s)

/-- THERMAL_TRIP: the comparator stops the converter and latches (18 R589). -/
def execThermalTrip (s : State) : Res :=
  .next (if s.crn.mod = .unpowered then s else s.powerOff.onSup fun u => { u with tripLatch := true })

/-- TRIP_LATCH_CLEAR (18 R589). -/
def execTripLatchClear (s : State) : Res := .next (s.onSup fun u => { u with tripLatch := false })

/-- HOURLY_FLASH_WRITE: lifetime hours, those with sensor 23 above 85.0 °C, and lifetime surges go to flash; the hours themselves pass with
the time (02 R65; 18 R591; log entry 149). -/
def execHourlyFlashWrite (s : State) : Res := .next (if s.cairnRuns then s.saveLife else s)

end Sys2Proof.Machine
end

