-- ==== Sys2Proof/Machine/Host.lean ====
section
/-!
DEFINITION. BAR0 (04 R115 to R121; 05 R150, R151, R182, R183; 13 R478; 16 R552, R553; 17 R575, R576), the mailbox
transports of the host (04 R120, R126 to R128), the I2C target (02 R61 to R65; 18 R590, R591), and the management ports
(04 R133).
-/

namespace Sys2Proof.Machine

open Sys2Proof

/-! ## Reads of BAR0 -/

/-- Bit of a word. -/
def flag (b : Bool) (n : Nat) : Nat := b2n b * 2 ^ n

/-- Low and high word of a 64-bit register at `lo`. -/
def half (off lo n : Nat) : Word := if off = lo then wd n else wd (n / 2 ^ 32)

/-- The configuration values of the PCI Express function (04 R112). -/
structure PciFunction where
  vendor : Nat
  device : Nat
  revision : Nat
  classCode : Nat
  /-- Bytes of BAR0 to BAR5 and of the expansion ROM, 0 where it is not implemented; BAR0 takes 64-bit addresses and is not prefetchable. -/
  bars : List Nat
  bar0Is64 : Bool
  bar0Prefetch : Bool
  msixVectors : Nat
  msi : Bool
  intx : Bool
  /-- Maximum payload supported and largest read request, bytes. -/
  maxPayload : Nat
  maxRead : Nat
  tagBits : Nat
  aer : Bool
  flr : Bool
  ats : Bool
  pasid : Bool
  sriov : Bool
deriving DecidableEq, Repr

/-- The module's one function (04 R112). -/
def endpointFunction : PciFunction :=
  { vendor := Config.vendorId.toNat, device := 0xC410, revision := silRev, classCode := 0x028000
    bars := [0x400000, 0, 0, 0, 0, 0, 0], bar0Is64 := true, bar0Prefetch := false, msixVectors := 64, msi := false, intx := false
    maxPayload := 512, maxRead := 4096, tagBits := 10, aer := true, flr := false, ats := false, pasid := false, sriov := false }

/-- A register of the HIF block (04 R117, R118). Doorbells read 0. -/
def State.readHif (s : State) (off : Nat) : Word :=
  let h := s.hif
  if off = 0x0 then wd (endpointFunction.vendor + endpointFunction.device * 2 ^ 16)
  else if off = 0x4 then wd (0x1024 + 0x51 * 2 ^ 16 + silRev * 2 ^ 24 + modRev * 2 ^ 28)
  else if off = 0x8 then wd (h.blLow + h.blHigh * 2 ^ 8)
  else if off = 0x10 then s.hifStatus
  else if off = 0x20 then wd h.irq.toNat
  else if off = 0x24 then wd h.irqEn.toNat
  else if off = 0x40 then s.hifEpoch
  else if off = 0x48 ∨ off = 0x4C then half off 0x48 h.applied.toNat
  else if off = 0x50 ∨ off = 0x54 then half off 0x50 h.isolated.toNat
  else if off = 0x58 ∨ off = 0x5C then half off 0x58 h.epochTime
  else if off = 0x80 then wd (flag h.bmbBusy 1 + flag h.bmbDone 2)
  else if 0x100 ≤ off ∧ off < 0x200 then tabGet 0 h.bmbCmd ((off - 0x100) / 4)
  else if 0x200 ≤ off ∧ off < 0x300 then tabGet 0 h.bmbRsp ((off - 0x200) / 4)
  else if 0x1000 ≤ off ∧ off < 0x1200 then
    let g := s.pair ((off - 0x1000) / 0x40)
    match (off - 0x1000) % 0x40 / 4 with
    | 0 => wd g.cmdBase
    | 1 => wd (g.cmdBase / 2 ^ 32)
    | 2 => wd g.rspBase
    | 3 => wd (g.rspBase / 2 ^ 32)
    | 4 => wd (b2n g.enable + flag g.idle 1 + flag g.enaRefused 2 + flag g.rspStall 3 + g.log2size * 2 ^ 4 + g.vector * 2 ^ 8)
    | 5 => wd g.pos
    | _ => 0
  else if 0xF000 ≤ off ∧ off < 0xF400 then s.msixWord ((off - 0xF000) / 4)
  else if off = 0xF800 ∨ off = 0xF804 then half off 0xF800 h.msixPend.toNat
  else 0

/-- A register of the RING block (05 R150, R151). -/
def State.readRing (s : State) (off : Nat) : Word :=
  if off < 0x14C00 then
    let i := (off - 0x10000) / 0x20
    let g := s.ring i
    match (off - 0x10000) % 0x20 / 4 with
    | 0 => wd g.base
    | 1 => wd (g.base / 2 ^ 32)
    | 2 => wd (b2n g.enable + flag g.idle 1 + flag g.enaRefused 2 + flag g.disRefused 3 + g.log2size * 2 ^ 4 +
        g.vector * 2 ^ 9 + flag g.irqEn 15 + g.cq * 2 ^ 16 + g.requester * 2 ^ 22)
    | 3 => wd (g.pos % 65536)
    | 4 => wd g.holdoff
    | 5 => if 512 ≤ i ∧ i < 576 then wd g.held.length else 0
    | 6 => if 576 ≤ i then wd g.lost else 0
    | _ => 0
  else if off = 0x18004 then wd (b2n s.rng.invalDone)
  else if off = 0x18010 ∨ off = 0x18014 then half off 0x18010 s.rng.cstall.toNat
  else 0

/-- A register of the BPM block (05 R182, R183). An operation ends with its write, so DONE reads 1. -/
def State.readBpm (s : State) (off : Nat) : Word :=
  if off = 0x20000 then wd (b2n s.bpm.four)
  else if 0x20010 ≤ off ∧ off < 0x20020 then wd (s.poolFree ((off - 0x20010) / 4))
  else if 0x21000 ≤ off ∧ off < 0x21400 then
    let q := (off - 0x21000) / 0x20
    match (off - 0x21000) % 0x20 / 4 with
    | 1 => wd (tabGet 0 s.bpm.allocStatus q + 16)
    | 2 => wd (tabGet 0 s.bpm.allocHandle q)
    | 4 => wd (tabGet 0 s.bpm.xferTo q)
    | 6 => wd (tabGet 0 s.bpm.opStatus q + 16)
    | 7 => wd (tabGet 0 s.bpm.opHandle q)
    | _ => 0
  else if 0x22000 ≤ off ∧ off < 0x22400 then wd (s.bpmQuota ((off - 0x22000) / 16) ((off - 0x22000) % 16 / 4))
  else if 0x23000 ≤ off ∧ off < 0x23400 then wd (s.bpmUsed ((off - 0x23000) / 16) ((off - 0x23000) % 16 / 4))
  else 0

/-- A register of the FLT block (16 R552, R553). -/
def State.readFlt (s : State) (off : Nat) : Word :=
  let f := s.flt
  let n := off % 0x100 / 4
  if off = 0x30000 then s.fltSummary
  else if off = 0x30004 then s.fltClrResult
  else if off = 0x30008 then wd f.suppressed
  else if off = 0x30010 then s.ffrCtrl
  else if off = 0x30014 then wd f.ffr.reason
  else if off = 0x30018 ∨ off = 0x3001C then half off 0x30018 f.ffr.addr
  else if off = 0x30020 ∨ off = 0x30024 then half off 0x30020 f.ffr.time
  else if off = 0x30028 then s.fltResetCause
  else if 36 ≤ n then 0
  else match off / 0x100 with
    | 0x301 => statusWord f.evt n
    | 0x302 => statusWord f.flt n
    | 0x303 => statusWord f.fatal n
    | 0x304 => statusWord s.cause n
    | 0x305 => statusWord f.alertEn n
    | _ => 0

/-- A register of the TIME block (13 R478). -/
def State.readTime (s : State) (off : Nat) : Word :=
  let t := s.tim
  let ns := t.ctr / nsUnit
  if off = 0x40000 then wd (ns % 10 ^ 9)
  else if off = 0x40004 then wd (ns / 10 ^ 9)
  else if off = 0x40008 then wd (ns / 10 ^ 9 / 2 ^ 32 % 2 ^ 16 + t.ctr / 2 ^ 32 % 2 ^ 16 * 2 ^ 16)
  else if off = 0x40010 ∨ off = 0x40014 then half off 0x40010 s.now
  else if off = 0x40020 then s.timeStatus
  else if off = 0x40028 ∨ off = 0x4002C then half off 0x40028 (unsigned64 t.rate)
  else if off = 0x40030 ∨ off = 0x40034 then half off 0x40030 t.stepAt
  else if off = 0x40038 then wd (t.utc % 256)
  else if off = 0x40040 then s.pulseStatus
  else 0

/-- The value of a register at a BAR0 offset; what no register table defines reads 0 (00 R9; 04 R115). -/
def State.bar0Read (s : State) (off : Nat) : Word :=
  if off % 4 ≠ 0 then 0
  else if off < 0x10000 then s.readHif off
  else if off < 0x20000 then s.readRing off
  else if off < 0x30000 then s.readBpm off
  else if off < 0x40000 then s.readFlt off
  else if off < 0x50000 then s.readTime off
  else match pmuWindow off with
    | some (b, w) => s.pmuRead b w
    | none => 0

/-- The registers that a read of a _LO register latches (04 R116; 13 R478). -/
def highOf (off : Nat) : List Nat :=
  if off = 0x48 ∨ off = 0x50 ∨ off = 0x58 ∨ off = 0x18010 ∨ off = 0x30018 ∨ off = 0x30020 ∨ off = 0x40010 ∨ off = 0x40028 ∨
      off = 0x40030 then [off + 4]
  else if off = 0x40000 then [0x40004, 0x40008]
  else if 0x1000 ≤ off ∧ off < 0x1200 ∧ (off % 0x40 = 0 ∨ off % 0x40 = 8) then [off + 4]
  else if 0x10000 ≤ off ∧ off < 0x14C00 ∧ off % 0x20 = 0 then [off + 4]
  else match pmuWindow off with
    | some (b, w) =>
      (match pmuReg b w with
       | .cntLo _ => [off + 4]
       | .plain _ => if 8 ≤ w ∧ ((w - 8) % 8 = 2 ∨ (w - 8) % 8 = 4) then [off + 4] else []
       | _ => [])
    | none => []

/-- LO_READ_LATCH: a read by a master. A _LO register latches its _HI for it; a latched _HI is returned once (04 R116). -/
def execLoReadLatch (master : Nat) (off : Nat) (s : State) : Res :=
  let key (o : Nat) : Nat := master * 2 ^ 22 + o
  .next (s.access off fun s =>
    let v := (tabFind s.hif.latch (key off)).getD (s.bar0Read off)
    (s.onHif fun h => { h with
      latch := (highOf off).foldl (fun t o => tabIns (key o) (s.bar0Read o) t) (tabDel (key off) h.latch) }).emit
        (.barRead master off v))

/-! ## Writes of BAR0 -/

/-- Bits [hi:lo] of n replaced by v. -/
def setBits (n hi lo v : Nat) : Nat := n - nfld n hi lo * 2 ^ lo + v % 2 ^ (hi + 1 - lo) * 2 ^ lo

/-- A write of an MSI-X table word; unmasking sends a pending vector (04 R112, R117). -/
def State.writeMsix (k : Nat) (v : Word) (s : State) : State :=
  let w := if k % 4 = 3 then v &&& 1 else if k % 4 = 0 then v &&& 0xFFFFFFFC else v
  let t := s.onHif fun h => { h with msix := tabPut (msixDefault k) k w h.msix }
  if k % 4 = 3 ∧ v &&& 1 = 0 ∧ s.hif.msixPend.getLsbD (k / 4) then
    (t.onHif fun h => { h with msixPend := h.msixPend &&& ~~~ BitVec.ofNat 64 (2 ^ (k / 4)) }).sendVector (k / 4)
  else t

/-- A write of a base register of a mailbox ring pair, ignored unless it is disabled and idle (04 R120). -/
def State.writeMbxBase (off : Nat) (v : Word) (s : State) : State :=
  let n := (off - 0x1000) / 0x40
  let g := s.pair n
  let low (b : Nat) : Nat := setBits b 31 0 (v.toNat / 4096 * 4096)
  let high (b : Nat) : Nat := setBits b 63 32 v.toNat
  if g.enable ∨ !g.idle then s
  else match (off - 0x1000) % 0x40 / 4 with
    | 0 => s.onPair n fun g => { g with cmdBase := low g.cmdBase }
    | 1 => s.onPair n fun g => { g with cmdBase := high g.cmdBase }
    | 2 => s.onPair n fun g => { g with rspBase := low g.rspBase }
    | 3 => s.onPair n fun g => { g with rspBase := high g.rspBase }
    | _ => s

/-- A write of a ring's base or holdoff (05 R150, R151). -/
def State.writeRingReg (off : Nat) (v : Word) (s : State) : State :=
  let i := (off - 0x10000) / 0x20
  let g := s.ring i
  match (off - 0x10000) % 0x20 / 4 with
  | 0 => if g.enable then s else s.onRing i fun g => { g with base := setBits g.base 31 0 (v.toNat / 4096 * 4096) }
  | 1 => if g.enable then s else s.onRing i fun g => { g with base := setBits g.base 63 32 v.toNat }
  | 4 => s.onRing i fun g => { g with holdoff := fld v 7 0 }
  | _ => s

/-- REGISTER_WRITE: a write of a register that has no row of its own acts by its access type; read-only fields and
undefined offsets ignore it (00 R8, R9; 04 R115). -/
def State.bar0Write (off : Nat) (v : Word) (s : State) : State :=
  if off % 4 ≠ 0 then s
  else if off = 0x20 then s.onHif fun h => { h with irq := h.irq &&& ~~~ BitVec.ofNat 5 v.toNat }
  else if off = 0x24 then s.onHif fun h => { h with irqEn := BitVec.ofNat 5 v.toNat }
  else if 0x100 ≤ off ∧ off < 0x200 then s.onHif fun h => { h with bmbCmd := tabPut 0 ((off - 0x100) / 4) v h.bmbCmd }
  else if 0x1000 ≤ off ∧ off < 0x1200 then s.writeMbxBase off v
  else if 0xF000 ≤ off ∧ off < 0xF400 then s.writeMsix ((off - 0xF000) / 4) v
  else if 0x10000 ≤ off ∧ off < 0x14C00 then s.writeRingReg off v
  else if off = 0x20000 then s.onBpm fun b => { b with four := bit v 0 }
  else if 0x21000 ≤ off ∧ off < 0x21400 ∧ off % 0x20 = 0x10 then
    s.onBpm fun b => { b with xferTo := tabPut 0 ((off - 0x21000) / 0x20) (fld v 5 0) b.xferTo }
  else if 0x22200 ≤ off ∧ off < 0x22400 then
    s.onBpm fun b => { b with quota := tabPut 0 ((off - 0x22000) / 4) (fld v 21 0) b.quota }
  else if 0x30500 ≤ off ∧ off < 0x30590 then
    s.onFlt fun f => { f with alertEn := setStatusWord f.alertEn ((off - 0x30500) / 4) v }
  else match pmuWindow off with
    | some (b, w) =>
      (match pmuReg b w with
       | .cntLo _ => s
       | .cntHi _ => s
       | _ => s.pmuWrite 0x59 b w v)
    | none => s

/-- REGISTER_WRITE (00 R8). -/
def execRegisterWrite (off : Nat) (v : Word) (s : State) : Res := .next (s.access off fun s => s.bar0Write off v)

/-- RESERVED_BAR0_WRITE (00 R9; 16 R538). -/
def execReservedBar0Write (off : Nat) (_v : Word) (s : State) : Res :=
  .next (s.access off fun s =>
    if inRange off 0x100000 0x3FFFFF then
      s.raise { src := 1146, reason := 1, cls := 0, access := 2, master := 0x59, addr := off }
    else s)

/-! ## Mailbox transports (04 R120, R126 to R128) -/

/-- BOOT_MAILBOX_GO (04 R126). -/
def execBootMailboxGo (s : State) : Res :=
  .next (s.access 0x80 fun s =>
    if s.hif.ready && !s.hif.bmbBusy then
      s.onHif fun h => { h with
        bmbBusy := true, bmbDone := false, bmbAt := s.now, bmbMsg := (List.range 64).map fun i => tabGet 0 h.bmbCmd i }
    else s)

/-- Takes the command slot at POS when it is owned: OWN is cleared in word 0 of the slot (04 R127). -/
def State.takeCommand (n : Nat) (head : Word) (s : State) : State :=
  let g := s.pair n
  if s.hif.ready && g.enable && g.exec.isNone && !g.rspStall && bit head 31 then
    (s.hostWrite (g.cmdBase + 256 * g.pos) [wd (fld head 30 0)]).onPair n fun g => { g with
      exec := some g.pos, takenAt := s.now, pos := (g.pos + 1) % 2 ^ g.log2size }
  else s

/-- MAILBOX_DOORBELL: `head` is word 0 of the slot that the module examines, the response slot of a held response, else
the command slot at POS (04 R127, R128). -/
def execMailboxDoorbell (n : Fin 8) (head : Word) (s : State) : Res :=
  .next (s.access (0x8980 + 4 * n.val) fun s =>
    let g := s.pair n.val
    if g.rspStall then
      (match g.held with
       | some h => if bit head 31 then s else s.countDone.writeResponse n.val h
       | none => s)
    else s.takeCommand n.val head)

/-- MAILBOX_COMMAND_TAKE (04 R127). -/
def execMailboxCommandTake (n : Fin 8) (head : Word) (s : State) : Res :=
  .next (if s.crn.fwRuns && s.crn.pcieUp then s.takeCommand n.val head else s)

/-- MBX_CTRL_WRITE (04 R120). -/
def execMbxCtrlWrite (n : Fin 8) (v : Word) (s : State) : Res :=
  .next (s.access (0x1010 + 0x40 * n.val) fun s =>
    let g := s.pair n.val
    let size := if g.enable ∨ !g.idle then g.log2size else fld v 7 4
    s.onPair n.val fun g =>
      let h := { g with vector := fld v 13 8, log2size := size }
      if g.enable then { h with enable := bit v 0 }
      else if !bit v 0 then h
      else if inRange size 4 12 then { h with enable := true, idle := false, enaRefused := false, pos := 0 }
      else { h with enaRefused := true })

/-- MBX_IDLE (04 R120). -/
def execMbxIdle (n : Fin 8) (s : State) : Res :=
  let g := s.pair n.val
  .next (if !g.enable && g.exec.isNone && !g.rspStall then s.onPair n.val fun g => { g with idle := true } else s)

/-! ## I2C (02 R61 to R65, R77; 18 R590, R591) -/

/-- The Cairn register at a word offset (02 R64, R65; 18 R590, R591). -/
def State.crnWord (s : State) (off : Nat) : Word :=
  let u := s.sup
  match off with
  | 0x00 => wd (0x1024 + 2 ^ 16)
  | 0x04 => s.crnStatus
  | 0x08 => wd u.vin
  | 0x0C => wd u.iin
  | 0x10 => wd u.pin
  | 0x14 => wd u.surgeCount
  | 0x18 => wd u.surgeLife
  | 0x1C => wd u.surgeHead
  | 0x20 => wd (u.tmax + u.sensor * 2 ^ 16 + flag u.warn 21 + flag u.limit 22)
  | 0x24 => wd u.peak
  | 0x28 => wd (u.warnings + u.limits * 2 ^ 16)
  | 0x2C => wd (hoursOf s.lifeRun)
  | 0x30 => wd (hoursOf s.lifeHot)
  | _ =>
    if 0x40 ≤ off ∧ off < 0xA0 then wd (s.sensor ((off - 0x40) / 4))
    else if 0x100 ≤ off ∧ off < 0x200 then tabGet 0 u.surgeLog ((off - 0x100) / 4)
    else 0

/-- I2C_READ: the target of this module's address answers from Cairn's first input measurement on, with the input as measured now
(02 R62, R63, R65; 03 R83). -/
def execI2cRead (dev : Nat) (off : Nat) (n : Nat) (input : InputSeen) (s : State) : Res :=
  .next (if s.cairnRuns && s.sup.measured && dev == 0x3C + s.sup.i2cAddr then
    let t := s.onSup fun u => { u with vin := input.vin % 65536, iin := input.iin % 65536, pin := input.pin % 65536 }
    t.emit (.i2c ((List.range n).map fun i =>
      let a := (off + i) % 65536
      BitVec.ofNat 8 ((t.crnWord (a / 4 * 4)).toNat / 256 ^ (a % 4))))
  else s)

/-! ## Management ports (04 R133) -/

/-- The one's complement sum of 16-bit words (RFC 1071). -/
def inetSum (l : List Byte) : Nat :=
  let total := (List.range ((l.length + 1) / 2)).foldl (fun a i => a + beAt l (2 * i) 2) 0
  let once := total % 65536 + total / 65536
  once % 65536 + once / 65536

/-- A checksum over bytes. -/
def inetCheck (l : List Byte) : List Byte := beBytes 2 (65535 - inetSum l)

/-- Word i of management port m's record (14 R490). -/
def State.mgmtWord (s : State) (m i : Nat) : Word := wordAt s.img.policy.mgmt (12 * m + i)

def State.mgmtMac (m : Nat) : List Byte := beBytes 6 (Config.macBase.toNat + m)
def State.mgmtV4 (s : State) (m : Nat) : Option (List Byte) :=
  if bit (s.mgmtWord m 0) 0 ∧ s.mgmtWord m 1 ≠ 0 then some (wordBytes (s.mgmtWord m 1)) else none

/-- The link-local address of a MAC address (RFC 4291). -/
def linkLocal (mac : List Byte) : List Byte :=
  [0xFE, 0x80, 0, 0, 0, 0, 0, 0, mac.getD 0 0 ^^^ 2, mac.getD 1 0, mac.getD 2 0, 0xFF, 0xFE, mac.getD 3 0, mac.getD 4 0, mac.getD 5 0]

/-- The IPv6 addresses that port m answers for. -/
def State.mgmtV6 (s : State) (m : Nat) : List (List Byte) :=
  if bit (s.mgmtWord m 0) 1 then
    let a := wordsToBytes ((List.range 4).map fun i => s.mgmtWord m (3 + i))
    (if a.all fun b => b == 0 then [] else [a]) ++ [linkLocal (State.mgmtMac m)]
  else []

/-- ICMPv6 bytes with their checksum, from a source to a destination. -/
def icmp6 (src dst body : List Byte) : List Byte :=
  putBytes body 2 (inetCheck (src ++ dst ++ beBytes 4 body.length ++ [0, 0, 0, 58] ++ putBytes body 2 [0, 0]))

def ip6 (src dst : List Byte) (hop : Byte) (body : List Byte) : List Byte :=
  [0x60, 0, 0, 0] ++ beBytes 2 body.length ++ [58, hop] ++ src ++ dst ++ icmp6 src dst body

/-- Whether an address lies within the first `n` bits of another. -/
def samePrefix (n : Nat) (a b : List Byte) : Bool :=
  beNat a / 2 ^ (8 * a.length - n) == beNat b / 2 ^ (8 * b.length - n)

/-- The MAC address to which firmware sends an answer on port m: the sender's on the port's own link, the gateway's for a destination
outside the prefix, none where the record names no gateway (04 R133; 14 R490; log entry 98). -/
def State.nextHop (s : State) (m : Nat) (src to_ : List Byte) : Option (List Byte) :=
  let v4 := decide (to_.length = 4)
  let own := if v4 then wordBytes (s.mgmtWord m 1) else wordsToBytes ((List.range 4).map fun i => s.mgmtWord m (3 + i))
  let gw := if v4 then wordBytes (s.mgmtWord m 2) else wordsToBytes ((List.range 4).map fun i => s.mgmtWord m (7 + i))
  let n := if v4 then fld (s.mgmtWord m 0) 7 2 else fld (s.mgmtWord m 0) 15 8
  let link := !v4 && beAt to_ 0 2 / 64 == 0x3FA
  if link || samePrefix n own to_ then some src
  else if gw.all fun b => b == 0 then none
  else some (beBytes 6 (Config.gatewayMac m gw).toNat)

/-- What firmware answers to the network packet of an Ethernet type, with the destination address that the answer's frame
takes; `hop` is the answer's TTL or hop limit where its standard leaves it open. -/
def State.mgmtAnswer (s : State) (m : Nat) (src : List Byte) (ty : Nat) (p : List Byte) (hop : Byte) :
    Option (List Byte × List Byte) :=
  let mac := State.mgmtMac m
  let at_ (o n : Nat) : List Byte := (p.drop o).take n
  if ty = 0x0806 then
    match s.mgmtV4 m with
    | some a =>
      if p.length < 28 ∨ at_ 0 8 ≠ [0, 1, 8, 0, 6, 4, 0, 1] ∨ at_ 24 4 ≠ a then none
      else some (src, [0, 1, 8, 0, 6, 4, 0, 2] ++ mac ++ a ++ at_ 8 6 ++ at_ 14 4)
    | none => none
  else if ty = 0x0800 then
    match s.mgmtV4 m with
    | some a =>
      let hl := 4 * (beAt p 0 1 % 16)
      let q := p.take (beAt p 2 2)
      let body := q.drop hl
      if beAt p 0 1 / 16 ≠ 4 ∨ hl < 20 ∨ q.length < hl + 8 ∨ p.length < beAt p 2 2 ∨ at_ 16 4 ≠ a ∨ beAt p 9 1 ≠ 1 ∨
          beAt p 6 2 % 0x4000 ≠ 0 ∨ inetSum (q.take hl) ≠ 65535 ∨ inetSum body ≠ 65535 ∨ beAt body 0 2 ≠ 0x0800 then none
      else
        let head := putBytes (putBytes (putBytes (putBytes (q.take hl) 8 [hop]) 10 [0, 0]) 12 a) 16 (at_ 12 4)
        let echo := [0, 0, 0, 0] ++ body.drop 4
        (s.nextHop m src (at_ 12 4)).map fun to_ => (to_, putBytes head 10 (inetCheck head) ++ putBytes echo 2 (inetCheck echo))
    | none => none
  else if ty = 0x86DD then
    let from_ := at_ 8 16
    let dst := at_ 24 16
    let len := beAt p 4 2
    let body := at_ 40 len
    let sum := inetSum (from_ ++ dst ++ beBytes 4 len ++ [0, 0, 0, 58] ++ body)
    if beAt p 0 1 / 16 ≠ 6 ∨ beAt p 6 1 ≠ 58 ∨ body.length < len ∨ len < 8 ∨ sum ≠ 65535 then none
    else if beAt body 0 2 = 0x8700 then
      let target := (body.drop 8).take 16
      if !(s.mgmtV6 m).contains target ∨ beAt p 7 1 ≠ 255 then none
      else
        let anon := from_.all fun b => b == 0
        let peer : List Byte := if anon then [0xFF, 2, 0, 0, 0, 0, 0, 0, 0, 0, 0, 0, 0, 0, 0, 1] else from_
        let advert : List Byte := [136, 0, 0, 0, (if anon then 0x20 else 0x60), 0, 0, 0] ++ target ++ [2, 1] ++ mac
        some (if anon then [0x33, 0x33, 0, 0, 0, 1] else src, ip6 target peer 255 advert)
    else if beAt body 0 2 = 0x8000 ∧ (s.mgmtV6 m).contains dst then
      (s.nextHop m src from_).map fun to_ => (to_, ip6 dst from_ hop ([129, 0, 0, 0] ++ body.drop 4))
    else none
  else none

/-- A remote transport datagram to the listening port: it has rows of its own (04 R130; 15 R524). -/
def State.mgmtRemote (s : State) (m ty : Nat) (p : List Byte) : Bool :=
  let listen := s.img.policy.listenPort
  !s.img.policy.owners.isEmpty &&
  (if ty = 0x0800 then
     decide (beAt p 9 1 = 17) && decide (s.mgmtV4 m = some ((p.drop 16).take 4)) &&
     decide (beAt p (4 * (beAt p 0 1 % 16) + 2) 2 = listen)
   else decide (ty = 0x86DD) && decide (beAt p 6 1 = 17) && (s.mgmtV6 m).contains ((p.drop 24).take 16) &&
     decide (beAt p 42 2 = listen))

/-- MGMT_FRAME: a frame, without its FCS, that a management port receives (04 R133). -/
def execMgmtFrame (m : Fin 2) (data : List Byte) (s : State) : Res :=
  .next (if !s.crn.fwRuns then s
  else
    let vlan := fld (s.mgmtWord m.val 0) 27 16
    let tagged := beAt data 12 2 == 0x8100
    let off := if tagged then 18 else 14
    let mine := if vlan = 0 then !tagged else tagged && beAt data 14 2 % 4096 == vlan
    let dst := data.take 6
    let ty := beAt data (off - 2) 2
    let p := data.drop off
    let forMe := decide (dst = State.mgmtMac m.val) || decide (beAt data 0 1 % 2 = 1)
    let d := s.drawNat
    if !mine || !forMe then s.discard
    else if s.mgmtRemote m.val ty p then s
    else match s.mgmtAnswer m.val ((data.drop 6).take 6) ty p (BitVec.ofNat 8 (1 + d.1 % 255)) with
      | some (to_, q) =>
        d.2.emit (.mgmtFrame m.val (to_ ++ State.mgmtMac m.val ++ (data.drop 12).take (off - 12) ++ q))
      | none => s.discard)

end Sys2Proof.Machine
end

