-- ==== Sys2Proof/Machine/Scrub.lean ====
section
/-!
DEFINITION. Errors in the words of cells and ridges: what a scrub finds and what firmware restores (08 R291; 16 R548, R551).
-/

namespace Sys2Proof.Machine

open Sys2Proof

/-! ## Chunk buffer and Col staging (11 R405; 16 R551) -/

/-- The chunks of a cell's chunk buffer that have not been released at their destination, then those that have (11 R416, R417). -/
def State.openChunks (s : State) (c : Nat) : List Chunk :=
  (s.fab.partials.filter fun e => e.2.src == c).map (fun e => e.2) ++ tabGet [] s.fab.first c ++ tabGet [] s.fab.mid c ++
    (List.range 64).flatMap fun j => (s.pairOf c j).held
def State.doneChunks (s : State) (c : Nat) : List Chunk := s.fab.landed.filter fun d => d.dst == c

/-- A chunk carries nothing more. -/
def State.emptyChunk (d : Chunk) (s : State) : State :=
  let f (x : Chunk) : Chunk := if x = d then { x with pieces := [] } else x
  s.onFab fun b => { b with
    partials := b.partials.map fun e => (e.1, f e.2)
    first := b.first.map fun e => (e.1, e.2.map f), mid := b.mid.map fun e => (e.1, e.2.map f)
    pairs := b.pairs.map fun e => (e.1, { e.2 with held := e.2.held.map f }) }

/-- Every frame with bytes in a chunk ends: the chunk is named by its place among those of the cell (log entry 30). -/
def State.loseChunk (c n : Nat) (s : State) : State :=
  match (s.openChunks c)[n]? with
  | some d => (s.emptyChunk d).losePieces d.dst d.pieces
  | none =>
    match (s.doneChunks c)[n - (s.openChunks c).length]? with
    | some d => d.pieces.foldl (fun a p => a.badTail p.fid (maskPorts c p.mask)) s
    | none => s

/-- Words of 8 bytes in one lane's Col staging (11 R413). -/
def stagingWords : Nat := 1536

/-- The Col frame that a word of the staging holds ends: it is named by its place among those of the lane's port (log entry 30). -/
def State.loseStaged (c n : Nat) (s : State) : State :=
  let p := 16 * c + n / stagingWords
  match (s.allCopies.filter fun d => d.col && d.port == p)[n % stagingWords]? with
  | some d => s.badTail d.fid [p]
  | none => s

/-! ## Table words (08 R291) -/

/-- A cell or ridge whose words the scrubber reads: a cell in every state but Slumber. -/
def State.scrubs (s : State) (u : Nat) : Bool :=
  if u < 64 then (match (s.cell u).st with | .off => false | .slumber => false | _ => true) else s.crn.fwRuns

/-- The word of a table behaves as absent (08 R291). -/
def State.loseWord (u table index : Nat) (s : State) : State :=
  (s.onTbl fun m => { m with
    absent := if m.absent.contains (u, table, index) then m.absent else m.absent ++ [(u, table, index)] }).raise
    { src := (eccEvent u).1, reason := (eccEvent u).2, cls := 1, live := true, access := 4, master := scrubberId, addr := tableWord table index }

/-- An uncorrectable error in a word of a cell or a ridge. One in the holding buffer is found as its frame leaves it (HOLD_RELEASE). -/
def State.wordError (u table index : Nat) (s : State) : State :=
  let cellEight (t : State) : State := t.raise
    { src := 1024 + u, reason := 8, cls := 1, access := 4, master := scrubberId, addr := tableWord table index }
  if table = tChunk then cellEight (s.loseChunk u index)
  else if table = tStaging then cellEight (s.loseStaged u index)
  else if table = tHold then s
  else
    let t := if u < 64 then s.bump 6 u 12 1 else s.bump 7 (u - 64) 1 1
    if table = tSummit then
      match (s.cacheOf (u - 64))[index]? with
      | some x => t.dropEntry (u - 64) x (some index)
      | none => t
    else t.loseWord u table index

/-- TABLE_SCRUB: a read of a word of a cell or a ridge finds an error (08 R291; 16 R548, R551). -/
def execTableScrub (u : Fin 72) (table : Fin 16) (index : Nat) (err : EccSeen) (s : State) : Res :=
  .next (if !s.scrubs u.val || !unitTable u.val table.val then s
  else match err with
  | .clean => s
  | .corrected => if u.val < 64 then s.bump 6 u.val 11 1 else s.bump 7 (u.val - 64) 0 1
  | .uncorrectable => s.wordError u.val table.val index)

/-- A TYPE 5 event of an L2 entry that is restored (08 R275, R291). -/
def State.restoredEvent (cell obj dest : Nat) (own : Bool) (s : State) : State :=
  let fid := obj / 64 / 2 ^ 48
  let mac := obj / 64 % 2 ^ 48
  s.learnEvent 5 cell fid mac dest dest (s.copies fid mac) 0 0 own

/-- What stands in a word of a cell's L2 table is restored: a static entry from the journaled configuration, a dynamic one from the master,
or left free where the master does not place it in the cell (08 R291). -/
def State.restoreL2 (cell word : Nat) (own : Bool) (s : State) : State :=
  match (s.l2Items cell).find? fun i => (tabGet [] s.tbl.rowOf i).contains word with
  | none => s
  | some i =>
    let obj := i / 2
    if i % 2 = 1 then
      match cfgFind (s.cellCfg cell) 0x0510 obj with
      | some w => s.restoredEvent cell obj (fld (wordAt w 2) 31 16) own
      | none => s
    else
      match tabFind s.tbl.master (obj / 64) with
      | some m =>
        if m.cells.getLsbD cell then
          (s.onTbl fun x => { x with dyn := tabIns obj { dest := m.dest, act := true } x.dyn }).restoredEvent cell obj m.dest own
        else s.dynFree obj
      | none => s.dynFree obj

/-- TABLE_WORD_RESTORE: the ridge controller rewrites a word (08 R291). -/
def execTableWordRestore (u : Fin 72) (table : Fin 16) (index : Nat) (own : Bool) (s : State) : Res :=
  .next (if !s.isAbsent u.val table.val index ∨ !s.crn.fwRuns then s
  else
    let t := s.rewrite u.val table.val index
    let a := if u.val < 64 then t else t.bump 7 (u.val - 64) 2 1
    if u.val < 64 ∧ table.val = tL2 then a.restoreL2 u.val index own else a)

end Sys2Proof.Machine
end

