-- ==== Sys2Proof/Machine/Transmit.lean ====
section
/-!
DEFINITION. The transmit service: rounds, descriptors that start, copies, and host frames (05 R153 to R156, R164, R165, R181).
-/

namespace Sys2Proof.Machine

open Sys2Proof

/-! ## Rounds (05 R164) -/

/-- A TX ring that may start a descriptor: it holds one, and its completion ring takes completions (05 R169, R173). -/
def State.txReady (s : State) (i : Nat) : Bool :=
  (s.ring i).cache != [] && !s.rng.cstall.getLsbD (s.ring i).cq && decide (s.cqLoad (s.ring i).cq < 32)

/-- TX rings with a context, in index order. -/
def State.txRings (s : State) : List Nat := (s.rng.rings.map fun e => e.1).filter fun i => decide (i < 256)

/-- Rings that are still in the round. -/
def State.inRound (s : State) : List Nat := s.txRings.filter fun i => s.txReady i && decide (0 < (s.ring i).quota)

/-- A new round where every ring has left the last one. -/
def State.openRound (s : State) : State :=
  if s.inRound ≠ [] then s
  else
    (s.txRings.foldl (fun a i => a.onRing i fun g => { g with
      quota := if s.txReady i then g.weight else 0, roundBurst := g.burst }) s).onRng fun r => { r with visit := (256, 0) }

/-- The ring that the service starts a descriptor of next: the visited one within its BURST, else the next in index order. -/
def State.nextTx (s : State) : Option Nat :=
  let v := s.rng.visit
  let l := s.inRound
  if l.contains v.1 && decide (v.2 < (s.ring v.1).roundBurst) then some v.1
  else match l.find? fun i => decide (v.1 < i) with
    | some i => some i
    | none => l.head?

/-- The ring has started one descriptor; with none cached it leaves the round (05 R164). -/
def State.countStart (i : Nat) (s : State) : State :=
  (s.onRing i fun g => { g with quota := if g.cache.isEmpty then 0 else g.quota - 1 }).onRng fun r => { r with
    visit := if r.visit.1 = i ∧ r.visit.2 < (s.ring i).roundBurst then (i, r.visit.2 + 1) else (i, 1) }

/-! ## Descriptors (05 R153, R155, R156, R181) -/

def Desc.f (d : Desc) (w hi lo : Nat) : Nat := fld (wordAt d.data w) hi lo
def Desc.len_ (d : Desc) : Nat := d.f 0 17 0
def Desc.ty (d : Desc) : Nat := d.f 0 21 18
def Desc.handle (d : Desc) : Word := wordAt d.data 4
def Desc.offset (d : Desc) : Nat := d.f 6 16 0
def Desc.port_ (d : Desc) : Nat := d.f 5 9 0

/-- A field out of range or a reserved field that is not 0. -/
def Desc.bad (d : Desc) : Bool :=
  decide (3 < d.ty) || d.f 0 30 22 != 0 || d.f 1 31 16 != 0 || d.f 5 31 16 != 0 || d.f 6 31 17 != 0 || d.f 7 31 0 != 0 ||
  (d.ty == 1 && (wordAt d.data 2 != 0 || wordAt d.data 3 != 0)) || (d.ty == 0 && d.handle != 0) ||
  (decide (d.ty ≤ 1) && decide (9212 < d.len_)) ||
  (d.ty != 0 && decide (poolBytes (hPool d.handle) < d.offset + d.len_))

/-- The status with which a descriptor ends before anything is transferred, 0 for none; where several apply, the first of INVALID,
EMPTY, REFUSED and BUS_ERROR (log entry 102). -/
def State.txStatus (s : State) (i : Nat) (d : Desc) (busOk : Bool) : Nat :=
  if d.bad then 2
  else if d.len_ = 0 then 1
  else if d.ty ≠ 0 ∧ !s.ownsHandle (32 + (s.ring i).requester) d.handle then 3
  else if d.ty ≠ 1 ∧ !busOk then 4
  else 0

/-- A copy between host memory and a buffer. -/
def State.copyDesc (i : Nat) (d : Desc) (data : List Byte) (s : State) : State :=
  let t :=
    if d.ty = 2 then s.bufferWrite (hKey d.handle) d.offset data
    else
      let b := s.bufferBytes (hKey d.handle) d.offset d.len_
      b.2.hostPut (join (wordAt d.data 2) (wordAt d.data 3)) b.1
  t.finishDesc i d.slot 0 d.len_ none

/-- A frame that enters its port's egress queue, or its cell's pipeline (05 R165; 12 R433). -/
def State.sendDesc (i : Nat) (d : Desc) (body : List Byte) (s : State) : State :=
  let p := d.port_
  let l := withFcs body
  let x : Frame :=
    { data := l, line := l, length := l.length, port := p, ts := s.stamp, host := some (i, d.slot), tsReq := d.f 5 14 14 == 1 }
  if d.f 5 13 13 = 1 then
    if !s.portUp p then s.finishDesc i d.slot 5 d.len_ none
    else
      let e := s.enterFrame x
      e.2.finishFrame e.1 [] false
  else
    let n := (s.startWake (cellOf p)).newFrame { x with
      epoch := s.cellEpoch (cellOf p), ended := true, path := .direct, queue := some (d.f 5 12 10), left := 1 }
    n.2.onEgr fun e => { e with arriving := e.arriving ++ [{ fid := n.1, port := p, got := l.length, whole := true }] }

/-- A VIA_PIPELINE frame of an awake cell that is over its rate waits for the next round; one of a sleeping cell wakes it; none enters while
ingress has stopped (03 R104). -/
def State.deferStart (i : Nat) (d : Desc) (s : State) : Option State :=
  let c := cellOf d.port_
  if decide (d.ty ≤ 1) && d.f 5 13 13 == 1 && s.portUp d.port_ && !d.bad && d.len_ != 0 then
    if !s.running then some s
    else if !s.cellRuns c then some (s.startWake c)
    else
      let b := (tabGet {} s.rng.hostBucket c).draw 10000000 (1 + Config.rateDepth 4) 1 s.tim.up
      if b.1 then none else some (s.onRing i fun g => { g with quota := 0 })
  else none

/-- Charges the pipeline's share for host frames. -/
def State.chargeHost (d : Desc) (s : State) : State :=
  let c := cellOf d.port_
  if decide (d.ty ≤ 1) && d.f 5 13 13 == 1 && s.portUp d.port_ then
    let b := ((tabGet {} s.rng.hostBucket c).draw 10000000 (1 + Config.rateDepth 4) 1 s.tim.up).2
    s.onRng fun r => { r with hostBucket := tabPut {} c b r.hostBucket }
  else s

/-- TX_DESCRIPTOR_START: `data` is what the transfer reads from ADDR, `busOk` whether it succeeds (05 R153 to R156, R164, R165). -/
def execTxDescriptorStart (i : Fin 256) (busOk : Bool) (data : List Byte) (scans : List Scan) (s0 : State) : Res :=
  let s := s0.openRound
  .next (if s.nextTx ≠ some i.val then s0
  else match (s.ring i.val).cache with
    | [] => s0
    | d :: rest =>
      match s.deferStart i.val d with
      | some t => t
      | none =>
        let st := s.txStatus i.val d busOk
        let u := (s.onRing i.val fun g => { g with
          cache := rest, busy := g.busy ++ [{ d with status := if st = 0 then none else some st, cq := Fin.ofNat 64 g.cq }] }).rescan scans
        let t := (u.countStart i.val).cqStall (s.ring i.val).cq
        if st ≠ 0 then t.onIf (st == 4) (State.busError (if d.ty = 3 then 6 else 5) (join (wordAt d.data 2) (wordAt d.data 3)))
        else
          let read := data.take d.len_ ++ List.replicate (d.len_ - data.length) 0
          if 2 ≤ d.ty then t.copyDesc i.val d read
          else if d.ty = 1 then
            let b := t.bufferBytes (hKey d.handle) d.offset d.len_
            (b.2.chargeHost d).sendDesc i.val d b.1
          else (t.chargeHost d).sendDesc i.val d read)

end Sys2Proof.Machine
end

