-- ==== Sys2Proof/Machine/Dispatch.lean ====
section
/-!
DEFINITION. The dispatcher: each command's arm calls its meaning.
-/

namespace Sys2Proof.Machine

def exec (i : Instr) (s : State) : Host.Outcome State Fault Refusal :=
  match i with
  | .sessionOpen r => Sys2Proof.Machine.execSessionOpen r s
  | .sessionClose r => Sys2Proof.Machine.execSessionClose r s
  | .commit r b => Sys2Proof.Machine.execCommit r b s
  | .epochStatus r => Sys2Proof.Machine.execEpochStatus r s
  | .stageDiscard r => Sys2Proof.Machine.execStageDiscard r s
  | .statsSnapshot r => Sys2Proof.Machine.execStatsSnapshot r s
  | .snapshotDone slots => Sys2Proof.Machine.execSnapshotDone slots s
  | .unknownOpcode op r => Sys2Proof.Machine.execUnknownOpcode op r s
  | .powerStatus r => Sys2Proof.Machine.execPowerStatus r s
  | .powerSetState r => Sys2Proof.Machine.execPowerSetState r s
  | .powerSetPreserve r => Sys2Proof.Machine.execPowerSetPreserve r s
  | .powerHoldAwake r => Sys2Proof.Machine.execPowerHoldAwake r s
  | .resetWarm r => Sys2Proof.Machine.execResetWarm r s
  | .resetCell r => Sys2Proof.Machine.execResetCell r s
  | .resetLane r => Sys2Proof.Machine.execResetLane r s
  | .powerJournalReplay r => Sys2Proof.Machine.execPowerJournalReplay r s
  | .ringSetService r => Sys2Proof.Machine.execRingSetService r s
  | .ringPuntMap r => Sys2Proof.Machine.execRingPuntMap r s
  | .ringEventRoute r => Sys2Proof.Machine.execRingEventRoute r s
  | .ringPuntLimit r => Sys2Proof.Machine.execRingPuntLimit r s
  | .portSet r => Sys2Proof.Machine.execPortSet r s
  | .portStatus r => Sys2Proof.Machine.execPortStatus r s
  | .portStatsRead r => Sys2Proof.Machine.execPortStatsRead r s
  | .clsParserSet r => Sys2Proof.Machine.execClsParserSet r s
  | .clsBankSet r => Sys2Proof.Machine.execClsBankSet r s
  | .clsProfileSet r => Sys2Proof.Machine.execClsProfileSet r s
  | .clsPortSet r => Sys2Proof.Machine.execClsPortSet r s
  | .clsRuleWrite r => Sys2Proof.Machine.execClsRuleWrite r s
  | .clsRuleDelete r => Sys2Proof.Machine.execClsRuleDelete r s
  | .clsRuleRead r => Sys2Proof.Machine.execClsRuleRead r s
  | .clsMeterSet r => Sys2Proof.Machine.execClsMeterSet r s
  | .clsMirrorSet r => Sys2Proof.Machine.execClsMirrorSet r s
  | .clsStatsRead r => Sys2Proof.Machine.execClsStatsRead r s
  | .tblVlanSet r => Sys2Proof.Machine.execTblVlanSet r s
  | .tblPortSet r => Sys2Proof.Machine.execTblPortSet r s
  | .tblL2Write r => Sys2Proof.Machine.execTblL2Write r s
  | .tblL2Flush r => Sys2Proof.Machine.execTblL2Flush r s
  | .tblL2Read r => Sys2Proof.Machine.execTblL2Read r s
  | .tblAgeSet r => Sys2Proof.Machine.execTblAgeSet r s
  | .tblRouteWrite r => Sys2Proof.Machine.execTblRouteWrite r s
  | .tblNexthopSet r => Sys2Proof.Machine.execTblNexthopSet r s
  | .tblRouterMac r => Sys2Proof.Machine.execTblRouterMac r s
  | .tblGroupSet r => Sys2Proof.Machine.execTblGroupSet r s
  | .tblHashKey r => Sys2Proof.Machine.execTblHashKey r s
  | .tblMcastSet r => Sys2Proof.Machine.execTblMcastSet r s
  | .tblLookup r => Sys2Proof.Machine.execTblLookup r s
  | .tblStatsRead r => Sys2Proof.Machine.execTblStatsRead r s
  | .flowFormat r => Sys2Proof.Machine.execFlowFormat r s
  | .flowTemplateSet r => Sys2Proof.Machine.execFlowTemplateSet r s
  | .flowZoneSet r => Sys2Proof.Machine.execFlowZoneSet r s
  | .flowAgeSet r => Sys2Proof.Machine.execFlowAgeSet r s
  | .flowRead r => Sys2Proof.Machine.execFlowRead r s
  | .flowDelete r => Sys2Proof.Machine.execFlowDelete r s
  | .flowZoneFlush r => Sys2Proof.Machine.execFlowZoneFlush r s
  | .flowArchiveRead r => Sys2Proof.Machine.execFlowArchiveRead r s
  | .flowStatsRead r => Sys2Proof.Machine.execFlowStatsRead r s
  | .progLoad r => Sys2Proof.Machine.execProgLoad r s
  | .progRead r => Sys2Proof.Machine.execProgRead r s
  | .progMeterSet r => Sys2Proof.Machine.execProgMeterSet r s
  | .progPoolSet r => Sys2Proof.Machine.execProgPoolSet r s
  | .progPoolStatus r => Sys2Proof.Machine.execProgPoolStatus r s
  | .progGroupSet r => Sys2Proof.Machine.execProgGroupSet r s
  | .progEmitSet r => Sys2Proof.Machine.execProgEmitSet r s
  | .progStatsRead r => Sys2Proof.Machine.execProgStatsRead r s
  | .fabStatus r => Sys2Proof.Machine.execFabStatus r s
  | .fabBench r => Sys2Proof.Machine.execFabBench r s
  | .fabColPolicer r => Sys2Proof.Machine.execFabColPolicer r s
  | .fabBufSet r => Sys2Proof.Machine.execFabBufSet r s
  | .fabStatsRead r => Sys2Proof.Machine.execFabStatsRead r s
  | .egrPortSet r => Sys2Proof.Machine.execEgrPortSet r s
  | .egrQueueSet r => Sys2Proof.Machine.execEgrQueueSet r s
  | .egrGateSet r => Sys2Proof.Machine.execEgrGateSet r s
  | .egrGateStatus r => Sys2Proof.Machine.execEgrGateStatus r s
  | .egrStatsRead r => Sys2Proof.Machine.execEgrStatsRead r s
  | .timeStep r => Sys2Proof.Machine.execTimeStep r s
  | .timeRate r => Sys2Proof.Machine.execTimeRate r s
  | .timeStatus r => Sys2Proof.Machine.execTimeStatus r s
  | .timeUtcSet r => Sys2Proof.Machine.execTimeUtcSet r s
  | .timeReanchor r => Sys2Proof.Machine.execTimeReanchor r s
  | .timePulseSet r => Sys2Proof.Machine.execTimePulseSet r s
  | .timeTcSet r => Sys2Proof.Machine.execTimeTcSet r s
  | .timeTcStats r => Sys2Proof.Machine.execTimeTcStats r s
  | .imgStatus r => Sys2Proof.Machine.execImgStatus r s
  | .imgWrite r => Sys2Proof.Machine.execImgWrite r s
  | .imgVerify r => Sys2Proof.Machine.execImgVerify r s
  | .imgActivate r => Sys2Proof.Machine.execImgActivate r s
  | .fwConfirm r b => Sys2Proof.Machine.execFwConfirm r b s
  | .journalSet r => Sys2Proof.Machine.execJournalSet r s
  | .secStatus r => Sys2Proof.Machine.execSecStatus r s
  | .secNonce r => Sys2Proof.Machine.execSecNonce r s
  | .secOwnerEnroll r b => Sys2Proof.Machine.execSecOwnerEnroll r b s
  | .secOwnerRevoke r b => Sys2Proof.Machine.execSecOwnerRevoke r b s
  | .secCertRead r => Sys2Proof.Machine.execSecCertRead r s
  | .secAttest r => Sys2Proof.Machine.execSecAttest r s
  | .secDebugArm r => Sys2Proof.Machine.execSecDebugArm r s
  | .secDebugLock r => Sys2Proof.Machine.execSecDebugLock r s
  | .fltStatus r => Sys2Proof.Machine.execFltStatus r s
  | .fltRead r => Sys2Proof.Machine.execFltRead r s
  | .fltClear r => Sys2Proof.Machine.execFltClear r s
  | .fltFfrRearm r => Sys2Proof.Machine.execFltFfrRearm r s
  | .fltAlertSet r => Sys2Proof.Machine.execFltAlertSet r s
  | .fltInject r => Sys2Proof.Machine.execFltInject r s
  | .pmuSet r => Sys2Proof.Machine.execPmuSet r s
  | .pmuRead r => Sys2Proof.Machine.execPmuRead r s
  | .pmuSampleSet r => Sys2Proof.Machine.execPmuSampleSet r s
  | .skip e k w => Sys2Proof.Machine.execSkip e k w s
  | .skipi e k w => Sys2Proof.Machine.execSkipi e k w s
  | .add e k w => Sys2Proof.Machine.execAdd e k w s
  | .sadd e k w => Sys2Proof.Machine.execSadd e k w s
  | .min e k w => Sys2Proof.Machine.execMin e k w s
  | .max e k w => Sys2Proof.Machine.execMax e k w s
  | .ldi e k w => Sys2Proof.Machine.execLdi e k w s
  | .ext e k w => Sys2Proof.Machine.execExt e k w s
  | .ins e k w => Sys2Proof.Machine.execIns e k w s
  | .keyx e k w => Sys2Proof.Machine.execKeyx e k w s
  | .ts e k w => Sys2Proof.Machine.execTs e k w s
  | .setsc e k w => Sys2Proof.Machine.execSetsc e k w s
  | .meter e k w => Sys2Proof.Machine.execMeter e k w s
  | .natalloc e k w => Sys2Proof.Machine.execNatalloc e k w s
  | .natfree e k w => Sys2Proof.Machine.execNatfree e k w s
  | .lbsel e k w => Sys2Proof.Machine.execLbsel e k w s
  | .comp e k w => Sys2Proof.Machine.execComp e k w s
  | .emit e k w => Sys2Proof.Machine.execEmit e k w s
  | .setact e k w => Sys2Proof.Machine.execSetact e k w s
  | .bootMailboxGo => Sys2Proof.Machine.execBootMailboxGo s
  | .mailboxDoorbell n head => Sys2Proof.Machine.execMailboxDoorbell n head s
  | .mailboxCommandTake n head => Sys2Proof.Machine.execMailboxCommandTake n head s
  | .mbxCtrlWrite n v => Sys2Proof.Machine.execMbxCtrlWrite n v s
  | .mbxIdle n => Sys2Proof.Machine.execMbxIdle n s
  | .ringCtrlWrite ix v => Sys2Proof.Machine.execRingCtrlWrite ix v s
  | .ringIdle ix => Sys2Proof.Machine.execRingIdle ix s
  | .ringDoorbell ix entries => Sys2Proof.Machine.execRingDoorbell ix entries s
  | .completionDoorbell q free scans => Sys2Proof.Machine.execCompletionDoorbell q free scans s
  | .eventDoorbell q free => Sys2Proof.Machine.execEventDoorbell q free s
  | .stallReread ix free scans => Sys2Proof.Machine.execStallReread ix free scans s
  | .ringInval v => Sys2Proof.Machine.execRingInval v s
  | .invalidationDone => Sys2Proof.Machine.execInvalidationDone s
  | .txDescriptorStart ix busOk data scans => Sys2Proof.Machine.execTxDescriptorStart ix busOk data scans s
  | .descriptorDone ix own ev scans => Sys2Proof.Machine.execDescriptorDone ix own ev scans s
  | .puntDelivery q busOk scans => Sys2Proof.Machine.execPuntDelivery q busOk scans s
  | .holdoffExpiry ix => Sys2Proof.Machine.execHoldoffExpiry ix s
  | .bpmAllocReq q v => Sys2Proof.Machine.execBpmAllocReq q v s
  | .bpmFree q v own => Sys2Proof.Machine.execBpmFree q v own s
  | .bpmXfer q v own => Sys2Proof.Machine.execBpmXfer q v own s
  | .fltEvtWrite n v => Sys2Proof.Machine.execFltEvtWrite n v s
  | .ffrValidWrite v => Sys2Proof.Machine.execFfrValidWrite v s
  | .pmuCntLoWrite off v => Sys2Proof.Machine.execPmuCntLoWrite off v s
  | .pmuCntHiWrite off v => Sys2Proof.Machine.execPmuCntHiWrite off v s
  | .loReadLatch master off => Sys2Proof.Machine.execLoReadLatch master off s
  | .reservedBar0Write off v => Sys2Proof.Machine.execReservedBar0Write off v s
  | .registerWrite off v => Sys2Proof.Machine.execRegisterWrite off v s
  | .i2cRead dev off n input => Sys2Proof.Machine.execI2cRead dev off n input s
  | .remoteDatagram data => Sys2Proof.Machine.execRemoteDatagram data s
  | .keyAgreementInit src data => Sys2Proof.Machine.execKeyAgreementInit src data s
  | .keyAgreementFinish data => Sys2Proof.Machine.execKeyAgreementFinish data s
  | .pendingAgreementExpiry id => Sys2Proof.Machine.execPendingAgreementExpiry id s
  | .remoteSessionTimeout ch => Sys2Proof.Machine.execRemoteSessionTimeout ch s
  | .nonceLapse id => Sys2Proof.Machine.execNonceLapse id s
  | .mgmtFrame m data => Sys2Proof.Machine.execMgmtFrame m data s
  | .unlockChallenge => Sys2Proof.Machine.execUnlockChallenge s
  | .unlockResponse scope key sig => Sys2Proof.Machine.execUnlockResponse scope key sig s
  | .debugNonceLapse => Sys2Proof.Machine.execDebugNonceLapse s
  | .debugArmEnd => Sys2Proof.Machine.execDebugArmEnd s
  | .startThreshold => Sys2Proof.Machine.execStartThreshold s
  | .cairnPowerUp straps => Sys2Proof.Machine.execCairnPowerUp straps s
  | .firstInputMeasurement vin iin pin above => Sys2Proof.Machine.execFirstInputMeasurement vin iin pin above s
  | .bootImageVerified => Sys2Proof.Machine.execBootImageVerified s
  | .stacksTrained => Sys2Proof.Machine.execStacksTrained s
  | .powerFailWarning => Sys2Proof.Machine.execPowerFailWarning s
  | .powerFailRelease => Sys2Proof.Machine.execPowerFailRelease s
  | .converterStop ov => Sys2Proof.Machine.execConverterStop ov s
  | .overvoltageRestart => Sys2Proof.Machine.execOvervoltageRestart s
  | .surge g => Sys2Proof.Machine.execSurge g s
  | .vinSnsOpen => Sys2Proof.Machine.execVinSnsOpen s
  | .sysclkLost => Sys2Proof.Machine.execSysclkLost s
  | .sysclkReturn => Sys2Proof.Machine.execSysclkReturn s
  | .sdsrefLoss r => Sys2Proof.Machine.execSdsrefLoss r s
  | .sdsrefReturn r => Sys2Proof.Machine.execSdsrefReturn r s
  | .prstNAssert => Sys2Proof.Machine.execPrstNAssert s
  | .moduleReset => Sys2Proof.Machine.execModuleReset s
  | .perstNAssert => Sys2Proof.Machine.execPerstNAssert s
  | .perstNRelease => Sys2Proof.Machine.execPerstNRelease s
  | .watchdogExpiry => Sys2Proof.Machine.execWatchdogExpiry s
  | .fatalFaultReset => Sys2Proof.Machine.execFatalFaultReset s
  | .drainComplete => Sys2Proof.Machine.execDrainComplete s
  | .resetDone => Sys2Proof.Machine.execResetDone s
  | .runEntryCommit => Sys2Proof.Machine.execRunEntryCommit s
  | .powerTransitionDone => Sys2Proof.Machine.execPowerTransitionDone s
  | .watchWake => Sys2Proof.Machine.execWatchWake s
  | .journalSeal => Sys2Proof.Machine.execJournalSeal s
  | .journalSealDone => Sys2Proof.Machine.execJournalSealDone s
  | .cellEpochApply c slots => Sys2Proof.Machine.execCellEpochApply c slots s
  | .commitIsolation c slots => Sys2Proof.Machine.execCommitIsolation c slots s
  | .dozeEntry c => Sys2Proof.Machine.execDozeEntry c s
  | .slumberEntry c => Sys2Proof.Machine.execSlumberEntry c s
  | .cellWake c t => Sys2Proof.Machine.execCellWake c t s
  | .wakeComplete c own slots => Sys2Proof.Machine.execWakeComplete c own slots s
  | .cellWakeTimeout c => Sys2Proof.Machine.execCellWakeTimeout c s
  | .dutyRejoin c => Sys2Proof.Machine.execDutyRejoin c s
  | .linkUp p deskew => Sys2Proof.Machine.execLinkUp p deskew s
  | .linkDown p => Sys2Proof.Machine.execLinkDown p s
  | .lossOfSignal lane => Sys2Proof.Machine.execLossOfSignal lane s
  | .laneShutdown p => Sys2Proof.Machine.execLaneShutdown p s
  | .cellIsolation c => Sys2Proof.Machine.execCellIsolation c s
  | .lpiEntry p rx => Sys2Proof.Machine.execLpiEntry p rx s
  | .lpiExit p => Sys2Proof.Machine.execLpiExit p s
  | .partnerLpiExit p => Sys2Proof.Machine.execPartnerLpiExit p s
  | .verifyResult p ok => Sys2Proof.Machine.execVerifyResult p ok s
  | .holdBufferStore p data pcsErr frags => Sys2Proof.Machine.execHoldBufferStore p data pcsErr frags s
  | .holdRelease p uncorrectable => Sys2Proof.Machine.execHoldRelease p uncorrectable s
  | .pipelineEntry p a => Sys2Proof.Machine.execPipelineEntry p a s
  | .lateKeyEntry fid more => Sys2Proof.Machine.execLateKeyEntry fid more s
  | .recirculationPass fid => Sys2Proof.Machine.execRecirculationPass fid s
  | .frameEnd fid rest t => Sys2Proof.Machine.execFrameEnd fid rest t s
  | .learnFilterExpiry c fid mac => Sys2Proof.Machine.execLearnFilterExpiry c fid mac s
  | .learnReportHandle own => Sys2Proof.Machine.execLearnReportHandle own s
  | .agingPassRow c fid mac last own => Sys2Proof.Machine.execAgingPassRow c fid mac last own s
  | .tableScrub u table index err => Sys2Proof.Machine.execTableScrub u table index err s
  | .tableWordRestore u table index own => Sys2Proof.Machine.execTableWordRestore u table index own s
  | .cacheLookup c tag void uncorrectable => Sys2Proof.Machine.execCacheLookup c tag void uncorrectable s
  | .creditWaitExpiry c tag => Sys2Proof.Machine.execCreditWaitExpiry c tag s
  | .operate c tag ecc fixed => Sys2Proof.Machine.execOperate c tag ecc fixed s
  | .void c ecc fixed => Sys2Proof.Machine.execVoid c ecc fixed s
  | .companion e k ecc fixed => Sys2Proof.Machine.execCompanion e k ecc fixed s
  | .companionResult e k => Sys2Proof.Machine.execCompanionResult e k s
  | .read e tag ecc fixed slots => Sys2Proof.Machine.execRead e tag ecc fixed slots s
  | .delete e tag ecc fixed slots => Sys2Proof.Machine.execDelete e tag ecc fixed slots s
  | .invalidate r h => Sys2Proof.Machine.execInvalidate r h s
  | .collect r h => Sys2Proof.Machine.execCollect r h s
  | .ack r h slots => Sys2Proof.Machine.execAck r h slots s
  | .flush r h slots => Sys2Proof.Machine.execFlush r h slots s
  | .release r h slots => Sys2Proof.Machine.execRelease r h slots s
  | .flowResult c tag times own => Sys2Proof.Machine.execFlowResult c tag times own s
  | .waitLimitExpiry c tag => Sys2Proof.Machine.execWaitLimitExpiry c tag s
  | .sweepVisit h ecc => Sys2Proof.Machine.execSweepVisit h ecc s
  | .dramScrub stack burst what err => Sys2Proof.Machine.execDramScrub stack burst what err s
  | .exportWrite e own => Sys2Proof.Machine.execExportWrite e own s
  | .archiveWrite e => Sys2Proof.Machine.execArchiveWrite e s
  | .ipfixExport stack => Sys2Proof.Machine.execIpfixExport stack s
  | .ipfixTemplateTimer => Sys2Proof.Machine.execIpfixTemplateTimer s
  | .sampleTrigger c => Sys2Proof.Machine.execSampleTrigger c s
  | .chunkClose src dst cls => Sys2Proof.Machine.execChunkClose src dst cls s
  | .firstStageSlot c t => Sys2Proof.Machine.execFirstStageSlot c t s
  | .secondStageSlot c t slow => Sys2Proof.Machine.execSecondStageSlot c t slow s
  | .acceptMapPublish c => Sys2Proof.Machine.execAcceptMapPublish c s
  | .chunkArrival c crcOk => Sys2Proof.Machine.execChunkArrival c crcOk s
  | .reseqLost d src => Sys2Proof.Machine.execReseqLost d src s
  | .benchWindow c => Sys2Proof.Machine.execBenchWindow c s
  | .benchStart c => Sys2Proof.Machine.execBenchStart c s
  | .egressStart p => Sys2Proof.Machine.execEgressStart p s
  | .queueAdmit p fid => Sys2Proof.Machine.execQueueAdmit p fid s
  | .colInject fid => Sys2Proof.Machine.execColInject fid s
  | .colHeldInject c => Sys2Proof.Machine.execColHeldInject c s
  | .transmitSelect p sent => Sys2Proof.Machine.execTransmitSelect p sent s
  | .shaperRefill p => Sys2Proof.Machine.execShaperRefill p s
  | .gateChange p => Sys2Proof.Machine.execGateChange p s
  | .gateListStart p => Sys2Proof.Machine.execGateListStart p s
  | .rateChangeApply => Sys2Proof.Machine.execRateChangeApply s
  | .pulseEdge n => Sys2Proof.Machine.execPulseEdge n s
  | .followerLock r => Sys2Proof.Machine.execFollowerLock r s
  | .followerUnlock r => Sys2Proof.Machine.execFollowerUnlock r s
  | .thermalWarning => Sys2Proof.Machine.execThermalWarning s
  | .thermalLimit => Sys2Proof.Machine.execThermalLimit s
  | .thermalStandby => Sys2Proof.Machine.execThermalStandby s
  | .thermalConditionEnd limit => Sys2Proof.Machine.execThermalConditionEnd limit s
  | .thermalTrip => Sys2Proof.Machine.execThermalTrip s
  | .supplyFault u => Sys2Proof.Machine.execSupplyFault u s
  | .pcieLinkDown => Sys2Proof.Machine.execPcieLinkDown s
  | .fltEntryWrite own => Sys2Proof.Machine.execFltEntryWrite own s
  | .counterWrap block item => Sys2Proof.Machine.execCounterWrap block item s
  | .prstNRelease => Sys2Proof.Machine.execPrstNRelease s
  | .pcieLinkUp free => Sys2Proof.Machine.execPcieLinkUp free s
  | .vinSnsConnected => Sys2Proof.Machine.execVinSnsConnected s
  | .watchdogRefresh => Sys2Proof.Machine.execWatchdogRefresh s
  | .deferredWatchdogReset => Sys2Proof.Machine.execDeferredWatchdogReset s
  | .tripLatchClear => Sys2Proof.Machine.execTripLatchClear s
  | .temperatureSample temps => Sys2Proof.Machine.execTemperatureSample temps s
  | .hourlyFlashWrite => Sys2Proof.Machine.execHourlyFlashWrite s
  | .flowFormatDone slots => Sys2Proof.Machine.execFlowFormatDone slots s
  | .zoneFlushDone zone slots => Sys2Proof.Machine.execZoneFlushDone zone slots s
  | .cellResetDone c own slots => Sys2Proof.Machine.execCellResetDone c own slots s
  | .firmwarePuntReceive c => Sys2Proof.Machine.execFirmwarePuntReceive c s
  | .peerDelayMeasurement p delay => Sys2Proof.Machine.execPeerDelayMeasurement p delay s
  | .firmwareLogLine core sev id text own => Sys2Proof.Machine.execFirmwareLogLine core sev id text own s

end Sys2Proof.Machine
end

