-- ==== Sys2Proof/Safety.lean ====
section
/-!
DEFINITION. What a safe run is: the block answers every step with a next state. And the words in which claims speak
of a command that passes the checks which the manual puts before its own.
-/

namespace Sys2Proof

open Machine

/-- A payload in host memory has the number of words that the command defines (04 R129). -/
abbrev Req.ExtSize (q : Req) (n : Nat) : Prop := q.extCmd = true → q.size = n

end Sys2Proof

namespace Sys2Proof.Machine

open Sys2Proof

/-- The block goes on: the step answers a next state. -/
def State.GoesOn (s : State) : Prop := ∃ t, step s = .next t

/-- The row of opcode `op` finds its message taken, as the request `q`: its session is open, header and extension
block are well formed, and the epoch it expects is the current one (04 R122, R123, R134). -/
abbrev State.Accepts (s : State) (op : Nat) (r q : Req) : Prop :=
  s.request op r = some q ∧ s.sessionOpen q = true ∧ q.malformed = false ∧ (q.epoch = 0 ∨ q.epoch = s.hif.epoch)

/-- Operation `o` of a cell and tag waits at its home engine, behind none of equal H there, and all that its ridge sent to the engine
before it has been taken (09 R311, R319). -/
abbrev State.AtHome (s : State) (c tag : Nat) (o : Op) : Prop :=
  s.flo.ops.find? (fun p => p.cell == c && p.tag == tag && decide (p.place = .home)) = some o ∧
    s.behind o.ord o.engine (msgKey o.msg o.keyLen) = false ∧ s.routeClear (ridgeOf c) o.engine o.ord = true

/-- Every operation of the cell and tag has ended with STATUS `st`, HANDLE `h` and the Y words `y` (09 R317). -/
abbrev State.Answered (t : State) (c tag st h : Nat) (y : List Word) : Prop :=
  ∀ p ∈ t.flo.ops, p.cell = c → p.tag = tag → p.place = .done ∧
    ∃ grant lease, p.result = resultWords tag c st grant lease 0 h y

/-- The word is an accepted instruction of opcode `op`, its engine has power and its context runs (01 R28; 10 R362, R375). -/
abbrev State.Issues (s : State) (e : Fin 128) (k : Fin 16) (op : Nat) (w : Word) : Prop :=
  s.enginesRun = true ∧ fld w 31 27 = op ∧ instrOk w = true ∧ (s.ctxRun e.val k.val).holds = none ∧ (s.ctxRun e.val k.val).stopped = false

/-- Values written to operands of a run with the record words `w`, in order (10 R357). -/
def writeOps : List (Nat × Word) → Run → List Word → Run × List Word
  | [], x, w => (x, w)
  | (d, v) :: l, x, w =>
    if d < 10 then writeOps l { x with wrote := if x.handle.isSome then x.wrote ||| 2 ^ d else x.wrote } (w.set d v)
    else if d < 16 then writeOps l { x with y := x.y.set (d - 10) v } w
    else if d < 20 then writeOps l { x with scratch := x.scratch.set (d - 16) v } w
    else writeOps l x w

/-- An instruction of a context changes its own context and record alone, beside counters (10 R355,
R357). -/
abbrev State.Steps (s t : State) (e : Fin 128) (k : Fin 16) : Prop :=
  t = { s with prg := t.prg, flo := { s.flo with recs := t.flo.recs }, pmu := t.pmu, ctr := t.ctr } ∧
    (∀ j, j ≠ ctxKey e.val k.val → tabGet {} t.prg.ctx j = tabGet {} s.prg.ctx j) ∧
    (∀ j, (s.ctxRun e.val k.val).handle ≠ some j → t.recOf j = s.recOf j) ∧
    t.count 12 e.val 1 = (s.count 12 e.val 1 + 1) % 2 ^ 64

/-- A run past its instruction w: it notes it as its last, and as one at which it may have stalled (17 R573). -/
abbrev Run.past (x : Run) (w : Word) : Run :=
  { x with index := x.index + 1, last := some x.index, stall := false, stalls := if mayStall w then x.stalls ++ [x.index] else x.stalls }

/-- An instruction w writes the values to the operands in order, and its run passes to the next one. -/
abbrev State.Writes (s t : State) (e : Fin 128) (k : Fin 16) (w : Word) (l : List (Nat × Word)) : Prop :=
  let x := s.ctxRun e.val k.val
  s.Steps t e k ∧ t.ctxRun e.val k.val = (writeOps l x []).1.past w ∧
    ∀ h r, x.handle = some h → s.recOf h = some r → t.recOf h = some { r with w := (writeOps l x r.w).2 }

/-- The tables of ports, cells, counters and configuration are in their canonical form, and the numbers of the journal's segments rise up to
the next one's (14 R499). -/
structure State.Canonical (s : State) : Prop where
  ports : tabWf {} s.prt = true
  cells : tabWf {} s.cel = true
  counters : tabWf 0 s.ctr = true
  cur : tabSorted s.stg.cur = true
  prev : tabSorted s.stg.prev = true
  staged : tabSorted s.stg.staged = true
  imm : tabSorted s.stg.imm = true
  journal : ((s.img.segs ++ s.img.open_.toList).map fun g => g.number).Pairwise (fun a b => a < b) ∧
    ∀ g ∈ s.img.segs ++ s.img.open_.toList, g.number < s.img.nextSeg

/-- Without input power and in soft start nothing runs and nothing is under way: no firmware, no transition, no reset that waits,
no watchdog, no open session (02 R71; 03 R83, R95). -/
def State.PowerSound (s : State) : Prop :=
  (s.crn.mod = .unpowered ∨ s.crn.mod = .softStart) →
    s.crn.fwRuns = false ∧ s.crn.trans = none ∧ s.crn.resetAsked = false ∧ s.crn.fatalTrig = none ∧ s.crn.wdArmed = false ∧
      s.crn.wdDeferred = false ∧ s.hif.sessions = []

/-- CURRENT is never epoch 0 (04 R137). -/
def State.EpochSound (s : State) : Prop := 1 ≤ s.hif.epoch ∧ s.hif.epoch ≤ 0xFFFF

/-- OTP from `s` to `t`: no owner slot goes back, and no anti-rollback number falls (15 R508, R520). -/
def State.OtpKept (s t : State) : Prop :=
  (∀ k, k < 4 → s.sec.enrolled.getLsbD k = true → t.sec.enrolled.getLsbD k = true) ∧
    (∀ k, k < 4 → s.sec.revoked.getLsbD k = true → t.sec.revoked.getLsbD k = true) ∧
    s.sec.fwArb ≤ t.sec.fwArb ∧ s.sec.polArb ≤ t.sec.polArb

/-- The request carries an owner's authorization for opcode `op`: its session holds a live nonce, and the key at word `key`,
which is the one of the usable slot `signer`, has signed the command (15 R521); for SEC_OWNER_ENROLL, which carries another key, the key of
the slot's digest (log entry 153). -/
def State.OwnerSigned (s : State) (op : Nat) (q : Req) (signer key : Nat) : Prop :=
  let pub := reqWords q key 24
  let d := tabGet [] s.sec.ownerDigest signer
  ∃ n, s.liveNonce q = some n ∧ s.sec.usable signer = true ∧ (keyDigest pub = d ∨ op = 0x0C03) ∧
    ecdsaVerify (if keyDigest pub = d then pub else Config.ownerKey d) (ownerMessage n op (reqWords q 4 (key + 20)))
      (reqWords q (key + 24) 24) = true

/-- The live nonce of the session that a request names, if it has one, is gone, and nothing else of the sessions has changed. -/
def State.SpendsNonce (s t : State) (q : Req) : Prop :=
  t.hif = { s.hif with sessions := t.hif.sessions } ∧
    (s.liveNonce q = none → t.hif.sessions = s.hif.sessions) ∧
    (s.liveNonce q ≠ none → t.hif.sessions = s.hif.sessions.map fun e => if e.id = q.session then { e with nonce := none } else e)

/-- The states differ in what a response may change alone: the host interface, what left the module, FLT status and PMU
counters (04 R126 to R131; 17 R567). -/
def State.SameButResponse (s t : State) : Prop :=
  t = { s with hif := t.hif, out := t.out, flt := t.flt, pmu := t.pmu }

/-- Staging by an accepted command of opcode `op`: the objects that `keys` names may change in the configuration that the next
COMMIT publishes, and no other; STAGED is set, the command joins the list of staged commands, and nothing else changes but
the count of free values drawn (04 R137; 14 R500). -/
def State.Stages (s t : State) (op : Nat) (q : Req) (keys : Nat → Prop) : Prop :=
  t = { s with stg := t.stg, draw := t.draw } ∧
    t.stg = { s.stg with staged := t.stg.staged, flag := true, log := s.stg.log ++ [normalized op q], lbStaged := t.stg.lbStaged } ∧
    ∀ k, ¬keys k → tabFind t.stg.staged k = tabFind s.stg.staged k

end Sys2Proof.Machine
end

