-- ==== Sys2Proof/Certificates/Slice0/Obligations.lean ====
section
/-!
DEFINITION. The statements about the block, from the numbered rules of spec/. Each docstring cites the rules; what is the
model's own choice is named with its log entry.
-/

open Sys2Proof Sys2Proof.Machine

/-! ## The machine and its mailbox -/

/-- A step takes the command at the front of the queue and runs it on the state with the queue's rest. The queue, its
order and that one command is one step are the model's choice (log entry 1, DESIGN CHOICE). -/
def Obligations.StepRunsFront : Prop :=
  (∀ (c : Instr) (rest : List Instr) (s : State), s.pending = c :: rest → step s = exec c { s with pending := rest }) ∧
  ∀ (c : Instr) (s : State), step { s with pending := c :: s.pending } = exec c s

/-- The block takes no exception and stops on no command: every command answers a next state in every state and leaves the
queue alone, and so every step answers a next state. The queue is log entry 1's (DESIGN CHOICE); that a row which
finds nothing to do leaves the state as it is, and goes on, is log entry 4's (DESIGN CHOICE).

On an empty queue one SYSCLK25 cycle passes (log entry 4, DESIGN CHOICE): the master counter gains 40 ns at the rate
in force (13 R461), a scheduled rate whose counter time has come is in force (13 R470), a snapshot whose instant has
come keeps its counters (04 R142), and nothing changes besides but the PMU's counters and the free numbers that they
take for events that the manual gives no rule to count by (log entry 147, DESIGN CHOICE). -/
def Obligations.EveryStepGoesOn : Prop :=
  ((∀ (c : Instr) (s : State), ∃ t, exec c s = .next t ∧ t.pending = s.pending) ∧ ∀ s : State, s.GoesOn) ∧
  (∀ s : State, s.pending = [] → s.crn.mod ≠ .unpowered → s.crn.mod ≠ .softStart →
    ∃ t, step s = .next t ∧ t = { s with tim := t.tim, pmu := t.pmu, hif := t.hif, draw := t.draw } ∧
      t.hif = { s.hif with snapCopy := t.hif.snapCopy } ∧ (s.snapping = false → t.hif = s.hif) ∧
      t.tim.ctr = s.tim.ctr + ((40 * 2 ^ 48 * (10 ^ 12 + s.tim.rate)) / 10 ^ 12).toNat ∧
      t.tim.rate = (match s.tim.rateNext with | some (r, at_) => if at_ ≤ t.now then r else s.tim.rate | none => s.tim.rate) ∧
      t.tim.stepped = s.tim.stepped ∧ t.tim.domain = s.tim.domain)

/-- What reset leaves: CURRENT = 1 with no commit pending (04 R137), every ring and ring pair idle and disabled (04 R120;
05 R148), no session and no channel (04 R134), the debug port locked (15 R526). That the state right after reset is
Unpowered, with no event, every counter 0 and every list empty, no buffer allocated among them, and the empty queue,
is the model's choice (log entry 9, DESIGN CHOICE; log entry 13, DEDUCED). -/
def Obligations.ResetLeaves : Prop :=
  State.reset.crn.mod = .unpowered ∧ State.reset.pending = [] ∧ State.reset.hif.sessions = [] ∧
  State.reset.hif.channels = [] ∧ State.reset.hif.epoch = 1 ∧ State.reset.hif.pend = false ∧ State.reset.hif.isolated = 0 ∧
  (∀ n, (State.reset.pair n).enable = false ∧ (State.reset.pair n).idle = true) ∧
  (∀ i, (State.reset.ring i).enable = false ∧ (State.reset.ring i).idle = true) ∧
  State.reset.flt.evt = 0 ∧ State.reset.flt.flt = 0 ∧ State.reset.flt.fatal = 0 ∧ State.reset.flt.ffr.valid = false ∧
  State.reset.bpm.owner = [] ∧ State.reset.sec.unlocked = 0 ∧ State.reset.stg.flag = false ∧
  ∀ k i x, State.reset.count k i x = 0

/-- The first status in the order of 04 R123 that applies is answered, and a command so answered runs nothing; the common
statuses come before the command's own, whatever meaning `run` the command has. -/
def Obligations.MailboxStatusOrder : Prop :=
  ∀ (op : Nat) (r q : Req) (s : State) (chk : Req → Chk) (run : Req → Ans), s.request op r = some q →
    let answers (st : Nat) : Prop := mailbox op r s chk run = .next (s.respond op q st [])
    let k := chk q
    let auth := k.opens = false ∧ s.sessionOpen q = false
    let bad := q.malformed = true ∨ k.bad = true ∨ (k.opens = true ∧ q.session ≠ 0) ∨ k.wrongSize q = true
    let locked := k.locks = true ∧ s.flt.fatal ≠ 0
    let stale := q.epoch ≠ 0 ∧ q.epoch ≠ s.hif.epoch
    (auth → answers stAuth) ∧
    (¬auth → bad → answers stInvalid) ∧
    (¬auth → ¬bad → k.bl = true → answers stBl) ∧
    (¬auth → ¬bad → k.bl = false → locked → answers stLocked) ∧
    (¬auth → ¬bad → k.bl = false → ¬locked → stale → answers stStale) ∧
    (¬auth → ¬bad → k.bl = false → ¬locked → ¬stale → k.busy = true → answers stBusy) ∧
    (¬auth → ¬bad → k.bl = false → ¬locked → ¬stale → k.busy = false →
      mailbox op r s chk run = .next (s.finish op q (run q)))

/-- A response carries its status, the command's tag, its length, the session, CURRENT and the command's opcode, and goes
where the command came from: the boot mailbox's registers with DONE and BMB_DONE set and BUSY clear (04 R126); the
response slot of the command's own number with OWN = 1, its payload at RSP_ADDR with EXT_RSP, and the ring pair can
take its next command (04 R127, R129), or, where the host has not cleared that slot's OWN, it is held with RSP_STALL
and MBX_STALL set (04 R128); a datagram of the channel with the next SEQ (04 R130). Nothing but the host interface,
what leaves the module, FLT status and PMU counters changes. -/
def Obligations.ResponseGoesBack : Prop :=
  ∀ (op : Nat) (r : Req) (st : Nat) (ws : List Word) (s : State),
    let t := s.respond op r st ws
    let m (own : Bool) := responseWords op r st s.hif.epoch own ws
    s.SameButResponse t ∧
    (r.via = .boot →
      t.hif.bmbDone = true ∧ t.hif.bmbBusy = false ∧ t.hif.irq.getLsbD 0 = true ∧
      ∀ i, i < (m false).length → tabGet 0 t.hif.bmbRsp i = wordAt (m false) i) ∧
    (∀ n e, r.via = .ring n → (s.pair n).exec = some e → r.rspOwn = false →
      (t.pair n).exec = none ∧ (t.pair n).rspStall = false ∧
      (s.crn.pcieUp = true → Out.hostWrite ((s.pair n).rspBase + 256 * e) (m true) ∈ t.out ∧
        (r.extRsp = true → st ≠ stNoSpace → ws ≠ [] → Out.hostWrite r.rspAddr ws ∈ t.out))) ∧
    (∀ n e, r.via = .ring n → (s.pair n).exec = some e → r.rspOwn = true →
      (t.out = s.out ∨ t.out = s.out ++ [.msix 0]) ∧
      (t.pair n).rspStall = true ∧ t.hif.irq.getLsbD 4 = true ∧ (t.pair n).held ≠ none ∧ (t.pair n).exec = none) ∧
    (∀ c h, r.via = .remote c → s.hif.channels.find? (fun h => h.id == c) = some h →
      t.out = s.out ++ [.datagram c (h.seal (m false))])

/-- SESSION_OPEN by 04 R135, each outcome and the success: level 0 INVALID, a level outside BL_LOW to BL_HIGH
BL_UNSUPPORTED, a level other than the pinned one REFUSED, as is one other than the REQUIRED_BL of the policy in force
(14 R503), at the session limit NO_SPACE; otherwise the session opens and its level is the one pinned for all.
SESSION_CLOSE ends its session, and the pin lapses when the last session closes (04 R136). The number that a new
session gets is the model's choice (log entry 14, DESIGN CHOICE). -/
def Obligations.SessionLevelIsPinned : Prop :=
  (∀ (s : State) (r q : Req), s.request 0x0001 r = some q → q.malformed = false → q.session = 0 → q.f 4 31 8 = 0 →
    q.ExtSize 1 → (q.epoch = 0 ∨ q.epoch = s.hif.epoch) → 6 ≤ q.room →
    let l := q.f 4 7 0
    let pinOk := s.hif.blPinned = 0 ∨ s.hif.blPinned = l
    let polOk := s.img.policy.requiredBl = 0 ∨ s.img.policy.requiredBl = l
    let free := match q.via with | .remote _ => s.remoteSessions < 4 | _ => s.localSessions < 8
    let answers (st : Nat) : Prop := exec (.sessionOpen r) s = .next (s.respond 0x0001 q st [])
    (l = 0 → answers stInvalid) ∧
    (l ≠ 0 → (l < s.hif.blLow ∨ s.hif.blHigh < l) → answers stBl) ∧
    (l ≠ 0 → s.hif.blLow ≤ l → l ≤ s.hif.blHigh → ¬(pinOk ∧ polOk) → answers stRefused) ∧
    (l ≠ 0 → s.hif.blLow ≤ l → l ≤ s.hif.blHigh → pinOk → polOk → ¬free → answers stNoSpace) ∧
    (l ≠ 0 → s.hif.blLow ≤ l → l ≤ s.hif.blHigh → pinOk → polOk → free →
      ∃ (u : State) (ws : List Word), exec (.sessionOpen r) s = .next (u.respond 0x0001 q stOk ws) ∧ u = { s with hif := u.hif } ∧
        u.hif.blPinned = l ∧ (∃ e, u.hif.sessions = s.hif.sessions ++ [e] ∧ e.id = s.hif.nextSession ∧ e.nonce = none ∧
          e.channel = match q.via with | .remote c => some c | _ => none) ∧
        u.hif.nextSession = s.hif.nextSession + 1 ∧ ws.length = 6 ∧ wordAt ws 0 = wd s.hif.nextSession ∧
        wordAt ws 3 = wd s.hif.epoch)) ∧
  (∀ (s : State) (p : Session → Bool),
    let t := s.closeSessions p
    t.hif.sessions = s.hif.sessions.filter (fun e => !p e) ∧ (t.hif.sessions = [] → t.hif.blPinned = 0) ∧
      (t.hif.sessions ≠ [] → t.hif.blPinned = s.hif.blPinned)) ∧
  ∀ (s : State) (r q : Req), s.Accepts 0x0002 r q → q.ExtSize 0 →
    ∃ u : State, exec (.sessionClose r) s = .next (u.respond 0x0002 q stOk []) ∧ u = { s with hif := u.hif } ∧
      u.hif.sessions = s.hif.sessions.filter (fun e => e.id != q.session) ∧
      (u.hif.sessions = [] → u.hif.blPinned = 0) ∧ (u.hif.sessions ≠ [] → u.hif.blPinned = s.hif.blPinned)

/-- COMMIT by 04 R137 and R138: BUSY while a commit is pending or a transition or a cell reset runs, REFUSED while PFW_N
is low; with nothing staged it changes nothing and says so; else everything staged becomes CURRENT, whose number is
the next one, 1 after 0xFFFF, and the publish is timed. APPLIED is then clear but for the cells that R139 excepts: all
of them outside Run, and in Run those whose ISOLATED bit is set or that a fatal-class event has isolated; PENDING is
set until every cell has applied or is isolated. The journal, while it is on, gets a TYPE 1 record of each class J
command staged and a TYPE 2 record (14 R500); here for an open segment that has room for them. A staged policy goes in
force and its ARB is burned (14 R496; 15 R510); power lost in that burn leaves the module without power (log entry
152, DEDUCED).

EPOCH_STATUS, STAGE_DISCARD and STATS_SNAPSHOT: the epoch registers are answered and nothing else happens (04 R146);
everything staged is dropped and STAGED cleared (04 R145); the snapshot's instant is 2 us after the command's arrival
(04 R125, R142), its answer waits for SNAPSHOT_DONE, and a second one meanwhile is answered BUSY. Where the command
runs after that instant the counters are copied as it runs.

SNAPSHOT_DONE: the shadow copies hold the counters of ports and queues as they stood at the snapshot's instant, the
snapshot number advances by 1, SNAPSHOT_DONE is set, and the waiting command is answered (04 R142); before the instant
nothing has been copied yet.

A command whose opcode no table defines is answered INVALID and changes nothing but its response (04 R143). -/
def Obligations.EpochsAndSnapshots : Prop :=
  (∀ (s : State) (r q : Req) (b : Burn), s.Accepts 0x0010 r q → q.ExtSize 0 → s.flt.fatal = 0 → 3 ≤ q.room →
    let busy := s.hif.pend = true ∨ s.changing = true ∨ s.cellResetting = true
    (busy → exec (.commit r b) s = .next (s.respond 0x0010 q stBusy [])) ∧
    (¬busy → s.pfwLow = true → exec (.commit r b) s = .next (s.respond 0x0010 q stRefused [])) ∧
    (¬busy → s.pfwLow = false → s.stg.flag = false →
      exec (.commit r b) s = .next (s.respond 0x0010 q stOk (wd (s.hif.epoch + 2 ^ 16) :: two s.hif.epochTime))) ∧
    (¬busy → s.pfwLow = false → s.stg.flag = true →
      ∃ u : State,
        let done := u.respond 0x0010 q stOk (wd u.hif.epoch :: two u.hif.epochTime)
        let e := if s.hif.epoch = 0xFFFF then 1 else s.hif.epoch + 1
        let recs := (s.stg.log.filter classJ).map (commandRecord e) ++ [commitRecord e]
        exec (.commit r b) s = .next (match b.cut with
          | some k => if k < s.sec.burned u.sec then ({ s with sec := s.sec.partBurn u.sec k }).powerOff else done
          | none => done) ∧
        (∀ c : Fin 64, u.hif.applied.getLsbD c.val =
          (decide (s.crn.mod ≠ .run) || s.hif.isolated.getLsbD c.val || (s.cell c.val).fatalIso)) ∧
        u.hif.isolated = s.hif.isolated ∧ (u.hif.pend = true ↔ u.hif.applied ||| u.hif.isolated ≠ BitVec.allOnes 64) ∧
        (s.img.journaling = false → u.img.segs = s.img.segs ∧ u.img.open_ = s.img.open_) ∧
        (∀ g, s.img.journaling = true → s.img.open_ = some g →
          let g' := { g with records := g.records ++ recs }
          4 * g'.words ≤ 4 * 2 ^ 20 → 4 * { s with img := { s.img with open_ := some g' } }.journalUsed < 524288 * 3 →
          u.img.open_ = some g' ∧ u.img.segs = s.img.segs) ∧
        u.hif.epoch = e ∧ u.hif.epochTime = s.now ∧
        u.stg.cur = s.stg.staged ∧ u.stg.prev = s.stg.cur ∧ u.stg.flag = false ∧ u.stg.log = [] ∧
        u.hif.sessions = s.hif.sessions ∧ u.frm = s.frm ∧ u.flo = { s.flo with zoneBucket := u.flo.zoneBucket } ∧ u.fab = s.fab ∧
        u.egr = s.egr ∧ u.rng = s.rng ∧ u.bpm = { s.bpm with quota := u.bpm.quota } ∧
        (s.img.polStaged = none → u.bpm = s.bpm) ∧ (s.crn.mod = .run → u.prt = s.prt))) ∧
  ((∀ (s : State) (r q : Req), s.Accepts 0x0011 r q → q.ExtSize 0 → 7 ≤ q.room →
    exec (.epochStatus r) s = .next (s.respond 0x0011 q stOk
      ([s.hifEpoch] ++ two s.hif.applied.toNat ++ two s.hif.isolated.toNat ++ two s.hif.epochTime))) ∧
  (∀ (s : State) (r q : Req), s.Accepts 0x0012 r q → q.ExtSize 0 →
    ∃ u : State, exec (.stageDiscard r) s = .next (u.respond 0x0012 q stOk []) ∧ u = { s with stg := u.stg, img := u.img } ∧
      u.stg.staged = s.stg.cur ∧ u.stg.flag = false ∧ u.stg.log = [] ∧ u.stg.cur = s.stg.cur ∧ u.img.polStaged = none) ∧
  ∀ (s : State) (r q : Req), s.Accepts 0x0020 r q → q.ExtSize 0 → 3 ≤ q.room →
    (s.snapping = true → exec (.statsSnapshot r) s = .next (s.respond 0x0020 q stBusy [])) ∧
    (s.snapping = false → ∃ t, exec (.statsSnapshot r) s = .next t ∧ t = { s with hif := t.hif } ∧
      t.hif.snapAt = (s.takenAt q.via + 2000) % 2 ^ 64 ∧ t.hif.snapId = s.hif.snapId ∧ t.snapping = true ∧
      t.hif.snapCopy = if t.hif.snapAt ≤ s.now then some (tabKeep shadowed s.ctr) else none)) ∧
  ((∀ (s : State) (slots : BitVec 8), s.hif.snapCopy = none → (s.snapping = false ∨ s.now < s.hif.snapAt) →
    exec (.snapshotDone slots) s = .next (s.sees slots)) ∧
  ∀ (s : State) (slots : BitVec 8), s.snapping = true → (s.hif.snapCopy ≠ none ∨ s.hif.snapAt ≤ s.now) →
    ∃ t, exec (.snapshotDone slots) s = .next t ∧ t.shadow = s.hif.snapCopy.getD (tabKeep shadowed s.ctr) ∧ t.ctr = s.ctr ∧
      t.hif.snapId = (s.hif.snapId + 1) % 2 ^ 32 ∧ t.hif.snapAt = s.hif.snapAt ∧ t.hif.irq.getLsbD 3 = true ∧
      t.snapping = false ∧ t.stg = s.stg ∧ t.flo = s.flo) ∧
  (∀ (s : State) (op : Nat) (r q : Req), definedOpcodes.contains op = false → op < 2 ^ 16 → s.Accepts op r q →
    exec (.unknownOpcode op r) s = .next (s.respond op q stInvalid []) ∧
      s.SameButResponse (s.respond op q stInvalid []))

/-- The boot mailbox and the ring pairs: GO takes the command words while READY and not BUSY, else it is ignored (04
R126); an owned slot at POS is taken once, OWN cleared in host memory, and POS advances round the ring (04 R127); a
held response is written, with the EPOCH of that moment, once the host has cleared OWN (04 R122, R128); a disabled
pair with no work is idle (04 R120).

MBX_CTRL_WRITE by 04 R120: ENABLE = 1 with LOG2SIZE outside 4 to 12 is refused with ENA_REFUSED; an accepted enable
sets POS to 0; while the pair is enabled or not idle a write changes ENABLE and VECTOR alone, and LOG2SIZE keeps its
value. -/
def Obligations.MailboxTransports : Prop :=
  ((∀ s : State, s.hostAccess = true →
    ∃ t, exec .bootMailboxGo s = .next t ∧ t = { s with pmu := t.pmu, hif := t.hif } ∧
      (s.hif.ready = true → s.hif.bmbBusy = false → t.hif.bmbBusy = true ∧ t.hif.bmbDone = false ∧
        t.hif.bmbMsg = (List.range 64).map fun i => tabGet 0 s.hif.bmbCmd i) ∧
      (s.hif.ready = false ∨ s.hif.bmbBusy = true → t.hif = s.hif)) ∧
  (∀ (s : State) (n : Fin 8) (head : Word), s.crn.fwRuns = true → s.crn.pcieUp = true → s.hif.ready = true →
    (s.pair n).enable = true → (s.pair n).exec = none → (s.pair n).rspStall = false → head.getLsbD 31 = true →
    let g := s.pair n
    ∀ i ∈ [Instr.mailboxCommandTake n head, Instr.mailboxDoorbell n head],
    ∃ t, exec i s = .next t ∧ t = { s with pmu := t.pmu, hif := t.hif, out := t.out } ∧
      t.out = s.out ++ [.hostWrite (g.cmdBase + 256 * g.pos) [head &&& 0x7FFFFFFF]] ∧
      (t.pair n).exec = some g.pos ∧ (t.pair n).pos = (g.pos + 1) % 2 ^ g.log2size ∧
      ∀ m, m ≠ n.val → t.pair m = s.pair m) ∧
  (∀ (s : State) (n : Fin 8) (head : Word), s.hostAccess = true → (s.pair n).rspStall = true →
    (head.getLsbD 31 = true → ∃ t, exec (.mailboxDoorbell n head) s = .next t ∧ t = { s with pmu := t.pmu }) ∧
    (head.getLsbD 31 = false → ∃ t, exec (.mailboxDoorbell n head) s = .next t ∧
      ∀ h, (s.pair n).held = some h →
        Out.hostWrite ((s.pair n).rspBase + 256 * h.slot) (responseWords h.op h.req h.status s.hif.epoch true h.words) ∈ t.out ∧
        (t.pair n).rspStall = false ∧ (t.pair n).held = none ∧ (t.pair n).exec = none)) ∧
  ∀ (s : State) (n : Fin 8), (s.pair n).enable = false → (s.pair n).exec = none → (s.pair n).rspStall = false →
    ∃ t, exec (.mbxIdle n) s = .next t ∧ t = { s with hif := t.hif } ∧ t.pair n = { s.pair n with idle := true } ∧
      ∀ m, m ≠ n.val → t.pair m = s.pair m) ∧
  (∀ (s : State) (n : Fin 8) (v : Word), s.hostAccess = true →
    let g := s.pair n
    ∃ t, exec (.mbxCtrlWrite n v) s = .next t ∧ t = { s with pmu := t.pmu, hif := t.hif } ∧
      (∀ m, m ≠ n.val → t.pair m = s.pair m) ∧
      (t.pair n).vector = fld v 13 8 ∧ (t.pair n).cmdBase = g.cmdBase ∧ (t.pair n).rspBase = g.rspBase ∧
      (t.pair n).exec = g.exec ∧ (t.pair n).held = g.held ∧
      ((g.enable = true ∨ g.idle = false) → (t.pair n).log2size = g.log2size) ∧
      (g.enable = false → g.idle = true → (t.pair n).log2size = fld v 7 4) ∧
      (v.getLsbD 0 = false → (t.pair n).enable = false) ∧
      (g.enable = false → g.idle = true → v.getLsbD 0 = true → 4 ≤ fld v 7 4 → fld v 7 4 ≤ 12 →
        (t.pair n).enable = true ∧ (t.pair n).idle = false ∧ (t.pair n).enaRefused = false ∧ (t.pair n).pos = 0) ∧
      (g.enable = false → g.idle = true → v.getLsbD 0 = true → (fld v 7 4 < 4 ∨ 12 < fld v 7 4) →
        (t.pair n).enable = false ∧ (t.pair n).enaRefused = true ∧ (t.pair n).pos = g.pos))

/-- Reads and writes of BAR0: a read of a _LO register latches the matching _HI for that master, and the master's next
read of it returns the latched value once (04 R116; that one read uses the latch up is log entry 40, DEDUCED);
HIF_IRQ_STATUS is cleared by the ones written (04 R117, R121); base registers of a mailbox ring pair change only while
it is disabled and idle (04 R120); an offset that nothing defines reads 0 and a write to 0x100000 and above raises,
while the FLT block runs, the event of reserved space and changes no register (00 R9; 16 R538).

I2C_READ and MGMT_FRAME: from the first input measurement on, the target of the module's address answers the bytes of
Cairn's registers from an offset on and changes nothing but the registers that follow the input, and no other address
is answered (02 R62 to R65); that the row carries the input as measured, that offsets wrap at 65,536 and that nothing
answers before the first measurement are the model's reading (log entry 56, DEDUCED); a frame on a management port
that is for another VLAN or address is discarded and counted, and an ARP request for the port's own address is
answered to its sender (04 R133). -/
def Obligations.Bar0AndBoard : Prop :=
  ((∀ (s : State) (m off : Nat), s.hostAccess = true → tabFind s.hif.latch (m * 2 ^ 22 + off) = none →
    ∃ t, exec (.loReadLatch m off) s = .next t ∧ t = { s with pmu := t.pmu, hif := t.hif, out := t.out } ∧
      ∃ p, t.out = s.out ++ [.barRead m off ({ s with pmu := p }.bar0Read off)] ∧
        ∀ o ∈ highOf off, tabFind t.hif.latch (m * 2 ^ 22 + o) = some ({ s with pmu := p }.bar0Read o)) ∧
  (∀ (s : State) (m off : Nat) (v : Word), s.hostAccess = true → tabFind s.hif.latch (m * 2 ^ 22 + off) = some v → highOf off = [] →
    ∃ t, exec (.loReadLatch m off) s = .next t ∧ t.out = s.out ++ [.barRead m off v] ∧
      tabFind t.hif.latch (m * 2 ^ 22 + off) = none) ∧
  (∀ (s : State) (v : Word), s.hostAccess = true →
    ∃ t, exec (.registerWrite 0x20 v) s = .next t ∧ t = { s with pmu := t.pmu, hif := t.hif } ∧
      t.hif = { s.hif with irq := t.hif.irq } ∧ ∀ n, n < 5 → t.hif.irq.getLsbD n = (s.hif.irq.getLsbD n && !v.getLsbD n)) ∧
  (∀ (s : State) (n : Fin 8) (v : Word), s.hostAccess = true →
    ∃ t, exec (.registerWrite (0x1000 + 0x40 * n) v) s = .next t ∧ t = { s with pmu := t.pmu, hif := t.hif } ∧
      (((s.pair n).enable = true ∨ (s.pair n).idle = false) → t.hif = s.hif) ∧
      ((s.pair n).enable = false → (s.pair n).idle = true →
        (t.pair n).cmdBase = (s.pair n).cmdBase / 2 ^ 32 * 2 ^ 32 + v.toNat / 4096 * 4096)) ∧
  ∀ (s : State) (off : Nat) (v : Word), s.hostAccess = true → 0x100000 ≤ off → off ≤ 0x3FFFFF →
    s.bar0Read off = 0 ∧
    ∃ t, exec (.reservedBar0Write off v) s = .next t ∧ t = { s with pmu := t.pmu, flt := t.flt } ∧
      (s.fltRuns = true → t.flt.evt = s.flt.evt ||| srcMask 1146) ∧ (s.fltRuns = false → t.flt = s.flt) ∧ t.flt.flt = s.flt.flt ∧
      t.flt.fatal = s.flt.fatal) ∧
  ((∀ (s : State) (dev off n : Nat) (input : InputSeen), s.cairnRuns = true → s.sup.measured = true →
    (dev ≠ 0x3C + s.sup.i2cAddr → exec (.i2cRead dev off n input) s = .next s) ∧
    (dev = 0x3C + s.sup.i2cAddr →
      ∃ t d, exec (.i2cRead dev off n input) s = .next t ∧
        t = { s with sup := { s.sup with vin := input.vin % 65536, iin := input.iin % 65536, pin := input.pin % 65536 }
                     out := s.out ++ [.i2c d] } ∧ d.length = n ∧
        ∀ i, i < n → d.getD i 0 =
          BitVec.ofNat 8 ((t.crnWord ((off + i) % 65536 / 4 * 4)).toNat / 256 ^ ((off + i) % 65536 % 4)))) ∧
  (∀ (s : State) (m : Fin 2) (data : List Byte), s.crn.fwRuns = true → data.take 6 ≠ State.mgmtMac m →
    beAt data 0 1 % 2 = 0 → exec (.mgmtFrame m data) s = .next s.discard) ∧
  ∀ (s : State) (m : Fin 2) (src a asker : List Byte) (rest : List Byte), s.crn.fwRuns = true → fld (s.mgmtWord m 0) 27 16 = 0 →
    s.mgmtV4 m = some a → src.length = 6 → asker.length = 10 → a.length = 4 →
    ∃ t, exec (.mgmtFrame m (State.mgmtMac m ++ src ++ [8, 6] ++ [0, 1, 8, 0, 6, 4, 0, 1] ++ asker ++ List.replicate 6 0 ++ a ++ rest)) s
        = .next t ∧ t = { s with out := t.out, draw := t.draw } ∧
      t.out = s.out ++ [.mgmtFrame m (src ++ State.mgmtMac m ++ [8, 6] ++ ([0, 1, 8, 0, 6, 4, 0, 2] ++ State.mgmtMac m ++ a ++ asker))])

/-! ## Faults and performance monitors -/

/-- FLT_EVT_WRITE by 16 R544 and R545: a one clears EVT, FLT and FATAL of a source whose CAUSE is 0 and nothing of one
whose CAUSE is 1; FLT_CLR_RESULT holds how many bits the write refused and the lowest source refused. -/
def Obligations.EventClears : Prop :=
  ∀ (s : State) (n : Fin 36) (v : Word), s.hostAccess = true →
    let refused (b : Nat) : Bool := v.getLsbD b && s.causeOf (32 * n.val + b)
    ∃ t, exec (.fltEvtWrite n v) s = .next t ∧ t = { s with pmu := t.pmu, flt := t.flt } ∧
      (∀ k, k < 1152 → k / 32 = n.val → v.getLsbD (k % 32) = true → s.causeOf k = false →
        t.flt.evt.getLsbD k = false ∧ t.flt.flt.getLsbD k = false ∧ t.flt.fatal.getLsbD k = false) ∧
      (∀ k, k < 1152 → (k / 32 ≠ n.val ∨ v.getLsbD (k % 32) = false ∨ s.causeOf k = true) →
        t.flt.evt.getLsbD k = s.flt.evt.getLsbD k ∧ t.flt.flt.getLsbD k = s.flt.flt.getLsbD k ∧
        t.flt.fatal.getLsbD k = s.flt.fatal.getLsbD k) ∧
      t.flt.live = s.flt.live ∧ t.flt.ffr = s.flt.ffr ∧ t.flt.queue = s.flt.queue ∧
      t.flt.clrCount = ((List.range 32).filter refused).length ∧
      ∀ b, b < 32 → refused b = true → (∀ c, c < b → refused c = false) → t.flt.clrFirst = 32 * n.val + b

/-- The first-fault record by 16 R547 and R548: the first fault or fatal event into an empty record latches its source,
class, reason, access, address and the time; a later one sets OVERFLOW alone; FLT_FFR_REARM and a one written to VALID
empty the record, OVERFLOW and CARRIED with it, and the next such event latches again. The MASTER of an event that
comes with none is the model's reading of 00 R18 (log entry 21, DEDUCED; log entry 133, DESIGN CHOICE for a stack
group), and the FLT block runs through a drain without firmware. -/
def Obligations.FirstFaultRecord : Prop :=
  (∀ (s : State) (e : Ev), s.fltRuns = true → 2 ≤ e.cls →
    let f := (s.raise e).flt.ffr
    (s.flt.ffr.valid = false → f.valid = true ∧ f.source = e.src ∧ f.reason = e.reason ∧ f.access = e.access ∧
      f.addr = e.addr ∧ f.time = s.now ∧ (f.fatal = true ↔ e.cls = 3) ∧ f.overflow = false ∧
      f.master = if e.master = 0 then masterOf e.src else e.master) ∧
    (s.flt.ffr.valid = true → f = { s.flt.ffr with overflow := true })) ∧
  (∀ (s : State) (r q : Req), s.Accepts 0x0D04 r q → q.ExtSize 0 →
    ∃ u : State, exec (.fltFfrRearm r) s = .next (u.respond 0x0D04 q stOk []) ∧ u = { s with flt := { s.flt with ffr := {} } }) ∧
  (∀ (s : State) (v : Word), s.hostAccess = true → v.getLsbD 0 = true →
    ∃ t, exec (.ffrValidWrite v) s = .next t ∧ t = { s with pmu := t.pmu, flt := { s.flt with ffr := {} } }) ∧
  ∀ (s : State) (v : Word), s.hostAccess = true → v.getLsbD 0 = false →
    ∃ t, exec (.ffrValidWrite v) s = .next t ∧ t = { s with pmu := t.pmu }

/-- FLT_STATUS, FLT_READ and FLT_ALERT_SET by 16 R556 and R557: the registers and the status words are answered and
nothing changes; the alert enables of the words named are set, the others keep their value, and no status bit changes.

FLT_CLEAR and FLT_INJECT by 16 R558 and R559: the sources named are cleared as a write clears them, and those refused
are answered with PARTIAL; an injected event sets EVT, and FLT by its class, without a CAUSE, and where KIND 2 entries
of its class have a ring (05 R188) its entry waits with a GCC core as MASTER.

Entries of events by 16 R542 and R543: the oldest waiting event leaves the queue; with no ring that takes its class it
is written nowhere; while its source's bucket holds a token it is written, 16 words, at POS of its ring with the
ring's SEQ; without a token it is suppressed and counted. A firmware log line sets EVT of its core and goes out on
UART_TXD (14 R504). -/
def Obligations.FaultCommands : Prop :=
  ((∀ (s : State) (r q : Req), s.Accepts 0x0D01 r q → q.ExtSize 0 → 10 ≤ q.room →
    exec (.fltStatus r) s = .next (s.respond 0x0D01 q stOk
      ([s.fltSummary, s.fltClrResult, s.ffrCtrl, wd s.flt.ffr.reason] ++ two s.flt.ffr.addr ++ two s.flt.ffr.time ++
        [s.fltResetCause, wd s.flt.suppressed]))) ∧
  (∀ (s : State) (r q : Req), s.Accepts 0x0D02 r q → q.f 4 31 12 = 0 → q.ExtSize 1 → q.f 4 11 6 ≤ 14 →
    q.f 4 5 0 + q.f 4 11 6 ≤ 36 → 1 + 4 * q.f 4 11 6 ≤ q.room →
    ∃ ws : List Word, exec (.fltRead r) s = .next (s.respond 0x0D02 q stOk ws) ∧ ws.length = 1 + 4 * q.f 4 11 6 ∧
      wordAt ws 0 = wd (q.f 4 11 6) ∧ ∀ j, j < q.f 4 11 6 →
        wordAt ws (1 + 4 * j) = statusWord s.flt.evt (q.f 4 5 0 + j) ∧
        wordAt ws (2 + 4 * j) = statusWord s.flt.flt (q.f 4 5 0 + j) ∧
        wordAt ws (3 + 4 * j) = statusWord s.flt.fatal (q.f 4 5 0 + j) ∧
        wordAt ws (4 + 4 * j) = statusWord s.cause (q.f 4 5 0 + j)) ∧
  ∀ (s : State) (r q : Req), s.Accepts 0x0D05 r q → q.f 4 31 12 = 0 → q.f 4 11 6 ≤ 14 → q.f 4 5 0 + q.f 4 11 6 ≤ 36 →
    1 + q.f 4 11 6 ≤ q.size → q.ExtSize (1 + q.f 4 11 6) →
    ∃ u : State, exec (.fltAlertSet r) s = .next (u.respond 0x0D05 q stOk []) ∧
      u = { s with flt := { s.flt with alertEn := u.flt.alertEn } } ∧
      ∀ k, k < 1152 → u.flt.alertEn.getLsbD k =
        if q.f 4 5 0 ≤ k / 32 ∧ k / 32 < q.f 4 5 0 + q.f 4 11 6 then (q.w (5 + (k / 32 - q.f 4 5 0))).getLsbD (k % 32)
        else s.flt.alertEn.getLsbD k) ∧
  ((∀ (s : State) (r q : Req), s.Accepts 0x0D03 r q → q.f 4 31 7 = 0 → q.f 4 6 0 = 1 → 2 ≤ q.size → q.ExtSize 2 →
    q.f 5 15 11 = 0 → q.f 5 31 27 = 0 → q.f 5 10 0 ≤ 1151 → 2 ≤ q.room →
    ∃ u : State, u = { s with flt := u.flt } ∧
      (s.causeOf (q.f 5 10 0) = false → exec (.fltClear r) s = .next (u.respond 0x0D03 q stOk []) ∧
        u.flt.evt.getLsbD (q.f 5 10 0) = false ∧ u.flt.flt.getLsbD (q.f 5 10 0) = false ∧
        u.flt.fatal.getLsbD (q.f 5 10 0) = false ∧ u.flt.clrCount = 0) ∧
      (s.causeOf (q.f 5 10 0) = true →
        exec (.fltClear r) s = .next (u.respond 0x0D03 q stPartial [wd 1, wd (q.f 5 10 0)]) ∧
        u.flt.evt = s.flt.evt ∧ u.flt.flt = s.flt.flt ∧ u.flt.fatal = s.flt.fatal ∧ u.flt.clrCount = 1 ∧
        u.flt.clrFirst = q.f 5 10 0) ∧
      ∀ k, k < 1152 → k ≠ q.f 5 10 0 → u.flt.evt.getLsbD k = s.flt.evt.getLsbD k) ∧
  ∀ (s : State) (r q : Req), s.Accepts 0x0D06 r q → q.f 4 31 13 = 0 → q.f 4 12 11 ≠ 3 → q.f 4 10 0 ≤ 1151 → q.ExtSize 1 →
    ∃ u : State, exec (.fltInject r) s = .next (u.respond 0x0D06 q stOk []) ∧ u = { s with flt := u.flt, draw := u.draw } ∧
      u.flt.evt = s.flt.evt ||| srcMask (q.f 4 10 0) ∧
      u.flt.flt = (if q.f 4 12 11 = 2 then s.flt.flt ||| srcMask (q.f 4 10 0) else s.flt.flt) ∧
      u.flt.fatal = s.flt.fatal ∧ u.flt.live = s.flt.live ∧
      (s.eventRing 2 (q.f 4 12 11) = none → u.flt.queue = s.flt.queue) ∧
      ((s.eventRing 2 (q.f 4 12 11)).isSome = true → ∃ e : Ev, u.flt.queue = s.flt.queue ++ [e] ∧ e.src = q.f 4 10 0 ∧ e.cls = q.f 4 12 11 ∧ e.reason = 0xFFFF ∧
        e.injected = true ∧ e.access = 0 ∧ 0x48 ≤ e.master ∧ e.master ≤ 0x57)) ∧
  ((∀ (s : State) (e : Ev) (rest : List Ev) (own : Bool), s.flt.queue = e :: rest →
    let b := ((tabGet {} s.flt.bucket e.src).draw 1000 32 1 s.tim.up).1
    ∃ t, exec (.fltEntryWrite own) s = .next t ∧ t.flt.queue = rest ∧ t.flt.evt = s.flt.evt ∧ t.stg = s.stg ∧
      (s.eventRing 2 e.cls = none → t.out = s.out ∧ t.rng = s.rng) ∧
      (∀ i, s.eventRing 2 e.cls = some i → b = false → t.out = s.out ∧ t.rng = s.rng ∧
        t.flt.suppressed = min 0xFFFFFFFF (s.flt.suppressed + 1)) ∧
      ∀ i, s.eventRing 2 e.cls = some i → b = true → own = false → (s.ring i).held = [] → (s.ring i).lostNew = 0 →
        s.crn.pcieUp = true → t.flt.suppressed = s.flt.suppressed ∧ (t.ring i).pos = ((s.ring i).pos + 1) % 2 ^ (s.ring i).log2size ∧
        ∃ w : List Word, w.length = 16 ∧ wordAt w 0 = wd (2 + e.cls * 2 ^ 4 + e.src * 2 ^ 6 + 2 ^ 31) ∧
          wordAt w 1 = wd (s.ring i).seq ∧ Out.hostWrite ((s.ring i).base + 64 * (s.ring i).pos) w ∈ t.out) ∧
  ∀ (s : State) (core : Fin 16) (sev : Fin 3) (id : Nat) (text : List Byte) (own : Bool), s.crn.fwRuns = true → id < 2 ^ 16 →
    ∃ t, exec (.firmwareLogLine core sev id text own) s = .next t ∧
      t = { s with flt := t.flt, rng := t.rng, hif := t.hif, out := t.out } ∧
      t.flt.evt = s.flt.evt ||| srcMask (1112 + core) ∧ t.flt.flt = s.flt.flt ∧ ∃ l, t.out = l ++ [.uart (asciiLine (text.take 44))])

/-- A write of PMU_CNT_LO is held, and the next write of PMU_CNT_HI by the same master loads both words together (17
R562); neither changes anything but the performance monitors.

PMU_SET, PMU_READ and COUNTER_WRAP by 17 R561, R564, R578 and R579: the selection and filters of the counter named are
stored, and its count and OVF bit cleared on request; a block without power ignores the writes; the counters named are
answered with OVF and the time; a wrap of a block whose clock runs leaves the counter 0 and sets its OVF bit (that the
row does so is log entry 22, DEDUCED).

Sampling by 17 R571 and R580: PMU_SAMPLE_SET gives every cell named that has power its PERIOD and program, or none for
0, and leaves the other cells; the count that a cell loads then, and after each sample, is PERIOD plus a random number
within an eighth of it, never less than 1: which one is a free value (log entry 3). Each OPERATE sent that the cell
counts takes one off, and the one at which the count expires is sampled and reloads it; SAMPLE_TRIGGER marks it
expired. -/
def Obligations.Monitors : Prop :=
  (∀ (s : State) (off b w item : Nat) (lo hi : Word), s.hostAccess = true → pmuHalf off false = some (b, w) →
    pmuHalf (off + 4) true = some (b, w + 1) → pmuReg b w = .cntLo item → pmuReg b (w + 1) = .cntHi item →
    s.pmuPowered b = true → ¬(b < 64 ∧ ((s.cell b).st = .slumber ∨ (s.cell b).st = .waking true)) →
    ∃ t u, exec (.pmuCntLoWrite off lo) s = .next t ∧ t = { s with pmu := t.pmu } ∧
      exec (.pmuCntHiWrite (off + 4) hi) t = .next u ∧ u = { s with pmu := u.pmu } ∧
      u.pmuCnt b item = (lo.toNat + 2 ^ 32 * hi.toNat) % 2 ^ 48) ∧
  ((∀ (s : State) (r q : Req), s.Accepts 0x0E01 r q → q.f 4 31 13 = 0 → q.f 5 31 9 = 0 → q.f 6 31 29 = 0 → q.f 4 7 0 ≤ 200 →
    q.f 4 11 8 < pmuCounters (q.f 4 7 0) → q.ExtSize 7 →
    let b := q.f 4 7 0
    let k := q.f 4 11 8
    ∃ u : State, exec (.pmuSet r) s = .next (u.respond 0x0E01 q stOk []) ∧ u = { s with pmu := u.pmu } ∧
      (s.pmuPowered b = false → u = s) ∧
      (s.pmuPowered b = true → ¬(b < 64 ∧ ((s.cell b).st = .slumber ∨ (s.cell b).st = .waking true)) →
        (∀ i, i < 6 → u.pmuWord b (8 + 8 * k + i) = (q.w (5 + i)).toNat) ∧
        u.pmuCnt b (k + 1) = (if q.f 4 12 12 = 1 then 0 else s.pmuCnt b (k + 1)) ∧
        (q.f 4 12 12 = 1 → (u.pmuOvf b).testBit k = false))) ∧
  (∀ (s : State) (r q : Req), s.Accepts 0x0E02 r q → q.f 4 31 16 = 0 → q.f 4 7 0 ≤ 200 →
    q.f 4 11 8 + q.f 4 15 12 ≤ pmuCounters (q.f 4 7 0) + 1 → q.ExtSize 1 → 6 + 2 * q.f 4 15 12 ≤ q.room →
    ∃ ws : List Word, exec (.pmuRead r) s = .next (s.respond 0x0E02 q stOk ws) ∧ ws.length = 6 + 2 * q.f 4 15 12 ∧
      wordAt ws 0 = wd (q.f 4 15 12) ∧ wordAt ws 1 = s.pmuRead (q.f 4 7 0) 1 ∧ wordAt ws 2 = wd s.now ∧
      ∀ i, i < q.f 4 15 12 → s.pmuPowered (q.f 4 7 0) = true →
        wordAt ws (6 + 2 * i) = wd (s.pmuCnt (q.f 4 7 0) (q.f 4 11 8 + i)) ∧
        wordAt ws (7 + 2 * i) = wd (s.pmuCnt (q.f 4 7 0) (q.f 4 11 8 + i) / 2 ^ 32)) ∧
  ∀ (s : State) (b : Fin 201) (item : Fin 9), item.val ≤ pmuCounters b.val → s.pmuClock b.val = true →
    s.pmuCnt b.val item.val < 2 ^ 48 →
    ∃ t, exec (.counterWrap b item) s = .next t ∧ t = { s with pmu := t.pmu } ∧ t.pmuCnt b.val item.val = 0 ∧
      t.pmuOvf b.val = s.pmuOvf b.val ||| 2 ^ (if item.val = 0 then 8 else item.val - 1) ∧
      ∀ k, k ≠ 16 * b.val + item.val → tabGet 0 t.pmu.cnt k = tabGet 0 s.pmu.cnt k) ∧
  (let near (p n : Nat) : Prop := max 1 (p - p / 8) ≤ n ∧ n ≤ p + p / 8
  (∀ (s : State) (r q : Req), s.Accepts 0x0E03 r q → q.f 4 31 26 = 0 → q.f64 5 ≠ 0 → q.ExtSize 3 →
    ∃ u : State, exec (.pmuSampleSet r) s = .next (u.respond 0x0E03 q stOk []) ∧ u = { s with pmu := u.pmu, draw := u.draw } ∧
      ∀ c, c < 64 →
        let m := tabGet {} u.pmu.sample c
        ((q.f64 5).testBit c = false ∨ s.pmuPowered c = false → m = tabGet {} s.pmu.sample c) ∧
        ((q.f64 5).testBit c = true → s.pmuPowered c = true → q.f 4 15 0 = 0 → m = {}) ∧
        ((q.f64 5).testBit c = true → s.pmuPowered c = true → q.f 4 15 0 ≠ 0 → m.period = q.f 4 15 0 ∧ (m.progEn = true ↔ q.f 4 16 16 = 1) ∧
          m.program = q.f 4 25 17 ∧ m.armed = false ∧ near m.period m.count)) ∧
  (∀ (s : State) (c : Nat) (prog : Nat),
    let m := tabGet {} s.pmu.sample c
    let counts := m.period ≠ 0 ∧ (m.progEn = true → m.program = prog)
    let a := s.sampleOp c prog
    let n := tabGet {} a.2.pmu.sample c
    (¬counts → a = (false, s)) ∧
    (counts → m.armed = false → 1 < m.count → a.1 = false ∧ n = { m with count := m.count - 1 }) ∧
    (counts → (m.armed = true ∨ m.count ≤ 1) → a.1 = true ∧ n = { m with armed := false, count := n.count } ∧ near m.period n.count) ∧
    ∀ d, d ≠ c → tabGet {} a.2.pmu.sample d = tabGet {} s.pmu.sample d) ∧
  ∀ (s : State) (c : Fin 64),
    let m := tabGet {} s.pmu.sample c.val
    (m.period ≠ 0 → m.count ≤ 1 →
      ∃ t, exec (.sampleTrigger c) s = .next t ∧ t = { s with pmu := t.pmu } ∧
        tabGet {} t.pmu.sample c.val = { m with armed := true } ∧
        ∀ d, d ≠ c.val → tabGet {} t.pmu.sample d = tabGet {} s.pmu.sample d) ∧
    (1 < m.count → exec (.sampleTrigger c) s = .next s))

/-! ## Rings and buffers -/

/-- RING_CTRL_WRITE by 05 R148 and R150: an accepted enable sets POS to 0; one with LOG2SIZE outside 4 to 16, or of a TX
or RX ring whose completion ring is disabled, is refused with ENA_REFUSED; while ENABLE is 1, LOG2SIZE, CQ and
REQUESTER keep their value; a completion ring to which a ring is bound that is enabled or not idle is not disabled,
with DIS_REFUSED (05 R174), nor is one to which a descriptor in progress reports (log entry 101, DEDUCED).

The rings' own rows: a scan takes the owned entries from POS on, up to 16 cached, and advances POS past them (05 R161,
R162); it stops at an entry that the module still holds (log entry 99, DEDUCED), and where it stops for want of room,
at its sixteenth place too (log entry 131, DEDUCED), it goes on later; RING_INVAL and its end drop the cached
descriptors that have not started and set POS to the first of them (05 R163); a disabled ring without work, and
without a completion that any completion ring still holds, sets IDLE (05 R173); an entry owed to a holdoff is
signalled at its end (05 R172).

Stalled completion rings and event rings by 05 R170 and R171: a doorbell, or the 1 ms reread of a stalled ring, writes
the held completions, oldest first, into as many slots as are free, and the scans that the stall held back go on; a
doorbell of an event ring writes its queued events, after one KIND 15 entry where events were lost.

DESCRIPTOR_DONE by 05 R154, R158, R169 and R181: the oldest descriptor of the ring, once it is finished, has OWN
cleared in host memory and leaves; FREE_AFTER frees the buffer of a TX descriptor that did not fail, and a free of a
buffer that the requester no longer owns is refused with the event of 05 R180; the entry is written into the
completion ring's free slot, or is held behind one that the host still owns. The completion ring is the one bound when
the descriptor started (log entry 101, DEDUCED). On a ring with nothing in progress the oldest flushed descriptor
completes so. -/
def Obligations.Rings : Prop :=
  (∀ (s : State) (i : Fin 608) (v : Word), s.hostAccess = true →
    let g := s.ring i.val
    ∃ t, exec (.ringCtrlWrite i v) s = .next t ∧
      t = { s with pmu := t.pmu, rng := t.rng, bpm := t.bpm, ctr := t.ctr, flt := { s.flt with queue := t.flt.queue } } ∧
      (t.flt.queue = s.flt.queue ∨ t.flt.queue = []) ∧
      (t.ring i.val).vector = fld v 14 9 ∧ (t.ring i.val).irqEn = v.getLsbD 15 ∧ (t.ring i.val).base = g.base ∧
      (g.enable = true → (t.ring i.val).log2size = g.log2size ∧ (t.ring i.val).cq = g.cq ∧
        (t.ring i.val).requester = g.requester) ∧
      (g.enable = false → (t.ring i.val).log2size = fld v 8 4 ∧ (t.ring i.val).cq = fld v 21 16 ∧
        (t.ring i.val).requester = fld v 26 22) ∧
      (g.enable = true → v.getLsbD 0 = true → (t.ring i.val).enable = true ∧ (t.ring i.val).pos = g.pos) ∧
      (g.enable = false → v.getLsbD 0 = true → 4 ≤ fld v 8 4 → fld v 8 4 ≤ 16 →
        (512 ≤ i.val ∨ (i.val < 512 ∧ (s.ring (512 + fld v 21 16)).enable = true)) →
        (t.ring i.val).enable = true ∧ (t.ring i.val).pos = 0 ∧ (t.ring i.val).enaRefused = false) ∧
      (g.enable = false → v.getLsbD 0 = true →
        (fld v 8 4 < 4 ∨ 16 < fld v 8 4 ∨ (i.val < 512 ∧ (s.ring (512 + fld v 21 16)).enable = false)) →
        (t.ring i.val).enable = false ∧ (t.ring i.val).enaRefused = true ∧ (t.ring i.val).pos = g.pos) ∧
      (g.enable = true → v.getLsbD 0 = false → (i.val < 512 ∨ 576 ≤ i.val) → (t.ring i.val).enable = false) ∧
      (g.enable = true → v.getLsbD 0 = false → 512 ≤ i.val → i.val < 576 →
        let used := s.rng.rings.any fun e => decide (e.1 < 512) &&
          ((e.2.cq == i.val - 512 && (e.2.enable || !e.2.idle)) || e.2.busy.any fun d => d.cq.val == i.val - 512)
        (used = true →
          (t.ring i.val).enable = true ∧ (t.ring i.val).disRefused = true) ∧
        (used = false →
          (t.ring i.val).enable = false ∧ (t.ring i.val).disRefused = false))) ∧
  ((∀ (s : State) (i : Fin 512) (entries : List (List Word)), s.hostAccess = true → (s.ring i.val).enable = true →
    s.rng.cstall.getLsbD (s.ring i.val).cq = false →
    let g := s.ring i.val
    let size := 2 ^ g.log2size
    let k := (takeOwned size (fun n => (g.cache ++ g.busy).any fun d => d.slot == n) (16 - g.cache.length) g.pos
      (entries.take size)).1.length
    ∃ t, exec (.ringDoorbell i entries) s = .next t ∧ t = { s with pmu := t.pmu, rng := t.rng } ∧
      k ≤ 16 - g.cache.length ∧ k ≤ entries.length ∧ k ≤ size ∧
      (∀ j, j < k → bit (wordAt (entries.getD j []) 0) 31 = true ∧ ∀ d ∈ g.cache ++ g.busy, d.slot ≠ (g.pos + j) % size) ∧
      (k < 16 - g.cache.length → k < size → k < entries.length → bit (wordAt (entries.getD k []) 0) 31 = false ∨
        ∃ d ∈ g.cache ++ g.busy, d.slot = (g.pos + k) % size) ∧
      ((t.ring i.val).scan = true ↔ k = 16 - g.cache.length) ∧
      (t.ring i.val).cache.length = g.cache.length + k ∧ (t.ring i.val).cache.take g.cache.length = g.cache ∧
      (∀ j, j < k → ((t.ring i.val).cache.map (·.data)).getD (g.cache.length + j) [] = entries.getD j [] ∧
        ((t.ring i.val).cache.map (·.slot)).getD (g.cache.length + j) 0 = (g.pos + j) % size) ∧
      (t.ring i.val).pos = (g.pos + k) % size ∧ (∀ j, j ≠ i.val → t.ring j = s.ring j)) ∧
  (∀ (s : State) (i : Fin 512) (entries : List (List Word)), s.hostAccess = true → (s.ring i.val).enable = true →
    s.rng.cstall.getLsbD (s.ring i.val).cq = true →
    ∃ t, exec (.ringDoorbell i entries) s = .next t ∧ t = { s with pmu := t.pmu, rng := t.rng } ∧
      t.ring i.val = { s.ring i.val with scan := true }) ∧
  (∀ (s : State) (v : Word), s.hostAccess = true → s.rng.invalDone = true → fld v 9 0 < 512 →
    ∃ t u, exec (.ringInval v) s = .next t ∧ t.rng = { s.rng with invalDone := false, inval := fld v 9 0 } ∧
      exec .invalidationDone t = .next u ∧ u = { t with rng := u.rng } ∧ u.rng.invalDone = true ∧
      (u.ring (fld v 9 0)).cache = [] ∧ (u.ring (fld v 9 0)).busy = (s.ring (fld v 9 0)).busy ∧
      (∀ d l, (s.ring (fld v 9 0)).cache = d :: l → (u.ring (fld v 9 0)).pos = d.slot) ∧
      ((s.ring (fld v 9 0)).cache = [] → (u.ring (fld v 9 0)).pos = (s.ring (fld v 9 0)).pos) ∧
      ∀ j, j ≠ fld v 9 0 → u.ring j = s.ring j) ∧
  (∀ (s : State) (i : Fin 608),
    let g := s.ring i.val
    g.enable = false → g.cache = [] → g.busy = [] → g.held = [] →
    (512 ≤ i.val ∨ (s.rng.rings.any fun e => inRange e.1 512 575 && e.2.held.any fun x => fld (wordAt x 1) 24 16 == i.val) = false) →
    ∃ t, exec (.ringIdle i) s = .next t ∧ t = { s with rng := t.rng } ∧ t.ring i.val = { g with idle := true } ∧
      ∀ j, j ≠ i.val → t.ring j = s.ring j) ∧
  ∀ (s : State) (i : Fin 96),
    let g := s.ring (512 + i.val)
    (g.owed = false → ∃ t, exec (.holdoffExpiry i) s = .next t ∧ t = { s with rng := t.rng } ∧
      t.ring (512 + i.val) = { g with quietTill := 0 }) ∧
    (g.owed = true → g.irqEn = true → s.crn.pcieUp = true → bit (s.msixWord (4 * g.vector + 3)) 0 = false →
      ∃ t, exec (.holdoffExpiry i) s = .next t ∧ t = { s with rng := t.rng, out := s.out ++ [.msix g.vector] } ∧
        (t.ring (512 + i.val)).owed = false)) ∧
  ((∀ (s : State) (q : Fin 64) (free : Nat) (scans : List Scan), s.hostAccess = true →
    let i := 512 + q.val
    ∃ t, exec (.completionDoorbell q free scans) s = .next t ∧
      t = { s with pmu := t.pmu, rng := t.rng, hif := t.hif, out := t.out } ∧
      (t.ring i).held = (s.ring i).held.drop free ∧
      ((s.ring i).pos < 2 ^ (s.ring i).log2size → ∀ k, k < free → k < (s.ring i).held.length →
        Out.hostWrite ((s.ring i).base + 16 * (((s.ring i).pos + k) % 2 ^ (s.ring i).log2size)) ((s.ring i).held.getD k []) ∈ t.out) ∧
      (s.cqLoad q.val < 32 + min free (s.ring i).held.length → t.rng.cstall.getLsbD q.val = false)) ∧
  (∀ (s : State) (q : Fin 64) (free : Nat) (scans : List Scan), s.rng.cstall.getLsbD q.val = true → s.crn.pcieUp = true →
    ∃ t, exec (.stallReread ⟨q.val, by omega⟩ free scans) s = .next t ∧ t = { s with rng := t.rng, hif := t.hif, out := t.out } ∧
      (t.ring (512 + q.val)).held = (s.ring (512 + q.val)).held.drop free) ∧
  ∀ (s : State) (q : Fin 32) (free : Nat), s.hostAccess = true → (s.ring (576 + q.val)).enable = true → 0 < free →
    let g := s.ring (576 + q.val)
    let lost := 0 < g.lostNew
    ∃ t, exec (.eventDoorbell q free) s = .next t ∧
      t = { s with pmu := t.pmu, rng := t.rng, hif := t.hif, out := t.out } ∧
      (t.ring (576 + q.val)).held = g.held.drop (if lost then free - 1 else free) ∧
      (t.ring (576 + q.val)).lostNew = 0 ∧ (t.ring (576 + q.val)).lost = g.lost) ∧
  ((∀ (s : State) (i : Fin 512) (own evOwn : Bool) (scans : List Scan) (d : Desc) (rest : List Desc) (st : Nat),
    let g := s.ring i.val
    let c := 512 + d.cq.val
    let h := wordAt d.data 4
    let due := i.val < 256 ∧ fld (wordAt d.data 0) 21 18 = 1 ∧ bit (wordAt d.data 5) 15 = true ∧ ¬(1 ≤ st ∧ st ≤ 4)
    let freed := due ∧ s.ownsHandle (32 + g.requester) h = true
    g.busy = d :: rest → d.status = some st → d.lost = false → s.crn.pcieUp = true →
    ∃ t, exec (.descriptorDone i own evOwn scans) s = .next t ∧
      t = { s with rng := t.rng, hif := t.hif, out := t.out, flt := t.flt, bpm := t.bpm } ∧ (t.ring i.val).busy = rest ∧
      (freed → tabFind t.bpm.owner (hKey h) = none) ∧ (¬freed → t.bpm = s.bpm) ∧
      (due → ¬freed → t.flt.evt = s.flt.evt ||| srcMask 1145) ∧
      Out.hostWrite (g.base + 32 * d.slot) [wordAt d.data 0 &&& 0x7FFFFFFF] ∈ t.out ∧
      (own = false → (s.ring c).held = [] → (t.ring c).pos = ((s.ring c).pos + 1) % 2 ^ (s.ring c).log2size ∧
        (t.ring c).held = [] ∧
        Out.hostWrite ((s.ring c).base + 16 * (s.ring c).pos) (completionWords i.val d) ∈ t.out) ∧
      ((own = true ∨ (s.ring c).held ≠ []) → (t.ring c).held = (s.ring c).held ++ [completionWords i.val d] ∧
        (t.ring c).pos = (s.ring c).pos)) ∧
  ∀ (s : State) (i : Fin 512) (own evOwn : Bool) (d : Desc) (rest : List Desc) (st : Nat),
    let g := s.ring i.val
    g.busy = [] → g.cache = d :: rest → d.status = some st → d.lost = false → s.crn.pcieUp = true → g.cq < 64 → s.cqLoad g.cq < 32 →
    ∃ t, exec (.descriptorDone i own evOwn []) s = .next t ∧ (t.ring i.val).busy = [] ∧ (t.ring i.val).cache = rest ∧
      Out.hostWrite (g.base + 32 * d.slot) [wordAt d.data 0 &&& 0x7FFFFFFF] ∈ t.out)

/-- RING_SET_SERVICE, RING_PUNT_MAP, RING_EVENT_ROUTE and RING_PUNT_LIMIT by 05 R186 to R189: the first, third and fourth
act at once on the ring, KIND or cell named and on no other; the punt map is staged for the next COMMIT.

Delivery of punts by 05 R167: firmware takes the oldest frame that waits for it from a cell, and its buffer is free; a
frame for an RX ring whose next cached descriptor is well formed and holds it all is copied to the descriptor's
buffer, the descriptor finishes with the frame's length, port, reason and time, and the frame's buffer is free. -/
def Obligations.RingServiceAndPunts : Prop :=
  ((∀ (s : State) (r q : Req), s.Accepts 0x0201 r q → q.f 4 31 23 = 0 → q.f 4 15 8 ≠ 0 → 1 ≤ q.f 4 22 16 → q.f 4 22 16 ≤ 64 →
    q.ExtSize 1 →
    ∃ u : State, exec (.ringSetService r) s = .next (u.respond 0x0201 q stOk []) ∧ u = { s with rng := u.rng } ∧
      u.ring (q.f 4 7 0) = { s.ring (q.f 4 7 0) with weight := q.f 4 15 8, burst := q.f 4 22 16 } ∧
      ∀ i, i ≠ q.f 4 7 0 → u.ring i = s.ring i) ∧
  (∀ (s : State) (r q : Req), s.Accepts 0x0202 r q → q.f 4 31 7 = 0 → 1 ≤ q.f 4 6 0 → q.f 4 6 0 ≤ 64 → 1 + q.f 4 6 0 ≤ q.size →
    q.ExtSize (1 + q.f 4 6 0) →
    (∀ j, j < q.f 4 6 0 → q.f (5 + j) 7 6 = 0 ∧ q.f (5 + j) 31 17 = 0 ∧ (q.f (5 + j) 16 8 ≤ 0x100 ∨ q.f (5 + j) 16 8 = 0x1FF)) →
    (∀ j k, j < k → k < q.f 4 6 0 → q.f (5 + j) 5 0 ≠ q.f (5 + k) 5 0) →
    ∃ u : State, exec (.ringPuntMap r) s = .next (u.respond 0x0202 q stOk []) ∧
      s.Stages u 0x0202 q (fun k => ∃ j, j < q.f 4 6 0 ∧ k = cfgKey 0x0202 (q.f (5 + j) 5 0)) ∧
      ∀ j, j < q.f 4 6 0 → cfgWords u.stg.staged 0x0202 (q.f (5 + j) 5 0) [0x100] = [wd (q.f (5 + j) 16 8)]) ∧
  (∀ (s : State) (r q : Req), s.Accepts 0x0203 r q → q.f 4 31 12 = 0 → q.f 4 3 0 ≤ 5 → q.ExtSize 1 →
    ∃ u : State, exec (.ringEventRoute r) s = .next (u.respond 0x0203 q stOk []) ∧ u = { s with rng := u.rng } ∧
      u.rng.rings = s.rng.rings ∧
      tabGet (false, 0, 0) u.rng.route (q.f 4 3 0) = ((q.w 4).getLsbD 9, q.f 4 8 4, q.f 4 11 10) ∧
      ∀ k, k ≠ q.f 4 3 0 → tabGet (false, 0, 0) u.rng.route k = tabGet (false, 0, 0) s.rng.route k) ∧
  ∀ (s : State) (r q : Req), s.Accepts 0x0204 r q → q.f 4 31 7 = 0 → q.f 5 31 16 = 0 → (q.f 4 6 0 < 64 ∨ q.f 4 6 0 = 127) →
    q.f 5 15 0 ≤ 1000 → q.ExtSize 2 →
    ∃ u : State, exec (.ringPuntLimit r) s = .next (u.respond 0x0204 q stOk []) ∧ u = { s with rng := u.rng } ∧
      u.rng.rings = s.rng.rings ∧ ∀ c, c < 64 → tabGet 1000 u.rng.puntLimit c =
        if q.f 4 6 0 = c ∨ q.f 4 6 0 = 127 then q.f 5 15 0 else tabGet 1000 s.rng.puntLimit c) ∧
  ((∀ (s : State) (c : Fin 64) (p : Punt), s.crn.fwRuns = true →
    s.rng.punts.find? (fun p => p.cell == c.val && p.target == 0x100) = some p →
    ∃ t, exec (.firmwarePuntReceive c) s = .next t ∧ t = { s with rng := t.rng, bpm := t.bpm } ∧
      tabFind t.bpm.owner (hKey (wd p.handle)) = none ∧
      t.rng.punts = s.rng.punts.filter (fun x => x.handle != p.handle) ∧ t.rng.rings = s.rng.rings) ∧
  ∀ (s : State) (q : Fin 256) (scans : List Scan) (p : Punt) (d : Desc) (rest : List Desc),
    let i := 256 + q.val
    let g := s.ring i
    s.rng.punts.find? (fun p => p.target == q.val) = some p → p.sent = 0 → g.cache = d :: rest → d.status = none → rxBad d = false →
    s.rng.cstall.getLsbD g.cq = false → s.cqLoad g.cq < 32 → p.data.length ≤ fld (wordAt d.data 0) 17 0 →
    fld (wordAt d.data 0) 17 0 ≠ 0 → s.crn.pcieUp = true →
    ∃ t, exec (.puntDelivery q true scans) s = .next t ∧ t = { s with rng := t.rng, bpm := t.bpm, flt := t.flt, out := t.out } ∧
      t.out = s.out ++ [.hostBytes (join (wordAt d.data 2) (wordAt d.data 3)) p.data] ∧
      (∃ more, (t.ring i).cache = rest ++ more ∧ (g.scan = false → more = [])) ∧
      (t.ring i).busy = g.busy ++ [{ d with status := some 0, len := p.data.length, more := false, port := p.port, reason := p.reason,
                                             ts := some p.ts, cq := Fin.ofNat 64 g.cq }] ∧
      t.rng.punts = s.rng.punts.filter (fun x => x.handle != p.handle) ∧
      tabFind t.bpm.owner (hKey (wd p.handle)) = none)

/-- BPM_ALLOC_REQ by 05 R176 and R178: a request of 0 bytes or above 131,072 is INVALID; in four-pool mode it takes a
buffer of the smallest pool whose buffers hold it, and NO_SPACE when that pool is empty or the requester's quota there
is spent, whatever the larger pools hold; single-size mode refuses what is above 2,048 (05 R177; that the bounds of
R176 come first there is log entry 129, DEDUCED). Which buffer it takes is a free value (log entry 15, DESIGN CHOICE);
the buffer was free, and the requester owns it.

BPM_FREE and BPM_XFER by 05 R179 and R180: only the owner named in a current handle frees or transfers a buffer; a
free advances the buffer's generation; a transfer to requester 28 to 31 or above 63 is INVALID, one to a requester
without quota left NO_SPACE; what is refused leaves the buffer unchanged and sets EVT of the BPM's source. -/
def Obligations.Buffers : Prop :=
  (∀ (s : State) (q : Fin 32) (v : Word), s.hostAccess = true →
    let size := fld v 17 0
    let r := 32 + q.val
    ∃ t, exec (.bpmAllocReq q v) s = .next t ∧ t = { s with pmu := t.pmu, bpm := t.bpm, draw := t.draw } ∧
      ((size = 0 ∨ 131072 < size) → tabGet 0 t.bpm.allocStatus q.val = stInvalid ∧ t.bpm.owner = s.bpm.owner) ∧
      ((s.bpm.four = true ∨ size ≤ 2048) → 1 ≤ size → size ≤ 131072 →
        let p := if s.bpm.four = false then 1 else if size ≤ 256 then 0 else if size ≤ 2048 then 1 else if size ≤ 16384 then 2 else 3
        let spent := s.poolFree p = 0 ∨ s.bpmQuota r p ≤ s.bpmUsed r p
        (spent → tabGet 0 t.bpm.allocStatus q.val = stNoSpace ∧ t.bpm.owner = s.bpm.owner) ∧
        (¬spent → tabGet 0 t.bpm.allocStatus q.val = stOk ∧
          ∃ k, tabFind t.bpm.owner (bufKey p k) = some r ∧ (tabSorted s.bpm.owner = true → tabFind s.bpm.owner (bufKey p k) = none) ∧
            (∀ j, j ≠ bufKey p k → tabFind t.bpm.owner j = tabFind s.bpm.owner j) ∧
            tabGet 0 t.bpm.allocHandle q.val = (mkHandle p k r (tabGet 0 s.bpm.gen (bufKey p k))).toNat)) ∧
      (s.bpm.four = false → 1 ≤ size → size ≤ 131072 → 2048 < size →
        tabGet 0 t.bpm.allocStatus q.val = stRefused ∧ t.bpm.owner = s.bpm.owner) ∧
      t.bpm.quota = s.bpm.quota ∧ t.bpm.gen = s.bpm.gen) ∧
  (∀ (s : State) (q : Fin 32) (h : Word) (own : Bool), s.hostAccess = true →
    let r := 32 + q.val
    let dst := tabGet 0 s.bpm.xferTo q.val
    let mine := s.ownsHandle r h = true
    (∃ t, exec (.bpmFree q h own) s = .next t ∧
      t = { s with pmu := t.pmu, bpm := t.bpm, flt := t.flt, rng := t.rng, hif := t.hif, out := t.out } ∧
      (mine → tabGet 0 t.bpm.opStatus q.val = stOk ∧ tabFind t.bpm.owner (hKey h) = none ∧
        tabGet 0 t.bpm.gen (hKey h) = (tabGet 0 s.bpm.gen (hKey h) + 1) % 8 ∧ t.flt = s.flt ∧
        ∀ k, k ≠ hKey h → tabFind t.bpm.owner k = tabFind s.bpm.owner k) ∧
      (¬mine → tabGet 0 t.bpm.opStatus q.val = stRefused ∧ t.bpm.owner = s.bpm.owner ∧ t.bpm.gen = s.bpm.gen ∧
        t.flt.evt = s.flt.evt ||| srcMask 1145)) ∧
    ∃ t, exec (.bpmXfer q h own) s = .next t ∧
      t = { s with pmu := t.pmu, bpm := t.bpm, flt := t.flt, rng := t.rng, hif := t.hif, out := t.out } ∧
      t.bpm.gen = s.bpm.gen ∧
      (((28 ≤ dst ∧ dst < 32) ∨ 63 < dst) → tabGet 0 t.bpm.opStatus q.val = stInvalid ∧ t.bpm.owner = s.bpm.owner) ∧
      (¬((28 ≤ dst ∧ dst < 32) ∨ 63 < dst) → ¬mine →
        tabGet 0 t.bpm.opStatus q.val = stRefused ∧ t.bpm.owner = s.bpm.owner ∧ t.flt.evt = s.flt.evt ||| srcMask 1145) ∧
      (¬((28 ≤ dst ∧ dst < 32) ∨ 63 < dst) → mine → s.bpmQuota dst (hPool h) ≤ s.bpmUsed dst (hPool h) →
        tabGet 0 t.bpm.opStatus q.val = stNoSpace ∧ t.bpm.owner = s.bpm.owner) ∧
      (¬((28 ≤ dst ∧ dst < 32) ∨ 63 < dst) → mine → s.bpmUsed dst (hPool h) < s.bpmQuota dst (hPool h) →
        tabGet 0 t.bpm.opStatus q.val = stOk ∧ tabFind t.bpm.owner (hKey h) = some dst ∧
        tabGet 0 t.bpm.opHandle q.val = (mkHandle (hPool h) (hIndex h) dst (hGen h)).toNat))

/-! ## Ports and links -/

/-- PORT_SET by 06 R190, R216 and R217: accepted settings of a port are staged; a four-lane mode makes the lane the port
of its group and removes the settings of the three lanes beside it, and is answered EXISTS while one of them is an
enabled port; a one-lane mode on a lane that is no port is answered REFUSED.

PORT_STATUS and PORT_STATS_READ by 06 R218 and R219: the link state, VERIFY, DESKEW and LAST_CHANGE of a port,
NOT_FOUND for a lane that is none (VERIFY of a port that is not Up is log entry 135, DESIGN CHOICE); the 24 counters
of each port named, live or from the snapshot, 0 for a lane that is no port. Neither changes anything. -/
def Obligations.Ports : Prop :=
  (∀ (s : State) (r q : Req), s.Accepts 0x0301 r q → q.f 4 31 23 = 0 → q.f 5 31 14 = 0 → q.f 7 31 10 = 0 → q.f 4 13 10 ≤ 4 →
    fecAllowed (q.f 4 13 10) (q.f 4 15 14) = true →
    (q.f 4 18 18 = 1 → (q.f 4 13 10 = 1 ∨ q.f 4 13 10 = 2) ∧ q.f 6 15 0 ≠ 0 ∧ q.f 6 31 16 ≠ 0) →
    64 ≤ q.f 5 13 0 → q.f 5 13 0 ≤ 9216 → q.f 7 9 0 ≤ 1000 → (3 ≤ q.f 4 13 10 → q.f 4 9 0 % 4 = 0) → q.ExtSize 4 →
    let p := q.f 4 9 0
    let c := s.stg.staged
    let four := 3 ≤ q.f 4 13 10
    let taken := ∃ k, p < k ∧ k < p + 4 ∧ isPort c k = true ∧ portEnabled c k = true
    (four → taken → exec (.portSet r) s = .next (s.respond 0x0301 q stExists [])) ∧
    (¬four → isPort c p = false → exec (.portSet r) s = .next (s.respond 0x0301 q stRefused [])) ∧
    ((four → ¬taken) → (¬four → isPort c p = true) →
      ∃ u : State, exec (.portSet r) s = .next (u.respond 0x0301 q stOk []) ∧
        s.Stages u 0x0301 q (fun k => k = cfgKey 0x0301 p ∨ (four ∧ ∃ i, p < i ∧ i < p + 4 ∧ k = cfgKey 0x0301 i)) ∧
        portWords u.stg.staged p = [q.w 4, q.w 5, q.w 6, q.w 7] ∧
        (four → ∀ i, p < i → i < p + 4 → portWords u.stg.staged i = portDefault i))) ∧
  ((∀ (s : State) (r q : Req), s.Accepts 0x0302 r q → q.f 4 31 10 = 0 → q.ExtSize 1 → 4 ≤ q.room →
    let p := q.f 4 9 0
    (isPort (s.portCfg p) p = false → exec (.portStatus r) s = .next (s.respond 0x0302 q stNotFound [])) ∧
    (isPort (s.portCfg p) p = true → ∃ ws : List Word, exec (.portStatus r) s = .next (s.respond 0x0302 q stOk ws) ∧ ws.length = 4 ∧
      fld (wordAt ws 0) 1 0 = (match (s.port p).link with | .disabled => 0 | .down => 1 | .up => 2 | .isolated => 3) ∧
      fld (wordAt ws 0) 5 4 = (if preemptEn (s.portCfg p) p = false then 0 else if verifyDis (s.portCfg p) p then 2 else (s.port p).verify % 4) ∧
      wordAt ws 1 = wd (if portLanes (s.portCfg p) p = 4 then (s.port p).deskew else 0) ∧ wordAt ws 2 = wd (s.port p).lastChange)) ∧
  ∀ (s : State) (r q : Req), s.Accepts 0x0303 r q → q.f 4 31 22 = 0 → q.f 4 9 0 + q.f 4 20 10 ≤ 1024 → q.ExtSize 1 →
    2 + 49 * q.f 4 20 10 ≤ q.room →
    let sh := q.f 4 21 21 = 1
    (sh → s.hif.snapOk = false → exec (.portStatsRead r) s = .next (s.respond 0x0303 q stNotFound [])) ∧
    ((sh → s.hif.snapOk = true) →
      ∃ ws : List Word, exec (.portStatsRead r) s = .next (s.respond 0x0303 q stOk ws) ∧ ws.length = 2 + 49 * q.f 4 20 10 ∧
        wordAt ws 1 = wd (q.f 4 20 10) ∧
        ∀ n j, n < q.f 4 20 10 → j < 24 → isPort (s.portCfg (q.f 4 9 0 + n)) (q.f 4 9 0 + n) = true →
          wordAt ws (3 + 49 * n + 2 * j) = wd (tabGet 0 (if sh then s.shadow else s.ctr) (ckey 1 (q.f 4 9 0 + n) j))))

/-- A port's link by 06 R196, R197 and R208: a Down port of a cell in service comes Up, with the time noted, DESKEW of a
four-lane port, verification begun where preemption is on, and its event; the loss of the link takes an Up port Down
and ends low-power idle; loss of signal and the lane shutdown of a fatal event set the status of the lane's source.

Low-power idle and verification by 06 R200 to R202 and R208: an idle transmitter of an Up port enters and counts it,
the receiver follows its partner; with a frame waiting the transmitter leaves, chooses its frame at that moment and
starts none before LPI_TW has passed (12 R451); the partner's exit wakes the cell; the result of verification is kept,
and a failure is a live condition until a success ends it.

HOLD_BUFFER_STORE by 06 R203 and R204: a frame for a cell that does not run wakes it and is kept with the time of its
first byte, whole, while the buffer of 16 KiB for each lane holds it; else it is dropped and counted. Its fragments
are counted as they are received (06 R213). None is taken once ingress has stopped (log entry 142, DEDUCED), and what
is kept stays while the port is not Up (log entry 134, DESIGN CHOICE). -/
def Obligations.Links : Prop :=
  ((∀ (s : State) (p : Fin 1024) (d : Nat), (s.port p.val).link = .down → (s.port p.val).shut = false →
    isPort (s.portCfg p.val) p.val = true → s.crn.mod = .run → s.fltRuns = true → s.inService (cellOf p.val) = true →
    s.tim.sdsref.getLsbD (p.val / 128) = true →
    ∃ t, exec (.linkUp p d) s = .next t ∧ t = { s with prt := t.prt, flt := t.flt } ∧
      (t.port p.val).link = .up ∧ (t.port p.val).lastChange = s.now ∧
      (t.port p.val).deskew = (if portLanes (s.portCfg p.val) p.val = 4 then d % 65536 else 0) ∧
      (t.port p.val).verify = (if preemptEn (s.portCfg p.val) p.val = false then 0 else if verifyDis (s.portCfg p.val) p.val then 2 else 1) ∧
      t.flt.evt = s.flt.evt ||| srcMask p.val ∧ t.flt.flt = s.flt.flt ∧ ∀ k, k ≠ p.val → t.port k = s.port k) ∧
  (∀ (s : State) (p : Fin 1024), (s.port p.val).link = .up →
    ∃ t, exec (.linkDown p) s = .next t ∧ (t.port p.val).link = .down ∧ (t.port p.val).rxLpi = false ∧ (t.port p.val).txLpi = false ∧
      t.crn = s.crn ∧ t.tim = s.tim ∧ t.stg = s.stg ∧ (t.port p.val).lastChange = s.now ∧
      (s.fltRuns = true → ∀ b, (s.flt.evt ||| srcMask p.val).getLsbD b = true → t.flt.evt.getLsbD b = true)) ∧
  (∀ (s : State) (lane : Fin 1024), s.fltRuns = true →
    let p := portOf (s.portCfg lane.val) lane.val
    (s.port p).link ≠ .disabled → (s.port p).shut = false →
    ∃ t, exec (.lossOfSignal lane) s = .next t ∧ t = { s with flt := t.flt } ∧ t.flt.evt = s.flt.evt ||| srcMask lane.val) ∧
  ∀ (s : State) (p : Fin 1024), s.fltRuns = true → isPort (s.portCfg p.val) p.val = true →
    ∃ t, exec (.laneShutdown p) s = .next t ∧ (t.port p.val).shut = true ∧ (t.port p.val).link ≠ .up ∧
      t.flt.fatal = s.flt.fatal ||| srcMask p.val ∧ t.flt.flt = s.flt.flt ||| srcMask p.val ∧ t.causeOf p.val = true) ∧
  ((∀ (s : State) (p : Fin 1024) (rx : Bool), (s.port p.val).link = .up → lpiPort (s.portCfg p.val) p.val = true →
    (rx = false → (s.port p.val).txLpi = false ∧ s.portIdle p.val = true) →
    ∃ t, exec (.lpiEntry p rx) s = .next t ∧ t = { s with prt := t.prt, ctr := t.ctr, out := t.out } ∧
      (rx = true → t.port p.val = { s.port p.val with rxLpi := true } ∧ t.ctr = s.ctr ∧ t.out = s.out) ∧
      (rx = false → t.port p.val = { s.port p.val with txLpi := true } ∧ t.out = s.out ++ [.lpi p.val true] ∧
        t.count 1 p.val 22 = (s.count 1 p.val 22 + 1) % 2 ^ 64) ∧ ∀ k, k ≠ p.val → t.port k = s.port k) ∧
  (∀ (s : State) (p : Fin 1024), (s.port p.val).txLpi = true → s.portIdle p.val = false →
    ∃ t, t = { s with prt := t.prt, out := s.out ++ [.lpi p.val false] } ∧
      t.port p.val = { s.port p.val with txLpi := false, txReadyAt := s.now + 10 * lpiTw (s.portCfg p.val) p.val } ∧
      (∀ k, k ≠ p.val → t.port k = s.port k) ∧
      exec (.lpiExit p) s = .next (if (s.txOf p.val).isNone then t.chooseTx p.val else t)) ∧
  (∀ (s : State) (p : Fin 1024), (s.port p.val).rxLpi = true → (s.cell (p.val / 16)).st = .doze →
    ∃ t, exec (.partnerLpiExit p) s = .next t ∧ t = { s with prt := t.prt, cel := t.cel, pmu := t.pmu } ∧
      t.port p.val = { s.port p.val with rxLpi := false } ∧ (t.cell (p.val / 16)).st = .waking false) ∧
  ∀ (s : State) (p : Fin 1024) (ok : Bool), (s.port p.val).verify = 1 → s.fltRuns = true →
    ∃ t, exec (.verifyResult p ok) s = .next t ∧ t = { s with prt := t.prt, flt := t.flt } ∧
      t.port p.val = { s.port p.val with verify := if ok then 2 else 3 } ∧
      (ok = false → (p.val, 4) ∈ t.flt.live ∧ t.flt.evt = s.flt.evt ||| srcMask p.val) ∧
      (ok = true → (p.val, 4) ∉ t.flt.live)) ∧
  (∀ (s : State) (p : Fin 1024) (data : List Byte) (bad : Bool) (frags : Nat), (s.port p.val).link = .up → s.running = true →
    s.cellRuns (p.val / 16) = false →
    let room := ((s.port p.val).hold.map (·.data.length)).sum + data.length ≤ 16384 * portLanes (s.portCfg p.val) p.val
    ∃ t, exec (.holdBufferStore p data bad frags) s = .next t ∧ t = { s with prt := t.prt, cel := t.cel, pmu := t.pmu, ctr := t.ctr } ∧
      ((s.cell (p.val / 16)).st = .slumber → (t.cell (p.val / 16)).st = .waking true) ∧
      (room → (t.port p.val).hold = (s.port p.val).hold ++ [{ data := data, ts := s.firstByte p.val data.length, pcsErr := bad }] ∧
        t.count 1 p.val 8 = s.count 1 p.val 8) ∧
      (frags = 0 → room → t.ctr = s.ctr) ∧ (frags ≠ 0 → t.count 1 p.val 10 = (s.count 1 p.val 10 + frags) % 2 ^ 64) ∧
      (¬room → t.prt = s.prt ∧ t.count 1 p.val 8 = (s.count 1 p.val 8 + 1) % 2 ^ 64))

/-! ## Classifier and forwarding tables -/

/-- CLS_PARSER_SET, CLS_BANK_SET, CLS_PROFILE_SET and CLS_PORT_SET by 07 R249 and R252 to R255: the settings are staged,
in every cell named; a bank that holds an entry in a cell named is not changed (REFUSED); a lane that is no port is
answered NOT_FOUND.

CLS_RULE_WRITE, CLS_RULE_DELETE and CLS_RULE_READ by 07 R247 and R256 to R259: an entry is staged in every cell named,
by the bits of CELLS or by AUTO, where the bank has one width (else REFUSED), the entry lies in it and no cell holds
it, nor does an older configuration that still serves (that the staged settings of the bank count is log entry 137,
DEDUCED); a delete needs it staged in every cell named; a read answers the state of the entry and changes nothing.

CLS_METER_SET, CLS_MIRROR_SET and CLS_STATS_READ by 07 R260 to R262: a meter's rates and bursts, and a mirror
session's port and length, are staged in every cell named; the counters of entries, meters or mirror sessions are
answered and nothing changes. -/
def Obligations.Classifier : Prop :=
  ((∀ (s : State) (r q : Req), s.Accepts 0x0401 r q → q.f 4 31 17 = 0 → q.f 4 15 0 ≠ 0 → q.ExtSize 1 →
    ∃ u : State, exec (.clsParserSet r) s = .next (u.respond 0x0401 q stOk []) ∧
      s.Stages u 0x0401 q (fun k => k = cfgKey 0x0401 0) ∧ cfgWords u.stg.staged 0x0401 0 [wd (4789 + 2 ^ 16)] = [q.w 4]) ∧
  (∀ (s : State) (r q : Req), s.Accepts 0x0402 r q → q.f 4 31 13 = 0 → q.f64 5 ≠ 0 → q.ExtSize 3 →
    (q.f 4 5 4 = 0 → q.f 4 12 6 = 0) → (q.f 4 5 4 = 1 → q.f 4 9 8 = 0) → (q.f 4 5 4 = 2 → q.f 4 7 6 < q.f 4 9 8) →
    (q.f 4 5 4 = 3 → q.f 4 9 6 = 0) → (q.f 4 5 4 ≠ 0 → q.f 4 12 10 ≠ 0) →
    let b := q.f 4 3 0
    let changes (c : Nat) : Prop := c < 64 ∧ (q.f64 5).testBit c = true ∧ bankWord s.stg.staged b c ≠ q.w 4
    ((∀ c, ¬changes c) → exec (.clsBankSet r) s = .next (s.respond 0x0402 q stOk [])) ∧
    ((∃ c, changes c) → (∃ c, c < 64 ∧ (q.f64 5).testBit c = true ∧ s.bankBusy b c = true) → exec (.clsBankSet r) s = .next (s.respond 0x0402 q stRefused [])) ∧
    ((∃ c, changes c) → (∀ c, c < 64 → (q.f64 5).testBit c = true → s.bankBusy b c = false) →
      ∃ u : State, exec (.clsBankSet r) s = .next (u.respond 0x0402 q stOk []) ∧
        s.Stages u 0x0402 q (fun k => ∃ c, c < 64 ∧ (q.f64 5).testBit c = true ∧ k = cfgKey 0x0402 (perCell b c)) ∧
        ∀ c, c < 64 → (q.f64 5).testBit c = true → bankWord u.stg.staged b c = q.w 4)) ∧
  (∀ (s : State) (r q : Req), s.Accepts 0x0403 r q → q.size = 21 → q.f 4 31 3 = 0 → q.f 19 31 27 = 0 → q.f 20 31 25 = 0 →
    q.f64 5 ≠ 0 → q.f 19 8 0 ≤ 383 → q.f 19 17 9 ≤ 383 → q.f 19 26 18 ≤ 383 → q.f 20 8 0 ≤ 383 →
    actionBad [q.w 21, q.w 22, q.w 23, q.w 24] = false →
    ∃ u : State, exec (.clsProfileSet r) s = .next (u.respond 0x0403 q stOk []) ∧
      s.Stages u 0x0403 q (fun k => ∃ c, c < 64 ∧ (q.f64 5).testBit c = true ∧ k = cfgKey 0x0403 (perCell (q.f 4 2 0) c)) ∧
      ∀ c, c < 64 → (q.f64 5).testBit c = true →
        profileWords u.stg.staged (q.f 4 2 0) c = q.payload.take 1 ++ two (2 ^ c) ++ q.payload.drop 3) ∧
  ∀ (s : State) (r q : Req), s.Accepts 0x0404 r q → q.f 4 31 31 = 0 → q.ExtSize 1 →
    (isPort s.stg.staged (q.f 4 9 0) = false → exec (.clsPortSet r) s = .next (s.respond 0x0404 q stNotFound [])) ∧
    (isPort s.stg.staged (q.f 4 9 0) = true → ∃ u : State, exec (.clsPortSet r) s = .next (u.respond 0x0404 q stOk []) ∧
      s.Stages u 0x0404 q (fun k => k = cfgKey 0x0404 (q.f 4 9 0)) ∧ clsPortWord u.stg.staged (q.f 4 9 0) = q.w 4)) ∧
  ((∀ (s : State) (r q : Req), s.Accepts 0x0410 r q → q.size = 31 → q.f 4 31 23 = 0 →
    (q.f 4 22 22 = 1 → q.f64 5 = 0) → (q.f 4 22 22 ≠ 1 → q.f64 5 ≠ 0) →
    (∀ i, i < 12 → q.w (7 + i) &&& ~~~ q.w (19 + i) = 0) → actionBad [q.w 31, q.w 32, q.w 33, q.w 34] = false →
    let b := q.f 4 3 0
    let e := q.f 4 13 4
    let l := if q.f 4 22 22 = 1 then autoCells s.stg.staged b else bitsOf 64 (q.f64 5)
    (l = [] → 2 ≤ q.room → exec (.clsRuleWrite r) s = .next (s.respond 0x0410 q stOk [0, 0])) ∧
    (((∃ c ∈ l, bankWidth s.stg.staged b c = 0) ∨ ∃ c ∈ l, ∃ d ∈ l, bankWidth s.stg.staged b c ≠ bankWidth s.stg.staged b d) →
      exec (.clsRuleWrite r) s = .next (s.respond 0x0410 q stRefused [])) ∧
    ∀ w, l ≠ [] → w ≠ 0 → (∀ c ∈ l, bankWidth s.stg.staged b c = w) → e < widthEntries w →
    (∀ i, i < 12 → widthWords w ≤ i → q.w (7 + i) = 0 ∧ q.w (19 + i) = 0) → 2 ≤ q.room →
    ((∃ c ∈ l, s.occupied 0x0410 (ruleObj b e c) = true) → exec (.clsRuleWrite r) s = .next (s.respond 0x0410 q stExists [])) ∧
    ((∀ c ∈ l, s.occupied 0x0410 (ruleObj b e c) = false) →
      ∃ u : State, exec (.clsRuleWrite r) s = .next (u.respond 0x0410 q stOk (two (maskOf l))) ∧
        s.Stages u 0x0410 q (fun k => ∃ c ∈ l, k = cfgKey 0x0410 (ruleObj b e c)) ∧
        ∀ c ∈ l, cfgFind u.stg.staged 0x0410 (ruleObj b e c) =
          some (wd ((q.w 4).toNat % 2 ^ 22) :: two (2 ^ c) ++ q.payload.drop 3))) ∧
  (∀ (s : State) (r q : Req), s.Accepts 0x0411 r q → q.f 4 31 14 = 0 → q.f64 5 ≠ 0 → q.ExtSize 3 →
    let o (c : Nat) := ruleObj (q.f 4 3 0) (q.f 4 13 4) c
    ((∃ c ∈ bitsOf 64 (q.f64 5), cfgFind s.stg.staged 0x0410 (o c) = none) →
      exec (.clsRuleDelete r) s = .next (s.respond 0x0411 q stNotFound [])) ∧
    ((∀ c ∈ bitsOf 64 (q.f64 5), cfgFind s.stg.staged 0x0410 (o c) ≠ none) →
      ∃ u : State, exec (.clsRuleDelete r) s = .next (u.respond 0x0411 q stOk []) ∧
        s.Stages u 0x0411 q (fun k => ∃ c ∈ bitsOf 64 (q.f64 5), k = cfgKey 0x0410 (o c)) ∧
        ∀ c ∈ bitsOf 64 (q.f64 5), cfgFind u.stg.staged 0x0410 (o c) = none)) ∧
  ∀ (s : State) (r q : Req), s.Accepts 0x0412 r q → q.f 4 31 20 = 0 → q.ExtSize 1 → 29 ≤ q.room →
    let o := ruleObj (q.f 4 9 6) (q.f 4 19 10) (q.f 4 5 0)
    let old := ∃ c ∈ s.oldSides (q.f 4 5 0), cfgFind c 0x0410 o ≠ none
    ∃ ws : List Word, exec (.clsRuleRead r) s = .next (s.respond 0x0412 q stOk ws) ∧ ws.length = 29 ∧
      (cfgFind s.stg.cur 0x0410 o = none → cfgFind s.stg.staged 0x0410 o = none → ¬old → fld (wordAt ws 0) 1 0 = 0) ∧
      (cfgFind s.stg.cur 0x0410 o = none → cfgFind s.stg.staged 0x0410 o = none → old →
        fld (wordAt ws 0) 1 0 = 2 ∧ fld (wordAt ws 0) 12 12 = 1) ∧
      (cfgFind s.stg.cur 0x0410 o = none → cfgFind s.stg.staged 0x0410 o ≠ none → fld (wordAt ws 0) 1 0 = 3) ∧
      (cfgFind s.stg.cur 0x0410 o ≠ none → cfgFind s.stg.staged 0x0410 o = none → fld (wordAt ws 0) 1 0 = 2) ∧
      (cfgFind s.stg.cur 0x0410 o ≠ none → cfgFind s.stg.staged 0x0410 o ≠ none → fld (wordAt ws 0) 1 0 = 1)) ∧
  ((∀ (s : State) (r q : Req), s.Accepts 0x0420 r q → q.f 4 31 12 = 0 → q.f 7 31 27 = 0 → q.f 8 31 27 = 0 → q.f 9 31 24 = 0 →
    q.f 10 31 24 = 0 → q.f64 5 ≠ 0 → q.f 7 26 0 ≤ q.f 8 26 0 → q.f 8 26 0 ≤ 100000000 → 64 ≤ q.f 9 23 0 → 64 ≤ q.f 10 23 0 →
    q.ExtSize 7 →
    ∃ u : State, exec (.clsMeterSet r) s = .next (u.respond 0x0420 q stOk []) ∧
      s.Stages u 0x0420 q (fun k => ∃ c, c < 64 ∧ (q.f64 5).testBit c = true ∧ k = cfgKey 0x0420 (perCell (q.f 4 11 0) c)) ∧
      ∀ c, c < 64 → (q.f64 5).testBit c = true →
        meterWords u.stg.staged (q.f 4 11 0) c = q.w 4 :: two (2 ^ c) ++ [q.w 7, q.w 8, q.w 9, q.w 10]) ∧
  (∀ (s : State) (r q : Req), s.Accepts 0x0421 r q → q.f 4 31 27 = 0 → q.f64 5 ≠ 0 →
    (q.f 4 17 17 = 1 → 64 ≤ q.f 4 26 18 ∧ q.f 4 26 18 ≤ 256) → q.ExtSize 3 →
    let absent := q.f 4 16 16 = 1 ∧ isPort s.stg.staged (q.f 4 12 3) = false
    (absent → exec (.clsMirrorSet r) s = .next (s.respond 0x0421 q stNotFound [])) ∧
    (¬absent → ∃ u : State, exec (.clsMirrorSet r) s = .next (u.respond 0x0421 q stOk []) ∧
      s.Stages u 0x0421 q (fun k => ∃ c, c < 64 ∧ (q.f64 5).testBit c = true ∧ k = cfgKey 0x0421 (perCell (q.f 4 2 0) c)) ∧
      ∀ c, c < 64 → (q.f64 5).testBit c = true → mirrorWord u.stg.staged (q.f 4 2 0) c = q.w 4)) ∧
  ∀ (s : State) (r q : Req), s.Accepts 0x0430 r q → q.f 4 31 8 = 0 → q.f 5 31 27 = 0 → q.f 4 7 6 ≠ 3 → q.ExtSize 2 →
    let c := q.f 4 5 0
    let first := q.f 5 12 0
    let n := q.f 5 26 13
    let kind := q.f 4 7 6
    let per := if kind = 0 then 4 else if kind = 1 then 6 else 2
    first + n ≤ (if kind = 0 then 8192 else if kind = 1 then 4096 else 8) → 1 + per * n ≤ q.room →
    ∃ ws : List Word, exec (.clsStatsRead r) s = .next (s.respond 0x0430 q stOk ws) ∧ ws.length = 1 + per * n ∧ wordAt ws 0 = wd n ∧
      (kind = 2 → ∀ i, i < n → wordAt ws (1 + 2 * i) = wd (s.count 5 c (first + i))) ∧
      (kind = 1 → ∀ i k, i < n → k < 3 → wordAt ws (1 + 6 * i + 2 * k) = wd (s.count 4 (c * 4096 + (first + i)) k)) ∧
      (kind = 0 → ∀ i k, i < n → k < 2 → wordAt ws (1 + 4 * i + 2 * k) = wd (s.count 3 (c * 2 ^ 16 + (first + i)) k)))

/-- TBL_VLAN_SET, TBL_PORT_SET, TBL_NEXTHOP_SET, TBL_ROUTER_MAC, TBL_GROUP_SET, TBL_HASH_KEY and TBL_MCAST_SET by 08 R295,
R300 and R301: each stages its object, in every ridge named where it names ridges, and no other.

TBL_L2_WRITE and TBL_ROUTE_WRITE by 08 R284, R296 and R299, for entries that exist and that do not: a delete needs the
entry in every cell named and removes it; a write is answered EXISTS where one is held, and otherwise, while the cells
are below the fill at which an insert always succeeds, stages it in every cell named, and gives it words of the table
there, which are absent no more. Above that fill the rows and buckets that the salts choose decide (08 R272, R282; log
entry 10, DEDUCED). -/
def Obligations.Tables : Prop :=
  ((∀ (s : State) (r q : Req), s.Accepts 0x0501 r q → q.f 4 31 31 = 0 → q.f 5 31 18 = 0 → q.f 4 11 0 ≠ 0 → q.f 4 11 0 ≠ 4095 →
    q.f 5 1 0 ≠ 3 → q.f 5 3 2 ≠ 3 → q.ExtSize 2 →
    (s.img.policy.placePermit.testBit (q.f 5 3 2) = false → exec (.tblVlanSet r) s = .next (s.respond 0x0501 q stRefused [])) ∧
    (s.img.policy.placePermit.testBit (q.f 5 3 2) = true →
      ∃ u : State, exec (.tblVlanSet r) s = .next (u.respond 0x0501 q stOk []) ∧
        s.Stages u 0x0501 q (fun k => k = cfgKey 0x0501 (q.f 4 11 0)) ∧
        cfgWords u.stg.staged 0x0501 (q.f 4 11 0) (vlanDefault (q.f 4 11 0)) = [q.w 4, q.w 5])) ∧
  (∀ (s : State) (r q : Req), s.Accepts 0x0502 r q → q.f 4 31 23 = 0 → q.ExtSize 1 →
    (isPort s.stg.staged (q.f 4 9 0) = false → exec (.tblPortSet r) s = .next (s.respond 0x0502 q stNotFound [])) ∧
    (isPort s.stg.staged (q.f 4 9 0) = true →
      ∃ u : State, exec (.tblPortSet r) s = .next (u.respond 0x0502 q stOk []) ∧
        s.Stages u 0x0502 q (fun k => k = cfgKey 0x0502 (q.f 4 9 0)) ∧ pvid u.stg.staged (q.f 4 9 0) = q.f 4 21 10 ∧
        (portLearn u.stg.staged (q.f 4 9 0) = true ↔ q.f 4 22 22 = 1))) ∧
  (∀ (s : State) (r q : Req), s.Accepts 0x0521 r q → q.f 4 31 17 = 0 → q.f 5 31 28 = 0 → q.f 7 31 16 = 0 →
    destKind (q.f 5 15 0) ≤ 1 → destInRange s.stg.staged (q.f 5 15 0) = true → q.ExtSize 4 →
    ∃ u : State, exec (.tblNexthopSet r) s = .next (u.respond 0x0521 q stOk []) ∧
      s.Stages u 0x0521 q (fun k => k = cfgKey 0x0521 (q.f 4 15 0)) ∧ nextHop u.stg.staged (q.f 4 15 0) = [q.w 4, q.w 5, q.w 6, q.w 7]) ∧
  (∀ (s : State) (r q : Req), s.Accepts 0x0522 r q → q.f 5 31 16 = 0 → (q.w 5).toNat / 256 % 2 = 0 → q.ExtSize 2 →
    ∃ u : State, exec (.tblRouterMac r) s = .next (u.respond 0x0522 q stOk []) ∧
      s.Stages u 0x0522 q (fun k => k = cfgKey 0x0522 0) ∧ routerMac u.stg.staged = q.f64 4) ∧
  (∀ (s : State) (r q : Req), s.Accepts 0x0530 r q → q.f 4 31 20 = 0 → q.f 5 31 8 = 0 → 1 ≤ q.f 4 19 13 → q.f 4 19 13 ≤ 64 →
    q.f 5 7 0 ≠ 0 → (q.f 4 12 12 = 1 → ∀ p ∈ halves q.payload 2 (q.f 4 19 13), isPort s.stg.staged p = true) → q.ExtSize (2 + (q.f 4 19 13 + 1) / 2) →
    ∃ u : State, exec (.tblGroupSet r) s = .next (u.respond 0x0530 q stOk []) ∧
      s.Stages u 0x0530 q (fun k => ∃ d, d < 8 ∧ (q.f 5 7 0).testBit d = true ∧ k = cfgKey 0x0530 (groupObj (q.f 4 11 0) d)) ∧
      ∀ d, d < 8 → (q.f 5 7 0).testBit d = true → (groupIsLag u.stg.staged (q.f 4 11 0) d = true ↔ q.f 4 12 12 = 1) ∧
        groupMembers u.stg.staged (q.f 4 11 0) d = halves q.payload 2 (q.f 4 19 13)) ∧
  (∀ (s : State) (r q : Req), s.Accepts 0x0531 r q → q.f 6 31 8 = 0 → q.f 6 7 0 ≠ 0 → q.ExtSize 3 →
    ∃ u : State, exec (.tblHashKey r) s = .next (u.respond 0x0531 q stOk []) ∧
      s.Stages u 0x0531 q (fun k => ∃ d, d < 8 ∧ (q.f 6 7 0).testBit d = true ∧ k = cfgKey 0x0531 d) ∧
      ∀ d, d < 8 → (q.f 6 7 0).testBit d = true → hashKey u.stg.staged d = q.f64 4) ∧
  ∀ (s : State) (r q : Req), s.Accepts 0x0540 r q → q.f 4 31 21 = 0 → q.f 4 20 14 ≤ 64 → q.ExtSize (1 + (q.f 4 20 14 + 1) / 2) →
    (∀ d ∈ halves q.payload 1 (q.f 4 20 14), destKind d ≤ 1 ∧ destInRange s.stg.staged d = true ∧
      (destKind d = 1 → ∀ k, k < 8 → groupWords s.stg.staged (destId d) k = [] ∨ groupIsLag s.stg.staged (destId d) k = true)) →
    ∃ u : State, exec (.tblMcastSet r) s = .next (u.respond 0x0540 q stOk []) ∧
      s.Stages u 0x0540 q (fun k => k = cfgKey 0x0540 (q.f 4 13 0)) ∧
      mcastMembers u.stg.staged (q.f 4 13 0) = halves q.payload 1 (q.f 4 20 14)) ∧
  ((∀ (s : State) (r q : Req), s.Accepts 0x0510 r q → q.f 4 31 14 = 0 → q.f 4 11 0 ≠ 0 →
    (q.f 4 13 13 = 1 → q.f64 7 = 0) → (q.f 4 13 13 ≠ 1 → q.f64 7 ≠ 0) → q.ExtSize 5 →
    let l := namedCells (q.f 4 13 13 == 1) (q.f64 7)
    let d := q.f 6 31 16
    let key (c : Nat) := l2Obj (q.f 4 11 0) (join (q.w 5) (q.w 6) % 2 ^ 48) c
    (q.f 4 12 12 = 1 → d = 0 →
      ((∃ c ∈ l, cfgFind s.stg.staged 0x0510 (key c) = none) → exec (.tblL2Write r) s = .next (s.respond 0x0510 q stNotFound [])) ∧
      ((∀ c ∈ l, cfgFind s.stg.staged 0x0510 (key c) ≠ none) →
        ∃ u : State, exec (.tblL2Write r) s = .next (u.respond 0x0510 q stOk []) ∧
          s.Stages u 0x0510 q (fun k => ∃ c ∈ l, k = cfgKey 0x0510 (key c)) ∧ ∀ c ∈ l, cfgFind u.stg.staged 0x0510 (key c) = none)) ∧
    (q.f 4 12 12 = 0 → destInRange s.stg.staged d = true →
      (destKind d = 1 → ∀ c ∈ l, groupIsLag s.stg.staged (destId d) (c / 8) = true) →
      let held (c : Nat) : Prop := ∃ side ∈ s.sides c, cfgFind side 0x0510 (key c) ≠ none
      ((∃ c ∈ l, held c) → exec (.tblL2Write r) s = .next (s.respond 0x0510 q stExists [])) ∧
      ((∀ c ∈ l, ¬held c) → (∀ c ∈ l, s.l2Count c < 58982) →
        ∃ u v : State, exec (.tblL2Write r) s = .next (v.respond 0x0510 q stOk []) ∧ v = { u with tbl := v.tbl, flt := v.flt } ∧
          v.tbl = { s.tbl with rowOf := v.tbl.rowOf, absent := v.tbl.absent } ∧ (s.tbl.absent = [] → v.flt = s.flt) ∧
          s.Stages u 0x0510 q (fun k => ∃ c ∈ l, k = cfgKey 0x0510 (key c)) ∧
          ∀ c ∈ l, cfgFind u.stg.staged 0x0510 (key c) = some ([wd (q.f 4 11 0), q.w 5, q.w 6] ++ two (2 ^ c))))) ∧
  ∀ (s : State) (r q : Req), s.Accepts 0x0520 r q → q.f 4 31 15 = 0 → q.f 9 31 19 = 0 → q.ExtSize 8 →
    let fam := q.f 4 4 4
    let len := q.f 4 12 5
    let addr := wordsNat [q.w 5, q.w 6, q.w 7, q.w 8]
    let long := longPrefix fam len = true
    let l := if long then namedCells (q.f 4 13 13 == 1) (q.f64 10) else [64]
    let key (c : Nat) := routeObj (q.f 4 3 0) fam len addr c
    len ≤ famBits fam → (fam = 0 → addr < 2 ^ 32) → addr % 2 ^ (famBits fam - len) = 0 →
    (long → q.f 4 13 13 = 1 → q.f64 10 = 0) → (long → q.f 4 13 13 ≠ 1 → q.f64 10 ≠ 0) → (¬long → q.f64 10 = 0) →
    (q.f 4 14 14 = 1 → q.f 9 18 0 = 0 →
      ((∃ c ∈ l, cfgFind s.stg.staged 0x0520 (key c) = none) → exec (.tblRouteWrite r) s = .next (s.respond 0x0520 q stNotFound [])) ∧
      ((∀ c ∈ l, cfgFind s.stg.staged 0x0520 (key c) ≠ none) →
        ∃ u : State, exec (.tblRouteWrite r) s = .next (u.respond 0x0520 q stOk []) ∧
          s.Stages u 0x0520 q (fun k => ∃ c ∈ l, k = cfgKey 0x0520 (key c)) ∧ ∀ c ∈ l, cfgFind u.stg.staged 0x0520 (key c) = none)) ∧
    (q.f 4 14 14 = 0 → q.f 9 2 0 ≤ 3 → ((q.f 9 2 0 = 0 ∨ q.f 9 2 0 = 3) → q.f 9 18 3 = 0) → (q.f 9 2 0 = 2 → q.f 9 18 3 ≤ 4095) →
      ((∃ c ∈ l, cfgFind s.stg.staged 0x0520 (key c) ≠ none) → exec (.tblRouteWrite r) s = .next (s.respond 0x0520 q stExists [])) ∧
      ((∀ c ∈ l, cfgFind s.stg.staged 0x0520 (key c) = none) → (¬long → s.trieUnits + 1 + fam ≤ 1048576) →
        (long → ∀ c ∈ l, s.longUnits c + 1 + fam ≤ 26214 ∧
          (fam = 1 → (s.v6Lengths c (addr / 2 ^ 112)).length < 8)) →
        ∃ u v : State, exec (.tblRouteWrite r) s = .next (v.respond 0x0520 q stOk []) ∧ v = { u with tbl := v.tbl, flt := v.flt } ∧
          v.tbl = { s.tbl with unitOf := v.tbl.unitOf, absent := v.tbl.absent } ∧ (s.tbl.absent = [] → v.flt = s.flt) ∧
          s.Stages u 0x0520 q (fun k => ∃ c ∈ l, k = cfgKey 0x0520 (key c)) ∧
          ∀ c ∈ l, ∃ w, cfgFind u.stg.staged 0x0520 (key c) = some w ∧ wordAt w 5 = q.w 9)))

/-- TBL_L2_READ, TBL_LOOKUP, TBL_STATS_READ, TBL_L2_FLUSH and TBL_AGE_SET by 08 R297, R298 and R302: a read answers DEST,
the cells with a copy and the last move, or NOT_FOUND; a lookup answers the level, length, TYPE and INDEX of the
longest prefix that the cell finds; a flush removes what it names from the master and says how many dynamic entries
those were, and from the cells by the DEST that each is to hold (what a change that waits for a cell counts as is log
entry 71, DEDUCED); the aging setting acts at once.

Learning rows by 08 R270, R271, R276 and R277: a filter entry leaves 10 ms after the pair entered; a new source is
installed as a master entry at its port, timed, where the placement is permitted and the table has room; an aging pass
clears ACT of an entry that it finds set, and removes from the cell and the master's mask one that it finds clear.
That a new source's DEST is its port is log entry 71 (DEDUCED).

Errors in words of the tables by 08 R291 and 16 R551: a corrected error is counted; an uncorrectable one makes the
word of a table behave as absent, is counted and raises a live event of the unit; in the chunk buffer and the staging
of a Col frame it raises reason 8 of the cell; the ridge controller's rewrite of an absent word makes it present
again, and the event ends with the unit's last absent word. How the words of a table are numbered is log entry 30
(DESIGN CHOICE). -/
def Obligations.TableUpkeep : Prop :=
  ((∀ (s : State) (r q : Req), s.Accepts 0x0512 r q → q.f 4 31 12 = 0 → q.f 6 31 16 = 0 → q.ExtSize 3 → 5 ≤ q.room →
    let fid := q.f 4 11 0
    let mac := join (q.w 5) (q.w 6) % 2 ^ 48
    (∀ c, c < 64 → cfgFind s.stg.cur 0x0510 (l2Obj fid mac c) = none) →
    (s.master fid mac = none → exec (.tblL2Read r) s = .next (s.respond 0x0512 q stNotFound [])) ∧
    (∀ m, s.master fid mac = some m →
      exec (.tblL2Read r) s = .next (s.respond 0x0512 q stOk ([wd m.dest] ++ two m.cells.toNat ++ two m.moved)))) ∧
  (∀ (s : State) (r q : Req), s.Accepts 0x0512 r q → q.f 4 31 12 = 0 → q.f 6 31 16 = 0 → q.ExtSize 3 → 5 ≤ q.room →
    ∀ c w, c < 64 → cfgFind s.stg.cur 0x0510 (l2Obj (q.f 4 11 0) (join (q.w 5) (q.w 6) % 2 ^ 48) c) = some w →
    ∃ ws : List Word, exec (.tblL2Read r) s = .next (s.respond 0x0512 q stOk ws) ∧ ws.length = 5 ∧ (wordAt ws 0).getLsbD 16 = true) ∧
  (∀ (s : State) (r q : Req), s.Accepts 0x0550 r q → q.f 4 31 11 = 0 → q.ExtSize 11 → 3 ≤ q.room →
    let c := s.cellCfg (q.f 4 5 0)
    let addr := if q.f 4 10 10 = 1 then wordsNat [q.w 5, q.w 6, q.w 7, q.w 8] else (q.w 5).toNat
    ∃ ws : List Word, exec (.tblLookup r) s = .next (s.respond 0x0550 q stOk ws) ∧ ws.length = 3 ∧
      match s.routeFind c (q.f 4 5 0) (q.f 4 9 6) (q.f 4 10 10) addr with
      | none => wordAt ws 0 = 0 ∧ wordAt ws 2 = 0x3F
      | some (level, len, ty, idx) => wordAt ws 0 = wd (level + len * 2 ^ 2 + ty * 2 ^ 10 + idx * 2 ^ 13) ∧
          (ty ≠ 1 → ty ≠ 2 → wordAt ws 2 = 0x3F)) ∧
  (∀ (s : State) (r q : Req), s.Accepts 0x0560 r q → q.f 4 31 16 = 0 → q.f 4 6 0 ≤ 71 →
    q.f 4 10 7 + q.f 4 15 11 ≤ (if q.f 4 6 0 < 64 then 16 else 3) → q.ExtSize 1 → 1 + 2 * q.f 4 15 11 ≤ q.room →
    ∃ ws : List Word, exec (.tblStatsRead r) s = .next (s.respond 0x0560 q stOk ws) ∧ ws.length = 1 + 2 * q.f 4 15 11 ∧
      ∀ j, j < q.f 4 15 11 → wordAt ws (1 + 2 * j) =
        wd (if q.f 4 6 0 < 64 then s.count 6 (q.f 4 6 0) (q.f 4 10 7 + j) else s.count 7 (q.f 4 6 0 - 64) (q.f 4 10 7 + j))) ∧
  (∀ (s : State) (r q : Req), s.Accepts 0x0511 r q → q.f 4 15 14 = 0 → q.ExtSize 1 → 1 ≤ q.room →
    let hit (k d : Nat) : Bool := (q.f 4 12 12 == 1 || k / 2 ^ 48 == q.f 4 11 0) && (q.f 4 13 13 == 1 || d == q.f 4 31 16)
    ∃ u : State, exec (.tblL2Flush r) s = .next (u.respond 0x0511 q stOk [wd ((s.tbl.master.filter fun e =>
        hit e.1 e.2.dest).filter fun e => (s.staticMaster (e.1 / 2 ^ 48) (e.1 % 2 ^ 48)).isNone).length]) ∧
      u.tbl.master = s.tbl.master.filter (fun e => !hit e.1 e.2.dest) ∧ u.stg = s.stg ∧
      ∀ e ∈ s.tbl.dyn, hit (e.1 / 64) (s.destAfter e.1 e.2.dest) = true → (s.cell (e.1 % 64)).st = .run →
        (s.cell (e.1 % 64)).resetting = false → tabFind u.tbl.dyn e.1 = none) ∧
  ∀ (s : State) (r q : Req), s.Accepts 0x0513 r q → q.f 4 31 21 = 0 → 10 ≤ q.f 4 19 0 → q.f 4 19 0 ≤ 1000000 → q.ExtSize 1 →
    ∃ u : State, exec (.tblAgeSet r) s = .next (u.respond 0x0513 q stOk []) ∧
      u = { s with stg := u.stg, img := u.img, sup := u.sup } ∧ u.ageWord = q.w 4 ∧ u.stg.cur = s.stg.cur ∧
      u.stg.staged = s.stg.staged ∧ u.stg.flag = s.stg.flag) ∧
  ((∀ (s : State) (c : Fin 64) (fid : Fin 4096) (mac : Nat),
    ∃ t, exec (.learnFilterExpiry c fid mac) s = .next t ∧ t = { s with cel := t.cel } ∧
      (t.cell c.val).filter = (s.cell c.val).filter.filter (fun e =>
        !(e.1 == fid.val && e.2.1 == mac && decide (e.2.2 + 10000000 ≤ s.upNs))) ∧ ∀ d, d ≠ c.val → t.cell d = s.cell d) ∧
  (∀ (s : State) (own : Bool) (r : Report) (rest : List Report), s.crn.fwRuns = true → s.tbl.reports = r :: rest → r.kind = 0 →
    s.master r.fid r.mac = none → s.masterCount < 4194304 →
    s.img.policy.placePermit.testBit r.place = true →
    ∃ t m, exec (.learnReportHandle own) s = .next t ∧ t.tbl.reports = rest ∧ t.master r.fid r.mac = some m ∧ m.dest = r.port ∧
      m.moved = r.time ∧ (∀ b, (s.flt.evt ||| srcMask (1024 + r.cell)).getLsbD b = true → t.flt.evt.getLsbD b = true) ∧ t.stg = s.stg) ∧
  (∀ (s : State) (own : Bool) (r : Report) (rest : List Report), s.crn.fwRuns = true → s.tbl.reports = r :: rest → r.kind = 0 →
    s.master r.fid r.mac = none → (4194304 ≤ s.masterCount ∨ s.img.policy.placePermit.testBit r.place = false) →
    ∃ t, exec (.learnReportHandle own) s = .next t ∧ t.tbl = { s.tbl with reports := rest }) ∧
  ∀ (s : State) (c : Fin 64) (fid : Fin 4096) (mac : Nat) (last own : Bool) (e : DynEntry), (s.cell c.val).st = .run →
    s.crn.fwRuns = true → tabFind s.tbl.dyn (l2Obj fid.val mac c.val) = some e →
    s.l2Gone (l2Obj fid.val mac c.val) false = false →
    ((s.cell c.val).ageRow = 0 → s.ageWord.getLsbD 20 = true) → ((s.cell c.val).ageRow ≠ 0 → (s.cell c.val).ageOn = true) →
    ∃ t, exec (.agingPassRow c fid mac last own) s = .next t ∧
      (e.act = true → tabFind t.tbl.dyn (l2Obj fid.val mac c.val) = some { e with act := false } ∧ t.tbl.master = s.tbl.master) ∧
      (e.act = false → tabFind t.tbl.dyn (l2Obj fid.val mac c.val) = none ∧
        (∀ m, t.master fid.val mac = some m → m.cells.getLsbD c.val = false) ∧
        t.flt.evt = s.flt.evt ||| srcMask (1024 + c.val)) ∧
      (t.cell c.val).ageRow = if last then 0 else (s.cell c.val).ageRow + 1) ∧
  ((∀ (s : State) (u : Fin 72) (table : Fin 16) (index : Nat), (s.scrubs u.val = false ∨ unitTable u.val table.val = false) →
    ∀ e, exec (.tableScrub u table index e) s = .next s) ∧
  (∀ (s : State) (u : Fin 72) (table : Fin 16) (index : Nat), s.scrubs u.val = true → unitTable u.val table.val = true → s.fltRuns = true →
    let src := if u.val < 64 then 1024 + u.val else 1088 + (u.val - 64)
    exec (.tableScrub u table index .clean) s = .next s ∧
    (∃ t, exec (.tableScrub u table index .corrected) s = .next t ∧ t = { s with ctr := t.ctr } ∧
      (u.val < 64 → t.count 6 u.val 11 = (s.count 6 u.val 11 + 1) % 2 ^ 64) ∧
      (64 ≤ u.val → t.count 7 (u.val - 64) 0 = (s.count 7 (u.val - 64) 0 + 1) % 2 ^ 64)) ∧
    ∃ t, exec (.tableScrub u table index .uncorrectable) s = .next t ∧
      (table.val ≠ tChunk → table.val ≠ tStaging → table.val ≠ tHold → table.val ≠ tSummit →
        t = { s with ctr := t.ctr, tbl := t.tbl, flt := t.flt } ∧ t.isAbsent u.val table.val index = true ∧ t.causeOf src = true ∧
        t.flt.evt = s.flt.evt ||| srcMask src ∧ t.flt.flt = s.flt.flt ∧
        (u.val < 64 → t.count 6 u.val 12 = (s.count 6 u.val 12 + 1) % 2 ^ 64) ∧
        (64 ≤ u.val → t.count 7 (u.val - 64) 1 = (s.count 7 (u.val - 64) 1 + 1) % 2 ^ 64)) ∧
      (table.val = tHold → t = s) ∧ (table.val = tSummit → t.count 7 (u.val - 64) 1 = (s.count 7 (u.val - 64) 1 + 1) % 2 ^ 64) ∧
      ((table.val = tChunk ∨ table.val = tStaging) → t.flt.evt.getLsbD (1024 + u.val) = true)) ∧
  ∀ (s : State) (u : Fin 72) (table : Fin 16) (index : Nat) (own : Bool), s.crn.fwRuns = true →
    s.isAbsent u.val table.val index = true →
    ∃ t, exec (.tableWordRestore u table index own) s = .next t ∧ t.isAbsent u.val table.val index = false ∧
      (∀ v x i, t.isAbsent v x i = true → s.isAbsent v x i = true) ∧
      (¬(u.val < 64 ∧ table.val = tL2) → ∀ v x i, (v, x, i) ≠ (u.val, table.val, index) → t.isAbsent v x i = s.isAbsent v x i) ∧
      ((∀ e ∈ s.tbl.absent, e.1 = u.val → e = (u.val, table.val, index)) → ∀ e ∈ t.flt.live, e ≠ eccEvent u.val))

/-! ## Flow store and flow programs -/

/-- FLOW_FORMAT and its end by 09 R345 and R346: outside Run, or with power failing, the command is refused; else the
format runs, its answer waits, and the operations that wait for credits are taken back and their frames leave parking;
once nothing is in flight the store is empty under the new salt, archive size and FORMAT_ID, and the command is
answered. What has to end first, what the end clears beside the records, and a free value for the salt of a command
that gives none are the model's choice (log entries 3 and 76).

FLOW_TEMPLATE_SET, FLOW_ZONE_SET and FLOW_AGE_SET by 09 R309, R315 and R347 to R349: each stages its object and no
other; zone values beyond the policy's limits are refused.

FLOW_ARCHIVE_READ and FLOW_STATS_READ by 09 R337, R343, R352 and R353: the archive records of the numbers asked for
that are still held, after their number and the stack's next number; the items of an engine, cell, ridge, zone or the
store. Where no record is returned, the first one's number is a free value (log entry 3). -/
def Obligations.FlowStoreSettings : Prop :=
  ((∀ (s : State) (r q : Req), s.Accepts 0x0601 r q → q.f 4 31 7 = 0 → q.f 4 5 0 ≤ 48 → q.f 4 5 0 % 4 = 0 →
    (q.f 4 6 6 = 0 → q.f64 5 = 0 ∧ q.f64 7 = 0) → q.ExtSize 5 → 1 ≤ q.room → s.flt.fatal = 0 → s.hif.pend = false → s.flo.formatting = false →
    ((s.inRun = false ∨ s.pfwLow = true) → exec (.flowFormat r) s = .next (s.respond 0x0601 q stRefused [])) ∧
    (s.inRun = true → s.pfwLow = false →
      ∃ t, exec (.flowFormat r) s = .next t ∧ t.crn = s.crn ∧ t.tim = s.tim ∧ t.stg = s.stg ∧ t.tbl = s.tbl ∧
        t.hif.deferred = s.hif.deferred ++ [{ kind := .format, op := 0x0601, req := q }] ∧
        t.flo.formatting = true ∧ t.flo.formatted = s.flo.formatted ∧ t.flo.recs = s.flo.recs ∧ t.flo.cache = s.flo.cache ∧
        t.flo.next.2 = q.f 4 5 0 ∧ (q.f 4 6 6 = 1 → t.flo.next.1 = q.f64 5 + 2 ^ 64 * q.f64 7) ∧
        t.flo.ops = s.flo.ops.filter (fun p => !(s.flo.ops.any fun o => decide (o.place = .credit) && p.cell == o.cell && p.tag == o.tag)) ∧
        ∀ o ∈ s.flo.ops, o.place = .credit → ∀ k ∈ t.frm.parked, k.fid ≠ o.fid)) ∧
  ∀ (s : State) (slots : BitVec 8), s.flo.formatting = true → (∀ o ∈ s.flo.ops, o.place = .done) → s.flo.voids = [] → s.flo.fwOps = [] →
    s.flo.coh = [] → s.prg.comps = [] → s.prg.ctx = [] →
    ∃ t, exec (.flowFormatDone slots) s = .next t ∧
      t = { s with hif := t.hif, out := t.out, flt := t.flt, pmu := t.pmu, flo := t.flo, prg := t.prg } ∧
      t.flo = { s.flo with
        formatted := true, formatting := false, formatId := s.flo.formatId + 1, salt := s.flo.next.1, archiveGib := s.flo.next.2
        recs := [], locked := [], cache := [], archive := [], head := [] } ∧
      t.prg = { s.prg with nat := [], freed := [] } ∧
      ∀ d, (s.hif.deferred.filter fun d => decide (d.kind = .format) && !d.lost) = [d] →
        ∃ u : State, t = u.respond d.op ((s.sees slots).late d.req) stOk [wd (s.flo.formatId + 1)] ∧ u.flo = t.flo ∧
          u.hif = { s.hif with slotOwn := slots, deferred := s.hif.deferred.filter fun d => !decide (d.kind = .format) }) ∧
  ((∀ (s : State) (r q : Req), s.Accepts 0x0602 r q → q.f 4 31 18 = 0 → q.f 4 17 5 ≠ 0 → q.ExtSize 1 →
    (40 < templateLen (q.f 4 17 5) 2 → exec (.flowTemplateSet r) s = .next (s.respond 0x0602 q stInvalid [])) ∧
    (templateLen (q.f 4 17 5) 2 ≤ 40 →
      ∃ u : State, exec (.flowTemplateSet r) s = .next (u.respond 0x0602 q stOk []) ∧
        s.Stages u 0x0602 q (fun k => k = cfgKey 0x0602 (q.f 4 4 0)) ∧ templateFields u.stg.staged (q.f 4 4 0) = q.f 4 17 5)) ∧
  (∀ (s : State) (r q : Req), s.Accepts 0x0603 r q → q.f 4 31 14 = 0 → q.f 5 31 29 = 0 → q.f 7 31 24 = 0 → q.f 5 28 0 ≤ 268435456 →
    (q.w 6).toNat ≤ 1280000000 → 128 ≤ q.f 7 23 0 → (s.flo.archiveGib = 0 → q.f 4 13 12 < 2) → q.ExtSize 4 →
    let p := s.img.policy
    let within := q.f 5 28 0 ≤ p.quotaMax ∧ (q.w 6).toNat ≤ p.rateMax ∧ q.f 7 23 0 ≤ p.burstMax
    (¬within → exec (.flowZoneSet r) s = .next (s.respond 0x0603 q stRefused [])) ∧
    (within → ∃ u : State, exec (.flowZoneSet r) s = .next (u.respond 0x0603 q stOk []) ∧
      s.Stages u 0x0603 q (fun k => k = cfgKey 0x0603 (q.f 4 11 0)) ∧
      cfgWords u.stg.staged 0x0603 (q.f 4 11 0) (coldZoneWords (q.f 4 11 0) s.stg.coldZone) = [q.w 4, q.w 5, q.w 6, q.w 7])) ∧
  ∀ (s : State) (r q : Req), s.Accepts 0x0604 r q → q.f 4 31 4 = 0 → q.f 5 31 17 = 0 → 1 ≤ q.f 5 16 0 → q.f 5 16 0 ≤ 86400 →
    q.ExtSize 2 →
    ∃ u : State, exec (.flowAgeSet r) s = .next (u.respond 0x0604 q stOk []) ∧
      s.Stages u 0x0604 q (fun k => k = cfgKey 0x0604 (q.f 4 3 0)) ∧
      cfgWords u.stg.staged 0x0604 (q.f 4 3 0) [wd (q.f 4 3 0), wd (s.stg.coldAging.getD (q.f 4 3 0) 300)] = [q.w 4, q.w 5]) ∧
  ((∀ (s : State) (r q : Req), s.Accepts 0x0620 r q → q.f 4 31 15 = 0 → q.f 4 14 2 ≤ 4096 → q.ExtSize 3 →
    (s.storeAway = true → exec (.flowArchiveRead r) s = .next (s.respond 0x0620 q stRefused [])) ∧
    (s.storeAway = false → s.flo.archiveGib = 0 → exec (.flowArchiveRead r) s = .next (s.respond 0x0620 q stNotFound [])) ∧
    (s.storeAway = false → s.flo.archiveGib ≠ 0 →
      let k := q.f 4 1 0
      let head := tabGet 0 s.flo.head k
      let first := max (q.f64 5) (head - s.archiveCap)
      let l := ((List.range (q.f 4 14 2)).filter fun i => decide (first ≤ q.f64 5 + i ∧ q.f64 5 + i < head)).map fun i =>
        tabGet [] s.flo.archive (k * 2 ^ 32 + (q.f64 5 + i) % s.archiveCap)
      5 + l.flatten.length ≤ q.room →
      ∃ (u : State) (a : List Word), exec (.flowArchiveRead r) s =
          .next (u.respond 0x0620 q stOk (wd l.length :: (two head ++ a ++ l.flatten))) ∧
        u = { s with draw := u.draw } ∧ a.length = 2 ∧ (l ≠ [] → a = two first))) ∧
  ∀ (s : State) (r q : Req), s.Accepts 0x0630 r q → q.f 4 31 25 = 0 → q.f 4 2 0 ≤ 4 →
    q.f 4 14 3 < [128, 64, 8, 4096, 1].getD (q.f 4 2 0) 0 → q.f 4 19 15 + q.f 4 24 20 ≤ [20, 5, 4, 4, 3].getD (q.f 4 2 0) 0 →
    q.ExtSize 1 → 1 + 2 * q.f 4 24 20 ≤ q.room →
    ∃ ws : List Word, exec (.flowStatsRead r) s = .next (s.respond 0x0630 q stOk ws) ∧ ws.length = 1 + 2 * q.f 4 24 20 ∧
      ∀ j, j < q.f 4 24 20 → wordAt ws (1 + 2 * j) = wd (s.flowItem (q.f 4 2 0) (q.f 4 14 3) (q.f 4 19 15 + j)) ∧
        wordAt ws (2 + 2 * j) = wd (s.flowItem (q.f 4 2 0) (q.f 4 14 3) (q.f 4 19 15 + j) / 2 ^ 32))

/-- FLOW_READ and FLOW_DELETE by 09 R345 and R350: an accepted one is given to the record's home as an operation of
firmware, and its answer comes from there; with the store away it is refused. It takes one of its engine's 16 tags,
and where all are out, a seventeenth waits for a credit and is not at its engine (09 R320). The number of one that
waits and the order of those that wait are the model's choice (log entries 110 and 112).

READ and DELETE at the home by 09 R330, R340, R341 and R350: a record that no ridge holds is answered with its image,
and a delete frees its slot; one that ridges hold is locked and collected from them first; an absent key is answered
NOT_FOUND, or POISON where a quarantined slot may have held it; an image without room is answered NO_SPACE and changes
no record (04 R601). An operation behind one of equal H, or whose record is busy or whose engine has no context for
it, waits (09 R311; 10 R355). The operation that waited for the credit takes it (09 R320). The answer of an image
without room, the corrected bursts as an operand, and how those that wait take their turn are the model's choice (log
entries 37, 110, 112 and 127). -/
def Obligations.HomeReadsAndDeletes : Prop :=
  (∀ (s : State) (delete : Bool) (r q : Req),
    let op := if delete then 0x0611 else 0x0610
    let c := if delete then Instr.flowDelete r else Instr.flowRead r
    s.Accepts op r q → q.size = 12 → q.f 4 31 1 = 0 →
    (q.f 4 0 0 = 1 → q.f 5 31 28 = 0 ∧ ∀ i, i < 10 → q.w (6 + i) = 0) →
    (q.f 4 0 0 = 0 → q.f 5 31 20 = 0 ∧
      ∀ b ∈ (wordsToBytes ((List.range 10).map fun i => q.w (6 + i))).drop (typeLen s.stg.cur (q.f 5 19 12)), b = 0) →
    (s.storeAway = true → exec c s = .next (s.respond op q stRefused [])) ∧
    (s.storeAway = false →
      ∃ t o, exec c s = .next t ∧ t = { s with flo := { s.flo with fwOps := s.flo.fwOps ++ [o], seq := s.flo.seq + 1 } } ∧
        o.req = q ∧ o.delete = delete ∧ o.lost = false ∧ o.ord = s.flo.seq + 1 ∧
        (∀ x ∈ s.flo.fwOps, ¬(x.engine = o.engine ∧ x.tag = o.tag)) ∧
        ((∃ i, i < 16 ∧ ∀ x ∈ s.flo.fwOps, x.engine = o.engine → x.tag ≠ i) → o.tag < 16) ∧
        ((∀ i, i < 16 → ∃ x ∈ s.flo.fwOps, x.engine = o.engine ∧ x.tag = i) → 16 ≤ o.tag ∧ t.atHome = s.atHome) ∧
        (q.f 4 0 0 = 1 → o.byHandle = true ∧ o.handle = q.f 5 27 0 ∧ o.engine = q.f 5 27 0 / 2 ^ 21) ∧
        (q.f 4 0 0 = 0 → o.byHandle = false ∧ o.engine = homeOf (s.hashKey (msgKey o.msg o.keyLen)) ∧
          (msgKey o.msg o.keyLen).zone = q.f 5 11 0 ∧ (msgKey o.msg o.keyLen).keyType = q.f 5 19 12 ∧
          (msgKey o.msg o.keyLen).bytes = wordsToBytes ((List.range 10).map fun i => q.w (6 + i))))) ∧
  (∀ (s : State) (e : Fin 128) (tag : Fin 16) (fixed : Nat) (slots : BitVec 8) (delete : Bool) (o : FwOp),
    let c := if delete then Instr.delete e tag none fixed slots else Instr.read e tag none fixed slots
    let rq := (s.sees slots).late o.req
    let op := if delete then 0x0611 else 0x0610
    let k := msgKey o.msg o.keyLen
    let at_ := if o.byHandle then (s.recOf o.handle).map fun _ => o.handle else s.findRec k
    (s.flo.fwOps.find? fun o => o.engine == e.val && o.tag == tag.val && o.delete == delete) = some o → o.delete = delete →
    o.lost = false →
    let credit (u : State) : Prop :=
      (∀ w ∈ s.flo.fwOps, w.engine = o.engine → w.tag = 16 →
        { w with tag := o.tag, msg := putTag w.msg o.tag, ord := s.flo.seq + 1 } ∈ u.flo.fwOps) ∧
      ∀ w ∈ s.flo.fwOps, w.engine ≠ o.engine → w ∈ u.flo.fwOps
    (((∃ k, s.fwKey o = some k ∧ s.behind o.ord e.val k = true) ∨ s.contextOpen e.val 0 = false ∨ ∃ h, at_ = some h ∧ s.recBusy h = true) →
      exec c s = .next (s.sees slots)) ∧
    ((∀ k, s.fwKey o = some k → s.behind o.ord e.val k = false) → s.contextOpen e.val 0 = true →
    (at_ = none → (o.byHandle = true → s.recBusy o.handle = false) → ∃ u : State, exec c s = .next (u.respond op rq (if o.byHandle = false ∧ s.poisoned k = true then stPoison else stNotFound) []) ∧
      u = { s with hif := { s.hif with slotOwn := slots }, flo := { s.flo with fwOps := u.flo.fwOps, seq := s.flo.seq + 1 }
                   pmu := u.pmu, ctr := (s.bump 8 e.val 13 fixed).ctr, draw := u.draw } ∧ credit u ∧
      ((∀ x ∈ s.flo.fwOps, x.engine = o.engine → x.tag < 16) →
        u.flo.fwOps = s.flo.fwOps.filter fun x => !(x.engine == o.engine && x.tag == o.tag))) ∧
    ∀ h r, at_ = some h → s.recOf h = some r → s.recBusy h = false →
      (o.req.room < 34 → r.quarantined = false → ∃ u : State, exec c s = .next (u.respond op rq stNoSpace [34]) ∧
        u = { s with hif := { s.hif with slotOwn := slots }, flo := { s.flo with fwOps := u.flo.fwOps, seq := s.flo.seq + 1 }
                     pmu := u.pmu, ctr := (s.bump 8 e.val 13 fixed).ctr, draw := u.draw } ∧ credit u) ∧
      (34 ≤ o.req.room → r.presence = 0 → r.quarantined = false → ∃ u : State, exec c s = .next (u.respond op rq stOk ([wd h, 0] ++ r.image)) ∧
        u = { s with hif := { s.hif with slotOwn := slots }, flo := u.flo, pmu := u.pmu, ctr := u.ctr, prg := u.prg, draw := u.draw } ∧
        (delete = false → u.flo.recs = s.flo.recs ∧ u.ctr = (s.bump 8 e.val 13 fixed).ctr ∧ u.prg = s.prg) ∧
        (delete = true → u.recOf h = none ∧ (∀ j, j ≠ h → u.recOf j = s.recOf j) ∧
          u.count 8 (engineOf h) 10 = (s.count 8 (engineOf h) 10 + 1) % 2 ^ 64)) ∧
      (r.presence = 0 → r.quarantined = true → o.byHandle = true → delete = false →
        ∃ u : State, exec c s = .next (u.respond op rq stPoison []) ∧ u.flo.recs = s.flo.recs) ∧
      (34 ≤ o.req.room → r.presence = 0 → r.quarantined = true → o.byHandle = true → delete = true →
        ∃ u : State, exec c s = .next (u.respond op rq stOk ([wd h, 0] ++ r.image)) ∧ u.recOf h = none) ∧
      (34 ≤ o.req.room → r.presence ≠ 0 → ∃ t, exec c s = .next t ∧
        t = { s with hif := { s.hif with slotOwn := slots }, flo := t.flo, pmu := t.pmu, ctr := t.ctr, draw := t.draw } ∧
        t.flo.recs = s.flo.recs ∧ (∃ k, tabFind t.flo.locked h = some k ∧ k.left = r.presence ∧ k.all = r.presence) ∧
        t.flo.coh = s.flo.coh ++ (bitsOf 8 r.presence.toNat).map fun i => { kind := if delete then 0 else 1, ridge := i, handle := h, ord := s.flo.seq + 1 })))

/-- FLOW_ZONE_FLUSH and its end by 09 R351: the records of the zone that no ridge holds leave at once, records of other
zones stay, and the zone admits no creation until the last is gone; then the command is answered with how many were
removed.

SWEEP_VISIT and DRAM_SCRUB by 09 R331, R332, R334, R339 and R340: an expired record that no ridge holds leaves, with
its export and reason idle; one that ridges hold is collected first (log entry 75 for the counts); one that is not
expired stays; the sweeper goes on behind the slot; a corrected error is counted; an uncorrectable burst quarantines
its record, invalidates every ridge and raises a degraded event; one that holds no record raises that of a group of
its stack and what lay there is lost. What a burst holds is an operand, and which of the stack's engines counts a
corrected one, or which group raises the event, is a free value where no record lies there (log entry 37); the
sweeper's way to a slot passes those before it (log entry 111). -/
def Obligations.FlowUpkeep : Prop :=
  ((∀ (s : State) (r q : Req), s.Accepts 0x0612 r q → q.f 4 31 12 = 0 → q.ExtSize 1 → 1 ≤ q.room →
    (s.storeAway = true → exec (.flowZoneFlush r) s = .next (s.respond 0x0612 q stRefused [])) ∧
    (s.storeAway = false → ∃ t n, exec (.flowZoneFlush r) s = .next t ∧
      t = { s with hif := t.hif, flo := t.flo, prg := t.prg, ctr := t.ctr } ∧ t.flo.flushing.contains (q.f 4 11 0) = true ∧
      t.hif.deferred.getLast? = some { kind := .zoneFlush (q.f 4 11 0) n, op := 0x0612, req := q } ∧
      n + (t.zoneRecords (q.f 4 11 0)).length = (s.zoneRecords (q.f 4 11 0)).length ∧
      (∀ h x, h ∈ s.zoneRecords (q.f 4 11 0) → s.recOf h = some x → x.presence = 0 → s.recBusy h = false → t.recOf h = none) ∧
      ∀ h, h ∉ s.zoneRecords (q.f 4 11 0) → t.recOf h = s.recOf h)) ∧
  ∀ (s : State) (z : Fin 4096) (slots : BitVec 8), s.flo.flushing.contains z.val = true →
    (∀ h ∈ s.zoneRecords z.val, ∃ x, s.recOf h = some x ∧ x.presence = 0 ∧ s.recBusy h = false) →
    ∃ t, exec (.zoneFlushDone z slots) s = .next t ∧ t.flo.flushing = s.flo.flushing.filter (fun y => y != z.val) ∧
      (∀ h ∈ s.zoneRecords z.val, t.recOf h = none) ∧ (∀ h, h ∉ s.zoneRecords z.val → t.recOf h = s.recOf h) ∧
      (∀ d ∈ t.hif.deferred, ∀ n, d.kind ≠ .zoneFlush z.val n) ∧
      ∀ d n, s.hif.deferred = [d] → d.kind = .zoneFlush z.val n → d.lost = false → s.zoneRecords z.val = [] →
        ∃ u : State, t = u.respond d.op ((s.sees slots).late d.req) stOk [wd n]) ∧
  ((∀ (s : State) (h : Fin 268435456) (ecc : EccSeen), s.enginesRun = true → s.flo.formatted = true → s.recBusy h.val = false →
    ∃ t, exec (.sweepVisit h ecc) s = .next t ∧ tabGet 0 t.flo.sweep (engineOf h.val) = (h.val % 2 ^ 21 + 1) % 2 ^ 21 ∧
      ∀ e, e ≠ engineOf h.val → tabGet 0 t.flo.sweep e = tabGet 0 s.flo.sweep e) ∧
  (∀ (s : State) (h : Fin 268435456) (r : Rec), s.enginesRun = true → s.flo.formatted = true → s.recBusy h.val = false →
    s.sweepWay h.val = [] → s.recOf h.val = some r → r.quarantined = false →
    (s.expired r = false → ∃ t, exec (.sweepVisit h .clean) s = .next t ∧
      t = { s with flo := { s.flo with sweep := t.flo.sweep }, pmu := t.pmu }) ∧
    (s.expired r = false → ∃ t, exec (.sweepVisit h .corrected) s = .next t ∧
      t = { s with flo := { s.flo with sweep := t.flo.sweep }, pmu := t.pmu, ctr := t.ctr } ∧
      t.count 8 (engineOf h.val) 13 = (s.count 8 (engineOf h.val) 13 + 1) % 2 ^ 64) ∧
    (s.expired r = true → r.presence ≠ 0 → ∃ t, exec (.sweepVisit h .clean) s = .next t ∧
      t = { s with flo := { s.flo with coh := t.flo.coh, locked := t.flo.locked, seq := t.flo.seq, sweep := t.flo.sweep }
                   pmu := t.pmu, ctr := t.ctr } ∧
      tabFind t.flo.locked h.val = some { left := r.presence, all := r.presence, why := .sweep } ∧
      t.flo.coh = s.flo.coh ++ (bitsOf 8 r.presence.toNat).map fun i => { kind := 1, ridge := i, handle := h.val, ord := s.flo.seq + 1 }) ∧
    (s.expired r = true → r.presence = 0 → ∃ t, exec (.sweepVisit h .clean) s = .next t ∧
      t = { s with flo := { s.flo with recs := t.flo.recs, locked := t.flo.locked, evq := t.flo.evq, arq := t.flo.arq, sweep := t.flo.sweep }
                   pmu := t.pmu, ctr := t.ctr, prg := t.prg } ∧
      t.recOf h.val = none ∧ (∀ j, j ≠ h.val → t.recOf j = s.recOf j) ∧
      t.count 8 (engineOf h.val) 8 = (s.count 8 (engineOf h.val) 8 + 1) % 2 ^ 64 ∧
      let x : Export := { archive := r.archive 0, handle := h.val, time := s.now }
      let dest := (s.zoneSet r.zone).2.2.2
      let q := tabGet [] s.flo.evq (engineOf h.val)
      tabGet [] t.flo.evq (engineOf h.val) = (if dest % 2 = 1 ∧ q.length < 1024 then q ++ [x] else q) ∧
      let a := tabGet [] s.flo.arq (engineOf h.val)
      tabGet [] t.flo.arq (engineOf h.val) = if dest / 2 % 2 = 1 ∧ s.flo.archiveGib ≠ 0 ∧ a.length < 1024 then a ++ [x] else a) ∧
    ∃ t, exec (.sweepVisit h .uncorrectable) s = .next t ∧ t.recOf h.val = some quarantinedRec ∧ (∀ j, j ≠ h.val → t.recOf j = s.recOf j) ∧
      t.flo.coh = s.flo.coh ++ ((List.range 8).map fun i => { kind := 0, ridge := i, handle := h.val, ord := s.flo.seq + 1 }) ∧
      t.flt.evt = s.flt.evt ||| (if s.fltRuns then srcMask (stackSource (engineOf h.val)) else 0)) ∧
  ∀ (s : State) (stack : Fin 4) (burst : Fin (2 ^ 29)) (what : Burst), s.enginesRun = true →
    exec (.dramScrub stack burst what .clean) s = .next s ∧
    (∃ t e, exec (.dramScrub stack burst what .corrected) s = .next t ∧ t = { s with ctr := t.ctr, draw := t.draw } ∧
      t.count 8 e 13 = (s.count 8 e 13 + 1) % 2 ^ 64 ∧
      (∀ h, what = .record h → e = engineOf h.val) ∧ ((∀ h, what ≠ .record h) → e < 128 ∧ e / 32 = stack.val)) ∧
    (∀ (h : Fin 268435456) (r : Rec), what = .record h → h.val / 2 ^ 26 = stack.val → s.recOf h.val = some r → r.quarantined = false →
      ∃ t, exec (.dramScrub stack burst what .uncorrectable) s = .next t ∧ t.recOf h.val = some quarantinedRec ∧
        (∀ j, j ≠ h.val → t.recOf j = s.recOf j) ∧
        t.flo.coh = s.flo.coh ++ ((List.range 8).map fun i => { kind := 0, ridge := i, handle := h.val, ord := s.flo.seq + 1 })) ∧
    ((∀ h, what ≠ .record h) → s.fltRuns = true →
      ∃ t k, exec (.dramScrub stack burst what .uncorrectable) s = .next t ∧ k < 4 ∧ t.flo.recs = s.flo.recs ∧
        t.flt.evt = s.flt.evt ||| srcMask (1096 + 4 * stack.val + k) ∧
        (∀ n, what = .archive n → (tabFind s.flo.archive (stack.val * 2 ^ 32 + n)).isSome = true →
          tabFind t.flo.archive (stack.val * 2 ^ 32 + n) = some (List.replicate 16 0xFFFFFFFF)) ∧
        ∀ fid mac, what = .master fid mac → tabFind t.tbl.master (l2Key fid.val mac) = none))

/-- CACHE_LOOKUP by 09 R319 and R324 to R326: the next OPERATE of its route is answered by an entry of its key, epoch and
program, which counts it, or goes on to its home with nothing counted; a VOID is taken off an entry that holds its
key, or goes on. That a message waits for the earlier ones of its route by their numbers is read from R319 (log entry
110).

INVALIDATE, COLLECT, ACK, FLUSH and RELEASE by 09 R326 to R329: a ridge answers with its deltas and drops its entry or
zeroes it, or says that it has none; the home adds the deltas to the record once all that the ridge sent it before has
been taken, and clears the ridge's bit when its entry is gone. The turn of a message by its number is read from R319
(log entry 110), and that no word stays leased when the last ridge leaves is the model's choice (log entry 32). -/
def Obligations.RidgeCaches : Prop :=
  ((∀ (s : State) (c : Fin 64) (tag : Fin 256) (o : Op),
    (s.flo.ops.find? fun p => p.cell == c.val && p.tag == tag.val && decide (p.place = .cache)) = some o →
    s.nextAtCache (ridgeOf c.val) (o.engine / 32) o.ord = true →
    let r := ridgeOf c.val
    let k := msgKey o.msg o.keyLen
    let hit := (s.cacheOf r).find? fun x => x.holds k && x.epoch == msgEpoch o.msg && x.program == msgProgram o.msg
    (hit = none → ∃ t, exec (.cacheLookup c tag false false) s = .next t ∧ 
      t = { s with flo := { s.flo with ops := t.flo.ops, seq := s.flo.seq + 1 }, pmu := t.pmu } ∧
      t.flo.ops = (s.flo.ops.filter fun p => !(p.cell == c.val && p.tag == tag.val)) ++ [{ o with place := .home, ord := s.flo.seq + 1 }]) ∧
    ∀ x, hit = some x → ∃ t, exec (.cacheLookup c tag false false) s = .next t ∧
      t = { s with flo := { s.flo with ops := t.flo.ops, cache := t.flo.cache, coh := t.flo.coh, seq := t.flo.seq }, pmu := t.pmu, ctr := t.ctr } ∧
      (∀ p ∈ t.flo.ops, p.cell = c.val → p.tag = tag.val → p.place = .done ∧ p.result = resultWords tag.val c.val 0 0 0 1 x.handle x.y) ∧
      t.count 10 r 0 = (s.count 10 r 0 + 1) % 2 ^ 64 ∧
      let y : CacheEntry := { x with dpkts := x.dpkts + 1, dbytes := x.dbytes + msgLength o.msg, latest := max x.latest (msgTime o.msg) }
      (y.dpkts < 65536 → t.cacheOf r = ((s.cacheOf r).filter fun z => z.handle != x.handle) ++ [y] ∧ t.flo.coh = s.flo.coh) ∧
      (65536 ≤ y.dpkts → t.cacheOf r = ((s.cacheOf r).filter fun z => z.handle != x.handle) ++ [y.zeroed] ∧
        t.flo.coh = s.flo.coh ++ [{ y.deltas 4 r with ord := s.flo.seq + 1 }])) ∧
  ∀ (s : State) (c : Fin 64) (tag : Fin 256) (v : VoidMsg) (rest : List VoidMsg),
    takeFirst (fun v => v.cell == c.val && s.sentVoid v && s.nextAtCache (ridgeOf c.val) (s.voidHome v / 32) v.ord) s.flo.voids =
      some (v, rest) →
    let r := ridgeOf c.val
    let held := (s.cacheOf r).find? fun x => x.holds (msgKey v.msg v.keyLen)
    ∃ t, exec (.cacheLookup c tag true false) s = .next t ∧
      t = { s with flo := { s.flo with voids := t.flo.voids, cache := t.flo.cache, coh := t.flo.coh, seq := t.flo.seq }, pmu := t.pmu, ctr := t.ctr } ∧
      (held = none → t.flo.voids = rest ++ [{ v with passed := true, ord := s.flo.seq + 1 }] ∧ t.flo.cache = s.flo.cache) ∧
      ∀ x, held = some x → x.dpkts ≤ 65536 → t.flo.voids = rest ∧ t.cacheOf r = ((s.cacheOf r).filter fun z => z.handle != x.handle) ++
        [{ x with dpkts := x.dpkts - 1, dbytes := x.dbytes - msgLength v.msg }]) ∧
  ((∀ (s : State) (r : Fin 8) (h : Fin 268435456) (m : Coh) (rest : List Coh),
    takeFirst (fun m : Coh => m.ridge == r.val && m.handle / 2 ^ 26 == h.val / 2 ^ 26 && decide (m.kind < 2)) s.flo.coh = some (m, rest) →
    m.handle = h.val →
    let c := if m.kind = 0 then Instr.invalidate r h else Instr.collect r h
    let held := (s.cacheOf r.val).find? fun x => x.handle == h.val
    ∃ t, exec c s = .next t ∧ t = { s with flo := { s.flo with coh := t.flo.coh, cache := t.flo.cache, seq := s.flo.seq + 1 }, pmu := t.pmu } ∧
      (held = none → t.flo.cache = s.flo.cache ∧
        t.flo.coh = rest ++ [{ kind := 2, ridge := r.val, handle := h.val, empty := true, ord := s.flo.seq + 1 }]) ∧
      ∀ x, held = some x → t.flo.coh = rest ++ [{ x.deltas 2 r.val with ord := s.flo.seq + 1 }] ∧
        t.cacheOf r.val = if m.kind = 0 then (s.cacheOf r.val).filter (fun y => y.handle != h.val)
          else (s.cacheOf r.val).map fun y => if y.handle = h.val then y.zeroed else y) ∧
  (∀ (s : State) (r : Fin 8) (h : Fin 268435456) (slots : BitVec 8) (m : Coh) (rest : List Coh) (q : Rec),
    takeFirst (fun m : Coh => m.ridge == r.val && m.handle == h.val && decide (2 ≤ m.kind)) s.flo.coh = some (m, rest) →
    s.recOf h.val = some q → q.quarantined = false → tabFind s.flo.locked h.val = none →
    s.routeClear r.val (engineOf h.val) m.ord = true →
    let c := if m.kind = 2 then Instr.ack r h slots else if m.kind = 3 then .release r h slots else .flush r h slots
    m.kind ≤ 4 →
    ∃ t, exec c s = .next t ∧ t = { s with hif := { s.hif with slotOwn := slots }, flo := t.flo } ∧ t.flo.coh = rest ∧ t.flo.cache = s.flo.cache ∧ (∀ j, j ≠ h.val → t.recOf j = s.recOf j) ∧
      t.recOf h.val = some (if m.kind = 3 ∨ (m.kind = 2 ∧ m.empty = true) then (q.absorb m).clearRidge r.val else q.absorb m)) ∧
  (∀ (s : State) (r : Fin 8) (h : Fin 268435456) (slots : BitVec 8) (m : Coh) (rest : List Coh) (q : Rec) (k : Lock),
    takeFirst (fun m : Coh => m.ridge == r.val && m.handle == h.val && decide (2 ≤ m.kind)) s.flo.coh = some (m, rest) → m.kind = 2 →
    s.recOf h.val = some q → q.quarantined = false → tabFind s.flo.locked h.val = some k → k.why = .write →
    s.routeClear r.val (engineOf h.val) m.ord = true →
    let left := k.left &&& ~~~ BitVec.ofNat 8 (2 ^ r.val)
    ∃ t, exec (.ack r h slots) s = .next t ∧ t = { s with hif := { s.hif with slotOwn := slots }, flo := t.flo } ∧ t.flo.coh = rest ∧ t.recOf h.val = some ((q.absorb m).clearRidge r.val) ∧
      (left ≠ 0 → tabFind t.flo.locked h.val = some { k with left := left }) ∧
      (left = 0 → tabFind t.flo.locked h.val = none)) ∧
  ∀ (s : State) (r : Fin 8) (h : Fin 268435456) (slots : BitVec 8) (x : CacheEntry) (q : Rec),
    (∀ m ∈ s.flo.coh, m.ridge = r.val → m.handle = h.val → m.kind < 2) →
    ((s.cacheOf r.val).find? fun x => x.handle == h.val && decide (x.dpkts ≠ 0 ∨ x.dbytes ≠ 0 ∨ x.latest ≠ 0)) = some x →
    s.recOf h.val = some q → q.quarantined = false → tabFind s.flo.locked h.val = none →
    ∃ t, exec (.flush r h slots) s = .next t ∧
      t = { s with hif := { s.hif with slotOwn := slots }, flo := t.flo, pmu := t.pmu, ctr := t.ctr } ∧
      (s.routeClear r.val (engineOf h.val) (s.flo.seq + 1) = false →
        t.flo.coh = s.flo.coh ++ [{ x.deltas 4 r.val with ord := s.flo.seq + 1 }] ∧ t.flo.recs = s.flo.recs) ∧
      (s.routeClear r.val (engineOf h.val) (s.flo.seq + 1) = true →
        t.flo.coh = s.flo.coh ∧ t.recOf h.val = some (q.absorb (x.deltas 4 r.val))) ∧
      t.cacheOf r.val = ((s.cacheOf r.val).map fun y => if y.handle = h.val then y.zeroed else y) ∧
      (∀ j, j ≠ h.val → t.recOf j = s.recOf j) ∧
      t.count 10 r.val 3 = (s.count 10 r.val 3 + 1) % 2 ^ 64)

/-- OPERATE at its home on a key that it finds, by 09 R317 and R318 and 10 R358: the record counts the frame before its
program runs, and the result has STATUS HIT, its handle and what the run left in Y2 to Y7; a program of length 0
changes nothing else of the record. One that finds no context takes its place among those that wait (10 R356). The
bursts that the stack corrected are an operand, as the model chooses (log entries 37 and 127).

OPERATE at its home where it finds no record, by 09 R312, R314, R317, R318, R341 and R345: the program creates the
record and runs on it, is refused by its zone, or runs without one; POISON, UNFORMATTED and STALE run nothing. None of
them changes another record. A new record takes the lowest free slot of its first bucket, else of its second; where
both are full, records move along the path that the model finds, each to its other bucket and unchanged, and the new
one takes the slot that came free; with no path the creation is refused with NO_SPACE. Beyond R312's four moves the
path is the model's choice (log entry 108), and a record that awaits ACKs does not move (log entry 145). -/
def Obligations.Operate : Prop :=
  (∀ (s : State) (c : Fin 64) (tag : Fin 256) (fixed : Nat) (o : Op) (cfg : Cfg) (h : Nat) (r : Rec), s.AtHome c.val tag.val o →
    s.epochCfg (msgEpoch o.msg) = some cfg → s.flo.formatted = true → s.findRec (msgKey o.msg o.keyLen) = some h →
    s.recOf h = some r → s.recBusy h = false →
    (s.contextOpen o.engine o.queued = false → ∃ t n, exec (.operate c tag none fixed) s = .next t ∧
      t = { s with flo := { s.flo with ops := t.flo.ops, seq := t.flo.seq } } ∧ { o with queued := n } ∈ t.flo.ops ∧ n ≠ 0) ∧
    (s.contextOpen o.engine o.queued = true →
    let q : Rec := { r with
      packets := (r.packets + 1) % 2 ^ 64, bytes := (r.bytes + msgLength o.msg) % 2 ^ 64, last := max r.last (msgTime o.msg) }
    let t0 := ((((s.bump 8 o.engine 13 fixed).pmuEvent (72 + o.engine) 0x01 1
      { priv := some o.priv, master := some c.val, cls := some 0, addr := some h }).setRec h q).bump 8 o.engine 0 1)
    let x := (runProgram cfg o.engine (t0.freeContext o.engine)
      { msg := o.msg, keyLen := o.keyLen, program := r.program, priv := o.priv, handle := some h, lastBefore := some r.last } t0).1
    (x.compSent = false → x.stall = false → x.compFailed = false → ∃ t, exec (.operate c tag none fixed) s = .next t ∧ t.Answered c.val tag.val 0 h x.y ∧
      t.count 8 o.engine 0 = (s.count 8 o.engine 0 + 1) % 2 ^ 64) ∧
    (progLength cfg r.program = 0 → r.state ≠ 0xE → progCache cfg r.program = 0 →
      ∃ t, exec (.operate c tag none fixed) s = .next t ∧
        t = { s with flo := { s.flo with recs := t.flo.recs, ops := t.flo.ops }, pmu := t.pmu, ctr := t.ctr } ∧
        t.recOf h = some q ∧ (∀ j, j ≠ h → t.recOf j = s.recOf j) ∧ t.Answered c.val tag.val 0 h (List.replicate 6 0)) ∧
    (progLength cfg r.program = 0 → r.state ≠ 0xE → (progCache cfg r.program = 1 ∨ progCache cfg r.program = 2) →
      msgTime o.msg ≤ r.last + 10000 →
      ∃ t q', exec (.operate c tag none fixed) s = .next t ∧ t.recOf h = some q' ∧
        q'.presence = r.presence ||| BitVec.ofNat 8 (2 ^ ridgeOf c.val) ∧ q'.packets = q.packets ∧
        (∃ e ∈ t.cacheOf (ridgeOf c.val), e.handle = h ∧ e.lease = decide (progCache cfg r.program = 2))))) ∧
  (∀ (s : State) (c : Fin 64) (tag : Fin 256) (fixed : Nat) (o : Op), s.AtHome c.val tag.val o →
    s.contextOpen o.engine o.queued = true → s.keyBusy (msgKey o.msg o.keyLen) = false →
    let k := msgKey o.msg o.keyLen
    let prog := msgProgram o.msg
    let e := o.engine
    (s.epochCfg (msgEpoch o.msg) = none → ∃ t, exec (.operate c tag none fixed) s = .next t ∧ t.Answered c.val tag.val 8 0 [] ∧
      t = { s with flo := { s.flo with ops := t.flo.ops }, pmu := t.pmu, ctr := t.ctr }) ∧
    ∀ cfg, s.epochCfg (msgEpoch o.msg) = some cfg →
      (s.flo.formatted = false → ∃ t, exec (.operate c tag none fixed) s = .next t ∧ t.Answered c.val tag.val 7 0 [] ∧
        t = { s with flo := { s.flo with ops := t.flo.ops }, pmu := t.pmu, ctr := t.ctr }) ∧
      (s.flo.formatted = true → s.findRec k = none →
        (s.poisoned k = true → ∃ t, exec (.operate c tag none fixed) s = .next t ∧ t.Answered c.val tag.val 6 0 [] ∧
          t = { s with flo := { s.flo with ops := t.flo.ops }, pmu := t.pmu, ctr := t.ctr }) ∧
        (s.poisoned k = false → progCreate cfg prog = false → ∃ t y, exec (.operate c tag none fixed) s = .next t ∧
          t.Answered c.val tag.val 2 0 y ∧ (progLength cfg prog = 0 → y = List.replicate 6 0) ∧ t.flo.recs = s.flo.recs) ∧
        (s.poisoned k = false → progCreate cfg prog = true →
          ((s.zoneJudge e k.zone).1 ≠ 0 → ∃ t, exec (.operate c tag none fixed) s = .next t ∧
            t.Answered c.val tag.val (s.zoneJudge e k.zone).1 0 (overflowY cfg prog) ∧ t.flo.recs = s.flo.recs ∧
            t.flo.zoneBucket = s.flo.zoneBucket) ∧
          (∀ h, (s.zoneJudge e k.zone).1 = 0 → (s.freeSlot (bucketA (s.hashKey k)) = some h ∨
              s.freeSlot (bucketA (s.hashKey k)) = none ∧ s.freeSlot (bucketB (s.hashKey k)) = some h) → progLength cfg prog = 0 →
            ∃ t, exec (.operate c tag none fixed) s = .next t ∧
              t = { s with flo := { s.flo with recs := t.flo.recs, ops := t.flo.ops, zoneBucket := t.flo.zoneBucket }, pmu := t.pmu, ctr := t.ctr } ∧
              t.Answered c.val tag.val 1 h (List.replicate 6 0) ∧ (∀ j, j ≠ h → t.recOf j = s.recOf j) ∧
              t.recOf h = some { zone := k.zone, keyType := k.keyType, keyLen := k.keyLen, key := k.bytes, program := prog, state := 1
                                 last := msgTime o.msg, first := msgTime o.msg, packets := 1, bytes := msgLength o.msg } ∧
              t.count 8 e 1 = (s.count 8 e 1 + 1) % 2 ^ 64 ∧ t.count 11 k.zone 1 = (s.count 11 k.zone 1 + 1) % 2 ^ 64) ∧
          ((s.zoneJudge e k.zone).1 = 0 → s.freeSlot (bucketA (s.hashKey k)) = none → s.freeSlot (bucketB (s.hashKey k)) = none →
            (s.insertPath (s.hashKey k) = none → ∃ t, exec (.operate c tag none fixed) s = .next t ∧
              t = { s with flo := { s.flo with ops := t.flo.ops }, pmu := t.pmu, ctr := t.ctr } ∧
              t.Answered c.val tag.val 3 0 (overflowY cfg prog) ∧ t.count 8 e 3 = (s.count 8 e 3 + 1) % 2 ^ 64) ∧
            ∀ b path, s.insertPath (s.hashKey k) = some (b, path) → progLength cfg prog = 0 →
              (b = bucketA (s.hashKey k) ∨ b = bucketB (s.hashKey k)) ∧
              ∃ t i, exec (.operate c tag none fixed) s = .next t ∧ i < 4 ∧ t.Answered c.val tag.val 1 (b + i) (List.replicate 6 0) ∧
                (∃ r, t.recOf (b + i) = some r ∧ r.fkey = k ∧ r.packets = 1 ∧ r.program = prog) ∧
                (∀ j r, s.recOf j = some r → (∀ p ∈ path, p.1 ≠ j) → t.recOf j = some r) ∧
                (∀ p ∈ path, ∃ r i, i < 4 ∧ s.recOf p.1 = some r ∧ r.presence = 0 ∧ t.recOf (p.2 + i) = some r ∧
                  (p.2 = bucketA (s.hashKey r.fkey) ∨ p.2 = bucketB (s.hashKey r.fkey))) ∧
                ((∀ p ∈ path, engineOf p.2 = e) → t.count 8 e 7 = (s.count 8 e 7 + path.length) % 2 ^ 64)))))

/-- VOID at the home, COMPANION and its result, by 09 R318 and R338 and 10 R374 and R375: a VOID takes its frame off the
record; a companion finds or creates its record without counting, and its status goes back to the context that waits,
which ends its operation, or closes its record where the companion failed; a context that this frees lets one that a
ninth COMP stalled go on. A VOID whose record is busy, whose turn has not come or that finds no context waits (09
R311; 10 R355). Which stalled context goes on first and the bursts corrected as an operand are the model's choice (log
entries 37, 127 and 146). -/
def Obligations.VoidsAndCompanions : Prop :=
  (∀ (s : State) (c : Fin 64) (fixed : Nat), (∀ v ∈ s.flo.voids, v.cell = c.val → s.voidReady v = false) →
    exec (.void c none fixed) s = .next s) ∧
  (∀ (s : State) (c : Fin 64) (fixed : Nat) (v : VoidMsg) (rest : List VoidMsg),
    takeFirst (fun v => v.cell == c.val && s.voidReady v) s.flo.voids = some (v, rest) →
    let k := msgKey v.msg v.keyLen
    let e := homeOf (s.hashKey k)
    (s.findRec k = none → ∃ t, exec (.void c none fixed) s = .next t ∧
      t = { s with flo := { s.flo with voids := rest }, pmu := t.pmu, ctr := t.ctr } ∧
      t.count 8 e 13 = (s.count 8 e 13 + fixed) % 2 ^ 64 ∧ t.count 8 e 12 = (s.count 8 e 12 + 1) % 2 ^ 64) ∧
    ∀ h r, s.findRec k = some h → s.recOf h = some r → s.recBusy h = false ∧ ∃ t, exec (.void c none fixed) s = .next t ∧
      t = { s with flo := { s.flo with voids := rest, recs := t.flo.recs }, pmu := t.pmu, ctr := t.ctr } ∧
      t.recOf h = some { r with
        packets := unsigned64 ((r.packets : Int) - 1), bytes := unsigned64 ((r.bytes : Int) - msgLength v.msg), voided := true } ∧
      (∀ j, j ≠ h → t.recOf j = s.recOf j) ∧ t.count 8 e 11 = (s.count 8 e 11 + 1) % 2 ^ 64) ∧
  (∀ (s : State) (e : Fin 128) (k : Fin 16) (fixed : Nat) (m : CompMsg) (cfg : Cfg),
    (s.prg.comps.find? fun m => m.engine == e.val && m.context == k.val) = some m → s.epochCfg (msgEpoch m.msg) = some cfg →
    progLength cfg (msgProgram m.msg) = 0 →
    let key := msgKey m.msg m.keyLen
    s.behind m.ord m.home key = false → s.keyBusy key = false →
    (∀ h r, s.findRec key = some h → s.recOf h = some r → r.state ≠ 0xE →
      ∃ t, exec (.companion e k none fixed) s = .next t ∧ t.flo.recs = s.flo.recs ∧
        (t.ctxRun e.val k.val).compResult = some (0, h) ∧ t.prg.comps = s.prg.comps.filter fun x => !(x.engine == e.val && x.context == k.val)) ∧
    ∀ h, s.findRec key = none → s.poisoned key = false → progCreate cfg (msgProgram m.msg) = true → (s.zoneJudge m.home key.zone).1 = 0 →
      s.freeSlot (bucketA (s.hashKey key)) = some h →
      ∃ t r, exec (.companion e k none fixed) s = .next t ∧ (t.ctxRun e.val k.val).compResult = some (1, h) ∧ t.recOf h = some r ∧
        r.fkey = key ∧ r.packets = 0 ∧ r.bytes = 0 ∧ r.companion = true ∧ r.program = msgProgram m.msg ∧ (∀ j, j ≠ h → t.recOf j = s.recOf j)) ∧
  (∀ (s : State) (e : Nat), (∀ i y, i < 12 → tabFind s.prg.ctx (ctxKey e i) = some y → y.stall = false) ∨ 8 ≤ s.heldContexts e →
    s.resumeStalled e = s) ∧
  (∀ (s : State) (e i : Nat) (y : Run), i < 12 → tabFind s.prg.ctx (ctxKey e i) = some y → y.stall = true → y.holds.isSome = true →
    (∀ j z, j < i → tabFind s.prg.ctx (ctxKey e j) = some z → z.stall = false) → s.heldContexts e < 8 →
    (tabFind (s.resumeStalled e).prg.ctx (ctxKey e i) = none ∨
      ∃ z, tabFind (s.resumeStalled e).prg.ctx (ctxKey e i) = some z ∧ z.holds = y.holds ∧ z.handle.isSome = true) ∧
      ∀ n, n ≠ ctxKey e i → tabFind (s.resumeStalled e).prg.ctx n = tabFind s.prg.ctx n) ∧
  ∀ (s : State) (e : Fin 128) (k : Fin 16) (x : Run) (st h2 c tag h : Nat) (r : Rec), tabFind s.prg.ctx (ctxKey e.val k.val) = some x →
    x.compResult = some (st, h2) → x.holds = some (c, tag) → x.handle = some h → s.recOf h = some r → r.quarantined = false →
    (st ≤ 1 → r.state ≠ 0xE → ∃ (t : State) (q : Rec), exec (.companionResult e k) s = .next (t.resumeStalled e.val) ∧ tabFind t.prg.ctx (ctxKey e.val k.val) = none ∧
      t.Answered c tag x.inStatus h x.y ∧ t.recOf h = some q ∧
      q.w = if progHandleWord (x.cfg s) x.program < 10 then r.w.set (progHandleWord (x.cfg s) x.program) (wd h2) else r.w) ∧
    (1 < st → r.presence = 0 → ∃ t : State, exec (.companionResult e k) s = .next (t.resumeStalled e.val) ∧ tabFind t.prg.ctx (ctxKey e.val k.val) = none ∧
      t.Answered c tag x.inStatus h (overflowY (x.cfg s) (msgProgram x.msg)) ∧ t.recOf h = none ∧ (∀ j, j ≠ h → t.recOf j = s.recOf j))

/-- FLOW_RESULT, WAIT_LIMIT_EXPIRY and CREDIT_WAIT_EXPIRY by 09 R320 to R322 and 10 R368: a result gives its credits back
and unparks its frame, which is dropped, punted or goes on as DISP says; a frame that waited too long takes its
program's degraded action; an operation whose frame does not wait is not sent. That an operation withdrawn before it
has its credits counts as not sent, what the degraded action does, and the result that waits for checksum bytes are
the model's reading (log entry 73). -/
def Obligations.FlowResults : Prop :=
  (∀ (s : State) (c : Fin 64) (tag : Fin 256) (times : SampleTimes) (own : Bool) (o : Op),
    (s.flo.ops.find? fun o => o.cell == c.val && o.tag == tag.val && decide (o.place = .done)) = some o → s.cellRuns c.val = true →
    (∀ p ∈ s.flo.ops, p.cell = c.val → p.tag ≠ tag.val → p.place ≠ .credit) → o.sampled = false →
    let x := s.frame o.fid
    let parked := s.frm.parked.any fun k => k.fid == o.fid
    let y2 := wordAt o.result 2
    (parked = false → ∃ t, exec (.flowResult c tag times own) s = .next t ∧
      t = { s with flo := { s.flo with ops := s.flo.ops.filter fun p => !(p.cell == c.val && p.tag == tag.val) } }) ∧
    (parked = true → x.ended = true → x.bad = false → ∃ t, exec (.flowResult c tag times own) s = .next t ∧
      t.frm.parked = s.frm.parked.filter (fun k => k.fid != o.fid) ∧
      (∀ p ∈ t.flo.ops, ¬(p.cell = c.val ∧ p.tag = tag.val)) ∧
      ((resultStatus o.result = 6 ∨ resultStatus o.result = 7) →
        let i := if progDegradedDrop (s.frameCfg x) x.plan.program then 2 else 1
        t.count 9 x.cell i = (s.count 9 x.cell i + 1) % 2 ^ 64) ∧
      (resultStatus o.result ≠ 6 → resultStatus o.result ≠ 7 →
        ((fld y2 1 0 = 1 ∨ fld y2 1 0 = 3) → t.count 13 x.cell 0 = (s.count 13 x.cell 0 + 1) % 2 ^ 64) ∧
        (fld y2 1 0 = 2 → t.count 13 x.cell 1 = (s.count 13 x.cell 1 + 1) % 2 ^ 64) ∧
        (fld y2 1 0 = 0 → bit y2 2 = true → (rwBits y2 = 0 ∨ (s.parsed x).fmt = 1) →
          t.count 13 x.cell 3 = (s.count 13 x.cell 3 + 1) % 2 ^ 64)))) ∧
  (∀ (s : State) (c : Fin 64) (tag : Fin 256) (o : Op),
    (s.flo.ops.find? fun o => o.cell == c.val && o.tag % 256 == tag.val && s.frm.parked.any fun k => k.fid == o.fid) = some o →
    let x := s.frame o.fid
    (x.ended = false ∨ x.bad = false) → (tabFind s.frm.frames o.fid).isSome = true →
    let i := if progDegradedDrop (s.frameCfg x) x.plan.program then 2 else 1
    ∃ t, exec (.waitLimitExpiry c tag) s = .next t ∧ t.frm.parked = s.frm.parked.filter (fun k => k.fid != o.fid) ∧
      t.count 9 x.cell i = (s.count 9 x.cell i + 1) % 2 ^ 64 ∧
      (o.place ≠ .credit → t.flo.ops = s.flo.ops) ∧
      (o.place = .credit → t.flo.ops = s.flo.ops.filter fun p => !(p.cell == o.cell && p.tag == o.tag))) ∧
  ∀ (s : State) (c : Fin 64) (tag : Fin 256) (o : Op),
    (s.flo.ops.find? fun o => o.cell == c.val && o.tag % 256 == tag.val && !o.out && !o.wait) = some o →
    ∃ t, exec (.creditWaitExpiry c tag) s = .next t ∧ t = { s with flo := t.flo, frm := t.frm, ctr := t.ctr } ∧
      t.flo.ops = s.flo.ops.filter (fun p => !(p.cell == o.cell && p.tag == o.tag)) ∧
      t.count 9 c.val 3 = (s.count 9 c.val 3 + 1) % 2 ^ 64 ∧ (t.frame o.fid).op = none

/-- EXPORT_WRITE and ARCHIVE_WRITE by 09 R334, R336 and R337: firmware takes the oldest export of an engine's queue and
delivers a KIND 1 entry with the time of the eviction; the archive writer puts the oldest record at its stack's next
number. That routing is judged when firmware takes the export is the model's choice (log entry 132).

IPFIX_EXPORT and IPFIX_TEMPLATE_TIMER by 10 R382: the oldest staged record goes to the policy's collector under the ID
of its template, which goes before it at its first use with the next ID from 256 upward; the timer sends every
template again. What defines a template is the model's choice (log entry 113). -/
def Obligations.Exports : Prop :=
  ((∀ (s : State) (e : Fin 128) (own : Bool) (x : Export) (rest : List Export), s.crn.fwRuns = true →
    tabGet [] s.flo.evq e.val = x :: rest →
    ∃ (u : State) (body : List Word), exec (.exportWrite e own) s = .next (u.pushEvent 1 0 (stackSource e.val) x.time body own) ∧
      u = { s with flo := { s.flo with evq := u.flo.evq }, flt := { s.flt with evt := s.flt.evt ||| srcMask (stackSource e.val) } } ∧
      tabGet [] u.flo.evq e.val = rest ∧ (∀ j, j ≠ e.val → tabGet [] u.flo.evq j = tabGet [] s.flo.evq j) ∧ body.length ≤ 12 ∧
      fld (wordAt body 0) 29 0 = fld (wordAt x.archive 0) 29 0 ∧ wordAt body 5 = wd x.handle ∧
      ((wordAt x.archive 0).toNat < 2 ^ 30 → (bit (wordAt body 0) 30 = true ↔ 24 < fld (wordAt x.archive 0) 29 24)) ∧
      (∀ i, i < 4 → wordAt body (1 + i) = wordAt x.archive (2 + i)) ∧
      ∀ i, i < 6 → wordAt body (6 + i) = wordAt x.archive (6 + i)) ∧
  ∀ (s : State) (e : Fin 128) (x : Export) (rest : List Export), s.enginesRun = true → tabGet [] s.flo.arq e.val = x :: rest → s.flo.archiveGib ≠ 0 →
    let n := tabGet 0 s.flo.head (e.val / 32)
    ∃ t, exec (.archiveWrite e) s = .next t ∧
      t = { s with flo := { s.flo with arq := t.flo.arq, archive := t.flo.archive, head := t.flo.head } } ∧
      tabGet [] t.flo.arq e.val = rest ∧ tabGet 0 t.flo.head (e.val / 32) = n + 1 ∧
      tabGet [] t.flo.archive (e.val / 32 * 2 ^ 32 + n % s.archiveCap) = x.archive ∧
      ∀ k, k ≠ e.val / 32 * 2 ^ 32 + n % s.archiveCap → tabFind t.flo.archive k = tabFind s.flo.archive k) ∧
  ((∀ (s : State) (stack : Fin 4) (r : List Word) (rest : List (List Word)) (a : List Word) (udp m : Nat), s.crn.fwRuns = true →
    tabGet [] s.prg.staging stack.val = r :: rest → s.img.policy.collector = some (a, udp, m) →
    (s.prg.ipfixBucket.draw 1000000 (1 + Config.rateDepth 7) 1 s.tim.up).1 = true →
    ∃ t, exec (.ipfixExport stack) s = .next t ∧ t = { s with prg := t.prg, bpm := t.bpm, out := t.out } ∧
      let k := emitTemplate s.stg.cur r
      let id := ipfixId s.prg.templates k
      tabGet [] t.prg.staging stack.val = rest ∧ k ∈ t.prg.templates ∧ ipfixId t.prg.templates k = id ∧
      (k ∉ s.prg.templates → id = 256 + s.prg.templates.length) ∧
      t.out = s.out ++ [.ipfix m a udp s.emitSet.2 (if k ∈ s.prg.templates then [] else [{ id := id, fields := k.2.2 }])
        [ipfixRecord s.stg.cur id s.tim.utc r]]) ∧
  ∀ (s : State) (a : List Word) (udp m : Nat), s.crn.fwRuns = true → s.prg.templates ≠ [] → s.img.policy.collector = some (a, udp, m) →
    exec .ipfixTemplateTimer s = .next { s with out := s.out ++ [.ipfix m a udp s.emitSet.2
      (s.prg.templates.map fun k => { id := ipfixId s.prg.templates k, fields := k.2.2 }) []] })

/-- ADD, SADD, MIN, MAX, LDI, EXT, INS, KEYX, TS and SETACT by 10 R362 and R363, for every accepted word on every running
context: the result is written to D, and nothing but the context, its record and the counters changes. Without power
at the engines no instruction runs (01 R28). That a row is one instruction of a context, and what a context without a
record reads, are the model's choice (log entries 33 and 35).

SKIP, SKIPI and SETSC by 10 R363 and R364: a skip passes over N instructions exactly where its condition holds; SETSC
sets of the record what its SET bits select, and nothing without a record. -/
def Obligations.FlowInstructions : Prop :=
  (∀ (s : State) (e : Fin 128) (k : Fin 16) (w : Word),
    let x := s.ctxRun e.val k.val
    let a := readOp (fld w 21 17) (x, s)
    let b := readOp (fld w 4 0) (x, s)
    let d := fld w 26 22
    let sImm : Word := (BitVec.ofNat 12 (fld w 11 0)).signExtend 32
    let uImm : Word := wd (fld w 11 0)
    let i := fld w 16 16 = 1
    let dOld := readOp d (x, s)
    let pos := fld w 16 12
    let width := fld w 11 7 + 1
    (s.enginesRun = false → exec (.add e k w) s = .next s ∧ exec (.natfree e k w) s = .next s ∧ exec (.emit e k w) s = .next s) ∧
    (s.Issues e k 0x03 w → ∃ t, exec (.add e k w) s = .next t ∧ s.Writes t e k w [(d, a + if i then sImm else b)]) ∧
    (s.Issues e k 0x04 w → ∃ t v, exec (.sadd e k w) s = .next t ∧ s.Writes t e k w [(d, v)] ∧
      (v.toNat : Int) = max 0 (min 0xFFFFFFFF ((a.toNat : Int) + if i then sImm.toInt else (b.toNat : Int)))) ∧
    (s.Issues e k 0x05 w → ∃ t v, exec (.min e k w) s = .next t ∧ s.Writes t e k w [(d, v)] ∧
      v.toNat = min a.toNat (if i then uImm else b).toNat) ∧
    (s.Issues e k 0x06 w → ∃ t v, exec (.max e k w) s = .next t ∧ s.Writes t e k w [(d, v)] ∧
      v.toNat = max a.toNat (if i then uImm else b).toNat) ∧
    (s.Issues e k 0x07 w → ∃ t, exec (.ldi e k w) s = .next t ∧ s.Writes t e k w [(d, uImm <<< (8 * fld w 21 20))]) ∧
    (s.Issues e k 0x08 w → ∃ t, exec (.ext e k w) s = .next t ∧ s.Writes t e k w [(d, (a >>> pos) &&& wd (2 ^ width - 1))]) ∧
    (s.Issues e k 0x09 w → ∃ t v, exec (.ins e k w) s = .next t ∧ s.Writes t e k w [(d, v)] ∧
      ∀ j, j < 32 → v.getLsbD j = if pos ≤ j ∧ j < pos + width then a.getLsbD (j - pos) else dOld.getLsbD j) ∧
    (s.Issues e k 0x0A w → ∃ t, exec (.keyx e k w) s = .next t ∧
      s.Writes t e k w [(d, wd (beAt x.fkey.bytes (fld w 21 16) (2 ^ fld w 15 14)))]) ∧
    (s.Issues e k 0x0B w → ∃ t v, exec (.ts e k w) s = .next t ∧ s.Writes t e k w [(d, v)] ∧
      (fld w 21 20 = 0 → v = wd x.time) ∧ (fld w 21 20 = 1 → v = wd (x.time / 1000)) ∧ (fld w 21 20 = 2 → v = wd (x.time / 10 ^ 9)) ∧
      (fld w 21 20 = 3 → (x.lastBefore = none → v = 0) ∧ ∀ l, x.lastBefore = some l → v.toNat = min 0xFFFFFFFF ((x.time - l) / 1000))) ∧
    (s.Issues e k 0x13 w → ∃ t v, exec (.setact e k w) s = .next t ∧ s.Writes t e k w [(10, v)] ∧ fld v 15 0 = fld w 26 11 ∧
      fld v 31 16 = if fld w 5 5 = 1 then fld (readOp (fld w 10 6) (x, s)) 15 0 else fld (wordAt x.y 0) 31 16)) ∧
  ((∀ (s : State) (e : Fin 128) (k : Fin 16) (w : Word) (imm : Bool), s.Issues e k (if imm then 0x02 else 0x01) w →
    let x := s.ctxRun e.val k.val
    let a := readOp (fld w 19 15) (x, s)
    let b := if imm then wd (fld w 11 0) else readOp (fld w 4 0) (x, s)
    let c := fld w 26 24
    let holds := (c = 0 ∧ a = b) ∨ (c = 1 ∧ a ≠ b) ∨ (c = 2 ∧ a.toNat < b.toNat) ∨ (c = 3 ∧ b.toNat ≤ a.toNat) ∨ (c = 4 ∧ a &&& b ≠ 0) ∨
      (c = 5 ∧ a &&& b = 0)
    ∃ t, exec (if imm then .skipi e k w else .skip e k w) s = .next t ∧ s.Steps t e k ∧ t.flo = s.flo ∧
      (holds → t.ctxRun e.val k.val = { x.past w with index := x.index + 1 + fld w 23 20 }) ∧
      (¬holds → t.ctxRun e.val k.val = x.past w)) ∧
  ∀ (s : State) (e : Fin 128) (k : Fin 16) (w : Word), s.Issues e k 0x0C w →
    let x := s.ctxRun e.val k.val
    ∃ t, exec (.setsc e k w) s = .next t ∧ s.Steps t e k ∧ t.ctxRun e.val k.val = x.past w ∧
      (x.record s = none → t.flo.recs = s.flo.recs) ∧
      ∀ h r, x.handle = some h → s.recOf h = some r → t.recOf h = some { r with
        state := if fld w 9 9 = 1 then fld w 26 23 else r.state
        cls := if fld w 8 8 = 1 then fld w 22 19 else r.cls
        program := if fld w 7 7 = 1 then fld w 18 10 else r.program })

/-- METER by 10 R369: the token counts are filled for the time since LAST_SEEN, by products of 64 bits, and charged by
color, which goes to D; without a record D is 0 and nothing is charged.

NATALLOC, NATFREE and LBSEL by 10 R370 to R372 and R377 to R379: a port of the engine's share that is neither
allocated nor in its reuse delay, or the end of the run; the release of an allocated port of the share; the member of
a group, or the end of the run. The port from which an address's first allocation starts is the model's choice (log
entry 17).

COMP and EMIT by 10 R373, R374, R380 and R381: a companion's request leaves for its key's home with the values of C
and D, or the run has failed at once, or without a record nothing is issued; a ninth of an engine stalls its context
alone and has no effect yet; a telemetry record is staged while its engine has a token and its stack's staging room,
and dropped otherwise. What the staging room of a stack is, is the model's choice (log entry 34). -/
def Obligations.FlowResources : Prop :=
  (∀ (s : State) (e : Fin 128) (k : Fin 16) (w : Word), s.Issues e k 0x0D w →
    let x := s.ctxRun e.val k.val
    let d := fld w 26 22
    let n := fld w 21 18
    let c := x.cfg s
    let p := meterProfile c (fld w 17 8)
    let elapsed := match x.lastBefore with | some l => x.time - l | none => 0
    (x.record s = none → ∃ t, exec (.meter e k w) s = .next t ∧ s.Writes t e k w [(d, 0)]) ∧
    ∀ r, x.record s = some r →
      let tc := min p.2.2.1 ((if x.inStatus = 1 then p.2.2.1 else (wordAt r.w n).toNat) + p.1 * elapsed % 2 ^ 64 / 8000000)
      let tp := min p.2.2.2 ((if x.inStatus = 1 then p.2.2.2 else (wordAt r.w (n + 1)).toNat) + p.2.1 * elapsed % 2 ^ 64 / 8000000)
      let len := (max 1 ((msgLength x.msg : Int) + egrOverhead c (fld (wordAt x.msg 12) 23 14))).toNat
      ∃ t, exec (.meter e k w) s = .next t ∧
        (tp < len → s.Writes t e k w [(n, wd tc), (n + 1, wd tp), (d, 2)] ∧ t.count 12 e.val 15 = (s.count 12 e.val 15 + 1) % 2 ^ 64) ∧
        (len ≤ tp → tc < len → s.Writes t e k w [(n, wd tc), (n + 1, wd (tp - len)), (d, 1)] ∧
          t.count 12 e.val 14 = (s.count 12 e.val 14 + 1) % 2 ^ 64) ∧
        (len ≤ tp → len ≤ tc → s.Writes t e k w [(n, wd (tc - len)), (n + 1, wd (tp - len)), (d, 0)] ∧
          t.count 12 e.val 13 = (s.count 12 e.val 13 + 1) % 2 ^ 64)) ∧
  ((∀ (s : State) (e : Fin 128) (k : Fin 16) (w : Word), s.Issues e k 0x0E w →
    let x := s.ctxRun e.val k.val
    let d := fld w 26 22
    let pool := poolOf (x.cfg s) (fld w 16 9)
    let l := pool.2
    let start := if l.length = 0 then 0 else (readOp (fld w 21 17) (x, s)).toNat % l.length
    let order := l.drop start ++ l.take start
    let found := order.findSome? fun a => (s.natPort e.val pool.1 a.1).map fun q => (a.1, a.2, q)
    (x.handle = none → ∃ t, exec (.natalloc e k w) s = .next t ∧ s.Writes t e k w [(d, 0), (d + 1, 0)] ∧ t.prg.nat = s.prg.nat) ∧
    (x.handle ≠ none → found = none → ∃ t, exec (.natalloc e k w) s = .next t ∧ s.Steps t e k ∧ t.prg.nat = s.prg.nat ∧
      t.ctxRun e.val k.val = { x.past w with stopped := true, y := overflowY (x.cfg s) (msgProgram x.msg) } ∧
      (∀ h r, x.handle = some h → s.recOf h = some r → t.recOf h = some { r with state := 0xE }) ∧
      t.count 12 e.val 3 = (s.count 12 e.val 3 + 1) % 2 ^ 64) ∧
    ∀ idx addr q, x.handle ≠ none → found = some (idx, addr, q) →
      ∃ t, exec (.natalloc e k w) s = .next t ∧ s.Writes t e k w [(d, addr), (d + 1, wd (idx * 65536 + q))] ∧ (idx, addr) ∈ l ∧
        1024 + 504 * e.val ≤ q ∧ q < 1528 + 504 * e.val ∧ tabGet false s.prg.nat (idx * 65536 + q) = false ∧
        (∀ f, tabFind s.prg.freed (idx * 65536 + q) = some f → f + pool.1 * 10 ^ 9 * nsUnit ≤ s.tim.up) ∧
        (∀ j, tabGet false t.prg.nat j = (tabGet false s.prg.nat j || decide (j = idx * 65536 + q))) ∧
        t.count 12 e.val 2 = (s.count 12 e.val 2 + 1) % 2 ^ 64) ∧
  (∀ (s : State) (e : Fin 128) (k : Fin 16) (w : Word), s.Issues e k 0x0F w →
    let x := s.ctxRun e.val k.val
    let j := (readOp (fld w 21 17) (x, s)).toNat
    let mine := 1024 + 504 * e.val ≤ j % 65536 ∧ j % 65536 < 1528 + 504 * e.val ∧ tabGet false s.prg.nat j = true
    ∃ t, exec (.natfree e k w) s = .next t ∧ s.Steps t e k ∧ t.flo = s.flo ∧ t.ctxRun e.val k.val = x.past w ∧
      (mine → (∀ i, tabGet false t.prg.nat i = (tabGet false s.prg.nat i && decide (i ≠ j))) ∧ tabFind t.prg.freed j = some s.tim.up ∧
        t.count 12 e.val 4 = (s.count 12 e.val 4 + 1) % 2 ^ 64) ∧
      (¬mine → t.prg.nat = s.prg.nat ∧ t.prg.freed = s.prg.freed ∧ t.count 12 e.val 5 = (s.count 12 e.val 5 + 1) % 2 ^ 64)) ∧
  ∀ (s : State) (e : Fin 128) (k : Fin 16) (w : Word), s.Issues e k 0x10 w →
    let x := s.ctxRun e.val k.val
    let d := fld w 26 22
    let l := lbMembers (x.cfg s) (fld (readOp (fld w 21 17) (x, s)) 15 0)
    let live := l.filter fun m => m.2.2
    let v := if fld w 11 11 = 1 then (readOp (fld w 16 12) (x, s)).toNat * 0x9E3779B1 % 2 ^ 32 else s.hashKey x.fkey / 2 ^ 32
    let m := v / 2 ^ 16 * l.length / 2 ^ 16
    let pick := if ∃ y, l[m]? = some y ∧ y.2.2 = true then l[m]? else live[v % 2 ^ 16 * live.length / 2 ^ 16]?
    (live = [] → ∃ t, exec (.lbsel e k w) s = .next t ∧ s.Steps t e k ∧
      t.ctxRun e.val k.val = { x.past w with stopped := true, y := overflowY (x.cfg s) (msgProgram x.msg) } ∧
      t.count 12 e.val 7 = (s.count 12 e.val 7 + 1) % 2 ^ 64) ∧
    (live ≠ [] → ∃ t y, exec (.lbsel e k w) s = .next t ∧ pick = some y ∧ y.2.2 = true ∧
      s.Writes t e k w [(d, y.1), (d + 1, wd y.2.1)] ∧ t.count 12 e.val 6 = (s.count 12 e.val 6 + 1) % 2 ^ 64)) ∧
  ((∀ (s : State) (e : Fin 128) (k : Fin 16) (w : Word), s.Issues e k 0x11 w →
    let x := s.ctxRun e.val k.val
    let key := compKey (x.cfg s) x (fld w 26 25) (readOp (fld w 24 20) (x, s)) (readOp (fld w 19 15) (x, s))
    ((x.handle = none ∨ x.companionRun = true) → ∃ t, exec (.comp e k w) s = .next t ∧ s.Steps t e k ∧ t.flo = s.flo ∧
      t.prg.comps = s.prg.comps ∧ t.ctxRun e.val k.val = x.past w ∧
      t.count 12 e.val 10 = (s.count 12 e.val 10 + 1) % 2 ^ 64) ∧
    (x.handle ≠ none → x.companionRun = false → key = none → ∃ t, exec (.comp e k w) s = .next t ∧ s.Steps t e k ∧ t.flo = s.flo ∧
      t.prg.comps = s.prg.comps ∧ t.ctxRun e.val k.val = { x.past w with compFailed := true }) ∧
    (∀ y, x.handle ≠ none → x.companionRun = false → key = some y → 8 ≤ s.heldContexts e.val → ∃ t, exec (.comp e k w) s = .next t ∧
      t = { s with prg := t.prg } ∧ t.prg = { s.prg with ctx := t.prg.ctx } ∧ t.ctxRun e.val k.val = { x with stall := true } ∧
      ∀ j, j ≠ ctxKey e.val k.val → tabGet {} t.prg.ctx j = tabGet {} s.prg.ctx j) ∧
    ∀ y, x.handle ≠ none → x.companionRun = false → key = some y → y.bytes.length = 40 → s.heldContexts e.val < 8 → ∃ t m, exec (.comp e k w) s = .next t ∧
      t = { s with prg := t.prg, flo := { s.flo with seq := s.flo.seq + 1 }, pmu := t.pmu, ctr := t.ctr } ∧ m.ord = s.flo.seq + 1 ∧
      t.ctxRun e.val k.val = { x.past w with compSent := true } ∧
      t.prg = { s.prg with comps := s.prg.comps ++ [m], ctx := t.prg.ctx } ∧ m.engine = e.val ∧ m.context = k.val ∧
      m.home = homeOf (s.hashKey y) ∧ m.keyLen = y.keyLen ∧ wordAt m.msg 12 = readOp (fld w 14 10) (x, s) ∧
      wordAt m.msg 15 = readOp (fld w 9 5) (x, s) ∧ wordAt m.msg 13 = wordAt x.msg 13 ∧ wordAt m.msg 14 = wordAt x.msg 14) ∧
  ∀ (s : State) (e : Fin 128) (k : Fin 16) (w : Word), s.Issues e k 0x12 w →
    let x := s.ctxRun e.val k.val
    let rate := s.emitSet.1
    let stack := e.val / 32
    let l := tabGet [] s.prg.staging stack
    let token := (tabGet {} s.prg.emitBucket e.val).draw rate 64 1 s.tim.up
    let room := l.length % 32 ≠ 0 ∨ (s.bpmAlloc (24 + stack) 2048).1 = stOk
    let sent := rate ≠ 0 ∧ token.1 = true ∧ room
    (¬sent → ∃ t, exec (.emit e k w) s = .next t ∧ s.Steps t e k ∧ t.flo = s.flo ∧ t.prg = { s.prg with ctx := t.prg.ctx } ∧
      t.ctxRun e.val k.val = x.past w ∧ t.count 12 e.val 12 = (s.count 12 e.val 12 + 1) % 2 ^ 64) ∧
    (sent → ∃ t r, exec (.emit e k w) s = .next t ∧ t = { s with prg := t.prg, bpm := t.bpm, pmu := t.pmu, ctr := t.ctr, draw := t.draw } ∧
      t.ctxRun e.val k.val = x.past w ∧ tabGet [] t.prg.staging stack = l ++ [r] ∧
      fld (wordAt r 0) 7 0 = fld w 26 19 ∧ wordAt r 8 = readOp (fld w 18 14) (x, s) ∧ wordAt r 9 = readOp (fld w 13 9) (x, s) ∧
      wordAt r 2 = wd x.time ∧ t.count 12 e.val 11 = (s.count 12 e.val 11 + 1) % 2 ^ 64))

/-- PROG_LOAD, PROG_METER_SET, PROG_POOL_SET, PROG_GROUP_SET and PROG_EMIT_SET by 10 R365, R366, R385 to R387, R389 and
R390: an accepted program or setting is staged and no other object changes; a program that R365 or R366 refuses is
INVALID; an address index of another pool is EXISTS, one with allocated ports that gets another address BUSY, and the
513th group change of a commit NO_SPACE. For an index that no pool holds any more BUSY is the model's reading (log
entry 36).

PROG_READ, PROG_POOL_STATUS and PROG_STATS_READ by 10 R385, R388 and R391: the program in force or the staged one,
NOT_FOUND where none is staged; an address, its allocated ports and the engines without a free one; the items of an
engine or cell. None changes anything. -/
def Obligations.FlowPrograms : Prop :=
  ((∀ (s : State) (r q : Req), s.Accepts 0x0701 r q → q.size = 15 → q.f 4 31 28 = 0 → q.f 5 15 10 = 0 → q.f 5 31 26 = 0 → q.f 6 31 21 = 0 →
    q.f 4 12 9 ≤ 12 → q.f 4 15 14 ≠ 3 → q.f 4 18 17 ≠ 3 → (q.f 4 23 20 < 10 ∨ q.f 4 23 20 = 15) → (q.f 4 27 24 < 10 ∨ q.f 4 27 24 = 15) →
    1 ≤ q.f 5 9 0 → q.f 5 9 0 ≤ 1000 → (q.f 5 25 16 ≠ 0 ↔ q.f 4 15 14 = 2) →
    let code := (List.range 12).map fun i => q.w (7 + i)
    let fine := programOk (q.f 4 12 9) code = true ∧ cacheOk (q.f 4 15 14) (q.f 5 25 16) (code.take (q.f 4 12 9)) = true
    (¬fine → exec (.progLoad r) s = .next (s.respond 0x0701 q stInvalid [])) ∧
    (fine → ∃ u : State, exec (.progLoad r) s = .next (u.respond 0x0701 q stOk []) ∧
      s.Stages u 0x0701 q (fun k => k = cfgKey 0x0701 (q.f 4 8 0)) ∧
      ∀ i, i < 15 → wordAt (progWords u.stg.staged (q.f 4 8 0)) i = q.w (4 + i))) ∧
  (∀ (s : State) (r q : Req), s.Accepts 0x0710 r q → q.f 4 31 10 = 0 → q.f 5 31 27 = 0 → q.f 6 31 27 = 0 → q.f 7 31 24 = 0 → q.f 8 31 24 = 0 →
    q.f 5 26 0 ≤ q.f 6 26 0 → q.f 6 26 0 ≤ 100000000 → 64 ≤ q.f 7 23 0 → 64 ≤ q.f 8 23 0 → q.ExtSize 5 →
    ∃ u : State, exec (.progMeterSet r) s = .next (u.respond 0x0710 q stOk []) ∧
      s.Stages u 0x0710 q (fun k => k = cfgKey 0x0710 (q.f 4 9 0)) ∧
      meterProfile u.stg.staged (q.f 4 9 0) = (q.f 5 26 0, q.f 6 26 0, q.f 7 23 0, q.f 8 23 0)) ∧
  (∀ (s : State) (r q : Req), s.Accepts 0x0720 r q → q.f 4 31 21 = 0 → q.f 4 12 8 ≤ 16 → q.ExtSize (1 + 2 * q.f 4 12 8) →
    let l := poolItems q
    (∀ i, i < q.f 4 12 8 → q.f (5 + 2 * i) 31 12 = 0) → (∀ a ∈ l, a.2 ≠ 0) → (l.map fun a => a.1).Nodup →
    let other := ∃ a ∈ l, ∃ o, indexOwner s.stg.staged a.1 = some o ∧ o.1 ≠ q.f 4 7 0
    ((∃ a ∈ l, s.rebinds a = true) → exec (.progPoolSet r) s = .next (s.respond 0x0720 q stBusy [])) ∧
    ((∀ a ∈ l, s.rebinds a = false) → other → exec (.progPoolSet r) s = .next (s.respond 0x0720 q stExists [])) ∧
    ((∀ a ∈ l, s.rebinds a = false) → ¬other → ∃ u : State, exec (.progPoolSet r) s = .next (u.respond 0x0720 q stOk []) ∧
      s.Stages u 0x0720 q (fun k => k = cfgKey 0x0720 (q.f 4 7 0)) ∧ poolOf u.stg.staged (q.f 4 7 0) = (q.f 4 20 13, l))) ∧
  (∀ (s : State) (r q : Req), s.Accepts 0x0730 r q → q.f 4 31 25 = 0 → q.f 4 24 16 ≤ 256 → (∀ i, i < q.f 4 24 16 → q.f (6 + 2 * i) 31 17 = 0) →
    (q.extCmd = true ∨ q.f 4 24 16 ≤ 29) → q.ExtSize (1 + 2 * q.f 4 24 16) →
    (512 ≤ s.stg.lbStaged → exec (.progGroupSet r) s = .next (s.respond 0x0730 q stNoSpace [])) ∧
    (s.stg.lbStaged < 512 → ∃ u : State, exec (.progGroupSet r) s = .next (u.respond 0x0730 q stOk []) ∧
      s.Stages u 0x0730 q (fun k => k = cfgKey 0x0730 (q.f 4 15 0)) ∧ u.stg.lbStaged = s.stg.lbStaged + 1 ∧
      lbMembers u.stg.staged (q.f 4 15 0) = (List.range (q.f 4 24 16)).map fun i =>
        (q.w (5 + 2 * i), q.f (6 + 2 * i) 15 0, bit (q.w (6 + 2 * i)) 16))) ∧
  ∀ (s : State) (r q : Req), s.Accepts 0x0740 r q → q.f 4 31 17 = 0 → q.f 4 16 0 ≤ 100000 → q.ExtSize 2 →
    ∃ u : State, exec (.progEmitSet r) s = .next (u.respond 0x0740 q stOk []) ∧ u = { s with stg := u.stg, img := u.img, sup := u.sup } ∧
      u.emitSet = (q.f 4 16 0, (q.w 5).toNat) ∧ u.stg.cur = s.stg.cur ∧ u.stg.staged = s.stg.staged ∧ u.stg.flag = s.stg.flag) ∧
  ((∀ (s : State) (r q : Req), s.Accepts 0x0702 r q → q.f 4 31 10 = 0 → q.ExtSize 1 →
    let p := q.f 4 8 0
    let staged := s.stg.log.any fun w => fld (wordAt w 0) 15 0 == 0x0701 && fld (wordAt w 4) 8 0 == p
    (q.f 4 9 9 = 0 → (progWords s.stg.cur p).length ≤ q.room →
      exec (.progRead r) s = .next (s.respond 0x0702 q stOk (progWords s.stg.cur p))) ∧
    (q.f 4 9 9 = 1 → staged = false → exec (.progRead r) s = .next (s.respond 0x0702 q stNotFound [])) ∧
    (q.f 4 9 9 = 1 → staged = true → (progWords s.stg.staged p).length ≤ q.room →
      exec (.progRead r) s = .next (s.respond 0x0702 q stOk (progWords s.stg.staged p)))) ∧
  (∀ (s : State) (r q : Req), s.Accepts 0x0721 r q → q.f 4 31 12 = 0 → q.ExtSize 1 → 3 ≤ q.room →
    let idx := q.f 4 11 0
    (indexOwner s.stg.cur idx = none → exec (.progPoolStatus r) s = .next (s.respond 0x0721 q stNotFound [])) ∧
    ∀ p a, indexOwner s.stg.cur idx = some (p, a) →
      let full := ((List.range 128).filter fun e => (s.natPort e (poolOf s.stg.cur p).1 idx).isNone).length
      exec (.progPoolStatus r) s = .next (s.respond 0x0721 q stOk [a, wd (s.portsUsed idx), wd (full + p * 2 ^ 8)])) ∧
  ∀ (s : State) (r q : Req), s.Accepts 0x0750 r q → q.f 4 31 18 = 0 → q.f 4 7 0 ≤ 191 →
    q.f 4 12 8 + q.f 4 17 13 ≤ (if q.f 4 7 0 < 128 then 16 else 4) → q.ExtSize 1 → 1 + 2 * q.f 4 17 13 ≤ q.room →
    ∃ ws : List Word, exec (.progStatsRead r) s = .next (s.respond 0x0750 q stOk ws) ∧ ws.length = 1 + 2 * q.f 4 17 13 ∧
      ∀ j, j < q.f 4 17 13 → wordAt ws (1 + 2 * j) =
        wd (if q.f 4 7 0 < 128 then s.count 12 (q.f 4 7 0) (q.f 4 12 8 + j) else s.count 13 (q.f 4 7 0 - 128) (q.f 4 12 8 + j)))

/-! ## Fabric and egress -/

/-- FAB_COL_POLICER, FAB_BUF_SET and FAB_STATS_READ by 11 R428 to R430: the policer of a port, NOT_FOUND where there is
none; the ALPHA codes in every cell named; the items of a cell.

FAB_STATUS, FAB_BENCH, BENCH_WINDOW and BENCH_START by 11 R408 to R411, R426 and R427: the threshold, the benched and
the slumbering cells and each cell's SR; a window that is judged, with its SR from the slots in which the cell held
and sent a chunk, and one that is not; a bench on command or after two low windows, counted, with its event, while
fewer than 16 cells are out of duty or a slumbering one can be woken; the change at the rotation boundary, at which a
cell that a fatal event isolated leaves duty too (16 R549). Which slots count as held and not sent, and which
slumbering cell is woken, are the model's choice (log entries 116 and 141). -/
def Obligations.FabricAndBenching : Prop :=
  ((∀ (s : State) (r q : Req), s.Accepts 0x0810 r q → q.f 4 31 15 = 0 → q.f 5 31 17 = 0 → q.f 4 14 10 ≤ 25 → 64 ≤ q.f 5 16 0 → q.ExtSize 2 →
    (isPort s.stg.staged (q.f 4 9 0) = false → exec (.fabColPolicer r) s = .next (s.respond 0x0810 q stNotFound [])) ∧
    (isPort s.stg.staged (q.f 4 9 0) = true → ∃ u : State, exec (.fabColPolicer r) s = .next (u.respond 0x0810 q stOk []) ∧
      s.Stages u 0x0810 q (fun k => k = cfgKey 0x0810 (q.f 4 9 0)) ∧
      colPolicer u.stg.staged (q.f 4 9 0) = (q.f 4 14 10, q.f 5 16 0))) ∧
  (∀ (s : State) (r q : Req), s.Accepts 0x0811 r q → q.f 4 31 24 = 0 → q.f 5 31 24 = 0 → q.f64 6 ≠ 0 → q.ExtSize 4 →
    ∃ u : State, exec (.fabBufSet r) s = .next (u.respond 0x0811 q stOk []) ∧
      s.Stages u 0x0811 q (fun k => ∃ c, c < 64 ∧ (q.f64 6).testBit c = true ∧ k = cfgKey 0x0811 c) ∧
      ∀ c cls, c < 64 → (q.f64 6).testBit c = true → cls < 8 → intCode u.stg.staged c cls = q.f 4 (3 * cls + 2) (3 * cls) ∧
        egrCode u.stg.staged c cls = q.f 5 (3 * cls + 2) (3 * cls)) ∧
  ∀ (s : State) (r q : Req), s.Accepts 0x0820 r q → q.f 4 31 16 = 0 → q.f 4 10 6 + q.f 4 15 11 ≤ 20 → q.ExtSize 1 →
    1 + 2 * q.f 4 15 11 ≤ q.room →
    ∃ ws : List Word, exec (.fabStatsRead r) s = .next (s.respond 0x0820 q stOk ws) ∧ ws.length = 1 + 2 * q.f 4 15 11 ∧
      ∀ j, j < q.f 4 15 11 → wordAt ws (1 + 2 * j) = wd (s.count 14 (q.f 4 5 0) (q.f 4 10 6 + j))) ∧
  ((∀ (s : State) (r q : Req), s.Accepts 0x0801 r q → q.ExtSize 0 → 21 ≤ q.room →
    ∃ ws : List Word, exec (.fabStatus r) s = .next (s.respond 0x0801 q stOk ws) ∧ ws.length = 21 ∧
      (s.img.policy.benchPct < 128 → fld (wordAt ws 0) 6 0 = s.img.policy.benchPct ∧ fld (wordAt ws 0) 13 7 = s.outNow) ∧
      (∀ c, c < 32 → ((wordAt ws 1).getLsbD c = true ↔ (s.cell c).benched = true) ∧
        ((wordAt ws 2).getLsbD c = true ↔ (s.cell (32 + c)).benched = true)) ∧
      ∀ n, n < 16 → (∀ k, k < 4 → (s.cell (4 * n + k)).sr < 256) → ∀ k, k < 4 → fld (wordAt ws (5 + n)) (8 * k + 7) (8 * k) = (s.cell (4 * n + k)).sr) ∧
  (∀ (s : State) (r q : Req), s.Accepts 0x0802 r q → q.f 4 31 7 = 0 → q.ExtSize 1 →
    let c := q.f 4 5 0
    let x := s.cell c
    let on := (x.benched && !x.unbenchSoon) || x.benchSoon
    (q.f 4 6 6 = 1 → on = false → 16 ≤ s.outCount → s.firstSlumber = none → exec (.fabBench r) s = .next (s.respond 0x0802 q stRefused [])) ∧
    (q.f 4 6 6 = 1 → on = false → (s.outCount < 16 ∨ s.firstSlumber ≠ none) → ∃ u : State, exec (.fabBench r) s = .next (u.respond 0x0802 q stOk []) ∧
      u = { s with cel := u.cel, pmu := u.pmu, ctr := u.ctr, flt := u.flt } ∧ (u.cell c).benchSoon = true ∧ (u.cell c).unbenchSoon = false ∧
      u.count 14 c 19 = (s.count 14 c 19 + 1) % 2 ^ 64 ∧ (s.fltRuns = true → u.flt.evt = s.flt.evt ||| srcMask (1024 + c))) ∧
    (q.f 4 6 6 = 0 → on = true → ∃ u : State, exec (.fabBench r) s = .next (u.respond 0x0802 q stOk []) ∧
      u = { s with cel := u.cel, flt := u.flt } ∧ (u.cell c).benchSoon = false ∧ (x.benchSoon = false → (u.cell c).unbenchSoon = true)) ∧
    ((q.f 4 6 6 = 1 ↔ on = true) → exec (.fabBench r) s = .next (s.respond 0x0802 q stOk []))) ∧
  (∀ (s : State) (c : Fin 64), let x := s.cell c.val
    (x.idle = true ∨ x.st = .off ∨ x.svcSkip = true ∨ x.svcHeld < 256) →
    ∃ t, exec (.benchWindow c) s = .next t ∧ t = { s with cel := t.cel } ∧
      t.cell c.val = { x with svcHeld := 0, svcSent := 0, svcSkip := x.svcSkip && x.idle } ∧ ∀ d, d ≠ c.val → t.cell d = s.cell d) ∧
  (∀ (s : State) (c : Fin 64), let slots := (s.cell c.val).svcHeld
    let sent := (s.cell c.val).svcSent
    (s.cell c.val).idle = false → (s.cell c.val).st ≠ .off → (s.cell c.val).svcSkip = false → 256 ≤ slots →
    let low := 100 * sent < s.img.policy.benchPct * slots
    ∃ t, exec (.benchWindow c) s = .next t ∧ t = { s with cel := t.cel, pmu := t.pmu, ctr := t.ctr, flt := t.flt } ∧
      (t.cell c.val).sr = 100 * sent / slots ∧ (t.cell c.val).svcHeld = 0 ∧ (t.cell c.val).svcSent = 0 ∧
      (¬low → (t.cell c.val).lowWindows = 0 ∧ t.ctr = s.ctr) ∧
      (low → (s.cell c.val).lowWindows = 0 → (t.cell c.val).lowWindows = 1 ∧ t.ctr = s.ctr ∧ t.flt = s.flt) ∧
      (low → (s.cell c.val).lowWindows ≠ 0 → (s.cell c.val).benchSoon = false → s.fltRuns = true →
        (((s.cell c.val).out = true ∨ s.outCount < 16 ∨ s.firstSlumber ≠ none) → (t.cell c.val).benchSoon = true ∧
          t.count 14 c.val 19 = (s.count 14 c.val 19 + 1) % 2 ^ 64 ∧ t.flt.evt = s.flt.evt ||| srcMask (1024 + c.val) ∧ t.flt.flt = s.flt.flt) ∧
        ((s.cell c.val).out = false → 16 ≤ s.outCount → s.firstSlumber = none → (t.cell c.val).benchSoon = false ∧ t.flt.flt = s.flt.flt ||| srcMask (1024 + c.val) ∧
          t.ctr = s.ctr))) ∧
  ∀ (s : State) (c : Fin 64), let x := s.cell c.val
    (x.benchSoon = false → x.isoSoon = false → exec (.benchStart c) s = .next s) ∧
    (x.benchSoon = true ∨ x.isoSoon = true →
      ∃ t, exec (.benchStart c) s = .next t ∧ t = { s with cel := t.cel } ∧
        t.cell c.val = { x with benchSoon := false, benched := x.benched || x.benchSoon, isoSoon := false } ∧
        ∀ d, d ≠ c.val → t.cell d = s.cell d))

/-- The two stages by 11 R393 and R396 to R399: a closed chunk takes its pair's next SEQ and joins its cell's queue; in a
slot, each stage sends at most one chunk a plane, to the cell that the plane connects, in duty and accepting in the
first stage, the chunk's destination in the second; the oldest that qualifies goes, and no chunk is lost or doubled.
The rotation's position and the failed sends are operands, and every map accepts until one is published, as the model
chooses (log entries 18 and 116).

CHUNK_ARRIVAL and RESEQ_LOST by 11 R399 to R401 and R420: a chunk that fails its CRC is discarded with an event, one
for another cell waits there for its second stage, the expected one is released and its frames reach the egress side,
an early one is held, a stale one counted; after the limit the expected one is declared lost and the pair goes on with
a SEQ that it holds. When a loss is forced, the DETAIL of its event and what its counters count are the model's choice
(log entries 28 and 118).

COL_INJECT and COL_HELD_INJECT by 11 R413 to R415: a frame over its policer, for a multicast group, or without free
channels leaves the Col path and is counted; for a sleeping egress cell it is held; otherwise it takes its channels
and its bytes reach the egress cell's staging, where it waits in arrival order. The order in which the reasons to
leave the Col path are tested, and how long a whole frame holds its channels, are the model's reading (log entries 114
and 115). -/
def Obligations.Fabric : Prop :=
  ((∀ (s : State) (src dst : Fin 64) (cls : Fin 8) (c : Chunk), tabFind s.fab.partials (ckeyOf src.val dst.val cls.val) = some c →
    let k := src.val * 64 + dst.val
    ∃ t, exec (.chunkClose src dst cls) s = .next t ∧
      t = { s with fab := { s.fab with partials := t.fab.partials, first := t.fab.first, seq := t.fab.seq }, ctr := t.ctr } ∧
      tabFind t.fab.partials (ckeyOf src.val dst.val cls.val) = none ∧
      tabGet [] t.fab.first src.val = tabGet [] s.fab.first src.val ++
        [{ c with seq := tabGet 0 s.fab.seq k, pgen := tabGet 0 s.fab.pgen src.val }] ∧
      tabGet 0 t.fab.seq k = (tabGet 0 s.fab.seq k + 1) % 65536 ∧ t.count 14 src.val 3 = (s.count 14 src.val 3 + 1) % 2 ^ 64) ∧
  (∀ (s : State) (c t : Fin 64), s.cellRuns c.val = true →
    ∃ u l, exec (.firstStageSlot c t) s = .next u ∧
      u = { s with fab := { s.fab with first := u.fab.first, wire := u.fab.wire, refused := u.fab.refused }, cel := u.cel, pmu := u.pmu, ctr := u.ctr } ∧
      u.fab.wire = s.fab.wire ++ l ∧ l.length ≤ 4 ∧
      (l.map (fun e => e.2) ++ tabGet [] u.fab.first c.val).Perm (tabGet [] s.fab.first c.val) ∧
      (∀ d, d ≠ c.val → tabGet [] u.fab.first d = tabGet [] s.fab.first d) ∧
      (∀ e ∈ l, s.accepts e.1 e.2 = true ∧ (s.cell e.1).idle = false ∧ ∃ p, p < 4 ∧ e.1 = (c.val + t.val + 16 * p) % 64) ∧
      (l.map fun e => e.1).Nodup ∧
      ∀ d rest, let k := (c.val + t.val) % 64
        (s.cell k).idle = false → (s.cell k).st ≠ .off → takeFirst (fun d => s.accepts k d) (tabGet [] s.fab.first c.val) = some (d, rest) →
        l.head? = some (k, d) ∧ (u.cell k).st ≠ .doze) ∧
  (∀ (s : State) (c t : Fin 64) (slow : BitVec 4), s.cellRuns c.val = true →
    ∃ u l, exec (.secondStageSlot c t slow) s = .next u ∧
      u = { s with fab := { s.fab with mid := u.fab.mid, wire := u.fab.wire }, cel := u.cel, pmu := u.pmu, ctr := u.ctr } ∧
      u.fab.wire = s.fab.wire ++ l ∧ l.length ≤ 4 ∧
      (l.map (fun e => e.2) ++ tabGet [] u.fab.mid c.val).Perm (tabGet [] s.fab.mid c.val) ∧
      (∀ e ∈ l, e.2.dst = e.1 ∧ (s.cell e.1).st ≠ .slumber ∧ ∃ p, p < 4 ∧ e.1 = (c.val + t.val + 16 * p) % 64) ∧
      ∀ d rest, let k := (c.val + t.val) % 64
        slow.getLsbD 0 = false → ((s.cell k).st = .run ∨ (s.cell k).st = .doze) → takeFirst (fun d => d.dst == k) (tabGet [] s.fab.mid c.val) = some (d, rest) →
        l.head? = some (k, d)) ∧
  ∀ (s : State) (c : Fin 64), ∃ t, exec (.acceptMapPublish c) s = .next t ∧ t = { s with fab := { s.fab with refuse := t.fab.refuse } } ∧
    (∀ dst cls, dst < 64 → cls < 8 → (tabGet false t.fab.refuse (refuseKey c.val dst cls) = true ↔
      1 + 2 ^ intCode (s.cellCfg c.val) c.val cls * s.poolRoom c.val / 16 < 64 + s.bufUse c.val (regMid dst cls))) ∧
    ∀ d dst cls, d ≠ c.val → dst < 64 → cls < 8 →
      tabGet false t.fab.refuse (refuseKey d dst cls) = tabGet false s.fab.refuse (refuseKey d dst cls)) ∧
  ((∀ (s : State) (c : Fin 64) (k : Nat) (d : Chunk) (rest : List (Nat × Chunk)), s.cellRuns c.val = true → (s.cell c.val).resetting = false →
    takeFirst (fun e => e.1 == c.val) s.fab.wire = some ((k, d), rest) →
    let p := s.pairOf d.dst d.src
    let late := d.pgen ≠ p.pgen ∨ 32768 ≤ (d.seq + 65536 - p.expect) % 65536
    (∃ t, exec (.chunkArrival c false) s = .next t ∧ t = { s with fab := { s.fab with wire := rest, gone := s.fab.gone ++ [d] }, ctr := t.ctr, flt := t.flt } ∧
      t.count 14 c.val 4 = (s.count 14 c.val 4 + 1) % 2 ^ 64 ∧ (s.fltRuns = true → t.flt.evt = s.flt.evt ||| srcMask (1024 + c.val))) ∧
    (d.dst ≠ c.val → ∃ t, exec (.chunkArrival c true) s = .next t ∧ t = { s with fab := { s.fab with wire := rest, mid := t.fab.mid }, cel := t.cel } ∧
      tabGet [] t.fab.mid c.val = tabGet [] s.fab.mid c.val ++ [d] ∧
      t.bufUse c.val (regMid d.dst d.cls) = s.bufUse c.val (regMid d.dst d.cls) + 1) ∧
    (d.dst = c.val → ¬late → d.seq = p.expect → p.held = [] → (∀ x ∈ d.pieces, x.first = true ∧ (x.last = true → x.bad = false)) →
      ∃ t, exec (.chunkArrival c true) s = .next t ∧ t.fab.wire = rest ∧ (t.pairOf d.dst d.src).expect = (p.expect + 1) % 65536 ∧
        t.egr.arriving = s.egr.arriving ++ d.pieces.flatMap (fun x => (maskPorts c.val x.mask).map fun k =>
          { fid := x.fid, port := k, got := x.len, len := x.hlen, whole := x.last })) ∧
    (d.dst = c.val → ¬late → d.seq ≠ p.expect → (∀ x ∈ p.held, x.seq ≠ p.expect) → s.hasRoom c.val regReseq 1 = true →
      (s.bufAdd c.val regReseq 1).hasRoom c.val regReseq 1 = true → ∃ t, exec (.chunkArrival c true) s = .next t ∧ t.fab.wire = rest ∧ (t.pairOf d.dst d.src).held = p.held ++ [d] ∧
        (t.pairOf d.dst d.src).expect = p.expect ∧ t.egr = s.egr) ∧
    (d.dst = c.val → late → ∃ t, exec (.chunkArrival c true) s = .next t ∧ t.fab.wire = rest ∧ t.fab.pairs = s.fab.pairs ∧
      t.count 14 c.val 6 = (s.count 14 c.val 6 + 1) % 2 ^ 64)) ∧
  ∀ (s : State) (d src : Fin 64), (s.pairOf d.val src.val).held ≠ [] →
    ∃ t, exec (.reseqLost d src) s = .next t ∧ t.count 14 d.val 5 = (s.count 14 d.val 5 + 1) % 2 ^ 64 ∧
      (s.fltRuns = true → t.flt.evt &&& srcMask (1024 + d.val) ≠ 0) ∧
      (∀ x ∈ (t.pairOf d.val src.val).held, x.seq ≠ (t.pairOf d.val src.val).expect ∧ x ∈ (s.pairOf d.val src.val).held) ∧
      ((s.pairOf d.val src.val).expect < 65536 → (∀ x ∈ (s.pairOf d.val src.val).held, x.seq < 65536) →
        (t.pairOf d.val src.val).held.length < (s.pairOf d.val src.val).held.length)) ∧
  ((∀ (s : State) (fid p : Nat) (k : Nat) (rest : List (Nat × Nat)), takeFirst (fun e => e.1 == fid) s.frm.colReady = some ((k, p), rest) →
    let x := s.frame fid
    let src := cellOf x.port
    let ok := (s.colPolice x).1
    let n := colChannels (portMode (s.portCfg x.port) x.port)
    ∃ t, exec (.colInject fid) s = .next t ∧ t.frm.colReady = rest ∧
      (ok = false → t.count 14 src 14 = (s.count 14 src 14 + 1) % 2 ^ 64 ∧ (t.frame fid).path ≠ .col) ∧
      (ok = true → x.plan.mcast = true → t.count 14 src 16 = (s.count 14 src 16 + 1) % 2 ^ 64 ∧ (t.frame fid).path ≠ .col) ∧
      (ok = true → x.plan.mcast = false → (s.cell (cellOf p)).st ≠ .run → s.hasRoom src regIngress (chunksFor x.length) = true →
        t.frm.colHeld = s.frm.colHeld ++ [(fid, p, chunksFor x.length)] ∧ t.ctr = s.ctr ∧
        t.bufUse src regIngress = s.bufUse src regIngress + chunksFor x.length) ∧
      (ok = true → x.plan.mcast = false → (s.cell (cellOf p)).st = .run → 4 < s.channelsUsed src + n →
        t.count 14 src 15 = (s.count 14 src 15 + 1) % 2 ^ 64 ∧ (t.frame fid).path ≠ .col) ∧
      (ok = true → x.plan.mcast = false → (s.cell (cellOf p)).st = .run → s.channelsUsed src + n ≤ 4 → s.portUp p = true →
        s.neverFits p 8 x.length = false → s.staged p + x.data.length ≤ stageBytes (s.portCfg p) p →
        (∀ c ∈ s.allCopies, c.fid ≠ fid) → (tabFind s.frm.frames fid).isSome = true →
        t.count 14 src 13 = (s.count 14 src 13 + 1) % 2 ^ 64 ∧ (t.frame fid).path = .col ∧
        (tabGet [] t.egr.colq p).map (fun c => c.fid) = (tabGet [] s.egr.colq p).map (fun c => c.fid) ++ [fid] ∧
        (x.ended = false → (t.frame fid).chans = n) ∧ (x.ended = true → ∃ e, (n, e) ∈ (t.cell src).channels))) ∧
  ∀ (s : State) (c : Fin 64) (fid p n : Nat) (rest : List (Nat × Nat × Nat)), (s.cell c.val).st = .run →
    takeFirst (fun e => cellOf e.2.1 == c.val) s.frm.colHeld = some ((fid, p, n), rest) →
    let x := s.frame fid
    let src := cellOf x.port
    let k := colChannels (portMode (s.portCfg x.port) x.port)
    ∃ t, exec (.colHeldInject c) s = .next t ∧ t.frm.colHeld = rest ∧
      (4 < s.channelsUsed src + k → t.count 14 src 15 = (s.count 14 src 15 + 1) % 2 ^ 64) ∧
      (s.channelsUsed src + k ≤ 4 → t.count 14 src 13 = (s.count 14 src 13 + 1) % 2 ^ 64))

/-- EGR_PORT_SET, EGR_QUEUE_SET and EGR_GATE_SET by 12 R445, R447 and R455 to R457: the settings of a port, queue or gate
list are staged, NOT_FOUND where there is no port; an enabled list is refused until network time has been stepped;
ENABLE 0 stages no list.

EGR_GATE_STATUS and EGR_STATS_READ by 12 R452, R458 and R459: the state of a port's gate sequencer; the counters of a
queue, live or from the snapshot, NOT_FOUND without a port or without a snapshot. Neither changes anything. -/
def Obligations.Egress : Prop :=
  ((∀ (s : State) (r q : Req), s.Accepts 0x0901 r q → q.f 4 31 23 = 0 → q.f 5 31 24 = 0 → q.f 6 31 27 = 0 → q.f 7 31 24 = 0 → q.f 4 11 10 ≠ 3 →
    (q.f 4 21 15 < 64 ∨ 95 < q.f 4 21 15) → q.f 6 26 0 ≤ 100000000 → 64 ≤ q.f 7 23 0 → q.ExtSize 4 →
    let p := q.f 4 9 0
    (isPort s.stg.staged p = false → exec (.egrPortSet r) s = .next (s.respond 0x0901 q stNotFound [])) ∧
    (isPort s.stg.staged p = true → ∃ u : State, exec (.egrPortSet r) s = .next (u.respond 0x0901 q stOk []) ∧
      s.Stages u 0x0901 q (fun k => k = cfgKey 0x0901 p) ∧ tcSource u.stg.staged p = q.f 4 11 10 ∧ defaultTc u.stg.staged p = q.f 4 14 12 ∧
      (egrOverhead u.stg.staged p) % 128 = q.f 4 21 15 ∧ -32 ≤ egrOverhead u.stg.staged p ∧ egrOverhead u.stg.staged p ≤ 63)) ∧
  (∀ (s : State) (r q : Req), s.Accepts 0x0902 r q → q.f 4 31 24 = 0 → q.f 5 31 27 = 0 → q.f 6 31 24 = 0 → q.f 4 14 13 ≠ 3 → q.f 4 22 15 ≠ 0 →
    q.f 5 26 0 ≤ 100000000 → 64 ≤ q.f 6 23 0 → q.ExtSize 3 →
    let p := q.f 4 9 0
    let k := q.f 4 12 10
    (isPort s.stg.staged p = false → exec (.egrQueueSet r) s = .next (s.respond 0x0902 q stNotFound [])) ∧
    (isPort s.stg.staged p = true → ∃ u : State, exec (.egrQueueSet r) s = .next (u.respond 0x0902 q stOk []) ∧
      s.Stages u 0x0902 q (fun j => j = cfgKey 0x0902 (8 * p + k)) ∧ queueGroup u.stg.staged p k = q.f 4 14 13 ∧
      queueWeight u.stg.staged p k = q.f 4 22 15 ∧ (queueShaped u.stg.staged p k = true ↔ q.f 4 23 23 = 1) ∧
      queueRate u.stg.staged p k = q.f 5 26 0 ∧ queueDepth u.stg.staged p k = q.f 6 23 0)) ∧
  ∀ (s : State) (r q : Req), s.Accepts 0x0903 r q → q.f 4 31 19 = 0 → q.f 7 31 30 = 0 → q.f 4 18 11 ≤ 128 → q.size = 4 + 2 * q.f 4 18 11 →
    (∀ i, i < q.f 4 18 11 → 32 ≤ q.f (8 + 2 * i) 29 0 ∧ q.f (8 + 2 * i) 29 0 ≤ 1000000000 ∧ q.f (8 + 2 * i) 31 30 = 0 ∧ q.f (9 + 2 * i) 31 9 = 0) →
    (q.f 4 10 10 = 1 → 32 ≤ q.f 7 29 0 ∧ q.f 7 29 0 ≤ 1000000000) → (q.f 4 10 10 = 0 → q.f 4 18 11 = 0 ∧ q.f64 5 = 0 ∧ q.f 7 29 0 = 0) →
    let p := q.f 4 9 0
    (isPort s.stg.staged p = false → exec (.egrGateSet r) s = .next (s.respond 0x0903 q stNotFound [])) ∧
    (isPort s.stg.staged p = true → q.f 4 10 10 = 1 → s.tim.stepped = false →
      exec (.egrGateSet r) s = .next (s.respond 0x0903 q stRefused [])) ∧
    (isPort s.stg.staged p = true → (q.f 4 10 10 = 1 → s.tim.stepped = true) →
      ∃ u : State, exec (.egrGateSet r) s = .next (u.respond 0x0903 q stOk []) ∧ s.Stages u 0x0903 q (fun k => k = cfgKey 0x0903 p) ∧
        (q.f 4 10 10 = 0 → cfgGate u.stg.staged p = {}) ∧
        (q.f 4 10 10 = 1 → cfgGate u.stg.staged p = {
          enable := true, base := q.f64 5, cycle := q.f 7 29 0
          entries := (List.range (q.f 4 18 11)).map fun i => (q.f (8 + 2 * i) 29 0, q.f (9 + 2 * i) 8 0) }))) ∧
  ((∀ (s : State) (r q : Req), s.Accepts 0x0904 r q → q.f 4 31 10 = 0 → q.ExtSize 1 → 5 ≤ q.room →
    let p := q.f 4 9 0
    let g := s.gateOf p
    (isPort s.stg.staged p = false → exec (.egrGateStatus r) s = .next (s.respond 0x0904 q stNotFound [])) ∧
    (isPort s.stg.staged p = true → g.entry < 128 → g.gates < 512 → ∃ ws : List Word, exec (.egrGateStatus r) s = .next (s.respond 0x0904 q stOk ws) ∧
      ws.length = 5 ∧ ((wordAt ws 0).getLsbD 0 = true ↔ g.cur.enable = true ∧ g.cur.entries ≠ []) ∧
      ((wordAt ws 0).getLsbD 1 = true ↔ g.next ≠ none) ∧ fld (wordAt ws 0) 8 2 = g.entry ∧ fld (wordAt ws 0) 17 9 = g.gates ∧
      ∀ l start, g.next = some (l, start) → wordAt ws 3 = wd start)) ∧
  ∀ (s : State) (r q : Req), s.Accepts 0x0910 r q → q.f 4 31 22 = 0 → q.f 4 16 13 + q.f 4 20 17 ≤ 9 → q.ExtSize 1 → 2 + 2 * q.f 4 20 17 ≤ q.room →
    let p := q.f 4 9 0
    let sh := q.f 4 21 21 = 1
    ((sh ∧ s.hif.snapOk = false ∨ isPort s.stg.staged p = false) → exec (.egrStatsRead r) s = .next (s.respond 0x0910 q stNotFound [])) ∧
    (isPort s.stg.staged p = true → (sh → s.hif.snapOk = true) →
      ∃ ws : List Word, exec (.egrStatsRead r) s = .next (s.respond 0x0910 q stOk ws) ∧ ws.length = 2 + 2 * q.f 4 20 17 ∧
        ∀ j, j < q.f 4 20 17 → wordAt ws (2 + 2 * j) =
          wd (tabGet 0 (if sh then s.shadow else s.ctr) (ckey 2 (qkey p (q.f 4 12 10)) (q.f 4 16 13 + j)))))

/-- QUEUE_ADMIT by 12 R433 and R434, 11 R417 and R420 and 06 R207: a copy that may start is admitted to its queue, charged
and counted, or dropped under the counter of the reason: its link, a window that never holds it, yellow, or room. That
its length at admission is that of its last piece, and that queue q takes the code of class q, are the model's choice
(log entries 27 and 29).

EGRESS_START by 11 R407, 12 R437 and R441, 06 R207 and 13 R472: the chosen frame starts at the present time, charged
to its port's and queue's enabled buckets, a precision-time message counted as corrected or not; a frame of an older
epoch, or whose link is down, is dropped and counted. None starts before the transmitter has left low-power idle (12
R451). The start of a fair group's frame sets the group's virtual time to its start tag, and its queue's finish tag to
that plus INC (12 R437). The length charged is the frame's as it is known at the start, and corrections are rounded as
the model chooses (log entries 24 and 29). -/
def Obligations.AdmissionAndStart : Prop :=
  (∀ (s : State) (p : Fin 1024) (fid : Nat) (c : Copy), (s.egr.arriving.find? fun c => c.fid == fid && c.port == p.val) = some c →
    let x := s.frame fid
    let q := s.queueOf fid p.val
    let cell := cellOf p.val
    let r := regEgress p.val q
    let len := s.lengthOf c
    let n := chunksFor len
    let oversize := s.neverFits p.val q len = true
    let pale := x.yellow = true ∧ s.poolAllows cell r 2 = false
    let gone (t : State) : Prop := ∀ d ∈ t.egr.arriving, ¬(d.fid = fid ∧ d.port = p.val)
    ∃ t, exec (.queueAdmit p fid) s = .next t ∧
      (s.portUp p.val = false → t.count 1 p.val 19 = (s.count 1 p.val 19 + 1) % 2 ^ 64 ∧ gone t) ∧
      (s.portUp p.val = true → s.startable c = false → t = s) ∧
      (s.portUp p.val = true → s.startable c = true →
        (oversize → t.count 2 (qkey p.val q) 6 = (s.count 2 (qkey p.val q) 6 + 1) % 2 ^ 64 ∧ gone t) ∧
        (¬oversize → pale → t.count 2 (qkey p.val q) 5 = (s.count 2 (qkey p.val q) 5 + 1) % 2 ^ 64 ∧ gone t) ∧
        (¬oversize → ¬pale → s.hasRoom cell r n = false → t.count 2 (qkey p.val q) 4 = (s.count 2 (qkey p.val q) 4 + 1) % 2 ^ 64 ∧ gone t) ∧
        (¬oversize → ¬pale → s.hasRoom cell r n = true →
          t = { s with egr := t.egr, cel := t.cel, ctr := t.ctr } ∧ gone t ∧ t.bufUse cell r = s.bufUse cell r + n ∧
          (tabGet [] t.egr.queue (qkey p.val q)).getLast? = some { c with queue := q, chunks := n } ∧
          t.count 2 (qkey p.val q) 0 = (s.count 2 (qkey p.val q) 0 + 1) % 2 ^ 64 ∧
          t.count 2 (qkey p.val q) 1 = (s.count 2 (qkey p.val q) 1 + len) % 2 ^ 64))) ∧
  (∀ (s : State) (p : Fin 1024) (x : Tx), s.txOf p.val = some x → x.at_ = none →
    let f := s.frame x.copy.fid
    let old := f.epoch ≠ s.hif.epoch ∧ f.epoch ≠ prevEpoch s.hif.epoch
    let len := s.lengthOf x.copy
    let lc : Int := (len : Int) + egrOverhead (s.frameCfg f) p.val
    let gone (t : State) : Prop := ∀ y, t.txOf p.val = some y → ¬(y.copy.fid = x.copy.fid ∧ y.at_ = none)
    let g := queueGroup (s.portCfg p.val) p.val x.copy.queue
    let st := x.tag.getD (s.vtimeOf p.val g)
    (s.now < (s.port p.val).txReadyAt → exec (.egressStart p) s = .next s) ∧
    ((s.port p.val).txReadyAt ≤ s.now → ∃ t, exec (.egressStart p) s = .next t ∧
      (s.portUp p.val = false → gone t ∧ t.count 1 p.val 19 = (s.count 1 p.val 19 + 1) % 2 ^ 64) ∧
      (s.portUp p.val = true → old → gone t ∧ t.count 1 p.val 18 = (s.count 1 p.val 18 + 1) % 2 ^ 64) ∧
      (s.portUp p.val = true → ¬old →
        t = { s with egr := t.egr, ctr := t.ctr } ∧ t.egr.queue = s.egr.queue ∧
        (∃ y, t.txOf p.val = some y ∧ y.copy = x.copy ∧ y.at_ = some s.stamp ∧ y.charged = len ∧ y.tcDue = f.typeDue) ∧
        ((x.copy.queue < 8 ∨ x.copy.col = true) → (s.shaper p.val 8).on = true → (t.shaper p.val 8).count = (s.shaper p.val 8).count - lc * 65536) ∧
        ((x.copy.queue < 8 ∨ x.copy.col = true) → (s.shaper p.val 8).on = false → t.shaper p.val 8 = s.shaper p.val 8) ∧
        (x.copy.queue < 8 → x.copy.col = true → t.shaper p.val x.copy.queue = s.shaper p.val x.copy.queue) ∧
        (x.copy.queue < 8 → x.copy.col = false → (s.shaper p.val x.copy.queue).on = true →
          (t.shaper p.val x.copy.queue).count = (s.shaper p.val x.copy.queue).count - lc * 65536) ∧
        (x.copy.col = false → g ≠ 0 → t.vtimeOf p.val g = st ∧
          t.finishOf p.val x.copy.queue = (st + fairInc lc (queueWeight (s.portCfg p.val) p.val x.copy.queue)) % 2 ^ 48) ∧
        ((x.copy.col = true ∨ g = 0) → t.egr.vtime = s.egr.vtime ∧ t.egr.finish = s.egr.finish) ∧
        (f.corrected = false → t.ctr = s.ctr) ∧
        (f.corrected = true → (0 ≤ s.residence f p.val ∧ s.residence f p.val ≤ 16000000 * 65536) →
          t.count 15 p.val 0 = (s.count 15 p.val 0 + 1) % 2 ^ 64) ∧
        (f.corrected = true → ¬(0 ≤ s.residence f p.val ∧ s.residence f p.val ≤ 16000000 * 65536) →
          t.count 15 p.val 1 = (s.count 15 p.val 1 + 1) % 2 ^ 64))))

/-- TRANSMIT_SELECT by 12 R435 to R437 and 11 R405 and 06 R209: a frame whose last byte has left ends on the line, stomped
where it is bad, and is counted; a free transmitter takes the oldest Col frame once it may start, else a held
fragment, else the head of an eligible queue of the unit of highest priority; a frame in progress goes on, or is
split: held for a Col frame, or at the close of its gate with the fragment that fits its window (12 R449), its mCRC
last (log entry 103). A preempted frame that ends after its gate has closed is counted late (12 R450). Among the
eligible queues of a fair group the one with the earliest start tag goes, the higher number where two tags are equal,
and each eligible queue without a tag gets the later of its finish tag and the group's virtual time (12 R437); when
the tags are set is read from R437 (log entry 121).

SHAPER_REFILL, GATE_CHANGE and GATE_LIST_START by 12 R440, R442, R444, R446 and R447: each bucket of the port gains
its rate up to its depth, or is full when it becomes enabled; the gates become those of the next entry, or of the
first one in a new cycle; a pending list comes into force. With a list pending no cycle starts at or after the old
list's stop, and a frame whose gate closes meanwhile is marked so (12 R450). When a list that replaces a pending one
starts, and the tags' times, are the model's reading (log entries 121 and 144). -/
def Obligations.Transmission : Prop :=
  ((∀ (s : State) (p : Fin 1024) (sent : Nat), s.txOf p.val = none → s.portUp p.val = true → (s.port p.val).txLpi = false →
    ∃ t, exec (.transmitSelect p sent) s = .next t ∧ t = { s with egr := t.egr, ctr := t.ctr } ∧
      (∀ c, s.nextCol p.val = some c → t.txOf p.val = some { copy := c } ∧ t.egr.queue = s.egr.queue ∧
        tabGet [] t.egr.colq p.val = (tabGet [] s.egr.colq p.val).filter fun d => d.fid != c.fid) ∧
      (s.nextCol p.val = none → ∀ h, tabFind s.egr.heldTx p.val = some h →
        ((h.gateHeld = true ∧ s.gateOpen p.val h.copy.queue = false) → t = s) ∧
        (h.gateHeld = false → h.split = true → s.gateOpen p.val h.copy.queue = false → t.txOf p.val = none ∧
          tabFind t.egr.heldTx p.val = some { h with gateHeld := true } ∧
          t.count 2 (qkey p.val h.copy.queue) 7 = (s.count 2 (qkey p.val h.copy.queue) 7 + 1) % 2 ^ 64) ∧
        ((h.gateHeld = true ∨ h.split = true → s.gateOpen p.val h.copy.queue = true) →
          t.txOf p.val = some { h with frag := h.sent, gateHeld := false
                                       cut := if s.gateOpen p.val h.copy.queue then s.cutAt p.val h.copy h.sent 8 else h.cut } ∧
          tabFind t.egr.heldTx p.val = none ∧
          t.count 1 p.val 17 = (s.count 1 p.val 17 + 1) % 2 ^ 64)) ∧
      (s.nextCol p.val = none → tabFind s.egr.heldTx p.val = none →
        ((s.shaper p.val 8).allows = false → t = s) ∧
        ((s.shaper p.val 8).allows = true → (∀ q, q < 8 → s.eligible p.val q = false) → t.txOf p.val = none ∧ t.egr.queue = s.egr.queue) ∧
        ((s.shaper p.val 8).allows = true → (∃ q, q < 8 ∧ s.eligible p.val q = true) →
          ∃ q c x, q < 8 ∧ s.eligible p.val q = true ∧ s.headOf p.val q = some c ∧ t.txOf p.val = some x ∧ x.copy = c ∧ x.at_ = none ∧
            tabGet [] t.egr.queue (qkey p.val q) = (tabGet [] s.egr.queue (qkey p.val q)).drop 1 ∧
            (∀ j, j < 8 → j ≠ q → tabGet [] t.egr.queue (qkey p.val j) = tabGet [] s.egr.queue (qkey p.val j)) ∧
            (∀ j, j < 8 → s.eligible p.val j = true →
              (unitOf (s.portCfg p.val) p.val j).foldl max 0 ≤ (unitOf (s.portCfg p.val) p.val q).foldl max 0) ∧
            let u := s.retag p.val
            let tag (j : Nat) : Nat := (tabFind u.egr.startTag (qkey p.val j)).getD 0
            x.tag = tabFind u.egr.startTag (qkey p.val q) ∧ tabFind t.egr.startTag (qkey p.val q) = none ∧
            (∀ j, j < 8 → j ≠ q → tabFind t.egr.startTag (qkey p.val j) =
              if queueGroup (s.portCfg p.val) p.val j ≠ 0 ∧ s.eligible p.val j = true then
                some ((tabFind s.egr.startTag (qkey p.val j)).getD
                  (laterTag (s.finishOf p.val j) (s.vtimeOf p.val (queueGroup (s.portCfg p.val) p.val j))))
              else none) ∧
            let rival (j : Nat) : Prop :=
              j < 8 ∧ queueGroup (s.portCfg p.val) p.val j = queueGroup (s.portCfg p.val) p.val q ∧ s.eligible p.val j = true
            ∀ m, m < 2 ^ 48 → queueGroup (s.portCfg p.val) p.val q ≠ 0 →
              (∀ j, rival j → tag j < 2 ^ 48 ∧ (tag j + 2 ^ 48 - m) % 2 ^ 48 < 2 ^ 47) → ∀ j, rival j →
                (tag q + 2 ^ 48 - m) % 2 ^ 48 < (tag j + 2 ^ 48 - m) % 2 ^ 48 ∨ tag q = tag j ∧ j ≤ q))) ∧
  ∀ (s : State) (p : Fin 1024) (sent : Nat) (x : Tx), s.txOf p.val = some x → x.at_ ≠ none →
    let left := max x.sent (min sent x.copy.got)
    let closed := x.split = true ∧ s.gateOpen p.val x.copy.queue = false
    let n := if closed ∧ left ≠ x.copy.got then max x.sent (min x.cut x.copy.got) else left
    let mayCut := s.preempts p.val = true ∧ x.copy.col = false ∧ x.copy.bad = false ∧ fragMin (s.portCfg p.val) p.val ≤ n - x.frag ∧
      n + 60 ≤ s.lengthOf x.copy - 4
    let bytes := (s.lineBytes { x with sent := n }).take n
    let fragment := Out.transmit p.val x.copy.fid (bytes.drop x.frag ++ mcrcOf bytes) false false
    (x.copy.whole = true → n = x.copy.got → ∃ t, exec (.transmitSelect p sent) s = .next t ∧
      t.out = s.out ++ [.transmit p.val x.copy.fid ((s.lineBytes { x with sent := n }).drop x.frag) true x.copy.bad] ∧
      (x.copy.bad = true → t.count 1 p.val 16 = (s.count 1 p.val 16 + 1) % 2 ^ 64) ∧
      (x.copy.bad = false → t.count 1 p.val 12 = (s.count 1 p.val 12 + 1) % 2 ^ 64 ∧
        t.count 1 p.val 13 = (s.count 1 p.val 13 + (s.lineBytes { x with sent := n }).length) % 2 ^ 64) ∧
      (x.copy.col = false → t.count 2 (qkey p.val x.copy.queue) 2 = (s.count 2 (qkey p.val x.copy.queue) 2 + 1) % 2 ^ 64 ∧
        t.count 2 (qkey p.val x.copy.queue) 8 = if x.preempted = true ∧ x.shut = true ∧ x.split = false
          then (s.count 2 (qkey p.val x.copy.queue) 8 + 1) % 2 ^ 64 else s.count 2 (qkey p.val x.copy.queue) 8)) ∧
    (¬(x.copy.whole = true ∧ n = x.copy.got) → s.preempts p.val = false → ∃ t, exec (.transmitSelect p sent) s = .next t ∧
      t = { s with egr := { s.egr with tx := t.egr.tx } } ∧ t.txOf p.val = some { x with sent := n }) ∧
    (¬(x.copy.whole = true ∧ n = x.copy.got) → mayCut → (∀ c, s.nextCol p.val = some c →
      ∃ t h, exec (.transmitSelect p sent) s = .next t ∧ tabFind t.egr.heldTx p.val = some h ∧
        h = { x with sent := n, gateHeld := h.gateHeld, preempted := true } ∧ (h.gateHeld = true ↔ closed) ∧
        (closed → t.count 2 (qkey p.val x.copy.queue) 7 = (s.count 2 (qkey p.val x.copy.queue) 7 + 1) % 2 ^ 64) ∧
        t.txOf p.val = some { copy := c } ∧ t.out = s.out ++ [fragment]) ∧
      (s.nextCol p.val = none → closed → ∃ t, exec (.transmitSelect p sent) s = .next t ∧
        tabFind t.egr.heldTx p.val = some { x with sent := n, gateHeld := true } ∧ t.txOf p.val = none ∧ t.out = s.out ++ [fragment] ∧
        t.count 2 (qkey p.val x.copy.queue) 7 = (s.count 2 (qkey p.val x.copy.queue) 7 + 1) % 2 ^ 64) ∧
      (s.nextCol p.val = none → ¬closed → ∃ t, exec (.transmitSelect p sent) s = .next t ∧
        t = { s with egr := { s.egr with tx := t.egr.tx } } ∧ t.txOf p.val = some { x with sent := n }))) ∧
  ((∀ (s : State) (p : Fin 1024), (s.cell (p.val / 16)).st ≠ .off →
    ∃ t, exec (.shaperRefill p) s = .next t ∧ t = { s with egr := { s.egr with shaper := t.egr.shaper, startTag := t.egr.startTag } } ∧
      (∀ b, b < 9 → let c := shaperCfg (s.portCfg p.val) p.val b
        (t.shaper p.val b).on = c.1 ∧ (t.shaper p.val b).rate = c.2.1 ∧ (t.shaper p.val b).depth = c.2.2 ∧
        (t.shaper p.val b).count = if c.1 = true ∧ (s.shaper p.val b).on = false then (c.2.2 * 65536 : Int)
          else min (c.2.2 * 65536 : Int) ((s.shaper p.val b).count + (c.2.1 * 8192 / 1000 : Nat))) ∧
      ∀ r b, r < 1024 → r ≠ p.val → b < 9 → t.shaper r b = s.shaper r b) ∧
  (∀ (s : State) (p : Fin 1024), let g := s.gateOf p.val
    let l := g.cur.segs
    (g.cur.active = false → exec (.gateChange p) s = .next s) ∧
    (g.cur.active = true → g.entry + 1 < l.length → ∃ t, exec (.gateChange p) s = .next t ∧
      t = { s with egr := { s.egr with gate := t.egr.gate, tx := t.egr.tx, heldTx := t.egr.heldTx, startTag := t.egr.startTag } } ∧
      t.gateOf p.val = { g with entry := g.entry + 1, gates := (l.getD (g.entry + 1) (0, 0)).2 } ∧
        t.txOf p.val = (s.txOf p.val).map (Tx.close (t.gateOf p.val).gates) ∧
        tabFind t.egr.heldTx p.val = (tabFind s.egr.heldTx p.val).map (Tx.close (t.gateOf p.val).gates) ∧
        ∀ r, r ≠ p.val → t.gateOf r = s.gateOf r ∧ t.txOf r = s.txOf r ∧ tabFind t.egr.heldTx r = tabFind s.egr.heldTx r) ∧
    (g.cur.active = true → l.length ≤ g.entry + 1 → g.next ≠ none → g.stopAt ≤ g.cycleStart + g.cur.cycle → exec (.gateChange p) s = .next s) ∧
    (g.cur.active = true → l.length ≤ g.entry + 1 → (g.next = none ∨ g.cycleStart + g.cur.cycle < g.stopAt) → ∃ t, exec (.gateChange p) s = .next t ∧
      t = { s with egr := { s.egr with gate := t.egr.gate, tx := t.egr.tx, heldTx := t.egr.heldTx, startTag := t.egr.startTag } } ∧
      t.gateOf p.val = { g with cycleStart := g.cycleStart + g.cur.cycle, entry := 0, gates := (l.headD (0, 0)).2 } ∧
        t.txOf p.val = (s.txOf p.val).map (Tx.close (t.gateOf p.val).gates) ∧
        tabFind t.egr.heldTx p.val = (tabFind s.egr.heldTx p.val).map (Tx.close (t.gateOf p.val).gates) ∧
        ∀ r, r ≠ p.val → t.gateOf r = s.gateOf r ∧ t.txOf r = s.txOf r ∧ tabFind t.egr.heldTx r = tabFind s.egr.heldTx r)) ∧
  ∀ (s : State) (p : Fin 1024), ((s.gateOf p.val).next = none → exec (.gateListStart p) s = .next s) ∧
    ∀ l start, (s.gateOf p.val).next = some (l, start) →
    ∃ t, exec (.gateListStart p) s = .next t ∧ t = { s with egr := { s.egr with gate := t.egr.gate, tx := t.egr.tx, heldTx := t.egr.heldTx, startTag := t.egr.startTag } } ∧
      (t.gateOf p.val).cur = l ∧ (t.gateOf p.val).next = none ∧ (t.gateOf p.val).entry = 0 ∧
      (l.active = false → (t.gateOf p.val).gates = 0x1FF) ∧
      (l.active = true → (t.gateOf p.val).cycleStart = start ∧ (t.gateOf p.val).gates = (l.segs.headD (0, 0)).2) ∧
        t.txOf p.val = (s.txOf p.val).map (Tx.close (t.gateOf p.val).gates) ∧
        tabFind t.egr.heldTx p.val = (tabFind s.egr.heldTx p.val).map (Tx.close (t.gateOf p.val).gates) ∧
        ∀ r, r ≠ p.val → t.gateOf r = s.gateOf r ∧ t.txOf r = s.txOf r ∧ tabFind t.egr.heldTx r = tabFind s.egr.heldTx r)

/-- PIPELINE_ENTRY, LATE_KEY_ENTRY and RECIRCULATION_PASS by 06 R205, R209 and R213 and 07 R221 to R223, R229, R242 and
R243: a rejected sequence of fragments, a frame beyond MAX_FRAME, a short frame and a pause frame are counted and go
no further; a frame waits for the bytes that its key needs and makes its pass once they are there, or once its last
byte is in; a stripped frame makes a second pass; each pass is counted, and a frame whose action drops it is counted.
Nothing enters before the engines run or once ingress has stopped (03 R104). The entry's length operand, the one count
of a late key in whichever pass, and a frame that stays after its pass for one more byte are the model's reading (log
entries 29, 105, 137 and 143).

TX_DESCRIPTOR_START by 05 R153 to R156, R164, R165 and R181: the ring whose turn it is starts its oldest cached
descriptor; one that fails ends with its status; a copy is made and ends at once; a scan that had stopped for want of
room goes on; a frame for a port waits there with its check sequence, to be admitted to the queue that the descriptor
names. The order of the statuses, and the completion ring that a descriptor in progress reports to, are the model's
reading (log entries 101 and 102). -/
def Obligations.PipelinePasses : Prop :=
  ((∀ (s : State) (p : Fin 1024) (a : Arrival), s.lineOpen p.val = true → a.rejected = true → ∃ t, exec (.pipelineEntry p a) s = .next t ∧
    t = { s with ctr := t.ctr } ∧ t.count 1 p.val 11 = (s.count 1 p.val 11 + 1) % 2 ^ 64 ∧
    (a.fragments ≠ 0 → t.count 1 p.val 10 = (s.count 1 p.val 10 + a.fragments) % 2 ^ 64) ∧
    (portFec (s.portCfg p.val) p.val ≠ 0 → a.fecCorrected ≠ 0 → t.count 1 p.val 20 = (s.count 1 p.val 20 + a.fecCorrected) % 2 ^ 64) ∧
    (portFec (s.portCfg p.val) p.val ≠ 0 → a.fecUncorrected ≠ 0 → t.count 1 p.val 21 = (s.count 1 p.val 21 + a.fecUncorrected) % 2 ^ 64)) ∧
  (∀ (s : State) (p : Fin 1024) (a : Arrival), s.lineOpen p.val = true → a.rejected = false →
    let v := s.countLine p.val a
    let top := maxFrame (s.portCfg p.val) p.val
    let n := s.frm.next
    let cell := p.val / 16
    let c := (s.epochCfg (s.cellEpoch cell)).getD s.stg.cur
    let x : Frame := { data := a.data, line := a.data, pcs := a.pcsErr, port := p.val, length := max a.length a.data.length, epoch := s.cellEpoch cell
                       ts := s.stamp - a.data.length * 8 * 10 ^ 9 * 2 ^ 16 / portRate (s.portCfg p.val) p.val }
    let late := colIngress c p.val = false ∧ 64 < (s.parsed x).needs
    let waits := colIngress c p.val = false ∧ x.data.length < x.length ∧ x.data.length < (s.parsed x).needs
    (top < a.data.length → exec (.pipelineEntry p a) s = .next (v.bump 1 p.val (if a.pcsErr then 7 else 6) 1)) ∧
    (a.data.length ≤ top → a.data.length < 64 → exec (.pipelineEntry p a) s = .next (if a.whole then v.bump 1 p.val 5 1 else v)) ∧
    (64 ≤ a.data.length → a.data.length ≤ top → a.whole = false → isPause a.data = true → ∃ t, exec (.pipelineEntry p a) s = .next t ∧
      t.count 1 p.val 9 = (s.count 1 p.val 9 + 1) % 2 ^ 64 ∧ t.egr = s.egr ∧ t.fab = s.fab) ∧
    (64 ≤ a.data.length → a.data.length ≤ top → a.whole = false → isPause a.data = false →
      (late → ∃ t, exec (.pipelineEntry p a) s = .next t ∧ t.count 5 cell 6 = (s.count 5 cell 6 + 1) % 2 ^ 64) ∧
      (waits → ∃ t, exec (.pipelineEntry p a) s = .next t ∧ n ∈ t.frm.late ∧ t.frm.next = n + 1 ∧
        (late → t.frame n = { x with lateWait := true }) ∧ (¬late → t.frame n = x)) ∧
      (¬waits → ∃ t, exec (.pipelineEntry p a) s = .next t ∧ (n ∈ t.frm.late ↔ (t.frame n).stay ≠ none) ∧ n < t.frm.next ∧
        t.count 5 cell 0 = (s.count 5 cell 0 + 1) % 2 ^ 64 ∧
        (s.tbl.absent = [] →
          let act : Action := { w := (classify c cell p.val (s.parsed x).fmt ((s.parsed x).key p.val false false (colIngress c p.val))).1 }
          act.b 0 11 = true → t.count 5 cell 7 = (s.count 5 cell 7 + 1) % 2 ^ 64)))) ∧
  (∀ (s : State) (fid : Nat) (more : List Byte) (x : Frame), tabFind s.frm.frames fid = some x → s.frm.late.contains fid = true →
    s.cellRuns x.cell = true → s.enginesRun = true →
    let z : Frame := if x.ended then x else { x with data := x.data ++ more.drop x.skip, skip := x.skip - more.length, line := x.line ++ more }
    let y : Frame := if x.recirc then z else { z with epoch := s.cellEpoch x.cell }
    let long := x.ended = false ∧ x.host = none ∧ maxFrame (s.frameCfg x) x.port < x.line.length + more.length
    let late := colIngress (s.frameCfg y) x.port = false ∧ 64 < (s.parsed y).needs
    let waits := y.ended = false ∧ colIngress (s.frameCfg y) x.port = false ∧ y.data.length < y.length ∧ y.data.length < (s.parsed y).needs
    (long → ∃ t, exec (.lateKeyEntry fid more) s = .next t ∧ ((t.frame fid).ended = true ∨ tabFind t.frm.frames fid = none) ∧
      t.count 1 x.port (if x.pcs then 7 else 6) = (s.count 1 x.port (if x.pcs then 7 else 6) + 1) % 2 ^ 64) ∧
    (¬long → x.stay ≠ none → ∃ t, exec (.lateKeyEntry fid more) s = .next t ∧ t.count 5 x.cell 0 = s.count 5 x.cell 0) ∧
    (¬long → x.stay = none → waits → ∃ t, exec (.lateKeyEntry fid more) s = .next t ∧
      t = { s with frm := { s.frm with frames := t.frm.frames }, ctr := t.ctr } ∧
      (late → x.lateWait = false → t.frame fid = { y with lateWait := true } ∧ t.count 5 x.cell 6 = (s.count 5 x.cell 6 + 1) % 2 ^ 64) ∧
      (¬(late ∧ x.lateWait = false) → t.frame fid = y ∧ t.ctr = s.ctr)) ∧
    (¬long → x.stay = none → ¬waits → ∃ t, exec (.lateKeyEntry fid more) s = .next t ∧ (fid ∈ t.frm.late ↔ (t.frame fid).stay ≠ none) ∧
      t.count 5 x.cell 0 = (s.count 5 x.cell 0 + 1) % 2 ^ 64)) ∧
  ∀ (s : State) (fid : Nat) (x : Frame), tabFind s.frm.frames fid = some x → s.frm.recirc.contains fid = true → x.recirc = true →
    s.cellRuns x.cell = true → x.ended = true → s.enginesRun = true → x.stay = none →
    ∃ t, exec (.recirculationPass fid) s = .next t ∧ fid ∉ t.frm.recirc ∧ t.count 5 x.cell 0 = (s.count 5 x.cell 0 + 1) % 2 ^ 64 ∧
      t.count 5 x.cell 1 = (s.count 5 x.cell 1 + 1) % 2 ^ 64) ∧
  (∀ (s : State) (i : Fin 256) (busOk : Bool) (data : List Byte) (scans : List Scan) (d : Desc) (rest : List Desc),
    s.openRound.nextTx = some i.val →
    (s.ring i.val).cache = d :: rest → s.openRound.deferStart i.val d = none → d.status = none →
    (∀ b ∈ (s.ring i.val).busy, b.slot ≠ d.slot) →
    let st := s.openRound.txStatus i.val d busOk
    let read := data.take d.len_ ++ List.replicate (d.len_ - data.length) 0
    ∃ t, exec (.txDescriptorStart i busOk data scans) s = .next t ∧ (∃ more, (t.ring i.val).cache = rest ++ more) ∧
      ((s.ring i.val).scan = false → (t.ring i.val).cache = rest) ∧
      (t.ring i.val).busy.map (fun b => b.slot) = (s.ring i.val).busy.map (fun b => b.slot) ++ [d.slot] ∧
      (st ≠ 0 → (t.ring i.val).busy = (s.ring i.val).busy ++ [{ d with status := some st, cq := Fin.ofNat 64 (s.ring i.val).cq }] ∧ t.egr = s.egr ∧ t.bpm = s.bpm) ∧
      (st = 0 → d.ty = 2 → ∃ b, (t.ring i.val).busy.getLast? = some b ∧ b.status = some 0 ∧ b.len = d.len_ ∧
        t.bpm = (s.bufferWrite (hKey d.handle) d.offset read).bpm) ∧
      (st = 0 → d.ty = 3 → ∃ b, (t.ring i.val).busy.getLast? = some b ∧ b.status = some 0 ∧ (s.crn.pcieUp = true →
        t.out = s.out ++ [.hostBytes (join (wordAt d.data 2) (wordAt d.data 3)) (s.bufferBytes (hKey d.handle) d.offset d.len_).1])) ∧
      (st = 0 → d.ty = 0 → d.f 5 13 13 = 0 →
        (t.ring i.val).busy = (s.ring i.val).busy ++ [{ d with cq := Fin.ofNat 64 (s.ring i.val).cq }] ∧ t.frm.next = s.frm.next + 1 ∧
        t.egr.arriving = s.egr.arriving ++ [{ fid := s.frm.next, port := d.f 5 9 0, got := (withFcs read).length, whole := true }] ∧
        (t.frame s.frm.next).queue = some (d.f 5 12 10) ∧ (t.frame s.frm.next).data = withFcs read))

/-- FRAME_END and HOLD_RELEASE by 06 R203 to R206 and R213: a good frame is counted with its bytes and by its address; a
bad one under the first cause that applies, and ends bad; the oldest stored frame of a port enters, or is lost to an
error of its buffer, with an event. That a frame which had entered goes on through a drain, and that stored frames
wait for their port, are the model's reading (log entries 134 and 142). -/
def Obligations.FrameEnds : Prop :=
  (∀ (s : State) (fid : Nat) (rest : List Byte) (tail : FrameTail) (x : Frame), tabFind s.frm.frames fid = some x → x.ended = false →
    x.mirrorOf = none → x.host = none → s.enginesRun = true →
    let p := x.port
    let all := x.line ++ rest
    let pcs := x.pcs = true ∨ tail = .pcsError ∨ tail = .lockLost
    let long := maxFrame (s.frameCfg x) p < all.length
    let counted (t : State) (i : Nat) : Prop := t.count 1 p i = (s.count 1 p i + 1) % 2 ^ 64
    let group := (all.headD 0).toNat % 2 = 1
    let bcast := all.take 6 = List.replicate 6 0xFF
    ∃ t, exec (.frameEnd fid rest tail) s = .next t ∧ ((t.frame fid).ended = true ∨ tabFind t.frm.frames fid = none) ∧
      (pcs → counted t 7) ∧ (¬pcs → tail = .assemblyError → counted t 11) ∧
      (¬pcs → tail = .complete → long → counted t 6) ∧
      (¬pcs → tail = .complete → ¬long → fcsGood all = false → counted t 4) ∧
      (¬pcs → tail = .complete → ¬long → fcsGood all = true → counted t 0 ∧
        t.count 1 p 1 = (s.count 1 p 1 + all.length) % 2 ^ 64 ∧ (group → ¬bcast → counted t 2) ∧ (bcast → counted t 3))) ∧
  ∀ (s : State) (p : Fin 1024) (h : HeldFrame) (rest : List HeldFrame), (s.port p.val).hold = h :: rest → s.lineOpen p.val = true →
    (∃ t, exec (.holdRelease p true) s = .next t ∧ (t.port p.val).hold = rest ∧
      t.count 1 p.val 7 = (s.count 1 p.val 7 + 1) % 2 ^ 64 ∧ (s.fltRuns = true → t.flt.evt = s.flt.evt ||| srcMask p.val) ∧ t.frm = s.frm) ∧
    ∃ t, exec (.holdRelease p false) s = .next t ∧ (t.port p.val).hold = rest ∧
      let c := (s.epochCfg (s.cellEpoch (p.val / 16))).getD s.stg.cur
      let top := maxFrame (s.portCfg p.val) p.val
      (top < h.data.length → t.count 1 p.val (if h.pcsErr then 7 else 6) = (s.count 1 p.val (if h.pcsErr then 7 else 6) + 1) % 2 ^ 64) ∧
      (h.data.length ≤ top → h.data.length < 64 → t.count 1 p.val 5 = (s.count 1 p.val 5 + 1) % 2 ^ 64) ∧
      (64 ≤ h.data.length → h.data.length ≤ top → isPause h.data = false → t.count 5 (p.val / 16) 0 = (s.count 5 (p.val / 16) 0 + 1) % 2 ^ 64 ∧
        (h.pcsErr = true → t.count 1 p.val 7 = (s.count 1 p.val 7 + 1) % 2 ^ 64) ∧
        (h.pcsErr = false → h.data.length ≤ maxFrame c p.val → fcsGood h.data = true →
          t.count 1 p.val 0 = (s.count 1 p.val 0 + 1) % 2 ^ 64))

/-! ## The time base -/

/-- TIME_STEP by 13 R466 and R480: the first step after a cold start or a reanchor adds the signed offset at the first
SYSCLK25 edge after the command, sets STEPPED, records and answers the stepped time and raises an information event,
and a scheduled rate that is then due takes effect (13 R470); a second one is REFUSED; an offset that leaves the
counter's range is INVALID and steps nothing. -/
def Obligations.TimeBase : Prop :=
  ∀ (s : State) (r q : Req), s.Accepts 0x0A01 r q → q.ExtSize 2 → 2 ≤ q.room →
    let c : Int := (s.tick.tim.ctr : Int) + signed64 (q.f64 4) * 2 ^ 48
    ((c < 0 ∨ 2 ^ 48 * 10 ^ 9 * 2 ^ 48 ≤ c) → exec (.timeStep r) s = .next (s.respond 0x0A01 q stInvalid [])) ∧
    (0 ≤ c → c < 2 ^ 48 * 10 ^ 9 * 2 ^ 48 → s.tim.stepped = true → exec (.timeStep r) s = .next (s.respond 0x0A01 q stRefused [])) ∧
    (0 ≤ c → c < 2 ^ 48 * 10 ^ 9 * 2 ^ 48 → s.tim.stepped = false →
      ∃ u : State, exec (.timeStep r) s = .next (u.respond 0x0A01 q stOk (two u.tim.stepAt)) ∧
        u = { s with tim := u.tim, pmu := u.pmu, flt := u.flt, draw := u.draw, hif := { s.hif with snapCopy := u.hif.snapCopy } } ∧
        (u.tim.ctr : Int) = c ∧ u.tim.stepped = true ∧ u.tim.stepAt = u.now ∧ u.tim.pulse = s.tim.pulse ∧ u.tim.domain = s.tim.domain ∧
        ((s.tim.rateNext = none ∨ ∃ w a, s.tim.rateNext = some (w, a) ∧ s.tick.now < a ∧ u.now < a) →
          u.tim.rate = s.tim.rate ∧ u.tim.rateNext = s.tim.rateNext) ∧
        (∀ w a, s.tim.rateNext = some (w, a) → (s.tick.tim.rateNext = none ∨ a ≤ u.now) → u.tim.rate = w ∧ u.tim.rateNext = none) ∧
        (s.fltRuns = true → u.flt.evt = s.flt.evt ||| srcMask 1130) ∧ u.flt.flt = s.flt.flt ∧
        (s.eventRing 2 0 = none → u.flt.queue = s.flt.queue) ∧
        (s.fltRuns = true → (s.eventRing 2 0).isSome = true → ∃ e : Ev, u.flt.queue = s.flt.queue ++ [e] ∧ e.src = 1130 ∧ e.reason = 1 ∧ e.cls = 0))

/-- TIME_RATE and RATE_CHANGE_APPLY by 13 R470 and R481: a rate outside 500 ppm is INVALID, one beyond the policy's limit
REFUSED; without APPLY_AT the rate is in force from the first edge, and a pending change whose time is that edge after
it; with APPLY_AT the change is pending, in place of another, and answers the first edge at or after it; at that time
it takes effect and is spent. RATE_CHANGE_APPLY is the edge at which it does, and one that comes before it does
nothing (log entry 4). The limit bounds the magnitude of RATE (log entry 86).

TIME_STATUS, TIME_UTC_SET, TIME_TC_SET and TIME_TC_STATS by 13 R482 and R484: the status, the time, the rate, the time
of the step and of the pending change are answered; UTC_OFFSET is set; a port's TC_MODE and LINK_DELAY are staged,
NOT_FOUND without the port; a port's counts of corrected and of skipped messages are answered, NOT_FOUND without the
port (log entry 120).

TIME_REANCHOR by 13 R469: BUSY while a commit is pending; else every gate list, in force, committed or staged, is
gone, every pulse schedule is off and a pin that was high goes low, a pending rate change is cancelled, STEPPED is
clear, and the time domain is the next one; the counter and RATE go on, and source 1130 raises a degraded-class event.
What the journal gets is the model's choice (log entry 23).

TIME_PULSE_SET and PULSE_EDGE by 13 R468, R475 and R477: without STEPPED a schedule is REFUSED; a setting takes effect
on a low pin at once, with its first edge at START, of a periodic one at the first due edge that lies 10 us ahead, and
on a high pin once the pulse has ended; the pin rises at its edge, falls WIDTH later, and rises again PERIOD after it
rose where the schedule is periodic; before the counter has come to the edge nothing happens (log entry 4). That a
single pulse whose START has passed as the pin falls does not begin is the model's choice (log entry 25). -/
def Obligations.TimeDomains : Prop :=
  ((∀ (s : State) (r q : Req), s.Accepts 0x0A02 r q → q.ExtSize 4 → 2 ≤ q.room →
    let v := signed64 (q.f64 4)
    let at_ := q.f64 6
    v ≤ 500000000 → -500000000 ≤ v → (at_ = 0 ∨ s.now + 10000 ≤ at_) →
    (s.img.policy.rateLimit < v.natAbs → exec (.timeRate r) s = .next (s.respond 0x0A02 q stRefused [])) ∧
    (v.natAbs ≤ s.img.policy.rateLimit → at_ = 0 → s.crn.mod ≠ .unpowered → s.crn.mod ≠ .softStart →
      ∃ u : State, exec (.timeRate r) s = .next (u.respond 0x0A02 q stOk (two u.now)) ∧ u = { s with tim := u.tim, pmu := u.pmu, draw := u.draw, hif := { s.hif with snapCopy := u.hif.snapCopy } } ∧
        u.tim.ctr = s.tick.tim.ctr ∧ u.tim.stepped = s.tim.stepped ∧
        ((∀ w a, s.tim.rateNext = some (w, a) → s.tick.now < a) → u.tim.rate = v ∧ u.tim.rateNext = s.tim.rateNext) ∧
        ∀ w a, s.tim.rateNext = some (w, a) → a ≤ s.tick.now → u.tim.rate = w ∧ u.tim.rateNext = none) ∧
    (v.natAbs ≤ s.img.policy.rateLimit → at_ ≠ 0 →
      ∃ (u : State) (k : Nat), exec (.timeRate r) s = .next (u.respond 0x0A02 q stOk
          (two ((s.tim.ctr + k * max 1 s.tim.cycle) / 2 ^ 48 % 2 ^ 64))) ∧
        u = { s with tim := { s.tim with rateNext := some (v, at_) } } ∧ 1 ≤ k ∧ at_ * 2 ^ 48 ≤ s.tim.ctr + k * max 1 s.tim.cycle ∧
        (k ≠ 1 → s.tim.ctr + (k - 1) * max 1 s.tim.cycle < at_ * 2 ^ 48))) ∧
  (∀ (s : State) (r q : Req), s.Accepts 0x0A02 r q → q.ExtSize 4 →
    (signed64 (q.f64 4) < -500000000 ∨ 500000000 < signed64 (q.f64 4)) → exec (.timeRate r) s = .next (s.respond 0x0A02 q stInvalid [])) ∧
  (∀ (s : State) (w : Int) (a : Nat), s.tim.rateNext = some (w, a) → s.crn.mod ≠ .unpowered → s.crn.mod ≠ .softStart →
    (s.tick.now < a → exec .rateChangeApply s = .next s) ∧
    (a ≤ s.tick.now → ∃ t, exec .rateChangeApply s = .next t ∧ t.tim.rate = w ∧ t.tim.rateNext = none ∧ t.now = s.tick.now ∧
      t = { s with tim := t.tim, pmu := t.pmu, draw := t.draw, hif := { s.hif with snapCopy := t.hif.snapCopy } })) ∧
  ∀ s : State, s.tim.rateNext = none → exec .rateChangeApply s = .next s) ∧
  ((∀ (s : State) (r q : Req), s.Accepts 0x0A03 r q → q.ExtSize 0 → 9 ≤ q.room →
    ∃ ws : List Word, exec (.timeStatus r) s = .next (s.respond 0x0A03 q stOk ws) ∧ ws.length = 9 ∧
      (wordAt ws 0).getLsbD 0 = s.tim.stepped ∧ (wordAt ws 0).getLsbD 1 = s.sup.sysclkLost ∧
      ((wordAt ws 0).getLsbD 2 = true ↔ s.tim.lock = BitVec.allOnes 8) ∧ (wordAt ws 0).getLsbD 3 = s.tim.rateNext.isSome ∧
      (s.tim.domain < 256 → fld (wordAt ws 0) 15 8 = s.tim.domain) ∧ join (wordAt ws 1) (wordAt ws 2) = s.now ∧
      (-500000000 ≤ s.tim.rate → s.tim.rate ≤ 500000000 → signed64 (join (wordAt ws 3) (wordAt ws 4)) = s.tim.rate) ∧
      (s.tim.stepAt < 2 ^ 64 → join (wordAt ws 5) (wordAt ws 6) = s.tim.stepAt) ∧
      (s.tim.rateNext = none → join (wordAt ws 7) (wordAt ws 8) = 0) ∧
      ∀ w a, s.tim.rateNext = some (w, a) → a < 2 ^ 64 → join (wordAt ws 7) (wordAt ws 8) = a) ∧
  (∀ (s : State) (r q : Req), s.Accepts 0x0A04 r q → q.f 4 31 8 = 0 → q.ExtSize 1 →
    exec (.timeUtcSet r) s = .next (State.respond 0x0A04 q stOk [] { s with tim := { s.tim with utc := q.f 4 7 0 } })) ∧
  (∀ (s : State) (r q : Req), s.Accepts 0x0A20 r q → q.f 4 31 12 = 0 → q.ExtSize 2 →
    let p := q.f 4 9 0
    (isPort s.stg.staged p = false → exec (.timeTcSet r) s = .next (s.respond 0x0A20 q stNotFound [])) ∧
    (isPort s.stg.staged p = true → ∃ u : State, exec (.timeTcSet r) s = .next (u.respond 0x0A20 q stOk []) ∧
      s.Stages u 0x0A20 q (fun k => k = cfgKey 0x0A20 p) ∧ tcModeOf u.stg.staged p = q.f 4 11 10 ∧
      wordAt (cfgWords u.stg.staged 0x0A20 p (tcDefault p)) 1 = q.w 5)) ∧
  ∀ (s : State) (r q : Req), s.Accepts 0x0A21 r q → q.f 4 31 10 = 0 → q.ExtSize 1 → 4 ≤ q.room →
    (isPort s.stg.staged (q.f 4 9 0) = false → exec (.timeTcStats r) s = .next (s.respond 0x0A21 q stNotFound [])) ∧
    (isPort s.stg.staged (q.f 4 9 0) = true →
      exec (.timeTcStats r) s = .next (s.respond 0x0A21 q stOk (two (s.count 15 (q.f 4 9 0) 0) ++ two (s.count 15 (q.f 4 9 0) 1))))) ∧
  (∀ (s : State) (r q : Req), s.Accepts 0x0A0F r q → q.ExtSize 0 →
    (s.hif.pend = true → exec (.timeReanchor r) s = .next (s.respond 0x0A0F q stBusy [])) ∧
    (s.hif.pend = false → ∃ u : State, exec (.timeReanchor r) s = .next (u.respond 0x0A0F q stOk []) ∧
      u = { s with tim := u.tim, stg := u.stg, egr := { s.egr with gate := [] }, img := u.img, sup := u.sup, flt := u.flt, out := u.out } ∧
      u.tim = { s.tim with
        pulse := []
        rateNext := none
        stepped := false
        stepAt := 0
        domain := min 255 (s.tim.domain + 1) } ∧
      (∀ p, p < 1024 → cfgFind u.stg.cur 0x0903 p = none ∧ cfgFind u.stg.prev 0x0903 p = none ∧ cfgFind u.stg.staged 0x0903 p = none) ∧
      (∀ k, cfgOp k ≠ 0x0903 → tabFind u.stg.cur k = tabFind s.stg.cur k ∧ tabFind u.stg.staged k = tabFind s.stg.staged k) ∧
      (∀ e ∈ s.tim.pulse, e.2.high = true → Out.tpulse e.1 false ∈ u.out) ∧
      (s.fltRuns = true → u.flt.evt = s.flt.evt ||| srcMask 1130) ∧ (s.eventRing 2 1 = none → u.flt.queue = s.flt.queue) ∧
      (s.fltRuns = true → (s.eventRing 2 1).isSome = true → ∃ e : Ev, u.flt.queue = s.flt.queue ++ [e] ∧ e.src = 1130 ∧ e.reason = 2 ∧ e.cls = 1))) ∧
  ((∀ (s : State) (r q : Req), s.Accepts 0x0A10 r q → q.ExtSize 5 → q.f 4 31 5 = 0 → q.f 8 31 30 = 0 →
    let n := q.f 4 2 0
    let m := q.f 4 4 3
    let start := q.f64 5
    let period := q.f 7 31 0
    let width := q.f 8 29 0
    m ≠ 3 → (m = 0 → start = 0 ∧ period = 0 ∧ width = 0) → (m ≠ 0 → 8 ≤ width ∧ width ≤ 1000000000) →
    (m = 1 → period = 0 ∧ s.now + 10000 ≤ start) → (m = 2 → 100 ≤ period ∧ period ≤ 4000000000 ∧ width < period) →
    (m ≠ 0 → s.tim.stepped = false → exec (.timePulseSet r) s = .next (s.respond 0x0A10 q stRefused [])) ∧
    ((m ≠ 0 → s.tim.stepped = true) → ∃ u : State, exec (.timePulseSet r) s = .next (u.respond 0x0A10 q stOk []) ∧
      u = { s with tim := { s.tim with pulse := u.tim.pulse } } ∧ (∀ j, j ≠ n → u.pulseOf j = s.pulseOf j) ∧
      ((s.pulseOf n).high = false → m = 0 → u.pulseOf n = {}) ∧
      (m ≠ 0 → ∃ e, start ≤ e ∧ (m = 1 → e = start) ∧ s.now + 10000 ≤ e ∧
        (m = 2 → (e - start) % period = 0 ∧ (e = start ∨ e < s.now + 10000 + period)) ∧
        let g : PulseSet := { mode := m, start := e, period := period, width := width }
        ((s.pulseOf n).high = false → u.pulseOf n = { cur := g, edge := e }) ∧
        ((s.pulseOf n).high = true → u.pulseOf n = { s.pulseOf n with next := some g })) ∧
      (m = 0 → (s.pulseOf n).high = true → ∃ g : PulseSet, g.mode = 0 ∧ u.pulseOf n = { s.pulseOf n with next := some g }))) ∧
  ∀ (s : State) (n : Fin 8),
    let p := s.pulseOf n.val
    (s.now < p.edge → exec (.pulseEdge n) s = .next s) ∧
    (p.edge ≤ s.now → ∃ t, exec (.pulseEdge n) s = .next t ∧ t = { s with tim := { s.tim with pulse := t.tim.pulse }, out := t.out } ∧
      (∀ j, j ≠ n.val → t.pulseOf j = s.pulseOf j) ∧
      (p.high = false → p.cur.mode = 0 → t = s) ∧
      (p.high = false → p.cur.mode ≠ 0 → t.out = s.out ++ [.tpulse n.val true] ∧ t.pulseOf n.val = { p with
        high := true
        edge := p.edge + p.cur.width }) ∧
      (p.high = true → t.out = s.out ++ [.tpulse n.val false] ∧ (t.pulseOf n.val).high = false) ∧
      (p.high = true → p.next = none → p.cur.mode = 2 → t.pulseOf n.val = { cur := p.cur, edge := p.edge - p.cur.width + p.cur.period }) ∧
      (p.high = true → p.next = none → p.cur.mode ≠ 2 → t.pulseOf n.val = {}) ∧
      ∀ g, p.high = true → p.next = some g →
        (g.mode = 0 → t.pulseOf n.val = {}) ∧ (g.mode = 1 → p.edge ≤ g.start → t.pulseOf n.val = { cur := g, edge := g.start }) ∧
        (g.mode = 1 → g.start < p.edge → t.pulseOf n.val = {}) ∧
        (g.mode = 2 → 0 < g.period → ∃ e, t.pulseOf n.val = { cur := g, edge := e } ∧ p.edge ≤ max e g.start ∧ g.start ≤ e ∧ (e - g.start) % g.period = 0)))

/-- FOLLOWER_LOCK, FOLLOWER_UNLOCK, SYSCLK_LOST, SYSCLK_RETURN, SDSREF_LOSS, SDSREF_RETURN and PEER_DELAY_MEASUREMENT by
13 R463 and R474, 02 R57 and R58 and 16 R538: a follower locks while its domain is powered, or leaves lock with a
fault of its ridge; a lost reference sets its status, raises a live fault, and with the reference of a ridge every
link of the ridge that was up drops; its return clears the status and ends the condition; firmware writes the delay of
a link whose TC_MODE is 2. What a lost SYSCLK25 leaves, and when a reference is present again, are the model's reading
(log entries 86 and 90). -/
def Obligations.ReferenceClocks : Prop :=
  (∀ (s : State) (r : Fin 8), s.cairnRuns = true → ¬(s.crn.mod = .watch ∧ s.crn.trans = none) → ∃ t, exec (.followerLock r) s = .next t ∧
    t = { s with tim := { s.tim with lock := t.tim.lock }, flt := t.flt } ∧ t.tim.lock.getLsbD r.val = true ∧
    (∀ j, j ≠ r.val → t.tim.lock.getLsbD j = s.tim.lock.getLsbD j) ∧ (s.fltRuns = true → (1088 + r.val, 3) ∉ t.flt.live)) ∧
  (∀ (s : State) (r : Fin 8), s.fltRuns = true → s.tim.lock.getLsbD r.val = true → ∃ t, exec (.followerUnlock r) s = .next t ∧
    t = { s with tim := { s.tim with lock := t.tim.lock }, flt := t.flt } ∧ t.tim.lock.getLsbD r.val = false ∧
    (∀ j, j ≠ r.val → t.tim.lock.getLsbD j = s.tim.lock.getLsbD j) ∧ (1088 + r.val, 3) ∈ t.flt.live ∧
    t.flt.flt = s.flt.flt ||| srcMask (1088 + r.val)) ∧
  (∀ s : State, s.cairnRuns = true → s.sup.sysclkLost = false → ∃ t, exec .sysclkLost s = .next t ∧
    t = { s with sup := { s.sup with sysclkLost := true }, flt := t.flt } ∧ (1131, 1) ∈ t.flt.live ∧
    t.flt.evt = s.flt.evt ||| srcMask 1131 ∧ t.flt.flt = s.flt.flt ||| srcMask 1131 ∧
    ∃ u, exec .sysclkReturn t = .next u ∧ u = { s with flt := u.flt } ∧ (1131, 1) ∉ u.flt.live) ∧
  (∀ (s : State) (r : Fin 8), s.tim.sdsref.getLsbD r.val = true → ∃ t, exec (.sdsrefLoss r) s = .next t ∧
    t.tim.sdsref.getLsbD r.val = false ∧ (∀ j, j ≠ r.val → t.tim.sdsref.getLsbD j = s.tim.sdsref.getLsbD j) ∧
    (∀ p, p / 128 = r.val → (t.port p).link ≠ .up) ∧ (∀ p, p / 128 ≠ r.val → t.port p = s.port p) ∧
    (s.fltRuns = true → (1088 + r.val, 2) ∈ t.flt.live ∧ t.flt.flt.getLsbD (1088 + r.val) = true) ∧ t.crn = s.crn ∧ t.stg = s.stg ∧ t.sec = s.sec) ∧
  (∀ (s : State) (r : Fin 8), s.tim.sdsref.getLsbD r.val = false → ∃ t, exec (.sdsrefReturn r) s = .next t ∧
    t = { s with tim := { s.tim with sdsref := t.tim.sdsref }, flt := t.flt } ∧ t.tim.sdsref.getLsbD r.val = true ∧
    (∀ j, j ≠ r.val → t.tim.sdsref.getLsbD j = s.tim.sdsref.getLsbD j) ∧ (s.fltRuns = true → (1088 + r.val, 2) ∉ t.flt.live)) ∧
  ∀ (s : State) (p : Fin 1024) (d : Nat), s.crn.fwRuns = true → tcModeOf (s.portCfg p.val) p.val = 2 → (s.port p.val).link = .up →
    ∃ t, exec (.peerDelayMeasurement p d) s = .next t ∧ t = { s with prt := t.prt } ∧ (∀ c, t.linkDelay c p.val = d % 2 ^ 32) ∧
      ∀ j, j ≠ p.val → t.port j = s.port j

/-! ## Images and security -/

/-- IMG_STATUS, IMG_WRITE and IMG_VERIFY by 14 R494 to R496, R506 and R507: the slots, their anti-rollback numbers and the
journal's use are answered; a write puts its words at the offset of the inactive slot, which reads as all ones
elsewhere after an erase, and ends its verification, and is REFUSED while PFW_N is low or, for firmware, in a trial; a
check that passes marks the slot, and one that fails answers REFUSED with its reason.

IMG_ACTIVATE and FW_CONFIRM by 14 R494 to R496: activation is REFUSED without a verified slot, while PFW_N is low and
in a trial, and of a policy that a setting in force or staged breaks, with the record's type; a policy is staged for
the next COMMIT; firmware starts a trial at the next reset, or at once with RESET_NOW, which seals the journal first
(14 R497; log entry 51); FW_CONFIRM makes the trial slot the active one and burns its anti-rollback number, fuse by
fuse (15 R510). A fuse that reads back wrong does not count, and a loss of power leaves the fuses burned so far: how a
burn goes is the command's operand, and what is answered when one fuse reads back wrong is the model's choice (log
entry 152).

JOURNAL_SET, JOURNAL_SEAL and JOURNAL_SEAL_DONE by 14 R497, R499, R501 and R506, 02 R65 and R69 and 18 R591: turned
on, the journal begins with a checkpoint of what is committed, in segments newer than every other one and sealed, the
first of which has CHECKPOINT set (that a checkpoint goes on in further segments is log entry 150); turned off, its
open segment is sealed; a seal that begins closes the open segment and saves the counts of the lifetime, and one that
completes gives every segment under seal its trailer and sets SEALED while PFW_N is low. -/
def Obligations.Images : Prop :=
  ((∀ (s : State) (r q : Req), s.Accepts 0x0B01 r q → q.ExtSize 0 → 5 ≤ q.room →
    ∃ ws : List Word, exec (.imgStatus r) s = .next (s.respond 0x0B01 q stOk ws) ∧ ws.length = 5 ∧
      wordAt ws 1 = wd s.hif.fwVersion ∧ wordAt ws 2 = wd s.img.polVersion ∧ wordAt ws 3 = wd s.img.policy.requiredBl ∧
      wordAt ws 4 = wd s.journalUsed ∧
      (s.img.fwActive < 2 → s.img.polActive < 2 → s.sec.fwArb < 128 → s.sec.polArb < 128 →
        fld (wordAt ws 0) 0 0 = s.img.fwActive ∧ (wordAt ws 0).getLsbD 1 = s.trialRuns ∧ (wordAt ws 0).getLsbD 2 = s.img.reverted ∧
        fld (wordAt ws 0) 3 3 = s.img.polActive ∧ (wordAt ws 0).getLsbD 4 = s.img.journaling ∧ fld (wordAt ws 0) 11 5 = s.sec.fwArb ∧
        fld (wordAt ws 0) 18 12 = s.sec.polArb)) ∧
  (∀ (s : State) (r q : Req), s.Accepts 0x0B02 r q → q.extCmd = true → 3 ≤ q.size → q.size ≤ 16386 → q.f 4 31 2 = 0 →
    let policy : Bool := q.f 4 0 0 = 1
    let off := (q.w 5).toNat
    off % 256 = 0 → off + 4 * (q.size - 2) ≤ slotBytes policy →
    ((s.pfwLow = true ∨ policy = false ∧ s.trialRuns = true) → exec (.imgWrite r) s = .next (s.respond 0x0B02 q stRefused [])) ∧
    (s.pfwLow = false → (policy = false → s.trialRuns = false) →
      ∃ u : State, exec (.imgWrite r) s = .next (u.respond 0x0B02 q stOk []) ∧
        u = { s with img := { s.img with
          fw := u.img.fw
          pol := u.img.pol } } ∧
        (policy = true → u.img.fw = s.img.fw ∧ u.polSlot s.img.polActive = s.polSlot s.img.polActive) ∧
        (policy = false → u.img.pol = s.img.pol ∧ u.fwSlot s.img.fwActive = s.fwSlot s.img.fwActive) ∧
        (u.inactive policy).verified = false ∧
        (∀ i, i < q.size - 2 → (u.inactive policy).word (off / 4 + i) = q.w (6 + i)) ∧
        ∀ j, (j < off / 4 ∨ off / 4 + (q.size - 2) ≤ j) → (u.inactive policy).word j =
          if q.f 4 1 1 = 1 then 0xFFFFFFFF else (s.inactive policy).word j)) ∧
  ∀ (s : State) (r q : Req), s.Accepts 0x0B03 r q → q.f 4 31 1 = 0 → q.ExtSize 1 →
    let policy : Bool := q.f 4 0 0 = 1
    let reason := s.verifyReason policy (s.inactive policy)
    ∃ u : State, exec (.imgVerify r) s =
        .next (if reason = 0 then u.respond 0x0B03 q stOk [] else u.respond 0x0B03 q stRefused [wd reason]) ∧
      u = { s with img := { s.img with
        fw := u.img.fw
        pol := u.img.pol } } ∧
      u.inactive policy = { s.inactive policy with verified := decide (reason = 0) } ∧
      (policy = true → u.img.fw = s.img.fw ∧ u.polSlot s.img.polActive = s.polSlot s.img.polActive) ∧
      (policy = false → u.img.pol = s.img.pol ∧ u.fwSlot s.img.fwActive = s.fwSlot s.img.fwActive)) ∧
  ((∀ (s : State) (r q : Req), s.Accepts 0x0B04 r q → q.f 4 31 2 = 0 → q.f 4 1 0 ≠ 3 → q.ExtSize 1 →
    let policy : Bool := q.f 4 0 0 = 1
    let g := s.inactive policy
    let pol := g.policy.getD {}
    ((s.pfwLow = true ∨ g.verified = false ∨ policy = false ∧ s.trialRuns = true) →
      exec (.imgActivate r) s = .next (s.respond 0x0B04 q stRefused [])) ∧
    (s.pfwLow = false → g.verified = true → policy = true → (∃ ty ∈ g.recordTypes, s.breaks pol ty = true) →
      ∃ ty, ty ∈ g.recordTypes ∧ s.breaks pol ty = true ∧ exec (.imgActivate r) s = .next (s.respond 0x0B04 q stRefused [wd ty])) ∧
    (s.pfwLow = false → g.verified = true → policy = true → (∀ ty ∈ g.recordTypes, s.breaks pol ty = false) →
      exec (.imgActivate r) s = .next (State.respond 0x0B04 q stOk [] { s with
        img := { s.img with
          reverted := false
          polStaged := some (1 - s.img.polActive, g) }
        stg := { s.stg with flag := true } })) ∧
    (s.pfwLow = false → g.verified = true → policy = false → s.trialRuns = false → q.f 4 1 1 = 0 →
      exec (.imgActivate r) s = .next (State.respond 0x0B04 q stOk [] { s with img := { s.img with
        trial := true
        reverted := false } })) ∧
    (s.pfwLow = false → g.verified = true → policy = false → s.trialRuns = false → q.f 4 1 1 = 1 →
      ∃ t, exec (.imgActivate r) s = .next t ∧ t.img.trial = true ∧ t.img.reverted = false ∧ t.img.open_ = none ∧ t.crn.fwRuns = false ∧
        ∃ x, t.crn.trans = some x ∧ x.kind = .reset .warm ∧ x.back = s.resetTarget ∧ x.phase = 0)) ∧
  ∀ (s : State) (r q : Req) (b : Burn), s.Accepts 0x0B05 r q → q.ExtSize 0 →
    let arb := (s.fwSlot s.img.fwBank).arb
    let confirmed (n : Nat) : State := { s with
      sec := { s.sec with fwArb := n }
      img := { s.img with
        trial := false
        fwActive := s.img.fwBank } }
    (s.pfwLow = true → exec (.fwConfirm r b) s = .next (s.respond 0x0B05 q stRefused [])) ∧
    (s.pfwLow = false → s.trialRuns = false → exec (.fwConfirm r b) s = .next (s.respond 0x0B05 q stOk [])) ∧
    (s.pfwLow = false → s.trialRuns = true → b.cut = none → (b.wrong = false ∨ arb ≤ s.sec.fwArb) →
      exec (.fwConfirm r b) s = .next ((confirmed (max s.sec.fwArb arb)).respond 0x0B05 q stOk [])) ∧
    (s.pfwLow = false → s.trialRuns = true → b.cut = none → b.wrong = true → s.sec.fwArb < arb → s.crn.fwRuns = true →
      ∃ u : State, exec (.fwConfirm r b) s = .next (u.respond 0x0B05 q stOk []) ∧ u = { confirmed (arb - 1) with flt := u.flt } ∧
        u.flt.evt = s.flt.evt ||| srcMask 1137) ∧
    (∀ k, s.pfwLow = false → s.trialRuns = true → b = { cut := some k } → s.sec.fwArb + k < arb →
      ∃ t, exec (.fwConfirm r b) s = .next t ∧ t.crn.mod = .unpowered ∧ t.sec.fwArb = s.sec.fwArb + k ∧ t.img.fwActive = s.img.fwActive)) ∧
  ((∀ (s : State) (r q : Req), s.Accepts 0x0B06 r q → q.f 4 31 1 = 0 → q.ExtSize 1 →
    ∃ u : State, exec (.journalSet r) s = .next (u.respond 0x0B06 q stOk []) ∧
      (u.img.journaling = true ↔ q.f 4 0 0 = 1) ∧
      ((q.f 4 0 0 = 1 ↔ s.img.journaling = true) → u = s) ∧
      (¬(q.f 4 0 0 = 1 ↔ s.img.journaling = true) → u = { s.saveLife with img := u.img } ∧ u.img.open_ = none ∧ ∀ g ∈ u.img.segs, g.sealing = false) ∧
      (q.f 4 0 0 = 1 → s.img.journaling = false → (∀ g ∈ s.img.segs, g.number < s.img.nextSeg) →
        (∀ g ∈ u.img.segs, s.img.nextSeg ≤ g.number ∧ g.number < u.img.nextSeg ∧ g.bank = g.number % 2 ∧ g.sealedAt = some s.now) ∧
        (∃ g l, u.img.segs = g :: l ∧ g.checkpoint = true ∧ ∀ x ∈ l, x.checkpoint = false) ∧
        u.img.segs.flatMap (fun g => g.records) = checkpointRecords s.stg.cur s.stg.imm) ∧
      (q.f 4 0 0 = 0 → s.img.journaling = true →
        ∀ g, s.img.open_ = some g → u.img.segs.length = s.img.segs.length + 1 ∧ u.img.segs.getLast? = some { g with
          sealing := false
          sealedAt := some s.now })) ∧
  (∀ s : State, s.crn.fwRuns = true → ∃ t, exec .journalSeal s = .next t ∧ t = { s.saveLife with img := t.img } ∧ t.img.open_ = none ∧
    (∀ g, s.img.open_ = some g → t.img = { s.img with
      open_ := none
      segs := s.img.segs ++ [{ g with sealing := true }] }) ∧
    (s.img.open_ = none → t.img = s.img)) ∧
  ∀ s : State, s.cairnRuns = true → (s.crn.wdDeferred = true → s.sup.pfw = false) →
    ∃ t, exec .journalSealDone s = .next t ∧ t = { s with img := t.img, sup := { s.sup with sealed := s.sup.pfw } } ∧
      t.img.segs.length = s.img.segs.length ∧ t.img.open_ = s.img.open_ ∧
      (∀ (i : Nat) (g : Segment), s.img.segs[i]? = some g → (g.sealing = false → t.img.segs[i]? = some g) ∧
        (g.sealing = true → t.img.segs[i]? = some { g with
          sealing := false
          sealedAt := some s.now })))

/-- SEC_STATUS, SEC_NONCE, SEC_CERT_READ and SEC_ATTEST by 15 R515, R519, R521, R530, R533 and R534: the states of the
owner slots and the debug port are answered; a nonce of eight fresh words belongs to the session and replaces an older
one; a certificate is read from an offset inside it; the report of 149 words carries the verifier's nonce, which may
not be all zero, and is signed by the attestation key of what runs; a message from a slot has a LENGTH of 20. The
flash that holds the certificates and the secrets in OTP are not stated, and are free values (log entries 6, 151). -/
def Obligations.Attestation : Prop :=
  (∀ (s : State) (r q : Req), s.Accepts 0x0C01 r q → q.ExtSize 0 → 18 ≤ q.room →
    ∃ ws : List Word, exec (.secStatus r) s = .next (s.respond 0x0C01 q stOk ws) ∧ ws.length = 18 ∧
      fld (wordAt ws 0) 3 0 = s.sec.enrolled.toNat ∧ fld (wordAt ws 0) 7 4 = s.sec.revoked.toNat ∧
      (∀ k, k < 4 → (wordAt ws 0).getLsbD (8 + k) = s.sec.spoiled k) ∧ fld (wordAt ws 0) 13 12 = s.jtagState ∧
      (wordAt ws 0).getLsbD 14 = s.lockout ∧ (s.sec.unlocks < 256 → fld (wordAt ws 0) 23 16 = s.sec.unlocks) ∧
      (s.sec.fwArb < 128 → s.sec.polArb < 128 → fld (wordAt ws 3) 6 0 = s.sec.fwArb ∧ fld (wordAt ws 3) 13 7 = s.sec.polArb) ∧
      join (wordAt ws 1) (wordAt ws 2) = Config.serial.toNat ∧ (s.sec.armUntil < 2 ^ 64 → join (wordAt ws 4) (wordAt ws 5) = s.sec.armUntil) ∧
      ws.drop 6 = Config.dreisaDigest.toList) ∧
  (∀ (s : State) (r q : Req), s.Accepts 0x0C02 r q → q.ExtSize 0 → 8 ≤ q.room →
    ∃ (u : State) (ws : List Word), exec (.secNonce r) s = .next (u.respond 0x0C02 q stOk ws) ∧ ws.length = 8 ∧
      u = { s with hif := { s.hif with sessions := u.hif.sessions }, draw := s.draw + 8 } ∧
      u.hif.sessions = s.hif.sessions.map fun e => if e.id = q.session then { e with nonce := some (ws, s.upNs) } else e) ∧
  (∀ (s : State) (r q : Req), s.Accepts 0x0C05 r q → q.f 4 31 2 = 0 → q.f 4 1 0 ≠ 3 → q.ExtSize 2 → 3 ≤ q.room →
    let c := certificate (q.f 4 1 0)
    let part := (c.drop (q.w 5).toNat).take (4 * (q.room - 2))
    (c.length ≤ (q.w 5).toNat → exec (.secCertRead r) s = .next (s.respond 0x0C05 q stInvalid [])) ∧
    ((q.w 5).toNat < c.length →
      exec (.secCertRead r) s = .next (s.respond 0x0C05 q stOk (wd c.length :: wd part.length :: bytesToWords part)))) ∧
  ∀ (s : State) (r q : Req), s.Accepts 0x0C06 r q → q.ExtSize 8 → 149 ≤ q.room →
    let nonce := (List.range 8).map fun i => q.w (4 + i)
    let short := q.extRsp = true ∧ q.extCmd = false ∧ q.length ≠ 20
    ((∀ w ∈ nonce, w = 0) ∨ short → exec (.secAttest r) s = .next (s.respond 0x0C06 q stInvalid [])) ∧
    ((∃ w ∈ nonce, w ≠ 0) → ¬short → ∃ ws : List Word, exec (.secAttest r) s = .next (s.respond 0x0C06 q stOk ws) ∧ ws.length = 149 ∧
      wordAt ws 0 = 0x1A7E5 ∧ join (wordAt ws 4) (wordAt ws 5) = s.now ∧ (ws.drop 6).take 8 = nonce ∧
      (ws.drop 77).take 24 = (akPub (toDigest s.img.m1)).toList ∧
      (ws.drop 125).take 24 = (akSign (toDigest s.img.m1) (sha384 (wordsToBytes (ws.take 125)))).toList)

/-- SEC_OWNER_ENROLL by 15 R520 to R523 and R531: with FIRST, for a module that has no owner and from a local host alone;
else with the authorization of an owner, whose nonce is spent whatever the answer; an enrolled slot EXISTS and a
spoiled one is REFUSED, as everything is while PFW_N is low; otherwise the key's digest is burned and the slot
enrolled. A loss of power during the burn leaves the fuses burned so far and a slot that is not enrolled (15 R510).
That FIRST with a SIGNER or SIG that is not zero is INVALID (log entry 39), the order of the refusals (log entry 46),
that a fuse write takes place as the command's operand says (log entry 47), that a digest that reads back wrong is
answered PARTIAL (log entry 152), and under which key an enrollment that carries only the new key is signed (log entry
153) are the model's reading.

SEC_OWNER_REVOKE and SEC_DEBUG_ARM by 15 R523, R527, R532 and R535: each needs an owner's authorization and spends its
nonce; a slot that is not enrolled is NOT_FOUND, one already revoked answers OK, the last usable one and one whose key
the policy needs are REFUSED; a revoked slot's remote channels close; an arm, which a module without an owner refuses,
sets the scope and the end of the window in which the debug port may be unlocked. The order of the refusals (log entry
46) and what a fuse that reads back wrong leaves, the slot as it was and PARTIAL (log entries 47, 152), are the
model's reading. -/
def Obligations.OwnerKeys : Prop :=
  ((∀ (s : State) (r q : Req), s.Accepts 0x0C03 r q → q.size = 49 → q.f 4 31 5 = 0 →
    (q.f 4 4 4 = 1 ↔ s.sec.anyOwner = true) → ∀ b, exec (.secOwnerEnroll r b) s = .next (s.respond 0x0C03 q stInvalid [])) ∧
  (∀ (s : State) (r q : Req), s.Accepts 0x0C03 r q → q.size = 49 → q.f 4 31 5 = 0 → q.f 4 4 4 = 1 → s.sec.anyOwner = false →
    q.f 4 3 2 = 0 → (∀ i, i < 24 → q.w (29 + i) = 0) →
    let k := q.f 4 1 0
    (((∃ c, q.via = .remote c) ∨ s.pfwLow = true ∨ s.sec.spoiled k = true) →
      ∀ b, exec (.secOwnerEnroll r b) s = .next (s.respond 0x0C03 q stRefused [])) ∧
    ((∀ c, q.via ≠ .remote c) → s.pfwLow = false → s.sec.spoiled k = false →
      ∃ u : State, exec (.secOwnerEnroll r {}) s = .next (u.respond 0x0C03 q stOk []) ∧
        u = { s with sec := { s.sec with
          ownerDigest := u.sec.ownerDigest
          enrolled := BitVec.ofNat 4 (2 ^ k) } } ∧
        tabFind u.sec.ownerDigest k = some (sha384 (wordsToBytes (reqWords q 5 24))).toList ∧
        ∀ j, j ≠ k → tabFind u.sec.ownerDigest j = tabFind s.sec.ownerDigest j) ∧
    ((∀ c, q.via ≠ .remote c) → s.pfwLow = false → s.sec.spoiled k = false →
      let d := keyDigest (reqWords q 5 24)
      (∃ u : State, exec (.secOwnerEnroll r { wrong := true }) s = .next (u.respond 0x0C03 q stPartial []) ∧
        u = { s with sec := { s.sec with ownerDigest := tabIns k (burnWords (fuseCount d - 1) d) s.sec.ownerDigest }, flt := u.flt } ∧
        (s.crn.fwRuns = true → u.flt.evt = s.flt.evt ||| srcMask 1137)) ∧
      (∀ n, tabFind s.sec.ownerDigest k = none → n < fuseCount d → ∃ t, exec (.secOwnerEnroll r { cut := some n }) s = .next t ∧
        t.crn.mod = .unpowered ∧ t.sec.enrolled = s.sec.enrolled ∧ tabFind t.sec.ownerDigest k = some (burnWords n d)))) ∧
  ∀ (s : State) (r q : Req), s.Accepts 0x0C03 r q → q.size = 49 → q.f 4 31 5 = 0 → q.f 4 4 4 = 0 → s.sec.anyOwner = true →
    let k := q.f 4 1 0
    let signed := s.OwnerSigned 0x0C03 q (q.f 4 3 2) 5
    ∃ (u : State) (st : Nat), exec (.secOwnerEnroll r {}) s = .next (u.respond 0x0C03 q st []) ∧ s.SpendsNonce u q ∧
      u = { s with hif := u.hif, sec := u.sec } ∧
      ((¬signed ∨ s.pfwLow = true) → st = stRefused ∧ u.sec = s.sec) ∧
      (signed → s.pfwLow = false → s.sec.enrolled.getLsbD k = true → st = stExists ∧ u.sec = s.sec) ∧
      (signed → s.pfwLow = false → s.sec.enrolled.getLsbD k = false → s.sec.spoiled k = true → st = stRefused ∧ u.sec = s.sec) ∧
      (signed → s.pfwLow = false → s.sec.enrolled.getLsbD k = false → s.sec.spoiled k = false → st = stOk ∧
        u.sec = { s.sec with
          ownerDigest := u.sec.ownerDigest
          enrolled := s.sec.enrolled ||| BitVec.ofNat 4 (2 ^ k) } ∧
        tabFind u.sec.ownerDigest k = some (sha384 (wordsToBytes (reqWords q 5 24))).toList ∧
        ∀ j, j ≠ k → tabFind u.sec.ownerDigest j = tabFind s.sec.ownerDigest j)) ∧
  ((∀ (s : State) (r q : Req), s.Accepts 0x0C04 r q → q.size = 49 → q.f 4 31 4 = 0 →
    let k := q.f 4 1 0
    let signed := s.OwnerSigned 0x0C04 q (q.f 4 3 2) 5
    let last := ∀ j, j < 4 → j ≠ k → s.sec.usable j = false
    ∃ (u : State) (st : Nat), exec (.secOwnerRevoke r {}) s = .next (u.respond 0x0C04 q st []) ∧ u = { s with hif := u.hif, sec := u.sec } ∧
      ((¬signed ∨ s.pfwLow = true) → st = stRefused ∧ u.sec = s.sec ∧ s.SpendsNonce u q) ∧
      (signed → s.pfwLow = false → s.sec.enrolled.getLsbD k = false → st = stNotFound ∧ u.sec = s.sec ∧ s.SpendsNonce u q) ∧
      (signed → s.pfwLow = false → s.sec.enrolled.getLsbD k = true → s.sec.revoked.getLsbD k = true →
        st = stOk ∧ u.sec = s.sec ∧ s.SpendsNonce u q) ∧
      (signed → s.pfwLow = false → s.sec.enrolled.getLsbD k = true → s.sec.revoked.getLsbD k = false → (last ∨ s.keyInUse k = true) →
        st = stRefused ∧ u.sec = s.sec ∧ s.SpendsNonce u q) ∧
      (signed → s.pfwLow = false → s.sec.enrolled.getLsbD k = true → s.sec.revoked.getLsbD k = false → ¬last → s.keyInUse k = false →
        st = stOk ∧ u.sec = { s.sec with revoked := s.sec.revoked ||| BitVec.ofNat 4 (2 ^ k) } ∧
        u.hif.channels = s.hif.channels.filter (fun c => c.owner != k) ∧
        ∀ e ∈ u.hif.sessions, e.id = q.session → e.nonce = none) ∧
      (signed → s.pfwLow = false → s.sec.enrolled.getLsbD k = true → s.sec.revoked.getLsbD k = false → ¬last → s.keyInUse k = false →
        ∃ v : State, exec (.secOwnerRevoke r { wrong := true }) s = .next (v.respond 0x0C04 q stPartial []) ∧ s.SpendsNonce v q ∧
          v = { s with hif := v.hif, flt := v.flt } ∧ (s.crn.fwRuns = true → v.flt.evt = s.flt.evt ||| srcMask 1137))) ∧
  (∀ (s : State) (r q : Req), s.Accepts 0x0C07 r q → q.f 4 31 4 = 0 → q.f 5 31 12 = 0 → q.ExtSize 50 →
    (q.f 4 3 2 = 0 ∨ q.f 4 3 2 = 3 ∨ q.f 5 11 0 = 0 ∨ 3600 < q.f 5 11 0) →
    exec (.secDebugArm r) s = .next (s.respond 0x0C07 q stInvalid [])) ∧
  (∀ (s : State) (r q : Req), s.Accepts 0x0C07 r q → q.f 4 31 4 = 0 → q.f 5 31 12 = 0 → q.ExtSize 50 →
    1 ≤ q.f 4 3 2 → q.f 4 3 2 ≤ 2 → 1 ≤ q.f 5 11 0 → q.f 5 11 0 ≤ 3600 →
    let signed := s.OwnerSigned 0x0C07 q (q.f 4 1 0) 6
    ∃ (u : State) (st : Nat), exec (.secDebugArm r) s = .next (u.respond 0x0C07 q st []) ∧ u = { s with hif := u.hif, sec := u.sec } ∧
      s.SpendsNonce u q ∧ (¬signed ∨ s.sec.anyOwner = false → st = stRefused ∧ u.sec = s.sec) ∧
      (signed → s.sec.anyOwner = true → st = stOk ∧ u.sec = { s.sec with
        armScope := q.f 4 3 2
        armUntil := (s.now + q.f 5 11 0 * 10 ^ 9) % 2 ^ 64 })) ∧
  ∀ (s : State) (r q : Req), s.Accepts 0x0C08 r q → q.ExtSize 0 →
    exec (.secDebugLock r) s = .next (State.respond 0x0C08 q stOk [] { s with sec := { s.sec with
      unlocked := 0
      armScope := 0
      armUntil := 0 } }))

/-- UNLOCK_CHALLENGE, UNLOCK_RESPONSE, NONCE_LAPSE, DEBUG_NONCE_LAPSE and DEBUG_ARM_END by 15 R521 and R526 to R528: the
port gives its serial number and a fresh nonce of eight words; a response to a live nonce that Dreisa's key has signed
for its scope, within the owners' arm where there are owners, unlocks that scope and is counted and reported; every
other one counts as a failure and raises a degraded event, and after the eighth the port answers no more; a nonce is
spent by one response, and lapses after 600 s, a session's after 60 s. That the nonce is a free value (log entry 3)
and that scope 2 takes in scope 1 (log entry 47) are the model's choice. -/
def Obligations.DebugPort : Prop :=
  (∀ s : State, s.cairnRuns = true → s.sec.failures < 8 →
    ∃ (t : State) (n : List Word), exec .unlockChallenge s = .next t ∧ n.length = 8 ∧
      t = { s with
        sec := { s.sec with nonce := some (n, s.upNs) }
        draw := s.draw + 8
        out := s.out ++ [.jtag (two Config.serial.toNat ++ n)] }) ∧
  (∀ (s : State) (scope : Nat) (key sig : List Word), 8 ≤ s.sec.failures →
    exec .unlockChallenge s = .next s ∧ exec (.unlockResponse scope key sig) s = .next s) ∧
  (∀ (s : State) (scope : Nat) (key sig : List Word), s.cairnRuns = true → s.sec.failures < 8 →
    let good := ∃ n t, s.sec.nonce = some (n, t) ∧ s.upNs < t + 600 * 10 ^ 9 ∧ (scope = 1 ∨ scope = 2) ∧
      sha384 (wordsToBytes key) = Config.dreisaDigest ∧
      ecdsaVerify key (sha384 (ascii "QORLON-DBG" ++ serialBytes ++ wordsToBytes n ++ leBytes 1 scope)) sig = true ∧
      (s.sec.anyOwner = true → s.now < s.sec.armUntil ∧ scope ≤ s.sec.armScope)
    ∃ t, exec (.unlockResponse scope key sig) s = .next t ∧ t = { s with sec := t.sec, flt := t.flt } ∧
      (good → t.sec = { s.sec with
          nonce := none
          unlocked := max s.sec.unlocked scope
          unlocks := min 255 (s.sec.unlocks + 1) } ∧ (s.fltRuns = true → t.flt.evt = s.flt.evt ||| srcMask 1151 ∧ t.flt.flt = s.flt.flt)) ∧
      (¬good → t.sec = { s.sec with
          nonce := none
          failures := s.sec.failures + 1 } ∧
        (s.fltRuns = true → t.flt.evt = s.flt.evt ||| srcMask 1151 ∧
          ((s.eventRing 2 1).isSome = true → ∃ e : Ev, t.flt.queue[s.flt.queue.length]? = some e ∧ e.src = 1151 ∧ e.reason = 2 ∧ e.cls = 1) ∧
          (s.sec.failures < 7 → t.flt.flt = s.flt.flt ∧ t.flt.live = s.flt.live) ∧
          (s.sec.failures = 7 → (1151, 3) ∈ t.flt.live ∧ t.flt.flt = s.flt.flt ||| srcMask 1151)))) ∧
  (∀ (s : State) (n : List Word) (t : Nat), s.sec.nonce = some (n, t) →
    exec .debugNonceLapse s = .next (if t + 600 * 10 ^ 9 ≤ s.upNs then { s with sec := { s.sec with nonce := none } } else s)) ∧
  (∀ s : State, exec .debugArmEnd s = .next (if s.sec.armScope ≠ 0 ∧ s.sec.armUntil ≤ s.now then
    { s with sec := { s.sec with
      armScope := 0
      armUntil := 0 } } else s)) ∧
  ∀ (s : State) (id : Nat), ∃ t, exec (.nonceLapse id) s = .next t ∧ t = { s with hif := { s.hif with sessions := t.hif.sessions } } ∧
    t.hif.sessions.length = s.hif.sessions.length ∧
    ∀ (i : Nat) (e : Session), s.hif.sessions[i]? = some e →
      (∀ n a, e.id = id → e.nonce = some (n, a) → a + 60 * 10 ^ 9 ≤ s.upNs → t.hif.sessions[i]? = some { e with nonce := none }) ∧
      ((e.id ≠ id ∨ ∀ n a, e.nonce = some (n, a) → s.upNs < a + 60 * 10 ^ 9) → t.hif.sessions[i]? = some e)

/-- REMOTE_DATAGRAM and REMOTE_SESSION_TIMEOUT by 04 R130 to R132: a datagram of no channel, of another form, that does
not open, or whose SEQ lies more than 64 below the highest, is discarded, counted and reported; one whose SEQ has been
accepted is answered from the kept response, if there is one (log entry 97); a new one is kept, and its message
executes at once or waits. A channel with no accepted datagram for 600 s closes with its sessions. Which of several
messages executes (log entry 42), that the count of discards stops at its top (log entry 96), and reserved bits and
repeated numbers (log entry 97) are the model's reading, as is the GCC core that reports (log entry 3).

KEY_AGREEMENT_INIT, KEY_AGREEMENT_FINISH and PENDING_AGREEMENT_EXPIRY by 15 R524 and R525: an INIT from an address
that the policy does not name, of another form, or beyond four channels is discarded and reported; another one is
answered with the module's part and pends, the oldest of four that have not lapsed giving way; a FINISH of a pending
agreement that an owner has signed opens the channel with the keys of each direction, one that no owner has signed
opens none, and both end the agreement; 2 s after its answer an agreement lapses. The number of a channel (log entry
14), the ephemeral key and the salt (log entry 3), the module's and the owner's keys (log entry 6) and that a FINISH
may open a fifth channel (log entry 45) are the model's choice. -/
def Obligations.RemoteSessions : Prop :=
  ((∀ (s : State) (data : List Word), s.crn.fwRuns = true →
    let ch := (wordAt data 1).toNat
    let seq := join (wordAt data 2) (wordAt data 3)
    let opened (c : Channel) := gcmOpen c.keyIn seq false (data.take 4) ((data.drop 4).take (data.length - 8)) (data.drop (data.length - 4))
    let discards := ∃ t, exec (.remoteDatagram data) s = .next t ∧
      t = { s with hif := { s.hif with discards := min (2 ^ 32 - 1) (s.hif.discards + 1) }, flt := t.flt, draw := t.draw } ∧
      t.flt.evt = s.flt.evt ||| srcMask 1147
    (s.hif.channels.find? (fun c => c.id == ch) = none → discards) ∧
    ∀ c, s.hif.channels.find? (fun c => c.id == ch) = some c →
      (fld (wordAt data 0) 15 0 ≠ 0x201 → discards) ∧
      (fld (wordAt data 0) 15 0 = 0x201 → opened c = none → discards) ∧
      (fld (wordAt data 0) 15 0 = 0x201 → ∀ m, opened c = some m →
        (seq + 64 < c.high → discards) ∧
        (c.high ≤ seq + 64 → ∀ d, c.kept.find? (fun e => e.1 == seq) = some (seq, some d) →
          exec (.remoteDatagram data) s = .next { s with out := s.out ++ [.datagram c.id d] }) ∧
        (c.high ≤ seq + 64 → c.kept.find? (fun e => e.1 == seq) = some (seq, none) → exec (.remoteDatagram data) s = .next s) ∧
        (c.high ≤ seq + 64 → c.kept.find? (fun e => e.1 == seq) = none →
          ∃ t, exec (.remoteDatagram data) s = .next t ∧ t = { s with hif := { s.hif with channels := t.hif.channels } } ∧
            ∃ d, t.hif.channels.find? (fun c => c.id == ch) = some d ∧ d.high = max c.high seq ∧ d.lastAt = s.upNs ∧
              d.kept = keepLast (((seq, none) :: c.kept).filter fun e => decide (max c.high seq ≤ e.1 + 64)) ∧ d.keyIn = c.keyIn ∧ d.keyOut = c.keyOut ∧ d.sent = c.sent ∧
              (c.exec = none → d.exec = some seq ∧ d.msg = m ∧ d.takenAt = s.now ∧ d.waiting = c.waiting) ∧
              (c.exec ≠ none → d.exec = c.exec ∧ d.msg = c.msg ∧ d.waiting = c.waiting ++ [(seq, m)])))) ∧
  ∀ (s : State) (ch : Nat), ∃ t, exec (.remoteSessionTimeout ch) s = .next t ∧ t = { s with hif := t.hif } ∧
    (∀ c, c ∈ t.hif.channels ↔ c ∈ s.hif.channels ∧ ¬(c.id = ch ∧ c.lastAt + 600 * 10 ^ 9 ≤ s.upNs)) ∧
    ∀ e, e ∈ t.hif.sessions ↔ e ∈ s.hif.sessions ∧
      ∀ c ∈ s.hif.channels, e.channel = some c.id → ¬(c.id = ch ∧ c.lastAt + 600 * 10 ^ 9 ≤ s.upNs)) ∧
  ((∀ (s : State) (src data : List Word), s.crn.fwRuns = true →
    let good := src ∈ s.img.policy.owners ∧ data.length = 37 ∧ data.take 4 = [0x101, 0, 0, 0] ∧ fld (wordAt data 4) 7 0 = 1 ∧ s.hif.channels.length < 4
    (¬good → ∃ t, exec (.keyAgreementInit src data) s = .next t ∧
      t = { s with hif := { s.hif with discards := min (2 ^ 32 - 1) (s.hif.discards + 1) }, flt := t.flt, draw := t.draw } ∧
      t.flt.evt = s.flt.evt ||| srcMask 1150) ∧
    (good → ∃ (t : State) (a : Agreement), exec (.keyAgreementInit src data) s = .next t ∧
      t = { s with hif := t.hif, draw := t.draw, out := s.out ++ [.datagram s.hif.nextChannel ([0x101, wd s.hif.nextChannel, 0, 0] ++ a.resp)] } ∧
      t.hif = { s.hif with
        nextChannel := s.hif.nextChannel + 1
        agreements := t.hif.agreements } ∧
      (let live := s.hif.agreements.filter fun x => !s.passed x.at_ (2 * 10 ^ 9)
       t.hif.agreements = live.drop (live.length - 3) ++ [a]) ∧ a.id = s.hif.nextChannel ∧
      a.at_ = s.upNs ∧ a.hostKey = (data.drop 13).take 24 ∧ a.resp.length = 57 ∧ wordAt a.resp 0 = 2 ∧ a.salt = (data.drop 5).take 8 ++ (a.resp.drop 1).take 8 ∧
      (a.resp.drop 9).take 24 = (ephemeralPub a.ephemeral).toList ∧
      a.resp.drop 33 = (idSign (sha384 (wordsToBytes (data.drop 4 ++ a.resp.take 33)))).toList)) ∧
  (∀ (s : State) (data : List Word) (a : Agreement), s.crn.fwRuns = true →
    let ch := (wordAt data 1).toNat
    s.hif.agreements.find? (fun a => a.id == ch && !s.passed a.at_ (2 * 10 ^ 9)) = some a →
    let formed := data.length = 29 ∧ data.take 4 = [0x101, wd ch, 0, 0] ∧ fld (wordAt data 4) 7 0 = 3
    (¬formed → ∃ t, exec (.keyAgreementFinish data) s = .next t ∧
      t = { s with hif := { s.hif with discards := min (2 ^ 32 - 1) (s.hif.discards + 1) }, flt := t.flt, draw := t.draw } ∧
      t.flt.evt = s.flt.evt ||| srcMask 1147) ∧
    (formed →
    let k := fld (wordAt data 4) 9 8
    let good := s.sec.usable k = true ∧ ecdsaVerify (Config.ownerKey (tabGet [] s.sec.ownerDigest k))
      (sha384 (wordsToBytes (a.init ++ a.resp))) (data.drop 5) = true
    ∃ (t : State) (w : List Word), exec (.keyAgreementFinish data) s = .next t ∧
      t = { s with hif := t.hif, flt := t.flt, draw := t.draw, out := s.out ++ [.datagram ch w] } ∧
      t.hif.agreements = s.hif.agreements.filter (fun x => x.id != ch) ∧ t.hif.sessions = s.hif.sessions ∧
      (good → t.flt = s.flt ∧ ∃ c, t.hif.channels = s.hif.channels ++ [c] ∧ c.id = ch ∧ c.owner = k ∧ c.lastAt = s.upNs ∧ c.kept = [] ∧ c.high = 0 ∧
        c.keyIn = hkdf (wordsToBytes a.salt) (wordsToBytes (ecdh (scalarOf a.ephemeral) a.hostKey).toList) (ascii "QORLON-H2M" ++ leBytes 4 ch) 32 ∧
        c.keyOut = hkdf (wordsToBytes a.salt) (wordsToBytes (ecdh (scalarOf a.ephemeral) a.hostKey).toList) (ascii "QORLON-M2H" ++ leBytes 4 ch) 32) ∧
      (¬good → t.hif.channels = s.hif.channels ∧ t.flt.evt = s.flt.evt ||| srcMask 1150))) ∧
  (∀ (s : State) (data : List Word), s.crn.fwRuns = true →
    s.hif.agreements.find? (fun a => a.id == (wordAt data 1).toNat && !s.passed a.at_ (2 * 10 ^ 9)) = none →
    ∃ t, exec (.keyAgreementFinish data) s = .next t ∧
      t = { s with hif := { s.hif with discards := min (2 ^ 32 - 1) (s.hif.discards + 1) }, flt := t.flt, draw := t.draw } ∧
      t.flt.evt = s.flt.evt ||| srcMask 1147) ∧
  ∀ (s : State) (id : Nat), ∃ t, exec (.pendingAgreementExpiry id) s = .next t ∧ t = { s with hif := { s.hif with agreements := t.hif.agreements } } ∧
    ∀ a, a ∈ t.hif.agreements ↔ a ∈ s.hif.agreements ∧ ¬(a.id = id ∧ a.at_ + 2 * 10 ^ 9 ≤ s.upNs))

/-! ## Power, resets and cells -/

/-- POWER_STATUS, POWER_SET_STATE, POWER_SET_PRESERVE and POWER_HOLD_AWAKE by 03 R79 to R82 and R106 to R110 and 18 R588:
the module's state is answered; a transition is BUSY while one or a commit is pending, REFUSED while PFW_N is low or,
to Run, while a sensor lies above the warning threshold, and nothing where the target holds already; otherwise it
begins, and one that leaves Run drains; preserve-on-warm and the hold-awake bits are set, and each cell held awake
wakes. That a move out of Run seals the journal is log entry 51. -/
def Obligations.PowerCommands : Prop :=
  (∀ (s : State) (r q : Req), s.Accepts 0x0100 r q → q.ExtSize 0 → 7 ≤ q.room →
    ∃ ws : List Word, exec (.powerStatus r) s = .next (s.respond 0x0100 q stOk ws) ∧ ws.length = 7 ∧ fld (wordAt ws 0) 1 0 = s.modCode ∧
      fld (wordAt ws 0) 4 2 = s.crn.cause.code ∧ (wordAt ws 0).getLsbD 5 = s.crn.preserve ∧ (wordAt ws 0).getLsbD 6 = s.img.journaling ∧
      (wordAt ws 0).getLsbD 7 = s.crn.storeKept ∧ fld (wordAt ws 0) 14 8 = ((List.range 64).filter fun c => (s.cell c).out).length ∧
      (∀ c, c < 64 → ((join (wordAt ws 1) (wordAt ws 2)).testBit c = true ↔ (s.cell c).st = .doze)) ∧
      (∀ c, c < 64 → ((join (wordAt ws 3) (wordAt ws 4)).testBit c = true ↔ (s.cell c).st = .slumber)) ∧
      join (wordAt ws 5) (wordAt ws 6) = s.hif.hold.toNat) ∧
  (∀ (s : State) (r q : Req), s.Accepts 0x0101 r q → q.f 4 31 4 = 0 → q.ExtSize 3 →
    let target := q.f 4 1 0
    let aft := q.f 4 3 2
    let wake := q.f64 5
    target ≠ 3 → (target = 2 → s.flt.fatal = 0) → (target = 0 → (aft = 1 ∨ aft = 2) ∧ (wake = 0 ∨ s.now + 10000000 ≤ wake)) →
    (target ≠ 0 → aft = 0 ∧ wake = 0) →
    let busy := s.hif.pend = true ∨ s.changing = true
    let no := s.pfwLow = true ∨ (target = 2 ∧ s.hot = true)
    (busy → exec (.powerSetState r) s = .next (s.respond 0x0101 q stBusy [])) ∧
    (¬busy → no → exec (.powerSetState r) s = .next (s.respond 0x0101 q stRefused [])) ∧
    (¬busy → ¬no → target = s.modCode → exec (.powerSetState r) s = .next (s.respond 0x0101 q stOk [])) ∧
    (¬busy → ¬no → target ≠ s.modCode → ∃ (u : State) (x : Trans), exec (.powerSetState r) s = .next (u.respond 0x0101 q stOk []) ∧
      u = { s with crn := u.crn, img := u.img, sup := u.sup } ∧ u.crn.trans = some x ∧ x.back = s.crn.mod ∧ x.phase = 0 ∧ x.thermal = false ∧
      x.kind = (if target = 2 then .toRun else if target = 1 then .toStandby else .toWatch) ∧ u.crn.mod = s.crn.mod ∧
      (target ≠ 2 → (u.crn.draining = true ↔ s.crn.mod = .run) ∧ u.img.open_ = none ∧ (x.keep = true ↔ s.crn.preserve = true ∧ s.crn.mod = .run)) ∧
      (target = 2 → u.crn.draining = s.crn.draining ∧ u.img = s.img) ∧
      (target = 0 → u.crn.wakeTime = wake ∧ u.crn.afterWatch = if aft = 2 then .run else .standby))) ∧
  (∀ (s : State) (r q : Req), s.Accepts 0x0102 r q → q.f 4 31 1 = 0 → q.ExtSize 1 →
    exec (.powerSetPreserve r) s = .next (State.respond 0x0102 q stOk [] { s with crn := { s.crn with preserve := decide (q.f 4 0 0 = 1) } })) ∧
  ∀ (s : State) (r q : Req), s.Accepts 0x0103 r q → q.ExtSize 2 →
    ∃ u : State, exec (.powerHoldAwake r) s = .next (u.respond 0x0103 q stOk []) ∧
      u = { s with hif := { s.hif with hold := BitVec.ofNat 64 (q.f64 4) }, cel := u.cel, pmu := u.pmu } ∧
      ∀ c, c < 64 →
        ((q.f64 4).testBit c = true → (s.cell c).st = .doze → (u.cell c).st = .waking false ∧ (u.cell c).wakeAt = s.upNs) ∧
        ((q.f64 4).testBit c = true → (s.cell c).st = .slumber → (u.cell c).st = .waking true ∧ (u.cell c).wakeAt = s.upNs) ∧
        ((q.f64 4).testBit c = false → u.cell c = s.cell c)

/-- RESET_WARM, RESET_CELL, CELL_RESET_DONE, RESET_LANE and POWER_JOURNAL_REPLAY by 03 R81, R82, R95, R100, R107 and R111
and 01 R30: each is BUSY and REFUSED as its rule says; a warm reset stops firmware and, with preserve-on-warm in Run,
waits for the drain; a cell reset holds the cell until it is done, when the cell has the current epoch and is no
longer isolated; outside Run it only ends the isolation, and the cell's ports are as the configuration has them; a
lane reset drops the port's link and its held frames; a replay publishes the class J settings of the journal as the
next epoch, once before the host's first publish, and in Run answers when that commit is complete. That a cell's place
is freed by the lowest slumbering cell that returns to duty (log entry 141), what lane and cell resets drop (log entry
57), that a replay restores what stood at the last sealed publish (log entry 95), that it leaves other settings as
they are (log entry 52), and the seal before a reset (log entry 51) are the model's reading. -/
def Obligations.ResetCommands : Prop :=
  (∀ (s : State) (r q : Req), s.Accepts 0x0110 r q → q.ExtSize 0 →
    let busy := s.hif.pend = true ∨ s.changing = true
    (busy → exec (.resetWarm r) s = .next (s.respond 0x0110 q stBusy [])) ∧
    (¬busy → s.pfwLow = true → exec (.resetWarm r) s = .next (s.respond 0x0110 q stRefused [])) ∧
    (¬busy → s.pfwLow = false → ∃ t, exec (.resetWarm r) s = .next t ∧ t.crn.fwRuns = false ∧ t.img.open_ = none ∧ t.crn.mod = s.crn.mod ∧
      t.sec = s.sec ∧ t.tim.ctr = s.tim.ctr ∧ t.img.fw = s.img.fw ∧ t.hif.epoch = s.hif.epoch ∧
      (∃ x, t.crn.trans = some x ∧ x.kind = .reset .warm ∧ x.back = s.resetTarget ∧ x.phase = 0) ∧
      (s.crn.preserve = true → s.crn.mod = .run → t.crn.draining = true ∧ t.cel = s.cel ∧ t.prt = s.prt ∧ t.stg = s.stg ∧ t.flo = s.flo) ∧
      (¬(s.crn.preserve = true ∧ s.crn.mod = .run) → t.crn.cause = .warm ∧ t.cel = [] ∧ t.prt = [] ∧ t.stg.cur = [] ∧ t.hif.sessions = [] ∧
        t.hif.channels = [] ∧ (s.crn.preserve = false → t.flo.recs = []) ∧ (s.crn.preserve = true → t.flo.recs = s.flo.recs)))) ∧
  (∀ (s : State) (r q : Req), s.Accepts 0x0111 r q → q.f 4 31 6 = 0 → q.ExtSize 1 →
    let c := q.f 4 5 0
    let busy := s.hif.pend = true ∨ s.changing = true
    let place := (s.cell c).out = true ∨ s.outCount < 16 ∨ ∃ d, d < 64 ∧ (s.cell d).st = .slumber ∧ (s.cell d).returns = true
    (busy → exec (.resetCell r) s = .next (s.respond 0x0111 q stBusy [])) ∧
    (¬busy → s.sup.pfw = true → exec (.resetCell r) s = .next (s.respond 0x0111 q stRefused [])) ∧
    (¬busy → s.sup.pfw = false → s.crn.mod ≠ .run → ∃ u : State, exec (.resetCell r) s = .next (u.respond 0x0111 q stOk []) ∧
      u = { s with hif := { s.hif with isolated := u.hif.isolated }, cel := u.cel, flt := u.flt, prt := u.prt } ∧ u.hif.isolated.getLsbD c = false ∧
      (∀ p, (u.port p).link = if p / 16 = c ∧ (s.port p).link = .isolated then restLink s.stg.cur p else (s.port p).link) ∧
      (u.cell c).fatalIso = false ∧ (u.cell c).benched = false ∧ ∀ n ∈ [1, 5, 9, 10], (1024 + c, n) ∉ u.flt.live) ∧
    (¬busy → s.sup.pfw = false → s.crn.mod = .run → ¬place → exec (.resetCell r) s = .next (s.respond 0x0111 q stRefused [])) ∧
    (¬busy → s.sup.pfw = false → s.crn.mod = .run → place → ∃ (t : State) (d : Deferred), exec (.resetCell r) s = .next t ∧
      (t.cell c).resetting = true ∧ (t.cell c).st = .run ∧ t.hif.deferred = s.hif.deferred ++ [d] ∧ d.kind = .cellReset c ∧ d.req = q ∧
      t.crn = s.crn ∧ t.tim = s.tim ∧ t.stg = s.stg ∧ t.img = s.img ∧ t.sec = s.sec)) ∧
  (∀ (s : State) (c : Fin 64) (own : List Bool) (slots : BitVec 8), s.crn.fwRuns = true →
    ∃ t, exec (.cellResetDone c own slots) s = .next t ∧
      ((s.cell c.val).resetting = false → t = { s with hif := { s.hif with slotOwn := slots } }) ∧
      ((s.cell c.val).resetting = true → (t.cell c.val).resetting = false ∧ (t.cell c.val).rejoin = true ∧ (t.cell c.val).fatalIso = false ∧
        (t.cell c.val).benched = false ∧ t.hif.isolated.getLsbD c.val = false ∧ t.hif.applied.getLsbD c.val = true ∧
        (∀ n ∈ [1, 5, 9, 10], (1024 + c.val, n) ∉ t.flt.live) ∧ (∀ d ∈ t.hif.deferred, d.kind ≠ .cellReset c.val) ∧
        t.crn = s.crn ∧ t.stg = s.stg ∧ t.sec = s.sec)) ∧
  (∀ (s : State) (r q : Req), s.Accepts 0x0112 r q → q.f 4 31 10 = 0 → q.ExtSize 1 →
    let p := portOf (s.portCfg (q.f 4 9 0)) (q.f 4 9 0)
    (s.changing = true → exec (.resetLane r) s = .next (s.respond 0x0112 q stBusy [])) ∧
    (s.changing = false → s.sup.pfw = true → exec (.resetLane r) s = .next (s.respond 0x0112 q stRefused [])) ∧
    (s.changing = false → s.sup.pfw = false → ∃ u : State, exec (.resetLane r) s = .next (u.respond 0x0112 q stOk []) ∧
      (u.port p).link = (if (s.port p).link = .up then .down else (s.port p).link) ∧ (u.port p).hold = [] ∧ (u.port p).shut = false ∧
      (∀ j, j ≠ p → u.port j = s.port j) ∧ (p, 6) ∉ u.flt.live ∧ u.crn = s.crn ∧ u.stg = s.stg)) ∧
  ∀ (s : State) (r q : Req), s.Accepts 0x0120 r q → q.ExtSize 0 →
    let busy := s.hif.pend = true ∨ s.changing = true
    (busy → exec (.powerJournalReplay r) s = .next (s.respond 0x0120 q stBusy [])) ∧
    (¬busy → s.crn.published = true → exec (.powerJournalReplay r) s = .next (s.respond 0x0120 q stRefused [])) ∧
    (¬busy → s.crn.published = false → s.replayed = none →
      exec (.powerJournalReplay r) s = .next (s.respond 0x0120 q stNotFound [])) ∧
    ∀ x, ¬busy → s.crn.published = false → s.replayed = some x →
      ∃ u : State, exec (.powerJournalReplay r) s = .next (if u.hif.pend = true then { u with hif := { u.hif with
            deferred := u.hif.deferred ++ [{ kind := .replay, op := 0x0120, req := q }] } } else u.respond 0x0120 q stOk []) ∧
        (u.hif.pend = true ↔ s.crn.mod = .run ∧ s.heldCells true ||| s.hif.isolated ≠ BitVec.allOnes 64) ∧ u.crn = { s.crn with published := true } ∧
        u.hif.epoch = (if s.hif.epoch = 0xFFFF then 1 else s.hif.epoch + 1) ∧ u.stg.imm = x.imm ∧ u.stg.prev = s.stg.cur ∧
        (∀ k, isJ k = true → tabFind u.stg.cur k = tabFind x.cfg k) ∧ ((∀ e ∈ x.cfg, isJ e.1 = true) → tabSorted s.stg.cur = true →
          ∀ k, isJ k = false → tabFind u.stg.cur k = tabFind s.stg.cur k) ∧
        u.stg.flag = s.stg.flag ∧ u.stg.log = s.stg.log

/-- START_THRESHOLD, OVERVOLTAGE_RESTART, CAIRN_POWER_UP, FIRST_INPUT_MEASUREMENT, CONVERTER_STOP, THERMAL_TRIP and
TRIP_LATCH_CLEAR by 02 R49, R62, R68 and R71, 03 R83 and 18 R589: the converter starts unless the trip latch holds it;
Cairn starts in Watch on its way to Standby with the address straps; its first measurement sets the input registers
and PFW_N, and VIN_OK by the nominal thresholds (log entry 93, PRESUMED); without the converter everything is off, and
flash, OTP and the board's pins stay, with the counts of the lifetime that the flash holds (log entry 149).

POWER_FAIL_WARNING, POWER_FAIL_RELEASE, VIN_SNS_OPEN, VIN_SNS_CONNECTED, SURGE and HOURLY_FLASH_WRITE by 02 R45, R65,
R68 to R70, R76 and R77 and 18 R591: each sets its status, raises its event of Cairn's sources and logs what its rule
says; a warning begins the seal of the journal. A surge is recorded 1 ms after its first pulse or later, by a Cairn
that was powered then, and its peaks are held to their fields (log entry 94); the lifetime counts go to flash each
hour (log entry 149).

TEMPERATURE_SAMPLE, THERMAL_WARNING, THERMAL_LIMIT, THERMAL_STANDBY and THERMAL_CONDITION_END by 18 R586 to R588 and
R591: the registers hold each powered sensor's value, TMAX is the highest junction value and the peak follows it,
samples in a row above a threshold and the time below it are counted, and so is the time above 85.0 degrees; ten
samples above a threshold raise its live event with TMAX and count; in Run and on the way there the limit orders a
move to Standby, which begins once no commit and no seal is in its way; a condition ends once every junction sensor
has been below its threshold for 1 s. -/
def Obligations.InputPower : Prop :=
  ((∀ s : State, s.crn.mod = .unpowered → exec .startThreshold s = .next (if s.sup.tripLatch then s else
    { s with
      sup := { s.sup with ovStop := false }
      crn := { s.crn with mod := .softStart } })) ∧
  (∀ s : State, s.crn.mod = .unpowered → s.sup.ovStop = true → exec .overvoltageRestart s = .next (if s.sup.tripLatch then s else
    { s with
      sup := { s.sup with ovStop := false }
      crn := { s.crn with mod := .softStart } })) ∧
  (∀ (s : State) (a : Fin 4), s.crn.mod = .softStart → exec (.cairnPowerUp a) s = .next { s with
    sup := { s.sup with i2cAddr := a.val }
    crn := { s.crn with
      mod := .watch
      trans := some { kind := .coldStart, back := .standby } } }) ∧
  (∀ (s : State) (v i p : Nat) (above : Bool), s.crn.trans = some { kind := .coldStart, back := .standby } → s.cairnRuns = true → s.sup.measured = false →
    ∃ t, exec (.firstInputMeasurement v i p above) s = .next t ∧ t = { s with sup := t.sup } ∧ t.sup.measured = true ∧ t.sup.vin = v % 65536 ∧ t.sup.iin = i % 65536 ∧
      t.sup.pin = p % 65536 ∧ (t.pfwLow = true ↔ above = false) ∧ (above = true → t.sup.sealed = false) ∧
      (t.crnStatus.getLsbD 0 = true ↔ 3400 < v % 65536 ∧ v % 65536 < 8100)) ∧
  (∀ (s : State) (ov : Bool), s.crn.mod ≠ .unpowered → ∃ t u, exec (.converterStop ov) s = .next t ∧ exec .thermalTrip s = .next u ∧
    t.sup.ovStop = ov ∧ t.sup.tripLatch = s.sup.tripLatch ∧ u.sup.tripLatch = true ∧
    ∀ v, (v = t ∨ v = u) → v.crn = { prstN := s.crn.prstN, perstN := s.crn.perstN } ∧ v.img.fw = s.img.fw ∧ v.img.pol = s.img.pol ∧
      v.img.fwActive = s.img.fwActive ∧ v.sec.enrolled = s.sec.enrolled ∧ v.sec.revoked = s.sec.revoked ∧ v.sec.fwArb = s.sec.fwArb ∧
      v.sec.polArb = s.sec.polArb ∧ v.sec.unlocked = 0 ∧ v.sup.surgeLife = s.sup.surgeLifeFlash ∧ v.sup.runBase = s.sup.runFlash ∧ v.sup.hotBase = s.sup.hotFlash ∧ v.hif = {} ∧
      v.stg = {} ∧ v.rng = {} ∧ v.flo = {} ∧ v.prt = [] ∧ v.cel = [] ∧ v.ctr = [] ∧ v.out = s.out ∧ v.pending = s.pending ∧ v.tim.ctr = 0 ∧
      v.tim.stepped = false ∧ v.tim.sdsref = s.tim.sdsref) ∧
  ∀ s : State, exec .tripLatchClear s = .next { s with sup := { s.sup with tripLatch := false } }) ∧
  ((∀ s : State, s.cairnRuns = true → s.sup.pfw = false → ∃ t, exec .powerFailWarning s = .next t ∧
    t = { s with
      sup := t.sup
      crn := { s.crn with
        pfwFell := s.upNs
        pfwWarned := s.upNs :: s.crn.pfwWarned }
      img := t.img
      flt := t.flt } ∧ t.pfwLow = true ∧ t.sup.sealed = false ∧
    t.img.open_ = none ∧ t.flt.evt = s.flt.evt ||| srcMask 1132 ∧ t.flt.flt = s.flt.flt ∧
    (∀ g, s.img.open_ = some g → t.img.segs = s.img.segs ++ [{ g with sealing := true }])) ∧
  (∀ s : State, s.cairnRuns = true → s.sup.pfw = true → ∃ t, exec .powerFailRelease s = .next t ∧ t = { s with
      sup := { s.sup with
        pfw := false
        sealed := false }
      flt := t.flt } ∧ t.flt.evt = s.flt.evt ||| srcMask 1132) ∧
  (∀ s : State, s.cairnRuns = true → s.sup.snsOpen = false → ∃ t u, exec .vinSnsOpen s = .next t ∧
    t = { s with sup := { s.sup with snsOpen := true }, flt := t.flt } ∧ t.flt.evt = s.flt.evt ||| srcMask 1132 ∧ (1132, 3) ∈ t.flt.live ∧
    exec .vinSnsConnected t = .next u ∧ u = { s with flt := u.flt } ∧ (1132, 3) ∉ u.flt.live) ∧
  (∀ (s : State) (g : SurgeSeen), (g.ago < 1000000 ∨ s.upNs < g.ago) → exec (.surge g) s = .next s) ∧
  (∀ (s : State) (g : SurgeSeen), s.cairnRuns = true → 1000000 ≤ g.ago → g.ago ≤ s.upNs → ∃ t, exec (.surge g) s = .next t ∧ t = { s with sup := t.sup, flt := t.flt } ∧
    t.sup.surgeCount = min 0xFFFFFFFF (s.sup.surgeCount + 1) ∧ t.sup.surgeLife = (s.sup.surgeLife + 1) % 2 ^ 32 ∧
    t.sup.surgeHead = (s.sup.surgeHead + 1) % 16 ∧ t.flt.evt = s.flt.evt ||| srcMask 1133 ∧
    (t.sup.clampWear = true ↔ s.sup.clampWear = true ∨ g.worn = true) ∧
    (let w (i : Nat) := tabGet 0 t.sup.surgeLog (4 * s.sup.surgeHead + i)
     let first := s.upNs - g.ago
     join (w 0) (w 1) = s.counterAt g % 2 ^ 64 ∧ ((∀ e ∈ s.tim.steps, e.1 ≤ first) → s.counterAt g = s.now - g.ago) ∧ fld (w 2) 15 0 = min 0xFFFF g.peakV ∧ fld (w 2) 31 16 = min 0xFFFF g.peakI ∧ fld (w 3) 1 0 = g.mode % 4 ∧
       ((w 3).getLsbD 2 = true ↔ ∀ e ∈ s.tim.steps, first < e.1) ∧
       ((w 3).getLsbD 3 = true ↔ ∃ t ∈ s.crn.pfwWarned, t ≤ first + 1000000 ∧ first ≤ t + 1000000) ∧ fld (w 3) 11 4 = min 255 g.pulses ∧
       fld (w 3) 23 12 = min 4095 g.duration) ∧
    ∀ k, (k < 4 * s.sup.surgeHead ∨ 4 * s.sup.surgeHead + 4 ≤ k) → tabGet 0 t.sup.surgeLog k = tabGet 0 s.sup.surgeLog k) ∧
  ∀ s : State, s.cairnRuns = true → ∃ t, exec .hourlyFlashWrite s = .next t ∧ t = { s with sup := { s.sup with
      runFlash := s.sup.runBase + s.upNs
      hotFlash := t.sup.hotFlash
      surgeLifeFlash := s.sup.surgeLife } } ∧
    t.sup.hotFlash = s.sup.hotBase + match s.sup.hotSince with
      | some a => s.upNs - a
      | none => 0) ∧
  ((∀ (s : State) (temps : List (Option Int)), s.cairnRuns = true →
    let seen (k : Nat) : Option Int := if s.sensorPowered k = true then temps.getD k none else none
    ∃ t, exec (.temperatureSample temps) s = .next t ∧
    t = { s with sup := { s.sup with
      temp := t.sup.temp
      tmax := t.sup.tmax
      sensor := t.sup.sensor
      peak := t.sup.peak
      warnSamples := t.sup.warnSamples
      limitSamples := t.sup.limitSamples
      belowWarn := t.sup.belowWarn
      belowLimit := t.sup.belowLimit
      hotBase := t.sup.hotBase
      hotSince := t.sup.hotSince } } ∧
    (∀ k, k < 24 → tabGet 0 t.sup.temp k = match seen k with
      | some v => (v % 65536).toNat + 65536
      | none => tabGet 0 s.sup.temp k % 65536) ∧
    ((∀ k, k ≤ 20 → seen k = none) → t.sup.tmax = 0 ∧ t.sup.sensor = 0 ∧ t.sup.peak = s.sup.peak) ∧
    ((∃ k, k ≤ 20 ∧ seen k ≠ none) → t.sup.sensor ≤ 20 ∧ seen t.sup.sensor ≠ none ∧
      t.sup.tmax = tabGet 0 t.sup.temp t.sup.sensor % 65536 ∧
      (∀ k, k ≤ 20 → seen k ≠ none → signed16 (tabGet 0 t.sup.temp k) ≤ signed16 t.sup.tmax) ∧
      signed16 t.sup.peak = max (signed16 s.sup.peak) (signed16 t.sup.tmax)) ∧
    (let above (l : Int) := (∃ k, k ≤ 20 ∧ seen k ≠ none) ∧ l < signed16 t.sup.tmax
     (above 1370 → t.sup.warnSamples = s.sup.warnSamples + 1) ∧ (¬above 1370 → t.sup.warnSamples = 0) ∧
     (above 1420 → t.sup.limitSamples = s.sup.limitSamples + 1) ∧ (¬above 1420 → t.sup.limitSamples = 0)) ∧
    (let below (l : Int) := ∀ k, k ≤ 20 → seen k ≠ none → signed16 (tabGet 0 t.sup.temp k) < l
     (below 1370 → t.sup.belowWarn = some (s.sup.belowWarn.getD s.upNs)) ∧ (¬below 1370 → t.sup.belowWarn = none) ∧
     (below 1420 → t.sup.belowLimit = some (s.sup.belowLimit.getD s.upNs)) ∧ (¬below 1420 → t.sup.belowLimit = none)) ∧
    (let hot := seen 23 ≠ none ∧ 850 < signed16 (tabGet 0 t.sup.temp 23)
     (hot → t.sup.hotSince = some (s.sup.hotSince.getD s.upNs) ∧ t.sup.hotBase = s.sup.hotBase) ∧
     (¬hot → t.sup.hotSince = none ∧ t.sup.hotBase = s.lifeHot))) ∧
  (∀ s : State, s.sup.warnSamples < 10 → exec .thermalWarning s = .next s) ∧
  (∀ s : State, s.sup.limitSamples < 10 → exec .thermalLimit s = .next s) ∧
  (∀ s : State, s.cairnRuns = true → s.sup.warn = false → 10 ≤ s.sup.warnSamples → ∃ t, exec .thermalWarning s = .next t ∧ t = { s with
      sup := { s.sup with
        warn := true
        warnings := min 0xFFFF (s.sup.warnings + 1) }
      flt := t.flt } ∧ t.flt.evt = s.flt.evt ||| srcMask 1135 ∧ (1135, 1) ∈ t.flt.live ∧ t.flt.flt = s.flt.flt) ∧
  (∀ s : State, s.cairnRuns = true → s.sup.limit = false → 10 ≤ s.sup.limitSamples → ∃ t, exec .thermalLimit s = .next t ∧ t = { s with
      sup := { s.sup with
        limit := true
        limits := min 0xFFFF (s.sup.limits + 1) }
      crn := { s.crn with thermal := t.crn.thermal }
      flt := t.flt } ∧ (t.crn.thermal = true ↔ s.crn.mod = .run ∨ ∃ x, s.crn.trans = some x ∧ (x.kind = .toRun ∨ (∃ k, x.kind = .reset k) ∧ x.back = .run)) ∧
    t.flt.flt = s.flt.flt ||| srcMask 1135 ∧ (1135, 2) ∈ t.flt.live) ∧
  (∀ s : State, s.crn.thermal = true → s.crn.mod = .run → s.crn.trans = none →
    ((s.hif.pend = true ∨ s.sealWaited = false) → exec .thermalStandby s = .next s) ∧
    (s.hif.pend = false → s.sealWaited = true → ∃ t, exec .thermalStandby s = .next t ∧ t = { s with crn := t.crn, img := t.img, sup := t.sup } ∧
      t.crn.draining = true ∧ t.crn.thermal = false ∧ t.crn.mod = .run ∧ t.img.open_ = none ∧
      t.crn.trans = some { kind := .toStandby, back := .run, thermal := true, keep := s.crn.preserve })) ∧
  (∀ s : State, (∀ a, s.sup.belowLimit = some a → s.upNs < a + 10 ^ 9) → exec (.thermalConditionEnd true) s = .next s) ∧
  (∀ s : State, (∀ a, s.sup.belowWarn = some a → s.upNs < a + 10 ^ 9) → exec (.thermalConditionEnd false) s = .next s) ∧
  (∀ (s : State) (a : Nat), s.cairnRuns = true → s.sup.limit = true → s.sup.belowLimit = some a → a + 10 ^ 9 ≤ s.upNs → ∃ t, exec (.thermalConditionEnd true) s = .next t ∧
    t = { s with sup := { s.sup with limit := false }, flt := t.flt } ∧ (1135, 2) ∉ t.flt.live) ∧
  ∀ (s : State) (a : Nat), s.cairnRuns = true → s.sup.warn = true → s.sup.belowWarn = some a → a + 10 ^ 9 ≤ s.upNs → ∃ t, exec (.thermalConditionEnd false) s = .next t ∧
    t = { s with sup := { s.sup with warn := false }, flt := t.flt } ∧ (1135, 1) ∉ t.flt.live)

/-- BOOT_IMAGE_VERIFIED by 03 R83, 14 R495 and 15 R513 and R514: the boot ROM boots the trial slot where a trial is due
and its image verifies, which else ends the trial; then the active slot; without a trial, the other slot; and with no
image that verifies the module stays in Watch and raises a fatal event. Booted firmware answers for its levels and
version, starts the watchdog, and puts the active policy in force if it verifies, else, with an event, the other
slot's if that verifies, else none; a cold start takes the policy's journaling. How the factory image verifies (log
entry 19), that an erased policy slot is one that does not verify (log entry 48), and the core that reports it (log
entry 3) are the model's reading.

STACKS_TRAINED, RESET_DONE, RUN_ENTRY_COMMIT, POWER_TRANSITION_DONE, WATCH_WAKE and DRAIN_COMPLETE by 03 R79, R80,
R83, R97, R101, R103, R104 and R604 and 13 R463: a cold start and a reset end in Standby with the mailbox ready; the
journal restores class J; Run is entered once every follower is locked and every cell has its epoch; leaving Run drops
every link and turns every cell off; a drain ends once every operation has, and a preserved reset then begins; Watch
ends at its wake time. When a drain and a transition are over (log entries 53, 54), that a replay restores what stood
at the last sealed publish (log entry 95), and a thermal move that a reset leaves ordered (log entry 53) are the
model's reading. -/
def Obligations.PowerTransitions : Prop :=
  (∀ (s : State) (x : Trans), s.crn.trans = some x → (x.kind = .coldStart ∨ ∃ k, x.kind = .reset k) →
    let a := s.img.fwActive
    let ok (b : Nat) : Prop := s.imageReason false (s.fwSlot b) = 0
    let trial := s.img.trial = true ∧ (s.trialRuns = true ∨ ¬(x.kind = .reset .fatal ∨ (x.kind = .reset .watchExit ∧ x.byPin = false)))
    let p := s.img.polActive
    let okP (b : Nat) : Prop := s.imageReason true (s.polSlot b) = 0
    let boots (t : State) (b : Nat) : Prop := t.img.fwBank = b ∧ t.crn.fwRuns = true ∧ t.crn.wdArmed = true ∧ t.crn.wdLast = s.upNs ∧
      t.crn.trans = some { x with phase := 1 } ∧ t.hif.blLow = (s.fwSlot b).blLow ∧ t.hif.blHigh = (s.fwSlot b).blHigh ∧ t.hif.fwVersion = (s.fwSlot b).version ∧
      t.img.m1 = (sha384 (s.fwSlot b).header).toList ∧ t.crn.mod = s.crn.mod ∧ t.sec = s.sec ∧ t.img.fwActive = s.img.fwActive ∧
      t.img.configDigest = digestOf s.stg.cur s.stg.imm ∧
      (okP p → t.img.policy = (s.polSlot p).policy.getD {} ∧ t.img.polBank = some p) ∧
      (¬okP p → t.flt.evt.getLsbD 1148 = true ∧ t.flt.flt.getLsbD 1148 = true) ∧
      (¬okP p → okP (1 - p) → t.img.policy = (s.polSlot (1 - p)).policy.getD {} ∧ t.img.polBank = some (1 - p)) ∧
      (¬okP p → ¬okP (1 - p) → t.img.policy = {} ∧ t.img.polBank = none) ∧
      (x.kind = .coldStart → t.img.journaling = t.img.policy.journal)
    ∃ t, exec .bootImageVerified s = .next t ∧
      ((x.phase ≠ 0 ∨ s.crn.held = true ∨ s.crn.draining = true) → t = s) ∧
      (x.phase = 0 → s.crn.held = false → s.crn.draining = false →
        (trial → ok (1 - a) → boots t (1 - a) ∧ t.img.trial = true) ∧
        (trial → ¬ok (1 - a) → ok a → boots t a ∧ t.img.trial = false ∧ t.img.reverted = true) ∧
        (¬trial → ok a → boots t a ∧ t.img.trial = s.img.trial) ∧
        (¬trial → ¬ok a → ok (1 - a) → boots t (1 - a)) ∧
        (¬ok a → ¬ok (1 - a) → t.crn.mod = .watch ∧ t.crn.trans = none ∧ t.crn.fwRuns = false ∧ t.crn.pcieUp = false ∧
          t.flt.evt.getLsbD 1129 = true ∧ t.flt.flt.getLsbD 1129 = true ∧ t.flt.fatal.getLsbD 1129 = true))) ∧
  ((∀ (s : State) (x : Trans), s.crn.trans = some x → x.phase = 1 →
    (x.kind = .coldStart → exec .stacksTrained s = .next { s with
      crn := { s.crn with
        mod := .standby
        trans := none
        thermal := false }
      hif := { s.hif with ready := true } }) ∧
    (x.kind ≠ .coldStart → exec .stacksTrained s = .next { s with crn := { s.crn with trans := some { x with phase := 2 } } })) ∧
  (∀ (s : State) (x : Trans) (k : ResetKind), s.crn.trans = some x → x.kind = .reset k → (x.phase = 2 ∨ x.phase = 1 ∧ s.crn.storeKept = true) →
    ∃ t, exec .resetDone s = .next t ∧ t = { s with crn := t.crn, hif := { s.hif with ready := true }, stg := t.stg, img := t.img, flt := t.flt, prt := t.prt, tbl := t.tbl } ∧
      t.crn.mod = .standby ∧ (x.back = .run → s.crn.thermal = false → t.crn.trans = some { kind := .toRun, back := .run }) ∧
      ((x.back ≠ .run ∨ s.crn.thermal = true) → t.crn.trans = none) ∧
      (s.img.journaling = false → t.stg = s.stg ∧ t.img = s.img ∧ t.prt = s.prt) ∧
      (s.img.journaling = true →
        let cut := ∃ g ∈ s.img.segs, g.sealedAt = none ∧ g.sealing = false
        let kept := s.img.segs.takeWhile fun g => g.sealedAt.isSome
        t.img = { s.img with
          segs := t.img.segs
          configDigest := t.img.configDigest } ∧ (¬cut → t.img.segs = s.img.segs) ∧ (cut → t.img.segs = kept) ∧
        (s.replayed = none → t.stg = s.stg ∧ t.prt = s.prt) ∧
        ∀ z, s.replayed = some z → t.stg.cur = z.cfg ∧ t.stg.prev = z.cfg ∧ t.stg.staged = z.cfg ∧ t.stg.imm = z.imm ∧
          t.img.configDigest = digestOf z.cfg z.imm)) ∧
  (∀ (s : State) (x : Trans), s.crn.trans = some x → x.kind = .toRun → x.phase = 0 →
    (s.tim.lock ≠ BitVec.allOnes 8 → exec .runEntryCommit s = .next s) ∧
    (s.tim.lock = BitVec.allOnes 8 → ∃ t, exec .runEntryCommit s = .next t ∧ (∀ c, c < 64 → (t.cell c).st = .run) ∧ t.stg.cur = s.stg.cur ∧
      t.stg.prev = s.stg.cur ∧ t.hif.epoch = (if s.hif.epoch = 0xFFFF then 1 else s.hif.epoch + 1) ∧ t.bpm.four = true ∧
      t.crn.trans = some { x with phase := 3 } ∧ t.crn.mod = s.crn.mod)) ∧
  (∀ (s : State) (x : Trans), s.crn.trans = some x →
    ∃ t, exec .powerTransitionDone s = .next t ∧
      (x.kind = .toRun → x.phase = 3 → t.crn = { s.crn with
        mod := .run
        trans := none }) ∧
      ((x.kind = .toStandby ∨ x.kind = .toWatch) → (s.crn.draining = true ∨ s.settled = false ∨ s.hif.pend = true) → t = s) ∧
      ((x.kind = .toStandby ∨ x.kind = .toWatch) → s.crn.draining = false → s.settled = true → s.hif.pend = false →
        t.crn.mod = (if x.kind = .toStandby then .standby else .watch) ∧ t.crn.trans = none ∧
        (s.crn.mod = .run → tabSorted s.prt = true → (∀ p, (t.port p).link ≠ .up) ∧ ∀ c, (t.cell c).st = .off) ∧
        (x.kind = .toWatch → t.crn.fwRuns = false ∧ t.flo.recs = [] ∧ t.hif.sessions = []) ∧
        (x.kind = .toStandby → s.crn.mod = .run → t.crn.storeKept = x.keep ∧ (x.keep = true → t.flo.recs = s.flo.recs)) ∧
        t.sec.enrolled = s.sec.enrolled ∧ t.tim.ctr = s.tim.ctr)) ∧
  (∀ s : State, s.crn.mod = .watch → s.crn.trans = none → s.crn.wakeTime ≠ 0 → s.crn.wakeTime ≤ s.now →
    ∃ t, exec .watchWake s = .next t ∧ t.crn.trans = some { kind := .reset .watchExit, back := s.crn.afterWatch } ∧ t.crn.wakeTime = 0 ∧
      t.crn.cause = .watchExit ∧ t.sec.unlocked = 0 ∧ t.tim.ctr = s.tim.ctr) ∧
  ∀ s : State, s.crn.draining = true →
    (s.drained = false → exec .drainComplete s = .next s) ∧
    (s.drained = true → ∃ t, exec .drainComplete s = .next t ∧ t.crn.draining = false ∧ t.flo.cache = [] ∧ t.flo.coh = [] ∧
      (∀ x k, s.crn.trans = some x → x.kind = .reset k → t.crn.trans = some { kind := .reset k, back := x.back } ∧ t.crn.storeKept = true ∧
        t.cel = [] ∧ t.prt = []) ∧
      ((∀ x, s.crn.trans = some x → ∀ k, x.kind ≠ .reset k) → t = { s with crn := { s.crn with draining := false }, flo := t.flo, ctr := t.ctr })))

/-- WATCHDOG_EXPIRY, WATCHDOG_REFRESH, DEFERRED_WATCHDOG_RESET, PRST_N_ASSERT, PRST_N_RELEASE, MODULE_RESET and
FATAL_FAULT_RESET by 02 R50 and R51, 03 R95 to R98, 14 R495, R502 and R602 and 16 R549 and R550: each reset stops
firmware and returns what it covers to reset, and leaves the journal, the flash slots, the counter and OTP; the
watchdog's, and a module and a fatal reset, wait for a seal that runs; a module reset holds the module while PRST_N is
low; the fatal reset carries its cause and the first-fault record. When a module reset with PFW_N low begins is log
entry 148, when the debug port locks is log entry 47, and which resets end a trial (log entry 50) are the model's
reading.

PERST_N_ASSERT, PERST_N_RELEASE, PCIE_LINK_DOWN and PCIE_LINK_UP by 04 R114 and R605, 05 R171 and 16 R538: the link
goes down with an event; an endpoint reset closes the local sessions, disables and idles every ring pair, disables
every ring and clears MSI-X, loses the answers that ring commands still wait for, and leaves remote sessions; a link
that comes up releases waiting events. -/
def Obligations.Resets : Prop :=
  ((∀ s : State, s.cairnRuns = true → s.crn.wdArmed = true → s.crn.wdDeferred = false →
    (s.upNs < s.crn.wdLast + 250000000 → exec .watchdogExpiry s = .next s) ∧
    (s.crn.wdLast + 250000000 ≤ s.upNs → ∃ t, exec .watchdogExpiry s = .next t ∧ t.flt.evt.getLsbD 1128 = true ∧ t.flt.flt.getLsbD 1128 = true ∧
      (s.sealWaited = false → t.crn = { s.crn with wdDeferred := true } ∧ t.img = s.img) ∧
      (s.sealWaited = true → (s.trialRuns = true → t.img.trial = false ∧ t.img.reverted = true) ∧ t.crn.fwRuns = false ∧ ∃ x, t.crn.trans = some x ∧ x.kind = .reset .watchdog ∧ x.back = s.resetTarget))) ∧
  (∀ s : State, s.crn.wdArmed = true → s.crn.fwRuns = true →
    exec .watchdogRefresh s = .next { s with crn := { s.crn with wdLast := s.upNs } }) ∧
  (∀ s : State, s.crn.wdDeferred = true → s.crn.pfwFell + 3000000 ≤ s.upNs → ∃ t, exec .deferredWatchdogReset s = .next t ∧ t.crn.fwRuns = false ∧
    t.crn.wdDeferred = false ∧ (s.trialRuns = true → t.img.trial = false ∧ t.img.reverted = true) ∧ ∃ x, t.crn.trans = some x ∧ x.kind = .reset .watchdog ∧ x.back = s.resetTarget) ∧
  (∀ s : State, s.cairnRuns = true → ∃ t, exec .prstNAssert s = .next t ∧ t = { s with crn := t.crn, img := t.img, sup := t.sup } ∧ t.crn = { s.crn with
      prstN := false
      resetAsked := true
      resetAt := s.upNs } ∧ (s.crn.fwRuns = true → t.img.open_ = none) ∧ (s.crn.fwRuns = false → t.img = s.img)) ∧
  (∀ s : State, s.cairnRuns = false → exec .prstNAssert s = .next { s with crn := { s.crn with prstN := false } }) ∧
  (∀ s : State, exec .prstNRelease s = .next { s with crn := { s.crn with
    prstN := true
    held := false } }) ∧
  (∀ s : State, s.crn.resetAsked = true →
    let ready := (s.sealComplete = true ∧ (s.sup.pfw = true → s.sup.sealed = true)) ∨ s.crn.resetAt + 3000000 ≤ s.upNs ∨
      (s.sup.pfw = true ∧ s.crn.resetAt ≤ s.crn.pfwFell + 3000000 ∧ s.crn.pfwFell + 3000000 ≤ s.upNs)
    (¬ready → exec .moduleReset s = .next s) ∧
    (ready → ∃ t, exec .moduleReset s = .next t ∧ (t.crn.held = true ↔ s.crn.prstN = false) ∧ t.crn.fwRuns = false ∧ t.crn.resetAsked = false ∧
      (t.crn.cause = .module ∨ (s.crn.mod = .watch ∧ t.crn.cause = .watchExit)) ∧ t.sec.unlocked = 0 ∧ t.sec.armScope = 0 ∧
      t.sec.enrolled = s.sec.enrolled ∧ t.tim.ctr = s.tim.ctr ∧ t.tim.stepped = s.tim.stepped ∧ t.tim.pulse = s.tim.pulse ∧ t.img.fw = s.img.fw ∧
      t.hif.epoch = s.hif.epoch ∧ t.hif.sessions = [] ∧ t.prt = [] ∧ t.cel = [] ∧ t.stg.cur = [] ∧ t.flo.recs = [] ∧ t.ctr = [] ∧
      ∃ x, t.crn.trans = some x ∧ x.kind = .reset t.crn.cause ∧ x.back = s.resetTarget)) ∧
  ∀ (s : State) (x : Nat × Nat), s.crn.fatalTrig = some x → (s.askedSealed s.crn.fatalAt = false → exec .fatalFaultReset s = .next s) ∧
    (s.askedSealed s.crn.fatalAt = true → ∃ t, exec .fatalFaultReset s = .next t ∧ t.flt.resetCause = some x ∧ t.crn.cause = .fatal ∧
    t.crn.fwRuns = false ∧ t.crn.fatalTrig = none ∧ t.prt = [] ∧ t.cel = [] ∧ t.hif.sessions = [] ∧ t.sec.unlocked = 0 ∧
    (s.trialRuns = false → t.crn.carried = some s.flt.ffr) ∧ (s.trialRuns = true → t.img.trial = false ∧ t.img.reverted = true) ∧
    ∃ y, t.crn.trans = some y ∧ y.kind = .reset .fatal ∧ y.back = s.resetTarget)) ∧
  ((∀ s : State, s.crn.pcieUp = true → ∃ t u, exec .pcieLinkDown s = .next t ∧ exec .perstNAssert s = .next u ∧
    t = { s with crn := { s.crn with pcieUp := false }, flt := t.flt } ∧ u.crn = { s.crn with
      pcieUp := false
      perstN := false } ∧ u.flt = t.flt ∧ u = { s with crn := u.crn, flt := u.flt } ∧
    (s.fltRuns = true → t.flt.evt = s.flt.evt ||| srcMask 1144)) ∧
  (∀ s : State, ∃ t, exec .perstNRelease s = .next t ∧
    t.crn = { s.crn with perstN := true } ∧ (∀ e, e ∈ t.hif.sessions ↔ e ∈ s.hif.sessions ∧ e.channel ≠ none) ∧ t.hif.channels = s.hif.channels ∧
    (∀ n, (t.pair n).enable = false ∧ (t.pair n).idle = true ∧ (t.pair n).exec = none ∧ (t.pair n).held = none) ∧ (∀ i, (t.ring i).enable = false) ∧
    (∀ d ∈ t.hif.deferred, ∀ k, d.req.via = .ring k → d.lost = true) ∧ (∀ d ∈ t.flo.fwOps, ∀ k, d.req.via = .ring k → d.lost = true) ∧
    t.hif.msix = [] ∧ t.hif.epoch = s.hif.epoch ∧ t.stg = s.stg ∧ t.prt = s.prt ∧ t.img = s.img ∧ t.sec = s.sec) ∧
  ∀ (s : State) (free : List Nat), s.crn.fwRuns = true → s.crn.perstN = true → s.crn.pcieUp = false →
    ∃ t, exec (.pcieLinkUp free) s = .next t ∧ t = { s with crn := { s.crn with pcieUp := true }, rng := t.rng, hif := t.hif, out := t.out } ∧
      ∀ q, q < 32 →
        let g := s.ring (576 + q)
        (t.ring (576 + q)).held = if g.enable = true ∧ 0 < free.getD q 0 then
          g.held.drop (if 0 < g.lostNew then free.getD q 0 - 1 else free.getD q 0) else g.held)

/-- DOZE_ENTRY, SLUMBER_ENTRY, CELL_WAKE, WAKE_COMPLETE and DUTY_REJOIN by 01 R25 and R30 and 03 R87 to R93: an idle
running cell dozes; a dozing one that policy and links allow slumbers while at most 16 cells are out of duty; a
trigger wakes it, a chunk or a commit from Doze alone; after Slumber the cell applies the epoch and waits for the
rotation boundary, when it is in duty again. -/
def Obligations.CellSleep : Prop :=
  (∀ (s : State) (c : Fin 64), exec (.dozeEntry c) s = .next (if s.cellRuns c.val = true ∧ s.cellIdle c.val = true then
    { s with cel := tabMod {} c.val (fun x => { x with st := .doze }) s.cel } else s)) ∧
  (∀ (s : State) (c : Fin 64),
    let may := (s.cell c.val).st = .doze ∧ s.cellIdle c.val = true ∧ s.img.policy.slumberEn.getLsbD c.val = true ∧
      ((∀ i, i < 16 → s.portUp (16 * c.val + i) = true → (s.port (16 * c.val + i)).rxLpi = true ∧ (s.port (16 * c.val + i)).txLpi = true) ∨
        s.img.policy.activeSlumber.getLsbD c.val = true) ∧
      (∀ i, i < 16 → s.gated (16 * c.val + i) = false) ∧
      s.outCount + (if (s.cell c.val).out = false ∧ (s.cell c.val).benchSoon = false then 1 else 0) ≤ 16
    (may → exec (.slumberEntry c) s = .next { s with cel := tabMod {} c.val (fun x => { x with st := .slumber }) s.cel }) ∧
    (¬may → exec (.slumberEntry c) s = .next s)) ∧
  (∀ (s : State) (c : Fin 64) (g : WakeTrigger), ∃ t, exec (.cellWake c g) s = .next t ∧ t = { s with cel := t.cel, pmu := t.pmu } ∧
    (∀ d, d ≠ c.val → t.cell d = s.cell d) ∧
    ((s.cell c.val).st = .doze → t.cell c.val = { s.cell c.val with
      st := .waking false
      wakeAt := s.upNs }) ∧
    ((s.cell c.val).st = .slumber → g ≠ .chunk → g ≠ .commit → t.cell c.val = { s.cell c.val with
      st := .waking true
      wakeAt := s.upNs }) ∧
    ((s.cell c.val).st = .slumber → (g = .chunk ∨ g = .commit) → t = s) ∧
    ((s.cell c.val).st ≠ .doze → (s.cell c.val).st ≠ .slumber → t = s)) ∧
  (∀ (s : State) (c : Fin 64) (own : List Bool) (slots : BitVec 8), ∃ t, exec (.wakeComplete c own slots) s = .next t ∧ t.hif.slotOwn = slots ∧
    ((s.cell c.val).st = .waking false → t = { s with hif := { s.hif with slotOwn := slots }, cel := tabMod {} c.val (fun x => { x with st := .run }) s.cel }) ∧
    ((s.cell c.val).st = .waking true → (t.cell c.val).st = .run ∧ (t.cell c.val).rejoin = true ∧ t.crn = s.crn ∧ t.stg.cur = s.stg.cur ∧
      (s.inService c.val = true → t.hif.applied.getLsbD c.val = true) ∧ (s.inService c.val = false → t.hif.applied = s.hif.applied)) ∧
    ((∀ b, (s.cell c.val).st ≠ .waking b) → t = { s with hif := { s.hif with slotOwn := slots } })) ∧
  ∀ (s : State) (c : Fin 64), ∃ t, exec (.dutyRejoin c) s = .next t ∧ t = { s with cel := t.cel, flt := t.flt } ∧ (∀ d, d ≠ c.val → t.cell d = s.cell d) ∧
    ((s.cell c.val).st = .run → (t.cell c.val).rejoin = false) ∧
    ((s.cell c.val).st ≠ .run → (t.cell c.val).rejoin = (s.cell c.val).rejoin) ∧
    ((s.cell c.val).unbenchSoon = true → (t.cell c.val).benched = false ∧ (t.cell c.val).unbenchSoon = false ∧
      (s.fltRuns = true → (1024 + c.val, 5) ∉ t.flt.live)) ∧
    ((s.cell c.val).unbenchSoon = false → (t.cell c.val).benched = (s.cell c.val).benched ∧ t.flt = s.flt)

/-- CELL_EPOCH_APPLY and COMMIT_ISOLATION by 04 R139 and R140 and 01 R25: a running cell in service, and the ridge
controller for a slumbering one, applies the epoch; a cell that has not applied it is isolated with its ports, an
event and an interrupt; the commit completes with the last of them.

CELL_WAKE_TIMEOUT, CELL_ISOLATION and SUPPLY_FAULT by 14 R485, 16 R538, R540 and R549 and 01 R30: a cell that is not
in Run 2.6 us after its trigger, or whose supply fails, raises a live fatal event and is isolated, its ports that are
in use with it, and leaves duty at the next rotation boundary; the supply of a ridge, a stack group or a rail, an
uncorrectable word in a core's control SRAM and a failure of the crypto unit ask for the module fatal reset, of which
the first keeps its place; an uncorrectable word of the flash or the PCI Express controller raises a degraded event.
No firmware is needed for it. That these failures are rows' operands, and their words, are the model's choice (log
entries 30, 89). -/
def Obligations.CellIsolation : Prop :=
  ((∀ (s : State) (c : Fin 64) (slots : BitVec 8),
    let x := (s.cell c.val).st
    let acts := s.hif.applied.getLsbD c.val = false ∧ s.inService c.val = true ∧ (x = .run ∨ x = .slumber ∨ x = .waking true)
    ∃ t, exec (.cellEpochApply c slots) s = .next t ∧ (¬acts → t = { s with hif := { s.hif with slotOwn := slots } }) ∧
      (acts → t.hif.applied = s.hif.applied ||| BitVec.ofNat 64 (2 ^ c.val) ∧ t.hif.isolated = s.hif.isolated ∧ t.hif.epoch = s.hif.epoch ∧
        t.stg = s.stg ∧ t.crn = s.crn ∧ (t.cell c.val).st = x ∧
        (t.hif.pend = true ↔ s.hif.pend = true ∧ (s.hif.applied ||| BitVec.ofNat 64 (2 ^ c.val)) ||| s.hif.isolated ≠ BitVec.allOnes 64) ∧
        (s.hif.pend = true → t.hif.pend = false → t.hif.irq.getLsbD 1 = true))) ∧
  (∀ (s : State) (c : Fin 64) (slots : BitVec 8), (s.hif.pend = false ∨ s.hif.applied.getLsbD c.val = true ∨ s.hif.isolated.getLsbD c.val = true) →
    exec (.commitIsolation c slots) s = .next { s with hif := { s.hif with slotOwn := slots } }) ∧
  ∀ (s : State) (c : Fin 64) (slots : BitVec 8), s.hif.pend = true → s.hif.applied.getLsbD c.val = false → s.hif.isolated.getLsbD c.val = false →
    ∃ t, exec (.commitIsolation c slots) s = .next t ∧ t.hif.isolated = s.hif.isolated ||| BitVec.ofNat 64 (2 ^ c.val) ∧ t.hif.applied = s.hif.applied ∧
      t.hif.irq.getLsbD 2 = true ∧ (s.fltRuns = true → (1024 + c.val, 1) ∈ t.flt.live ∧ t.flt.flt.getLsbD (1024 + c.val) = true) ∧
      (t.hif.pend = true ↔ s.hif.applied ||| (s.hif.isolated ||| BitVec.ofNat 64 (2 ^ c.val)) ≠ BitVec.allOnes 64) ∧
      (∀ i, i < 16 → (t.port (16 * c.val + i)).link = if (s.port (16 * c.val + i)).link = .disabled then .disabled else .isolated) ∧
      (∀ p, p / 16 ≠ c.val → t.port p = s.port p) ∧ t.stg = s.stg ∧ t.crn = s.crn) ∧
  ((∀ (s : State) (c : Fin 64) (b : Bool), (s.cell c.val).st = .waking b →
    (s.upNs < (s.cell c.val).wakeAt + 2600 → exec (.cellWakeTimeout c) s = .next s) ∧
    ((s.cell c.val).wakeAt + 2600 ≤ s.upNs → ∃ t, exec (.cellWakeTimeout c) s = .next t ∧ (t.cell c.val).fatalIso = true ∧
      ((s.cell c.val).fatalIso = false → (t.cell c.val).isoSoon = !(s.cell c.val).out) ∧
      (s.fltRuns = true → (1024 + c.val, 9) ∈ t.flt.live ∧ t.flt.fatal.getLsbD (1024 + c.val) = true) ∧ t.crn = s.crn ∧ t.stg = s.stg)) ∧
  (∀ (s : State) (c : Fin 64), (s.cell c.val).st ≠ .off → ((1024 + c.val, 9) ∈ s.flt.live ∨ (1024 + c.val, 10) ∈ s.flt.live) →
    ∃ t, exec (.cellIsolation c) s = .next t ∧ (t.cell c.val).fatalIso = true ∧ t.crn = s.crn ∧ t.stg = s.stg ∧
      ((s.cell c.val).fatalIso = true → t = s) ∧
      ((s.cell c.val).fatalIso = false → (t.cell c.val).isoSoon = (!(s.cell c.val).out) ∧ (∀ p, p / 16 ≠ c.val → t.port p = s.port p) ∧
        ∀ i, i < 16 → (t.port (16 * c.val + i)).link = if (s.port (16 * c.val + i)).link = .disabled then .disabled else .isolated)) ∧
  ∀ s : State,
    (∀ u, s.fltRuns = false → (s.cairnRuns = false ∨ u ≠ .rail ∧ u ≠ .flash) → exec (.supplyFault u) s = .next s) ∧
    (∀ c : Fin 64, s.fltRuns = true → ((s.cell c.val).st = .off → exec (.supplyFault (.cell c)) s = .next s) ∧
      ((s.cell c.val).st ≠ .off → ∃ t, exec (.supplyFault (.cell c)) s = .next t ∧ (t.cell c.val).fatalIso = true ∧
        (1024 + c.val, 10) ∈ t.flt.live ∧ t.flt.fatal.getLsbD (1024 + c.val) = true ∧ t.crn = s.crn)) ∧
    (s.fltRuns = true → ∃ t, exec (.supplyFault .pcie) s = .next t ∧ t = { s with flt := t.flt } ∧ t.flt.evt = s.flt.evt ||| srcMask 1144 ∧ t.flt.flt = s.flt.flt) ∧
    (s.cairnRuns = true → ∃ t, exec (.supplyFault .flash) s = .next t ∧ t = { s with flt := t.flt } ∧ t.flt.evt = s.flt.evt ||| srcMask 1136 ∧
      t.flt.flt = s.flt.flt) ∧
    ∀ (u : SupplyUnit) (src n : Nat), ((∃ r : Fin 8, u = .ridge r ∧ src = 1088 + r.val ∧ n = 4) ∨ (∃ g : Fin 16, u = .stackGroup g ∧ src = 1096 + g.val ∧ n = 3) ∨
        (∃ (k : Fin 16) (w : Nat), u = .core k w ∧ src = 1112 + k.val ∧ n = 1) ∨ (u = .crypto ∧ src = 1149 ∧ n = 1)) ∧ s.fltRuns = true ∨
        u = .rail ∧ src = 1134 ∧ n = 1 ∧ s.cairnRuns = true →
      ∃ t, exec (.supplyFault u) s = .next t ∧ t = { s with flt := t.flt, img := t.img, sup := t.sup, crn := t.crn } ∧
        t.crn = { s.crn with
          fatalTrig := t.crn.fatalTrig
          fatalAt := t.crn.fatalAt } ∧ (s.crn.fatalTrig = none → t.crn.fatalAt = s.upNs) ∧ t.crn.fatalTrig = some (s.crn.fatalTrig.getD (src, n)) ∧
        t.flt.fatal = s.flt.fatal ||| srcMask src ∧ (s.crn.fwRuns = true → t.img.open_ = none))

/-! ## Invariants of every step -/

/-- OTP is one-way (15 R508, R520): whatever step is taken in whatever state, an enrolled slot stays enrolled, a revoked
slot stays revoked, and no anti-rollback number falls. -/
def Obligations.OtpIsOneWay : Prop :=
  ∀ s t : State, step s = .next t → s.OtpKept t

/-- Epoch 0 is never used (04 R137): every step keeps CURRENT from 1 to 0xFFFF. -/
def Obligations.EpochIsNeverZero : Prop :=
  ∀ s t : State, s.EpochSound → step s = .next t → t.EpochSound

/-- Without input power nothing runs (02 R71; 03 R83, R95): every step keeps an unpowered module without firmware,
transition, waiting reset, watchdog and session. -/
def Obligations.UnpoweredIsInert : Prop :=
  ∀ s t : State, s.PowerSound → step s = .next t → t.PowerSound

/-- Every step keeps the tables of ports, cells, counters and configuration in their one canonical form, and the journal's
segments in the order of their numbers (03 R101; 14 R499). -/
def Obligations.TablesStayCanonical : Prop :=
  ∀ s t : State, s.Canonical → step s = .next t → t.Canonical

/-- The invariants hold right after reset. -/
def Obligations.InvariantsHoldAtReset : Prop :=
  State.reset.EpochSound ∧ State.reset.PowerSound ∧ State.reset.Canonical

/-! ## Completion -/

/-- PORT_SET, PORT_STATUS, PORT_STATS_READ, CLS_PARSER_SET, CLS_BANK_SET, CLS_PROFILE_SET, CLS_PORT_SET, CLS_RULE_WRITE,
CLS_RULE_DELETE, CLS_RULE_READ, CLS_METER_SET, CLS_MIRROR_SET and CLS_STATS_READ complete, by 06 R216 to R219 and 07
R252 to R262: an accepted command whose fields are in range, and whose object exists and is free, answers OK, and the
setting is staged or the values are read.

TBL_VLAN_SET, TBL_PORT_SET, TBL_NEXTHOP_SET, TBL_ROUTER_MAC, TBL_GROUP_SET, TBL_HASH_KEY, TBL_MCAST_SET, TBL_L2_WRITE,
TBL_ROUTE_WRITE, TBL_AGE_SET, TBL_L2_FLUSH, TBL_L2_READ, TBL_LOOKUP and TBL_STATS_READ complete, by 08 R284 and R295
to R302: an accepted command whose fields are in range answers OK, and the setting or entry is staged, removed or
read. AGING_PASS_ROW, LEARN_FILTER_EXPIRY, LEARN_REPORT_HANDLE, TABLE_SCRUB and TABLE_WORD_RESTORE complete, by 08
R270, R271, R276 and R291. What an insert takes where the guarantee holds (log entry 10), and how the words of a table
are numbered (log entry 30), are the model's choice.

FLOW_FORMAT, FLOW_TEMPLATE_SET, FLOW_ZONE_SET, FLOW_AGE_SET, FLOW_ARCHIVE_READ, FLOW_STATS_READ, FLOW_READ,
FLOW_DELETE and FLOW_ZONE_FLUSH complete, by 09 R345 to R353: an accepted command whose fields are in range is
answered, or begins what its answer waits for. FLOW_FORMAT_DONE, READ, DELETE, ZONE_FLUSH_DONE, SWEEP_VISIT,
DRAM_SCRUB, CACHE_LOOKUP, INVALIDATE, COLLECT, ACK, FLUSH and RELEASE complete, by 09 R324 to R331, R339, R346, R350
and R351, each with its effect on the store, the caches and the messages between them. What a number of ARCHIVE_READ
that no record has is answered with (log entry 3), and what a burst holds (log entry 37), are the model's choice. -/
def Obligations.CommandsComplete : Prop :=
  ((∀ (s : State) (r q : Req), s.Accepts 0x0301 r q → q.ExtSize 4 → q.f 4 31 23 = 0 → q.f 5 31 14 = 0 → q.f 7 31 10 = 0 → q.f 4 13 10 ≤ 4 →
    fecAllowed (q.f 4 13 10) (q.f 4 15 14) = true → (q.f 4 18 18 = 1 → (q.f 4 13 10 = 1 ∨ q.f 4 13 10 = 2) ∧ q.f 6 15 0 ≠ 0 ∧ q.f 6 31 16 ≠ 0) →
    64 ≤ q.f 5 13 0 → q.f 5 13 0 ≤ 9216 → q.f 7 9 0 ≤ 1000 → (q.f 4 13 10 < 3 → isPort s.stg.staged (q.f 4 9 0) = true) →
    (3 ≤ q.f 4 13 10 → q.f 4 9 0 % 4 = 0 ∧ ∀ k, q.f 4 9 0 < k → k < q.f 4 9 0 + 4 → isPort s.stg.staged k = true → portEnabled s.stg.staged k = false) →
    ∃ u : State, exec (.portSet r) s = .next (u.respond 0x0301 q stOk []) ∧ u = { s with stg := u.stg } ∧ u.stg.flag = true ∧
      portWords u.stg.staged (q.f 4 9 0) = [q.w 4, q.w 5, q.w 6, q.w 7]) ∧
  (∀ (s : State) (r q : Req), s.Accepts 0x0302 r q → q.ExtSize 1 → q.f 4 31 10 = 0 → 4 ≤ q.room → isPort (s.portCfg (q.f 4 9 0)) (q.f 4 9 0) = true →
    ∃ ws : List Word, exec (.portStatus r) s = .next (s.respond 0x0302 q stOk ws) ∧ ws.length = 4 ∧ fld (wordAt ws 0) 1 0 = linkCode (s.port (q.f 4 9 0)).link) ∧
  (∀ (s : State) (r q : Req), s.Accepts 0x0303 r q → q.ExtSize 1 → q.f 4 31 22 = 0 → q.f 4 9 0 + q.f 4 20 10 ≤ 1024 → 2 + 49 * q.f 4 20 10 ≤ q.room →
    (q.f 4 21 21 = 1 → s.hif.snapOk = true) →
    ∃ ws : List Word, exec (.portStatsRead r) s = .next (s.respond 0x0303 q stOk ws) ∧ ws.length = 2 + 49 * q.f 4 20 10 ∧ wordAt ws 1 = wd (q.f 4 20 10)) ∧
  (∀ (s : State) (r q : Req), s.Accepts 0x0401 r q → q.ExtSize 1 → q.f 4 31 17 = 0 → q.f 4 15 0 ≠ 0 →
    ∃ u : State, exec (.clsParserSet r) s = .next (u.respond 0x0401 q stOk []) ∧ u = { s with stg := u.stg } ∧
      cfgWords u.stg.staged 0x0401 0 [wd (4789 + 2 ^ 16)] = [q.w 4]) ∧
  (∀ (s : State) (r q : Req), s.Accepts 0x0402 r q → q.ExtSize 3 → q.f 4 31 13 = 0 → q.f64 5 ≠ 0 →
    (q.f 4 5 4 = 0 → q.f 4 12 6 = 0) → (q.f 4 5 4 = 1 → q.f 4 9 8 = 0) → (q.f 4 5 4 = 2 → q.f 4 7 6 < q.f 4 9 8) →
    (q.f 4 5 4 = 3 → q.f 4 9 6 = 0) → (q.f 4 5 4 ≠ 0 → q.f 4 12 10 ≠ 0) →
    (∀ c, c < 64 → (q.f64 5).testBit c = true → s.bankBusy (q.f 4 3 0) c = false) →
    ∃ u : State, exec (.clsBankSet r) s = .next (u.respond 0x0402 q stOk []) ∧ u = { s with stg := u.stg } ∧
      ∀ c, c < 64 → (q.f64 5).testBit c = true → bankWord u.stg.staged (q.f 4 3 0) c = q.w 4) ∧
  (∀ (s : State) (r q : Req), s.Accepts 0x0403 r q → q.size = 21 → q.f 4 31 3 = 0 → q.f 19 31 27 = 0 → q.f 20 31 25 = 0 →
    q.f64 5 ≠ 0 → q.f 19 8 0 ≤ 383 → q.f 19 17 9 ≤ 383 → q.f 19 26 18 ≤ 383 → q.f 20 8 0 ≤ 383 →
    actionBad [q.w 21, q.w 22, q.w 23, q.w 24] = false →
    ∃ u : State, exec (.clsProfileSet r) s = .next (u.respond 0x0403 q stOk []) ∧ u = { s with stg := u.stg } ∧
      ∀ c, c < 64 → (q.f64 5).testBit c = true →
        profileWords u.stg.staged (q.f 4 2 0) c = q.payload.take 1 ++ two (2 ^ c) ++ q.payload.drop 3) ∧
  (∀ (s : State) (r q : Req), s.Accepts 0x0404 r q → q.ExtSize 1 → q.f 4 31 31 = 0 → isPort s.stg.staged (q.f 4 9 0) = true →
    ∃ u : State, exec (.clsPortSet r) s = .next (u.respond 0x0404 q stOk []) ∧ u = { s with stg := u.stg } ∧
      clsPortWord u.stg.staged (q.f 4 9 0) = q.w 4) ∧
  (∀ (s : State) (r q : Req), s.Accepts 0x0410 r q → q.size = 31 → q.f 4 31 22 = 0 → q.f64 5 ≠ 0 → 2 ≤ q.room →
    (∀ i, i < 12 → q.w (7 + i) &&& ~~~ q.w (19 + i) = 0) → actionBad [q.w 31, q.w 32, q.w 33, q.w 34] = false →
    ∀ w, w ≠ 0 → q.f 4 13 4 < widthEntries w → (∀ i, i < 12 → widthWords w ≤ i → q.w (7 + i) = 0 ∧ q.w (19 + i) = 0) →
    (∀ c, c < 64 → (q.f64 5).testBit c = true → bankWidth s.stg.staged (q.f 4 3 0) c = w ∧
      s.occupied 0x0410 (ruleObj (q.f 4 3 0) (q.f 4 13 4) c) = false) →
    ∃ u : State, exec (.clsRuleWrite r) s = .next (u.respond 0x0410 q stOk (two (q.f64 5))) ∧ u = { s with stg := u.stg } ∧
      ∀ c, c < 64 → (q.f64 5).testBit c = true → cfgFind u.stg.staged 0x0410 (ruleObj (q.f 4 3 0) (q.f 4 13 4) c) =
        some (wd ((q.w 4).toNat % 2 ^ 22) :: two (2 ^ c) ++ q.payload.drop 3)) ∧
  (∀ (s : State) (r q : Req), s.Accepts 0x0411 r q → q.ExtSize 3 → q.f 4 31 14 = 0 → q.f64 5 ≠ 0 →
    (∀ c, c < 64 → (q.f64 5).testBit c = true → cfgFind s.stg.staged 0x0410 (ruleObj (q.f 4 3 0) (q.f 4 13 4) c) ≠ none) →
    ∃ u : State, exec (.clsRuleDelete r) s = .next (u.respond 0x0411 q stOk []) ∧ u = { s with stg := u.stg } ∧
      ∀ c, c < 64 → (q.f64 5).testBit c = true → cfgFind u.stg.staged 0x0410 (ruleObj (q.f 4 3 0) (q.f 4 13 4) c) = none) ∧
  (∀ (s : State) (r q : Req), s.Accepts 0x0412 r q → q.ExtSize 1 → q.f 4 31 20 = 0 → 29 ≤ q.room →
    ∃ ws : List Word, exec (.clsRuleRead r) s = .next (s.respond 0x0412 q stOk ws) ∧ ws.length = 29 ∧
      (fld (wordAt ws 0) 1 0 = 1 ↔ cfgFind s.stg.cur 0x0410 (ruleObj (q.f 4 9 6) (q.f 4 19 10) (q.f 4 5 0)) ≠ none ∧
        cfgFind s.stg.staged 0x0410 (ruleObj (q.f 4 9 6) (q.f 4 19 10) (q.f 4 5 0)) ≠ none)) ∧
  (∀ (s : State) (r q : Req), s.Accepts 0x0420 r q → q.ExtSize 7 → q.f 4 31 12 = 0 → q.f 7 31 27 = 0 → q.f 8 31 27 = 0 → q.f 9 31 24 = 0 →
    q.f 10 31 24 = 0 → q.f64 5 ≠ 0 → q.f 7 26 0 ≤ q.f 8 26 0 → q.f 8 26 0 ≤ 100000000 → 64 ≤ q.f 9 23 0 → 64 ≤ q.f 10 23 0 →
    ∃ u : State, exec (.clsMeterSet r) s = .next (u.respond 0x0420 q stOk []) ∧ u = { s with stg := u.stg } ∧
      ∀ c, c < 64 → (q.f64 5).testBit c = true →
        meterWords u.stg.staged (q.f 4 11 0) c = q.w 4 :: two (2 ^ c) ++ [q.w 7, q.w 8, q.w 9, q.w 10]) ∧
  (∀ (s : State) (r q : Req), s.Accepts 0x0421 r q → q.ExtSize 3 → q.f 4 31 27 = 0 → q.f64 5 ≠ 0 →
    (q.f 4 17 17 = 1 → 64 ≤ q.f 4 26 18 ∧ q.f 4 26 18 ≤ 256) → (q.f 4 16 16 = 1 → isPort s.stg.staged (q.f 4 12 3) = true) →
    ∃ u : State, exec (.clsMirrorSet r) s = .next (u.respond 0x0421 q stOk []) ∧ u = { s with stg := u.stg } ∧
      ∀ c, c < 64 → (q.f64 5).testBit c = true → mirrorWord u.stg.staged (q.f 4 2 0) c = q.w 4) ∧
  ∀ (s : State) (r q : Req), s.Accepts 0x0430 r q → q.ExtSize 2 → q.f 4 31 8 = 0 → q.f 5 31 27 = 0 → q.f 4 7 6 = 2 →
    q.f 5 12 0 + q.f 5 26 13 ≤ 8 → 1 + 2 * q.f 5 26 13 ≤ q.room →
    ∃ ws : List Word, exec (.clsStatsRead r) s = .next (s.respond 0x0430 q stOk ws) ∧ ws.length = 1 + 2 * q.f 5 26 13 ∧
      ∀ i, i < q.f 5 26 13 → wordAt ws (1 + 2 * i) = wd (s.count 5 (q.f 4 5 0) (q.f 5 12 0 + i))) ∧
  ((∀ (s : State) (r q : Req), s.Accepts 0x0501 r q → q.ExtSize 2 → q.f 4 31 31 = 0 → q.f 5 31 18 = 0 → q.f 4 11 0 ≠ 0 → q.f 4 11 0 ≠ 4095 →
    q.f 5 1 0 ≠ 3 → q.f 5 3 2 ≠ 3 → s.img.policy.placePermit.testBit (q.f 5 3 2) = true →
    ∃ u : State, exec (.tblVlanSet r) s = .next (u.respond 0x0501 q stOk []) ∧ u = { s with stg := u.stg } ∧
      cfgWords u.stg.staged 0x0501 (q.f 4 11 0) (vlanDefault (q.f 4 11 0)) = [q.w 4, q.w 5]) ∧
  (∀ (s : State) (r q : Req), s.Accepts 0x0502 r q → q.ExtSize 1 → q.f 4 31 23 = 0 → isPort s.stg.staged (q.f 4 9 0) = true →
    ∃ u : State, exec (.tblPortSet r) s = .next (u.respond 0x0502 q stOk []) ∧ u = { s with stg := u.stg } ∧ pvid u.stg.staged (q.f 4 9 0) = q.f 4 21 10) ∧
  (∀ (s : State) (r q : Req), s.Accepts 0x0521 r q → q.ExtSize 4 → q.f 4 31 17 = 0 → q.f 5 31 28 = 0 → q.f 7 31 16 = 0 →
    destKind (q.f 5 15 0) ≤ 1 → destInRange s.stg.staged (q.f 5 15 0) = true →
    ∃ u : State, exec (.tblNexthopSet r) s = .next (u.respond 0x0521 q stOk []) ∧ u = { s with stg := u.stg } ∧
      nextHop u.stg.staged (q.f 4 15 0) = [q.w 4, q.w 5, q.w 6, q.w 7]) ∧
  (∀ (s : State) (r q : Req), s.Accepts 0x0522 r q → q.ExtSize 2 → q.f 5 31 16 = 0 → (q.w 5).toNat / 256 % 2 = 0 →
    ∃ u : State, exec (.tblRouterMac r) s = .next (u.respond 0x0522 q stOk []) ∧ u = { s with stg := u.stg } ∧ routerMac u.stg.staged = q.f64 4) ∧
  (∀ (s : State) (r q : Req), s.Accepts 0x0530 r q → q.ExtSize (2 + (q.f 4 19 13 + 1) / 2) → q.f 4 31 20 = 0 → q.f 5 31 8 = 0 → 1 ≤ q.f 4 19 13 →
    q.f 4 19 13 ≤ 64 → q.f 5 7 0 ≠ 0 → (q.f 4 12 12 = 1 → ∀ p ∈ halves q.payload 2 (q.f 4 19 13), isPort s.stg.staged p = true) →
    ∃ u : State, exec (.tblGroupSet r) s = .next (u.respond 0x0530 q stOk []) ∧ u = { s with stg := u.stg } ∧
      ∀ d, d < 8 → (q.f 5 7 0).testBit d = true → groupMembers u.stg.staged (q.f 4 11 0) d = halves q.payload 2 (q.f 4 19 13)) ∧
  (∀ (s : State) (r q : Req), s.Accepts 0x0531 r q → q.ExtSize 3 → q.f 6 31 8 = 0 → q.f 6 7 0 ≠ 0 →
    ∃ u : State, exec (.tblHashKey r) s = .next (u.respond 0x0531 q stOk []) ∧ u = { s with stg := u.stg } ∧
      ∀ d, d < 8 → (q.f 6 7 0).testBit d = true → hashKey u.stg.staged d = q.f64 4) ∧
  (∀ (s : State) (r q : Req), s.Accepts 0x0540 r q → q.ExtSize (1 + (q.f 4 20 14 + 1) / 2) → q.f 4 31 21 = 0 → q.f 4 20 14 ≤ 64 →
    (∀ d ∈ halves q.payload 1 (q.f 4 20 14), destKind d = 0 ∧ destInRange s.stg.staged d = true) →
    ∃ u : State, exec (.tblMcastSet r) s = .next (u.respond 0x0540 q stOk []) ∧ u = { s with stg := u.stg } ∧
      mcastMembers u.stg.staged (q.f 4 13 0) = halves q.payload 1 (q.f 4 20 14)) ∧
  (∀ (s : State) (r q : Req), s.Accepts 0x0510 r q → q.ExtSize 5 → q.f 4 31 12 = 0 → q.f 4 11 0 ≠ 0 → q.f64 7 ≠ 0 →
    destKind (q.f 6 31 16) = 0 → destInRange s.stg.staged (q.f 6 31 16) = true →
    let key (c : Nat) := l2Obj (q.f 4 11 0) (join (q.w 5) (q.w 6) % 2 ^ 48) c
    (∀ c, c < 64 → (q.f64 7).testBit c = true → s.l2Count c < 58982 ∧ ∀ side ∈ s.sides c, cfgFind side 0x0510 (key c) = none) →
    ∃ u : State, exec (.tblL2Write r) s = .next (u.respond 0x0510 q stOk []) ∧ u = { s with stg := u.stg, tbl := u.tbl, flt := u.flt } ∧
      ∀ c, c < 64 → (q.f64 7).testBit c = true → cfgFind u.stg.staged 0x0510 (key c) = some ([wd (q.f 4 11 0), q.w 5, q.w 6] ++ two (2 ^ c))) ∧
  (∀ (s : State) (r q : Req), s.Accepts 0x0520 r q → q.ExtSize 8 → q.f 4 31 14 = 0 → q.f 9 31 19 = 0 → q.f64 10 = 0 → q.f 9 2 0 = 1 →
    let fam := q.f 4 4 4
    let addr := wordsNat [q.w 5, q.w 6, q.w 7, q.w 8]
    let key := routeObj (q.f 4 3 0) fam (q.f 4 12 5) addr 64
    longPrefix fam (q.f 4 12 5) = false → (fam = 0 → addr < 2 ^ 32) → addr % 2 ^ (famBits fam - q.f 4 12 5) = 0 →
    cfgFind s.stg.staged 0x0520 key = none → s.trieUnits + 1 + fam ≤ 1048576 →
    ∃ (u : State) (w : List Word), exec (.tblRouteWrite r) s = .next (u.respond 0x0520 q stOk []) ∧ u = { s with stg := u.stg, tbl := u.tbl, flt := u.flt } ∧
      cfgFind u.stg.staged 0x0520 key = some w ∧ wordAt w 5 = q.w 9) ∧
  (∀ (s : State) (r q : Req), s.Accepts 0x0513 r q → q.ExtSize 1 → q.f 4 31 21 = 0 → 10 ≤ q.f 4 19 0 → q.f 4 19 0 ≤ 1000000 →
    ∃ u : State, exec (.tblAgeSet r) s = .next (u.respond 0x0513 q stOk []) ∧ u.ageWord = q.w 4 ∧ u.stg.cur = s.stg.cur) ∧
  (∀ (s : State) (r q : Req), s.Accepts 0x0511 r q → q.ExtSize 1 → q.f 4 15 14 = 0 → q.f 4 12 12 = 1 → q.f 4 13 13 = 1 → 1 ≤ q.room →
    ∃ u : State, exec (.tblL2Flush r) s = .next (u.respond 0x0511 q stOk [wd (s.tbl.master.filter fun e => (s.staticMaster (e.1 / 2 ^ 48) (e.1 % 2 ^ 48)).isNone).length]) ∧ u.tbl.master = [] ∧ u.stg = s.stg) ∧
  (∀ (s : State) (r q : Req), s.Accepts 0x0512 r q → q.ExtSize 3 → q.f 4 31 12 = 0 → q.f 6 31 16 = 0 → 5 ≤ q.room →
    ∀ m, s.master (q.f 4 11 0) (join (q.w 5) (q.w 6) % 2 ^ 48) = some m →
    (∀ c, c < 64 → cfgFind s.stg.cur 0x0510 (l2Obj (q.f 4 11 0) (join (q.w 5) (q.w 6) % 2 ^ 48) c) = none) →
    exec (.tblL2Read r) s = .next (s.respond 0x0512 q stOk ([wd m.dest] ++ two m.cells.toNat ++ two m.moved))) ∧
  (∀ (s : State) (r q : Req), s.Accepts 0x0550 r q → q.ExtSize 11 → q.f 4 31 11 = 0 → 3 ≤ q.room →
    ∃ ws : List Word, exec (.tblLookup r) s = .next (s.respond 0x0550 q stOk ws) ∧ ws.length = 3) ∧
  (∀ (s : State) (r q : Req), s.Accepts 0x0560 r q → q.ExtSize 1 → q.f 4 31 16 = 0 → q.f 4 6 0 < 64 → q.f 4 10 7 + q.f 4 15 11 ≤ 16 →
    1 + 2 * q.f 4 15 11 ≤ q.room →
    ∃ ws : List Word, exec (.tblStatsRead r) s = .next (s.respond 0x0560 q stOk ws) ∧ ws.length = 1 + 2 * q.f 4 15 11 ∧
      ∀ j, j < q.f 4 15 11 → wordAt ws (1 + 2 * j) = wd (s.count 6 (q.f 4 6 0) (q.f 4 10 7 + j))) ∧
  (∀ (s : State) (c : Fin 64) (fid : Fin 4096) (mac : Nat) (last own : Bool) (e : DynEntry), (s.cell c.val).st = .run → s.crn.fwRuns = true →
    (s.cell c.val).ageRow ≠ 0 → (s.cell c.val).ageOn = true → tabFind s.tbl.dyn (l2Obj fid.val mac c.val) = some e → e.act = true →
    s.l2Gone (l2Obj fid.val mac c.val) false = false →
    ∃ t, exec (.agingPassRow c fid mac last own) s = .next t ∧ t = { s with tbl := t.tbl, cel := t.cel } ∧
      tabFind t.tbl.dyn (l2Obj fid.val mac c.val) = some { e with act := false } ∧ (t.cell c.val).ageRow = if last then 0 else (s.cell c.val).ageRow + 1) ∧
  (∀ (s : State) (c : Fin 64) (fid : Fin 4096) (mac : Nat), ∃ t, exec (.learnFilterExpiry c fid mac) s = .next t ∧ t = { s with cel := t.cel } ∧
    ∀ e ∈ (t.cell c.val).filter, e ∈ (s.cell c.val).filter ∧ ¬(e.1 = fid.val ∧ e.2.1 = mac ∧ e.2.2 + 10000000 ≤ s.upNs)) ∧
  (∀ (s : State) (own : Bool) (r : Report) (rest : List Report), s.crn.fwRuns = true → s.tbl.reports = r :: rest → r.kind = 0 →
    s.master r.fid r.mac = none → s.masterCount < 4194304 → s.img.policy.placePermit.testBit r.place = true →
    ∃ t m, exec (.learnReportHandle own) s = .next t ∧ t.tbl.reports = rest ∧ t.master r.fid r.mac = some m ∧ m.dest = r.port) ∧
  (∀ (s : State) (u : Fin 72) (table : Fin 16) (index : Nat), s.scrubs u.val = true → unitTable u.val table.val = true →
    (∃ t, exec (.tableScrub u table index .corrected) s = .next t ∧ t = { s with ctr := t.ctr } ∧
      (u.val < 64 → t.count 6 u.val 11 = (s.count 6 u.val 11 + 1) % 2 ^ 64)) ∧
    (table.val ∉ [10, 11, 12, 14] → ∃ t, exec (.tableScrub u table index .uncorrectable) s = .next t ∧ t.isAbsent u.val table.val index = true)) ∧
  ∀ (s : State) (u : Fin 72) (table : Fin 16) (index : Nat) (own : Bool), s.crn.fwRuns = true → s.isAbsent u.val table.val index = true →
    ∃ t, exec (.tableWordRestore u table index own) s = .next t ∧ t.isAbsent u.val table.val index = false) ∧
  ((∀ (s : State) (r q : Req), s.Accepts 0x0601 r q → q.ExtSize 5 → q.f 4 31 7 = 0 → q.f 4 5 0 ≤ 48 → q.f 4 5 0 % 4 = 0 →
    (q.f 4 6 6 = 0 → q.f64 5 = 0 ∧ q.f64 7 = 0) → 1 ≤ q.room → s.flt.fatal = 0 → s.hif.pend = false → s.flo.formatting = false → s.inRun = true →
    s.pfwLow = false →
    ∃ t, exec (.flowFormat r) s = .next t ∧ t.flo.formatting = true ∧ t.flo.next.2 = q.f 4 5 0 ∧
      t.hif.deferred = s.hif.deferred ++ [{ kind := .format, op := 0x0601, req := q }]) ∧
  (∀ (s : State) (slots : BitVec 8), s.flo.formatting = true → (∀ o ∈ s.flo.ops, o.place = .done) → s.flo.voids = [] → s.flo.fwOps = [] →
    s.flo.coh = [] → s.prg.comps = [] → s.prg.ctx = [] →
    ∃ t, exec (.flowFormatDone slots) s = .next t ∧ t.flo.formatted = true ∧ t.flo.formatting = false ∧ t.flo.recs = [] ∧
      t.flo.formatId = s.flo.formatId + 1 ∧ t.flo.salt = s.flo.next.1) ∧
  (∀ (s : State) (r q : Req), s.Accepts 0x0602 r q → q.ExtSize 1 → q.f 4 31 18 = 0 → q.f 4 17 5 ≠ 0 → templateLen (q.f 4 17 5) 2 ≤ 40 →
    ∃ u : State, exec (.flowTemplateSet r) s = .next (u.respond 0x0602 q stOk []) ∧ u = { s with stg := u.stg } ∧
      templateFields u.stg.staged (q.f 4 4 0) = q.f 4 17 5) ∧
  (∀ (s : State) (r q : Req), s.Accepts 0x0603 r q → q.ExtSize 4 → q.f 4 31 14 = 0 → q.f 5 31 29 = 0 → q.f 7 31 24 = 0 → q.f 5 28 0 ≤ 268435456 →
    (q.w 6).toNat ≤ 1280000000 → 128 ≤ q.f 7 23 0 → (s.flo.archiveGib = 0 → q.f 4 13 12 < 2) → q.f 5 28 0 ≤ s.img.policy.quotaMax →
    (q.w 6).toNat ≤ s.img.policy.rateMax → q.f 7 23 0 ≤ s.img.policy.burstMax →
    ∃ u : State, exec (.flowZoneSet r) s = .next (u.respond 0x0603 q stOk []) ∧ u = { s with stg := u.stg } ∧
      cfgWords u.stg.staged 0x0603 (q.f 4 11 0) (coldZoneWords (q.f 4 11 0) s.stg.coldZone) = [q.w 4, q.w 5, q.w 6, q.w 7]) ∧
  (∀ (s : State) (r q : Req), s.Accepts 0x0604 r q → q.ExtSize 2 → q.f 4 31 4 = 0 → q.f 5 31 17 = 0 → 1 ≤ q.f 5 16 0 → q.f 5 16 0 ≤ 86400 →
    ∃ u : State, exec (.flowAgeSet r) s = .next (u.respond 0x0604 q stOk []) ∧ u = { s with stg := u.stg } ∧
      cfgWords u.stg.staged 0x0604 (q.f 4 3 0) [wd (q.f 4 3 0), wd (s.stg.coldAging.getD (q.f 4 3 0) 300)] = [q.w 4, q.w 5]) ∧
  (∀ (s : State) (r q : Req), s.Accepts 0x0620 r q → q.ExtSize 3 → q.f 4 31 15 = 0 → q.f 4 14 2 = 0 → 5 ≤ q.room → s.storeAway = false →
    s.flo.archiveGib ≠ 0 →
    ∃ (u : State) (a : List Word), exec (.flowArchiveRead r) s = .next (u.respond 0x0620 q stOk (0 :: (two (tabGet 0 s.flo.head (q.f 4 1 0)) ++ a))) ∧
      u = { s with draw := u.draw } ∧ a.length = 2) ∧
  (∀ (s : State) (r q : Req), s.Accepts 0x0620 r q → q.ExtSize 3 → q.f 4 31 15 = 0 → q.f 4 14 2 = 1 → s.storeAway = false → s.flo.archiveGib ≠ 0 →
    let head := tabGet 0 s.flo.head (q.f 4 1 0)
    let x := tabGet [] s.flo.archive (q.f 4 1 0 * 2 ^ 32 + q.f64 5 % s.archiveCap)
    q.f64 5 < head → head ≤ q.f64 5 + s.archiveCap → 5 + x.length ≤ q.room →
    ∃ u : State, exec (.flowArchiveRead r) s = .next (u.respond 0x0620 q stOk (1 :: (two head ++ two (q.f64 5) ++ x))) ∧ u = { s with draw := u.draw }) ∧
  (∀ (s : State) (r q : Req), s.Accepts 0x0630 r q → q.ExtSize 1 → q.f 4 31 25 = 0 → q.f 4 2 0 = 0 → q.f 4 14 3 < 128 → q.f 4 19 15 + q.f 4 24 20 ≤ 20 →
    1 + 2 * q.f 4 24 20 ≤ q.room →
    ∃ ws : List Word, exec (.flowStatsRead r) s = .next (s.respond 0x0630 q stOk ws) ∧ ws.length = 1 + 2 * q.f 4 24 20 ∧
      ∀ j, j < q.f 4 24 20 → wordAt ws (1 + 2 * j) = wd (s.flowItem 0 (q.f 4 14 3) (q.f 4 19 15 + j))) ∧
  (∀ (s : State) (r q : Req), s.Accepts 0x0610 r q → q.size = 12 → q.f 4 31 1 = 0 → q.f 4 0 0 = 1 → q.f 5 31 28 = 0 → (∀ i, i < 10 → q.w (6 + i) = 0) →
    s.storeAway = false →
    ∃ t o, exec (.flowRead r) s = .next t ∧ t.flo.fwOps = s.flo.fwOps ++ [o] ∧ o.req = q ∧ o.delete = false ∧ o.byHandle = true ∧ o.handle = q.f 5 27 0) ∧
  (∀ (s : State) (r q : Req), s.Accepts 0x0611 r q → q.size = 12 → q.f 4 31 1 = 0 → q.f 4 0 0 = 1 → q.f 5 31 28 = 0 → (∀ i, i < 10 → q.w (6 + i) = 0) →
    s.storeAway = false →
    ∃ t o, exec (.flowDelete r) s = .next t ∧ t.flo.fwOps = s.flo.fwOps ++ [o] ∧ o.req = q ∧ o.delete = true ∧ o.byHandle = true ∧ o.handle = q.f 5 27 0) ∧
  (∀ (s : State) (e : Fin 128) (tag : Fin 16) (slots : BitVec 8) (o : FwOp) (x : Rec),
    (s.flo.fwOps.find? fun o => o.engine == e.val && o.tag == tag.val && o.delete == false) = some o → o.lost = false → o.byHandle = true →
    s.recOf o.handle = some x → x.quarantined = false → x.presence = 0 → s.recBusy o.handle = false → 34 ≤ o.req.room →
    (∀ k, s.fwKey o = some k → s.behind o.ord e.val k = false) → s.contextOpen e.val 0 = true → ∀ fixed,
    ∃ u : State, exec (.read e tag none fixed slots) s = .next (u.respond 0x0610 ((s.sees slots).late o.req) stOk ([wd o.handle, 0] ++ x.image)) ∧
      u.flo.recs = s.flo.recs) ∧
  (∀ (s : State) (e : Fin 128) (tag : Fin 16) (slots : BitVec 8) (o : FwOp) (x : Rec),
    (s.flo.fwOps.find? fun o => o.engine == e.val && o.tag == tag.val && o.delete == true) = some o → o.lost = false → o.byHandle = true →
    s.recOf o.handle = some x → x.quarantined = false → x.presence = 0 → s.recBusy o.handle = false → 34 ≤ o.req.room →
    (∀ k, s.fwKey o = some k → s.behind o.ord e.val k = false) → s.contextOpen e.val 0 = true → ∀ fixed,
    ∃ u : State, exec (.delete e tag none fixed slots) s = .next (u.respond 0x0611 ((s.sees slots).late o.req) stOk ([wd o.handle, 0] ++ x.image)) ∧
      u.recOf o.handle = none) ∧
  (∀ (s : State) (r q : Req), s.Accepts 0x0612 r q → q.ExtSize 1 → q.f 4 31 12 = 0 → 1 ≤ q.room → s.storeAway = false →
    ∃ t n, exec (.flowZoneFlush r) s = .next t ∧ t.flo.flushing.contains (q.f 4 11 0) = true ∧
      t.hif.deferred.getLast? = some { kind := .zoneFlush (q.f 4 11 0) n, op := 0x0612, req := q }) ∧
  (∀ (s : State) (z : Fin 4096) (slots : BitVec 8), s.flo.flushing.contains z.val = true → s.zoneRecords z.val = [] →
    ∃ t, exec (.zoneFlushDone z slots) s = .next t ∧ t.flo.flushing = s.flo.flushing.filter (fun y => y != z.val) ∧ t.flo.recs = s.flo.recs) ∧
  (∀ (s : State) (h : Fin 268435456) (ecc : EccSeen), s.enginesRun = true → s.flo.formatted = true → s.recBusy h.val = false →
    ∃ t, exec (.sweepVisit h ecc) s = .next t ∧ tabGet 0 t.flo.sweep (engineOf h.val) = (h.val % 2 ^ 21 + 1) % 2 ^ 21) ∧
  (∀ (s : State) (stack : Fin 4) (n : Fin (2 ^ 29)) (h : Fin 268435456) (x : Rec), s.enginesRun = true → h.val / 2 ^ 26 = stack.val →
    s.recOf h.val = some x → x.quarantined = false →
    ∃ t, exec (.dramScrub stack n (.record h) .uncorrectable) s = .next t ∧ t.recOf h.val = some quarantinedRec) ∧
  (∀ (s : State) (c : Fin 64) (tag : Fin 256) (o : Op),
    (s.flo.ops.find? fun p => p.cell == c.val && p.tag == tag.val && decide (p.place = .cache)) = some o →
    s.nextAtCache (ridgeOf c.val) (o.engine / 32) o.ord = true →
    ((s.cacheOf (ridgeOf c.val)).find? fun x => x.holds (msgKey o.msg o.keyLen) && x.epoch == msgEpoch o.msg && x.program == msgProgram o.msg) = none →
    ∃ t, exec (.cacheLookup c tag false false) s = .next t ∧
      t.flo.ops = (s.flo.ops.filter fun p => !(p.cell == c.val && p.tag == tag.val)) ++ [{ o with place := .home, ord := s.flo.seq + 1 }]) ∧
  (∀ (s : State) (r : Fin 8) (h : Fin 268435456) (m : Coh) (rest : List Coh) (x : CacheEntry),
    takeFirst (fun m : Coh => m.ridge == r.val && m.handle / 2 ^ 26 == h.val / 2 ^ 26 && decide (m.kind < 2)) s.flo.coh = some (m, rest) →
    m.handle = h.val → ((s.cacheOf r.val).find? fun x => x.handle == h.val) = some x →
    (m.kind = 0 → ∃ t, exec (.invalidate r h) s = .next t ∧ t.flo.coh = rest ++ [{ x.deltas 2 r.val with ord := s.flo.seq + 1 }] ∧
      t.cacheOf r.val = (s.cacheOf r.val).filter fun y => y.handle != h.val) ∧
    (m.kind = 1 → ∃ t, exec (.collect r h) s = .next t ∧ t.flo.coh = rest ++ [{ x.deltas 2 r.val with ord := s.flo.seq + 1 }] ∧
      t.cacheOf r.val = (s.cacheOf r.val).map fun y => if y.handle = h.val then y.zeroed else y)) ∧
  ∀ (s : State) (r : Fin 8) (h : Fin 268435456) (slots : BitVec 8) (m : Coh) (rest : List Coh) (q : Rec),
    takeFirst (fun m : Coh => m.ridge == r.val && m.handle == h.val && decide (2 ≤ m.kind)) s.flo.coh = some (m, rest) →
    s.recOf h.val = some q → q.quarantined = false → tabFind s.flo.locked h.val = none → s.routeClear r.val (engineOf h.val) m.ord = true →
    (m.kind = 2 → ∃ t, exec (.ack r h slots) s = .next t ∧ t.flo.coh = rest ∧
      t.recOf h.val = some (if m.empty then (q.absorb m).clearRidge r.val else q.absorb m)) ∧
    (m.kind = 3 → ∃ t, exec (.release r h slots) s = .next t ∧ t.flo.coh = rest ∧ t.recOf h.val = some ((q.absorb m).clearRidge r.val)) ∧
    (m.kind = 4 → ∃ t, exec (.flush r h slots) s = .next t ∧ t.flo.coh = rest ∧ t.recOf h.val = some (q.absorb m)))
end

