-- ==== Sys2Proof/Laws/State.lean ====
section
/-!
SUPPORT. What each update of one part of the state leaves in each part: one lemma per part per update, so that no
proof unfolds a record update.
-/

namespace Sys2Proof.Machine

open Sys2Proof

/-! ## onCrn -/

@[simp] theorem State.onCrn_crn (f : Crn → Crn) (s : State) : (s.onCrn f).crn = f s.crn := (rfl)
@[simp] theorem State.onCrn_sup (f : Crn → Crn) (s : State) : (s.onCrn f).sup = s.sup := (rfl)
@[simp] theorem State.onCrn_tim (f : Crn → Crn) (s : State) : (s.onCrn f).tim = s.tim := (rfl)
@[simp] theorem State.onCrn_hif (f : Crn → Crn) (s : State) : (s.onCrn f).hif = s.hif := (rfl)
@[simp] theorem State.onCrn_flt (f : Crn → Crn) (s : State) : (s.onCrn f).flt = s.flt := (rfl)
@[simp] theorem State.onCrn_img (f : Crn → Crn) (s : State) : (s.onCrn f).img = s.img := (rfl)
@[simp] theorem State.onCrn_sec (f : Crn → Crn) (s : State) : (s.onCrn f).sec = s.sec := (rfl)
@[simp] theorem State.onCrn_stg (f : Crn → Crn) (s : State) : (s.onCrn f).stg = s.stg := (rfl)
@[simp] theorem State.onCrn_rng (f : Crn → Crn) (s : State) : (s.onCrn f).rng = s.rng := (rfl)
@[simp] theorem State.onCrn_bpm (f : Crn → Crn) (s : State) : (s.onCrn f).bpm = s.bpm := (rfl)
@[simp] theorem State.onCrn_pmu (f : Crn → Crn) (s : State) : (s.onCrn f).pmu = s.pmu := (rfl)
@[simp] theorem State.onCrn_prt (f : Crn → Crn) (s : State) : (s.onCrn f).prt = s.prt := (rfl)
@[simp] theorem State.onCrn_cel (f : Crn → Crn) (s : State) : (s.onCrn f).cel = s.cel := (rfl)
@[simp] theorem State.onCrn_frm (f : Crn → Crn) (s : State) : (s.onCrn f).frm = s.frm := (rfl)
@[simp] theorem State.onCrn_tbl (f : Crn → Crn) (s : State) : (s.onCrn f).tbl = s.tbl := (rfl)
@[simp] theorem State.onCrn_flo (f : Crn → Crn) (s : State) : (s.onCrn f).flo = s.flo := (rfl)
@[simp] theorem State.onCrn_prg (f : Crn → Crn) (s : State) : (s.onCrn f).prg = s.prg := (rfl)
@[simp] theorem State.onCrn_fab (f : Crn → Crn) (s : State) : (s.onCrn f).fab = s.fab := (rfl)
@[simp] theorem State.onCrn_egr (f : Crn → Crn) (s : State) : (s.onCrn f).egr = s.egr := (rfl)
@[simp] theorem State.onCrn_ctr (f : Crn → Crn) (s : State) : (s.onCrn f).ctr = s.ctr := (rfl)
@[simp] theorem State.onCrn_shadow (f : Crn → Crn) (s : State) : (s.onCrn f).shadow = s.shadow := (rfl)
@[simp] theorem State.onCrn_out (f : Crn → Crn) (s : State) : (s.onCrn f).out = s.out := (rfl)
@[simp] theorem State.onCrn_draw (f : Crn → Crn) (s : State) : (s.onCrn f).draw = s.draw := (rfl)
@[simp] theorem State.onCrn_pending (f : Crn → Crn) (s : State) : (s.onCrn f).pending = s.pending := (rfl)

/-! ## onSup -/

@[simp] theorem State.onSup_crn (f : Sup → Sup) (s : State) : (s.onSup f).crn = s.crn := (rfl)
@[simp] theorem State.onSup_sup (f : Sup → Sup) (s : State) : (s.onSup f).sup = f s.sup := (rfl)
@[simp] theorem State.onSup_tim (f : Sup → Sup) (s : State) : (s.onSup f).tim = s.tim := (rfl)
@[simp] theorem State.onSup_hif (f : Sup → Sup) (s : State) : (s.onSup f).hif = s.hif := (rfl)
@[simp] theorem State.onSup_flt (f : Sup → Sup) (s : State) : (s.onSup f).flt = s.flt := (rfl)
@[simp] theorem State.onSup_img (f : Sup → Sup) (s : State) : (s.onSup f).img = s.img := (rfl)
@[simp] theorem State.onSup_sec (f : Sup → Sup) (s : State) : (s.onSup f).sec = s.sec := (rfl)
@[simp] theorem State.onSup_stg (f : Sup → Sup) (s : State) : (s.onSup f).stg = s.stg := (rfl)
@[simp] theorem State.onSup_rng (f : Sup → Sup) (s : State) : (s.onSup f).rng = s.rng := (rfl)
@[simp] theorem State.onSup_bpm (f : Sup → Sup) (s : State) : (s.onSup f).bpm = s.bpm := (rfl)
@[simp] theorem State.onSup_pmu (f : Sup → Sup) (s : State) : (s.onSup f).pmu = s.pmu := (rfl)
@[simp] theorem State.onSup_prt (f : Sup → Sup) (s : State) : (s.onSup f).prt = s.prt := (rfl)
@[simp] theorem State.onSup_cel (f : Sup → Sup) (s : State) : (s.onSup f).cel = s.cel := (rfl)
@[simp] theorem State.onSup_frm (f : Sup → Sup) (s : State) : (s.onSup f).frm = s.frm := (rfl)
@[simp] theorem State.onSup_tbl (f : Sup → Sup) (s : State) : (s.onSup f).tbl = s.tbl := (rfl)
@[simp] theorem State.onSup_flo (f : Sup → Sup) (s : State) : (s.onSup f).flo = s.flo := (rfl)
@[simp] theorem State.onSup_prg (f : Sup → Sup) (s : State) : (s.onSup f).prg = s.prg := (rfl)
@[simp] theorem State.onSup_fab (f : Sup → Sup) (s : State) : (s.onSup f).fab = s.fab := (rfl)
@[simp] theorem State.onSup_egr (f : Sup → Sup) (s : State) : (s.onSup f).egr = s.egr := (rfl)
@[simp] theorem State.onSup_ctr (f : Sup → Sup) (s : State) : (s.onSup f).ctr = s.ctr := (rfl)
@[simp] theorem State.onSup_shadow (f : Sup → Sup) (s : State) : (s.onSup f).shadow = s.shadow := (rfl)
@[simp] theorem State.onSup_out (f : Sup → Sup) (s : State) : (s.onSup f).out = s.out := (rfl)
@[simp] theorem State.onSup_draw (f : Sup → Sup) (s : State) : (s.onSup f).draw = s.draw := (rfl)
@[simp] theorem State.onSup_pending (f : Sup → Sup) (s : State) : (s.onSup f).pending = s.pending := (rfl)

/-! ## onTim -/

@[simp] theorem State.onTim_crn (f : Tim → Tim) (s : State) : (s.onTim f).crn = s.crn := (rfl)
@[simp] theorem State.onTim_sup (f : Tim → Tim) (s : State) : (s.onTim f).sup = s.sup := (rfl)
@[simp] theorem State.onTim_tim (f : Tim → Tim) (s : State) : (s.onTim f).tim = f s.tim := (rfl)
@[simp] theorem State.onTim_hif (f : Tim → Tim) (s : State) : (s.onTim f).hif = s.hif := (rfl)
@[simp] theorem State.onTim_flt (f : Tim → Tim) (s : State) : (s.onTim f).flt = s.flt := (rfl)
@[simp] theorem State.onTim_img (f : Tim → Tim) (s : State) : (s.onTim f).img = s.img := (rfl)
@[simp] theorem State.onTim_sec (f : Tim → Tim) (s : State) : (s.onTim f).sec = s.sec := (rfl)
@[simp] theorem State.onTim_stg (f : Tim → Tim) (s : State) : (s.onTim f).stg = s.stg := (rfl)
@[simp] theorem State.onTim_rng (f : Tim → Tim) (s : State) : (s.onTim f).rng = s.rng := (rfl)
@[simp] theorem State.onTim_bpm (f : Tim → Tim) (s : State) : (s.onTim f).bpm = s.bpm := (rfl)
@[simp] theorem State.onTim_pmu (f : Tim → Tim) (s : State) : (s.onTim f).pmu = s.pmu := (rfl)
@[simp] theorem State.onTim_prt (f : Tim → Tim) (s : State) : (s.onTim f).prt = s.prt := (rfl)
@[simp] theorem State.onTim_cel (f : Tim → Tim) (s : State) : (s.onTim f).cel = s.cel := (rfl)
@[simp] theorem State.onTim_frm (f : Tim → Tim) (s : State) : (s.onTim f).frm = s.frm := (rfl)
@[simp] theorem State.onTim_tbl (f : Tim → Tim) (s : State) : (s.onTim f).tbl = s.tbl := (rfl)
@[simp] theorem State.onTim_flo (f : Tim → Tim) (s : State) : (s.onTim f).flo = s.flo := (rfl)
@[simp] theorem State.onTim_prg (f : Tim → Tim) (s : State) : (s.onTim f).prg = s.prg := (rfl)
@[simp] theorem State.onTim_fab (f : Tim → Tim) (s : State) : (s.onTim f).fab = s.fab := (rfl)
@[simp] theorem State.onTim_egr (f : Tim → Tim) (s : State) : (s.onTim f).egr = s.egr := (rfl)
@[simp] theorem State.onTim_ctr (f : Tim → Tim) (s : State) : (s.onTim f).ctr = s.ctr := (rfl)
@[simp] theorem State.onTim_shadow (f : Tim → Tim) (s : State) : (s.onTim f).shadow = s.shadow := (rfl)
@[simp] theorem State.onTim_out (f : Tim → Tim) (s : State) : (s.onTim f).out = s.out := (rfl)
@[simp] theorem State.onTim_draw (f : Tim → Tim) (s : State) : (s.onTim f).draw = s.draw := (rfl)
@[simp] theorem State.onTim_pending (f : Tim → Tim) (s : State) : (s.onTim f).pending = s.pending := (rfl)

/-! ## onHif -/

@[simp] theorem State.onHif_crn (f : Hif → Hif) (s : State) : (s.onHif f).crn = s.crn := (rfl)
@[simp] theorem State.onHif_sup (f : Hif → Hif) (s : State) : (s.onHif f).sup = s.sup := (rfl)
@[simp] theorem State.onHif_tim (f : Hif → Hif) (s : State) : (s.onHif f).tim = s.tim := (rfl)
@[simp] theorem State.onHif_hif (f : Hif → Hif) (s : State) : (s.onHif f).hif = f s.hif := (rfl)
@[simp] theorem State.onHif_flt (f : Hif → Hif) (s : State) : (s.onHif f).flt = s.flt := (rfl)
@[simp] theorem State.onHif_img (f : Hif → Hif) (s : State) : (s.onHif f).img = s.img := (rfl)
@[simp] theorem State.onHif_sec (f : Hif → Hif) (s : State) : (s.onHif f).sec = s.sec := (rfl)
@[simp] theorem State.onHif_stg (f : Hif → Hif) (s : State) : (s.onHif f).stg = s.stg := (rfl)
@[simp] theorem State.onHif_rng (f : Hif → Hif) (s : State) : (s.onHif f).rng = s.rng := (rfl)
@[simp] theorem State.onHif_bpm (f : Hif → Hif) (s : State) : (s.onHif f).bpm = s.bpm := (rfl)
@[simp] theorem State.onHif_pmu (f : Hif → Hif) (s : State) : (s.onHif f).pmu = s.pmu := (rfl)
@[simp] theorem State.onHif_prt (f : Hif → Hif) (s : State) : (s.onHif f).prt = s.prt := (rfl)
@[simp] theorem State.onHif_cel (f : Hif → Hif) (s : State) : (s.onHif f).cel = s.cel := (rfl)
@[simp] theorem State.onHif_frm (f : Hif → Hif) (s : State) : (s.onHif f).frm = s.frm := (rfl)
@[simp] theorem State.onHif_tbl (f : Hif → Hif) (s : State) : (s.onHif f).tbl = s.tbl := (rfl)
@[simp] theorem State.onHif_flo (f : Hif → Hif) (s : State) : (s.onHif f).flo = s.flo := (rfl)
@[simp] theorem State.onHif_prg (f : Hif → Hif) (s : State) : (s.onHif f).prg = s.prg := (rfl)
@[simp] theorem State.onHif_fab (f : Hif → Hif) (s : State) : (s.onHif f).fab = s.fab := (rfl)
@[simp] theorem State.onHif_egr (f : Hif → Hif) (s : State) : (s.onHif f).egr = s.egr := (rfl)
@[simp] theorem State.onHif_ctr (f : Hif → Hif) (s : State) : (s.onHif f).ctr = s.ctr := (rfl)
@[simp] theorem State.onHif_shadow (f : Hif → Hif) (s : State) : (s.onHif f).shadow = s.shadow := (rfl)
@[simp] theorem State.onHif_out (f : Hif → Hif) (s : State) : (s.onHif f).out = s.out := (rfl)
@[simp] theorem State.onHif_draw (f : Hif → Hif) (s : State) : (s.onHif f).draw = s.draw := (rfl)
@[simp] theorem State.onHif_pending (f : Hif → Hif) (s : State) : (s.onHif f).pending = s.pending := (rfl)

/-! ## onFlt -/

@[simp] theorem State.onFlt_crn (f : Flt → Flt) (s : State) : (s.onFlt f).crn = s.crn := (rfl)
@[simp] theorem State.onFlt_sup (f : Flt → Flt) (s : State) : (s.onFlt f).sup = s.sup := (rfl)
@[simp] theorem State.onFlt_tim (f : Flt → Flt) (s : State) : (s.onFlt f).tim = s.tim := (rfl)
@[simp] theorem State.onFlt_hif (f : Flt → Flt) (s : State) : (s.onFlt f).hif = s.hif := (rfl)
@[simp] theorem State.onFlt_flt (f : Flt → Flt) (s : State) : (s.onFlt f).flt = f s.flt := (rfl)
@[simp] theorem State.onFlt_img (f : Flt → Flt) (s : State) : (s.onFlt f).img = s.img := (rfl)
@[simp] theorem State.onFlt_sec (f : Flt → Flt) (s : State) : (s.onFlt f).sec = s.sec := (rfl)
@[simp] theorem State.onFlt_stg (f : Flt → Flt) (s : State) : (s.onFlt f).stg = s.stg := (rfl)
@[simp] theorem State.onFlt_rng (f : Flt → Flt) (s : State) : (s.onFlt f).rng = s.rng := (rfl)
@[simp] theorem State.onFlt_bpm (f : Flt → Flt) (s : State) : (s.onFlt f).bpm = s.bpm := (rfl)
@[simp] theorem State.onFlt_pmu (f : Flt → Flt) (s : State) : (s.onFlt f).pmu = s.pmu := (rfl)
@[simp] theorem State.onFlt_prt (f : Flt → Flt) (s : State) : (s.onFlt f).prt = s.prt := (rfl)
@[simp] theorem State.onFlt_cel (f : Flt → Flt) (s : State) : (s.onFlt f).cel = s.cel := (rfl)
@[simp] theorem State.onFlt_frm (f : Flt → Flt) (s : State) : (s.onFlt f).frm = s.frm := (rfl)
@[simp] theorem State.onFlt_tbl (f : Flt → Flt) (s : State) : (s.onFlt f).tbl = s.tbl := (rfl)
@[simp] theorem State.onFlt_flo (f : Flt → Flt) (s : State) : (s.onFlt f).flo = s.flo := (rfl)
@[simp] theorem State.onFlt_prg (f : Flt → Flt) (s : State) : (s.onFlt f).prg = s.prg := (rfl)
@[simp] theorem State.onFlt_fab (f : Flt → Flt) (s : State) : (s.onFlt f).fab = s.fab := (rfl)
@[simp] theorem State.onFlt_egr (f : Flt → Flt) (s : State) : (s.onFlt f).egr = s.egr := (rfl)
@[simp] theorem State.onFlt_ctr (f : Flt → Flt) (s : State) : (s.onFlt f).ctr = s.ctr := (rfl)
@[simp] theorem State.onFlt_shadow (f : Flt → Flt) (s : State) : (s.onFlt f).shadow = s.shadow := (rfl)
@[simp] theorem State.onFlt_out (f : Flt → Flt) (s : State) : (s.onFlt f).out = s.out := (rfl)
@[simp] theorem State.onFlt_draw (f : Flt → Flt) (s : State) : (s.onFlt f).draw = s.draw := (rfl)
@[simp] theorem State.onFlt_pending (f : Flt → Flt) (s : State) : (s.onFlt f).pending = s.pending := (rfl)

/-! ## onImg -/

@[simp] theorem State.onImg_crn (f : Img → Img) (s : State) : (s.onImg f).crn = s.crn := (rfl)
@[simp] theorem State.onImg_sup (f : Img → Img) (s : State) : (s.onImg f).sup = s.sup := (rfl)
@[simp] theorem State.onImg_tim (f : Img → Img) (s : State) : (s.onImg f).tim = s.tim := (rfl)
@[simp] theorem State.onImg_hif (f : Img → Img) (s : State) : (s.onImg f).hif = s.hif := (rfl)
@[simp] theorem State.onImg_flt (f : Img → Img) (s : State) : (s.onImg f).flt = s.flt := (rfl)
@[simp] theorem State.onImg_img (f : Img → Img) (s : State) : (s.onImg f).img = f s.img := (rfl)
@[simp] theorem State.onImg_sec (f : Img → Img) (s : State) : (s.onImg f).sec = s.sec := (rfl)
@[simp] theorem State.onImg_stg (f : Img → Img) (s : State) : (s.onImg f).stg = s.stg := (rfl)
@[simp] theorem State.onImg_rng (f : Img → Img) (s : State) : (s.onImg f).rng = s.rng := (rfl)
@[simp] theorem State.onImg_bpm (f : Img → Img) (s : State) : (s.onImg f).bpm = s.bpm := (rfl)
@[simp] theorem State.onImg_pmu (f : Img → Img) (s : State) : (s.onImg f).pmu = s.pmu := (rfl)
@[simp] theorem State.onImg_prt (f : Img → Img) (s : State) : (s.onImg f).prt = s.prt := (rfl)
@[simp] theorem State.onImg_cel (f : Img → Img) (s : State) : (s.onImg f).cel = s.cel := (rfl)
@[simp] theorem State.onImg_frm (f : Img → Img) (s : State) : (s.onImg f).frm = s.frm := (rfl)
@[simp] theorem State.onImg_tbl (f : Img → Img) (s : State) : (s.onImg f).tbl = s.tbl := (rfl)
@[simp] theorem State.onImg_flo (f : Img → Img) (s : State) : (s.onImg f).flo = s.flo := (rfl)
@[simp] theorem State.onImg_prg (f : Img → Img) (s : State) : (s.onImg f).prg = s.prg := (rfl)
@[simp] theorem State.onImg_fab (f : Img → Img) (s : State) : (s.onImg f).fab = s.fab := (rfl)
@[simp] theorem State.onImg_egr (f : Img → Img) (s : State) : (s.onImg f).egr = s.egr := (rfl)
@[simp] theorem State.onImg_ctr (f : Img → Img) (s : State) : (s.onImg f).ctr = s.ctr := (rfl)
@[simp] theorem State.onImg_shadow (f : Img → Img) (s : State) : (s.onImg f).shadow = s.shadow := (rfl)
@[simp] theorem State.onImg_out (f : Img → Img) (s : State) : (s.onImg f).out = s.out := (rfl)
@[simp] theorem State.onImg_draw (f : Img → Img) (s : State) : (s.onImg f).draw = s.draw := (rfl)
@[simp] theorem State.onImg_pending (f : Img → Img) (s : State) : (s.onImg f).pending = s.pending := (rfl)

/-! ## onSec -/

@[simp] theorem State.onSec_crn (f : Sec → Sec) (s : State) : (s.onSec f).crn = s.crn := (rfl)
@[simp] theorem State.onSec_sup (f : Sec → Sec) (s : State) : (s.onSec f).sup = s.sup := (rfl)
@[simp] theorem State.onSec_tim (f : Sec → Sec) (s : State) : (s.onSec f).tim = s.tim := (rfl)
@[simp] theorem State.onSec_hif (f : Sec → Sec) (s : State) : (s.onSec f).hif = s.hif := (rfl)
@[simp] theorem State.onSec_flt (f : Sec → Sec) (s : State) : (s.onSec f).flt = s.flt := (rfl)
@[simp] theorem State.onSec_img (f : Sec → Sec) (s : State) : (s.onSec f).img = s.img := (rfl)
@[simp] theorem State.onSec_sec (f : Sec → Sec) (s : State) : (s.onSec f).sec = f s.sec := (rfl)
@[simp] theorem State.onSec_stg (f : Sec → Sec) (s : State) : (s.onSec f).stg = s.stg := (rfl)
@[simp] theorem State.onSec_rng (f : Sec → Sec) (s : State) : (s.onSec f).rng = s.rng := (rfl)
@[simp] theorem State.onSec_bpm (f : Sec → Sec) (s : State) : (s.onSec f).bpm = s.bpm := (rfl)
@[simp] theorem State.onSec_pmu (f : Sec → Sec) (s : State) : (s.onSec f).pmu = s.pmu := (rfl)
@[simp] theorem State.onSec_prt (f : Sec → Sec) (s : State) : (s.onSec f).prt = s.prt := (rfl)
@[simp] theorem State.onSec_cel (f : Sec → Sec) (s : State) : (s.onSec f).cel = s.cel := (rfl)
@[simp] theorem State.onSec_frm (f : Sec → Sec) (s : State) : (s.onSec f).frm = s.frm := (rfl)
@[simp] theorem State.onSec_tbl (f : Sec → Sec) (s : State) : (s.onSec f).tbl = s.tbl := (rfl)
@[simp] theorem State.onSec_flo (f : Sec → Sec) (s : State) : (s.onSec f).flo = s.flo := (rfl)
@[simp] theorem State.onSec_prg (f : Sec → Sec) (s : State) : (s.onSec f).prg = s.prg := (rfl)
@[simp] theorem State.onSec_fab (f : Sec → Sec) (s : State) : (s.onSec f).fab = s.fab := (rfl)
@[simp] theorem State.onSec_egr (f : Sec → Sec) (s : State) : (s.onSec f).egr = s.egr := (rfl)
@[simp] theorem State.onSec_ctr (f : Sec → Sec) (s : State) : (s.onSec f).ctr = s.ctr := (rfl)
@[simp] theorem State.onSec_shadow (f : Sec → Sec) (s : State) : (s.onSec f).shadow = s.shadow := (rfl)
@[simp] theorem State.onSec_out (f : Sec → Sec) (s : State) : (s.onSec f).out = s.out := (rfl)
@[simp] theorem State.onSec_draw (f : Sec → Sec) (s : State) : (s.onSec f).draw = s.draw := (rfl)
@[simp] theorem State.onSec_pending (f : Sec → Sec) (s : State) : (s.onSec f).pending = s.pending := (rfl)

/-! ## onStg -/

@[simp] theorem State.onStg_crn (f : Stg → Stg) (s : State) : (s.onStg f).crn = s.crn := (rfl)
@[simp] theorem State.onStg_sup (f : Stg → Stg) (s : State) : (s.onStg f).sup = s.sup := (rfl)
@[simp] theorem State.onStg_tim (f : Stg → Stg) (s : State) : (s.onStg f).tim = s.tim := (rfl)
@[simp] theorem State.onStg_hif (f : Stg → Stg) (s : State) : (s.onStg f).hif = s.hif := (rfl)
@[simp] theorem State.onStg_flt (f : Stg → Stg) (s : State) : (s.onStg f).flt = s.flt := (rfl)
@[simp] theorem State.onStg_img (f : Stg → Stg) (s : State) : (s.onStg f).img = s.img := (rfl)
@[simp] theorem State.onStg_sec (f : Stg → Stg) (s : State) : (s.onStg f).sec = s.sec := (rfl)
@[simp] theorem State.onStg_stg (f : Stg → Stg) (s : State) : (s.onStg f).stg = f s.stg := (rfl)
@[simp] theorem State.onStg_rng (f : Stg → Stg) (s : State) : (s.onStg f).rng = s.rng := (rfl)
@[simp] theorem State.onStg_bpm (f : Stg → Stg) (s : State) : (s.onStg f).bpm = s.bpm := (rfl)
@[simp] theorem State.onStg_pmu (f : Stg → Stg) (s : State) : (s.onStg f).pmu = s.pmu := (rfl)
@[simp] theorem State.onStg_prt (f : Stg → Stg) (s : State) : (s.onStg f).prt = s.prt := (rfl)
@[simp] theorem State.onStg_cel (f : Stg → Stg) (s : State) : (s.onStg f).cel = s.cel := (rfl)
@[simp] theorem State.onStg_frm (f : Stg → Stg) (s : State) : (s.onStg f).frm = s.frm := (rfl)
@[simp] theorem State.onStg_tbl (f : Stg → Stg) (s : State) : (s.onStg f).tbl = s.tbl := (rfl)
@[simp] theorem State.onStg_flo (f : Stg → Stg) (s : State) : (s.onStg f).flo = s.flo := (rfl)
@[simp] theorem State.onStg_prg (f : Stg → Stg) (s : State) : (s.onStg f).prg = s.prg := (rfl)
@[simp] theorem State.onStg_fab (f : Stg → Stg) (s : State) : (s.onStg f).fab = s.fab := (rfl)
@[simp] theorem State.onStg_egr (f : Stg → Stg) (s : State) : (s.onStg f).egr = s.egr := (rfl)
@[simp] theorem State.onStg_ctr (f : Stg → Stg) (s : State) : (s.onStg f).ctr = s.ctr := (rfl)
@[simp] theorem State.onStg_shadow (f : Stg → Stg) (s : State) : (s.onStg f).shadow = s.shadow := (rfl)
@[simp] theorem State.onStg_out (f : Stg → Stg) (s : State) : (s.onStg f).out = s.out := (rfl)
@[simp] theorem State.onStg_draw (f : Stg → Stg) (s : State) : (s.onStg f).draw = s.draw := (rfl)
@[simp] theorem State.onStg_pending (f : Stg → Stg) (s : State) : (s.onStg f).pending = s.pending := (rfl)

/-! ## onRng -/

@[simp] theorem State.onRng_crn (f : Rng → Rng) (s : State) : (s.onRng f).crn = s.crn := (rfl)
@[simp] theorem State.onRng_sup (f : Rng → Rng) (s : State) : (s.onRng f).sup = s.sup := (rfl)
@[simp] theorem State.onRng_tim (f : Rng → Rng) (s : State) : (s.onRng f).tim = s.tim := (rfl)
@[simp] theorem State.onRng_hif (f : Rng → Rng) (s : State) : (s.onRng f).hif = s.hif := (rfl)
@[simp] theorem State.onRng_flt (f : Rng → Rng) (s : State) : (s.onRng f).flt = s.flt := (rfl)
@[simp] theorem State.onRng_img (f : Rng → Rng) (s : State) : (s.onRng f).img = s.img := (rfl)
@[simp] theorem State.onRng_sec (f : Rng → Rng) (s : State) : (s.onRng f).sec = s.sec := (rfl)
@[simp] theorem State.onRng_stg (f : Rng → Rng) (s : State) : (s.onRng f).stg = s.stg := (rfl)
@[simp] theorem State.onRng_rng (f : Rng → Rng) (s : State) : (s.onRng f).rng = f s.rng := (rfl)
@[simp] theorem State.onRng_bpm (f : Rng → Rng) (s : State) : (s.onRng f).bpm = s.bpm := (rfl)
@[simp] theorem State.onRng_pmu (f : Rng → Rng) (s : State) : (s.onRng f).pmu = s.pmu := (rfl)
@[simp] theorem State.onRng_prt (f : Rng → Rng) (s : State) : (s.onRng f).prt = s.prt := (rfl)
@[simp] theorem State.onRng_cel (f : Rng → Rng) (s : State) : (s.onRng f).cel = s.cel := (rfl)
@[simp] theorem State.onRng_frm (f : Rng → Rng) (s : State) : (s.onRng f).frm = s.frm := (rfl)
@[simp] theorem State.onRng_tbl (f : Rng → Rng) (s : State) : (s.onRng f).tbl = s.tbl := (rfl)
@[simp] theorem State.onRng_flo (f : Rng → Rng) (s : State) : (s.onRng f).flo = s.flo := (rfl)
@[simp] theorem State.onRng_prg (f : Rng → Rng) (s : State) : (s.onRng f).prg = s.prg := (rfl)
@[simp] theorem State.onRng_fab (f : Rng → Rng) (s : State) : (s.onRng f).fab = s.fab := (rfl)
@[simp] theorem State.onRng_egr (f : Rng → Rng) (s : State) : (s.onRng f).egr = s.egr := (rfl)
@[simp] theorem State.onRng_ctr (f : Rng → Rng) (s : State) : (s.onRng f).ctr = s.ctr := (rfl)
@[simp] theorem State.onRng_shadow (f : Rng → Rng) (s : State) : (s.onRng f).shadow = s.shadow := (rfl)
@[simp] theorem State.onRng_out (f : Rng → Rng) (s : State) : (s.onRng f).out = s.out := (rfl)
@[simp] theorem State.onRng_draw (f : Rng → Rng) (s : State) : (s.onRng f).draw = s.draw := (rfl)
@[simp] theorem State.onRng_pending (f : Rng → Rng) (s : State) : (s.onRng f).pending = s.pending := (rfl)

/-! ## onBpm -/

@[simp] theorem State.onBpm_crn (f : Bpm → Bpm) (s : State) : (s.onBpm f).crn = s.crn := (rfl)
@[simp] theorem State.onBpm_sup (f : Bpm → Bpm) (s : State) : (s.onBpm f).sup = s.sup := (rfl)
@[simp] theorem State.onBpm_tim (f : Bpm → Bpm) (s : State) : (s.onBpm f).tim = s.tim := (rfl)
@[simp] theorem State.onBpm_hif (f : Bpm → Bpm) (s : State) : (s.onBpm f).hif = s.hif := (rfl)
@[simp] theorem State.onBpm_flt (f : Bpm → Bpm) (s : State) : (s.onBpm f).flt = s.flt := (rfl)
@[simp] theorem State.onBpm_img (f : Bpm → Bpm) (s : State) : (s.onBpm f).img = s.img := (rfl)
@[simp] theorem State.onBpm_sec (f : Bpm → Bpm) (s : State) : (s.onBpm f).sec = s.sec := (rfl)
@[simp] theorem State.onBpm_stg (f : Bpm → Bpm) (s : State) : (s.onBpm f).stg = s.stg := (rfl)
@[simp] theorem State.onBpm_rng (f : Bpm → Bpm) (s : State) : (s.onBpm f).rng = s.rng := (rfl)
@[simp] theorem State.onBpm_bpm (f : Bpm → Bpm) (s : State) : (s.onBpm f).bpm = f s.bpm := (rfl)
@[simp] theorem State.onBpm_pmu (f : Bpm → Bpm) (s : State) : (s.onBpm f).pmu = s.pmu := (rfl)
@[simp] theorem State.onBpm_prt (f : Bpm → Bpm) (s : State) : (s.onBpm f).prt = s.prt := (rfl)
@[simp] theorem State.onBpm_cel (f : Bpm → Bpm) (s : State) : (s.onBpm f).cel = s.cel := (rfl)
@[simp] theorem State.onBpm_frm (f : Bpm → Bpm) (s : State) : (s.onBpm f).frm = s.frm := (rfl)
@[simp] theorem State.onBpm_tbl (f : Bpm → Bpm) (s : State) : (s.onBpm f).tbl = s.tbl := (rfl)
@[simp] theorem State.onBpm_flo (f : Bpm → Bpm) (s : State) : (s.onBpm f).flo = s.flo := (rfl)
@[simp] theorem State.onBpm_prg (f : Bpm → Bpm) (s : State) : (s.onBpm f).prg = s.prg := (rfl)
@[simp] theorem State.onBpm_fab (f : Bpm → Bpm) (s : State) : (s.onBpm f).fab = s.fab := (rfl)
@[simp] theorem State.onBpm_egr (f : Bpm → Bpm) (s : State) : (s.onBpm f).egr = s.egr := (rfl)
@[simp] theorem State.onBpm_ctr (f : Bpm → Bpm) (s : State) : (s.onBpm f).ctr = s.ctr := (rfl)
@[simp] theorem State.onBpm_shadow (f : Bpm → Bpm) (s : State) : (s.onBpm f).shadow = s.shadow := (rfl)
@[simp] theorem State.onBpm_out (f : Bpm → Bpm) (s : State) : (s.onBpm f).out = s.out := (rfl)
@[simp] theorem State.onBpm_draw (f : Bpm → Bpm) (s : State) : (s.onBpm f).draw = s.draw := (rfl)
@[simp] theorem State.onBpm_pending (f : Bpm → Bpm) (s : State) : (s.onBpm f).pending = s.pending := (rfl)

/-! ## onPmu -/

@[simp] theorem State.onPmu_crn (f : Pmu → Pmu) (s : State) : (s.onPmu f).crn = s.crn := (rfl)
@[simp] theorem State.onPmu_sup (f : Pmu → Pmu) (s : State) : (s.onPmu f).sup = s.sup := (rfl)
@[simp] theorem State.onPmu_tim (f : Pmu → Pmu) (s : State) : (s.onPmu f).tim = s.tim := (rfl)
@[simp] theorem State.onPmu_hif (f : Pmu → Pmu) (s : State) : (s.onPmu f).hif = s.hif := (rfl)
@[simp] theorem State.onPmu_flt (f : Pmu → Pmu) (s : State) : (s.onPmu f).flt = s.flt := (rfl)
@[simp] theorem State.onPmu_img (f : Pmu → Pmu) (s : State) : (s.onPmu f).img = s.img := (rfl)
@[simp] theorem State.onPmu_sec (f : Pmu → Pmu) (s : State) : (s.onPmu f).sec = s.sec := (rfl)
@[simp] theorem State.onPmu_stg (f : Pmu → Pmu) (s : State) : (s.onPmu f).stg = s.stg := (rfl)
@[simp] theorem State.onPmu_rng (f : Pmu → Pmu) (s : State) : (s.onPmu f).rng = s.rng := (rfl)
@[simp] theorem State.onPmu_bpm (f : Pmu → Pmu) (s : State) : (s.onPmu f).bpm = s.bpm := (rfl)
@[simp] theorem State.onPmu_pmu (f : Pmu → Pmu) (s : State) : (s.onPmu f).pmu = f s.pmu := (rfl)
@[simp] theorem State.onPmu_prt (f : Pmu → Pmu) (s : State) : (s.onPmu f).prt = s.prt := (rfl)
@[simp] theorem State.onPmu_cel (f : Pmu → Pmu) (s : State) : (s.onPmu f).cel = s.cel := (rfl)
@[simp] theorem State.onPmu_frm (f : Pmu → Pmu) (s : State) : (s.onPmu f).frm = s.frm := (rfl)
@[simp] theorem State.onPmu_tbl (f : Pmu → Pmu) (s : State) : (s.onPmu f).tbl = s.tbl := (rfl)
@[simp] theorem State.onPmu_flo (f : Pmu → Pmu) (s : State) : (s.onPmu f).flo = s.flo := (rfl)
@[simp] theorem State.onPmu_prg (f : Pmu → Pmu) (s : State) : (s.onPmu f).prg = s.prg := (rfl)
@[simp] theorem State.onPmu_fab (f : Pmu → Pmu) (s : State) : (s.onPmu f).fab = s.fab := (rfl)
@[simp] theorem State.onPmu_egr (f : Pmu → Pmu) (s : State) : (s.onPmu f).egr = s.egr := (rfl)
@[simp] theorem State.onPmu_ctr (f : Pmu → Pmu) (s : State) : (s.onPmu f).ctr = s.ctr := (rfl)
@[simp] theorem State.onPmu_shadow (f : Pmu → Pmu) (s : State) : (s.onPmu f).shadow = s.shadow := (rfl)
@[simp] theorem State.onPmu_out (f : Pmu → Pmu) (s : State) : (s.onPmu f).out = s.out := (rfl)
@[simp] theorem State.onPmu_draw (f : Pmu → Pmu) (s : State) : (s.onPmu f).draw = s.draw := (rfl)
@[simp] theorem State.onPmu_pending (f : Pmu → Pmu) (s : State) : (s.onPmu f).pending = s.pending := (rfl)

/-! ## onFrm -/

@[simp] theorem State.onFrm_crn (f : Frm → Frm) (s : State) : (s.onFrm f).crn = s.crn := (rfl)
@[simp] theorem State.onFrm_sup (f : Frm → Frm) (s : State) : (s.onFrm f).sup = s.sup := (rfl)
@[simp] theorem State.onFrm_tim (f : Frm → Frm) (s : State) : (s.onFrm f).tim = s.tim := (rfl)
@[simp] theorem State.onFrm_hif (f : Frm → Frm) (s : State) : (s.onFrm f).hif = s.hif := (rfl)
@[simp] theorem State.onFrm_flt (f : Frm → Frm) (s : State) : (s.onFrm f).flt = s.flt := (rfl)
@[simp] theorem State.onFrm_img (f : Frm → Frm) (s : State) : (s.onFrm f).img = s.img := (rfl)
@[simp] theorem State.onFrm_sec (f : Frm → Frm) (s : State) : (s.onFrm f).sec = s.sec := (rfl)
@[simp] theorem State.onFrm_stg (f : Frm → Frm) (s : State) : (s.onFrm f).stg = s.stg := (rfl)
@[simp] theorem State.onFrm_rng (f : Frm → Frm) (s : State) : (s.onFrm f).rng = s.rng := (rfl)
@[simp] theorem State.onFrm_bpm (f : Frm → Frm) (s : State) : (s.onFrm f).bpm = s.bpm := (rfl)
@[simp] theorem State.onFrm_pmu (f : Frm → Frm) (s : State) : (s.onFrm f).pmu = s.pmu := (rfl)
@[simp] theorem State.onFrm_prt (f : Frm → Frm) (s : State) : (s.onFrm f).prt = s.prt := (rfl)
@[simp] theorem State.onFrm_cel (f : Frm → Frm) (s : State) : (s.onFrm f).cel = s.cel := (rfl)
@[simp] theorem State.onFrm_frm (f : Frm → Frm) (s : State) : (s.onFrm f).frm = f s.frm := (rfl)
@[simp] theorem State.onFrm_tbl (f : Frm → Frm) (s : State) : (s.onFrm f).tbl = s.tbl := (rfl)
@[simp] theorem State.onFrm_flo (f : Frm → Frm) (s : State) : (s.onFrm f).flo = s.flo := (rfl)
@[simp] theorem State.onFrm_prg (f : Frm → Frm) (s : State) : (s.onFrm f).prg = s.prg := (rfl)
@[simp] theorem State.onFrm_fab (f : Frm → Frm) (s : State) : (s.onFrm f).fab = s.fab := (rfl)
@[simp] theorem State.onFrm_egr (f : Frm → Frm) (s : State) : (s.onFrm f).egr = s.egr := (rfl)
@[simp] theorem State.onFrm_ctr (f : Frm → Frm) (s : State) : (s.onFrm f).ctr = s.ctr := (rfl)
@[simp] theorem State.onFrm_shadow (f : Frm → Frm) (s : State) : (s.onFrm f).shadow = s.shadow := (rfl)
@[simp] theorem State.onFrm_out (f : Frm → Frm) (s : State) : (s.onFrm f).out = s.out := (rfl)
@[simp] theorem State.onFrm_draw (f : Frm → Frm) (s : State) : (s.onFrm f).draw = s.draw := (rfl)
@[simp] theorem State.onFrm_pending (f : Frm → Frm) (s : State) : (s.onFrm f).pending = s.pending := (rfl)

/-! ## onTbl -/

@[simp] theorem State.onTbl_crn (f : Tbl → Tbl) (s : State) : (s.onTbl f).crn = s.crn := (rfl)
@[simp] theorem State.onTbl_sup (f : Tbl → Tbl) (s : State) : (s.onTbl f).sup = s.sup := (rfl)
@[simp] theorem State.onTbl_tim (f : Tbl → Tbl) (s : State) : (s.onTbl f).tim = s.tim := (rfl)
@[simp] theorem State.onTbl_hif (f : Tbl → Tbl) (s : State) : (s.onTbl f).hif = s.hif := (rfl)
@[simp] theorem State.onTbl_flt (f : Tbl → Tbl) (s : State) : (s.onTbl f).flt = s.flt := (rfl)
@[simp] theorem State.onTbl_img (f : Tbl → Tbl) (s : State) : (s.onTbl f).img = s.img := (rfl)
@[simp] theorem State.onTbl_sec (f : Tbl → Tbl) (s : State) : (s.onTbl f).sec = s.sec := (rfl)
@[simp] theorem State.onTbl_stg (f : Tbl → Tbl) (s : State) : (s.onTbl f).stg = s.stg := (rfl)
@[simp] theorem State.onTbl_rng (f : Tbl → Tbl) (s : State) : (s.onTbl f).rng = s.rng := (rfl)
@[simp] theorem State.onTbl_bpm (f : Tbl → Tbl) (s : State) : (s.onTbl f).bpm = s.bpm := (rfl)
@[simp] theorem State.onTbl_pmu (f : Tbl → Tbl) (s : State) : (s.onTbl f).pmu = s.pmu := (rfl)
@[simp] theorem State.onTbl_prt (f : Tbl → Tbl) (s : State) : (s.onTbl f).prt = s.prt := (rfl)
@[simp] theorem State.onTbl_cel (f : Tbl → Tbl) (s : State) : (s.onTbl f).cel = s.cel := (rfl)
@[simp] theorem State.onTbl_frm (f : Tbl → Tbl) (s : State) : (s.onTbl f).frm = s.frm := (rfl)
@[simp] theorem State.onTbl_tbl (f : Tbl → Tbl) (s : State) : (s.onTbl f).tbl = f s.tbl := (rfl)
@[simp] theorem State.onTbl_flo (f : Tbl → Tbl) (s : State) : (s.onTbl f).flo = s.flo := (rfl)
@[simp] theorem State.onTbl_prg (f : Tbl → Tbl) (s : State) : (s.onTbl f).prg = s.prg := (rfl)
@[simp] theorem State.onTbl_fab (f : Tbl → Tbl) (s : State) : (s.onTbl f).fab = s.fab := (rfl)
@[simp] theorem State.onTbl_egr (f : Tbl → Tbl) (s : State) : (s.onTbl f).egr = s.egr := (rfl)
@[simp] theorem State.onTbl_ctr (f : Tbl → Tbl) (s : State) : (s.onTbl f).ctr = s.ctr := (rfl)
@[simp] theorem State.onTbl_shadow (f : Tbl → Tbl) (s : State) : (s.onTbl f).shadow = s.shadow := (rfl)
@[simp] theorem State.onTbl_out (f : Tbl → Tbl) (s : State) : (s.onTbl f).out = s.out := (rfl)
@[simp] theorem State.onTbl_draw (f : Tbl → Tbl) (s : State) : (s.onTbl f).draw = s.draw := (rfl)
@[simp] theorem State.onTbl_pending (f : Tbl → Tbl) (s : State) : (s.onTbl f).pending = s.pending := (rfl)

/-! ## onFlo -/

@[simp] theorem State.onFlo_crn (f : Flo → Flo) (s : State) : (s.onFlo f).crn = s.crn := (rfl)
@[simp] theorem State.onFlo_sup (f : Flo → Flo) (s : State) : (s.onFlo f).sup = s.sup := (rfl)
@[simp] theorem State.onFlo_tim (f : Flo → Flo) (s : State) : (s.onFlo f).tim = s.tim := (rfl)
@[simp] theorem State.onFlo_hif (f : Flo → Flo) (s : State) : (s.onFlo f).hif = s.hif := (rfl)
@[simp] theorem State.onFlo_flt (f : Flo → Flo) (s : State) : (s.onFlo f).flt = s.flt := (rfl)
@[simp] theorem State.onFlo_img (f : Flo → Flo) (s : State) : (s.onFlo f).img = s.img := (rfl)
@[simp] theorem State.onFlo_sec (f : Flo → Flo) (s : State) : (s.onFlo f).sec = s.sec := (rfl)
@[simp] theorem State.onFlo_stg (f : Flo → Flo) (s : State) : (s.onFlo f).stg = s.stg := (rfl)
@[simp] theorem State.onFlo_rng (f : Flo → Flo) (s : State) : (s.onFlo f).rng = s.rng := (rfl)
@[simp] theorem State.onFlo_bpm (f : Flo → Flo) (s : State) : (s.onFlo f).bpm = s.bpm := (rfl)
@[simp] theorem State.onFlo_pmu (f : Flo → Flo) (s : State) : (s.onFlo f).pmu = s.pmu := (rfl)
@[simp] theorem State.onFlo_prt (f : Flo → Flo) (s : State) : (s.onFlo f).prt = s.prt := (rfl)
@[simp] theorem State.onFlo_cel (f : Flo → Flo) (s : State) : (s.onFlo f).cel = s.cel := (rfl)
@[simp] theorem State.onFlo_frm (f : Flo → Flo) (s : State) : (s.onFlo f).frm = s.frm := (rfl)
@[simp] theorem State.onFlo_tbl (f : Flo → Flo) (s : State) : (s.onFlo f).tbl = s.tbl := (rfl)
@[simp] theorem State.onFlo_flo (f : Flo → Flo) (s : State) : (s.onFlo f).flo = f s.flo := (rfl)
@[simp] theorem State.onFlo_prg (f : Flo → Flo) (s : State) : (s.onFlo f).prg = s.prg := (rfl)
@[simp] theorem State.onFlo_fab (f : Flo → Flo) (s : State) : (s.onFlo f).fab = s.fab := (rfl)
@[simp] theorem State.onFlo_egr (f : Flo → Flo) (s : State) : (s.onFlo f).egr = s.egr := (rfl)
@[simp] theorem State.onFlo_ctr (f : Flo → Flo) (s : State) : (s.onFlo f).ctr = s.ctr := (rfl)
@[simp] theorem State.onFlo_shadow (f : Flo → Flo) (s : State) : (s.onFlo f).shadow = s.shadow := (rfl)
@[simp] theorem State.onFlo_out (f : Flo → Flo) (s : State) : (s.onFlo f).out = s.out := (rfl)
@[simp] theorem State.onFlo_draw (f : Flo → Flo) (s : State) : (s.onFlo f).draw = s.draw := (rfl)
@[simp] theorem State.onFlo_pending (f : Flo → Flo) (s : State) : (s.onFlo f).pending = s.pending := (rfl)

/-! ## onPrg -/

@[simp] theorem State.onPrg_crn (f : Prg → Prg) (s : State) : (s.onPrg f).crn = s.crn := (rfl)
@[simp] theorem State.onPrg_sup (f : Prg → Prg) (s : State) : (s.onPrg f).sup = s.sup := (rfl)
@[simp] theorem State.onPrg_tim (f : Prg → Prg) (s : State) : (s.onPrg f).tim = s.tim := (rfl)
@[simp] theorem State.onPrg_hif (f : Prg → Prg) (s : State) : (s.onPrg f).hif = s.hif := (rfl)
@[simp] theorem State.onPrg_flt (f : Prg → Prg) (s : State) : (s.onPrg f).flt = s.flt := (rfl)
@[simp] theorem State.onPrg_img (f : Prg → Prg) (s : State) : (s.onPrg f).img = s.img := (rfl)
@[simp] theorem State.onPrg_sec (f : Prg → Prg) (s : State) : (s.onPrg f).sec = s.sec := (rfl)
@[simp] theorem State.onPrg_stg (f : Prg → Prg) (s : State) : (s.onPrg f).stg = s.stg := (rfl)
@[simp] theorem State.onPrg_rng (f : Prg → Prg) (s : State) : (s.onPrg f).rng = s.rng := (rfl)
@[simp] theorem State.onPrg_bpm (f : Prg → Prg) (s : State) : (s.onPrg f).bpm = s.bpm := (rfl)
@[simp] theorem State.onPrg_pmu (f : Prg → Prg) (s : State) : (s.onPrg f).pmu = s.pmu := (rfl)
@[simp] theorem State.onPrg_prt (f : Prg → Prg) (s : State) : (s.onPrg f).prt = s.prt := (rfl)
@[simp] theorem State.onPrg_cel (f : Prg → Prg) (s : State) : (s.onPrg f).cel = s.cel := (rfl)
@[simp] theorem State.onPrg_frm (f : Prg → Prg) (s : State) : (s.onPrg f).frm = s.frm := (rfl)
@[simp] theorem State.onPrg_tbl (f : Prg → Prg) (s : State) : (s.onPrg f).tbl = s.tbl := (rfl)
@[simp] theorem State.onPrg_flo (f : Prg → Prg) (s : State) : (s.onPrg f).flo = s.flo := (rfl)
@[simp] theorem State.onPrg_prg (f : Prg → Prg) (s : State) : (s.onPrg f).prg = f s.prg := (rfl)
@[simp] theorem State.onPrg_fab (f : Prg → Prg) (s : State) : (s.onPrg f).fab = s.fab := (rfl)
@[simp] theorem State.onPrg_egr (f : Prg → Prg) (s : State) : (s.onPrg f).egr = s.egr := (rfl)
@[simp] theorem State.onPrg_ctr (f : Prg → Prg) (s : State) : (s.onPrg f).ctr = s.ctr := (rfl)
@[simp] theorem State.onPrg_shadow (f : Prg → Prg) (s : State) : (s.onPrg f).shadow = s.shadow := (rfl)
@[simp] theorem State.onPrg_out (f : Prg → Prg) (s : State) : (s.onPrg f).out = s.out := (rfl)
@[simp] theorem State.onPrg_draw (f : Prg → Prg) (s : State) : (s.onPrg f).draw = s.draw := (rfl)
@[simp] theorem State.onPrg_pending (f : Prg → Prg) (s : State) : (s.onPrg f).pending = s.pending := (rfl)

/-! ## onFab -/

@[simp] theorem State.onFab_crn (f : Fab → Fab) (s : State) : (s.onFab f).crn = s.crn := (rfl)
@[simp] theorem State.onFab_sup (f : Fab → Fab) (s : State) : (s.onFab f).sup = s.sup := (rfl)
@[simp] theorem State.onFab_tim (f : Fab → Fab) (s : State) : (s.onFab f).tim = s.tim := (rfl)
@[simp] theorem State.onFab_hif (f : Fab → Fab) (s : State) : (s.onFab f).hif = s.hif := (rfl)
@[simp] theorem State.onFab_flt (f : Fab → Fab) (s : State) : (s.onFab f).flt = s.flt := (rfl)
@[simp] theorem State.onFab_img (f : Fab → Fab) (s : State) : (s.onFab f).img = s.img := (rfl)
@[simp] theorem State.onFab_sec (f : Fab → Fab) (s : State) : (s.onFab f).sec = s.sec := (rfl)
@[simp] theorem State.onFab_stg (f : Fab → Fab) (s : State) : (s.onFab f).stg = s.stg := (rfl)
@[simp] theorem State.onFab_rng (f : Fab → Fab) (s : State) : (s.onFab f).rng = s.rng := (rfl)
@[simp] theorem State.onFab_bpm (f : Fab → Fab) (s : State) : (s.onFab f).bpm = s.bpm := (rfl)
@[simp] theorem State.onFab_pmu (f : Fab → Fab) (s : State) : (s.onFab f).pmu = s.pmu := (rfl)
@[simp] theorem State.onFab_prt (f : Fab → Fab) (s : State) : (s.onFab f).prt = s.prt := (rfl)
@[simp] theorem State.onFab_cel (f : Fab → Fab) (s : State) : (s.onFab f).cel = s.cel := (rfl)
@[simp] theorem State.onFab_frm (f : Fab → Fab) (s : State) : (s.onFab f).frm = s.frm := (rfl)
@[simp] theorem State.onFab_tbl (f : Fab → Fab) (s : State) : (s.onFab f).tbl = s.tbl := (rfl)
@[simp] theorem State.onFab_flo (f : Fab → Fab) (s : State) : (s.onFab f).flo = s.flo := (rfl)
@[simp] theorem State.onFab_prg (f : Fab → Fab) (s : State) : (s.onFab f).prg = s.prg := (rfl)
@[simp] theorem State.onFab_fab (f : Fab → Fab) (s : State) : (s.onFab f).fab = f s.fab := (rfl)
@[simp] theorem State.onFab_egr (f : Fab → Fab) (s : State) : (s.onFab f).egr = s.egr := (rfl)
@[simp] theorem State.onFab_ctr (f : Fab → Fab) (s : State) : (s.onFab f).ctr = s.ctr := (rfl)
@[simp] theorem State.onFab_shadow (f : Fab → Fab) (s : State) : (s.onFab f).shadow = s.shadow := (rfl)
@[simp] theorem State.onFab_out (f : Fab → Fab) (s : State) : (s.onFab f).out = s.out := (rfl)
@[simp] theorem State.onFab_draw (f : Fab → Fab) (s : State) : (s.onFab f).draw = s.draw := (rfl)
@[simp] theorem State.onFab_pending (f : Fab → Fab) (s : State) : (s.onFab f).pending = s.pending := (rfl)

/-! ## onEgr -/

@[simp] theorem State.onEgr_crn (f : Egr → Egr) (s : State) : (s.onEgr f).crn = s.crn := (rfl)
@[simp] theorem State.onEgr_sup (f : Egr → Egr) (s : State) : (s.onEgr f).sup = s.sup := (rfl)
@[simp] theorem State.onEgr_tim (f : Egr → Egr) (s : State) : (s.onEgr f).tim = s.tim := (rfl)
@[simp] theorem State.onEgr_hif (f : Egr → Egr) (s : State) : (s.onEgr f).hif = s.hif := (rfl)
@[simp] theorem State.onEgr_flt (f : Egr → Egr) (s : State) : (s.onEgr f).flt = s.flt := (rfl)
@[simp] theorem State.onEgr_img (f : Egr → Egr) (s : State) : (s.onEgr f).img = s.img := (rfl)
@[simp] theorem State.onEgr_sec (f : Egr → Egr) (s : State) : (s.onEgr f).sec = s.sec := (rfl)
@[simp] theorem State.onEgr_stg (f : Egr → Egr) (s : State) : (s.onEgr f).stg = s.stg := (rfl)
@[simp] theorem State.onEgr_rng (f : Egr → Egr) (s : State) : (s.onEgr f).rng = s.rng := (rfl)
@[simp] theorem State.onEgr_bpm (f : Egr → Egr) (s : State) : (s.onEgr f).bpm = s.bpm := (rfl)
@[simp] theorem State.onEgr_pmu (f : Egr → Egr) (s : State) : (s.onEgr f).pmu = s.pmu := (rfl)
@[simp] theorem State.onEgr_prt (f : Egr → Egr) (s : State) : (s.onEgr f).prt = s.prt := (rfl)
@[simp] theorem State.onEgr_cel (f : Egr → Egr) (s : State) : (s.onEgr f).cel = s.cel := (rfl)
@[simp] theorem State.onEgr_frm (f : Egr → Egr) (s : State) : (s.onEgr f).frm = s.frm := (rfl)
@[simp] theorem State.onEgr_tbl (f : Egr → Egr) (s : State) : (s.onEgr f).tbl = s.tbl := (rfl)
@[simp] theorem State.onEgr_flo (f : Egr → Egr) (s : State) : (s.onEgr f).flo = s.flo := (rfl)
@[simp] theorem State.onEgr_prg (f : Egr → Egr) (s : State) : (s.onEgr f).prg = s.prg := (rfl)
@[simp] theorem State.onEgr_fab (f : Egr → Egr) (s : State) : (s.onEgr f).fab = s.fab := (rfl)
@[simp] theorem State.onEgr_egr (f : Egr → Egr) (s : State) : (s.onEgr f).egr = f s.egr := (rfl)
@[simp] theorem State.onEgr_ctr (f : Egr → Egr) (s : State) : (s.onEgr f).ctr = s.ctr := (rfl)
@[simp] theorem State.onEgr_shadow (f : Egr → Egr) (s : State) : (s.onEgr f).shadow = s.shadow := (rfl)
@[simp] theorem State.onEgr_out (f : Egr → Egr) (s : State) : (s.onEgr f).out = s.out := (rfl)
@[simp] theorem State.onEgr_draw (f : Egr → Egr) (s : State) : (s.onEgr f).draw = s.draw := (rfl)
@[simp] theorem State.onEgr_pending (f : Egr → Egr) (s : State) : (s.onEgr f).pending = s.pending := (rfl)

/-! ## onPort -/

@[simp] theorem State.onPort_crn (p : Nat) (f : Port → Port) (s : State) : (s.onPort p f).crn = s.crn := (rfl)
@[simp] theorem State.onPort_sup (p : Nat) (f : Port → Port) (s : State) : (s.onPort p f).sup = s.sup := (rfl)
@[simp] theorem State.onPort_tim (p : Nat) (f : Port → Port) (s : State) : (s.onPort p f).tim = s.tim := (rfl)
@[simp] theorem State.onPort_hif (p : Nat) (f : Port → Port) (s : State) : (s.onPort p f).hif = s.hif := (rfl)
@[simp] theorem State.onPort_flt (p : Nat) (f : Port → Port) (s : State) : (s.onPort p f).flt = s.flt := (rfl)
@[simp] theorem State.onPort_img (p : Nat) (f : Port → Port) (s : State) : (s.onPort p f).img = s.img := (rfl)
@[simp] theorem State.onPort_sec (p : Nat) (f : Port → Port) (s : State) : (s.onPort p f).sec = s.sec := (rfl)
@[simp] theorem State.onPort_stg (p : Nat) (f : Port → Port) (s : State) : (s.onPort p f).stg = s.stg := (rfl)
@[simp] theorem State.onPort_rng (p : Nat) (f : Port → Port) (s : State) : (s.onPort p f).rng = s.rng := (rfl)
@[simp] theorem State.onPort_bpm (p : Nat) (f : Port → Port) (s : State) : (s.onPort p f).bpm = s.bpm := (rfl)
@[simp] theorem State.onPort_pmu (p : Nat) (f : Port → Port) (s : State) : (s.onPort p f).pmu = s.pmu := (rfl)
@[simp] theorem State.onPort_prt (p : Nat) (f : Port → Port) (s : State) : (s.onPort p f).prt = tabMod {} p f s.prt := (rfl)
@[simp] theorem State.onPort_cel (p : Nat) (f : Port → Port) (s : State) : (s.onPort p f).cel = s.cel := (rfl)
@[simp] theorem State.onPort_frm (p : Nat) (f : Port → Port) (s : State) : (s.onPort p f).frm = s.frm := (rfl)
@[simp] theorem State.onPort_tbl (p : Nat) (f : Port → Port) (s : State) : (s.onPort p f).tbl = s.tbl := (rfl)
@[simp] theorem State.onPort_flo (p : Nat) (f : Port → Port) (s : State) : (s.onPort p f).flo = s.flo := (rfl)
@[simp] theorem State.onPort_prg (p : Nat) (f : Port → Port) (s : State) : (s.onPort p f).prg = s.prg := (rfl)
@[simp] theorem State.onPort_fab (p : Nat) (f : Port → Port) (s : State) : (s.onPort p f).fab = s.fab := (rfl)
@[simp] theorem State.onPort_egr (p : Nat) (f : Port → Port) (s : State) : (s.onPort p f).egr = s.egr := (rfl)
@[simp] theorem State.onPort_ctr (p : Nat) (f : Port → Port) (s : State) : (s.onPort p f).ctr = s.ctr := (rfl)
@[simp] theorem State.onPort_shadow (p : Nat) (f : Port → Port) (s : State) : (s.onPort p f).shadow = s.shadow := (rfl)
@[simp] theorem State.onPort_out (p : Nat) (f : Port → Port) (s : State) : (s.onPort p f).out = s.out := (rfl)
@[simp] theorem State.onPort_draw (p : Nat) (f : Port → Port) (s : State) : (s.onPort p f).draw = s.draw := (rfl)
@[simp] theorem State.onPort_pending (p : Nat) (f : Port → Port) (s : State) : (s.onPort p f).pending = s.pending := (rfl)

/-! ## onCell -/

@[simp] theorem State.onCell_crn (c : Nat) (f : Cell → Cell) (s : State) : (s.onCell c f).crn = s.crn := (rfl)
@[simp] theorem State.onCell_sup (c : Nat) (f : Cell → Cell) (s : State) : (s.onCell c f).sup = s.sup := (rfl)
@[simp] theorem State.onCell_tim (c : Nat) (f : Cell → Cell) (s : State) : (s.onCell c f).tim = s.tim := (rfl)
@[simp] theorem State.onCell_hif (c : Nat) (f : Cell → Cell) (s : State) : (s.onCell c f).hif = s.hif := (rfl)
@[simp] theorem State.onCell_flt (c : Nat) (f : Cell → Cell) (s : State) : (s.onCell c f).flt = s.flt := (rfl)
@[simp] theorem State.onCell_img (c : Nat) (f : Cell → Cell) (s : State) : (s.onCell c f).img = s.img := (rfl)
@[simp] theorem State.onCell_sec (c : Nat) (f : Cell → Cell) (s : State) : (s.onCell c f).sec = s.sec := (rfl)
@[simp] theorem State.onCell_stg (c : Nat) (f : Cell → Cell) (s : State) : (s.onCell c f).stg = s.stg := (rfl)
@[simp] theorem State.onCell_rng (c : Nat) (f : Cell → Cell) (s : State) : (s.onCell c f).rng = s.rng := (rfl)
@[simp] theorem State.onCell_bpm (c : Nat) (f : Cell → Cell) (s : State) : (s.onCell c f).bpm = s.bpm := (rfl)
@[simp] theorem State.onCell_pmu (c : Nat) (f : Cell → Cell) (s : State) : (s.onCell c f).pmu = s.pmu := (rfl)
@[simp] theorem State.onCell_prt (c : Nat) (f : Cell → Cell) (s : State) : (s.onCell c f).prt = s.prt := (rfl)
@[simp] theorem State.onCell_cel (c : Nat) (f : Cell → Cell) (s : State) : (s.onCell c f).cel = tabMod {} c f s.cel := (rfl)
@[simp] theorem State.onCell_frm (c : Nat) (f : Cell → Cell) (s : State) : (s.onCell c f).frm = s.frm := (rfl)
@[simp] theorem State.onCell_tbl (c : Nat) (f : Cell → Cell) (s : State) : (s.onCell c f).tbl = s.tbl := (rfl)
@[simp] theorem State.onCell_flo (c : Nat) (f : Cell → Cell) (s : State) : (s.onCell c f).flo = s.flo := (rfl)
@[simp] theorem State.onCell_prg (c : Nat) (f : Cell → Cell) (s : State) : (s.onCell c f).prg = s.prg := (rfl)
@[simp] theorem State.onCell_fab (c : Nat) (f : Cell → Cell) (s : State) : (s.onCell c f).fab = s.fab := (rfl)
@[simp] theorem State.onCell_egr (c : Nat) (f : Cell → Cell) (s : State) : (s.onCell c f).egr = s.egr := (rfl)
@[simp] theorem State.onCell_ctr (c : Nat) (f : Cell → Cell) (s : State) : (s.onCell c f).ctr = s.ctr := (rfl)
@[simp] theorem State.onCell_shadow (c : Nat) (f : Cell → Cell) (s : State) : (s.onCell c f).shadow = s.shadow := (rfl)
@[simp] theorem State.onCell_out (c : Nat) (f : Cell → Cell) (s : State) : (s.onCell c f).out = s.out := (rfl)
@[simp] theorem State.onCell_draw (c : Nat) (f : Cell → Cell) (s : State) : (s.onCell c f).draw = s.draw := (rfl)
@[simp] theorem State.onCell_pending (c : Nat) (f : Cell → Cell) (s : State) : (s.onCell c f).pending = s.pending := (rfl)

/-! ## onRing -/

@[simp] theorem State.onRing_crn (i : Nat) (f : Ring → Ring) (s : State) : (s.onRing i f).crn = s.crn := (rfl)
@[simp] theorem State.onRing_sup (i : Nat) (f : Ring → Ring) (s : State) : (s.onRing i f).sup = s.sup := (rfl)
@[simp] theorem State.onRing_tim (i : Nat) (f : Ring → Ring) (s : State) : (s.onRing i f).tim = s.tim := (rfl)
@[simp] theorem State.onRing_hif (i : Nat) (f : Ring → Ring) (s : State) : (s.onRing i f).hif = s.hif := (rfl)
@[simp] theorem State.onRing_flt (i : Nat) (f : Ring → Ring) (s : State) : (s.onRing i f).flt = s.flt := (rfl)
@[simp] theorem State.onRing_img (i : Nat) (f : Ring → Ring) (s : State) : (s.onRing i f).img = s.img := (rfl)
@[simp] theorem State.onRing_sec (i : Nat) (f : Ring → Ring) (s : State) : (s.onRing i f).sec = s.sec := (rfl)
@[simp] theorem State.onRing_stg (i : Nat) (f : Ring → Ring) (s : State) : (s.onRing i f).stg = s.stg := (rfl)
@[simp] theorem State.onRing_rng (i : Nat) (f : Ring → Ring) (s : State) : (s.onRing i f).rng = { s.rng with rings := tabMod {} i f s.rng.rings } := (rfl)
@[simp] theorem State.onRing_bpm (i : Nat) (f : Ring → Ring) (s : State) : (s.onRing i f).bpm = s.bpm := (rfl)
@[simp] theorem State.onRing_pmu (i : Nat) (f : Ring → Ring) (s : State) : (s.onRing i f).pmu = s.pmu := (rfl)
@[simp] theorem State.onRing_prt (i : Nat) (f : Ring → Ring) (s : State) : (s.onRing i f).prt = s.prt := (rfl)
@[simp] theorem State.onRing_cel (i : Nat) (f : Ring → Ring) (s : State) : (s.onRing i f).cel = s.cel := (rfl)
@[simp] theorem State.onRing_frm (i : Nat) (f : Ring → Ring) (s : State) : (s.onRing i f).frm = s.frm := (rfl)
@[simp] theorem State.onRing_tbl (i : Nat) (f : Ring → Ring) (s : State) : (s.onRing i f).tbl = s.tbl := (rfl)
@[simp] theorem State.onRing_flo (i : Nat) (f : Ring → Ring) (s : State) : (s.onRing i f).flo = s.flo := (rfl)
@[simp] theorem State.onRing_prg (i : Nat) (f : Ring → Ring) (s : State) : (s.onRing i f).prg = s.prg := (rfl)
@[simp] theorem State.onRing_fab (i : Nat) (f : Ring → Ring) (s : State) : (s.onRing i f).fab = s.fab := (rfl)
@[simp] theorem State.onRing_egr (i : Nat) (f : Ring → Ring) (s : State) : (s.onRing i f).egr = s.egr := (rfl)
@[simp] theorem State.onRing_ctr (i : Nat) (f : Ring → Ring) (s : State) : (s.onRing i f).ctr = s.ctr := (rfl)
@[simp] theorem State.onRing_shadow (i : Nat) (f : Ring → Ring) (s : State) : (s.onRing i f).shadow = s.shadow := (rfl)
@[simp] theorem State.onRing_out (i : Nat) (f : Ring → Ring) (s : State) : (s.onRing i f).out = s.out := (rfl)
@[simp] theorem State.onRing_draw (i : Nat) (f : Ring → Ring) (s : State) : (s.onRing i f).draw = s.draw := (rfl)
@[simp] theorem State.onRing_pending (i : Nat) (f : Ring → Ring) (s : State) : (s.onRing i f).pending = s.pending := (rfl)

/-! ## onPair -/

@[simp] theorem State.onPair_crn (n : Nat) (f : MbxPair → MbxPair) (s : State) : (s.onPair n f).crn = s.crn := (rfl)
@[simp] theorem State.onPair_sup (n : Nat) (f : MbxPair → MbxPair) (s : State) : (s.onPair n f).sup = s.sup := (rfl)
@[simp] theorem State.onPair_tim (n : Nat) (f : MbxPair → MbxPair) (s : State) : (s.onPair n f).tim = s.tim := (rfl)
@[simp] theorem State.onPair_hif (n : Nat) (f : MbxPair → MbxPair) (s : State) : (s.onPair n f).hif = { s.hif with mbx := tabMod {} n f s.hif.mbx } := (rfl)
@[simp] theorem State.onPair_flt (n : Nat) (f : MbxPair → MbxPair) (s : State) : (s.onPair n f).flt = s.flt := (rfl)
@[simp] theorem State.onPair_img (n : Nat) (f : MbxPair → MbxPair) (s : State) : (s.onPair n f).img = s.img := (rfl)
@[simp] theorem State.onPair_sec (n : Nat) (f : MbxPair → MbxPair) (s : State) : (s.onPair n f).sec = s.sec := (rfl)
@[simp] theorem State.onPair_stg (n : Nat) (f : MbxPair → MbxPair) (s : State) : (s.onPair n f).stg = s.stg := (rfl)
@[simp] theorem State.onPair_rng (n : Nat) (f : MbxPair → MbxPair) (s : State) : (s.onPair n f).rng = s.rng := (rfl)
@[simp] theorem State.onPair_bpm (n : Nat) (f : MbxPair → MbxPair) (s : State) : (s.onPair n f).bpm = s.bpm := (rfl)
@[simp] theorem State.onPair_pmu (n : Nat) (f : MbxPair → MbxPair) (s : State) : (s.onPair n f).pmu = s.pmu := (rfl)
@[simp] theorem State.onPair_prt (n : Nat) (f : MbxPair → MbxPair) (s : State) : (s.onPair n f).prt = s.prt := (rfl)
@[simp] theorem State.onPair_cel (n : Nat) (f : MbxPair → MbxPair) (s : State) : (s.onPair n f).cel = s.cel := (rfl)
@[simp] theorem State.onPair_frm (n : Nat) (f : MbxPair → MbxPair) (s : State) : (s.onPair n f).frm = s.frm := (rfl)
@[simp] theorem State.onPair_tbl (n : Nat) (f : MbxPair → MbxPair) (s : State) : (s.onPair n f).tbl = s.tbl := (rfl)
@[simp] theorem State.onPair_flo (n : Nat) (f : MbxPair → MbxPair) (s : State) : (s.onPair n f).flo = s.flo := (rfl)
@[simp] theorem State.onPair_prg (n : Nat) (f : MbxPair → MbxPair) (s : State) : (s.onPair n f).prg = s.prg := (rfl)
@[simp] theorem State.onPair_fab (n : Nat) (f : MbxPair → MbxPair) (s : State) : (s.onPair n f).fab = s.fab := (rfl)
@[simp] theorem State.onPair_egr (n : Nat) (f : MbxPair → MbxPair) (s : State) : (s.onPair n f).egr = s.egr := (rfl)
@[simp] theorem State.onPair_ctr (n : Nat) (f : MbxPair → MbxPair) (s : State) : (s.onPair n f).ctr = s.ctr := (rfl)
@[simp] theorem State.onPair_shadow (n : Nat) (f : MbxPair → MbxPair) (s : State) : (s.onPair n f).shadow = s.shadow := (rfl)
@[simp] theorem State.onPair_out (n : Nat) (f : MbxPair → MbxPair) (s : State) : (s.onPair n f).out = s.out := (rfl)
@[simp] theorem State.onPair_draw (n : Nat) (f : MbxPair → MbxPair) (s : State) : (s.onPair n f).draw = s.draw := (rfl)
@[simp] theorem State.onPair_pending (n : Nat) (f : MbxPair → MbxPair) (s : State) : (s.onPair n f).pending = s.pending := (rfl)

/-! ## emit -/

@[simp] theorem State.emit_crn (o : Out) (s : State) : (s.emit o).crn = s.crn := (rfl)
@[simp] theorem State.emit_sup (o : Out) (s : State) : (s.emit o).sup = s.sup := (rfl)
@[simp] theorem State.emit_tim (o : Out) (s : State) : (s.emit o).tim = s.tim := (rfl)
@[simp] theorem State.emit_hif (o : Out) (s : State) : (s.emit o).hif = s.hif := (rfl)
@[simp] theorem State.emit_flt (o : Out) (s : State) : (s.emit o).flt = s.flt := (rfl)
@[simp] theorem State.emit_img (o : Out) (s : State) : (s.emit o).img = s.img := (rfl)
@[simp] theorem State.emit_sec (o : Out) (s : State) : (s.emit o).sec = s.sec := (rfl)
@[simp] theorem State.emit_stg (o : Out) (s : State) : (s.emit o).stg = s.stg := (rfl)
@[simp] theorem State.emit_rng (o : Out) (s : State) : (s.emit o).rng = s.rng := (rfl)
@[simp] theorem State.emit_bpm (o : Out) (s : State) : (s.emit o).bpm = s.bpm := (rfl)
@[simp] theorem State.emit_pmu (o : Out) (s : State) : (s.emit o).pmu = s.pmu := (rfl)
@[simp] theorem State.emit_prt (o : Out) (s : State) : (s.emit o).prt = s.prt := (rfl)
@[simp] theorem State.emit_cel (o : Out) (s : State) : (s.emit o).cel = s.cel := (rfl)
@[simp] theorem State.emit_frm (o : Out) (s : State) : (s.emit o).frm = s.frm := (rfl)
@[simp] theorem State.emit_tbl (o : Out) (s : State) : (s.emit o).tbl = s.tbl := (rfl)
@[simp] theorem State.emit_flo (o : Out) (s : State) : (s.emit o).flo = s.flo := (rfl)
@[simp] theorem State.emit_prg (o : Out) (s : State) : (s.emit o).prg = s.prg := (rfl)
@[simp] theorem State.emit_fab (o : Out) (s : State) : (s.emit o).fab = s.fab := (rfl)
@[simp] theorem State.emit_egr (o : Out) (s : State) : (s.emit o).egr = s.egr := (rfl)
@[simp] theorem State.emit_ctr (o : Out) (s : State) : (s.emit o).ctr = s.ctr := (rfl)
@[simp] theorem State.emit_shadow (o : Out) (s : State) : (s.emit o).shadow = s.shadow := (rfl)
@[simp] theorem State.emit_out (o : Out) (s : State) : (s.emit o).out = s.out ++ [o] := (rfl)
@[simp] theorem State.emit_draw (o : Out) (s : State) : (s.emit o).draw = s.draw := (rfl)
@[simp] theorem State.emit_pending (o : Out) (s : State) : (s.emit o).pending = s.pending := (rfl)

/-! ## bump -/

@[simp] theorem State.bump_crn (k i x n : Nat) (s : State) : (s.bump k i x n).crn = s.crn := (rfl)
@[simp] theorem State.bump_sup (k i x n : Nat) (s : State) : (s.bump k i x n).sup = s.sup := (rfl)
@[simp] theorem State.bump_tim (k i x n : Nat) (s : State) : (s.bump k i x n).tim = s.tim := (rfl)
@[simp] theorem State.bump_hif (k i x n : Nat) (s : State) : (s.bump k i x n).hif = s.hif := (rfl)
@[simp] theorem State.bump_flt (k i x n : Nat) (s : State) : (s.bump k i x n).flt = s.flt := (rfl)
@[simp] theorem State.bump_img (k i x n : Nat) (s : State) : (s.bump k i x n).img = s.img := (rfl)
@[simp] theorem State.bump_sec (k i x n : Nat) (s : State) : (s.bump k i x n).sec = s.sec := (rfl)
@[simp] theorem State.bump_stg (k i x n : Nat) (s : State) : (s.bump k i x n).stg = s.stg := (rfl)
@[simp] theorem State.bump_rng (k i x n : Nat) (s : State) : (s.bump k i x n).rng = s.rng := (rfl)
@[simp] theorem State.bump_bpm (k i x n : Nat) (s : State) : (s.bump k i x n).bpm = s.bpm := (rfl)
@[simp] theorem State.bump_pmu (k i x n : Nat) (s : State) : (s.bump k i x n).pmu = s.pmu := (rfl)
@[simp] theorem State.bump_prt (k i x n : Nat) (s : State) : (s.bump k i x n).prt = s.prt := (rfl)
@[simp] theorem State.bump_cel (k i x n : Nat) (s : State) : (s.bump k i x n).cel = s.cel := (rfl)
@[simp] theorem State.bump_frm (k i x n : Nat) (s : State) : (s.bump k i x n).frm = s.frm := (rfl)
@[simp] theorem State.bump_tbl (k i x n : Nat) (s : State) : (s.bump k i x n).tbl = s.tbl := (rfl)
@[simp] theorem State.bump_flo (k i x n : Nat) (s : State) : (s.bump k i x n).flo = s.flo := (rfl)
@[simp] theorem State.bump_prg (k i x n : Nat) (s : State) : (s.bump k i x n).prg = s.prg := (rfl)
@[simp] theorem State.bump_fab (k i x n : Nat) (s : State) : (s.bump k i x n).fab = s.fab := (rfl)
@[simp] theorem State.bump_egr (k i x n : Nat) (s : State) : (s.bump k i x n).egr = s.egr := (rfl)
@[simp] theorem State.bump_ctr (k i x n : Nat) (s : State) : (s.bump k i x n).ctr = tabMod 0 (ckey k i x) (fun v => (v + n) % 2 ^ 64) s.ctr := (rfl)
@[simp] theorem State.bump_shadow (k i x n : Nat) (s : State) : (s.bump k i x n).shadow = s.shadow := (rfl)
@[simp] theorem State.bump_out (k i x n : Nat) (s : State) : (s.bump k i x n).out = s.out := (rfl)
@[simp] theorem State.bump_draw (k i x n : Nat) (s : State) : (s.bump k i x n).draw = s.draw := (rfl)
@[simp] theorem State.bump_pending (k i x n : Nat) (s : State) : (s.bump k i x n).pending = s.pending := (rfl)

/-! ## drawNat -/

@[simp] theorem State.drawNat_crn (s : State) : s.drawNat.2.crn = s.crn := (rfl)
@[simp] theorem State.drawNat_sup (s : State) : s.drawNat.2.sup = s.sup := (rfl)
@[simp] theorem State.drawNat_tim (s : State) : s.drawNat.2.tim = s.tim := (rfl)
@[simp] theorem State.drawNat_hif (s : State) : s.drawNat.2.hif = s.hif := (rfl)
@[simp] theorem State.drawNat_flt (s : State) : s.drawNat.2.flt = s.flt := (rfl)
@[simp] theorem State.drawNat_img (s : State) : s.drawNat.2.img = s.img := (rfl)
@[simp] theorem State.drawNat_sec (s : State) : s.drawNat.2.sec = s.sec := (rfl)
@[simp] theorem State.drawNat_stg (s : State) : s.drawNat.2.stg = s.stg := (rfl)
@[simp] theorem State.drawNat_rng (s : State) : s.drawNat.2.rng = s.rng := (rfl)
@[simp] theorem State.drawNat_bpm (s : State) : s.drawNat.2.bpm = s.bpm := (rfl)
@[simp] theorem State.drawNat_pmu (s : State) : s.drawNat.2.pmu = s.pmu := (rfl)
@[simp] theorem State.drawNat_prt (s : State) : s.drawNat.2.prt = s.prt := (rfl)
@[simp] theorem State.drawNat_cel (s : State) : s.drawNat.2.cel = s.cel := (rfl)
@[simp] theorem State.drawNat_frm (s : State) : s.drawNat.2.frm = s.frm := (rfl)
@[simp] theorem State.drawNat_tbl (s : State) : s.drawNat.2.tbl = s.tbl := (rfl)
@[simp] theorem State.drawNat_flo (s : State) : s.drawNat.2.flo = s.flo := (rfl)
@[simp] theorem State.drawNat_prg (s : State) : s.drawNat.2.prg = s.prg := (rfl)
@[simp] theorem State.drawNat_fab (s : State) : s.drawNat.2.fab = s.fab := (rfl)
@[simp] theorem State.drawNat_egr (s : State) : s.drawNat.2.egr = s.egr := (rfl)
@[simp] theorem State.drawNat_ctr (s : State) : s.drawNat.2.ctr = s.ctr := (rfl)
@[simp] theorem State.drawNat_shadow (s : State) : s.drawNat.2.shadow = s.shadow := (rfl)
@[simp] theorem State.drawNat_out (s : State) : s.drawNat.2.out = s.out := (rfl)
@[simp] theorem State.drawNat_draw (s : State) : s.drawNat.2.draw = s.draw + 1 := (rfl)
@[simp] theorem State.drawNat_pending (s : State) : s.drawNat.2.pending = s.pending := (rfl)

/-! ## Views that no update of another part changes -/

@[simp] theorem State.onCrn_now (f : Crn → Crn)  (s : State) : (s.onCrn f).now  = s.now  := (rfl)
@[simp] theorem State.onCrn_stamp (f : Crn → Crn)  (s : State) : (s.onCrn f).stamp  = s.stamp  := (rfl)
@[simp] theorem State.onCrn_upNs (f : Crn → Crn)  (s : State) : (s.onCrn f).upNs  = s.upNs  := (rfl)
@[simp] theorem State.onCrn_port (f : Crn → Crn) (p' : Nat) (s : State) : (s.onCrn f).port p' = s.port p' := (rfl)
@[simp] theorem State.onCrn_cell (f : Crn → Crn) (c' : Nat) (s : State) : (s.onCrn f).cell c' = s.cell c' := (rfl)
@[simp] theorem State.onCrn_ring (f : Crn → Crn) (i' : Nat) (s : State) : (s.onCrn f).ring i' = s.ring i' := (rfl)
@[simp] theorem State.onCrn_pair (f : Crn → Crn) (n' : Nat) (s : State) : (s.onCrn f).pair n' = s.pair n' := (rfl)
@[simp] theorem State.onCrn_count (f : Crn → Crn) (k' i' x' : Nat) (s : State) : (s.onCrn f).count k' i' x' = s.count k' i' x' := (rfl)
@[simp] theorem State.onCrn_passed (f : Crn → Crn) (t' d' : Nat) (s : State) : (s.onCrn f).passed t' d' = s.passed t' d' := (rfl)
@[simp] theorem State.onCrn_sessionOpen (f : Crn → Crn) (r' : Req) (s : State) : (s.onCrn f).sessionOpen r' = s.sessionOpen r' := (rfl)
@[simp] theorem State.onCrn_msixWord (f : Crn → Crn) (k' : Nat) (s : State) : (s.onCrn f).msixWord k' = s.msixWord k' := (rfl)
@[simp] theorem State.onCrn_causeOf (f : Crn → Crn) (n' : Nat) (s : State) : (s.onCrn f).causeOf n' = s.causeOf n' := (rfl)
@[simp] theorem State.onSup_now (f : Sup → Sup)  (s : State) : (s.onSup f).now  = s.now  := (rfl)
@[simp] theorem State.onSup_stamp (f : Sup → Sup)  (s : State) : (s.onSup f).stamp  = s.stamp  := (rfl)
@[simp] theorem State.onSup_upNs (f : Sup → Sup)  (s : State) : (s.onSup f).upNs  = s.upNs  := (rfl)
@[simp] theorem State.onSup_port (f : Sup → Sup) (p' : Nat) (s : State) : (s.onSup f).port p' = s.port p' := (rfl)
@[simp] theorem State.onSup_cell (f : Sup → Sup) (c' : Nat) (s : State) : (s.onSup f).cell c' = s.cell c' := (rfl)
@[simp] theorem State.onSup_ring (f : Sup → Sup) (i' : Nat) (s : State) : (s.onSup f).ring i' = s.ring i' := (rfl)
@[simp] theorem State.onSup_pair (f : Sup → Sup) (n' : Nat) (s : State) : (s.onSup f).pair n' = s.pair n' := (rfl)
@[simp] theorem State.onSup_count (f : Sup → Sup) (k' i' x' : Nat) (s : State) : (s.onSup f).count k' i' x' = s.count k' i' x' := (rfl)
@[simp] theorem State.onSup_passed (f : Sup → Sup) (t' d' : Nat) (s : State) : (s.onSup f).passed t' d' = s.passed t' d' := (rfl)
@[simp] theorem State.onSup_sessionOpen (f : Sup → Sup) (r' : Req) (s : State) : (s.onSup f).sessionOpen r' = s.sessionOpen r' := (rfl)
@[simp] theorem State.onSup_msixWord (f : Sup → Sup) (k' : Nat) (s : State) : (s.onSup f).msixWord k' = s.msixWord k' := (rfl)
@[simp] theorem State.onSup_causeOf (f : Sup → Sup) (n' : Nat) (s : State) : (s.onSup f).causeOf n' = s.causeOf n' := (rfl)
@[simp] theorem State.onTim_port (f : Tim → Tim) (p' : Nat) (s : State) : (s.onTim f).port p' = s.port p' := (rfl)
@[simp] theorem State.onTim_cell (f : Tim → Tim) (c' : Nat) (s : State) : (s.onTim f).cell c' = s.cell c' := (rfl)
@[simp] theorem State.onTim_ring (f : Tim → Tim) (i' : Nat) (s : State) : (s.onTim f).ring i' = s.ring i' := (rfl)
@[simp] theorem State.onTim_pair (f : Tim → Tim) (n' : Nat) (s : State) : (s.onTim f).pair n' = s.pair n' := (rfl)
@[simp] theorem State.onTim_count (f : Tim → Tim) (k' i' x' : Nat) (s : State) : (s.onTim f).count k' i' x' = s.count k' i' x' := (rfl)
@[simp] theorem State.onTim_sessionOpen (f : Tim → Tim) (r' : Req) (s : State) : (s.onTim f).sessionOpen r' = s.sessionOpen r' := (rfl)
@[simp] theorem State.onTim_msixWord (f : Tim → Tim) (k' : Nat) (s : State) : (s.onTim f).msixWord k' = s.msixWord k' := (rfl)
@[simp] theorem State.onTim_causeOf (f : Tim → Tim) (n' : Nat) (s : State) : (s.onTim f).causeOf n' = s.causeOf n' := (rfl)
@[simp] theorem State.onHif_now (f : Hif → Hif)  (s : State) : (s.onHif f).now  = s.now  := (rfl)
@[simp] theorem State.onHif_stamp (f : Hif → Hif)  (s : State) : (s.onHif f).stamp  = s.stamp  := (rfl)
@[simp] theorem State.onHif_upNs (f : Hif → Hif)  (s : State) : (s.onHif f).upNs  = s.upNs  := (rfl)
@[simp] theorem State.onHif_port (f : Hif → Hif) (p' : Nat) (s : State) : (s.onHif f).port p' = s.port p' := (rfl)
@[simp] theorem State.onHif_cell (f : Hif → Hif) (c' : Nat) (s : State) : (s.onHif f).cell c' = s.cell c' := (rfl)
@[simp] theorem State.onHif_ring (f : Hif → Hif) (i' : Nat) (s : State) : (s.onHif f).ring i' = s.ring i' := (rfl)
@[simp] theorem State.onHif_count (f : Hif → Hif) (k' i' x' : Nat) (s : State) : (s.onHif f).count k' i' x' = s.count k' i' x' := (rfl)
@[simp] theorem State.onHif_passed (f : Hif → Hif) (t' d' : Nat) (s : State) : (s.onHif f).passed t' d' = s.passed t' d' := (rfl)
@[simp] theorem State.onHif_causeOf (f : Hif → Hif) (n' : Nat) (s : State) : (s.onHif f).causeOf n' = s.causeOf n' := (rfl)
@[simp] theorem State.onFlt_now (f : Flt → Flt)  (s : State) : (s.onFlt f).now  = s.now  := (rfl)
@[simp] theorem State.onFlt_stamp (f : Flt → Flt)  (s : State) : (s.onFlt f).stamp  = s.stamp  := (rfl)
@[simp] theorem State.onFlt_upNs (f : Flt → Flt)  (s : State) : (s.onFlt f).upNs  = s.upNs  := (rfl)
@[simp] theorem State.onFlt_port (f : Flt → Flt) (p' : Nat) (s : State) : (s.onFlt f).port p' = s.port p' := (rfl)
@[simp] theorem State.onFlt_cell (f : Flt → Flt) (c' : Nat) (s : State) : (s.onFlt f).cell c' = s.cell c' := (rfl)
@[simp] theorem State.onFlt_ring (f : Flt → Flt) (i' : Nat) (s : State) : (s.onFlt f).ring i' = s.ring i' := (rfl)
@[simp] theorem State.onFlt_pair (f : Flt → Flt) (n' : Nat) (s : State) : (s.onFlt f).pair n' = s.pair n' := (rfl)
@[simp] theorem State.onFlt_count (f : Flt → Flt) (k' i' x' : Nat) (s : State) : (s.onFlt f).count k' i' x' = s.count k' i' x' := (rfl)
@[simp] theorem State.onFlt_passed (f : Flt → Flt) (t' d' : Nat) (s : State) : (s.onFlt f).passed t' d' = s.passed t' d' := (rfl)
@[simp] theorem State.onFlt_sessionOpen (f : Flt → Flt) (r' : Req) (s : State) : (s.onFlt f).sessionOpen r' = s.sessionOpen r' := (rfl)
@[simp] theorem State.onFlt_msixWord (f : Flt → Flt) (k' : Nat) (s : State) : (s.onFlt f).msixWord k' = s.msixWord k' := (rfl)
@[simp] theorem State.onImg_now (f : Img → Img)  (s : State) : (s.onImg f).now  = s.now  := (rfl)
@[simp] theorem State.onImg_stamp (f : Img → Img)  (s : State) : (s.onImg f).stamp  = s.stamp  := (rfl)
@[simp] theorem State.onImg_upNs (f : Img → Img)  (s : State) : (s.onImg f).upNs  = s.upNs  := (rfl)
@[simp] theorem State.onImg_port (f : Img → Img) (p' : Nat) (s : State) : (s.onImg f).port p' = s.port p' := (rfl)
@[simp] theorem State.onImg_cell (f : Img → Img) (c' : Nat) (s : State) : (s.onImg f).cell c' = s.cell c' := (rfl)
@[simp] theorem State.onImg_ring (f : Img → Img) (i' : Nat) (s : State) : (s.onImg f).ring i' = s.ring i' := (rfl)
@[simp] theorem State.onImg_pair (f : Img → Img) (n' : Nat) (s : State) : (s.onImg f).pair n' = s.pair n' := (rfl)
@[simp] theorem State.onImg_count (f : Img → Img) (k' i' x' : Nat) (s : State) : (s.onImg f).count k' i' x' = s.count k' i' x' := (rfl)
@[simp] theorem State.onImg_passed (f : Img → Img) (t' d' : Nat) (s : State) : (s.onImg f).passed t' d' = s.passed t' d' := (rfl)
@[simp] theorem State.onImg_sessionOpen (f : Img → Img) (r' : Req) (s : State) : (s.onImg f).sessionOpen r' = s.sessionOpen r' := (rfl)
@[simp] theorem State.onImg_msixWord (f : Img → Img) (k' : Nat) (s : State) : (s.onImg f).msixWord k' = s.msixWord k' := (rfl)
@[simp] theorem State.onImg_causeOf (f : Img → Img) (n' : Nat) (s : State) : (s.onImg f).causeOf n' = s.causeOf n' := (rfl)
@[simp] theorem State.onSec_now (f : Sec → Sec)  (s : State) : (s.onSec f).now  = s.now  := (rfl)
@[simp] theorem State.onSec_stamp (f : Sec → Sec)  (s : State) : (s.onSec f).stamp  = s.stamp  := (rfl)
@[simp] theorem State.onSec_upNs (f : Sec → Sec)  (s : State) : (s.onSec f).upNs  = s.upNs  := (rfl)
@[simp] theorem State.onSec_port (f : Sec → Sec) (p' : Nat) (s : State) : (s.onSec f).port p' = s.port p' := (rfl)
@[simp] theorem State.onSec_cell (f : Sec → Sec) (c' : Nat) (s : State) : (s.onSec f).cell c' = s.cell c' := (rfl)
@[simp] theorem State.onSec_ring (f : Sec → Sec) (i' : Nat) (s : State) : (s.onSec f).ring i' = s.ring i' := (rfl)
@[simp] theorem State.onSec_pair (f : Sec → Sec) (n' : Nat) (s : State) : (s.onSec f).pair n' = s.pair n' := (rfl)
@[simp] theorem State.onSec_count (f : Sec → Sec) (k' i' x' : Nat) (s : State) : (s.onSec f).count k' i' x' = s.count k' i' x' := (rfl)
@[simp] theorem State.onSec_passed (f : Sec → Sec) (t' d' : Nat) (s : State) : (s.onSec f).passed t' d' = s.passed t' d' := (rfl)
@[simp] theorem State.onSec_sessionOpen (f : Sec → Sec) (r' : Req) (s : State) : (s.onSec f).sessionOpen r' = s.sessionOpen r' := (rfl)
@[simp] theorem State.onSec_msixWord (f : Sec → Sec) (k' : Nat) (s : State) : (s.onSec f).msixWord k' = s.msixWord k' := (rfl)
@[simp] theorem State.onSec_causeOf (f : Sec → Sec) (n' : Nat) (s : State) : (s.onSec f).causeOf n' = s.causeOf n' := (rfl)
@[simp] theorem State.onStg_now (f : Stg → Stg)  (s : State) : (s.onStg f).now  = s.now  := (rfl)
@[simp] theorem State.onStg_stamp (f : Stg → Stg)  (s : State) : (s.onStg f).stamp  = s.stamp  := (rfl)
@[simp] theorem State.onStg_upNs (f : Stg → Stg)  (s : State) : (s.onStg f).upNs  = s.upNs  := (rfl)
@[simp] theorem State.onStg_port (f : Stg → Stg) (p' : Nat) (s : State) : (s.onStg f).port p' = s.port p' := (rfl)
@[simp] theorem State.onStg_cell (f : Stg → Stg) (c' : Nat) (s : State) : (s.onStg f).cell c' = s.cell c' := (rfl)
@[simp] theorem State.onStg_ring (f : Stg → Stg) (i' : Nat) (s : State) : (s.onStg f).ring i' = s.ring i' := (rfl)
@[simp] theorem State.onStg_pair (f : Stg → Stg) (n' : Nat) (s : State) : (s.onStg f).pair n' = s.pair n' := (rfl)
@[simp] theorem State.onStg_count (f : Stg → Stg) (k' i' x' : Nat) (s : State) : (s.onStg f).count k' i' x' = s.count k' i' x' := (rfl)
@[simp] theorem State.onStg_passed (f : Stg → Stg) (t' d' : Nat) (s : State) : (s.onStg f).passed t' d' = s.passed t' d' := (rfl)
@[simp] theorem State.onStg_sessionOpen (f : Stg → Stg) (r' : Req) (s : State) : (s.onStg f).sessionOpen r' = s.sessionOpen r' := (rfl)
@[simp] theorem State.onStg_msixWord (f : Stg → Stg) (k' : Nat) (s : State) : (s.onStg f).msixWord k' = s.msixWord k' := (rfl)
@[simp] theorem State.onStg_causeOf (f : Stg → Stg) (n' : Nat) (s : State) : (s.onStg f).causeOf n' = s.causeOf n' := (rfl)
@[simp] theorem State.onRng_now (f : Rng → Rng)  (s : State) : (s.onRng f).now  = s.now  := (rfl)
@[simp] theorem State.onRng_stamp (f : Rng → Rng)  (s : State) : (s.onRng f).stamp  = s.stamp  := (rfl)
@[simp] theorem State.onRng_upNs (f : Rng → Rng)  (s : State) : (s.onRng f).upNs  = s.upNs  := (rfl)
@[simp] theorem State.onRng_port (f : Rng → Rng) (p' : Nat) (s : State) : (s.onRng f).port p' = s.port p' := (rfl)
@[simp] theorem State.onRng_cell (f : Rng → Rng) (c' : Nat) (s : State) : (s.onRng f).cell c' = s.cell c' := (rfl)
@[simp] theorem State.onRng_pair (f : Rng → Rng) (n' : Nat) (s : State) : (s.onRng f).pair n' = s.pair n' := (rfl)
@[simp] theorem State.onRng_count (f : Rng → Rng) (k' i' x' : Nat) (s : State) : (s.onRng f).count k' i' x' = s.count k' i' x' := (rfl)
@[simp] theorem State.onRng_passed (f : Rng → Rng) (t' d' : Nat) (s : State) : (s.onRng f).passed t' d' = s.passed t' d' := (rfl)
@[simp] theorem State.onRng_sessionOpen (f : Rng → Rng) (r' : Req) (s : State) : (s.onRng f).sessionOpen r' = s.sessionOpen r' := (rfl)
@[simp] theorem State.onRng_msixWord (f : Rng → Rng) (k' : Nat) (s : State) : (s.onRng f).msixWord k' = s.msixWord k' := (rfl)
@[simp] theorem State.onRng_causeOf (f : Rng → Rng) (n' : Nat) (s : State) : (s.onRng f).causeOf n' = s.causeOf n' := (rfl)
@[simp] theorem State.onBpm_now (f : Bpm → Bpm)  (s : State) : (s.onBpm f).now  = s.now  := (rfl)
@[simp] theorem State.onBpm_stamp (f : Bpm → Bpm)  (s : State) : (s.onBpm f).stamp  = s.stamp  := (rfl)
@[simp] theorem State.onBpm_upNs (f : Bpm → Bpm)  (s : State) : (s.onBpm f).upNs  = s.upNs  := (rfl)
@[simp] theorem State.onBpm_port (f : Bpm → Bpm) (p' : Nat) (s : State) : (s.onBpm f).port p' = s.port p' := (rfl)
@[simp] theorem State.onBpm_cell (f : Bpm → Bpm) (c' : Nat) (s : State) : (s.onBpm f).cell c' = s.cell c' := (rfl)
@[simp] theorem State.onBpm_ring (f : Bpm → Bpm) (i' : Nat) (s : State) : (s.onBpm f).ring i' = s.ring i' := (rfl)
@[simp] theorem State.onBpm_pair (f : Bpm → Bpm) (n' : Nat) (s : State) : (s.onBpm f).pair n' = s.pair n' := (rfl)
@[simp] theorem State.onBpm_count (f : Bpm → Bpm) (k' i' x' : Nat) (s : State) : (s.onBpm f).count k' i' x' = s.count k' i' x' := (rfl)
@[simp] theorem State.onBpm_passed (f : Bpm → Bpm) (t' d' : Nat) (s : State) : (s.onBpm f).passed t' d' = s.passed t' d' := (rfl)
@[simp] theorem State.onBpm_sessionOpen (f : Bpm → Bpm) (r' : Req) (s : State) : (s.onBpm f).sessionOpen r' = s.sessionOpen r' := (rfl)
@[simp] theorem State.onBpm_msixWord (f : Bpm → Bpm) (k' : Nat) (s : State) : (s.onBpm f).msixWord k' = s.msixWord k' := (rfl)
@[simp] theorem State.onBpm_causeOf (f : Bpm → Bpm) (n' : Nat) (s : State) : (s.onBpm f).causeOf n' = s.causeOf n' := (rfl)
@[simp] theorem State.onPmu_now (f : Pmu → Pmu)  (s : State) : (s.onPmu f).now  = s.now  := (rfl)
@[simp] theorem State.onPmu_stamp (f : Pmu → Pmu)  (s : State) : (s.onPmu f).stamp  = s.stamp  := (rfl)
@[simp] theorem State.onPmu_upNs (f : Pmu → Pmu)  (s : State) : (s.onPmu f).upNs  = s.upNs  := (rfl)
@[simp] theorem State.onPmu_port (f : Pmu → Pmu) (p' : Nat) (s : State) : (s.onPmu f).port p' = s.port p' := (rfl)
@[simp] theorem State.onPmu_cell (f : Pmu → Pmu) (c' : Nat) (s : State) : (s.onPmu f).cell c' = s.cell c' := (rfl)
@[simp] theorem State.onPmu_ring (f : Pmu → Pmu) (i' : Nat) (s : State) : (s.onPmu f).ring i' = s.ring i' := (rfl)
@[simp] theorem State.onPmu_pair (f : Pmu → Pmu) (n' : Nat) (s : State) : (s.onPmu f).pair n' = s.pair n' := (rfl)
@[simp] theorem State.onPmu_count (f : Pmu → Pmu) (k' i' x' : Nat) (s : State) : (s.onPmu f).count k' i' x' = s.count k' i' x' := (rfl)
@[simp] theorem State.onPmu_passed (f : Pmu → Pmu) (t' d' : Nat) (s : State) : (s.onPmu f).passed t' d' = s.passed t' d' := (rfl)
@[simp] theorem State.onPmu_sessionOpen (f : Pmu → Pmu) (r' : Req) (s : State) : (s.onPmu f).sessionOpen r' = s.sessionOpen r' := (rfl)
@[simp] theorem State.onPmu_msixWord (f : Pmu → Pmu) (k' : Nat) (s : State) : (s.onPmu f).msixWord k' = s.msixWord k' := (rfl)
@[simp] theorem State.onPmu_causeOf (f : Pmu → Pmu) (n' : Nat) (s : State) : (s.onPmu f).causeOf n' = s.causeOf n' := (rfl)
@[simp] theorem State.onFrm_now (f : Frm → Frm)  (s : State) : (s.onFrm f).now  = s.now  := (rfl)
@[simp] theorem State.onFrm_stamp (f : Frm → Frm)  (s : State) : (s.onFrm f).stamp  = s.stamp  := (rfl)
@[simp] theorem State.onFrm_upNs (f : Frm → Frm)  (s : State) : (s.onFrm f).upNs  = s.upNs  := (rfl)
@[simp] theorem State.onFrm_port (f : Frm → Frm) (p' : Nat) (s : State) : (s.onFrm f).port p' = s.port p' := (rfl)
@[simp] theorem State.onFrm_cell (f : Frm → Frm) (c' : Nat) (s : State) : (s.onFrm f).cell c' = s.cell c' := (rfl)
@[simp] theorem State.onFrm_ring (f : Frm → Frm) (i' : Nat) (s : State) : (s.onFrm f).ring i' = s.ring i' := (rfl)
@[simp] theorem State.onFrm_pair (f : Frm → Frm) (n' : Nat) (s : State) : (s.onFrm f).pair n' = s.pair n' := (rfl)
@[simp] theorem State.onFrm_count (f : Frm → Frm) (k' i' x' : Nat) (s : State) : (s.onFrm f).count k' i' x' = s.count k' i' x' := (rfl)
@[simp] theorem State.onFrm_passed (f : Frm → Frm) (t' d' : Nat) (s : State) : (s.onFrm f).passed t' d' = s.passed t' d' := (rfl)
@[simp] theorem State.onFrm_sessionOpen (f : Frm → Frm) (r' : Req) (s : State) : (s.onFrm f).sessionOpen r' = s.sessionOpen r' := (rfl)
@[simp] theorem State.onFrm_msixWord (f : Frm → Frm) (k' : Nat) (s : State) : (s.onFrm f).msixWord k' = s.msixWord k' := (rfl)
@[simp] theorem State.onFrm_causeOf (f : Frm → Frm) (n' : Nat) (s : State) : (s.onFrm f).causeOf n' = s.causeOf n' := (rfl)
@[simp] theorem State.onTbl_now (f : Tbl → Tbl)  (s : State) : (s.onTbl f).now  = s.now  := (rfl)
@[simp] theorem State.onTbl_stamp (f : Tbl → Tbl)  (s : State) : (s.onTbl f).stamp  = s.stamp  := (rfl)
@[simp] theorem State.onTbl_upNs (f : Tbl → Tbl)  (s : State) : (s.onTbl f).upNs  = s.upNs  := (rfl)
@[simp] theorem State.onTbl_port (f : Tbl → Tbl) (p' : Nat) (s : State) : (s.onTbl f).port p' = s.port p' := (rfl)
@[simp] theorem State.onTbl_cell (f : Tbl → Tbl) (c' : Nat) (s : State) : (s.onTbl f).cell c' = s.cell c' := (rfl)
@[simp] theorem State.onTbl_ring (f : Tbl → Tbl) (i' : Nat) (s : State) : (s.onTbl f).ring i' = s.ring i' := (rfl)
@[simp] theorem State.onTbl_pair (f : Tbl → Tbl) (n' : Nat) (s : State) : (s.onTbl f).pair n' = s.pair n' := (rfl)
@[simp] theorem State.onTbl_count (f : Tbl → Tbl) (k' i' x' : Nat) (s : State) : (s.onTbl f).count k' i' x' = s.count k' i' x' := (rfl)
@[simp] theorem State.onTbl_passed (f : Tbl → Tbl) (t' d' : Nat) (s : State) : (s.onTbl f).passed t' d' = s.passed t' d' := (rfl)
@[simp] theorem State.onTbl_sessionOpen (f : Tbl → Tbl) (r' : Req) (s : State) : (s.onTbl f).sessionOpen r' = s.sessionOpen r' := (rfl)
@[simp] theorem State.onTbl_msixWord (f : Tbl → Tbl) (k' : Nat) (s : State) : (s.onTbl f).msixWord k' = s.msixWord k' := (rfl)
@[simp] theorem State.onTbl_causeOf (f : Tbl → Tbl) (n' : Nat) (s : State) : (s.onTbl f).causeOf n' = s.causeOf n' := (rfl)
@[simp] theorem State.onFlo_now (f : Flo → Flo)  (s : State) : (s.onFlo f).now  = s.now  := (rfl)
@[simp] theorem State.onFlo_stamp (f : Flo → Flo)  (s : State) : (s.onFlo f).stamp  = s.stamp  := (rfl)
@[simp] theorem State.onFlo_upNs (f : Flo → Flo)  (s : State) : (s.onFlo f).upNs  = s.upNs  := (rfl)
@[simp] theorem State.onFlo_port (f : Flo → Flo) (p' : Nat) (s : State) : (s.onFlo f).port p' = s.port p' := (rfl)
@[simp] theorem State.onFlo_cell (f : Flo → Flo) (c' : Nat) (s : State) : (s.onFlo f).cell c' = s.cell c' := (rfl)
@[simp] theorem State.onFlo_ring (f : Flo → Flo) (i' : Nat) (s : State) : (s.onFlo f).ring i' = s.ring i' := (rfl)
@[simp] theorem State.onFlo_pair (f : Flo → Flo) (n' : Nat) (s : State) : (s.onFlo f).pair n' = s.pair n' := (rfl)
@[simp] theorem State.onFlo_count (f : Flo → Flo) (k' i' x' : Nat) (s : State) : (s.onFlo f).count k' i' x' = s.count k' i' x' := (rfl)
@[simp] theorem State.onFlo_passed (f : Flo → Flo) (t' d' : Nat) (s : State) : (s.onFlo f).passed t' d' = s.passed t' d' := (rfl)
@[simp] theorem State.onFlo_sessionOpen (f : Flo → Flo) (r' : Req) (s : State) : (s.onFlo f).sessionOpen r' = s.sessionOpen r' := (rfl)
@[simp] theorem State.onFlo_msixWord (f : Flo → Flo) (k' : Nat) (s : State) : (s.onFlo f).msixWord k' = s.msixWord k' := (rfl)
@[simp] theorem State.onFlo_causeOf (f : Flo → Flo) (n' : Nat) (s : State) : (s.onFlo f).causeOf n' = s.causeOf n' := (rfl)
@[simp] theorem State.onPrg_now (f : Prg → Prg)  (s : State) : (s.onPrg f).now  = s.now  := (rfl)
@[simp] theorem State.onPrg_stamp (f : Prg → Prg)  (s : State) : (s.onPrg f).stamp  = s.stamp  := (rfl)
@[simp] theorem State.onPrg_upNs (f : Prg → Prg)  (s : State) : (s.onPrg f).upNs  = s.upNs  := (rfl)
@[simp] theorem State.onPrg_port (f : Prg → Prg) (p' : Nat) (s : State) : (s.onPrg f).port p' = s.port p' := (rfl)
@[simp] theorem State.onPrg_cell (f : Prg → Prg) (c' : Nat) (s : State) : (s.onPrg f).cell c' = s.cell c' := (rfl)
@[simp] theorem State.onPrg_ring (f : Prg → Prg) (i' : Nat) (s : State) : (s.onPrg f).ring i' = s.ring i' := (rfl)
@[simp] theorem State.onPrg_pair (f : Prg → Prg) (n' : Nat) (s : State) : (s.onPrg f).pair n' = s.pair n' := (rfl)
@[simp] theorem State.onPrg_count (f : Prg → Prg) (k' i' x' : Nat) (s : State) : (s.onPrg f).count k' i' x' = s.count k' i' x' := (rfl)
@[simp] theorem State.onPrg_passed (f : Prg → Prg) (t' d' : Nat) (s : State) : (s.onPrg f).passed t' d' = s.passed t' d' := (rfl)
@[simp] theorem State.onPrg_sessionOpen (f : Prg → Prg) (r' : Req) (s : State) : (s.onPrg f).sessionOpen r' = s.sessionOpen r' := (rfl)
@[simp] theorem State.onPrg_msixWord (f : Prg → Prg) (k' : Nat) (s : State) : (s.onPrg f).msixWord k' = s.msixWord k' := (rfl)
@[simp] theorem State.onPrg_causeOf (f : Prg → Prg) (n' : Nat) (s : State) : (s.onPrg f).causeOf n' = s.causeOf n' := (rfl)
@[simp] theorem State.onFab_now (f : Fab → Fab)  (s : State) : (s.onFab f).now  = s.now  := (rfl)
@[simp] theorem State.onFab_stamp (f : Fab → Fab)  (s : State) : (s.onFab f).stamp  = s.stamp  := (rfl)
@[simp] theorem State.onFab_upNs (f : Fab → Fab)  (s : State) : (s.onFab f).upNs  = s.upNs  := (rfl)
@[simp] theorem State.onFab_port (f : Fab → Fab) (p' : Nat) (s : State) : (s.onFab f).port p' = s.port p' := (rfl)
@[simp] theorem State.onFab_cell (f : Fab → Fab) (c' : Nat) (s : State) : (s.onFab f).cell c' = s.cell c' := (rfl)
@[simp] theorem State.onFab_ring (f : Fab → Fab) (i' : Nat) (s : State) : (s.onFab f).ring i' = s.ring i' := (rfl)
@[simp] theorem State.onFab_pair (f : Fab → Fab) (n' : Nat) (s : State) : (s.onFab f).pair n' = s.pair n' := (rfl)
@[simp] theorem State.onFab_count (f : Fab → Fab) (k' i' x' : Nat) (s : State) : (s.onFab f).count k' i' x' = s.count k' i' x' := (rfl)
@[simp] theorem State.onFab_passed (f : Fab → Fab) (t' d' : Nat) (s : State) : (s.onFab f).passed t' d' = s.passed t' d' := (rfl)
@[simp] theorem State.onFab_sessionOpen (f : Fab → Fab) (r' : Req) (s : State) : (s.onFab f).sessionOpen r' = s.sessionOpen r' := (rfl)
@[simp] theorem State.onFab_msixWord (f : Fab → Fab) (k' : Nat) (s : State) : (s.onFab f).msixWord k' = s.msixWord k' := (rfl)
@[simp] theorem State.onFab_causeOf (f : Fab → Fab) (n' : Nat) (s : State) : (s.onFab f).causeOf n' = s.causeOf n' := (rfl)
@[simp] theorem State.onEgr_now (f : Egr → Egr)  (s : State) : (s.onEgr f).now  = s.now  := (rfl)
@[simp] theorem State.onEgr_stamp (f : Egr → Egr)  (s : State) : (s.onEgr f).stamp  = s.stamp  := (rfl)
@[simp] theorem State.onEgr_upNs (f : Egr → Egr)  (s : State) : (s.onEgr f).upNs  = s.upNs  := (rfl)
@[simp] theorem State.onEgr_port (f : Egr → Egr) (p' : Nat) (s : State) : (s.onEgr f).port p' = s.port p' := (rfl)
@[simp] theorem State.onEgr_cell (f : Egr → Egr) (c' : Nat) (s : State) : (s.onEgr f).cell c' = s.cell c' := (rfl)
@[simp] theorem State.onEgr_ring (f : Egr → Egr) (i' : Nat) (s : State) : (s.onEgr f).ring i' = s.ring i' := (rfl)
@[simp] theorem State.onEgr_pair (f : Egr → Egr) (n' : Nat) (s : State) : (s.onEgr f).pair n' = s.pair n' := (rfl)
@[simp] theorem State.onEgr_count (f : Egr → Egr) (k' i' x' : Nat) (s : State) : (s.onEgr f).count k' i' x' = s.count k' i' x' := (rfl)
@[simp] theorem State.onEgr_passed (f : Egr → Egr) (t' d' : Nat) (s : State) : (s.onEgr f).passed t' d' = s.passed t' d' := (rfl)
@[simp] theorem State.onEgr_sessionOpen (f : Egr → Egr) (r' : Req) (s : State) : (s.onEgr f).sessionOpen r' = s.sessionOpen r' := (rfl)
@[simp] theorem State.onEgr_msixWord (f : Egr → Egr) (k' : Nat) (s : State) : (s.onEgr f).msixWord k' = s.msixWord k' := (rfl)
@[simp] theorem State.onEgr_causeOf (f : Egr → Egr) (n' : Nat) (s : State) : (s.onEgr f).causeOf n' = s.causeOf n' := (rfl)
@[simp] theorem State.onPort_now (p : Nat) (f : Port → Port)  (s : State) : (s.onPort p f).now  = s.now  := (rfl)
@[simp] theorem State.onPort_stamp (p : Nat) (f : Port → Port)  (s : State) : (s.onPort p f).stamp  = s.stamp  := (rfl)
@[simp] theorem State.onPort_upNs (p : Nat) (f : Port → Port)  (s : State) : (s.onPort p f).upNs  = s.upNs  := (rfl)
@[simp] theorem State.onPort_cell (p : Nat) (f : Port → Port) (c' : Nat) (s : State) : (s.onPort p f).cell c' = s.cell c' := (rfl)
@[simp] theorem State.onPort_ring (p : Nat) (f : Port → Port) (i' : Nat) (s : State) : (s.onPort p f).ring i' = s.ring i' := (rfl)
@[simp] theorem State.onPort_pair (p : Nat) (f : Port → Port) (n' : Nat) (s : State) : (s.onPort p f).pair n' = s.pair n' := (rfl)
@[simp] theorem State.onPort_count (p : Nat) (f : Port → Port) (k' i' x' : Nat) (s : State) : (s.onPort p f).count k' i' x' = s.count k' i' x' := (rfl)
@[simp] theorem State.onPort_passed (p : Nat) (f : Port → Port) (t' d' : Nat) (s : State) : (s.onPort p f).passed t' d' = s.passed t' d' := (rfl)
@[simp] theorem State.onPort_sessionOpen (p : Nat) (f : Port → Port) (r' : Req) (s : State) : (s.onPort p f).sessionOpen r' = s.sessionOpen r' := (rfl)
@[simp] theorem State.onPort_msixWord (p : Nat) (f : Port → Port) (k' : Nat) (s : State) : (s.onPort p f).msixWord k' = s.msixWord k' := (rfl)
@[simp] theorem State.onPort_causeOf (p : Nat) (f : Port → Port) (n' : Nat) (s : State) : (s.onPort p f).causeOf n' = s.causeOf n' := (rfl)
@[simp] theorem State.onCell_now (c : Nat) (f : Cell → Cell)  (s : State) : (s.onCell c f).now  = s.now  := (rfl)
@[simp] theorem State.onCell_stamp (c : Nat) (f : Cell → Cell)  (s : State) : (s.onCell c f).stamp  = s.stamp  := (rfl)
@[simp] theorem State.onCell_upNs (c : Nat) (f : Cell → Cell)  (s : State) : (s.onCell c f).upNs  = s.upNs  := (rfl)
@[simp] theorem State.onCell_port (c : Nat) (f : Cell → Cell) (p' : Nat) (s : State) : (s.onCell c f).port p' = s.port p' := (rfl)
@[simp] theorem State.onCell_ring (c : Nat) (f : Cell → Cell) (i' : Nat) (s : State) : (s.onCell c f).ring i' = s.ring i' := (rfl)
@[simp] theorem State.onCell_pair (c : Nat) (f : Cell → Cell) (n' : Nat) (s : State) : (s.onCell c f).pair n' = s.pair n' := (rfl)
@[simp] theorem State.onCell_count (c : Nat) (f : Cell → Cell) (k' i' x' : Nat) (s : State) : (s.onCell c f).count k' i' x' = s.count k' i' x' := (rfl)
@[simp] theorem State.onCell_passed (c : Nat) (f : Cell → Cell) (t' d' : Nat) (s : State) : (s.onCell c f).passed t' d' = s.passed t' d' := (rfl)
@[simp] theorem State.onCell_sessionOpen (c : Nat) (f : Cell → Cell) (r' : Req) (s : State) : (s.onCell c f).sessionOpen r' = s.sessionOpen r' := (rfl)
@[simp] theorem State.onCell_msixWord (c : Nat) (f : Cell → Cell) (k' : Nat) (s : State) : (s.onCell c f).msixWord k' = s.msixWord k' := (rfl)
@[simp] theorem State.onCell_causeOf (c : Nat) (f : Cell → Cell) (n' : Nat) (s : State) : (s.onCell c f).causeOf n' = s.causeOf n' := (rfl)
@[simp] theorem State.onRing_now (i : Nat) (f : Ring → Ring)  (s : State) : (s.onRing i f).now  = s.now  := (rfl)
@[simp] theorem State.onRing_stamp (i : Nat) (f : Ring → Ring)  (s : State) : (s.onRing i f).stamp  = s.stamp  := (rfl)
@[simp] theorem State.onRing_upNs (i : Nat) (f : Ring → Ring)  (s : State) : (s.onRing i f).upNs  = s.upNs  := (rfl)
@[simp] theorem State.onRing_port (i : Nat) (f : Ring → Ring) (p' : Nat) (s : State) : (s.onRing i f).port p' = s.port p' := (rfl)
@[simp] theorem State.onRing_cell (i : Nat) (f : Ring → Ring) (c' : Nat) (s : State) : (s.onRing i f).cell c' = s.cell c' := (rfl)
@[simp] theorem State.onRing_pair (i : Nat) (f : Ring → Ring) (n' : Nat) (s : State) : (s.onRing i f).pair n' = s.pair n' := (rfl)
@[simp] theorem State.onRing_count (i : Nat) (f : Ring → Ring) (k' i' x' : Nat) (s : State) : (s.onRing i f).count k' i' x' = s.count k' i' x' := (rfl)
@[simp] theorem State.onRing_passed (i : Nat) (f : Ring → Ring) (t' d' : Nat) (s : State) : (s.onRing i f).passed t' d' = s.passed t' d' := (rfl)
@[simp] theorem State.onRing_sessionOpen (i : Nat) (f : Ring → Ring) (r' : Req) (s : State) : (s.onRing i f).sessionOpen r' = s.sessionOpen r' := (rfl)
@[simp] theorem State.onRing_msixWord (i : Nat) (f : Ring → Ring) (k' : Nat) (s : State) : (s.onRing i f).msixWord k' = s.msixWord k' := (rfl)
@[simp] theorem State.onRing_causeOf (i : Nat) (f : Ring → Ring) (n' : Nat) (s : State) : (s.onRing i f).causeOf n' = s.causeOf n' := (rfl)
@[simp] theorem State.onPair_now (n : Nat) (f : MbxPair → MbxPair)  (s : State) : (s.onPair n f).now  = s.now  := (rfl)
@[simp] theorem State.onPair_stamp (n : Nat) (f : MbxPair → MbxPair)  (s : State) : (s.onPair n f).stamp  = s.stamp  := (rfl)
@[simp] theorem State.onPair_upNs (n : Nat) (f : MbxPair → MbxPair)  (s : State) : (s.onPair n f).upNs  = s.upNs  := (rfl)
@[simp] theorem State.onPair_port (n : Nat) (f : MbxPair → MbxPair) (p' : Nat) (s : State) : (s.onPair n f).port p' = s.port p' := (rfl)
@[simp] theorem State.onPair_cell (n : Nat) (f : MbxPair → MbxPair) (c' : Nat) (s : State) : (s.onPair n f).cell c' = s.cell c' := (rfl)
@[simp] theorem State.onPair_ring (n : Nat) (f : MbxPair → MbxPair) (i' : Nat) (s : State) : (s.onPair n f).ring i' = s.ring i' := (rfl)
@[simp] theorem State.onPair_count (n : Nat) (f : MbxPair → MbxPair) (k' i' x' : Nat) (s : State) : (s.onPair n f).count k' i' x' = s.count k' i' x' := (rfl)
@[simp] theorem State.onPair_passed (n : Nat) (f : MbxPair → MbxPair) (t' d' : Nat) (s : State) : (s.onPair n f).passed t' d' = s.passed t' d' := (rfl)
@[simp] theorem State.onPair_causeOf (n : Nat) (f : MbxPair → MbxPair) (n' : Nat) (s : State) : (s.onPair n f).causeOf n' = s.causeOf n' := (rfl)
@[simp] theorem State.emit_now (o : Out)  (s : State) : (s.emit o).now  = s.now  := (rfl)
@[simp] theorem State.emit_stamp (o : Out)  (s : State) : (s.emit o).stamp  = s.stamp  := (rfl)
@[simp] theorem State.emit_upNs (o : Out)  (s : State) : (s.emit o).upNs  = s.upNs  := (rfl)
@[simp] theorem State.emit_port (o : Out) (p' : Nat) (s : State) : (s.emit o).port p' = s.port p' := (rfl)
@[simp] theorem State.emit_cell (o : Out) (c' : Nat) (s : State) : (s.emit o).cell c' = s.cell c' := (rfl)
@[simp] theorem State.emit_ring (o : Out) (i' : Nat) (s : State) : (s.emit o).ring i' = s.ring i' := (rfl)
@[simp] theorem State.emit_pair (o : Out) (n' : Nat) (s : State) : (s.emit o).pair n' = s.pair n' := (rfl)
@[simp] theorem State.emit_count (o : Out) (k' i' x' : Nat) (s : State) : (s.emit o).count k' i' x' = s.count k' i' x' := (rfl)
@[simp] theorem State.emit_passed (o : Out) (t' d' : Nat) (s : State) : (s.emit o).passed t' d' = s.passed t' d' := (rfl)
@[simp] theorem State.emit_sessionOpen (o : Out) (r' : Req) (s : State) : (s.emit o).sessionOpen r' = s.sessionOpen r' := (rfl)
@[simp] theorem State.emit_msixWord (o : Out) (k' : Nat) (s : State) : (s.emit o).msixWord k' = s.msixWord k' := (rfl)
@[simp] theorem State.emit_causeOf (o : Out) (n' : Nat) (s : State) : (s.emit o).causeOf n' = s.causeOf n' := (rfl)
@[simp] theorem State.bump_now (k i x n : Nat)  (s : State) : (s.bump k i x n).now  = s.now  := (rfl)
@[simp] theorem State.bump_stamp (k i x n : Nat)  (s : State) : (s.bump k i x n).stamp  = s.stamp  := (rfl)
@[simp] theorem State.bump_upNs (k i x n : Nat)  (s : State) : (s.bump k i x n).upNs  = s.upNs  := (rfl)
@[simp] theorem State.bump_port (k i x n : Nat) (p' : Nat) (s : State) : (s.bump k i x n).port p' = s.port p' := (rfl)
@[simp] theorem State.bump_cell (k i x n : Nat) (c' : Nat) (s : State) : (s.bump k i x n).cell c' = s.cell c' := (rfl)
@[simp] theorem State.bump_ring (k i x n : Nat) (i' : Nat) (s : State) : (s.bump k i x n).ring i' = s.ring i' := (rfl)
@[simp] theorem State.bump_pair (k i x n : Nat) (n' : Nat) (s : State) : (s.bump k i x n).pair n' = s.pair n' := (rfl)
@[simp] theorem State.bump_passed (k i x n : Nat) (t' d' : Nat) (s : State) : (s.bump k i x n).passed t' d' = s.passed t' d' := (rfl)
@[simp] theorem State.bump_sessionOpen (k i x n : Nat) (r' : Req) (s : State) : (s.bump k i x n).sessionOpen r' = s.sessionOpen r' := (rfl)
@[simp] theorem State.bump_msixWord (k i x n : Nat) (k' : Nat) (s : State) : (s.bump k i x n).msixWord k' = s.msixWord k' := (rfl)
@[simp] theorem State.bump_causeOf (k i x n : Nat) (n' : Nat) (s : State) : (s.bump k i x n).causeOf n' = s.causeOf n' := (rfl)

end Sys2Proof.Machine
end

