-- ==== Sys2Proof/Laws/Ops.lean ====
section
/-!
SUPPORT. What the shared operations of Machine/Ops.lean leave unchanged.
-/

namespace Sys2Proof.Machine

open Sys2Proof

/-- A fold keeps what each of its steps keeps. -/
theorem foldl_keeps {α β γ : Type} (g : α → γ) (f : α → β → α) (h : ∀ a x, g (f a x) = g a) (l : List β) (s : α) :
    g (l.foldl f s) = g s := by
  induction l generalizing s with
  | nil => rfl
  | cons x t ih => rw [List.foldl_cons, ih, h]

/-- A conditional update keeps what the update keeps. -/
theorem State.onIf_keeps {γ : Type} (g : State → γ) (b : Bool) (f : State → State) (s : State) (h : g (f s) = g s) :
    g (s.onIf b f) = g s := by
  cases b <;> simp [State.onIf, h]

/-! ## State.sendVector -/

@[simp] theorem State.sendVector_crn (v : Nat) (s : State) : (s.sendVector v).crn = s.crn := by
  dsimp only [State.sendVector]; (repeat' split) <;> simp
@[simp] theorem State.sendVector_sup (v : Nat) (s : State) : (s.sendVector v).sup = s.sup := by
  dsimp only [State.sendVector]; (repeat' split) <;> simp
@[simp] theorem State.sendVector_tim (v : Nat) (s : State) : (s.sendVector v).tim = s.tim := by
  dsimp only [State.sendVector]; (repeat' split) <;> simp
@[simp] theorem State.sendVector_flt (v : Nat) (s : State) : (s.sendVector v).flt = s.flt := by
  dsimp only [State.sendVector]; (repeat' split) <;> simp
@[simp] theorem State.sendVector_img (v : Nat) (s : State) : (s.sendVector v).img = s.img := by
  dsimp only [State.sendVector]; (repeat' split) <;> simp
@[simp] theorem State.sendVector_sec (v : Nat) (s : State) : (s.sendVector v).sec = s.sec := by
  dsimp only [State.sendVector]; (repeat' split) <;> simp
@[simp] theorem State.sendVector_stg (v : Nat) (s : State) : (s.sendVector v).stg = s.stg := by
  dsimp only [State.sendVector]; (repeat' split) <;> simp
@[simp] theorem State.sendVector_rng (v : Nat) (s : State) : (s.sendVector v).rng = s.rng := by
  dsimp only [State.sendVector]; (repeat' split) <;> simp
@[simp] theorem State.sendVector_bpm (v : Nat) (s : State) : (s.sendVector v).bpm = s.bpm := by
  dsimp only [State.sendVector]; (repeat' split) <;> simp
@[simp] theorem State.sendVector_pmu (v : Nat) (s : State) : (s.sendVector v).pmu = s.pmu := by
  dsimp only [State.sendVector]; (repeat' split) <;> simp
@[simp] theorem State.sendVector_prt (v : Nat) (s : State) : (s.sendVector v).prt = s.prt := by
  dsimp only [State.sendVector]; (repeat' split) <;> simp
@[simp] theorem State.sendVector_cel (v : Nat) (s : State) : (s.sendVector v).cel = s.cel := by
  dsimp only [State.sendVector]; (repeat' split) <;> simp
@[simp] theorem State.sendVector_frm (v : Nat) (s : State) : (s.sendVector v).frm = s.frm := by
  dsimp only [State.sendVector]; (repeat' split) <;> simp
@[simp] theorem State.sendVector_tbl (v : Nat) (s : State) : (s.sendVector v).tbl = s.tbl := by
  dsimp only [State.sendVector]; (repeat' split) <;> simp
@[simp] theorem State.sendVector_flo (v : Nat) (s : State) : (s.sendVector v).flo = s.flo := by
  dsimp only [State.sendVector]; (repeat' split) <;> simp
@[simp] theorem State.sendVector_prg (v : Nat) (s : State) : (s.sendVector v).prg = s.prg := by
  dsimp only [State.sendVector]; (repeat' split) <;> simp
@[simp] theorem State.sendVector_fab (v : Nat) (s : State) : (s.sendVector v).fab = s.fab := by
  dsimp only [State.sendVector]; (repeat' split) <;> simp
@[simp] theorem State.sendVector_egr (v : Nat) (s : State) : (s.sendVector v).egr = s.egr := by
  dsimp only [State.sendVector]; (repeat' split) <;> simp
@[simp] theorem State.sendVector_ctr (v : Nat) (s : State) : (s.sendVector v).ctr = s.ctr := by
  dsimp only [State.sendVector]; (repeat' split) <;> simp
@[simp] theorem State.sendVector_shadow (v : Nat) (s : State) : (s.sendVector v).shadow = s.shadow := by
  dsimp only [State.sendVector]; (repeat' split) <;> simp
@[simp] theorem State.sendVector_draw (v : Nat) (s : State) : (s.sendVector v).draw = s.draw := by
  dsimp only [State.sendVector]; (repeat' split) <;> simp
@[simp] theorem State.sendVector_pending (v : Nat) (s : State) : (s.sendVector v).pending = s.pending := by
  dsimp only [State.sendVector]; (repeat' split) <;> simp

/-! ## State.irq -/

@[simp] theorem State.irq_crn (n : Nat) (s : State) : (s.irq n).crn = s.crn := by
  dsimp only [State.irq]; (repeat' split) <;> simp
@[simp] theorem State.irq_sup (n : Nat) (s : State) : (s.irq n).sup = s.sup := by
  dsimp only [State.irq]; (repeat' split) <;> simp
@[simp] theorem State.irq_tim (n : Nat) (s : State) : (s.irq n).tim = s.tim := by
  dsimp only [State.irq]; (repeat' split) <;> simp
@[simp] theorem State.irq_flt (n : Nat) (s : State) : (s.irq n).flt = s.flt := by
  dsimp only [State.irq]; (repeat' split) <;> simp
@[simp] theorem State.irq_img (n : Nat) (s : State) : (s.irq n).img = s.img := by
  dsimp only [State.irq]; (repeat' split) <;> simp
@[simp] theorem State.irq_sec (n : Nat) (s : State) : (s.irq n).sec = s.sec := by
  dsimp only [State.irq]; (repeat' split) <;> simp
@[simp] theorem State.irq_stg (n : Nat) (s : State) : (s.irq n).stg = s.stg := by
  dsimp only [State.irq]; (repeat' split) <;> simp
@[simp] theorem State.irq_rng (n : Nat) (s : State) : (s.irq n).rng = s.rng := by
  dsimp only [State.irq]; (repeat' split) <;> simp
@[simp] theorem State.irq_bpm (n : Nat) (s : State) : (s.irq n).bpm = s.bpm := by
  dsimp only [State.irq]; (repeat' split) <;> simp
@[simp] theorem State.irq_pmu (n : Nat) (s : State) : (s.irq n).pmu = s.pmu := by
  dsimp only [State.irq]; (repeat' split) <;> simp
@[simp] theorem State.irq_prt (n : Nat) (s : State) : (s.irq n).prt = s.prt := by
  dsimp only [State.irq]; (repeat' split) <;> simp
@[simp] theorem State.irq_cel (n : Nat) (s : State) : (s.irq n).cel = s.cel := by
  dsimp only [State.irq]; (repeat' split) <;> simp
@[simp] theorem State.irq_frm (n : Nat) (s : State) : (s.irq n).frm = s.frm := by
  dsimp only [State.irq]; (repeat' split) <;> simp
@[simp] theorem State.irq_tbl (n : Nat) (s : State) : (s.irq n).tbl = s.tbl := by
  dsimp only [State.irq]; (repeat' split) <;> simp
@[simp] theorem State.irq_flo (n : Nat) (s : State) : (s.irq n).flo = s.flo := by
  dsimp only [State.irq]; (repeat' split) <;> simp
@[simp] theorem State.irq_prg (n : Nat) (s : State) : (s.irq n).prg = s.prg := by
  dsimp only [State.irq]; (repeat' split) <;> simp
@[simp] theorem State.irq_fab (n : Nat) (s : State) : (s.irq n).fab = s.fab := by
  dsimp only [State.irq]; (repeat' split) <;> simp
@[simp] theorem State.irq_egr (n : Nat) (s : State) : (s.irq n).egr = s.egr := by
  dsimp only [State.irq]; (repeat' split) <;> simp
@[simp] theorem State.irq_ctr (n : Nat) (s : State) : (s.irq n).ctr = s.ctr := by
  dsimp only [State.irq]; (repeat' split) <;> simp
@[simp] theorem State.irq_shadow (n : Nat) (s : State) : (s.irq n).shadow = s.shadow := by
  dsimp only [State.irq]; (repeat' split) <;> simp
@[simp] theorem State.irq_draw (n : Nat) (s : State) : (s.irq n).draw = s.draw := by
  dsimp only [State.irq]; (repeat' split) <;> simp
@[simp] theorem State.irq_pending (n : Nat) (s : State) : (s.irq n).pending = s.pending := by
  dsimp only [State.irq]; (repeat' split) <;> simp

/-! ## State.hostWrite -/

@[simp] theorem State.hostWrite_crn (a : Nat) (d : List Word) (s : State) : (s.hostWrite a d).crn = s.crn := by
  dsimp only [State.hostWrite]; (repeat' split) <;> simp
@[simp] theorem State.hostWrite_sup (a : Nat) (d : List Word) (s : State) : (s.hostWrite a d).sup = s.sup := by
  dsimp only [State.hostWrite]; (repeat' split) <;> simp
@[simp] theorem State.hostWrite_tim (a : Nat) (d : List Word) (s : State) : (s.hostWrite a d).tim = s.tim := by
  dsimp only [State.hostWrite]; (repeat' split) <;> simp
@[simp] theorem State.hostWrite_hif (a : Nat) (d : List Word) (s : State) : (s.hostWrite a d).hif = s.hif := by
  dsimp only [State.hostWrite]; (repeat' split) <;> simp
@[simp] theorem State.hostWrite_flt (a : Nat) (d : List Word) (s : State) : (s.hostWrite a d).flt = s.flt := by
  dsimp only [State.hostWrite]; (repeat' split) <;> simp
@[simp] theorem State.hostWrite_img (a : Nat) (d : List Word) (s : State) : (s.hostWrite a d).img = s.img := by
  dsimp only [State.hostWrite]; (repeat' split) <;> simp
@[simp] theorem State.hostWrite_sec (a : Nat) (d : List Word) (s : State) : (s.hostWrite a d).sec = s.sec := by
  dsimp only [State.hostWrite]; (repeat' split) <;> simp
@[simp] theorem State.hostWrite_stg (a : Nat) (d : List Word) (s : State) : (s.hostWrite a d).stg = s.stg := by
  dsimp only [State.hostWrite]; (repeat' split) <;> simp
@[simp] theorem State.hostWrite_rng (a : Nat) (d : List Word) (s : State) : (s.hostWrite a d).rng = s.rng := by
  dsimp only [State.hostWrite]; (repeat' split) <;> simp
@[simp] theorem State.hostWrite_bpm (a : Nat) (d : List Word) (s : State) : (s.hostWrite a d).bpm = s.bpm := by
  dsimp only [State.hostWrite]; (repeat' split) <;> simp
@[simp] theorem State.hostWrite_pmu (a : Nat) (d : List Word) (s : State) : (s.hostWrite a d).pmu = s.pmu := by
  dsimp only [State.hostWrite]; (repeat' split) <;> simp
@[simp] theorem State.hostWrite_prt (a : Nat) (d : List Word) (s : State) : (s.hostWrite a d).prt = s.prt := by
  dsimp only [State.hostWrite]; (repeat' split) <;> simp
@[simp] theorem State.hostWrite_cel (a : Nat) (d : List Word) (s : State) : (s.hostWrite a d).cel = s.cel := by
  dsimp only [State.hostWrite]; (repeat' split) <;> simp
@[simp] theorem State.hostWrite_frm (a : Nat) (d : List Word) (s : State) : (s.hostWrite a d).frm = s.frm := by
  dsimp only [State.hostWrite]; (repeat' split) <;> simp
@[simp] theorem State.hostWrite_tbl (a : Nat) (d : List Word) (s : State) : (s.hostWrite a d).tbl = s.tbl := by
  dsimp only [State.hostWrite]; (repeat' split) <;> simp
@[simp] theorem State.hostWrite_flo (a : Nat) (d : List Word) (s : State) : (s.hostWrite a d).flo = s.flo := by
  dsimp only [State.hostWrite]; (repeat' split) <;> simp
@[simp] theorem State.hostWrite_prg (a : Nat) (d : List Word) (s : State) : (s.hostWrite a d).prg = s.prg := by
  dsimp only [State.hostWrite]; (repeat' split) <;> simp
@[simp] theorem State.hostWrite_fab (a : Nat) (d : List Word) (s : State) : (s.hostWrite a d).fab = s.fab := by
  dsimp only [State.hostWrite]; (repeat' split) <;> simp
@[simp] theorem State.hostWrite_egr (a : Nat) (d : List Word) (s : State) : (s.hostWrite a d).egr = s.egr := by
  dsimp only [State.hostWrite]; (repeat' split) <;> simp
@[simp] theorem State.hostWrite_ctr (a : Nat) (d : List Word) (s : State) : (s.hostWrite a d).ctr = s.ctr := by
  dsimp only [State.hostWrite]; (repeat' split) <;> simp
@[simp] theorem State.hostWrite_shadow (a : Nat) (d : List Word) (s : State) : (s.hostWrite a d).shadow = s.shadow := by
  dsimp only [State.hostWrite]; (repeat' split) <;> simp
@[simp] theorem State.hostWrite_draw (a : Nat) (d : List Word) (s : State) : (s.hostWrite a d).draw = s.draw := by
  dsimp only [State.hostWrite]; (repeat' split) <;> simp
@[simp] theorem State.hostWrite_pending (a : Nat) (d : List Word) (s : State) : (s.hostWrite a d).pending = s.pending := by
  dsimp only [State.hostWrite]; (repeat' split) <;> simp

/-! ## State.signalRing -/

@[simp] theorem State.signalRing_crn (i : Nat) (s : State) : (s.signalRing i).crn = s.crn := by
  dsimp only [State.signalRing]; (repeat' split) <;> simp
@[simp] theorem State.signalRing_sup (i : Nat) (s : State) : (s.signalRing i).sup = s.sup := by
  dsimp only [State.signalRing]; (repeat' split) <;> simp
@[simp] theorem State.signalRing_tim (i : Nat) (s : State) : (s.signalRing i).tim = s.tim := by
  dsimp only [State.signalRing]; (repeat' split) <;> simp
@[simp] theorem State.signalRing_flt (i : Nat) (s : State) : (s.signalRing i).flt = s.flt := by
  dsimp only [State.signalRing]; (repeat' split) <;> simp
@[simp] theorem State.signalRing_img (i : Nat) (s : State) : (s.signalRing i).img = s.img := by
  dsimp only [State.signalRing]; (repeat' split) <;> simp
@[simp] theorem State.signalRing_sec (i : Nat) (s : State) : (s.signalRing i).sec = s.sec := by
  dsimp only [State.signalRing]; (repeat' split) <;> simp
@[simp] theorem State.signalRing_stg (i : Nat) (s : State) : (s.signalRing i).stg = s.stg := by
  dsimp only [State.signalRing]; (repeat' split) <;> simp
@[simp] theorem State.signalRing_bpm (i : Nat) (s : State) : (s.signalRing i).bpm = s.bpm := by
  dsimp only [State.signalRing]; (repeat' split) <;> simp
@[simp] theorem State.signalRing_pmu (i : Nat) (s : State) : (s.signalRing i).pmu = s.pmu := by
  dsimp only [State.signalRing]; (repeat' split) <;> simp
@[simp] theorem State.signalRing_prt (i : Nat) (s : State) : (s.signalRing i).prt = s.prt := by
  dsimp only [State.signalRing]; (repeat' split) <;> simp
@[simp] theorem State.signalRing_cel (i : Nat) (s : State) : (s.signalRing i).cel = s.cel := by
  dsimp only [State.signalRing]; (repeat' split) <;> simp
@[simp] theorem State.signalRing_frm (i : Nat) (s : State) : (s.signalRing i).frm = s.frm := by
  dsimp only [State.signalRing]; (repeat' split) <;> simp
@[simp] theorem State.signalRing_tbl (i : Nat) (s : State) : (s.signalRing i).tbl = s.tbl := by
  dsimp only [State.signalRing]; (repeat' split) <;> simp
@[simp] theorem State.signalRing_flo (i : Nat) (s : State) : (s.signalRing i).flo = s.flo := by
  dsimp only [State.signalRing]; (repeat' split) <;> simp
@[simp] theorem State.signalRing_prg (i : Nat) (s : State) : (s.signalRing i).prg = s.prg := by
  dsimp only [State.signalRing]; (repeat' split) <;> simp
@[simp] theorem State.signalRing_fab (i : Nat) (s : State) : (s.signalRing i).fab = s.fab := by
  dsimp only [State.signalRing]; (repeat' split) <;> simp
@[simp] theorem State.signalRing_egr (i : Nat) (s : State) : (s.signalRing i).egr = s.egr := by
  dsimp only [State.signalRing]; (repeat' split) <;> simp
@[simp] theorem State.signalRing_ctr (i : Nat) (s : State) : (s.signalRing i).ctr = s.ctr := by
  dsimp only [State.signalRing]; (repeat' split) <;> simp
@[simp] theorem State.signalRing_shadow (i : Nat) (s : State) : (s.signalRing i).shadow = s.shadow := by
  dsimp only [State.signalRing]; (repeat' split) <;> simp
@[simp] theorem State.signalRing_draw (i : Nat) (s : State) : (s.signalRing i).draw = s.draw := by
  dsimp only [State.signalRing]; (repeat' split) <;> simp
@[simp] theorem State.signalRing_pending (i : Nat) (s : State) : (s.signalRing i).pending = s.pending := by
  dsimp only [State.signalRing]; (repeat' split) <;> simp

/-! ## State.writeEntry -/

@[simp] theorem State.writeEntry_crn (i z : Nat) (e : List Word) (s : State) : (s.writeEntry i z e).crn = s.crn := by simp [State.writeEntry]
@[simp] theorem State.writeEntry_sup (i z : Nat) (e : List Word) (s : State) : (s.writeEntry i z e).sup = s.sup := by simp [State.writeEntry]
@[simp] theorem State.writeEntry_tim (i z : Nat) (e : List Word) (s : State) : (s.writeEntry i z e).tim = s.tim := by simp [State.writeEntry]
@[simp] theorem State.writeEntry_flt (i z : Nat) (e : List Word) (s : State) : (s.writeEntry i z e).flt = s.flt := by simp [State.writeEntry]
@[simp] theorem State.writeEntry_img (i z : Nat) (e : List Word) (s : State) : (s.writeEntry i z e).img = s.img := by simp [State.writeEntry]
@[simp] theorem State.writeEntry_sec (i z : Nat) (e : List Word) (s : State) : (s.writeEntry i z e).sec = s.sec := by simp [State.writeEntry]
@[simp] theorem State.writeEntry_stg (i z : Nat) (e : List Word) (s : State) : (s.writeEntry i z e).stg = s.stg := by simp [State.writeEntry]
@[simp] theorem State.writeEntry_bpm (i z : Nat) (e : List Word) (s : State) : (s.writeEntry i z e).bpm = s.bpm := by simp [State.writeEntry]
@[simp] theorem State.writeEntry_pmu (i z : Nat) (e : List Word) (s : State) : (s.writeEntry i z e).pmu = s.pmu := by simp [State.writeEntry]
@[simp] theorem State.writeEntry_prt (i z : Nat) (e : List Word) (s : State) : (s.writeEntry i z e).prt = s.prt := by simp [State.writeEntry]
@[simp] theorem State.writeEntry_cel (i z : Nat) (e : List Word) (s : State) : (s.writeEntry i z e).cel = s.cel := by simp [State.writeEntry]
@[simp] theorem State.writeEntry_frm (i z : Nat) (e : List Word) (s : State) : (s.writeEntry i z e).frm = s.frm := by simp [State.writeEntry]
@[simp] theorem State.writeEntry_tbl (i z : Nat) (e : List Word) (s : State) : (s.writeEntry i z e).tbl = s.tbl := by simp [State.writeEntry]
@[simp] theorem State.writeEntry_flo (i z : Nat) (e : List Word) (s : State) : (s.writeEntry i z e).flo = s.flo := by simp [State.writeEntry]
@[simp] theorem State.writeEntry_prg (i z : Nat) (e : List Word) (s : State) : (s.writeEntry i z e).prg = s.prg := by simp [State.writeEntry]
@[simp] theorem State.writeEntry_fab (i z : Nat) (e : List Word) (s : State) : (s.writeEntry i z e).fab = s.fab := by simp [State.writeEntry]
@[simp] theorem State.writeEntry_egr (i z : Nat) (e : List Word) (s : State) : (s.writeEntry i z e).egr = s.egr := by simp [State.writeEntry]
@[simp] theorem State.writeEntry_ctr (i z : Nat) (e : List Word) (s : State) : (s.writeEntry i z e).ctr = s.ctr := by simp [State.writeEntry]
@[simp] theorem State.writeEntry_shadow (i z : Nat) (e : List Word) (s : State) : (s.writeEntry i z e).shadow = s.shadow := by simp [State.writeEntry]
@[simp] theorem State.writeEntry_draw (i z : Nat) (e : List Word) (s : State) : (s.writeEntry i z e).draw = s.draw := by simp [State.writeEntry]
@[simp] theorem State.writeEntry_pending (i z : Nat) (e : List Word) (s : State) : (s.writeEntry i z e).pending = s.pending := by simp [State.writeEntry]

/-! ## State.writeEvent -/

@[simp] theorem State.writeEvent_crn (i : Nat) (e : List Word) (s : State) : (s.writeEvent i e).crn = s.crn := by simp [State.writeEvent]
@[simp] theorem State.writeEvent_sup (i : Nat) (e : List Word) (s : State) : (s.writeEvent i e).sup = s.sup := by simp [State.writeEvent]
@[simp] theorem State.writeEvent_tim (i : Nat) (e : List Word) (s : State) : (s.writeEvent i e).tim = s.tim := by simp [State.writeEvent]
@[simp] theorem State.writeEvent_flt (i : Nat) (e : List Word) (s : State) : (s.writeEvent i e).flt = s.flt := by simp [State.writeEvent]
@[simp] theorem State.writeEvent_img (i : Nat) (e : List Word) (s : State) : (s.writeEvent i e).img = s.img := by simp [State.writeEvent]
@[simp] theorem State.writeEvent_sec (i : Nat) (e : List Word) (s : State) : (s.writeEvent i e).sec = s.sec := by simp [State.writeEvent]
@[simp] theorem State.writeEvent_stg (i : Nat) (e : List Word) (s : State) : (s.writeEvent i e).stg = s.stg := by simp [State.writeEvent]
@[simp] theorem State.writeEvent_bpm (i : Nat) (e : List Word) (s : State) : (s.writeEvent i e).bpm = s.bpm := by simp [State.writeEvent]
@[simp] theorem State.writeEvent_pmu (i : Nat) (e : List Word) (s : State) : (s.writeEvent i e).pmu = s.pmu := by simp [State.writeEvent]
@[simp] theorem State.writeEvent_prt (i : Nat) (e : List Word) (s : State) : (s.writeEvent i e).prt = s.prt := by simp [State.writeEvent]
@[simp] theorem State.writeEvent_cel (i : Nat) (e : List Word) (s : State) : (s.writeEvent i e).cel = s.cel := by simp [State.writeEvent]
@[simp] theorem State.writeEvent_frm (i : Nat) (e : List Word) (s : State) : (s.writeEvent i e).frm = s.frm := by simp [State.writeEvent]
@[simp] theorem State.writeEvent_tbl (i : Nat) (e : List Word) (s : State) : (s.writeEvent i e).tbl = s.tbl := by simp [State.writeEvent]
@[simp] theorem State.writeEvent_flo (i : Nat) (e : List Word) (s : State) : (s.writeEvent i e).flo = s.flo := by simp [State.writeEvent]
@[simp] theorem State.writeEvent_prg (i : Nat) (e : List Word) (s : State) : (s.writeEvent i e).prg = s.prg := by simp [State.writeEvent]
@[simp] theorem State.writeEvent_fab (i : Nat) (e : List Word) (s : State) : (s.writeEvent i e).fab = s.fab := by simp [State.writeEvent]
@[simp] theorem State.writeEvent_egr (i : Nat) (e : List Word) (s : State) : (s.writeEvent i e).egr = s.egr := by simp [State.writeEvent]
@[simp] theorem State.writeEvent_ctr (i : Nat) (e : List Word) (s : State) : (s.writeEvent i e).ctr = s.ctr := by simp [State.writeEvent]
@[simp] theorem State.writeEvent_shadow (i : Nat) (e : List Word) (s : State) : (s.writeEvent i e).shadow = s.shadow := by simp [State.writeEvent]
@[simp] theorem State.writeEvent_draw (i : Nat) (e : List Word) (s : State) : (s.writeEvent i e).draw = s.draw := by simp [State.writeEvent]
@[simp] theorem State.writeEvent_pending (i : Nat) (e : List Word) (s : State) : (s.writeEvent i e).pending = s.pending := by simp [State.writeEvent]

/-! ## State.pushEvent -/

@[simp] theorem State.pushEvent_crn (k c i t : Nat) (b : List Word) (own : Bool) (s : State) : (s.pushEvent k c i t b own).crn = s.crn := by
  dsimp only [State.pushEvent]; (repeat' split) <;> simp
@[simp] theorem State.pushEvent_sup (k c i t : Nat) (b : List Word) (own : Bool) (s : State) : (s.pushEvent k c i t b own).sup = s.sup := by
  dsimp only [State.pushEvent]; (repeat' split) <;> simp
@[simp] theorem State.pushEvent_tim (k c i t : Nat) (b : List Word) (own : Bool) (s : State) : (s.pushEvent k c i t b own).tim = s.tim := by
  dsimp only [State.pushEvent]; (repeat' split) <;> simp
@[simp] theorem State.pushEvent_flt (k c i t : Nat) (b : List Word) (own : Bool) (s : State) : (s.pushEvent k c i t b own).flt = s.flt := by
  dsimp only [State.pushEvent]; (repeat' split) <;> simp
@[simp] theorem State.pushEvent_img (k c i t : Nat) (b : List Word) (own : Bool) (s : State) : (s.pushEvent k c i t b own).img = s.img := by
  dsimp only [State.pushEvent]; (repeat' split) <;> simp
@[simp] theorem State.pushEvent_sec (k c i t : Nat) (b : List Word) (own : Bool) (s : State) : (s.pushEvent k c i t b own).sec = s.sec := by
  dsimp only [State.pushEvent]; (repeat' split) <;> simp
@[simp] theorem State.pushEvent_stg (k c i t : Nat) (b : List Word) (own : Bool) (s : State) : (s.pushEvent k c i t b own).stg = s.stg := by
  dsimp only [State.pushEvent]; (repeat' split) <;> simp
@[simp] theorem State.pushEvent_bpm (k c i t : Nat) (b : List Word) (own : Bool) (s : State) : (s.pushEvent k c i t b own).bpm = s.bpm := by
  dsimp only [State.pushEvent]; (repeat' split) <;> simp
@[simp] theorem State.pushEvent_pmu (k c i t : Nat) (b : List Word) (own : Bool) (s : State) : (s.pushEvent k c i t b own).pmu = s.pmu := by
  dsimp only [State.pushEvent]; (repeat' split) <;> simp
@[simp] theorem State.pushEvent_prt (k c i t : Nat) (b : List Word) (own : Bool) (s : State) : (s.pushEvent k c i t b own).prt = s.prt := by
  dsimp only [State.pushEvent]; (repeat' split) <;> simp
@[simp] theorem State.pushEvent_cel (k c i t : Nat) (b : List Word) (own : Bool) (s : State) : (s.pushEvent k c i t b own).cel = s.cel := by
  dsimp only [State.pushEvent]; (repeat' split) <;> simp
@[simp] theorem State.pushEvent_frm (k c i t : Nat) (b : List Word) (own : Bool) (s : State) : (s.pushEvent k c i t b own).frm = s.frm := by
  dsimp only [State.pushEvent]; (repeat' split) <;> simp
@[simp] theorem State.pushEvent_tbl (k c i t : Nat) (b : List Word) (own : Bool) (s : State) : (s.pushEvent k c i t b own).tbl = s.tbl := by
  dsimp only [State.pushEvent]; (repeat' split) <;> simp
@[simp] theorem State.pushEvent_flo (k c i t : Nat) (b : List Word) (own : Bool) (s : State) : (s.pushEvent k c i t b own).flo = s.flo := by
  dsimp only [State.pushEvent]; (repeat' split) <;> simp
@[simp] theorem State.pushEvent_prg (k c i t : Nat) (b : List Word) (own : Bool) (s : State) : (s.pushEvent k c i t b own).prg = s.prg := by
  dsimp only [State.pushEvent]; (repeat' split) <;> simp
@[simp] theorem State.pushEvent_fab (k c i t : Nat) (b : List Word) (own : Bool) (s : State) : (s.pushEvent k c i t b own).fab = s.fab := by
  dsimp only [State.pushEvent]; (repeat' split) <;> simp
@[simp] theorem State.pushEvent_egr (k c i t : Nat) (b : List Word) (own : Bool) (s : State) : (s.pushEvent k c i t b own).egr = s.egr := by
  dsimp only [State.pushEvent]; (repeat' split) <;> simp
@[simp] theorem State.pushEvent_ctr (k c i t : Nat) (b : List Word) (own : Bool) (s : State) : (s.pushEvent k c i t b own).ctr = s.ctr := by
  dsimp only [State.pushEvent]; (repeat' split) <;> simp
@[simp] theorem State.pushEvent_shadow (k c i t : Nat) (b : List Word) (own : Bool) (s : State) : (s.pushEvent k c i t b own).shadow = s.shadow := by
  dsimp only [State.pushEvent]; (repeat' split) <;> simp
@[simp] theorem State.pushEvent_draw (k c i t : Nat) (b : List Word) (own : Bool) (s : State) : (s.pushEvent k c i t b own).draw = s.draw := by
  dsimp only [State.pushEvent]; (repeat' split) <;> simp
@[simp] theorem State.pushEvent_pending (k c i t : Nat) (b : List Word) (own : Bool) (s : State) : (s.pushEvent k c i t b own).pending = s.pending := by
  dsimp only [State.pushEvent]; (repeat' split) <;> simp

/-! ## State.raise -/

@[simp] theorem State.raise_crn (e : Ev) (s : State) : (s.raise e).crn = s.crn := by
  dsimp only [State.raise]; (repeat' split) <;> simp
@[simp] theorem State.raise_sup (e : Ev) (s : State) : (s.raise e).sup = s.sup := by
  dsimp only [State.raise]; (repeat' split) <;> simp
@[simp] theorem State.raise_tim (e : Ev) (s : State) : (s.raise e).tim = s.tim := by
  dsimp only [State.raise]; (repeat' split) <;> simp
@[simp] theorem State.raise_hif (e : Ev) (s : State) : (s.raise e).hif = s.hif := by
  dsimp only [State.raise]; (repeat' split) <;> simp
@[simp] theorem State.raise_img (e : Ev) (s : State) : (s.raise e).img = s.img := by
  dsimp only [State.raise]; (repeat' split) <;> simp
@[simp] theorem State.raise_sec (e : Ev) (s : State) : (s.raise e).sec = s.sec := by
  dsimp only [State.raise]; (repeat' split) <;> simp
@[simp] theorem State.raise_stg (e : Ev) (s : State) : (s.raise e).stg = s.stg := by
  dsimp only [State.raise]; (repeat' split) <;> simp
@[simp] theorem State.raise_rng (e : Ev) (s : State) : (s.raise e).rng = s.rng := by
  dsimp only [State.raise]; (repeat' split) <;> simp
@[simp] theorem State.raise_bpm (e : Ev) (s : State) : (s.raise e).bpm = s.bpm := by
  dsimp only [State.raise]; (repeat' split) <;> simp
@[simp] theorem State.raise_pmu (e : Ev) (s : State) : (s.raise e).pmu = s.pmu := by
  dsimp only [State.raise]; (repeat' split) <;> simp
@[simp] theorem State.raise_prt (e : Ev) (s : State) : (s.raise e).prt = s.prt := by
  dsimp only [State.raise]; (repeat' split) <;> simp
@[simp] theorem State.raise_cel (e : Ev) (s : State) : (s.raise e).cel = s.cel := by
  dsimp only [State.raise]; (repeat' split) <;> simp
@[simp] theorem State.raise_frm (e : Ev) (s : State) : (s.raise e).frm = s.frm := by
  dsimp only [State.raise]; (repeat' split) <;> simp
@[simp] theorem State.raise_tbl (e : Ev) (s : State) : (s.raise e).tbl = s.tbl := by
  dsimp only [State.raise]; (repeat' split) <;> simp
@[simp] theorem State.raise_flo (e : Ev) (s : State) : (s.raise e).flo = s.flo := by
  dsimp only [State.raise]; (repeat' split) <;> simp
@[simp] theorem State.raise_prg (e : Ev) (s : State) : (s.raise e).prg = s.prg := by
  dsimp only [State.raise]; (repeat' split) <;> simp
@[simp] theorem State.raise_fab (e : Ev) (s : State) : (s.raise e).fab = s.fab := by
  dsimp only [State.raise]; (repeat' split) <;> simp
@[simp] theorem State.raise_egr (e : Ev) (s : State) : (s.raise e).egr = s.egr := by
  dsimp only [State.raise]; (repeat' split) <;> simp
@[simp] theorem State.raise_ctr (e : Ev) (s : State) : (s.raise e).ctr = s.ctr := by
  dsimp only [State.raise]; (repeat' split) <;> simp
@[simp] theorem State.raise_shadow (e : Ev) (s : State) : (s.raise e).shadow = s.shadow := by
  dsimp only [State.raise]; (repeat' split) <;> simp
@[simp] theorem State.raise_out (e : Ev) (s : State) : (s.raise e).out = s.out := by
  dsimp only [State.raise]; (repeat' split) <;> simp
@[simp] theorem State.raise_draw (e : Ev) (s : State) : (s.raise e).draw = s.draw := by
  dsimp only [State.raise]; (repeat' split) <;> simp
@[simp] theorem State.raise_pending (e : Ev) (s : State) : (s.raise e).pending = s.pending := by
  dsimp only [State.raise]; (repeat' split) <;> simp

/-! ## State.raiseByCore -/

@[simp] theorem State.raiseByCore_crn (e : Ev) (s : State) : (s.raiseByCore e).crn = s.crn := by simp [State.raiseByCore]
@[simp] theorem State.raiseByCore_sup (e : Ev) (s : State) : (s.raiseByCore e).sup = s.sup := by simp [State.raiseByCore]
@[simp] theorem State.raiseByCore_tim (e : Ev) (s : State) : (s.raiseByCore e).tim = s.tim := by simp [State.raiseByCore]
@[simp] theorem State.raiseByCore_hif (e : Ev) (s : State) : (s.raiseByCore e).hif = s.hif := by simp [State.raiseByCore]
@[simp] theorem State.raiseByCore_img (e : Ev) (s : State) : (s.raiseByCore e).img = s.img := by simp [State.raiseByCore]
@[simp] theorem State.raiseByCore_sec (e : Ev) (s : State) : (s.raiseByCore e).sec = s.sec := by simp [State.raiseByCore]
@[simp] theorem State.raiseByCore_stg (e : Ev) (s : State) : (s.raiseByCore e).stg = s.stg := by simp [State.raiseByCore]
@[simp] theorem State.raiseByCore_rng (e : Ev) (s : State) : (s.raiseByCore e).rng = s.rng := by simp [State.raiseByCore]
@[simp] theorem State.raiseByCore_bpm (e : Ev) (s : State) : (s.raiseByCore e).bpm = s.bpm := by simp [State.raiseByCore]
@[simp] theorem State.raiseByCore_pmu (e : Ev) (s : State) : (s.raiseByCore e).pmu = s.pmu := by simp [State.raiseByCore]
@[simp] theorem State.raiseByCore_prt (e : Ev) (s : State) : (s.raiseByCore e).prt = s.prt := by simp [State.raiseByCore]
@[simp] theorem State.raiseByCore_cel (e : Ev) (s : State) : (s.raiseByCore e).cel = s.cel := by simp [State.raiseByCore]
@[simp] theorem State.raiseByCore_frm (e : Ev) (s : State) : (s.raiseByCore e).frm = s.frm := by simp [State.raiseByCore]
@[simp] theorem State.raiseByCore_tbl (e : Ev) (s : State) : (s.raiseByCore e).tbl = s.tbl := by simp [State.raiseByCore]
@[simp] theorem State.raiseByCore_flo (e : Ev) (s : State) : (s.raiseByCore e).flo = s.flo := by simp [State.raiseByCore]
@[simp] theorem State.raiseByCore_prg (e : Ev) (s : State) : (s.raiseByCore e).prg = s.prg := by simp [State.raiseByCore]
@[simp] theorem State.raiseByCore_fab (e : Ev) (s : State) : (s.raiseByCore e).fab = s.fab := by simp [State.raiseByCore]
@[simp] theorem State.raiseByCore_egr (e : Ev) (s : State) : (s.raiseByCore e).egr = s.egr := by simp [State.raiseByCore]
@[simp] theorem State.raiseByCore_ctr (e : Ev) (s : State) : (s.raiseByCore e).ctr = s.ctr := by simp [State.raiseByCore]
@[simp] theorem State.raiseByCore_shadow (e : Ev) (s : State) : (s.raiseByCore e).shadow = s.shadow := by simp [State.raiseByCore]
@[simp] theorem State.raiseByCore_out (e : Ev) (s : State) : (s.raiseByCore e).out = s.out := by simp [State.raiseByCore]
@[simp] theorem State.raiseByCore_pending (e : Ev) (s : State) : (s.raiseByCore e).pending = s.pending := by simp [State.raiseByCore]

/-! ## State.endLive -/

@[simp] theorem State.endLive_crn (a b : Nat) (s : State) : (s.endLive a b).crn = s.crn := by
  dsimp only [State.endLive]; (repeat' split) <;> simp
@[simp] theorem State.endLive_sup (a b : Nat) (s : State) : (s.endLive a b).sup = s.sup := by
  dsimp only [State.endLive]; (repeat' split) <;> simp
@[simp] theorem State.endLive_tim (a b : Nat) (s : State) : (s.endLive a b).tim = s.tim := by
  dsimp only [State.endLive]; (repeat' split) <;> simp
@[simp] theorem State.endLive_hif (a b : Nat) (s : State) : (s.endLive a b).hif = s.hif := by
  dsimp only [State.endLive]; (repeat' split) <;> simp
@[simp] theorem State.endLive_img (a b : Nat) (s : State) : (s.endLive a b).img = s.img := by
  dsimp only [State.endLive]; (repeat' split) <;> simp
@[simp] theorem State.endLive_sec (a b : Nat) (s : State) : (s.endLive a b).sec = s.sec := by
  dsimp only [State.endLive]; (repeat' split) <;> simp
@[simp] theorem State.endLive_stg (a b : Nat) (s : State) : (s.endLive a b).stg = s.stg := by
  dsimp only [State.endLive]; (repeat' split) <;> simp
@[simp] theorem State.endLive_rng (a b : Nat) (s : State) : (s.endLive a b).rng = s.rng := by
  dsimp only [State.endLive]; (repeat' split) <;> simp
@[simp] theorem State.endLive_bpm (a b : Nat) (s : State) : (s.endLive a b).bpm = s.bpm := by
  dsimp only [State.endLive]; (repeat' split) <;> simp
@[simp] theorem State.endLive_pmu (a b : Nat) (s : State) : (s.endLive a b).pmu = s.pmu := by
  dsimp only [State.endLive]; (repeat' split) <;> simp
@[simp] theorem State.endLive_prt (a b : Nat) (s : State) : (s.endLive a b).prt = s.prt := by
  dsimp only [State.endLive]; (repeat' split) <;> simp
@[simp] theorem State.endLive_cel (a b : Nat) (s : State) : (s.endLive a b).cel = s.cel := by
  dsimp only [State.endLive]; (repeat' split) <;> simp
@[simp] theorem State.endLive_frm (a b : Nat) (s : State) : (s.endLive a b).frm = s.frm := by
  dsimp only [State.endLive]; (repeat' split) <;> simp
@[simp] theorem State.endLive_tbl (a b : Nat) (s : State) : (s.endLive a b).tbl = s.tbl := by
  dsimp only [State.endLive]; (repeat' split) <;> simp
@[simp] theorem State.endLive_flo (a b : Nat) (s : State) : (s.endLive a b).flo = s.flo := by
  dsimp only [State.endLive]; (repeat' split) <;> simp
@[simp] theorem State.endLive_prg (a b : Nat) (s : State) : (s.endLive a b).prg = s.prg := by
  dsimp only [State.endLive]; (repeat' split) <;> simp
@[simp] theorem State.endLive_fab (a b : Nat) (s : State) : (s.endLive a b).fab = s.fab := by
  dsimp only [State.endLive]; (repeat' split) <;> simp
@[simp] theorem State.endLive_egr (a b : Nat) (s : State) : (s.endLive a b).egr = s.egr := by
  dsimp only [State.endLive]; (repeat' split) <;> simp
@[simp] theorem State.endLive_ctr (a b : Nat) (s : State) : (s.endLive a b).ctr = s.ctr := by
  dsimp only [State.endLive]; (repeat' split) <;> simp
@[simp] theorem State.endLive_shadow (a b : Nat) (s : State) : (s.endLive a b).shadow = s.shadow := by
  dsimp only [State.endLive]; (repeat' split) <;> simp
@[simp] theorem State.endLive_out (a b : Nat) (s : State) : (s.endLive a b).out = s.out := by
  dsimp only [State.endLive]; (repeat' split) <;> simp
@[simp] theorem State.endLive_draw (a b : Nat) (s : State) : (s.endLive a b).draw = s.draw := by
  dsimp only [State.endLive]; (repeat' split) <;> simp
@[simp] theorem State.endLive_pending (a b : Nat) (s : State) : (s.endLive a b).pending = s.pending := by
  dsimp only [State.endLive]; (repeat' split) <;> simp

/-! ## State.noteEvt -/

@[simp] theorem State.noteEvt_crn (a : Nat) (s : State) : (s.noteEvt a).crn = s.crn := by simp [State.noteEvt]
@[simp] theorem State.noteEvt_sup (a : Nat) (s : State) : (s.noteEvt a).sup = s.sup := by simp [State.noteEvt]
@[simp] theorem State.noteEvt_tim (a : Nat) (s : State) : (s.noteEvt a).tim = s.tim := by simp [State.noteEvt]
@[simp] theorem State.noteEvt_hif (a : Nat) (s : State) : (s.noteEvt a).hif = s.hif := by simp [State.noteEvt]
@[simp] theorem State.noteEvt_img (a : Nat) (s : State) : (s.noteEvt a).img = s.img := by simp [State.noteEvt]
@[simp] theorem State.noteEvt_sec (a : Nat) (s : State) : (s.noteEvt a).sec = s.sec := by simp [State.noteEvt]
@[simp] theorem State.noteEvt_stg (a : Nat) (s : State) : (s.noteEvt a).stg = s.stg := by simp [State.noteEvt]
@[simp] theorem State.noteEvt_rng (a : Nat) (s : State) : (s.noteEvt a).rng = s.rng := by simp [State.noteEvt]
@[simp] theorem State.noteEvt_bpm (a : Nat) (s : State) : (s.noteEvt a).bpm = s.bpm := by simp [State.noteEvt]
@[simp] theorem State.noteEvt_pmu (a : Nat) (s : State) : (s.noteEvt a).pmu = s.pmu := by simp [State.noteEvt]
@[simp] theorem State.noteEvt_prt (a : Nat) (s : State) : (s.noteEvt a).prt = s.prt := by simp [State.noteEvt]
@[simp] theorem State.noteEvt_cel (a : Nat) (s : State) : (s.noteEvt a).cel = s.cel := by simp [State.noteEvt]
@[simp] theorem State.noteEvt_frm (a : Nat) (s : State) : (s.noteEvt a).frm = s.frm := by simp [State.noteEvt]
@[simp] theorem State.noteEvt_tbl (a : Nat) (s : State) : (s.noteEvt a).tbl = s.tbl := by simp [State.noteEvt]
@[simp] theorem State.noteEvt_flo (a : Nat) (s : State) : (s.noteEvt a).flo = s.flo := by simp [State.noteEvt]
@[simp] theorem State.noteEvt_prg (a : Nat) (s : State) : (s.noteEvt a).prg = s.prg := by simp [State.noteEvt]
@[simp] theorem State.noteEvt_fab (a : Nat) (s : State) : (s.noteEvt a).fab = s.fab := by simp [State.noteEvt]
@[simp] theorem State.noteEvt_egr (a : Nat) (s : State) : (s.noteEvt a).egr = s.egr := by simp [State.noteEvt]
@[simp] theorem State.noteEvt_ctr (a : Nat) (s : State) : (s.noteEvt a).ctr = s.ctr := by simp [State.noteEvt]
@[simp] theorem State.noteEvt_shadow (a : Nat) (s : State) : (s.noteEvt a).shadow = s.shadow := by simp [State.noteEvt]
@[simp] theorem State.noteEvt_out (a : Nat) (s : State) : (s.noteEvt a).out = s.out := by simp [State.noteEvt]
@[simp] theorem State.noteEvt_draw (a : Nat) (s : State) : (s.noteEvt a).draw = s.draw := by simp [State.noteEvt]
@[simp] theorem State.noteEvt_pending (a : Nat) (s : State) : (s.noteEvt a).pending = s.pending := by simp [State.noteEvt]

/-! ## State.kindEvent -/

@[simp] theorem State.kindEvent_crn (k c i : Nat) (b : List Word) (own : Bool) (s : State) : (s.kindEvent k c i b own).crn = s.crn := by simp [State.kindEvent]
@[simp] theorem State.kindEvent_sup (k c i : Nat) (b : List Word) (own : Bool) (s : State) : (s.kindEvent k c i b own).sup = s.sup := by simp [State.kindEvent]
@[simp] theorem State.kindEvent_tim (k c i : Nat) (b : List Word) (own : Bool) (s : State) : (s.kindEvent k c i b own).tim = s.tim := by simp [State.kindEvent]
@[simp] theorem State.kindEvent_img (k c i : Nat) (b : List Word) (own : Bool) (s : State) : (s.kindEvent k c i b own).img = s.img := by simp [State.kindEvent]
@[simp] theorem State.kindEvent_sec (k c i : Nat) (b : List Word) (own : Bool) (s : State) : (s.kindEvent k c i b own).sec = s.sec := by simp [State.kindEvent]
@[simp] theorem State.kindEvent_stg (k c i : Nat) (b : List Word) (own : Bool) (s : State) : (s.kindEvent k c i b own).stg = s.stg := by simp [State.kindEvent]
@[simp] theorem State.kindEvent_bpm (k c i : Nat) (b : List Word) (own : Bool) (s : State) : (s.kindEvent k c i b own).bpm = s.bpm := by simp [State.kindEvent]
@[simp] theorem State.kindEvent_pmu (k c i : Nat) (b : List Word) (own : Bool) (s : State) : (s.kindEvent k c i b own).pmu = s.pmu := by simp [State.kindEvent]
@[simp] theorem State.kindEvent_prt (k c i : Nat) (b : List Word) (own : Bool) (s : State) : (s.kindEvent k c i b own).prt = s.prt := by simp [State.kindEvent]
@[simp] theorem State.kindEvent_cel (k c i : Nat) (b : List Word) (own : Bool) (s : State) : (s.kindEvent k c i b own).cel = s.cel := by simp [State.kindEvent]
@[simp] theorem State.kindEvent_frm (k c i : Nat) (b : List Word) (own : Bool) (s : State) : (s.kindEvent k c i b own).frm = s.frm := by simp [State.kindEvent]
@[simp] theorem State.kindEvent_tbl (k c i : Nat) (b : List Word) (own : Bool) (s : State) : (s.kindEvent k c i b own).tbl = s.tbl := by simp [State.kindEvent]
@[simp] theorem State.kindEvent_flo (k c i : Nat) (b : List Word) (own : Bool) (s : State) : (s.kindEvent k c i b own).flo = s.flo := by simp [State.kindEvent]
@[simp] theorem State.kindEvent_prg (k c i : Nat) (b : List Word) (own : Bool) (s : State) : (s.kindEvent k c i b own).prg = s.prg := by simp [State.kindEvent]
@[simp] theorem State.kindEvent_fab (k c i : Nat) (b : List Word) (own : Bool) (s : State) : (s.kindEvent k c i b own).fab = s.fab := by simp [State.kindEvent]
@[simp] theorem State.kindEvent_egr (k c i : Nat) (b : List Word) (own : Bool) (s : State) : (s.kindEvent k c i b own).egr = s.egr := by simp [State.kindEvent]
@[simp] theorem State.kindEvent_ctr (k c i : Nat) (b : List Word) (own : Bool) (s : State) : (s.kindEvent k c i b own).ctr = s.ctr := by simp [State.kindEvent]
@[simp] theorem State.kindEvent_shadow (k c i : Nat) (b : List Word) (own : Bool) (s : State) : (s.kindEvent k c i b own).shadow = s.shadow := by simp [State.kindEvent]
@[simp] theorem State.kindEvent_draw (k c i : Nat) (b : List Word) (own : Bool) (s : State) : (s.kindEvent k c i b own).draw = s.draw := by simp [State.kindEvent]
@[simp] theorem State.kindEvent_pending (k c i : Nat) (b : List Word) (own : Bool) (s : State) : (s.kindEvent k c i b own).pending = s.pending := by simp [State.kindEvent]

/-! ## State.clearSource -/

@[simp] theorem State.clearSource_crn (n : Nat) (s : State) : ((s.clearSource n).2).crn = s.crn := by
  dsimp only [State.clearSource]; (repeat' split) <;> simp
@[simp] theorem State.clearSource_sup (n : Nat) (s : State) : ((s.clearSource n).2).sup = s.sup := by
  dsimp only [State.clearSource]; (repeat' split) <;> simp
@[simp] theorem State.clearSource_tim (n : Nat) (s : State) : ((s.clearSource n).2).tim = s.tim := by
  dsimp only [State.clearSource]; (repeat' split) <;> simp
@[simp] theorem State.clearSource_hif (n : Nat) (s : State) : ((s.clearSource n).2).hif = s.hif := by
  dsimp only [State.clearSource]; (repeat' split) <;> simp
@[simp] theorem State.clearSource_img (n : Nat) (s : State) : ((s.clearSource n).2).img = s.img := by
  dsimp only [State.clearSource]; (repeat' split) <;> simp
@[simp] theorem State.clearSource_sec (n : Nat) (s : State) : ((s.clearSource n).2).sec = s.sec := by
  dsimp only [State.clearSource]; (repeat' split) <;> simp
@[simp] theorem State.clearSource_stg (n : Nat) (s : State) : ((s.clearSource n).2).stg = s.stg := by
  dsimp only [State.clearSource]; (repeat' split) <;> simp
@[simp] theorem State.clearSource_rng (n : Nat) (s : State) : ((s.clearSource n).2).rng = s.rng := by
  dsimp only [State.clearSource]; (repeat' split) <;> simp
@[simp] theorem State.clearSource_bpm (n : Nat) (s : State) : ((s.clearSource n).2).bpm = s.bpm := by
  dsimp only [State.clearSource]; (repeat' split) <;> simp
@[simp] theorem State.clearSource_pmu (n : Nat) (s : State) : ((s.clearSource n).2).pmu = s.pmu := by
  dsimp only [State.clearSource]; (repeat' split) <;> simp
@[simp] theorem State.clearSource_prt (n : Nat) (s : State) : ((s.clearSource n).2).prt = s.prt := by
  dsimp only [State.clearSource]; (repeat' split) <;> simp
@[simp] theorem State.clearSource_cel (n : Nat) (s : State) : ((s.clearSource n).2).cel = s.cel := by
  dsimp only [State.clearSource]; (repeat' split) <;> simp
@[simp] theorem State.clearSource_frm (n : Nat) (s : State) : ((s.clearSource n).2).frm = s.frm := by
  dsimp only [State.clearSource]; (repeat' split) <;> simp
@[simp] theorem State.clearSource_tbl (n : Nat) (s : State) : ((s.clearSource n).2).tbl = s.tbl := by
  dsimp only [State.clearSource]; (repeat' split) <;> simp
@[simp] theorem State.clearSource_flo (n : Nat) (s : State) : ((s.clearSource n).2).flo = s.flo := by
  dsimp only [State.clearSource]; (repeat' split) <;> simp
@[simp] theorem State.clearSource_prg (n : Nat) (s : State) : ((s.clearSource n).2).prg = s.prg := by
  dsimp only [State.clearSource]; (repeat' split) <;> simp
@[simp] theorem State.clearSource_fab (n : Nat) (s : State) : ((s.clearSource n).2).fab = s.fab := by
  dsimp only [State.clearSource]; (repeat' split) <;> simp
@[simp] theorem State.clearSource_egr (n : Nat) (s : State) : ((s.clearSource n).2).egr = s.egr := by
  dsimp only [State.clearSource]; (repeat' split) <;> simp
@[simp] theorem State.clearSource_ctr (n : Nat) (s : State) : ((s.clearSource n).2).ctr = s.ctr := by
  dsimp only [State.clearSource]; (repeat' split) <;> simp
@[simp] theorem State.clearSource_shadow (n : Nat) (s : State) : ((s.clearSource n).2).shadow = s.shadow := by
  dsimp only [State.clearSource]; (repeat' split) <;> simp
@[simp] theorem State.clearSource_out (n : Nat) (s : State) : ((s.clearSource n).2).out = s.out := by
  dsimp only [State.clearSource]; (repeat' split) <;> simp
@[simp] theorem State.clearSource_draw (n : Nat) (s : State) : ((s.clearSource n).2).draw = s.draw := by
  dsimp only [State.clearSource]; (repeat' split) <;> simp
@[simp] theorem State.clearSource_pending (n : Nat) (s : State) : ((s.clearSource n).2).pending = s.pending := by
  dsimp only [State.clearSource]; (repeat' split) <;> simp

/-! ## State.clearSources -/

@[simp] theorem State.clearSources_crn (l : List Nat) (s : State) : ((s.clearSources l).2).crn = s.crn := by
  simp only [State.clearSources, State.onFlt_crn]; exact foldl_keeps (·.crn) _ (fun a x => State.clearSource_crn x a) l s
@[simp] theorem State.clearSources_sup (l : List Nat) (s : State) : ((s.clearSources l).2).sup = s.sup := by
  simp only [State.clearSources, State.onFlt_sup]; exact foldl_keeps (·.sup) _ (fun a x => State.clearSource_sup x a) l s
@[simp] theorem State.clearSources_tim (l : List Nat) (s : State) : ((s.clearSources l).2).tim = s.tim := by
  simp only [State.clearSources, State.onFlt_tim]; exact foldl_keeps (·.tim) _ (fun a x => State.clearSource_tim x a) l s
@[simp] theorem State.clearSources_hif (l : List Nat) (s : State) : ((s.clearSources l).2).hif = s.hif := by
  simp only [State.clearSources, State.onFlt_hif]; exact foldl_keeps (·.hif) _ (fun a x => State.clearSource_hif x a) l s
@[simp] theorem State.clearSources_img (l : List Nat) (s : State) : ((s.clearSources l).2).img = s.img := by
  simp only [State.clearSources, State.onFlt_img]; exact foldl_keeps (·.img) _ (fun a x => State.clearSource_img x a) l s
@[simp] theorem State.clearSources_sec (l : List Nat) (s : State) : ((s.clearSources l).2).sec = s.sec := by
  simp only [State.clearSources, State.onFlt_sec]; exact foldl_keeps (·.sec) _ (fun a x => State.clearSource_sec x a) l s
@[simp] theorem State.clearSources_stg (l : List Nat) (s : State) : ((s.clearSources l).2).stg = s.stg := by
  simp only [State.clearSources, State.onFlt_stg]; exact foldl_keeps (·.stg) _ (fun a x => State.clearSource_stg x a) l s
@[simp] theorem State.clearSources_rng (l : List Nat) (s : State) : ((s.clearSources l).2).rng = s.rng := by
  simp only [State.clearSources, State.onFlt_rng]; exact foldl_keeps (·.rng) _ (fun a x => State.clearSource_rng x a) l s
@[simp] theorem State.clearSources_bpm (l : List Nat) (s : State) : ((s.clearSources l).2).bpm = s.bpm := by
  simp only [State.clearSources, State.onFlt_bpm]; exact foldl_keeps (·.bpm) _ (fun a x => State.clearSource_bpm x a) l s
@[simp] theorem State.clearSources_pmu (l : List Nat) (s : State) : ((s.clearSources l).2).pmu = s.pmu := by
  simp only [State.clearSources, State.onFlt_pmu]; exact foldl_keeps (·.pmu) _ (fun a x => State.clearSource_pmu x a) l s
@[simp] theorem State.clearSources_prt (l : List Nat) (s : State) : ((s.clearSources l).2).prt = s.prt := by
  simp only [State.clearSources, State.onFlt_prt]; exact foldl_keeps (·.prt) _ (fun a x => State.clearSource_prt x a) l s
@[simp] theorem State.clearSources_cel (l : List Nat) (s : State) : ((s.clearSources l).2).cel = s.cel := by
  simp only [State.clearSources, State.onFlt_cel]; exact foldl_keeps (·.cel) _ (fun a x => State.clearSource_cel x a) l s
@[simp] theorem State.clearSources_frm (l : List Nat) (s : State) : ((s.clearSources l).2).frm = s.frm := by
  simp only [State.clearSources, State.onFlt_frm]; exact foldl_keeps (·.frm) _ (fun a x => State.clearSource_frm x a) l s
@[simp] theorem State.clearSources_tbl (l : List Nat) (s : State) : ((s.clearSources l).2).tbl = s.tbl := by
  simp only [State.clearSources, State.onFlt_tbl]; exact foldl_keeps (·.tbl) _ (fun a x => State.clearSource_tbl x a) l s
@[simp] theorem State.clearSources_flo (l : List Nat) (s : State) : ((s.clearSources l).2).flo = s.flo := by
  simp only [State.clearSources, State.onFlt_flo]; exact foldl_keeps (·.flo) _ (fun a x => State.clearSource_flo x a) l s
@[simp] theorem State.clearSources_prg (l : List Nat) (s : State) : ((s.clearSources l).2).prg = s.prg := by
  simp only [State.clearSources, State.onFlt_prg]; exact foldl_keeps (·.prg) _ (fun a x => State.clearSource_prg x a) l s
@[simp] theorem State.clearSources_fab (l : List Nat) (s : State) : ((s.clearSources l).2).fab = s.fab := by
  simp only [State.clearSources, State.onFlt_fab]; exact foldl_keeps (·.fab) _ (fun a x => State.clearSource_fab x a) l s
@[simp] theorem State.clearSources_egr (l : List Nat) (s : State) : ((s.clearSources l).2).egr = s.egr := by
  simp only [State.clearSources, State.onFlt_egr]; exact foldl_keeps (·.egr) _ (fun a x => State.clearSource_egr x a) l s
@[simp] theorem State.clearSources_ctr (l : List Nat) (s : State) : ((s.clearSources l).2).ctr = s.ctr := by
  simp only [State.clearSources, State.onFlt_ctr]; exact foldl_keeps (·.ctr) _ (fun a x => State.clearSource_ctr x a) l s
@[simp] theorem State.clearSources_shadow (l : List Nat) (s : State) : ((s.clearSources l).2).shadow = s.shadow := by
  simp only [State.clearSources, State.onFlt_shadow]; exact foldl_keeps (·.shadow) _ (fun a x => State.clearSource_shadow x a) l s
@[simp] theorem State.clearSources_out (l : List Nat) (s : State) : ((s.clearSources l).2).out = s.out := by
  simp only [State.clearSources, State.onFlt_out]; exact foldl_keeps (·.out) _ (fun a x => State.clearSource_out x a) l s
@[simp] theorem State.clearSources_draw (l : List Nat) (s : State) : ((s.clearSources l).2).draw = s.draw := by
  simp only [State.clearSources, State.onFlt_draw]; exact foldl_keeps (·.draw) _ (fun a x => State.clearSource_draw x a) l s
@[simp] theorem State.clearSources_pending (l : List Nat) (s : State) : ((s.clearSources l).2).pending = s.pending := by
  simp only [State.clearSources, State.onFlt_pending]; exact foldl_keeps (·.pending) _ (fun a x => State.clearSource_pending x a) l s

/-! ## State.drawWords -/

@[simp] theorem State.drawWords_crn (n : Nat) (s : State) : ((State.drawWords n s).2).crn = s.crn := by
  induction n generalizing s with
  | zero => rfl
  | succ n ih => simp [State.drawWords, ih]
@[simp] theorem State.drawWords_sup (n : Nat) (s : State) : ((State.drawWords n s).2).sup = s.sup := by
  induction n generalizing s with
  | zero => rfl
  | succ n ih => simp [State.drawWords, ih]
@[simp] theorem State.drawWords_tim (n : Nat) (s : State) : ((State.drawWords n s).2).tim = s.tim := by
  induction n generalizing s with
  | zero => rfl
  | succ n ih => simp [State.drawWords, ih]
@[simp] theorem State.drawWords_hif (n : Nat) (s : State) : ((State.drawWords n s).2).hif = s.hif := by
  induction n generalizing s with
  | zero => rfl
  | succ n ih => simp [State.drawWords, ih]
@[simp] theorem State.drawWords_flt (n : Nat) (s : State) : ((State.drawWords n s).2).flt = s.flt := by
  induction n generalizing s with
  | zero => rfl
  | succ n ih => simp [State.drawWords, ih]
@[simp] theorem State.drawWords_img (n : Nat) (s : State) : ((State.drawWords n s).2).img = s.img := by
  induction n generalizing s with
  | zero => rfl
  | succ n ih => simp [State.drawWords, ih]
@[simp] theorem State.drawWords_sec (n : Nat) (s : State) : ((State.drawWords n s).2).sec = s.sec := by
  induction n generalizing s with
  | zero => rfl
  | succ n ih => simp [State.drawWords, ih]
@[simp] theorem State.drawWords_stg (n : Nat) (s : State) : ((State.drawWords n s).2).stg = s.stg := by
  induction n generalizing s with
  | zero => rfl
  | succ n ih => simp [State.drawWords, ih]
@[simp] theorem State.drawWords_rng (n : Nat) (s : State) : ((State.drawWords n s).2).rng = s.rng := by
  induction n generalizing s with
  | zero => rfl
  | succ n ih => simp [State.drawWords, ih]
@[simp] theorem State.drawWords_bpm (n : Nat) (s : State) : ((State.drawWords n s).2).bpm = s.bpm := by
  induction n generalizing s with
  | zero => rfl
  | succ n ih => simp [State.drawWords, ih]
@[simp] theorem State.drawWords_pmu (n : Nat) (s : State) : ((State.drawWords n s).2).pmu = s.pmu := by
  induction n generalizing s with
  | zero => rfl
  | succ n ih => simp [State.drawWords, ih]
@[simp] theorem State.drawWords_prt (n : Nat) (s : State) : ((State.drawWords n s).2).prt = s.prt := by
  induction n generalizing s with
  | zero => rfl
  | succ n ih => simp [State.drawWords, ih]
@[simp] theorem State.drawWords_cel (n : Nat) (s : State) : ((State.drawWords n s).2).cel = s.cel := by
  induction n generalizing s with
  | zero => rfl
  | succ n ih => simp [State.drawWords, ih]
@[simp] theorem State.drawWords_frm (n : Nat) (s : State) : ((State.drawWords n s).2).frm = s.frm := by
  induction n generalizing s with
  | zero => rfl
  | succ n ih => simp [State.drawWords, ih]
@[simp] theorem State.drawWords_tbl (n : Nat) (s : State) : ((State.drawWords n s).2).tbl = s.tbl := by
  induction n generalizing s with
  | zero => rfl
  | succ n ih => simp [State.drawWords, ih]
@[simp] theorem State.drawWords_flo (n : Nat) (s : State) : ((State.drawWords n s).2).flo = s.flo := by
  induction n generalizing s with
  | zero => rfl
  | succ n ih => simp [State.drawWords, ih]
@[simp] theorem State.drawWords_prg (n : Nat) (s : State) : ((State.drawWords n s).2).prg = s.prg := by
  induction n generalizing s with
  | zero => rfl
  | succ n ih => simp [State.drawWords, ih]
@[simp] theorem State.drawWords_fab (n : Nat) (s : State) : ((State.drawWords n s).2).fab = s.fab := by
  induction n generalizing s with
  | zero => rfl
  | succ n ih => simp [State.drawWords, ih]
@[simp] theorem State.drawWords_egr (n : Nat) (s : State) : ((State.drawWords n s).2).egr = s.egr := by
  induction n generalizing s with
  | zero => rfl
  | succ n ih => simp [State.drawWords, ih]
@[simp] theorem State.drawWords_ctr (n : Nat) (s : State) : ((State.drawWords n s).2).ctr = s.ctr := by
  induction n generalizing s with
  | zero => rfl
  | succ n ih => simp [State.drawWords, ih]
@[simp] theorem State.drawWords_shadow (n : Nat) (s : State) : ((State.drawWords n s).2).shadow = s.shadow := by
  induction n generalizing s with
  | zero => rfl
  | succ n ih => simp [State.drawWords, ih]
@[simp] theorem State.drawWords_out (n : Nat) (s : State) : ((State.drawWords n s).2).out = s.out := by
  induction n generalizing s with
  | zero => rfl
  | succ n ih => simp [State.drawWords, ih]
@[simp] theorem State.drawWords_pending (n : Nat) (s : State) : ((State.drawWords n s).2).pending = s.pending := by
  induction n generalizing s with
  | zero => rfl
  | succ n ih => simp [State.drawWords, ih]

end Sys2Proof.Machine
end

