-- ==== Sys2Proof/Laws/Pmu.lean ====
section
/-!
SUPPORT. What the operations of Machine/Pmu.lean leave unchanged.
-/

namespace Sys2Proof.Machine

open Sys2Proof

/-! ## State.pmuAdd -/

@[simp] theorem State.pmuAdd_crn (b i n : Nat) (s : State) : (s.pmuAdd b i n).crn = s.crn := by simp [State.pmuAdd]
@[simp] theorem State.pmuAdd_sup (b i n : Nat) (s : State) : (s.pmuAdd b i n).sup = s.sup := by simp [State.pmuAdd]
@[simp] theorem State.pmuAdd_tim (b i n : Nat) (s : State) : (s.pmuAdd b i n).tim = s.tim := by simp [State.pmuAdd]
@[simp] theorem State.pmuAdd_hif (b i n : Nat) (s : State) : (s.pmuAdd b i n).hif = s.hif := by simp [State.pmuAdd]
@[simp] theorem State.pmuAdd_flt (b i n : Nat) (s : State) : (s.pmuAdd b i n).flt = s.flt := by simp [State.pmuAdd]
@[simp] theorem State.pmuAdd_img (b i n : Nat) (s : State) : (s.pmuAdd b i n).img = s.img := by simp [State.pmuAdd]
@[simp] theorem State.pmuAdd_sec (b i n : Nat) (s : State) : (s.pmuAdd b i n).sec = s.sec := by simp [State.pmuAdd]
@[simp] theorem State.pmuAdd_stg (b i n : Nat) (s : State) : (s.pmuAdd b i n).stg = s.stg := by simp [State.pmuAdd]
@[simp] theorem State.pmuAdd_rng (b i n : Nat) (s : State) : (s.pmuAdd b i n).rng = s.rng := by simp [State.pmuAdd]
@[simp] theorem State.pmuAdd_bpm (b i n : Nat) (s : State) : (s.pmuAdd b i n).bpm = s.bpm := by simp [State.pmuAdd]
@[simp] theorem State.pmuAdd_prt (b i n : Nat) (s : State) : (s.pmuAdd b i n).prt = s.prt := by simp [State.pmuAdd]
@[simp] theorem State.pmuAdd_cel (b i n : Nat) (s : State) : (s.pmuAdd b i n).cel = s.cel := by simp [State.pmuAdd]
@[simp] theorem State.pmuAdd_frm (b i n : Nat) (s : State) : (s.pmuAdd b i n).frm = s.frm := by simp [State.pmuAdd]
@[simp] theorem State.pmuAdd_tbl (b i n : Nat) (s : State) : (s.pmuAdd b i n).tbl = s.tbl := by simp [State.pmuAdd]
@[simp] theorem State.pmuAdd_flo (b i n : Nat) (s : State) : (s.pmuAdd b i n).flo = s.flo := by simp [State.pmuAdd]
@[simp] theorem State.pmuAdd_prg (b i n : Nat) (s : State) : (s.pmuAdd b i n).prg = s.prg := by simp [State.pmuAdd]
@[simp] theorem State.pmuAdd_fab (b i n : Nat) (s : State) : (s.pmuAdd b i n).fab = s.fab := by simp [State.pmuAdd]
@[simp] theorem State.pmuAdd_egr (b i n : Nat) (s : State) : (s.pmuAdd b i n).egr = s.egr := by simp [State.pmuAdd]
@[simp] theorem State.pmuAdd_ctr (b i n : Nat) (s : State) : (s.pmuAdd b i n).ctr = s.ctr := by simp [State.pmuAdd]
@[simp] theorem State.pmuAdd_shadow (b i n : Nat) (s : State) : (s.pmuAdd b i n).shadow = s.shadow := by simp [State.pmuAdd]
@[simp] theorem State.pmuAdd_out (b i n : Nat) (s : State) : (s.pmuAdd b i n).out = s.out := by simp [State.pmuAdd]
@[simp] theorem State.pmuAdd_draw (b i n : Nat) (s : State) : (s.pmuAdd b i n).draw = s.draw := by simp [State.pmuAdd]
@[simp] theorem State.pmuAdd_pending (b i n : Nat) (s : State) : (s.pmuAdd b i n).pending = s.pending := by simp [State.pmuAdd]

/-! ## State.pmuStore -/

@[simp] theorem State.pmuStore_crn (m b w : Nat) (v : Word) (s : State) : (s.pmuStore m b w v).crn = s.crn := by
  dsimp only [State.pmuStore]; (repeat' split) <;> simp
@[simp] theorem State.pmuStore_sup (m b w : Nat) (v : Word) (s : State) : (s.pmuStore m b w v).sup = s.sup := by
  dsimp only [State.pmuStore]; (repeat' split) <;> simp
@[simp] theorem State.pmuStore_tim (m b w : Nat) (v : Word) (s : State) : (s.pmuStore m b w v).tim = s.tim := by
  dsimp only [State.pmuStore]; (repeat' split) <;> simp
@[simp] theorem State.pmuStore_hif (m b w : Nat) (v : Word) (s : State) : (s.pmuStore m b w v).hif = s.hif := by
  dsimp only [State.pmuStore]; (repeat' split) <;> simp
@[simp] theorem State.pmuStore_flt (m b w : Nat) (v : Word) (s : State) : (s.pmuStore m b w v).flt = s.flt := by
  dsimp only [State.pmuStore]; (repeat' split) <;> simp
@[simp] theorem State.pmuStore_img (m b w : Nat) (v : Word) (s : State) : (s.pmuStore m b w v).img = s.img := by
  dsimp only [State.pmuStore]; (repeat' split) <;> simp
@[simp] theorem State.pmuStore_sec (m b w : Nat) (v : Word) (s : State) : (s.pmuStore m b w v).sec = s.sec := by
  dsimp only [State.pmuStore]; (repeat' split) <;> simp
@[simp] theorem State.pmuStore_stg (m b w : Nat) (v : Word) (s : State) : (s.pmuStore m b w v).stg = s.stg := by
  dsimp only [State.pmuStore]; (repeat' split) <;> simp
@[simp] theorem State.pmuStore_rng (m b w : Nat) (v : Word) (s : State) : (s.pmuStore m b w v).rng = s.rng := by
  dsimp only [State.pmuStore]; (repeat' split) <;> simp
@[simp] theorem State.pmuStore_bpm (m b w : Nat) (v : Word) (s : State) : (s.pmuStore m b w v).bpm = s.bpm := by
  dsimp only [State.pmuStore]; (repeat' split) <;> simp
@[simp] theorem State.pmuStore_prt (m b w : Nat) (v : Word) (s : State) : (s.pmuStore m b w v).prt = s.prt := by
  dsimp only [State.pmuStore]; (repeat' split) <;> simp
@[simp] theorem State.pmuStore_cel (m b w : Nat) (v : Word) (s : State) : (s.pmuStore m b w v).cel = s.cel := by
  dsimp only [State.pmuStore]; (repeat' split) <;> simp
@[simp] theorem State.pmuStore_frm (m b w : Nat) (v : Word) (s : State) : (s.pmuStore m b w v).frm = s.frm := by
  dsimp only [State.pmuStore]; (repeat' split) <;> simp
@[simp] theorem State.pmuStore_tbl (m b w : Nat) (v : Word) (s : State) : (s.pmuStore m b w v).tbl = s.tbl := by
  dsimp only [State.pmuStore]; (repeat' split) <;> simp
@[simp] theorem State.pmuStore_flo (m b w : Nat) (v : Word) (s : State) : (s.pmuStore m b w v).flo = s.flo := by
  dsimp only [State.pmuStore]; (repeat' split) <;> simp
@[simp] theorem State.pmuStore_prg (m b w : Nat) (v : Word) (s : State) : (s.pmuStore m b w v).prg = s.prg := by
  dsimp only [State.pmuStore]; (repeat' split) <;> simp
@[simp] theorem State.pmuStore_fab (m b w : Nat) (v : Word) (s : State) : (s.pmuStore m b w v).fab = s.fab := by
  dsimp only [State.pmuStore]; (repeat' split) <;> simp
@[simp] theorem State.pmuStore_egr (m b w : Nat) (v : Word) (s : State) : (s.pmuStore m b w v).egr = s.egr := by
  dsimp only [State.pmuStore]; (repeat' split) <;> simp
@[simp] theorem State.pmuStore_ctr (m b w : Nat) (v : Word) (s : State) : (s.pmuStore m b w v).ctr = s.ctr := by
  dsimp only [State.pmuStore]; (repeat' split) <;> simp
@[simp] theorem State.pmuStore_shadow (m b w : Nat) (v : Word) (s : State) : (s.pmuStore m b w v).shadow = s.shadow := by
  dsimp only [State.pmuStore]; (repeat' split) <;> simp
@[simp] theorem State.pmuStore_out (m b w : Nat) (v : Word) (s : State) : (s.pmuStore m b w v).out = s.out := by
  dsimp only [State.pmuStore]; (repeat' split) <;> simp
@[simp] theorem State.pmuStore_draw (m b w : Nat) (v : Word) (s : State) : (s.pmuStore m b w v).draw = s.draw := by
  dsimp only [State.pmuStore]; (repeat' split) <;> simp
@[simp] theorem State.pmuStore_pending (m b w : Nat) (v : Word) (s : State) : (s.pmuStore m b w v).pending = s.pending := by
  dsimp only [State.pmuStore]; (repeat' split) <;> simp

/-! ## State.pmuWrite -/

@[simp] theorem State.pmuWrite_crn (m b w : Nat) (v : Word) (s : State) : (s.pmuWrite m b w v).crn = s.crn := by
  dsimp only [State.pmuWrite]; (repeat' split) <;> simp
@[simp] theorem State.pmuWrite_sup (m b w : Nat) (v : Word) (s : State) : (s.pmuWrite m b w v).sup = s.sup := by
  dsimp only [State.pmuWrite]; (repeat' split) <;> simp
@[simp] theorem State.pmuWrite_tim (m b w : Nat) (v : Word) (s : State) : (s.pmuWrite m b w v).tim = s.tim := by
  dsimp only [State.pmuWrite]; (repeat' split) <;> simp
@[simp] theorem State.pmuWrite_hif (m b w : Nat) (v : Word) (s : State) : (s.pmuWrite m b w v).hif = s.hif := by
  dsimp only [State.pmuWrite]; (repeat' split) <;> simp
@[simp] theorem State.pmuWrite_flt (m b w : Nat) (v : Word) (s : State) : (s.pmuWrite m b w v).flt = s.flt := by
  dsimp only [State.pmuWrite]; (repeat' split) <;> simp
@[simp] theorem State.pmuWrite_img (m b w : Nat) (v : Word) (s : State) : (s.pmuWrite m b w v).img = s.img := by
  dsimp only [State.pmuWrite]; (repeat' split) <;> simp
@[simp] theorem State.pmuWrite_sec (m b w : Nat) (v : Word) (s : State) : (s.pmuWrite m b w v).sec = s.sec := by
  dsimp only [State.pmuWrite]; (repeat' split) <;> simp
@[simp] theorem State.pmuWrite_stg (m b w : Nat) (v : Word) (s : State) : (s.pmuWrite m b w v).stg = s.stg := by
  dsimp only [State.pmuWrite]; (repeat' split) <;> simp
@[simp] theorem State.pmuWrite_rng (m b w : Nat) (v : Word) (s : State) : (s.pmuWrite m b w v).rng = s.rng := by
  dsimp only [State.pmuWrite]; (repeat' split) <;> simp
@[simp] theorem State.pmuWrite_bpm (m b w : Nat) (v : Word) (s : State) : (s.pmuWrite m b w v).bpm = s.bpm := by
  dsimp only [State.pmuWrite]; (repeat' split) <;> simp
@[simp] theorem State.pmuWrite_prt (m b w : Nat) (v : Word) (s : State) : (s.pmuWrite m b w v).prt = s.prt := by
  dsimp only [State.pmuWrite]; (repeat' split) <;> simp
@[simp] theorem State.pmuWrite_cel (m b w : Nat) (v : Word) (s : State) : (s.pmuWrite m b w v).cel = s.cel := by
  dsimp only [State.pmuWrite]; (repeat' split) <;> simp
@[simp] theorem State.pmuWrite_frm (m b w : Nat) (v : Word) (s : State) : (s.pmuWrite m b w v).frm = s.frm := by
  dsimp only [State.pmuWrite]; (repeat' split) <;> simp
@[simp] theorem State.pmuWrite_tbl (m b w : Nat) (v : Word) (s : State) : (s.pmuWrite m b w v).tbl = s.tbl := by
  dsimp only [State.pmuWrite]; (repeat' split) <;> simp
@[simp] theorem State.pmuWrite_flo (m b w : Nat) (v : Word) (s : State) : (s.pmuWrite m b w v).flo = s.flo := by
  dsimp only [State.pmuWrite]; (repeat' split) <;> simp
@[simp] theorem State.pmuWrite_prg (m b w : Nat) (v : Word) (s : State) : (s.pmuWrite m b w v).prg = s.prg := by
  dsimp only [State.pmuWrite]; (repeat' split) <;> simp
@[simp] theorem State.pmuWrite_fab (m b w : Nat) (v : Word) (s : State) : (s.pmuWrite m b w v).fab = s.fab := by
  dsimp only [State.pmuWrite]; (repeat' split) <;> simp
@[simp] theorem State.pmuWrite_egr (m b w : Nat) (v : Word) (s : State) : (s.pmuWrite m b w v).egr = s.egr := by
  dsimp only [State.pmuWrite]; (repeat' split) <;> simp
@[simp] theorem State.pmuWrite_ctr (m b w : Nat) (v : Word) (s : State) : (s.pmuWrite m b w v).ctr = s.ctr := by
  dsimp only [State.pmuWrite]; (repeat' split) <;> simp
@[simp] theorem State.pmuWrite_shadow (m b w : Nat) (v : Word) (s : State) : (s.pmuWrite m b w v).shadow = s.shadow := by
  dsimp only [State.pmuWrite]; (repeat' split) <;> simp
@[simp] theorem State.pmuWrite_out (m b w : Nat) (v : Word) (s : State) : (s.pmuWrite m b w v).out = s.out := by
  dsimp only [State.pmuWrite]; (repeat' split) <;> simp
@[simp] theorem State.pmuWrite_draw (m b w : Nat) (v : Word) (s : State) : (s.pmuWrite m b w v).draw = s.draw := by
  dsimp only [State.pmuWrite]; (repeat' split) <;> simp
@[simp] theorem State.pmuWrite_pending (m b w : Nat) (v : Word) (s : State) : (s.pmuWrite m b w v).pending = s.pending := by
  dsimp only [State.pmuWrite]; (repeat' split) <;> simp

/-! ## State.pmuRelease -/

@[simp] theorem State.pmuRelease_crn (c : Nat) (s : State) : (s.pmuRelease c).crn = s.crn := by
  simp only [State.pmuRelease]; exact (foldl_keeps (·.crn) _ (fun a x => State.pmuStore_crn _ _ _ _ a) _ _).trans rfl
@[simp] theorem State.pmuRelease_sup (c : Nat) (s : State) : (s.pmuRelease c).sup = s.sup := by
  simp only [State.pmuRelease]; exact (foldl_keeps (·.sup) _ (fun a x => State.pmuStore_sup _ _ _ _ a) _ _).trans rfl
@[simp] theorem State.pmuRelease_tim (c : Nat) (s : State) : (s.pmuRelease c).tim = s.tim := by
  simp only [State.pmuRelease]; exact (foldl_keeps (·.tim) _ (fun a x => State.pmuStore_tim _ _ _ _ a) _ _).trans rfl
@[simp] theorem State.pmuRelease_hif (c : Nat) (s : State) : (s.pmuRelease c).hif = s.hif := by
  simp only [State.pmuRelease]; exact (foldl_keeps (·.hif) _ (fun a x => State.pmuStore_hif _ _ _ _ a) _ _).trans rfl
@[simp] theorem State.pmuRelease_flt (c : Nat) (s : State) : (s.pmuRelease c).flt = s.flt := by
  simp only [State.pmuRelease]; exact (foldl_keeps (·.flt) _ (fun a x => State.pmuStore_flt _ _ _ _ a) _ _).trans rfl
@[simp] theorem State.pmuRelease_img (c : Nat) (s : State) : (s.pmuRelease c).img = s.img := by
  simp only [State.pmuRelease]; exact (foldl_keeps (·.img) _ (fun a x => State.pmuStore_img _ _ _ _ a) _ _).trans rfl
@[simp] theorem State.pmuRelease_sec (c : Nat) (s : State) : (s.pmuRelease c).sec = s.sec := by
  simp only [State.pmuRelease]; exact (foldl_keeps (·.sec) _ (fun a x => State.pmuStore_sec _ _ _ _ a) _ _).trans rfl
@[simp] theorem State.pmuRelease_stg (c : Nat) (s : State) : (s.pmuRelease c).stg = s.stg := by
  simp only [State.pmuRelease]; exact (foldl_keeps (·.stg) _ (fun a x => State.pmuStore_stg _ _ _ _ a) _ _).trans rfl
@[simp] theorem State.pmuRelease_rng (c : Nat) (s : State) : (s.pmuRelease c).rng = s.rng := by
  simp only [State.pmuRelease]; exact (foldl_keeps (·.rng) _ (fun a x => State.pmuStore_rng _ _ _ _ a) _ _).trans rfl
@[simp] theorem State.pmuRelease_bpm (c : Nat) (s : State) : (s.pmuRelease c).bpm = s.bpm := by
  simp only [State.pmuRelease]; exact (foldl_keeps (·.bpm) _ (fun a x => State.pmuStore_bpm _ _ _ _ a) _ _).trans rfl
@[simp] theorem State.pmuRelease_prt (c : Nat) (s : State) : (s.pmuRelease c).prt = s.prt := by
  simp only [State.pmuRelease]; exact (foldl_keeps (·.prt) _ (fun a x => State.pmuStore_prt _ _ _ _ a) _ _).trans rfl
@[simp] theorem State.pmuRelease_cel (c : Nat) (s : State) : (s.pmuRelease c).cel = s.cel := by
  simp only [State.pmuRelease]; exact (foldl_keeps (·.cel) _ (fun a x => State.pmuStore_cel _ _ _ _ a) _ _).trans rfl
@[simp] theorem State.pmuRelease_frm (c : Nat) (s : State) : (s.pmuRelease c).frm = s.frm := by
  simp only [State.pmuRelease]; exact (foldl_keeps (·.frm) _ (fun a x => State.pmuStore_frm _ _ _ _ a) _ _).trans rfl
@[simp] theorem State.pmuRelease_tbl (c : Nat) (s : State) : (s.pmuRelease c).tbl = s.tbl := by
  simp only [State.pmuRelease]; exact (foldl_keeps (·.tbl) _ (fun a x => State.pmuStore_tbl _ _ _ _ a) _ _).trans rfl
@[simp] theorem State.pmuRelease_flo (c : Nat) (s : State) : (s.pmuRelease c).flo = s.flo := by
  simp only [State.pmuRelease]; exact (foldl_keeps (·.flo) _ (fun a x => State.pmuStore_flo _ _ _ _ a) _ _).trans rfl
@[simp] theorem State.pmuRelease_prg (c : Nat) (s : State) : (s.pmuRelease c).prg = s.prg := by
  simp only [State.pmuRelease]; exact (foldl_keeps (·.prg) _ (fun a x => State.pmuStore_prg _ _ _ _ a) _ _).trans rfl
@[simp] theorem State.pmuRelease_fab (c : Nat) (s : State) : (s.pmuRelease c).fab = s.fab := by
  simp only [State.pmuRelease]; exact (foldl_keeps (·.fab) _ (fun a x => State.pmuStore_fab _ _ _ _ a) _ _).trans rfl
@[simp] theorem State.pmuRelease_egr (c : Nat) (s : State) : (s.pmuRelease c).egr = s.egr := by
  simp only [State.pmuRelease]; exact (foldl_keeps (·.egr) _ (fun a x => State.pmuStore_egr _ _ _ _ a) _ _).trans rfl
@[simp] theorem State.pmuRelease_ctr (c : Nat) (s : State) : (s.pmuRelease c).ctr = s.ctr := by
  simp only [State.pmuRelease]; exact (foldl_keeps (·.ctr) _ (fun a x => State.pmuStore_ctr _ _ _ _ a) _ _).trans rfl
@[simp] theorem State.pmuRelease_shadow (c : Nat) (s : State) : (s.pmuRelease c).shadow = s.shadow := by
  simp only [State.pmuRelease]; exact (foldl_keeps (·.shadow) _ (fun a x => State.pmuStore_shadow _ _ _ _ a) _ _).trans rfl
@[simp] theorem State.pmuRelease_out (c : Nat) (s : State) : (s.pmuRelease c).out = s.out := by
  simp only [State.pmuRelease]; exact (foldl_keeps (·.out) _ (fun a x => State.pmuStore_out _ _ _ _ a) _ _).trans rfl
@[simp] theorem State.pmuRelease_draw (c : Nat) (s : State) : (s.pmuRelease c).draw = s.draw := by
  simp only [State.pmuRelease]; exact (foldl_keeps (·.draw) _ (fun a x => State.pmuStore_draw _ _ _ _ a) _ _).trans rfl
@[simp] theorem State.pmuRelease_pending (c : Nat) (s : State) : (s.pmuRelease c).pending = s.pending := by
  simp only [State.pmuRelease]; exact (foldl_keeps (·.pending) _ (fun a x => State.pmuStore_pending _ _ _ _ a) _ _).trans rfl

/-! ## State.pmuEvent -/

@[simp] theorem State.pmuEvent_crn (b e n : Nat) (o : Occ) (s : State) : (s.pmuEvent b e n o).crn = s.crn := by
  unfold State.pmuEvent; split
  · rfl
  · refine foldl_keeps (·.crn) _ (fun a x => ?_) _ s; dsimp only; split <;> simp
@[simp] theorem State.pmuEvent_sup (b e n : Nat) (o : Occ) (s : State) : (s.pmuEvent b e n o).sup = s.sup := by
  unfold State.pmuEvent; split
  · rfl
  · refine foldl_keeps (·.sup) _ (fun a x => ?_) _ s; dsimp only; split <;> simp
@[simp] theorem State.pmuEvent_tim (b e n : Nat) (o : Occ) (s : State) : (s.pmuEvent b e n o).tim = s.tim := by
  unfold State.pmuEvent; split
  · rfl
  · refine foldl_keeps (·.tim) _ (fun a x => ?_) _ s; dsimp only; split <;> simp
@[simp] theorem State.pmuEvent_hif (b e n : Nat) (o : Occ) (s : State) : (s.pmuEvent b e n o).hif = s.hif := by
  unfold State.pmuEvent; split
  · rfl
  · refine foldl_keeps (·.hif) _ (fun a x => ?_) _ s; dsimp only; split <;> simp
@[simp] theorem State.pmuEvent_flt (b e n : Nat) (o : Occ) (s : State) : (s.pmuEvent b e n o).flt = s.flt := by
  unfold State.pmuEvent; split
  · rfl
  · refine foldl_keeps (·.flt) _ (fun a x => ?_) _ s; dsimp only; split <;> simp
@[simp] theorem State.pmuEvent_img (b e n : Nat) (o : Occ) (s : State) : (s.pmuEvent b e n o).img = s.img := by
  unfold State.pmuEvent; split
  · rfl
  · refine foldl_keeps (·.img) _ (fun a x => ?_) _ s; dsimp only; split <;> simp
@[simp] theorem State.pmuEvent_sec (b e n : Nat) (o : Occ) (s : State) : (s.pmuEvent b e n o).sec = s.sec := by
  unfold State.pmuEvent; split
  · rfl
  · refine foldl_keeps (·.sec) _ (fun a x => ?_) _ s; dsimp only; split <;> simp
@[simp] theorem State.pmuEvent_stg (b e n : Nat) (o : Occ) (s : State) : (s.pmuEvent b e n o).stg = s.stg := by
  unfold State.pmuEvent; split
  · rfl
  · refine foldl_keeps (·.stg) _ (fun a x => ?_) _ s; dsimp only; split <;> simp
@[simp] theorem State.pmuEvent_rng (b e n : Nat) (o : Occ) (s : State) : (s.pmuEvent b e n o).rng = s.rng := by
  unfold State.pmuEvent; split
  · rfl
  · refine foldl_keeps (·.rng) _ (fun a x => ?_) _ s; dsimp only; split <;> simp
@[simp] theorem State.pmuEvent_bpm (b e n : Nat) (o : Occ) (s : State) : (s.pmuEvent b e n o).bpm = s.bpm := by
  unfold State.pmuEvent; split
  · rfl
  · refine foldl_keeps (·.bpm) _ (fun a x => ?_) _ s; dsimp only; split <;> simp
@[simp] theorem State.pmuEvent_prt (b e n : Nat) (o : Occ) (s : State) : (s.pmuEvent b e n o).prt = s.prt := by
  unfold State.pmuEvent; split
  · rfl
  · refine foldl_keeps (·.prt) _ (fun a x => ?_) _ s; dsimp only; split <;> simp
@[simp] theorem State.pmuEvent_cel (b e n : Nat) (o : Occ) (s : State) : (s.pmuEvent b e n o).cel = s.cel := by
  unfold State.pmuEvent; split
  · rfl
  · refine foldl_keeps (·.cel) _ (fun a x => ?_) _ s; dsimp only; split <;> simp
@[simp] theorem State.pmuEvent_frm (b e n : Nat) (o : Occ) (s : State) : (s.pmuEvent b e n o).frm = s.frm := by
  unfold State.pmuEvent; split
  · rfl
  · refine foldl_keeps (·.frm) _ (fun a x => ?_) _ s; dsimp only; split <;> simp
@[simp] theorem State.pmuEvent_tbl (b e n : Nat) (o : Occ) (s : State) : (s.pmuEvent b e n o).tbl = s.tbl := by
  unfold State.pmuEvent; split
  · rfl
  · refine foldl_keeps (·.tbl) _ (fun a x => ?_) _ s; dsimp only; split <;> simp
@[simp] theorem State.pmuEvent_flo (b e n : Nat) (o : Occ) (s : State) : (s.pmuEvent b e n o).flo = s.flo := by
  unfold State.pmuEvent; split
  · rfl
  · refine foldl_keeps (·.flo) _ (fun a x => ?_) _ s; dsimp only; split <;> simp
@[simp] theorem State.pmuEvent_prg (b e n : Nat) (o : Occ) (s : State) : (s.pmuEvent b e n o).prg = s.prg := by
  unfold State.pmuEvent; split
  · rfl
  · refine foldl_keeps (·.prg) _ (fun a x => ?_) _ s; dsimp only; split <;> simp
@[simp] theorem State.pmuEvent_fab (b e n : Nat) (o : Occ) (s : State) : (s.pmuEvent b e n o).fab = s.fab := by
  unfold State.pmuEvent; split
  · rfl
  · refine foldl_keeps (·.fab) _ (fun a x => ?_) _ s; dsimp only; split <;> simp
@[simp] theorem State.pmuEvent_egr (b e n : Nat) (o : Occ) (s : State) : (s.pmuEvent b e n o).egr = s.egr := by
  unfold State.pmuEvent; split
  · rfl
  · refine foldl_keeps (·.egr) _ (fun a x => ?_) _ s; dsimp only; split <;> simp
@[simp] theorem State.pmuEvent_ctr (b e n : Nat) (o : Occ) (s : State) : (s.pmuEvent b e n o).ctr = s.ctr := by
  unfold State.pmuEvent; split
  · rfl
  · refine foldl_keeps (·.ctr) _ (fun a x => ?_) _ s; dsimp only; split <;> simp
@[simp] theorem State.pmuEvent_shadow (b e n : Nat) (o : Occ) (s : State) : (s.pmuEvent b e n o).shadow = s.shadow := by
  unfold State.pmuEvent; split
  · rfl
  · refine foldl_keeps (·.shadow) _ (fun a x => ?_) _ s; dsimp only; split <;> simp
@[simp] theorem State.pmuEvent_out (b e n : Nat) (o : Occ) (s : State) : (s.pmuEvent b e n o).out = s.out := by
  unfold State.pmuEvent; split
  · rfl
  · refine foldl_keeps (·.out) _ (fun a x => ?_) _ s; dsimp only; split <;> simp
@[simp] theorem State.pmuEvent_draw (b e n : Nat) (o : Occ) (s : State) : (s.pmuEvent b e n o).draw = s.draw := by
  unfold State.pmuEvent; split
  · rfl
  · refine foldl_keeps (·.draw) _ (fun a x => ?_) _ s; dsimp only; split <;> simp
@[simp] theorem State.pmuEvent_pending (b e n : Nat) (o : Occ) (s : State) : (s.pmuEvent b e n o).pending = s.pending := by
  unfold State.pmuEvent; split
  · rfl
  · refine foldl_keeps (·.pending) _ (fun a x => ?_) _ s; dsimp only; split <;> simp

/-! ## State.pmuFirmware -/

@[simp] theorem State.pmuFirmware_crn (b e : Nat) (o : Occ) (s : State) : (s.pmuFirmware b e o).crn = s.crn := by
  dsimp only [State.pmuFirmware]; (repeat' split) <;> simp
@[simp] theorem State.pmuFirmware_sup (b e : Nat) (o : Occ) (s : State) : (s.pmuFirmware b e o).sup = s.sup := by
  dsimp only [State.pmuFirmware]; (repeat' split) <;> simp
@[simp] theorem State.pmuFirmware_tim (b e : Nat) (o : Occ) (s : State) : (s.pmuFirmware b e o).tim = s.tim := by
  dsimp only [State.pmuFirmware]; (repeat' split) <;> simp
@[simp] theorem State.pmuFirmware_hif (b e : Nat) (o : Occ) (s : State) : (s.pmuFirmware b e o).hif = s.hif := by
  dsimp only [State.pmuFirmware]; (repeat' split) <;> simp
@[simp] theorem State.pmuFirmware_flt (b e : Nat) (o : Occ) (s : State) : (s.pmuFirmware b e o).flt = s.flt := by
  dsimp only [State.pmuFirmware]; (repeat' split) <;> simp
@[simp] theorem State.pmuFirmware_img (b e : Nat) (o : Occ) (s : State) : (s.pmuFirmware b e o).img = s.img := by
  dsimp only [State.pmuFirmware]; (repeat' split) <;> simp
@[simp] theorem State.pmuFirmware_sec (b e : Nat) (o : Occ) (s : State) : (s.pmuFirmware b e o).sec = s.sec := by
  dsimp only [State.pmuFirmware]; (repeat' split) <;> simp
@[simp] theorem State.pmuFirmware_stg (b e : Nat) (o : Occ) (s : State) : (s.pmuFirmware b e o).stg = s.stg := by
  dsimp only [State.pmuFirmware]; (repeat' split) <;> simp
@[simp] theorem State.pmuFirmware_rng (b e : Nat) (o : Occ) (s : State) : (s.pmuFirmware b e o).rng = s.rng := by
  dsimp only [State.pmuFirmware]; (repeat' split) <;> simp
@[simp] theorem State.pmuFirmware_bpm (b e : Nat) (o : Occ) (s : State) : (s.pmuFirmware b e o).bpm = s.bpm := by
  dsimp only [State.pmuFirmware]; (repeat' split) <;> simp
@[simp] theorem State.pmuFirmware_prt (b e : Nat) (o : Occ) (s : State) : (s.pmuFirmware b e o).prt = s.prt := by
  dsimp only [State.pmuFirmware]; (repeat' split) <;> simp
@[simp] theorem State.pmuFirmware_cel (b e : Nat) (o : Occ) (s : State) : (s.pmuFirmware b e o).cel = s.cel := by
  dsimp only [State.pmuFirmware]; (repeat' split) <;> simp
@[simp] theorem State.pmuFirmware_frm (b e : Nat) (o : Occ) (s : State) : (s.pmuFirmware b e o).frm = s.frm := by
  dsimp only [State.pmuFirmware]; (repeat' split) <;> simp
@[simp] theorem State.pmuFirmware_tbl (b e : Nat) (o : Occ) (s : State) : (s.pmuFirmware b e o).tbl = s.tbl := by
  dsimp only [State.pmuFirmware]; (repeat' split) <;> simp
@[simp] theorem State.pmuFirmware_flo (b e : Nat) (o : Occ) (s : State) : (s.pmuFirmware b e o).flo = s.flo := by
  dsimp only [State.pmuFirmware]; (repeat' split) <;> simp
@[simp] theorem State.pmuFirmware_prg (b e : Nat) (o : Occ) (s : State) : (s.pmuFirmware b e o).prg = s.prg := by
  dsimp only [State.pmuFirmware]; (repeat' split) <;> simp
@[simp] theorem State.pmuFirmware_fab (b e : Nat) (o : Occ) (s : State) : (s.pmuFirmware b e o).fab = s.fab := by
  dsimp only [State.pmuFirmware]; (repeat' split) <;> simp
@[simp] theorem State.pmuFirmware_egr (b e : Nat) (o : Occ) (s : State) : (s.pmuFirmware b e o).egr = s.egr := by
  dsimp only [State.pmuFirmware]; (repeat' split) <;> simp
@[simp] theorem State.pmuFirmware_ctr (b e : Nat) (o : Occ) (s : State) : (s.pmuFirmware b e o).ctr = s.ctr := by
  dsimp only [State.pmuFirmware]; (repeat' split) <;> simp
@[simp] theorem State.pmuFirmware_shadow (b e : Nat) (o : Occ) (s : State) : (s.pmuFirmware b e o).shadow = s.shadow := by
  dsimp only [State.pmuFirmware]; (repeat' split) <;> simp
@[simp] theorem State.pmuFirmware_out (b e : Nat) (o : Occ) (s : State) : (s.pmuFirmware b e o).out = s.out := by
  dsimp only [State.pmuFirmware]; (repeat' split) <;> simp
@[simp] theorem State.pmuFirmware_pending (b e : Nat) (o : Occ) (s : State) : (s.pmuFirmware b e o).pending = s.pending := by
  dsimp only [State.pmuFirmware]; (repeat' split) <;> simp

/-! ## State.pmuKey -/

@[simp] theorem State.pmuKey_crn (c : Nat) (h : Bool) (tc : Nat) (s : State) : (s.pmuKey c h tc).crn = s.crn := by
  dsimp only [State.pmuKey]; (repeat' split) <;> simp
@[simp] theorem State.pmuKey_sup (c : Nat) (h : Bool) (tc : Nat) (s : State) : (s.pmuKey c h tc).sup = s.sup := by
  dsimp only [State.pmuKey]; (repeat' split) <;> simp
@[simp] theorem State.pmuKey_tim (c : Nat) (h : Bool) (tc : Nat) (s : State) : (s.pmuKey c h tc).tim = s.tim := by
  dsimp only [State.pmuKey]; (repeat' split) <;> simp
@[simp] theorem State.pmuKey_hif (c : Nat) (h : Bool) (tc : Nat) (s : State) : (s.pmuKey c h tc).hif = s.hif := by
  dsimp only [State.pmuKey]; (repeat' split) <;> simp
@[simp] theorem State.pmuKey_flt (c : Nat) (h : Bool) (tc : Nat) (s : State) : (s.pmuKey c h tc).flt = s.flt := by
  dsimp only [State.pmuKey]; (repeat' split) <;> simp
@[simp] theorem State.pmuKey_img (c : Nat) (h : Bool) (tc : Nat) (s : State) : (s.pmuKey c h tc).img = s.img := by
  dsimp only [State.pmuKey]; (repeat' split) <;> simp
@[simp] theorem State.pmuKey_sec (c : Nat) (h : Bool) (tc : Nat) (s : State) : (s.pmuKey c h tc).sec = s.sec := by
  dsimp only [State.pmuKey]; (repeat' split) <;> simp
@[simp] theorem State.pmuKey_stg (c : Nat) (h : Bool) (tc : Nat) (s : State) : (s.pmuKey c h tc).stg = s.stg := by
  dsimp only [State.pmuKey]; (repeat' split) <;> simp
@[simp] theorem State.pmuKey_rng (c : Nat) (h : Bool) (tc : Nat) (s : State) : (s.pmuKey c h tc).rng = s.rng := by
  dsimp only [State.pmuKey]; (repeat' split) <;> simp
@[simp] theorem State.pmuKey_bpm (c : Nat) (h : Bool) (tc : Nat) (s : State) : (s.pmuKey c h tc).bpm = s.bpm := by
  dsimp only [State.pmuKey]; (repeat' split) <;> simp
@[simp] theorem State.pmuKey_prt (c : Nat) (h : Bool) (tc : Nat) (s : State) : (s.pmuKey c h tc).prt = s.prt := by
  dsimp only [State.pmuKey]; (repeat' split) <;> simp
@[simp] theorem State.pmuKey_cel (c : Nat) (h : Bool) (tc : Nat) (s : State) : (s.pmuKey c h tc).cel = s.cel := by
  dsimp only [State.pmuKey]; (repeat' split) <;> simp
@[simp] theorem State.pmuKey_frm (c : Nat) (h : Bool) (tc : Nat) (s : State) : (s.pmuKey c h tc).frm = s.frm := by
  dsimp only [State.pmuKey]; (repeat' split) <;> simp
@[simp] theorem State.pmuKey_tbl (c : Nat) (h : Bool) (tc : Nat) (s : State) : (s.pmuKey c h tc).tbl = s.tbl := by
  dsimp only [State.pmuKey]; (repeat' split) <;> simp
@[simp] theorem State.pmuKey_flo (c : Nat) (h : Bool) (tc : Nat) (s : State) : (s.pmuKey c h tc).flo = s.flo := by
  dsimp only [State.pmuKey]; (repeat' split) <;> simp
@[simp] theorem State.pmuKey_prg (c : Nat) (h : Bool) (tc : Nat) (s : State) : (s.pmuKey c h tc).prg = s.prg := by
  dsimp only [State.pmuKey]; (repeat' split) <;> simp
@[simp] theorem State.pmuKey_fab (c : Nat) (h : Bool) (tc : Nat) (s : State) : (s.pmuKey c h tc).fab = s.fab := by
  dsimp only [State.pmuKey]; (repeat' split) <;> simp
@[simp] theorem State.pmuKey_egr (c : Nat) (h : Bool) (tc : Nat) (s : State) : (s.pmuKey c h tc).egr = s.egr := by
  dsimp only [State.pmuKey]; (repeat' split) <;> simp
@[simp] theorem State.pmuKey_ctr (c : Nat) (h : Bool) (tc : Nat) (s : State) : (s.pmuKey c h tc).ctr = s.ctr := by
  dsimp only [State.pmuKey]; (repeat' split) <;> simp
@[simp] theorem State.pmuKey_shadow (c : Nat) (h : Bool) (tc : Nat) (s : State) : (s.pmuKey c h tc).shadow = s.shadow := by
  dsimp only [State.pmuKey]; (repeat' split) <;> simp
@[simp] theorem State.pmuKey_out (c : Nat) (h : Bool) (tc : Nat) (s : State) : (s.pmuKey c h tc).out = s.out := by
  dsimp only [State.pmuKey]; (repeat' split) <;> simp
@[simp] theorem State.pmuKey_draw (c : Nat) (h : Bool) (tc : Nat) (s : State) : (s.pmuKey c h tc).draw = s.draw := by
  dsimp only [State.pmuKey]; (repeat' split) <;> simp
@[simp] theorem State.pmuKey_pending (c : Nat) (h : Bool) (tc : Nat) (s : State) : (s.pmuKey c h tc).pending = s.pending := by
  dsimp only [State.pmuKey]; (repeat' split) <;> simp

/-! ## State.startWake -/

@[simp] theorem State.startWake_crn (c : Nat) (s : State) : (s.startWake c).crn = s.crn := by
  dsimp only [State.startWake]; (repeat' split) <;> simp
@[simp] theorem State.startWake_sup (c : Nat) (s : State) : (s.startWake c).sup = s.sup := by
  dsimp only [State.startWake]; (repeat' split) <;> simp
@[simp] theorem State.startWake_tim (c : Nat) (s : State) : (s.startWake c).tim = s.tim := by
  dsimp only [State.startWake]; (repeat' split) <;> simp
@[simp] theorem State.startWake_hif (c : Nat) (s : State) : (s.startWake c).hif = s.hif := by
  dsimp only [State.startWake]; (repeat' split) <;> simp
@[simp] theorem State.startWake_flt (c : Nat) (s : State) : (s.startWake c).flt = s.flt := by
  dsimp only [State.startWake]; (repeat' split) <;> simp
@[simp] theorem State.startWake_img (c : Nat) (s : State) : (s.startWake c).img = s.img := by
  dsimp only [State.startWake]; (repeat' split) <;> simp
@[simp] theorem State.startWake_sec (c : Nat) (s : State) : (s.startWake c).sec = s.sec := by
  dsimp only [State.startWake]; (repeat' split) <;> simp
@[simp] theorem State.startWake_stg (c : Nat) (s : State) : (s.startWake c).stg = s.stg := by
  dsimp only [State.startWake]; (repeat' split) <;> simp
@[simp] theorem State.startWake_rng (c : Nat) (s : State) : (s.startWake c).rng = s.rng := by
  dsimp only [State.startWake]; (repeat' split) <;> simp
@[simp] theorem State.startWake_bpm (c : Nat) (s : State) : (s.startWake c).bpm = s.bpm := by
  dsimp only [State.startWake]; (repeat' split) <;> simp
@[simp] theorem State.startWake_prt (c : Nat) (s : State) : (s.startWake c).prt = s.prt := by
  dsimp only [State.startWake]; (repeat' split) <;> simp
@[simp] theorem State.startWake_frm (c : Nat) (s : State) : (s.startWake c).frm = s.frm := by
  dsimp only [State.startWake]; (repeat' split) <;> simp
@[simp] theorem State.startWake_tbl (c : Nat) (s : State) : (s.startWake c).tbl = s.tbl := by
  dsimp only [State.startWake]; (repeat' split) <;> simp
@[simp] theorem State.startWake_flo (c : Nat) (s : State) : (s.startWake c).flo = s.flo := by
  dsimp only [State.startWake]; (repeat' split) <;> simp
@[simp] theorem State.startWake_prg (c : Nat) (s : State) : (s.startWake c).prg = s.prg := by
  dsimp only [State.startWake]; (repeat' split) <;> simp
@[simp] theorem State.startWake_fab (c : Nat) (s : State) : (s.startWake c).fab = s.fab := by
  dsimp only [State.startWake]; (repeat' split) <;> simp
@[simp] theorem State.startWake_egr (c : Nat) (s : State) : (s.startWake c).egr = s.egr := by
  dsimp only [State.startWake]; (repeat' split) <;> simp
@[simp] theorem State.startWake_ctr (c : Nat) (s : State) : (s.startWake c).ctr = s.ctr := by
  dsimp only [State.startWake]; (repeat' split) <;> simp
@[simp] theorem State.startWake_shadow (c : Nat) (s : State) : (s.startWake c).shadow = s.shadow := by
  dsimp only [State.startWake]; (repeat' split) <;> simp
@[simp] theorem State.startWake_out (c : Nat) (s : State) : (s.startWake c).out = s.out := by
  dsimp only [State.startWake]; (repeat' split) <;> simp
@[simp] theorem State.startWake_draw (c : Nat) (s : State) : (s.startWake c).draw = s.draw := by
  dsimp only [State.startWake]; (repeat' split) <;> simp
@[simp] theorem State.startWake_pending (c : Nat) (s : State) : (s.startWake c).pending = s.pending := by
  dsimp only [State.startWake]; (repeat' split) <;> simp

end Sys2Proof.Machine
end

