-- ==== Sys2Proof/Laws/Mailbox.lean ====
section
/-!
SUPPORT. What a response leaves unchanged.
-/

namespace Sys2Proof.Machine

open Sys2Proof

/-! ## State.writeResponse -/

@[simp] theorem State.writeResponse_crn (n : Nat) (e : HeldRsp) (s : State) : (s.writeResponse n e).crn = s.crn := by
  simp only [State.writeResponse, State.onPair_crn, State.sendVector_crn, State.hostWrite_crn]
  exact State.onIf_keeps (·.crn) _ _ s (State.hostWrite_crn _ _ s)
@[simp] theorem State.writeResponse_sup (n : Nat) (e : HeldRsp) (s : State) : (s.writeResponse n e).sup = s.sup := by
  simp only [State.writeResponse, State.onPair_sup, State.sendVector_sup, State.hostWrite_sup]
  exact State.onIf_keeps (·.sup) _ _ s (State.hostWrite_sup _ _ s)
@[simp] theorem State.writeResponse_tim (n : Nat) (e : HeldRsp) (s : State) : (s.writeResponse n e).tim = s.tim := by
  simp only [State.writeResponse, State.onPair_tim, State.sendVector_tim, State.hostWrite_tim]
  exact State.onIf_keeps (·.tim) _ _ s (State.hostWrite_tim _ _ s)
@[simp] theorem State.writeResponse_flt (n : Nat) (e : HeldRsp) (s : State) : (s.writeResponse n e).flt = s.flt := by
  simp only [State.writeResponse, State.onPair_flt, State.sendVector_flt, State.hostWrite_flt]
  exact State.onIf_keeps (·.flt) _ _ s (State.hostWrite_flt _ _ s)
@[simp] theorem State.writeResponse_img (n : Nat) (e : HeldRsp) (s : State) : (s.writeResponse n e).img = s.img := by
  simp only [State.writeResponse, State.onPair_img, State.sendVector_img, State.hostWrite_img]
  exact State.onIf_keeps (·.img) _ _ s (State.hostWrite_img _ _ s)
@[simp] theorem State.writeResponse_sec (n : Nat) (e : HeldRsp) (s : State) : (s.writeResponse n e).sec = s.sec := by
  simp only [State.writeResponse, State.onPair_sec, State.sendVector_sec, State.hostWrite_sec]
  exact State.onIf_keeps (·.sec) _ _ s (State.hostWrite_sec _ _ s)
@[simp] theorem State.writeResponse_stg (n : Nat) (e : HeldRsp) (s : State) : (s.writeResponse n e).stg = s.stg := by
  simp only [State.writeResponse, State.onPair_stg, State.sendVector_stg, State.hostWrite_stg]
  exact State.onIf_keeps (·.stg) _ _ s (State.hostWrite_stg _ _ s)
@[simp] theorem State.writeResponse_rng (n : Nat) (e : HeldRsp) (s : State) : (s.writeResponse n e).rng = s.rng := by
  simp only [State.writeResponse, State.onPair_rng, State.sendVector_rng, State.hostWrite_rng]
  exact State.onIf_keeps (·.rng) _ _ s (State.hostWrite_rng _ _ s)
@[simp] theorem State.writeResponse_bpm (n : Nat) (e : HeldRsp) (s : State) : (s.writeResponse n e).bpm = s.bpm := by
  simp only [State.writeResponse, State.onPair_bpm, State.sendVector_bpm, State.hostWrite_bpm]
  exact State.onIf_keeps (·.bpm) _ _ s (State.hostWrite_bpm _ _ s)
@[simp] theorem State.writeResponse_pmu (n : Nat) (e : HeldRsp) (s : State) : (s.writeResponse n e).pmu = s.pmu := by
  simp only [State.writeResponse, State.onPair_pmu, State.sendVector_pmu, State.hostWrite_pmu]
  exact State.onIf_keeps (·.pmu) _ _ s (State.hostWrite_pmu _ _ s)
@[simp] theorem State.writeResponse_prt (n : Nat) (e : HeldRsp) (s : State) : (s.writeResponse n e).prt = s.prt := by
  simp only [State.writeResponse, State.onPair_prt, State.sendVector_prt, State.hostWrite_prt]
  exact State.onIf_keeps (·.prt) _ _ s (State.hostWrite_prt _ _ s)
@[simp] theorem State.writeResponse_cel (n : Nat) (e : HeldRsp) (s : State) : (s.writeResponse n e).cel = s.cel := by
  simp only [State.writeResponse, State.onPair_cel, State.sendVector_cel, State.hostWrite_cel]
  exact State.onIf_keeps (·.cel) _ _ s (State.hostWrite_cel _ _ s)
@[simp] theorem State.writeResponse_frm (n : Nat) (e : HeldRsp) (s : State) : (s.writeResponse n e).frm = s.frm := by
  simp only [State.writeResponse, State.onPair_frm, State.sendVector_frm, State.hostWrite_frm]
  exact State.onIf_keeps (·.frm) _ _ s (State.hostWrite_frm _ _ s)
@[simp] theorem State.writeResponse_tbl (n : Nat) (e : HeldRsp) (s : State) : (s.writeResponse n e).tbl = s.tbl := by
  simp only [State.writeResponse, State.onPair_tbl, State.sendVector_tbl, State.hostWrite_tbl]
  exact State.onIf_keeps (·.tbl) _ _ s (State.hostWrite_tbl _ _ s)
@[simp] theorem State.writeResponse_flo (n : Nat) (e : HeldRsp) (s : State) : (s.writeResponse n e).flo = s.flo := by
  simp only [State.writeResponse, State.onPair_flo, State.sendVector_flo, State.hostWrite_flo]
  exact State.onIf_keeps (·.flo) _ _ s (State.hostWrite_flo _ _ s)
@[simp] theorem State.writeResponse_prg (n : Nat) (e : HeldRsp) (s : State) : (s.writeResponse n e).prg = s.prg := by
  simp only [State.writeResponse, State.onPair_prg, State.sendVector_prg, State.hostWrite_prg]
  exact State.onIf_keeps (·.prg) _ _ s (State.hostWrite_prg _ _ s)
@[simp] theorem State.writeResponse_fab (n : Nat) (e : HeldRsp) (s : State) : (s.writeResponse n e).fab = s.fab := by
  simp only [State.writeResponse, State.onPair_fab, State.sendVector_fab, State.hostWrite_fab]
  exact State.onIf_keeps (·.fab) _ _ s (State.hostWrite_fab _ _ s)
@[simp] theorem State.writeResponse_egr (n : Nat) (e : HeldRsp) (s : State) : (s.writeResponse n e).egr = s.egr := by
  simp only [State.writeResponse, State.onPair_egr, State.sendVector_egr, State.hostWrite_egr]
  exact State.onIf_keeps (·.egr) _ _ s (State.hostWrite_egr _ _ s)
@[simp] theorem State.writeResponse_ctr (n : Nat) (e : HeldRsp) (s : State) : (s.writeResponse n e).ctr = s.ctr := by
  simp only [State.writeResponse, State.onPair_ctr, State.sendVector_ctr, State.hostWrite_ctr]
  exact State.onIf_keeps (·.ctr) _ _ s (State.hostWrite_ctr _ _ s)
@[simp] theorem State.writeResponse_shadow (n : Nat) (e : HeldRsp) (s : State) : (s.writeResponse n e).shadow = s.shadow := by
  simp only [State.writeResponse, State.onPair_shadow, State.sendVector_shadow, State.hostWrite_shadow]
  exact State.onIf_keeps (·.shadow) _ _ s (State.hostWrite_shadow _ _ s)
@[simp] theorem State.writeResponse_draw (n : Nat) (e : HeldRsp) (s : State) : (s.writeResponse n e).draw = s.draw := by
  simp only [State.writeResponse, State.onPair_draw, State.sendVector_draw, State.hostWrite_draw]
  exact State.onIf_keeps (·.draw) _ _ s (State.hostWrite_draw _ _ s)
@[simp] theorem State.writeResponse_pending (n : Nat) (e : HeldRsp) (s : State) : (s.writeResponse n e).pending = s.pending := by
  simp only [State.writeResponse, State.onPair_pending, State.sendVector_pending, State.hostWrite_pending]
  exact State.onIf_keeps (·.pending) _ _ s (State.hostWrite_pending _ _ s)

/-! ## State.countDone -/

@[simp] theorem State.onIf_countDone_crn (b : Bool) (s : State) : (s.onIf b State.countDone).crn = s.crn :=
  State.onIf_keeps (·.crn) _ _ s (State.pmuEvent_crn _ _ _ _ s)
@[simp] theorem State.onIf_countDone_sup (b : Bool) (s : State) : (s.onIf b State.countDone).sup = s.sup :=
  State.onIf_keeps (·.sup) _ _ s (State.pmuEvent_sup _ _ _ _ s)
@[simp] theorem State.onIf_countDone_tim (b : Bool) (s : State) : (s.onIf b State.countDone).tim = s.tim :=
  State.onIf_keeps (·.tim) _ _ s (State.pmuEvent_tim _ _ _ _ s)
@[simp] theorem State.onIf_countDone_flt (b : Bool) (s : State) : (s.onIf b State.countDone).flt = s.flt :=
  State.onIf_keeps (·.flt) _ _ s (State.pmuEvent_flt _ _ _ _ s)
@[simp] theorem State.onIf_countDone_img (b : Bool) (s : State) : (s.onIf b State.countDone).img = s.img :=
  State.onIf_keeps (·.img) _ _ s (State.pmuEvent_img _ _ _ _ s)
@[simp] theorem State.onIf_countDone_sec (b : Bool) (s : State) : (s.onIf b State.countDone).sec = s.sec :=
  State.onIf_keeps (·.sec) _ _ s (State.pmuEvent_sec _ _ _ _ s)
@[simp] theorem State.onIf_countDone_stg (b : Bool) (s : State) : (s.onIf b State.countDone).stg = s.stg :=
  State.onIf_keeps (·.stg) _ _ s (State.pmuEvent_stg _ _ _ _ s)
@[simp] theorem State.onIf_countDone_rng (b : Bool) (s : State) : (s.onIf b State.countDone).rng = s.rng :=
  State.onIf_keeps (·.rng) _ _ s (State.pmuEvent_rng _ _ _ _ s)
@[simp] theorem State.onIf_countDone_bpm (b : Bool) (s : State) : (s.onIf b State.countDone).bpm = s.bpm :=
  State.onIf_keeps (·.bpm) _ _ s (State.pmuEvent_bpm _ _ _ _ s)
@[simp] theorem State.onIf_countDone_hif (b : Bool) (s : State) : (s.onIf b State.countDone).hif = s.hif :=
  State.onIf_keeps (·.hif) _ _ s (State.pmuEvent_hif _ _ _ _ s)
@[simp] theorem State.onIf_countDone_prt (b : Bool) (s : State) : (s.onIf b State.countDone).prt = s.prt :=
  State.onIf_keeps (·.prt) _ _ s (State.pmuEvent_prt _ _ _ _ s)
@[simp] theorem State.onIf_countDone_cel (b : Bool) (s : State) : (s.onIf b State.countDone).cel = s.cel :=
  State.onIf_keeps (·.cel) _ _ s (State.pmuEvent_cel _ _ _ _ s)
@[simp] theorem State.onIf_countDone_frm (b : Bool) (s : State) : (s.onIf b State.countDone).frm = s.frm :=
  State.onIf_keeps (·.frm) _ _ s (State.pmuEvent_frm _ _ _ _ s)
@[simp] theorem State.onIf_countDone_tbl (b : Bool) (s : State) : (s.onIf b State.countDone).tbl = s.tbl :=
  State.onIf_keeps (·.tbl) _ _ s (State.pmuEvent_tbl _ _ _ _ s)
@[simp] theorem State.onIf_countDone_flo (b : Bool) (s : State) : (s.onIf b State.countDone).flo = s.flo :=
  State.onIf_keeps (·.flo) _ _ s (State.pmuEvent_flo _ _ _ _ s)
@[simp] theorem State.onIf_countDone_prg (b : Bool) (s : State) : (s.onIf b State.countDone).prg = s.prg :=
  State.onIf_keeps (·.prg) _ _ s (State.pmuEvent_prg _ _ _ _ s)
@[simp] theorem State.onIf_countDone_fab (b : Bool) (s : State) : (s.onIf b State.countDone).fab = s.fab :=
  State.onIf_keeps (·.fab) _ _ s (State.pmuEvent_fab _ _ _ _ s)
@[simp] theorem State.onIf_countDone_egr (b : Bool) (s : State) : (s.onIf b State.countDone).egr = s.egr :=
  State.onIf_keeps (·.egr) _ _ s (State.pmuEvent_egr _ _ _ _ s)
@[simp] theorem State.onIf_countDone_ctr (b : Bool) (s : State) : (s.onIf b State.countDone).ctr = s.ctr :=
  State.onIf_keeps (·.ctr) _ _ s (State.pmuEvent_ctr _ _ _ _ s)
@[simp] theorem State.onIf_countDone_shadow (b : Bool) (s : State) : (s.onIf b State.countDone).shadow = s.shadow :=
  State.onIf_keeps (·.shadow) _ _ s (State.pmuEvent_shadow _ _ _ _ s)
@[simp] theorem State.onIf_countDone_draw (b : Bool) (s : State) : (s.onIf b State.countDone).draw = s.draw :=
  State.onIf_keeps (·.draw) _ _ s (State.pmuEvent_draw _ _ _ _ s)
@[simp] theorem State.onIf_countDone_pending (b : Bool) (s : State) : (s.onIf b State.countDone).pending = s.pending :=
  State.onIf_keeps (·.pending) _ _ s (State.pmuEvent_pending _ _ _ _ s)

/-! ## State.respond -/

@[simp] theorem State.respond_crn (op : Nat) (r : Req) (st : Nat) (ws : List Word) (s : State) : (s.respond op r st ws).crn = s.crn := by
  dsimp only [State.respond]; (repeat' split) <;> simp
@[simp] theorem State.respond_sup (op : Nat) (r : Req) (st : Nat) (ws : List Word) (s : State) : (s.respond op r st ws).sup = s.sup := by
  dsimp only [State.respond]; (repeat' split) <;> simp
@[simp] theorem State.respond_tim (op : Nat) (r : Req) (st : Nat) (ws : List Word) (s : State) : (s.respond op r st ws).tim = s.tim := by
  dsimp only [State.respond]; (repeat' split) <;> simp
@[simp] theorem State.respond_img (op : Nat) (r : Req) (st : Nat) (ws : List Word) (s : State) : (s.respond op r st ws).img = s.img := by
  dsimp only [State.respond]; (repeat' split) <;> simp
@[simp] theorem State.respond_sec (op : Nat) (r : Req) (st : Nat) (ws : List Word) (s : State) : (s.respond op r st ws).sec = s.sec := by
  dsimp only [State.respond]; (repeat' split) <;> simp
@[simp] theorem State.respond_stg (op : Nat) (r : Req) (st : Nat) (ws : List Word) (s : State) : (s.respond op r st ws).stg = s.stg := by
  dsimp only [State.respond]; (repeat' split) <;> simp
@[simp] theorem State.respond_rng (op : Nat) (r : Req) (st : Nat) (ws : List Word) (s : State) : (s.respond op r st ws).rng = s.rng := by
  dsimp only [State.respond]; (repeat' split) <;> simp
@[simp] theorem State.respond_bpm (op : Nat) (r : Req) (st : Nat) (ws : List Word) (s : State) : (s.respond op r st ws).bpm = s.bpm := by
  dsimp only [State.respond]; (repeat' split) <;> simp
@[simp] theorem State.respond_prt (op : Nat) (r : Req) (st : Nat) (ws : List Word) (s : State) : (s.respond op r st ws).prt = s.prt := by
  dsimp only [State.respond]; (repeat' split) <;> simp
@[simp] theorem State.respond_cel (op : Nat) (r : Req) (st : Nat) (ws : List Word) (s : State) : (s.respond op r st ws).cel = s.cel := by
  dsimp only [State.respond]; (repeat' split) <;> simp
@[simp] theorem State.respond_frm (op : Nat) (r : Req) (st : Nat) (ws : List Word) (s : State) : (s.respond op r st ws).frm = s.frm := by
  dsimp only [State.respond]; (repeat' split) <;> simp
@[simp] theorem State.respond_tbl (op : Nat) (r : Req) (st : Nat) (ws : List Word) (s : State) : (s.respond op r st ws).tbl = s.tbl := by
  dsimp only [State.respond]; (repeat' split) <;> simp
@[simp] theorem State.respond_flo (op : Nat) (r : Req) (st : Nat) (ws : List Word) (s : State) : (s.respond op r st ws).flo = s.flo := by
  dsimp only [State.respond]; (repeat' split) <;> simp
@[simp] theorem State.respond_prg (op : Nat) (r : Req) (st : Nat) (ws : List Word) (s : State) : (s.respond op r st ws).prg = s.prg := by
  dsimp only [State.respond]; (repeat' split) <;> simp
@[simp] theorem State.respond_fab (op : Nat) (r : Req) (st : Nat) (ws : List Word) (s : State) : (s.respond op r st ws).fab = s.fab := by
  dsimp only [State.respond]; (repeat' split) <;> simp
@[simp] theorem State.respond_egr (op : Nat) (r : Req) (st : Nat) (ws : List Word) (s : State) : (s.respond op r st ws).egr = s.egr := by
  dsimp only [State.respond]; (repeat' split) <;> simp
@[simp] theorem State.respond_ctr (op : Nat) (r : Req) (st : Nat) (ws : List Word) (s : State) : (s.respond op r st ws).ctr = s.ctr := by
  dsimp only [State.respond]; (repeat' split) <;> simp
@[simp] theorem State.respond_shadow (op : Nat) (r : Req) (st : Nat) (ws : List Word) (s : State) : (s.respond op r st ws).shadow = s.shadow := by
  dsimp only [State.respond]; (repeat' split) <;> simp
@[simp] theorem State.respond_draw (op : Nat) (r : Req) (st : Nat) (ws : List Word) (s : State) : (s.respond op r st ws).draw = s.draw := by
  dsimp only [State.respond]; (repeat' split) <;> simp
@[simp] theorem State.respond_pending (op : Nat) (r : Req) (st : Nat) (ws : List Word) (s : State) : (s.respond op r st ws).pending = s.pending := by
  dsimp only [State.respond]; (repeat' split) <;> simp

/-! ## State.answerDeferred -/

@[simp] theorem State.answerDeferred_crn (p : DeferKind → Bool) (ws : DeferKind → List Word) (s : State) : (s.answerDeferred p ws).crn = s.crn := by
  simp only [State.answerDeferred]; exact (foldl_keeps (·.crn) _ (fun a x => State.respond_crn _ _ _ _ a) _ _).trans rfl
@[simp] theorem State.answerDeferred_sup (p : DeferKind → Bool) (ws : DeferKind → List Word) (s : State) : (s.answerDeferred p ws).sup = s.sup := by
  simp only [State.answerDeferred]; exact (foldl_keeps (·.sup) _ (fun a x => State.respond_sup _ _ _ _ a) _ _).trans rfl
@[simp] theorem State.answerDeferred_tim (p : DeferKind → Bool) (ws : DeferKind → List Word) (s : State) : (s.answerDeferred p ws).tim = s.tim := by
  simp only [State.answerDeferred]; exact (foldl_keeps (·.tim) _ (fun a x => State.respond_tim _ _ _ _ a) _ _).trans rfl
@[simp] theorem State.answerDeferred_img (p : DeferKind → Bool) (ws : DeferKind → List Word) (s : State) : (s.answerDeferred p ws).img = s.img := by
  simp only [State.answerDeferred]; exact (foldl_keeps (·.img) _ (fun a x => State.respond_img _ _ _ _ a) _ _).trans rfl
@[simp] theorem State.answerDeferred_sec (p : DeferKind → Bool) (ws : DeferKind → List Word) (s : State) : (s.answerDeferred p ws).sec = s.sec := by
  simp only [State.answerDeferred]; exact (foldl_keeps (·.sec) _ (fun a x => State.respond_sec _ _ _ _ a) _ _).trans rfl
@[simp] theorem State.answerDeferred_stg (p : DeferKind → Bool) (ws : DeferKind → List Word) (s : State) : (s.answerDeferred p ws).stg = s.stg := by
  simp only [State.answerDeferred]; exact (foldl_keeps (·.stg) _ (fun a x => State.respond_stg _ _ _ _ a) _ _).trans rfl
@[simp] theorem State.answerDeferred_rng (p : DeferKind → Bool) (ws : DeferKind → List Word) (s : State) : (s.answerDeferred p ws).rng = s.rng := by
  simp only [State.answerDeferred]; exact (foldl_keeps (·.rng) _ (fun a x => State.respond_rng _ _ _ _ a) _ _).trans rfl
@[simp] theorem State.answerDeferred_bpm (p : DeferKind → Bool) (ws : DeferKind → List Word) (s : State) : (s.answerDeferred p ws).bpm = s.bpm := by
  simp only [State.answerDeferred]; exact (foldl_keeps (·.bpm) _ (fun a x => State.respond_bpm _ _ _ _ a) _ _).trans rfl
@[simp] theorem State.answerDeferred_prt (p : DeferKind → Bool) (ws : DeferKind → List Word) (s : State) : (s.answerDeferred p ws).prt = s.prt := by
  simp only [State.answerDeferred]; exact (foldl_keeps (·.prt) _ (fun a x => State.respond_prt _ _ _ _ a) _ _).trans rfl
@[simp] theorem State.answerDeferred_cel (p : DeferKind → Bool) (ws : DeferKind → List Word) (s : State) : (s.answerDeferred p ws).cel = s.cel := by
  simp only [State.answerDeferred]; exact (foldl_keeps (·.cel) _ (fun a x => State.respond_cel _ _ _ _ a) _ _).trans rfl
@[simp] theorem State.answerDeferred_frm (p : DeferKind → Bool) (ws : DeferKind → List Word) (s : State) : (s.answerDeferred p ws).frm = s.frm := by
  simp only [State.answerDeferred]; exact (foldl_keeps (·.frm) _ (fun a x => State.respond_frm _ _ _ _ a) _ _).trans rfl
@[simp] theorem State.answerDeferred_tbl (p : DeferKind → Bool) (ws : DeferKind → List Word) (s : State) : (s.answerDeferred p ws).tbl = s.tbl := by
  simp only [State.answerDeferred]; exact (foldl_keeps (·.tbl) _ (fun a x => State.respond_tbl _ _ _ _ a) _ _).trans rfl
@[simp] theorem State.answerDeferred_flo (p : DeferKind → Bool) (ws : DeferKind → List Word) (s : State) : (s.answerDeferred p ws).flo = s.flo := by
  simp only [State.answerDeferred]; exact (foldl_keeps (·.flo) _ (fun a x => State.respond_flo _ _ _ _ a) _ _).trans rfl
@[simp] theorem State.answerDeferred_prg (p : DeferKind → Bool) (ws : DeferKind → List Word) (s : State) : (s.answerDeferred p ws).prg = s.prg := by
  simp only [State.answerDeferred]; exact (foldl_keeps (·.prg) _ (fun a x => State.respond_prg _ _ _ _ a) _ _).trans rfl
@[simp] theorem State.answerDeferred_fab (p : DeferKind → Bool) (ws : DeferKind → List Word) (s : State) : (s.answerDeferred p ws).fab = s.fab := by
  simp only [State.answerDeferred]; exact (foldl_keeps (·.fab) _ (fun a x => State.respond_fab _ _ _ _ a) _ _).trans rfl
@[simp] theorem State.answerDeferred_egr (p : DeferKind → Bool) (ws : DeferKind → List Word) (s : State) : (s.answerDeferred p ws).egr = s.egr := by
  simp only [State.answerDeferred]; exact (foldl_keeps (·.egr) _ (fun a x => State.respond_egr _ _ _ _ a) _ _).trans rfl
@[simp] theorem State.answerDeferred_ctr (p : DeferKind → Bool) (ws : DeferKind → List Word) (s : State) : (s.answerDeferred p ws).ctr = s.ctr := by
  simp only [State.answerDeferred]; exact (foldl_keeps (·.ctr) _ (fun a x => State.respond_ctr _ _ _ _ a) _ _).trans rfl
@[simp] theorem State.answerDeferred_shadow (p : DeferKind → Bool) (ws : DeferKind → List Word) (s : State) : (s.answerDeferred p ws).shadow = s.shadow := by
  simp only [State.answerDeferred]; exact (foldl_keeps (·.shadow) _ (fun a x => State.respond_shadow _ _ _ _ a) _ _).trans rfl
@[simp] theorem State.answerDeferred_draw (p : DeferKind → Bool) (ws : DeferKind → List Word) (s : State) : (s.answerDeferred p ws).draw = s.draw := by
  simp only [State.answerDeferred]; exact (foldl_keeps (·.draw) _ (fun a x => State.respond_draw _ _ _ _ a) _ _).trans rfl
@[simp] theorem State.answerDeferred_pending (p : DeferKind → Bool) (ws : DeferKind → List Word) (s : State) : (s.answerDeferred p ws).pending = s.pending := by
  simp only [State.answerDeferred]; exact (foldl_keeps (·.pending) _ (fun a x => State.respond_pending _ _ _ _ a) _ _).trans rfl

end Sys2Proof.Machine
end

