-- ==== Sys2Proof/Laws/Conf.lean ====
section
/-!
SUPPORT. What staging, the journal and the publish leave unchanged.
-/

namespace Sys2Proof.Machine

open Sys2Proof

/-! ## State.stageBy -/

@[simp] theorem State.stageBy_crn (op : Nat) (r : Req) (f : Cfg → Cfg) (s : State) : (s.stageBy op r f).crn = s.crn := by simp [State.stageBy]
@[simp] theorem State.stageBy_sup (op : Nat) (r : Req) (f : Cfg → Cfg) (s : State) : (s.stageBy op r f).sup = s.sup := by simp [State.stageBy]
@[simp] theorem State.stageBy_tim (op : Nat) (r : Req) (f : Cfg → Cfg) (s : State) : (s.stageBy op r f).tim = s.tim := by simp [State.stageBy]
@[simp] theorem State.stageBy_hif (op : Nat) (r : Req) (f : Cfg → Cfg) (s : State) : (s.stageBy op r f).hif = s.hif := by simp [State.stageBy]
@[simp] theorem State.stageBy_flt (op : Nat) (r : Req) (f : Cfg → Cfg) (s : State) : (s.stageBy op r f).flt = s.flt := by simp [State.stageBy]
@[simp] theorem State.stageBy_img (op : Nat) (r : Req) (f : Cfg → Cfg) (s : State) : (s.stageBy op r f).img = s.img := by simp [State.stageBy]
@[simp] theorem State.stageBy_sec (op : Nat) (r : Req) (f : Cfg → Cfg) (s : State) : (s.stageBy op r f).sec = s.sec := by simp [State.stageBy]
@[simp] theorem State.stageBy_rng (op : Nat) (r : Req) (f : Cfg → Cfg) (s : State) : (s.stageBy op r f).rng = s.rng := by simp [State.stageBy]
@[simp] theorem State.stageBy_bpm (op : Nat) (r : Req) (f : Cfg → Cfg) (s : State) : (s.stageBy op r f).bpm = s.bpm := by simp [State.stageBy]
@[simp] theorem State.stageBy_pmu (op : Nat) (r : Req) (f : Cfg → Cfg) (s : State) : (s.stageBy op r f).pmu = s.pmu := by simp [State.stageBy]
@[simp] theorem State.stageBy_prt (op : Nat) (r : Req) (f : Cfg → Cfg) (s : State) : (s.stageBy op r f).prt = s.prt := by simp [State.stageBy]
@[simp] theorem State.stageBy_cel (op : Nat) (r : Req) (f : Cfg → Cfg) (s : State) : (s.stageBy op r f).cel = s.cel := by simp [State.stageBy]
@[simp] theorem State.stageBy_frm (op : Nat) (r : Req) (f : Cfg → Cfg) (s : State) : (s.stageBy op r f).frm = s.frm := by simp [State.stageBy]
@[simp] theorem State.stageBy_tbl (op : Nat) (r : Req) (f : Cfg → Cfg) (s : State) : (s.stageBy op r f).tbl = s.tbl := by simp [State.stageBy]
@[simp] theorem State.stageBy_flo (op : Nat) (r : Req) (f : Cfg → Cfg) (s : State) : (s.stageBy op r f).flo = s.flo := by simp [State.stageBy]
@[simp] theorem State.stageBy_prg (op : Nat) (r : Req) (f : Cfg → Cfg) (s : State) : (s.stageBy op r f).prg = s.prg := by simp [State.stageBy]
@[simp] theorem State.stageBy_fab (op : Nat) (r : Req) (f : Cfg → Cfg) (s : State) : (s.stageBy op r f).fab = s.fab := by simp [State.stageBy]
@[simp] theorem State.stageBy_egr (op : Nat) (r : Req) (f : Cfg → Cfg) (s : State) : (s.stageBy op r f).egr = s.egr := by simp [State.stageBy]
@[simp] theorem State.stageBy_ctr (op : Nat) (r : Req) (f : Cfg → Cfg) (s : State) : (s.stageBy op r f).ctr = s.ctr := by simp [State.stageBy]
@[simp] theorem State.stageBy_shadow (op : Nat) (r : Req) (f : Cfg → Cfg) (s : State) : (s.stageBy op r f).shadow = s.shadow := by simp [State.stageBy]
@[simp] theorem State.stageBy_out (op : Nat) (r : Req) (f : Cfg → Cfg) (s : State) : (s.stageBy op r f).out = s.out := by simp [State.stageBy]
@[simp] theorem State.stageBy_draw (op : Nat) (r : Req) (f : Cfg → Cfg) (s : State) : (s.stageBy op r f).draw = s.draw := by simp [State.stageBy]
@[simp] theorem State.stageBy_pending (op : Nat) (r : Req) (f : Cfg → Cfg) (s : State) : (s.stageBy op r f).pending = s.pending := by simp [State.stageBy]

/-! ## State.saveLife -/

@[simp] theorem State.saveLife_crn (s : State) : (s.saveLife).crn = s.crn := rfl
@[simp] theorem State.saveLife_tim (s : State) : (s.saveLife).tim = s.tim := rfl
@[simp] theorem State.saveLife_hif (s : State) : (s.saveLife).hif = s.hif := rfl
@[simp] theorem State.saveLife_flt (s : State) : (s.saveLife).flt = s.flt := rfl
@[simp] theorem State.saveLife_img (s : State) : (s.saveLife).img = s.img := rfl
@[simp] theorem State.saveLife_sec (s : State) : (s.saveLife).sec = s.sec := rfl
@[simp] theorem State.saveLife_stg (s : State) : (s.saveLife).stg = s.stg := rfl
@[simp] theorem State.saveLife_rng (s : State) : (s.saveLife).rng = s.rng := rfl
@[simp] theorem State.saveLife_bpm (s : State) : (s.saveLife).bpm = s.bpm := rfl
@[simp] theorem State.saveLife_pmu (s : State) : (s.saveLife).pmu = s.pmu := rfl
@[simp] theorem State.saveLife_prt (s : State) : (s.saveLife).prt = s.prt := rfl
@[simp] theorem State.saveLife_cel (s : State) : (s.saveLife).cel = s.cel := rfl
@[simp] theorem State.saveLife_frm (s : State) : (s.saveLife).frm = s.frm := rfl
@[simp] theorem State.saveLife_tbl (s : State) : (s.saveLife).tbl = s.tbl := rfl
@[simp] theorem State.saveLife_flo (s : State) : (s.saveLife).flo = s.flo := rfl
@[simp] theorem State.saveLife_prg (s : State) : (s.saveLife).prg = s.prg := rfl
@[simp] theorem State.saveLife_fab (s : State) : (s.saveLife).fab = s.fab := rfl
@[simp] theorem State.saveLife_egr (s : State) : (s.saveLife).egr = s.egr := rfl
@[simp] theorem State.saveLife_ctr (s : State) : (s.saveLife).ctr = s.ctr := rfl
@[simp] theorem State.saveLife_shadow (s : State) : (s.saveLife).shadow = s.shadow := rfl
@[simp] theorem State.saveLife_out (s : State) : (s.saveLife).out = s.out := rfl
@[simp] theorem State.saveLife_draw (s : State) : (s.saveLife).draw = s.draw := rfl
@[simp] theorem State.saveLife_pending (s : State) : (s.saveLife).pending = s.pending := rfl

/-! ## State.openSegment -/

@[simp] theorem State.openSegment_crn (b : Bool) (s : State) : (s.openSegment b).crn = s.crn := rfl
@[simp] theorem State.openSegment_sup (b : Bool) (s : State) : (s.openSegment b).sup = s.sup := rfl
@[simp] theorem State.openSegment_tim (b : Bool) (s : State) : (s.openSegment b).tim = s.tim := rfl
@[simp] theorem State.openSegment_hif (b : Bool) (s : State) : (s.openSegment b).hif = s.hif := rfl
@[simp] theorem State.openSegment_flt (b : Bool) (s : State) : (s.openSegment b).flt = s.flt := rfl
@[simp] theorem State.openSegment_sec (b : Bool) (s : State) : (s.openSegment b).sec = s.sec := rfl
@[simp] theorem State.openSegment_stg (b : Bool) (s : State) : (s.openSegment b).stg = s.stg := rfl
@[simp] theorem State.openSegment_rng (b : Bool) (s : State) : (s.openSegment b).rng = s.rng := rfl
@[simp] theorem State.openSegment_bpm (b : Bool) (s : State) : (s.openSegment b).bpm = s.bpm := rfl
@[simp] theorem State.openSegment_pmu (b : Bool) (s : State) : (s.openSegment b).pmu = s.pmu := rfl
@[simp] theorem State.openSegment_prt (b : Bool) (s : State) : (s.openSegment b).prt = s.prt := rfl
@[simp] theorem State.openSegment_cel (b : Bool) (s : State) : (s.openSegment b).cel = s.cel := rfl
@[simp] theorem State.openSegment_frm (b : Bool) (s : State) : (s.openSegment b).frm = s.frm := rfl
@[simp] theorem State.openSegment_tbl (b : Bool) (s : State) : (s.openSegment b).tbl = s.tbl := rfl
@[simp] theorem State.openSegment_flo (b : Bool) (s : State) : (s.openSegment b).flo = s.flo := rfl
@[simp] theorem State.openSegment_prg (b : Bool) (s : State) : (s.openSegment b).prg = s.prg := rfl
@[simp] theorem State.openSegment_fab (b : Bool) (s : State) : (s.openSegment b).fab = s.fab := rfl
@[simp] theorem State.openSegment_egr (b : Bool) (s : State) : (s.openSegment b).egr = s.egr := rfl
@[simp] theorem State.openSegment_ctr (b : Bool) (s : State) : (s.openSegment b).ctr = s.ctr := rfl
@[simp] theorem State.openSegment_shadow (b : Bool) (s : State) : (s.openSegment b).shadow = s.shadow := rfl
@[simp] theorem State.openSegment_out (b : Bool) (s : State) : (s.openSegment b).out = s.out := rfl
@[simp] theorem State.openSegment_draw (b : Bool) (s : State) : (s.openSegment b).draw = s.draw := rfl
@[simp] theorem State.openSegment_pending (b : Bool) (s : State) : (s.openSegment b).pending = s.pending := rfl

/-! ## State.sealDone -/

@[simp] theorem State.sealDone_crn  (s : State) : (s.sealDone).crn = s.crn := by simp [State.sealDone]
@[simp] theorem State.sealDone_sup  (s : State) : (s.sealDone).sup = s.sup := by simp [State.sealDone]
@[simp] theorem State.sealDone_tim  (s : State) : (s.sealDone).tim = s.tim := by simp [State.sealDone]
@[simp] theorem State.sealDone_hif  (s : State) : (s.sealDone).hif = s.hif := by simp [State.sealDone]
@[simp] theorem State.sealDone_flt  (s : State) : (s.sealDone).flt = s.flt := by simp [State.sealDone]
@[simp] theorem State.sealDone_sec  (s : State) : (s.sealDone).sec = s.sec := by simp [State.sealDone]
@[simp] theorem State.sealDone_stg  (s : State) : (s.sealDone).stg = s.stg := by simp [State.sealDone]
@[simp] theorem State.sealDone_rng  (s : State) : (s.sealDone).rng = s.rng := by simp [State.sealDone]
@[simp] theorem State.sealDone_bpm  (s : State) : (s.sealDone).bpm = s.bpm := by simp [State.sealDone]
@[simp] theorem State.sealDone_pmu  (s : State) : (s.sealDone).pmu = s.pmu := by simp [State.sealDone]
@[simp] theorem State.sealDone_prt  (s : State) : (s.sealDone).prt = s.prt := by simp [State.sealDone]
@[simp] theorem State.sealDone_cel  (s : State) : (s.sealDone).cel = s.cel := by simp [State.sealDone]
@[simp] theorem State.sealDone_frm  (s : State) : (s.sealDone).frm = s.frm := by simp [State.sealDone]
@[simp] theorem State.sealDone_tbl  (s : State) : (s.sealDone).tbl = s.tbl := by simp [State.sealDone]
@[simp] theorem State.sealDone_flo  (s : State) : (s.sealDone).flo = s.flo := by simp [State.sealDone]
@[simp] theorem State.sealDone_prg  (s : State) : (s.sealDone).prg = s.prg := by simp [State.sealDone]
@[simp] theorem State.sealDone_fab  (s : State) : (s.sealDone).fab = s.fab := by simp [State.sealDone]
@[simp] theorem State.sealDone_egr  (s : State) : (s.sealDone).egr = s.egr := by simp [State.sealDone]
@[simp] theorem State.sealDone_ctr  (s : State) : (s.sealDone).ctr = s.ctr := by simp [State.sealDone]
@[simp] theorem State.sealDone_shadow  (s : State) : (s.sealDone).shadow = s.shadow := by simp [State.sealDone]
@[simp] theorem State.sealDone_out  (s : State) : (s.sealDone).out = s.out := by simp [State.sealDone]
@[simp] theorem State.sealDone_draw  (s : State) : (s.sealDone).draw = s.draw := by simp [State.sealDone]
@[simp] theorem State.sealDone_pending  (s : State) : (s.sealDone).pending = s.pending := by simp [State.sealDone]

/-! ## State.sealBegin -/

@[simp] theorem State.sealBegin_crn (s : State) : (s.sealBegin).crn = s.crn := by
  dsimp only [State.sealBegin]; split <;> rfl
@[simp] theorem State.sealBegin_tim (s : State) : (s.sealBegin).tim = s.tim := by
  dsimp only [State.sealBegin]; split <;> rfl
@[simp] theorem State.sealBegin_hif (s : State) : (s.sealBegin).hif = s.hif := by
  dsimp only [State.sealBegin]; split <;> rfl
@[simp] theorem State.sealBegin_flt (s : State) : (s.sealBegin).flt = s.flt := by
  dsimp only [State.sealBegin]; split <;> rfl
@[simp] theorem State.sealBegin_sec (s : State) : (s.sealBegin).sec = s.sec := by
  dsimp only [State.sealBegin]; split <;> rfl
@[simp] theorem State.sealBegin_stg (s : State) : (s.sealBegin).stg = s.stg := by
  dsimp only [State.sealBegin]; split <;> rfl
@[simp] theorem State.sealBegin_rng (s : State) : (s.sealBegin).rng = s.rng := by
  dsimp only [State.sealBegin]; split <;> rfl
@[simp] theorem State.sealBegin_bpm (s : State) : (s.sealBegin).bpm = s.bpm := by
  dsimp only [State.sealBegin]; split <;> rfl
@[simp] theorem State.sealBegin_pmu (s : State) : (s.sealBegin).pmu = s.pmu := by
  dsimp only [State.sealBegin]; split <;> rfl
@[simp] theorem State.sealBegin_prt (s : State) : (s.sealBegin).prt = s.prt := by
  dsimp only [State.sealBegin]; split <;> rfl
@[simp] theorem State.sealBegin_cel (s : State) : (s.sealBegin).cel = s.cel := by
  dsimp only [State.sealBegin]; split <;> rfl
@[simp] theorem State.sealBegin_frm (s : State) : (s.sealBegin).frm = s.frm := by
  dsimp only [State.sealBegin]; split <;> rfl
@[simp] theorem State.sealBegin_tbl (s : State) : (s.sealBegin).tbl = s.tbl := by
  dsimp only [State.sealBegin]; split <;> rfl
@[simp] theorem State.sealBegin_flo (s : State) : (s.sealBegin).flo = s.flo := by
  dsimp only [State.sealBegin]; split <;> rfl
@[simp] theorem State.sealBegin_prg (s : State) : (s.sealBegin).prg = s.prg := by
  dsimp only [State.sealBegin]; split <;> rfl
@[simp] theorem State.sealBegin_fab (s : State) : (s.sealBegin).fab = s.fab := by
  dsimp only [State.sealBegin]; split <;> rfl
@[simp] theorem State.sealBegin_egr (s : State) : (s.sealBegin).egr = s.egr := by
  dsimp only [State.sealBegin]; split <;> rfl
@[simp] theorem State.sealBegin_ctr (s : State) : (s.sealBegin).ctr = s.ctr := by
  dsimp only [State.sealBegin]; split <;> rfl
@[simp] theorem State.sealBegin_shadow (s : State) : (s.sealBegin).shadow = s.shadow := by
  dsimp only [State.sealBegin]; split <;> rfl
@[simp] theorem State.sealBegin_out (s : State) : (s.sealBegin).out = s.out := by
  dsimp only [State.sealBegin]; split <;> rfl
@[simp] theorem State.sealBegin_draw (s : State) : (s.sealBegin).draw = s.draw := by
  dsimp only [State.sealBegin]; split <;> rfl
@[simp] theorem State.sealBegin_pending (s : State) : (s.sealBegin).pending = s.pending := by
  dsimp only [State.sealBegin]; split <;> rfl

/-! ## State.sealNow -/

@[simp] theorem State.sealNow_crn (s : State) : (s.sealNow).crn = s.crn := by simp [State.sealNow]
@[simp] theorem State.sealNow_tim (s : State) : (s.sealNow).tim = s.tim := by simp [State.sealNow]
@[simp] theorem State.sealNow_hif (s : State) : (s.sealNow).hif = s.hif := by simp [State.sealNow]
@[simp] theorem State.sealNow_flt (s : State) : (s.sealNow).flt = s.flt := by simp [State.sealNow]
@[simp] theorem State.sealNow_sec (s : State) : (s.sealNow).sec = s.sec := by simp [State.sealNow]
@[simp] theorem State.sealNow_stg (s : State) : (s.sealNow).stg = s.stg := by simp [State.sealNow]
@[simp] theorem State.sealNow_rng (s : State) : (s.sealNow).rng = s.rng := by simp [State.sealNow]
@[simp] theorem State.sealNow_bpm (s : State) : (s.sealNow).bpm = s.bpm := by simp [State.sealNow]
@[simp] theorem State.sealNow_pmu (s : State) : (s.sealNow).pmu = s.pmu := by simp [State.sealNow]
@[simp] theorem State.sealNow_prt (s : State) : (s.sealNow).prt = s.prt := by simp [State.sealNow]
@[simp] theorem State.sealNow_cel (s : State) : (s.sealNow).cel = s.cel := by simp [State.sealNow]
@[simp] theorem State.sealNow_frm (s : State) : (s.sealNow).frm = s.frm := by simp [State.sealNow]
@[simp] theorem State.sealNow_tbl (s : State) : (s.sealNow).tbl = s.tbl := by simp [State.sealNow]
@[simp] theorem State.sealNow_flo (s : State) : (s.sealNow).flo = s.flo := by simp [State.sealNow]
@[simp] theorem State.sealNow_prg (s : State) : (s.sealNow).prg = s.prg := by simp [State.sealNow]
@[simp] theorem State.sealNow_fab (s : State) : (s.sealNow).fab = s.fab := by simp [State.sealNow]
@[simp] theorem State.sealNow_egr (s : State) : (s.sealNow).egr = s.egr := by simp [State.sealNow]
@[simp] theorem State.sealNow_ctr (s : State) : (s.sealNow).ctr = s.ctr := by simp [State.sealNow]
@[simp] theorem State.sealNow_shadow (s : State) : (s.sealNow).shadow = s.shadow := by simp [State.sealNow]
@[simp] theorem State.sealNow_out (s : State) : (s.sealNow).out = s.out := by simp [State.sealNow]
@[simp] theorem State.sealNow_draw (s : State) : (s.sealNow).draw = s.draw := by simp [State.sealNow]
@[simp] theorem State.sealNow_pending (s : State) : (s.sealNow).pending = s.pending := by simp [State.sealNow]

/-! ## State.appendRecord -/

@[simp] theorem State.appendRecord_crn (r : List Word) (s : State) : (s.appendRecord r).crn = s.crn := by
  have h : ∀ b, (s.onIf b State.sealNow).crn = s.crn := fun b => State.onIf_keeps (·.crn) _ _ _ (State.sealNow_crn s)
  dsimp only [State.appendRecord]; simp only [State.onImg_crn]; split <;> simp [h]
@[simp] theorem State.appendRecord_tim (r : List Word) (s : State) : (s.appendRecord r).tim = s.tim := by
  have h : ∀ b, (s.onIf b State.sealNow).tim = s.tim := fun b => State.onIf_keeps (·.tim) _ _ _ (State.sealNow_tim s)
  dsimp only [State.appendRecord]; simp only [State.onImg_tim]; split <;> simp [h]
@[simp] theorem State.appendRecord_hif (r : List Word) (s : State) : (s.appendRecord r).hif = s.hif := by
  have h : ∀ b, (s.onIf b State.sealNow).hif = s.hif := fun b => State.onIf_keeps (·.hif) _ _ _ (State.sealNow_hif s)
  dsimp only [State.appendRecord]; simp only [State.onImg_hif]; split <;> simp [h]
@[simp] theorem State.appendRecord_flt (r : List Word) (s : State) : (s.appendRecord r).flt = s.flt := by
  have h : ∀ b, (s.onIf b State.sealNow).flt = s.flt := fun b => State.onIf_keeps (·.flt) _ _ _ (State.sealNow_flt s)
  dsimp only [State.appendRecord]; simp only [State.onImg_flt]; split <;> simp [h]
@[simp] theorem State.appendRecord_sec (r : List Word) (s : State) : (s.appendRecord r).sec = s.sec := by
  have h : ∀ b, (s.onIf b State.sealNow).sec = s.sec := fun b => State.onIf_keeps (·.sec) _ _ _ (State.sealNow_sec s)
  dsimp only [State.appendRecord]; simp only [State.onImg_sec]; split <;> simp [h]
@[simp] theorem State.appendRecord_stg (r : List Word) (s : State) : (s.appendRecord r).stg = s.stg := by
  have h : ∀ b, (s.onIf b State.sealNow).stg = s.stg := fun b => State.onIf_keeps (·.stg) _ _ _ (State.sealNow_stg s)
  dsimp only [State.appendRecord]; simp only [State.onImg_stg]; split <;> simp [h]
@[simp] theorem State.appendRecord_rng (r : List Word) (s : State) : (s.appendRecord r).rng = s.rng := by
  have h : ∀ b, (s.onIf b State.sealNow).rng = s.rng := fun b => State.onIf_keeps (·.rng) _ _ _ (State.sealNow_rng s)
  dsimp only [State.appendRecord]; simp only [State.onImg_rng]; split <;> simp [h]
@[simp] theorem State.appendRecord_bpm (r : List Word) (s : State) : (s.appendRecord r).bpm = s.bpm := by
  have h : ∀ b, (s.onIf b State.sealNow).bpm = s.bpm := fun b => State.onIf_keeps (·.bpm) _ _ _ (State.sealNow_bpm s)
  dsimp only [State.appendRecord]; simp only [State.onImg_bpm]; split <;> simp [h]
@[simp] theorem State.appendRecord_pmu (r : List Word) (s : State) : (s.appendRecord r).pmu = s.pmu := by
  have h : ∀ b, (s.onIf b State.sealNow).pmu = s.pmu := fun b => State.onIf_keeps (·.pmu) _ _ _ (State.sealNow_pmu s)
  dsimp only [State.appendRecord]; simp only [State.onImg_pmu]; split <;> simp [h]
@[simp] theorem State.appendRecord_prt (r : List Word) (s : State) : (s.appendRecord r).prt = s.prt := by
  have h : ∀ b, (s.onIf b State.sealNow).prt = s.prt := fun b => State.onIf_keeps (·.prt) _ _ _ (State.sealNow_prt s)
  dsimp only [State.appendRecord]; simp only [State.onImg_prt]; split <;> simp [h]
@[simp] theorem State.appendRecord_cel (r : List Word) (s : State) : (s.appendRecord r).cel = s.cel := by
  have h : ∀ b, (s.onIf b State.sealNow).cel = s.cel := fun b => State.onIf_keeps (·.cel) _ _ _ (State.sealNow_cel s)
  dsimp only [State.appendRecord]; simp only [State.onImg_cel]; split <;> simp [h]
@[simp] theorem State.appendRecord_frm (r : List Word) (s : State) : (s.appendRecord r).frm = s.frm := by
  have h : ∀ b, (s.onIf b State.sealNow).frm = s.frm := fun b => State.onIf_keeps (·.frm) _ _ _ (State.sealNow_frm s)
  dsimp only [State.appendRecord]; simp only [State.onImg_frm]; split <;> simp [h]
@[simp] theorem State.appendRecord_tbl (r : List Word) (s : State) : (s.appendRecord r).tbl = s.tbl := by
  have h : ∀ b, (s.onIf b State.sealNow).tbl = s.tbl := fun b => State.onIf_keeps (·.tbl) _ _ _ (State.sealNow_tbl s)
  dsimp only [State.appendRecord]; simp only [State.onImg_tbl]; split <;> simp [h]
@[simp] theorem State.appendRecord_flo (r : List Word) (s : State) : (s.appendRecord r).flo = s.flo := by
  have h : ∀ b, (s.onIf b State.sealNow).flo = s.flo := fun b => State.onIf_keeps (·.flo) _ _ _ (State.sealNow_flo s)
  dsimp only [State.appendRecord]; simp only [State.onImg_flo]; split <;> simp [h]
@[simp] theorem State.appendRecord_prg (r : List Word) (s : State) : (s.appendRecord r).prg = s.prg := by
  have h : ∀ b, (s.onIf b State.sealNow).prg = s.prg := fun b => State.onIf_keeps (·.prg) _ _ _ (State.sealNow_prg s)
  dsimp only [State.appendRecord]; simp only [State.onImg_prg]; split <;> simp [h]
@[simp] theorem State.appendRecord_fab (r : List Word) (s : State) : (s.appendRecord r).fab = s.fab := by
  have h : ∀ b, (s.onIf b State.sealNow).fab = s.fab := fun b => State.onIf_keeps (·.fab) _ _ _ (State.sealNow_fab s)
  dsimp only [State.appendRecord]; simp only [State.onImg_fab]; split <;> simp [h]
@[simp] theorem State.appendRecord_egr (r : List Word) (s : State) : (s.appendRecord r).egr = s.egr := by
  have h : ∀ b, (s.onIf b State.sealNow).egr = s.egr := fun b => State.onIf_keeps (·.egr) _ _ _ (State.sealNow_egr s)
  dsimp only [State.appendRecord]; simp only [State.onImg_egr]; split <;> simp [h]
@[simp] theorem State.appendRecord_ctr (r : List Word) (s : State) : (s.appendRecord r).ctr = s.ctr := by
  have h : ∀ b, (s.onIf b State.sealNow).ctr = s.ctr := fun b => State.onIf_keeps (·.ctr) _ _ _ (State.sealNow_ctr s)
  dsimp only [State.appendRecord]; simp only [State.onImg_ctr]; split <;> simp [h]
@[simp] theorem State.appendRecord_shadow (r : List Word) (s : State) : (s.appendRecord r).shadow = s.shadow := by
  have h : ∀ b, (s.onIf b State.sealNow).shadow = s.shadow := fun b => State.onIf_keeps (·.shadow) _ _ _ (State.sealNow_shadow s)
  dsimp only [State.appendRecord]; simp only [State.onImg_shadow]; split <;> simp [h]
@[simp] theorem State.appendRecord_out (r : List Word) (s : State) : (s.appendRecord r).out = s.out := by
  have h : ∀ b, (s.onIf b State.sealNow).out = s.out := fun b => State.onIf_keeps (·.out) _ _ _ (State.sealNow_out s)
  dsimp only [State.appendRecord]; simp only [State.onImg_out]; split <;> simp [h]
@[simp] theorem State.appendRecord_draw (r : List Word) (s : State) : (s.appendRecord r).draw = s.draw := by
  have h : ∀ b, (s.onIf b State.sealNow).draw = s.draw := fun b => State.onIf_keeps (·.draw) _ _ _ (State.sealNow_draw s)
  dsimp only [State.appendRecord]; simp only [State.onImg_draw]; split <;> simp [h]
@[simp] theorem State.appendRecord_pending (r : List Word) (s : State) : (s.appendRecord r).pending = s.pending := by
  have h : ∀ b, (s.onIf b State.sealNow).pending = s.pending := fun b => State.onIf_keeps (·.pending) _ _ _ (State.sealNow_pending s)
  dsimp only [State.appendRecord]; simp only [State.onImg_pending]; split <;> simp [h]

/-! ## State.checkpoint -/

@[simp] theorem State.checkpoint_crn (s : State) : (s.checkpoint).crn = s.crn := by
  simp only [State.checkpoint, State.onImg_crn, State.sealNow_crn]
  exact (foldl_keeps (·.crn) _ (fun a x => State.appendRecord_crn x a) _ _).trans rfl
@[simp] theorem State.checkpoint_tim (s : State) : (s.checkpoint).tim = s.tim := by
  simp only [State.checkpoint, State.onImg_tim, State.sealNow_tim]
  exact (foldl_keeps (·.tim) _ (fun a x => State.appendRecord_tim x a) _ _).trans rfl
@[simp] theorem State.checkpoint_hif (s : State) : (s.checkpoint).hif = s.hif := by
  simp only [State.checkpoint, State.onImg_hif, State.sealNow_hif]
  exact (foldl_keeps (·.hif) _ (fun a x => State.appendRecord_hif x a) _ _).trans rfl
@[simp] theorem State.checkpoint_flt (s : State) : (s.checkpoint).flt = s.flt := by
  simp only [State.checkpoint, State.onImg_flt, State.sealNow_flt]
  exact (foldl_keeps (·.flt) _ (fun a x => State.appendRecord_flt x a) _ _).trans rfl
@[simp] theorem State.checkpoint_sec (s : State) : (s.checkpoint).sec = s.sec := by
  simp only [State.checkpoint, State.onImg_sec, State.sealNow_sec]
  exact (foldl_keeps (·.sec) _ (fun a x => State.appendRecord_sec x a) _ _).trans rfl
@[simp] theorem State.checkpoint_stg (s : State) : (s.checkpoint).stg = s.stg := by
  simp only [State.checkpoint, State.onImg_stg, State.sealNow_stg]
  exact (foldl_keeps (·.stg) _ (fun a x => State.appendRecord_stg x a) _ _).trans rfl
@[simp] theorem State.checkpoint_rng (s : State) : (s.checkpoint).rng = s.rng := by
  simp only [State.checkpoint, State.onImg_rng, State.sealNow_rng]
  exact (foldl_keeps (·.rng) _ (fun a x => State.appendRecord_rng x a) _ _).trans rfl
@[simp] theorem State.checkpoint_bpm (s : State) : (s.checkpoint).bpm = s.bpm := by
  simp only [State.checkpoint, State.onImg_bpm, State.sealNow_bpm]
  exact (foldl_keeps (·.bpm) _ (fun a x => State.appendRecord_bpm x a) _ _).trans rfl
@[simp] theorem State.checkpoint_pmu (s : State) : (s.checkpoint).pmu = s.pmu := by
  simp only [State.checkpoint, State.onImg_pmu, State.sealNow_pmu]
  exact (foldl_keeps (·.pmu) _ (fun a x => State.appendRecord_pmu x a) _ _).trans rfl
@[simp] theorem State.checkpoint_prt (s : State) : (s.checkpoint).prt = s.prt := by
  simp only [State.checkpoint, State.onImg_prt, State.sealNow_prt]
  exact (foldl_keeps (·.prt) _ (fun a x => State.appendRecord_prt x a) _ _).trans rfl
@[simp] theorem State.checkpoint_cel (s : State) : (s.checkpoint).cel = s.cel := by
  simp only [State.checkpoint, State.onImg_cel, State.sealNow_cel]
  exact (foldl_keeps (·.cel) _ (fun a x => State.appendRecord_cel x a) _ _).trans rfl
@[simp] theorem State.checkpoint_frm (s : State) : (s.checkpoint).frm = s.frm := by
  simp only [State.checkpoint, State.onImg_frm, State.sealNow_frm]
  exact (foldl_keeps (·.frm) _ (fun a x => State.appendRecord_frm x a) _ _).trans rfl
@[simp] theorem State.checkpoint_tbl (s : State) : (s.checkpoint).tbl = s.tbl := by
  simp only [State.checkpoint, State.onImg_tbl, State.sealNow_tbl]
  exact (foldl_keeps (·.tbl) _ (fun a x => State.appendRecord_tbl x a) _ _).trans rfl
@[simp] theorem State.checkpoint_flo (s : State) : (s.checkpoint).flo = s.flo := by
  simp only [State.checkpoint, State.onImg_flo, State.sealNow_flo]
  exact (foldl_keeps (·.flo) _ (fun a x => State.appendRecord_flo x a) _ _).trans rfl
@[simp] theorem State.checkpoint_prg (s : State) : (s.checkpoint).prg = s.prg := by
  simp only [State.checkpoint, State.onImg_prg, State.sealNow_prg]
  exact (foldl_keeps (·.prg) _ (fun a x => State.appendRecord_prg x a) _ _).trans rfl
@[simp] theorem State.checkpoint_fab (s : State) : (s.checkpoint).fab = s.fab := by
  simp only [State.checkpoint, State.onImg_fab, State.sealNow_fab]
  exact (foldl_keeps (·.fab) _ (fun a x => State.appendRecord_fab x a) _ _).trans rfl
@[simp] theorem State.checkpoint_egr (s : State) : (s.checkpoint).egr = s.egr := by
  simp only [State.checkpoint, State.onImg_egr, State.sealNow_egr]
  exact (foldl_keeps (·.egr) _ (fun a x => State.appendRecord_egr x a) _ _).trans rfl
@[simp] theorem State.checkpoint_ctr (s : State) : (s.checkpoint).ctr = s.ctr := by
  simp only [State.checkpoint, State.onImg_ctr, State.sealNow_ctr]
  exact (foldl_keeps (·.ctr) _ (fun a x => State.appendRecord_ctr x a) _ _).trans rfl
@[simp] theorem State.checkpoint_shadow (s : State) : (s.checkpoint).shadow = s.shadow := by
  simp only [State.checkpoint, State.onImg_shadow, State.sealNow_shadow]
  exact (foldl_keeps (·.shadow) _ (fun a x => State.appendRecord_shadow x a) _ _).trans rfl
@[simp] theorem State.checkpoint_out (s : State) : (s.checkpoint).out = s.out := by
  simp only [State.checkpoint, State.onImg_out, State.sealNow_out]
  exact (foldl_keeps (·.out) _ (fun a x => State.appendRecord_out x a) _ _).trans rfl
@[simp] theorem State.checkpoint_draw (s : State) : (s.checkpoint).draw = s.draw := by
  simp only [State.checkpoint, State.onImg_draw, State.sealNow_draw]
  exact (foldl_keeps (·.draw) _ (fun a x => State.appendRecord_draw x a) _ _).trans rfl
@[simp] theorem State.checkpoint_pending (s : State) : (s.checkpoint).pending = s.pending := by
  simp only [State.checkpoint, State.onImg_pending, State.sealNow_pending]
  exact (foldl_keeps (·.pending) _ (fun a x => State.appendRecord_pending x a) _ _).trans rfl

/-! ## State.appendJournal -/

@[simp] theorem State.appendJournal_crn (l : List (List Word)) (s : State) : (s.appendJournal l).crn = s.crn := by
  unfold State.appendJournal; split
  · exact (State.onIf_keeps (·.crn) _ _ _ (State.checkpoint_crn _)).trans (foldl_keeps (·.crn) _ (fun a x => State.appendRecord_crn x a) _ _)
  · rfl
@[simp] theorem State.appendJournal_tim (l : List (List Word)) (s : State) : (s.appendJournal l).tim = s.tim := by
  unfold State.appendJournal; split
  · exact (State.onIf_keeps (·.tim) _ _ _ (State.checkpoint_tim _)).trans (foldl_keeps (·.tim) _ (fun a x => State.appendRecord_tim x a) _ _)
  · rfl
@[simp] theorem State.appendJournal_hif (l : List (List Word)) (s : State) : (s.appendJournal l).hif = s.hif := by
  unfold State.appendJournal; split
  · exact (State.onIf_keeps (·.hif) _ _ _ (State.checkpoint_hif _)).trans (foldl_keeps (·.hif) _ (fun a x => State.appendRecord_hif x a) _ _)
  · rfl
@[simp] theorem State.appendJournal_flt (l : List (List Word)) (s : State) : (s.appendJournal l).flt = s.flt := by
  unfold State.appendJournal; split
  · exact (State.onIf_keeps (·.flt) _ _ _ (State.checkpoint_flt _)).trans (foldl_keeps (·.flt) _ (fun a x => State.appendRecord_flt x a) _ _)
  · rfl
@[simp] theorem State.appendJournal_sec (l : List (List Word)) (s : State) : (s.appendJournal l).sec = s.sec := by
  unfold State.appendJournal; split
  · exact (State.onIf_keeps (·.sec) _ _ _ (State.checkpoint_sec _)).trans (foldl_keeps (·.sec) _ (fun a x => State.appendRecord_sec x a) _ _)
  · rfl
@[simp] theorem State.appendJournal_stg (l : List (List Word)) (s : State) : (s.appendJournal l).stg = s.stg := by
  unfold State.appendJournal; split
  · exact (State.onIf_keeps (·.stg) _ _ _ (State.checkpoint_stg _)).trans (foldl_keeps (·.stg) _ (fun a x => State.appendRecord_stg x a) _ _)
  · rfl
@[simp] theorem State.appendJournal_rng (l : List (List Word)) (s : State) : (s.appendJournal l).rng = s.rng := by
  unfold State.appendJournal; split
  · exact (State.onIf_keeps (·.rng) _ _ _ (State.checkpoint_rng _)).trans (foldl_keeps (·.rng) _ (fun a x => State.appendRecord_rng x a) _ _)
  · rfl
@[simp] theorem State.appendJournal_bpm (l : List (List Word)) (s : State) : (s.appendJournal l).bpm = s.bpm := by
  unfold State.appendJournal; split
  · exact (State.onIf_keeps (·.bpm) _ _ _ (State.checkpoint_bpm _)).trans (foldl_keeps (·.bpm) _ (fun a x => State.appendRecord_bpm x a) _ _)
  · rfl
@[simp] theorem State.appendJournal_pmu (l : List (List Word)) (s : State) : (s.appendJournal l).pmu = s.pmu := by
  unfold State.appendJournal; split
  · exact (State.onIf_keeps (·.pmu) _ _ _ (State.checkpoint_pmu _)).trans (foldl_keeps (·.pmu) _ (fun a x => State.appendRecord_pmu x a) _ _)
  · rfl
@[simp] theorem State.appendJournal_prt (l : List (List Word)) (s : State) : (s.appendJournal l).prt = s.prt := by
  unfold State.appendJournal; split
  · exact (State.onIf_keeps (·.prt) _ _ _ (State.checkpoint_prt _)).trans (foldl_keeps (·.prt) _ (fun a x => State.appendRecord_prt x a) _ _)
  · rfl
@[simp] theorem State.appendJournal_cel (l : List (List Word)) (s : State) : (s.appendJournal l).cel = s.cel := by
  unfold State.appendJournal; split
  · exact (State.onIf_keeps (·.cel) _ _ _ (State.checkpoint_cel _)).trans (foldl_keeps (·.cel) _ (fun a x => State.appendRecord_cel x a) _ _)
  · rfl
@[simp] theorem State.appendJournal_frm (l : List (List Word)) (s : State) : (s.appendJournal l).frm = s.frm := by
  unfold State.appendJournal; split
  · exact (State.onIf_keeps (·.frm) _ _ _ (State.checkpoint_frm _)).trans (foldl_keeps (·.frm) _ (fun a x => State.appendRecord_frm x a) _ _)
  · rfl
@[simp] theorem State.appendJournal_tbl (l : List (List Word)) (s : State) : (s.appendJournal l).tbl = s.tbl := by
  unfold State.appendJournal; split
  · exact (State.onIf_keeps (·.tbl) _ _ _ (State.checkpoint_tbl _)).trans (foldl_keeps (·.tbl) _ (fun a x => State.appendRecord_tbl x a) _ _)
  · rfl
@[simp] theorem State.appendJournal_flo (l : List (List Word)) (s : State) : (s.appendJournal l).flo = s.flo := by
  unfold State.appendJournal; split
  · exact (State.onIf_keeps (·.flo) _ _ _ (State.checkpoint_flo _)).trans (foldl_keeps (·.flo) _ (fun a x => State.appendRecord_flo x a) _ _)
  · rfl
@[simp] theorem State.appendJournal_prg (l : List (List Word)) (s : State) : (s.appendJournal l).prg = s.prg := by
  unfold State.appendJournal; split
  · exact (State.onIf_keeps (·.prg) _ _ _ (State.checkpoint_prg _)).trans (foldl_keeps (·.prg) _ (fun a x => State.appendRecord_prg x a) _ _)
  · rfl
@[simp] theorem State.appendJournal_fab (l : List (List Word)) (s : State) : (s.appendJournal l).fab = s.fab := by
  unfold State.appendJournal; split
  · exact (State.onIf_keeps (·.fab) _ _ _ (State.checkpoint_fab _)).trans (foldl_keeps (·.fab) _ (fun a x => State.appendRecord_fab x a) _ _)
  · rfl
@[simp] theorem State.appendJournal_egr (l : List (List Word)) (s : State) : (s.appendJournal l).egr = s.egr := by
  unfold State.appendJournal; split
  · exact (State.onIf_keeps (·.egr) _ _ _ (State.checkpoint_egr _)).trans (foldl_keeps (·.egr) _ (fun a x => State.appendRecord_egr x a) _ _)
  · rfl
@[simp] theorem State.appendJournal_ctr (l : List (List Word)) (s : State) : (s.appendJournal l).ctr = s.ctr := by
  unfold State.appendJournal; split
  · exact (State.onIf_keeps (·.ctr) _ _ _ (State.checkpoint_ctr _)).trans (foldl_keeps (·.ctr) _ (fun a x => State.appendRecord_ctr x a) _ _)
  · rfl
@[simp] theorem State.appendJournal_shadow (l : List (List Word)) (s : State) : (s.appendJournal l).shadow = s.shadow := by
  unfold State.appendJournal; split
  · exact (State.onIf_keeps (·.shadow) _ _ _ (State.checkpoint_shadow _)).trans (foldl_keeps (·.shadow) _ (fun a x => State.appendRecord_shadow x a) _ _)
  · rfl
@[simp] theorem State.appendJournal_out (l : List (List Word)) (s : State) : (s.appendJournal l).out = s.out := by
  unfold State.appendJournal; split
  · exact (State.onIf_keeps (·.out) _ _ _ (State.checkpoint_out _)).trans (foldl_keeps (·.out) _ (fun a x => State.appendRecord_out x a) _ _)
  · rfl
@[simp] theorem State.appendJournal_draw (l : List (List Word)) (s : State) : (s.appendJournal l).draw = s.draw := by
  unfold State.appendJournal; split
  · exact (State.onIf_keeps (·.draw) _ _ _ (State.checkpoint_draw _)).trans (foldl_keeps (·.draw) _ (fun a x => State.appendRecord_draw x a) _ _)
  · rfl
@[simp] theorem State.appendJournal_pending (l : List (List Word)) (s : State) : (s.appendJournal l).pending = s.pending := by
  unfold State.appendJournal; split
  · exact (State.onIf_keeps (·.pending) _ _ _ (State.checkpoint_pending _)).trans (foldl_keeps (·.pending) _ (fun a x => State.appendRecord_pending x a) _ _)
  · rfl

/-! ## State.setImm -/

@[simp] theorem State.setImm_crn (op : Nat) (r : Req) (f : Cfg → Cfg) (s : State) : (s.setImm op r f).crn = s.crn := by simp [State.setImm]
@[simp] theorem State.setImm_tim (op : Nat) (r : Req) (f : Cfg → Cfg) (s : State) : (s.setImm op r f).tim = s.tim := by simp [State.setImm]
@[simp] theorem State.setImm_hif (op : Nat) (r : Req) (f : Cfg → Cfg) (s : State) : (s.setImm op r f).hif = s.hif := by simp [State.setImm]
@[simp] theorem State.setImm_flt (op : Nat) (r : Req) (f : Cfg → Cfg) (s : State) : (s.setImm op r f).flt = s.flt := by simp [State.setImm]
@[simp] theorem State.setImm_sec (op : Nat) (r : Req) (f : Cfg → Cfg) (s : State) : (s.setImm op r f).sec = s.sec := by simp [State.setImm]
@[simp] theorem State.setImm_rng (op : Nat) (r : Req) (f : Cfg → Cfg) (s : State) : (s.setImm op r f).rng = s.rng := by simp [State.setImm]
@[simp] theorem State.setImm_bpm (op : Nat) (r : Req) (f : Cfg → Cfg) (s : State) : (s.setImm op r f).bpm = s.bpm := by simp [State.setImm]
@[simp] theorem State.setImm_pmu (op : Nat) (r : Req) (f : Cfg → Cfg) (s : State) : (s.setImm op r f).pmu = s.pmu := by simp [State.setImm]
@[simp] theorem State.setImm_prt (op : Nat) (r : Req) (f : Cfg → Cfg) (s : State) : (s.setImm op r f).prt = s.prt := by simp [State.setImm]
@[simp] theorem State.setImm_cel (op : Nat) (r : Req) (f : Cfg → Cfg) (s : State) : (s.setImm op r f).cel = s.cel := by simp [State.setImm]
@[simp] theorem State.setImm_frm (op : Nat) (r : Req) (f : Cfg → Cfg) (s : State) : (s.setImm op r f).frm = s.frm := by simp [State.setImm]
@[simp] theorem State.setImm_tbl (op : Nat) (r : Req) (f : Cfg → Cfg) (s : State) : (s.setImm op r f).tbl = s.tbl := by simp [State.setImm]
@[simp] theorem State.setImm_flo (op : Nat) (r : Req) (f : Cfg → Cfg) (s : State) : (s.setImm op r f).flo = s.flo := by simp [State.setImm]
@[simp] theorem State.setImm_prg (op : Nat) (r : Req) (f : Cfg → Cfg) (s : State) : (s.setImm op r f).prg = s.prg := by simp [State.setImm]
@[simp] theorem State.setImm_fab (op : Nat) (r : Req) (f : Cfg → Cfg) (s : State) : (s.setImm op r f).fab = s.fab := by simp [State.setImm]
@[simp] theorem State.setImm_egr (op : Nat) (r : Req) (f : Cfg → Cfg) (s : State) : (s.setImm op r f).egr = s.egr := by simp [State.setImm]
@[simp] theorem State.setImm_ctr (op : Nat) (r : Req) (f : Cfg → Cfg) (s : State) : (s.setImm op r f).ctr = s.ctr := by simp [State.setImm]
@[simp] theorem State.setImm_shadow (op : Nat) (r : Req) (f : Cfg → Cfg) (s : State) : (s.setImm op r f).shadow = s.shadow := by simp [State.setImm]
@[simp] theorem State.setImm_out (op : Nat) (r : Req) (f : Cfg → Cfg) (s : State) : (s.setImm op r f).out = s.out := by simp [State.setImm]
@[simp] theorem State.setImm_draw (op : Nat) (r : Req) (f : Cfg → Cfg) (s : State) : (s.setImm op r f).draw = s.draw := by simp [State.setImm]
@[simp] theorem State.setImm_pending (op : Nat) (r : Req) (f : Cfg → Cfg) (s : State) : (s.setImm op r f).pending = s.pending := by simp [State.setImm]

/-! ## State.dropReplaced -/

@[simp] theorem State.dropReplaced_crn  (s : State) : (s.dropReplaced).crn = s.crn := by
  simp only [State.dropReplaced, State.onTbl_crn]; exact foldl_keeps (·.crn) _ (fun a x => State.onCell_crn _ _ a) _ s
@[simp] theorem State.dropReplaced_sup  (s : State) : (s.dropReplaced).sup = s.sup := by
  simp only [State.dropReplaced, State.onTbl_sup]; exact foldl_keeps (·.sup) _ (fun a x => State.onCell_sup _ _ a) _ s
@[simp] theorem State.dropReplaced_tim  (s : State) : (s.dropReplaced).tim = s.tim := by
  simp only [State.dropReplaced, State.onTbl_tim]; exact foldl_keeps (·.tim) _ (fun a x => State.onCell_tim _ _ a) _ s
@[simp] theorem State.dropReplaced_hif  (s : State) : (s.dropReplaced).hif = s.hif := by
  simp only [State.dropReplaced, State.onTbl_hif]; exact foldl_keeps (·.hif) _ (fun a x => State.onCell_hif _ _ a) _ s
@[simp] theorem State.dropReplaced_flt  (s : State) : (s.dropReplaced).flt = s.flt := by
  simp only [State.dropReplaced, State.onTbl_flt]; exact foldl_keeps (·.flt) _ (fun a x => State.onCell_flt _ _ a) _ s
@[simp] theorem State.dropReplaced_img  (s : State) : (s.dropReplaced).img = s.img := by
  simp only [State.dropReplaced, State.onTbl_img]; exact foldl_keeps (·.img) _ (fun a x => State.onCell_img _ _ a) _ s
@[simp] theorem State.dropReplaced_sec  (s : State) : (s.dropReplaced).sec = s.sec := by
  simp only [State.dropReplaced, State.onTbl_sec]; exact foldl_keeps (·.sec) _ (fun a x => State.onCell_sec _ _ a) _ s
@[simp] theorem State.dropReplaced_stg  (s : State) : (s.dropReplaced).stg = s.stg := by
  simp only [State.dropReplaced, State.onTbl_stg]; exact foldl_keeps (·.stg) _ (fun a x => State.onCell_stg _ _ a) _ s
@[simp] theorem State.dropReplaced_rng  (s : State) : (s.dropReplaced).rng = s.rng := by
  simp only [State.dropReplaced, State.onTbl_rng]; exact foldl_keeps (·.rng) _ (fun a x => State.onCell_rng _ _ a) _ s
@[simp] theorem State.dropReplaced_bpm  (s : State) : (s.dropReplaced).bpm = s.bpm := by
  simp only [State.dropReplaced, State.onTbl_bpm]; exact foldl_keeps (·.bpm) _ (fun a x => State.onCell_bpm _ _ a) _ s
@[simp] theorem State.dropReplaced_pmu  (s : State) : (s.dropReplaced).pmu = s.pmu := by
  simp only [State.dropReplaced, State.onTbl_pmu]; exact foldl_keeps (·.pmu) _ (fun a x => State.onCell_pmu _ _ a) _ s
@[simp] theorem State.dropReplaced_prt  (s : State) : (s.dropReplaced).prt = s.prt := by
  simp only [State.dropReplaced, State.onTbl_prt]; exact foldl_keeps (·.prt) _ (fun a x => State.onCell_prt _ _ a) _ s
@[simp] theorem State.dropReplaced_frm  (s : State) : (s.dropReplaced).frm = s.frm := by
  simp only [State.dropReplaced, State.onTbl_frm]; exact foldl_keeps (·.frm) _ (fun a x => State.onCell_frm _ _ a) _ s
@[simp] theorem State.dropReplaced_flo  (s : State) : (s.dropReplaced).flo = s.flo := by
  simp only [State.dropReplaced, State.onTbl_flo]; exact foldl_keeps (·.flo) _ (fun a x => State.onCell_flo _ _ a) _ s
@[simp] theorem State.dropReplaced_prg  (s : State) : (s.dropReplaced).prg = s.prg := by
  simp only [State.dropReplaced, State.onTbl_prg]; exact foldl_keeps (·.prg) _ (fun a x => State.onCell_prg _ _ a) _ s
@[simp] theorem State.dropReplaced_fab  (s : State) : (s.dropReplaced).fab = s.fab := by
  simp only [State.dropReplaced, State.onTbl_fab]; exact foldl_keeps (·.fab) _ (fun a x => State.onCell_fab _ _ a) _ s
@[simp] theorem State.dropReplaced_egr  (s : State) : (s.dropReplaced).egr = s.egr := by
  simp only [State.dropReplaced, State.onTbl_egr]; exact foldl_keeps (·.egr) _ (fun a x => State.onCell_egr _ _ a) _ s
@[simp] theorem State.dropReplaced_ctr  (s : State) : (s.dropReplaced).ctr = s.ctr := by
  simp only [State.dropReplaced, State.onTbl_ctr]; exact foldl_keeps (·.ctr) _ (fun a x => State.onCell_ctr _ _ a) _ s
@[simp] theorem State.dropReplaced_shadow  (s : State) : (s.dropReplaced).shadow = s.shadow := by
  simp only [State.dropReplaced, State.onTbl_shadow]; exact foldl_keeps (·.shadow) _ (fun a x => State.onCell_shadow _ _ a) _ s
@[simp] theorem State.dropReplaced_out  (s : State) : (s.dropReplaced).out = s.out := by
  simp only [State.dropReplaced, State.onTbl_out]; exact foldl_keeps (·.out) _ (fun a x => State.onCell_out _ _ a) _ s
@[simp] theorem State.dropReplaced_draw  (s : State) : (s.dropReplaced).draw = s.draw := by
  simp only [State.dropReplaced, State.onTbl_draw]; exact foldl_keeps (·.draw) _ (fun a x => State.onCell_draw _ _ a) _ s
@[simp] theorem State.dropReplaced_pending  (s : State) : (s.dropReplaced).pending = s.pending := by
  simp only [State.dropReplaced, State.onTbl_pending]; exact foldl_keeps (·.pending) _ (fun a x => State.onCell_pending _ _ a) _ s

/-! ## State.settleCommit -/

@[simp] theorem State.settleCommit_crn  (s : State) : (s.settleCommit).crn = s.crn := by
  dsimp only [State.settleCommit]; (repeat' split) <;> simp
@[simp] theorem State.settleCommit_sup  (s : State) : (s.settleCommit).sup = s.sup := by
  dsimp only [State.settleCommit]; (repeat' split) <;> simp
@[simp] theorem State.settleCommit_tim  (s : State) : (s.settleCommit).tim = s.tim := by
  dsimp only [State.settleCommit]; (repeat' split) <;> simp
@[simp] theorem State.settleCommit_img  (s : State) : (s.settleCommit).img = s.img := by
  dsimp only [State.settleCommit]; (repeat' split) <;> simp
@[simp] theorem State.settleCommit_sec  (s : State) : (s.settleCommit).sec = s.sec := by
  dsimp only [State.settleCommit]; (repeat' split) <;> simp
@[simp] theorem State.settleCommit_stg  (s : State) : (s.settleCommit).stg = s.stg := by
  dsimp only [State.settleCommit]; (repeat' split) <;> simp
@[simp] theorem State.settleCommit_rng  (s : State) : (s.settleCommit).rng = s.rng := by
  dsimp only [State.settleCommit]; (repeat' split) <;> simp
@[simp] theorem State.settleCommit_bpm  (s : State) : (s.settleCommit).bpm = s.bpm := by
  dsimp only [State.settleCommit]; (repeat' split) <;> simp
@[simp] theorem State.settleCommit_prt  (s : State) : (s.settleCommit).prt = s.prt := by
  dsimp only [State.settleCommit]; (repeat' split) <;> simp
@[simp] theorem State.settleCommit_frm  (s : State) : (s.settleCommit).frm = s.frm := by
  dsimp only [State.settleCommit]; (repeat' split) <;> simp
@[simp] theorem State.settleCommit_flo  (s : State) : (s.settleCommit).flo = s.flo := by
  dsimp only [State.settleCommit]; (repeat' split) <;> simp
@[simp] theorem State.settleCommit_prg  (s : State) : (s.settleCommit).prg = s.prg := by
  dsimp only [State.settleCommit]; (repeat' split) <;> simp
@[simp] theorem State.settleCommit_fab  (s : State) : (s.settleCommit).fab = s.fab := by
  dsimp only [State.settleCommit]; (repeat' split) <;> simp
@[simp] theorem State.settleCommit_egr  (s : State) : (s.settleCommit).egr = s.egr := by
  dsimp only [State.settleCommit]; (repeat' split) <;> simp
@[simp] theorem State.settleCommit_ctr  (s : State) : (s.settleCommit).ctr = s.ctr := by
  dsimp only [State.settleCommit]; (repeat' split) <;> simp
@[simp] theorem State.settleCommit_shadow  (s : State) : (s.settleCommit).shadow = s.shadow := by
  dsimp only [State.settleCommit]; (repeat' split) <;> simp
@[simp] theorem State.settleCommit_draw  (s : State) : (s.settleCommit).draw = s.draw := by
  dsimp only [State.settleCommit]; (repeat' split) <;> simp
@[simp] theorem State.settleCommit_pending  (s : State) : (s.settleCommit).pending = s.pending := by
  dsimp only [State.settleCommit]; (repeat' split) <;> simp

/-! ## State.carryZones -/

@[simp] theorem State.carryZones_crn (o : Cfg) (s : State) : (s.carryZones o).crn = s.crn := by simp [State.carryZones]
@[simp] theorem State.carryZones_sup (o : Cfg) (s : State) : (s.carryZones o).sup = s.sup := by simp [State.carryZones]
@[simp] theorem State.carryZones_tim (o : Cfg) (s : State) : (s.carryZones o).tim = s.tim := by simp [State.carryZones]
@[simp] theorem State.carryZones_hif (o : Cfg) (s : State) : (s.carryZones o).hif = s.hif := by simp [State.carryZones]
@[simp] theorem State.carryZones_flt (o : Cfg) (s : State) : (s.carryZones o).flt = s.flt := by simp [State.carryZones]
@[simp] theorem State.carryZones_img (o : Cfg) (s : State) : (s.carryZones o).img = s.img := by simp [State.carryZones]
@[simp] theorem State.carryZones_sec (o : Cfg) (s : State) : (s.carryZones o).sec = s.sec := by simp [State.carryZones]
@[simp] theorem State.carryZones_stg (o : Cfg) (s : State) : (s.carryZones o).stg = s.stg := by simp [State.carryZones]
@[simp] theorem State.carryZones_rng (o : Cfg) (s : State) : (s.carryZones o).rng = s.rng := by simp [State.carryZones]
@[simp] theorem State.carryZones_bpm (o : Cfg) (s : State) : (s.carryZones o).bpm = s.bpm := by simp [State.carryZones]
@[simp] theorem State.carryZones_pmu (o : Cfg) (s : State) : (s.carryZones o).pmu = s.pmu := by simp [State.carryZones]
@[simp] theorem State.carryZones_prt (o : Cfg) (s : State) : (s.carryZones o).prt = s.prt := by simp [State.carryZones]
@[simp] theorem State.carryZones_cel (o : Cfg) (s : State) : (s.carryZones o).cel = s.cel := by simp [State.carryZones]
@[simp] theorem State.carryZones_frm (o : Cfg) (s : State) : (s.carryZones o).frm = s.frm := by simp [State.carryZones]
@[simp] theorem State.carryZones_tbl (o : Cfg) (s : State) : (s.carryZones o).tbl = s.tbl := by simp [State.carryZones]
@[simp] theorem State.carryZones_prg (o : Cfg) (s : State) : (s.carryZones o).prg = s.prg := by simp [State.carryZones]
@[simp] theorem State.carryZones_fab (o : Cfg) (s : State) : (s.carryZones o).fab = s.fab := by simp [State.carryZones]
@[simp] theorem State.carryZones_egr (o : Cfg) (s : State) : (s.carryZones o).egr = s.egr := by simp [State.carryZones]
@[simp] theorem State.carryZones_ctr (o : Cfg) (s : State) : (s.carryZones o).ctr = s.ctr := by simp [State.carryZones]
@[simp] theorem State.carryZones_shadow (o : Cfg) (s : State) : (s.carryZones o).shadow = s.shadow := by simp [State.carryZones]
@[simp] theorem State.carryZones_out (o : Cfg) (s : State) : (s.carryZones o).out = s.out := by simp [State.carryZones]
@[simp] theorem State.carryZones_draw (o : Cfg) (s : State) : (s.carryZones o).draw = s.draw := by simp [State.carryZones]
@[simp] theorem State.carryZones_pending (o : Cfg) (s : State) : (s.carryZones o).pending = s.pending := by simp [State.carryZones]

/-! ## State.publish -/

@[simp] theorem State.publish_crn (b : Bool) (c : Cfg) (l : List (List Word)) (s : State) : (s.publish b c l).crn = s.crn := by
  have h : ∀ (l : List Nat) (t : State), (l.foldl (fun a c => if (a.cell c).st = .doze then a.startWake c else a) t).crn = t.crn :=
    fun l t => foldl_keeps (·.crn) _ (fun a x => by split <;> simp) l t
  simp [State.publish, h]
@[simp] theorem State.publish_tim (b : Bool) (c : Cfg) (l : List (List Word)) (s : State) : (s.publish b c l).tim = s.tim := by
  have h : ∀ (l : List Nat) (t : State), (l.foldl (fun a c => if (a.cell c).st = .doze then a.startWake c else a) t).tim = t.tim :=
    fun l t => foldl_keeps (·.tim) _ (fun a x => by split <;> simp) l t
  simp [State.publish, h]
@[simp] theorem State.publish_sec (b : Bool) (c : Cfg) (l : List (List Word)) (s : State) : (s.publish b c l).sec = s.sec := by
  have h : ∀ (l : List Nat) (t : State), (l.foldl (fun a c => if (a.cell c).st = .doze then a.startWake c else a) t).sec = t.sec :=
    fun l t => foldl_keeps (·.sec) _ (fun a x => by split <;> simp) l t
  simp [State.publish, h]
@[simp] theorem State.publish_rng (b : Bool) (c : Cfg) (l : List (List Word)) (s : State) : (s.publish b c l).rng = s.rng := by
  have h : ∀ (l : List Nat) (t : State), (l.foldl (fun a c => if (a.cell c).st = .doze then a.startWake c else a) t).rng = t.rng :=
    fun l t => foldl_keeps (·.rng) _ (fun a x => by split <;> simp) l t
  simp [State.publish, h]
@[simp] theorem State.publish_bpm (b : Bool) (c : Cfg) (l : List (List Word)) (s : State) : (s.publish b c l).bpm = s.bpm := by
  have h : ∀ (l : List Nat) (t : State), (l.foldl (fun a c => if (a.cell c).st = .doze then a.startWake c else a) t).bpm = t.bpm :=
    fun l t => foldl_keeps (·.bpm) _ (fun a x => by split <;> simp) l t
  simp [State.publish, h]
@[simp] theorem State.publish_prt (b : Bool) (c : Cfg) (l : List (List Word)) (s : State) : (s.publish b c l).prt = s.prt := by
  have h : ∀ (l : List Nat) (t : State), (l.foldl (fun a c => if (a.cell c).st = .doze then a.startWake c else a) t).prt = t.prt :=
    fun l t => foldl_keeps (·.prt) _ (fun a x => by split <;> simp) l t
  simp [State.publish, h]
@[simp] theorem State.publish_frm (b : Bool) (c : Cfg) (l : List (List Word)) (s : State) : (s.publish b c l).frm = s.frm := by
  have h : ∀ (l : List Nat) (t : State), (l.foldl (fun a c => if (a.cell c).st = .doze then a.startWake c else a) t).frm = t.frm :=
    fun l t => foldl_keeps (·.frm) _ (fun a x => by split <;> simp) l t
  simp [State.publish, h]
@[simp] theorem State.publish_prg (b : Bool) (c : Cfg) (l : List (List Word)) (s : State) : (s.publish b c l).prg = s.prg := by
  have h : ∀ (l : List Nat) (t : State), (l.foldl (fun a c => if (a.cell c).st = .doze then a.startWake c else a) t).prg = t.prg :=
    fun l t => foldl_keeps (·.prg) _ (fun a x => by split <;> simp) l t
  simp [State.publish, h]
@[simp] theorem State.publish_fab (b : Bool) (c : Cfg) (l : List (List Word)) (s : State) : (s.publish b c l).fab = s.fab := by
  have h : ∀ (l : List Nat) (t : State), (l.foldl (fun a c => if (a.cell c).st = .doze then a.startWake c else a) t).fab = t.fab :=
    fun l t => foldl_keeps (·.fab) _ (fun a x => by split <;> simp) l t
  simp [State.publish, h]
@[simp] theorem State.publish_egr (b : Bool) (c : Cfg) (l : List (List Word)) (s : State) : (s.publish b c l).egr = s.egr := by
  have h : ∀ (l : List Nat) (t : State), (l.foldl (fun a c => if (a.cell c).st = .doze then a.startWake c else a) t).egr = t.egr :=
    fun l t => foldl_keeps (·.egr) _ (fun a x => by split <;> simp) l t
  simp [State.publish, h]
@[simp] theorem State.publish_ctr (b : Bool) (c : Cfg) (l : List (List Word)) (s : State) : (s.publish b c l).ctr = s.ctr := by
  have h : ∀ (l : List Nat) (t : State), (l.foldl (fun a c => if (a.cell c).st = .doze then a.startWake c else a) t).ctr = t.ctr :=
    fun l t => foldl_keeps (·.ctr) _ (fun a x => by split <;> simp) l t
  simp [State.publish, h]
@[simp] theorem State.publish_shadow (b : Bool) (c : Cfg) (l : List (List Word)) (s : State) : (s.publish b c l).shadow = s.shadow := by
  have h : ∀ (l : List Nat) (t : State), (l.foldl (fun a c => if (a.cell c).st = .doze then a.startWake c else a) t).shadow = t.shadow :=
    fun l t => foldl_keeps (·.shadow) _ (fun a x => by split <;> simp) l t
  simp [State.publish, h]
@[simp] theorem State.publish_draw (b : Bool) (c : Cfg) (l : List (List Word)) (s : State) : (s.publish b c l).draw = s.draw := by
  have h : ∀ (l : List Nat) (t : State), (l.foldl (fun a c => if (a.cell c).st = .doze then a.startWake c else a) t).draw = t.draw :=
    fun l t => foldl_keeps (·.draw) _ (fun a x => by split <;> simp) l t
  simp [State.publish, h]
@[simp] theorem State.publish_pending (b : Bool) (c : Cfg) (l : List (List Word)) (s : State) : (s.publish b c l).pending = s.pending := by
  have h : ∀ (l : List Nat) (t : State), (l.foldl (fun a c => if (a.cell c).st = .doze then a.startWake c else a) t).pending = t.pending :=
    fun l t => foldl_keeps (·.pending) _ (fun a x => by split <;> simp) l t
  simp [State.publish, h]

end Sys2Proof.Machine
end

