-- ==== Sys2Proof/Laws/Rings.lean ====
section
/-!
SUPPORT. What the operations of Machine/Rings.lean leave unchanged.
-/

namespace Sys2Proof.Machine

open Sys2Proof

/-! ## State.bpmAlloc -/

@[simp] theorem State.bpmAlloc_crn (r z : Nat) (s : State) : ((s.bpmAlloc r z).2.2).crn = s.crn := by
  dsimp only [State.bpmAlloc]; (repeat' split) <;> simp
@[simp] theorem State.bpmAlloc_sup (r z : Nat) (s : State) : ((s.bpmAlloc r z).2.2).sup = s.sup := by
  dsimp only [State.bpmAlloc]; (repeat' split) <;> simp
@[simp] theorem State.bpmAlloc_tim (r z : Nat) (s : State) : ((s.bpmAlloc r z).2.2).tim = s.tim := by
  dsimp only [State.bpmAlloc]; (repeat' split) <;> simp
@[simp] theorem State.bpmAlloc_hif (r z : Nat) (s : State) : ((s.bpmAlloc r z).2.2).hif = s.hif := by
  dsimp only [State.bpmAlloc]; (repeat' split) <;> simp
@[simp] theorem State.bpmAlloc_flt (r z : Nat) (s : State) : ((s.bpmAlloc r z).2.2).flt = s.flt := by
  dsimp only [State.bpmAlloc]; (repeat' split) <;> simp
@[simp] theorem State.bpmAlloc_img (r z : Nat) (s : State) : ((s.bpmAlloc r z).2.2).img = s.img := by
  dsimp only [State.bpmAlloc]; (repeat' split) <;> simp
@[simp] theorem State.bpmAlloc_sec (r z : Nat) (s : State) : ((s.bpmAlloc r z).2.2).sec = s.sec := by
  dsimp only [State.bpmAlloc]; (repeat' split) <;> simp
@[simp] theorem State.bpmAlloc_stg (r z : Nat) (s : State) : ((s.bpmAlloc r z).2.2).stg = s.stg := by
  dsimp only [State.bpmAlloc]; (repeat' split) <;> simp
@[simp] theorem State.bpmAlloc_rng (r z : Nat) (s : State) : ((s.bpmAlloc r z).2.2).rng = s.rng := by
  dsimp only [State.bpmAlloc]; (repeat' split) <;> simp
@[simp] theorem State.bpmAlloc_pmu (r z : Nat) (s : State) : ((s.bpmAlloc r z).2.2).pmu = s.pmu := by
  dsimp only [State.bpmAlloc]; (repeat' split) <;> simp
@[simp] theorem State.bpmAlloc_prt (r z : Nat) (s : State) : ((s.bpmAlloc r z).2.2).prt = s.prt := by
  dsimp only [State.bpmAlloc]; (repeat' split) <;> simp
@[simp] theorem State.bpmAlloc_cel (r z : Nat) (s : State) : ((s.bpmAlloc r z).2.2).cel = s.cel := by
  dsimp only [State.bpmAlloc]; (repeat' split) <;> simp
@[simp] theorem State.bpmAlloc_frm (r z : Nat) (s : State) : ((s.bpmAlloc r z).2.2).frm = s.frm := by
  dsimp only [State.bpmAlloc]; (repeat' split) <;> simp
@[simp] theorem State.bpmAlloc_tbl (r z : Nat) (s : State) : ((s.bpmAlloc r z).2.2).tbl = s.tbl := by
  dsimp only [State.bpmAlloc]; (repeat' split) <;> simp
@[simp] theorem State.bpmAlloc_flo (r z : Nat) (s : State) : ((s.bpmAlloc r z).2.2).flo = s.flo := by
  dsimp only [State.bpmAlloc]; (repeat' split) <;> simp
@[simp] theorem State.bpmAlloc_prg (r z : Nat) (s : State) : ((s.bpmAlloc r z).2.2).prg = s.prg := by
  dsimp only [State.bpmAlloc]; (repeat' split) <;> simp
@[simp] theorem State.bpmAlloc_fab (r z : Nat) (s : State) : ((s.bpmAlloc r z).2.2).fab = s.fab := by
  dsimp only [State.bpmAlloc]; (repeat' split) <;> simp
@[simp] theorem State.bpmAlloc_egr (r z : Nat) (s : State) : ((s.bpmAlloc r z).2.2).egr = s.egr := by
  dsimp only [State.bpmAlloc]; (repeat' split) <;> simp
@[simp] theorem State.bpmAlloc_ctr (r z : Nat) (s : State) : ((s.bpmAlloc r z).2.2).ctr = s.ctr := by
  dsimp only [State.bpmAlloc]; (repeat' split) <;> simp
@[simp] theorem State.bpmAlloc_shadow (r z : Nat) (s : State) : ((s.bpmAlloc r z).2.2).shadow = s.shadow := by
  dsimp only [State.bpmAlloc]; (repeat' split) <;> simp
@[simp] theorem State.bpmAlloc_out (r z : Nat) (s : State) : ((s.bpmAlloc r z).2.2).out = s.out := by
  dsimp only [State.bpmAlloc]; (repeat' split) <;> simp
@[simp] theorem State.bpmAlloc_pending (r z : Nat) (s : State) : ((s.bpmAlloc r z).2.2).pending = s.pending := by
  dsimp only [State.bpmAlloc]; (repeat' split) <;> simp

/-! ## State.bpmRelease -/

@[simp] theorem State.bpmRelease_crn (k : Nat) (s : State) : (s.bpmRelease k).crn = s.crn := by simp [State.bpmRelease]
@[simp] theorem State.bpmRelease_sup (k : Nat) (s : State) : (s.bpmRelease k).sup = s.sup := by simp [State.bpmRelease]
@[simp] theorem State.bpmRelease_tim (k : Nat) (s : State) : (s.bpmRelease k).tim = s.tim := by simp [State.bpmRelease]
@[simp] theorem State.bpmRelease_hif (k : Nat) (s : State) : (s.bpmRelease k).hif = s.hif := by simp [State.bpmRelease]
@[simp] theorem State.bpmRelease_flt (k : Nat) (s : State) : (s.bpmRelease k).flt = s.flt := by simp [State.bpmRelease]
@[simp] theorem State.bpmRelease_img (k : Nat) (s : State) : (s.bpmRelease k).img = s.img := by simp [State.bpmRelease]
@[simp] theorem State.bpmRelease_sec (k : Nat) (s : State) : (s.bpmRelease k).sec = s.sec := by simp [State.bpmRelease]
@[simp] theorem State.bpmRelease_stg (k : Nat) (s : State) : (s.bpmRelease k).stg = s.stg := by simp [State.bpmRelease]
@[simp] theorem State.bpmRelease_rng (k : Nat) (s : State) : (s.bpmRelease k).rng = s.rng := by simp [State.bpmRelease]
@[simp] theorem State.bpmRelease_pmu (k : Nat) (s : State) : (s.bpmRelease k).pmu = s.pmu := by simp [State.bpmRelease]
@[simp] theorem State.bpmRelease_prt (k : Nat) (s : State) : (s.bpmRelease k).prt = s.prt := by simp [State.bpmRelease]
@[simp] theorem State.bpmRelease_cel (k : Nat) (s : State) : (s.bpmRelease k).cel = s.cel := by simp [State.bpmRelease]
@[simp] theorem State.bpmRelease_frm (k : Nat) (s : State) : (s.bpmRelease k).frm = s.frm := by simp [State.bpmRelease]
@[simp] theorem State.bpmRelease_tbl (k : Nat) (s : State) : (s.bpmRelease k).tbl = s.tbl := by simp [State.bpmRelease]
@[simp] theorem State.bpmRelease_flo (k : Nat) (s : State) : (s.bpmRelease k).flo = s.flo := by simp [State.bpmRelease]
@[simp] theorem State.bpmRelease_prg (k : Nat) (s : State) : (s.bpmRelease k).prg = s.prg := by simp [State.bpmRelease]
@[simp] theorem State.bpmRelease_fab (k : Nat) (s : State) : (s.bpmRelease k).fab = s.fab := by simp [State.bpmRelease]
@[simp] theorem State.bpmRelease_egr (k : Nat) (s : State) : (s.bpmRelease k).egr = s.egr := by simp [State.bpmRelease]
@[simp] theorem State.bpmRelease_ctr (k : Nat) (s : State) : (s.bpmRelease k).ctr = s.ctr := by simp [State.bpmRelease]
@[simp] theorem State.bpmRelease_shadow (k : Nat) (s : State) : (s.bpmRelease k).shadow = s.shadow := by simp [State.bpmRelease]
@[simp] theorem State.bpmRelease_out (k : Nat) (s : State) : (s.bpmRelease k).out = s.out := by simp [State.bpmRelease]
@[simp] theorem State.bpmRelease_draw (k : Nat) (s : State) : (s.bpmRelease k).draw = s.draw := by simp [State.bpmRelease]
@[simp] theorem State.bpmRelease_pending (k : Nat) (s : State) : (s.bpmRelease k).pending = s.pending := by simp [State.bpmRelease]

/-! ## State.bpmRefusal -/

@[simp] theorem State.bpmRefusal_crn (h : Word) (r : Nat) (own : Bool) (s : State) : (s.bpmRefusal h r own).crn = s.crn := by simp [State.bpmRefusal]
@[simp] theorem State.bpmRefusal_sup (h : Word) (r : Nat) (own : Bool) (s : State) : (s.bpmRefusal h r own).sup = s.sup := by simp [State.bpmRefusal]
@[simp] theorem State.bpmRefusal_tim (h : Word) (r : Nat) (own : Bool) (s : State) : (s.bpmRefusal h r own).tim = s.tim := by simp [State.bpmRefusal]
@[simp] theorem State.bpmRefusal_img (h : Word) (r : Nat) (own : Bool) (s : State) : (s.bpmRefusal h r own).img = s.img := by simp [State.bpmRefusal]
@[simp] theorem State.bpmRefusal_sec (h : Word) (r : Nat) (own : Bool) (s : State) : (s.bpmRefusal h r own).sec = s.sec := by simp [State.bpmRefusal]
@[simp] theorem State.bpmRefusal_stg (h : Word) (r : Nat) (own : Bool) (s : State) : (s.bpmRefusal h r own).stg = s.stg := by simp [State.bpmRefusal]
@[simp] theorem State.bpmRefusal_bpm (h : Word) (r : Nat) (own : Bool) (s : State) : (s.bpmRefusal h r own).bpm = s.bpm := by simp [State.bpmRefusal]
@[simp] theorem State.bpmRefusal_pmu (h : Word) (r : Nat) (own : Bool) (s : State) : (s.bpmRefusal h r own).pmu = s.pmu := by simp [State.bpmRefusal]
@[simp] theorem State.bpmRefusal_prt (h : Word) (r : Nat) (own : Bool) (s : State) : (s.bpmRefusal h r own).prt = s.prt := by simp [State.bpmRefusal]
@[simp] theorem State.bpmRefusal_cel (h : Word) (r : Nat) (own : Bool) (s : State) : (s.bpmRefusal h r own).cel = s.cel := by simp [State.bpmRefusal]
@[simp] theorem State.bpmRefusal_frm (h : Word) (r : Nat) (own : Bool) (s : State) : (s.bpmRefusal h r own).frm = s.frm := by simp [State.bpmRefusal]
@[simp] theorem State.bpmRefusal_tbl (h : Word) (r : Nat) (own : Bool) (s : State) : (s.bpmRefusal h r own).tbl = s.tbl := by simp [State.bpmRefusal]
@[simp] theorem State.bpmRefusal_flo (h : Word) (r : Nat) (own : Bool) (s : State) : (s.bpmRefusal h r own).flo = s.flo := by simp [State.bpmRefusal]
@[simp] theorem State.bpmRefusal_prg (h : Word) (r : Nat) (own : Bool) (s : State) : (s.bpmRefusal h r own).prg = s.prg := by simp [State.bpmRefusal]
@[simp] theorem State.bpmRefusal_fab (h : Word) (r : Nat) (own : Bool) (s : State) : (s.bpmRefusal h r own).fab = s.fab := by simp [State.bpmRefusal]
@[simp] theorem State.bpmRefusal_egr (h : Word) (r : Nat) (own : Bool) (s : State) : (s.bpmRefusal h r own).egr = s.egr := by simp [State.bpmRefusal]
@[simp] theorem State.bpmRefusal_ctr (h : Word) (r : Nat) (own : Bool) (s : State) : (s.bpmRefusal h r own).ctr = s.ctr := by simp [State.bpmRefusal]
@[simp] theorem State.bpmRefusal_shadow (h : Word) (r : Nat) (own : Bool) (s : State) : (s.bpmRefusal h r own).shadow = s.shadow := by simp [State.bpmRefusal]
@[simp] theorem State.bpmRefusal_draw (h : Word) (r : Nat) (own : Bool) (s : State) : (s.bpmRefusal h r own).draw = s.draw := by simp [State.bpmRefusal]
@[simp] theorem State.bpmRefusal_pending (h : Word) (r : Nat) (own : Bool) (s : State) : (s.bpmRefusal h r own).pending = s.pending := by simp [State.bpmRefusal]

/-! ## State.bpmFree -/

@[simp] theorem State.bpmFree_crn (r : Nat) (h : Word) (own : Bool) (s : State) : ((s.bpmFree r h own).2).crn = s.crn := by
  dsimp only [State.bpmFree]; (repeat' split) <;> simp
@[simp] theorem State.bpmFree_sup (r : Nat) (h : Word) (own : Bool) (s : State) : ((s.bpmFree r h own).2).sup = s.sup := by
  dsimp only [State.bpmFree]; (repeat' split) <;> simp
@[simp] theorem State.bpmFree_tim (r : Nat) (h : Word) (own : Bool) (s : State) : ((s.bpmFree r h own).2).tim = s.tim := by
  dsimp only [State.bpmFree]; (repeat' split) <;> simp
@[simp] theorem State.bpmFree_img (r : Nat) (h : Word) (own : Bool) (s : State) : ((s.bpmFree r h own).2).img = s.img := by
  dsimp only [State.bpmFree]; (repeat' split) <;> simp
@[simp] theorem State.bpmFree_sec (r : Nat) (h : Word) (own : Bool) (s : State) : ((s.bpmFree r h own).2).sec = s.sec := by
  dsimp only [State.bpmFree]; (repeat' split) <;> simp
@[simp] theorem State.bpmFree_stg (r : Nat) (h : Word) (own : Bool) (s : State) : ((s.bpmFree r h own).2).stg = s.stg := by
  dsimp only [State.bpmFree]; (repeat' split) <;> simp
@[simp] theorem State.bpmFree_pmu (r : Nat) (h : Word) (own : Bool) (s : State) : ((s.bpmFree r h own).2).pmu = s.pmu := by
  dsimp only [State.bpmFree]; (repeat' split) <;> simp
@[simp] theorem State.bpmFree_prt (r : Nat) (h : Word) (own : Bool) (s : State) : ((s.bpmFree r h own).2).prt = s.prt := by
  dsimp only [State.bpmFree]; (repeat' split) <;> simp
@[simp] theorem State.bpmFree_cel (r : Nat) (h : Word) (own : Bool) (s : State) : ((s.bpmFree r h own).2).cel = s.cel := by
  dsimp only [State.bpmFree]; (repeat' split) <;> simp
@[simp] theorem State.bpmFree_frm (r : Nat) (h : Word) (own : Bool) (s : State) : ((s.bpmFree r h own).2).frm = s.frm := by
  dsimp only [State.bpmFree]; (repeat' split) <;> simp
@[simp] theorem State.bpmFree_tbl (r : Nat) (h : Word) (own : Bool) (s : State) : ((s.bpmFree r h own).2).tbl = s.tbl := by
  dsimp only [State.bpmFree]; (repeat' split) <;> simp
@[simp] theorem State.bpmFree_flo (r : Nat) (h : Word) (own : Bool) (s : State) : ((s.bpmFree r h own).2).flo = s.flo := by
  dsimp only [State.bpmFree]; (repeat' split) <;> simp
@[simp] theorem State.bpmFree_prg (r : Nat) (h : Word) (own : Bool) (s : State) : ((s.bpmFree r h own).2).prg = s.prg := by
  dsimp only [State.bpmFree]; (repeat' split) <;> simp
@[simp] theorem State.bpmFree_fab (r : Nat) (h : Word) (own : Bool) (s : State) : ((s.bpmFree r h own).2).fab = s.fab := by
  dsimp only [State.bpmFree]; (repeat' split) <;> simp
@[simp] theorem State.bpmFree_egr (r : Nat) (h : Word) (own : Bool) (s : State) : ((s.bpmFree r h own).2).egr = s.egr := by
  dsimp only [State.bpmFree]; (repeat' split) <;> simp
@[simp] theorem State.bpmFree_ctr (r : Nat) (h : Word) (own : Bool) (s : State) : ((s.bpmFree r h own).2).ctr = s.ctr := by
  dsimp only [State.bpmFree]; (repeat' split) <;> simp
@[simp] theorem State.bpmFree_shadow (r : Nat) (h : Word) (own : Bool) (s : State) : ((s.bpmFree r h own).2).shadow = s.shadow := by
  dsimp only [State.bpmFree]; (repeat' split) <;> simp
@[simp] theorem State.bpmFree_draw (r : Nat) (h : Word) (own : Bool) (s : State) : ((s.bpmFree r h own).2).draw = s.draw := by
  dsimp only [State.bpmFree]; (repeat' split) <;> simp
@[simp] theorem State.bpmFree_pending (r : Nat) (h : Word) (own : Bool) (s : State) : ((s.bpmFree r h own).2).pending = s.pending := by
  dsimp only [State.bpmFree]; (repeat' split) <;> simp

/-! ## State.bpmTransfer -/

@[simp] theorem State.bpmTransfer_crn (r d : Nat) (h : Word) (own : Bool) (s : State) : ((s.bpmTransfer r d h own).2.2).crn = s.crn := by
  dsimp only [State.bpmTransfer]; (repeat' split) <;> simp
@[simp] theorem State.bpmTransfer_sup (r d : Nat) (h : Word) (own : Bool) (s : State) : ((s.bpmTransfer r d h own).2.2).sup = s.sup := by
  dsimp only [State.bpmTransfer]; (repeat' split) <;> simp
@[simp] theorem State.bpmTransfer_tim (r d : Nat) (h : Word) (own : Bool) (s : State) : ((s.bpmTransfer r d h own).2.2).tim = s.tim := by
  dsimp only [State.bpmTransfer]; (repeat' split) <;> simp
@[simp] theorem State.bpmTransfer_img (r d : Nat) (h : Word) (own : Bool) (s : State) : ((s.bpmTransfer r d h own).2.2).img = s.img := by
  dsimp only [State.bpmTransfer]; (repeat' split) <;> simp
@[simp] theorem State.bpmTransfer_sec (r d : Nat) (h : Word) (own : Bool) (s : State) : ((s.bpmTransfer r d h own).2.2).sec = s.sec := by
  dsimp only [State.bpmTransfer]; (repeat' split) <;> simp
@[simp] theorem State.bpmTransfer_stg (r d : Nat) (h : Word) (own : Bool) (s : State) : ((s.bpmTransfer r d h own).2.2).stg = s.stg := by
  dsimp only [State.bpmTransfer]; (repeat' split) <;> simp
@[simp] theorem State.bpmTransfer_pmu (r d : Nat) (h : Word) (own : Bool) (s : State) : ((s.bpmTransfer r d h own).2.2).pmu = s.pmu := by
  dsimp only [State.bpmTransfer]; (repeat' split) <;> simp
@[simp] theorem State.bpmTransfer_prt (r d : Nat) (h : Word) (own : Bool) (s : State) : ((s.bpmTransfer r d h own).2.2).prt = s.prt := by
  dsimp only [State.bpmTransfer]; (repeat' split) <;> simp
@[simp] theorem State.bpmTransfer_cel (r d : Nat) (h : Word) (own : Bool) (s : State) : ((s.bpmTransfer r d h own).2.2).cel = s.cel := by
  dsimp only [State.bpmTransfer]; (repeat' split) <;> simp
@[simp] theorem State.bpmTransfer_frm (r d : Nat) (h : Word) (own : Bool) (s : State) : ((s.bpmTransfer r d h own).2.2).frm = s.frm := by
  dsimp only [State.bpmTransfer]; (repeat' split) <;> simp
@[simp] theorem State.bpmTransfer_tbl (r d : Nat) (h : Word) (own : Bool) (s : State) : ((s.bpmTransfer r d h own).2.2).tbl = s.tbl := by
  dsimp only [State.bpmTransfer]; (repeat' split) <;> simp
@[simp] theorem State.bpmTransfer_flo (r d : Nat) (h : Word) (own : Bool) (s : State) : ((s.bpmTransfer r d h own).2.2).flo = s.flo := by
  dsimp only [State.bpmTransfer]; (repeat' split) <;> simp
@[simp] theorem State.bpmTransfer_prg (r d : Nat) (h : Word) (own : Bool) (s : State) : ((s.bpmTransfer r d h own).2.2).prg = s.prg := by
  dsimp only [State.bpmTransfer]; (repeat' split) <;> simp
@[simp] theorem State.bpmTransfer_fab (r d : Nat) (h : Word) (own : Bool) (s : State) : ((s.bpmTransfer r d h own).2.2).fab = s.fab := by
  dsimp only [State.bpmTransfer]; (repeat' split) <;> simp
@[simp] theorem State.bpmTransfer_egr (r d : Nat) (h : Word) (own : Bool) (s : State) : ((s.bpmTransfer r d h own).2.2).egr = s.egr := by
  dsimp only [State.bpmTransfer]; (repeat' split) <;> simp
@[simp] theorem State.bpmTransfer_ctr (r d : Nat) (h : Word) (own : Bool) (s : State) : ((s.bpmTransfer r d h own).2.2).ctr = s.ctr := by
  dsimp only [State.bpmTransfer]; (repeat' split) <;> simp
@[simp] theorem State.bpmTransfer_shadow (r d : Nat) (h : Word) (own : Bool) (s : State) : ((s.bpmTransfer r d h own).2.2).shadow = s.shadow := by
  dsimp only [State.bpmTransfer]; (repeat' split) <;> simp
@[simp] theorem State.bpmTransfer_draw (r d : Nat) (h : Word) (own : Bool) (s : State) : ((s.bpmTransfer r d h own).2.2).draw = s.draw := by
  dsimp only [State.bpmTransfer]; (repeat' split) <;> simp
@[simp] theorem State.bpmTransfer_pending (r d : Nat) (h : Word) (own : Bool) (s : State) : ((s.bpmTransfer r d h own).2.2).pending = s.pending := by
  dsimp only [State.bpmTransfer]; (repeat' split) <;> simp

/-! ## State.bufferBytes -/

@[simp] theorem State.bufferBytes_crn (k o n : Nat) (s : State) : ((s.bufferBytes k o n).2).crn = s.crn := by simp [State.bufferBytes]
@[simp] theorem State.bufferBytes_sup (k o n : Nat) (s : State) : ((s.bufferBytes k o n).2).sup = s.sup := by simp [State.bufferBytes]
@[simp] theorem State.bufferBytes_tim (k o n : Nat) (s : State) : ((s.bufferBytes k o n).2).tim = s.tim := by simp [State.bufferBytes]
@[simp] theorem State.bufferBytes_hif (k o n : Nat) (s : State) : ((s.bufferBytes k o n).2).hif = s.hif := by simp [State.bufferBytes]
@[simp] theorem State.bufferBytes_flt (k o n : Nat) (s : State) : ((s.bufferBytes k o n).2).flt = s.flt := by simp [State.bufferBytes]
@[simp] theorem State.bufferBytes_img (k o n : Nat) (s : State) : ((s.bufferBytes k o n).2).img = s.img := by simp [State.bufferBytes]
@[simp] theorem State.bufferBytes_sec (k o n : Nat) (s : State) : ((s.bufferBytes k o n).2).sec = s.sec := by simp [State.bufferBytes]
@[simp] theorem State.bufferBytes_stg (k o n : Nat) (s : State) : ((s.bufferBytes k o n).2).stg = s.stg := by simp [State.bufferBytes]
@[simp] theorem State.bufferBytes_rng (k o n : Nat) (s : State) : ((s.bufferBytes k o n).2).rng = s.rng := by simp [State.bufferBytes]
@[simp] theorem State.bufferBytes_bpm (k o n : Nat) (s : State) : ((s.bufferBytes k o n).2).bpm = s.bpm := by simp [State.bufferBytes]
@[simp] theorem State.bufferBytes_pmu (k o n : Nat) (s : State) : ((s.bufferBytes k o n).2).pmu = s.pmu := by simp [State.bufferBytes]
@[simp] theorem State.bufferBytes_prt (k o n : Nat) (s : State) : ((s.bufferBytes k o n).2).prt = s.prt := by simp [State.bufferBytes]
@[simp] theorem State.bufferBytes_cel (k o n : Nat) (s : State) : ((s.bufferBytes k o n).2).cel = s.cel := by simp [State.bufferBytes]
@[simp] theorem State.bufferBytes_frm (k o n : Nat) (s : State) : ((s.bufferBytes k o n).2).frm = s.frm := by simp [State.bufferBytes]
@[simp] theorem State.bufferBytes_tbl (k o n : Nat) (s : State) : ((s.bufferBytes k o n).2).tbl = s.tbl := by simp [State.bufferBytes]
@[simp] theorem State.bufferBytes_flo (k o n : Nat) (s : State) : ((s.bufferBytes k o n).2).flo = s.flo := by simp [State.bufferBytes]
@[simp] theorem State.bufferBytes_prg (k o n : Nat) (s : State) : ((s.bufferBytes k o n).2).prg = s.prg := by simp [State.bufferBytes]
@[simp] theorem State.bufferBytes_fab (k o n : Nat) (s : State) : ((s.bufferBytes k o n).2).fab = s.fab := by simp [State.bufferBytes]
@[simp] theorem State.bufferBytes_egr (k o n : Nat) (s : State) : ((s.bufferBytes k o n).2).egr = s.egr := by simp [State.bufferBytes]
@[simp] theorem State.bufferBytes_ctr (k o n : Nat) (s : State) : ((s.bufferBytes k o n).2).ctr = s.ctr := by simp [State.bufferBytes]
@[simp] theorem State.bufferBytes_shadow (k o n : Nat) (s : State) : ((s.bufferBytes k o n).2).shadow = s.shadow := by simp [State.bufferBytes]
@[simp] theorem State.bufferBytes_out (k o n : Nat) (s : State) : ((s.bufferBytes k o n).2).out = s.out := by simp [State.bufferBytes]
@[simp] theorem State.bufferBytes_pending (k o n : Nat) (s : State) : ((s.bufferBytes k o n).2).pending = s.pending := by simp [State.bufferBytes]

/-! ## State.bufferWrite -/

@[simp] theorem State.bufferWrite_crn (k o : Nat) (b : List Byte) (s : State) : (s.bufferWrite k o b).crn = s.crn := by simp [State.bufferWrite]
@[simp] theorem State.bufferWrite_sup (k o : Nat) (b : List Byte) (s : State) : (s.bufferWrite k o b).sup = s.sup := by simp [State.bufferWrite]
@[simp] theorem State.bufferWrite_tim (k o : Nat) (b : List Byte) (s : State) : (s.bufferWrite k o b).tim = s.tim := by simp [State.bufferWrite]
@[simp] theorem State.bufferWrite_hif (k o : Nat) (b : List Byte) (s : State) : (s.bufferWrite k o b).hif = s.hif := by simp [State.bufferWrite]
@[simp] theorem State.bufferWrite_flt (k o : Nat) (b : List Byte) (s : State) : (s.bufferWrite k o b).flt = s.flt := by simp [State.bufferWrite]
@[simp] theorem State.bufferWrite_img (k o : Nat) (b : List Byte) (s : State) : (s.bufferWrite k o b).img = s.img := by simp [State.bufferWrite]
@[simp] theorem State.bufferWrite_sec (k o : Nat) (b : List Byte) (s : State) : (s.bufferWrite k o b).sec = s.sec := by simp [State.bufferWrite]
@[simp] theorem State.bufferWrite_stg (k o : Nat) (b : List Byte) (s : State) : (s.bufferWrite k o b).stg = s.stg := by simp [State.bufferWrite]
@[simp] theorem State.bufferWrite_rng (k o : Nat) (b : List Byte) (s : State) : (s.bufferWrite k o b).rng = s.rng := by simp [State.bufferWrite]
@[simp] theorem State.bufferWrite_pmu (k o : Nat) (b : List Byte) (s : State) : (s.bufferWrite k o b).pmu = s.pmu := by simp [State.bufferWrite]
@[simp] theorem State.bufferWrite_prt (k o : Nat) (b : List Byte) (s : State) : (s.bufferWrite k o b).prt = s.prt := by simp [State.bufferWrite]
@[simp] theorem State.bufferWrite_cel (k o : Nat) (b : List Byte) (s : State) : (s.bufferWrite k o b).cel = s.cel := by simp [State.bufferWrite]
@[simp] theorem State.bufferWrite_frm (k o : Nat) (b : List Byte) (s : State) : (s.bufferWrite k o b).frm = s.frm := by simp [State.bufferWrite]
@[simp] theorem State.bufferWrite_tbl (k o : Nat) (b : List Byte) (s : State) : (s.bufferWrite k o b).tbl = s.tbl := by simp [State.bufferWrite]
@[simp] theorem State.bufferWrite_flo (k o : Nat) (b : List Byte) (s : State) : (s.bufferWrite k o b).flo = s.flo := by simp [State.bufferWrite]
@[simp] theorem State.bufferWrite_prg (k o : Nat) (b : List Byte) (s : State) : (s.bufferWrite k o b).prg = s.prg := by simp [State.bufferWrite]
@[simp] theorem State.bufferWrite_fab (k o : Nat) (b : List Byte) (s : State) : (s.bufferWrite k o b).fab = s.fab := by simp [State.bufferWrite]
@[simp] theorem State.bufferWrite_egr (k o : Nat) (b : List Byte) (s : State) : (s.bufferWrite k o b).egr = s.egr := by simp [State.bufferWrite]
@[simp] theorem State.bufferWrite_ctr (k o : Nat) (b : List Byte) (s : State) : (s.bufferWrite k o b).ctr = s.ctr := by simp [State.bufferWrite]
@[simp] theorem State.bufferWrite_shadow (k o : Nat) (b : List Byte) (s : State) : (s.bufferWrite k o b).shadow = s.shadow := by simp [State.bufferWrite]
@[simp] theorem State.bufferWrite_out (k o : Nat) (b : List Byte) (s : State) : (s.bufferWrite k o b).out = s.out := by simp [State.bufferWrite]
@[simp] theorem State.bufferWrite_draw (k o : Nat) (b : List Byte) (s : State) : (s.bufferWrite k o b).draw = s.draw := by simp [State.bufferWrite]
@[simp] theorem State.bufferWrite_pending (k o : Nat) (b : List Byte) (s : State) : (s.bufferWrite k o b).pending = s.pending := by simp [State.bufferWrite]

/-! ## State.punt -/

@[simp] theorem State.punt_crn (c p r : Nat) (d : List Byte) (ts : Nat) (s : State) : (s.punt c p r d ts).crn = s.crn := by
  dsimp only [State.punt]; (repeat' split) <;> simp
@[simp] theorem State.punt_sup (c p r : Nat) (d : List Byte) (ts : Nat) (s : State) : (s.punt c p r d ts).sup = s.sup := by
  dsimp only [State.punt]; (repeat' split) <;> simp
@[simp] theorem State.punt_tim (c p r : Nat) (d : List Byte) (ts : Nat) (s : State) : (s.punt c p r d ts).tim = s.tim := by
  dsimp only [State.punt]; (repeat' split) <;> simp
@[simp] theorem State.punt_hif (c p r : Nat) (d : List Byte) (ts : Nat) (s : State) : (s.punt c p r d ts).hif = s.hif := by
  dsimp only [State.punt]; (repeat' split) <;> simp
@[simp] theorem State.punt_flt (c p r : Nat) (d : List Byte) (ts : Nat) (s : State) : (s.punt c p r d ts).flt = s.flt := by
  dsimp only [State.punt]; (repeat' split) <;> simp
@[simp] theorem State.punt_img (c p r : Nat) (d : List Byte) (ts : Nat) (s : State) : (s.punt c p r d ts).img = s.img := by
  dsimp only [State.punt]; (repeat' split) <;> simp
@[simp] theorem State.punt_sec (c p r : Nat) (d : List Byte) (ts : Nat) (s : State) : (s.punt c p r d ts).sec = s.sec := by
  dsimp only [State.punt]; (repeat' split) <;> simp
@[simp] theorem State.punt_stg (c p r : Nat) (d : List Byte) (ts : Nat) (s : State) : (s.punt c p r d ts).stg = s.stg := by
  dsimp only [State.punt]; (repeat' split) <;> simp
@[simp] theorem State.punt_pmu (c p r : Nat) (d : List Byte) (ts : Nat) (s : State) : (s.punt c p r d ts).pmu = s.pmu := by
  dsimp only [State.punt]; (repeat' split) <;> simp
@[simp] theorem State.punt_prt (c p r : Nat) (d : List Byte) (ts : Nat) (s : State) : (s.punt c p r d ts).prt = s.prt := by
  dsimp only [State.punt]; (repeat' split) <;> simp
@[simp] theorem State.punt_cel (c p r : Nat) (d : List Byte) (ts : Nat) (s : State) : (s.punt c p r d ts).cel = s.cel := by
  dsimp only [State.punt]; (repeat' split) <;> simp
@[simp] theorem State.punt_frm (c p r : Nat) (d : List Byte) (ts : Nat) (s : State) : (s.punt c p r d ts).frm = s.frm := by
  dsimp only [State.punt]; (repeat' split) <;> simp
@[simp] theorem State.punt_tbl (c p r : Nat) (d : List Byte) (ts : Nat) (s : State) : (s.punt c p r d ts).tbl = s.tbl := by
  dsimp only [State.punt]; (repeat' split) <;> simp
@[simp] theorem State.punt_flo (c p r : Nat) (d : List Byte) (ts : Nat) (s : State) : (s.punt c p r d ts).flo = s.flo := by
  dsimp only [State.punt]; (repeat' split) <;> simp
@[simp] theorem State.punt_prg (c p r : Nat) (d : List Byte) (ts : Nat) (s : State) : (s.punt c p r d ts).prg = s.prg := by
  dsimp only [State.punt]; (repeat' split) <;> simp
@[simp] theorem State.punt_fab (c p r : Nat) (d : List Byte) (ts : Nat) (s : State) : (s.punt c p r d ts).fab = s.fab := by
  dsimp only [State.punt]; (repeat' split) <;> simp
@[simp] theorem State.punt_egr (c p r : Nat) (d : List Byte) (ts : Nat) (s : State) : (s.punt c p r d ts).egr = s.egr := by
  dsimp only [State.punt]; (repeat' split) <;> simp
@[simp] theorem State.punt_shadow (c p r : Nat) (d : List Byte) (ts : Nat) (s : State) : (s.punt c p r d ts).shadow = s.shadow := by
  dsimp only [State.punt]; (repeat' split) <;> simp
@[simp] theorem State.punt_out (c p r : Nat) (d : List Byte) (ts : Nat) (s : State) : (s.punt c p r d ts).out = s.out := by
  dsimp only [State.punt]; (repeat' split) <;> simp
@[simp] theorem State.punt_pending (c p r : Nat) (d : List Byte) (ts : Nat) (s : State) : (s.punt c p r d ts).pending = s.pending := by
  dsimp only [State.punt]; (repeat' split) <;> simp

/-! ## State.endPunt -/

@[simp] theorem State.endPunt_crn (p : Punt) (s : State) : (s.endPunt p).crn = s.crn := by simp [State.endPunt]
@[simp] theorem State.endPunt_sup (p : Punt) (s : State) : (s.endPunt p).sup = s.sup := by simp [State.endPunt]
@[simp] theorem State.endPunt_tim (p : Punt) (s : State) : (s.endPunt p).tim = s.tim := by simp [State.endPunt]
@[simp] theorem State.endPunt_hif (p : Punt) (s : State) : (s.endPunt p).hif = s.hif := by simp [State.endPunt]
@[simp] theorem State.endPunt_flt (p : Punt) (s : State) : (s.endPunt p).flt = s.flt := by simp [State.endPunt]
@[simp] theorem State.endPunt_img (p : Punt) (s : State) : (s.endPunt p).img = s.img := by simp [State.endPunt]
@[simp] theorem State.endPunt_sec (p : Punt) (s : State) : (s.endPunt p).sec = s.sec := by simp [State.endPunt]
@[simp] theorem State.endPunt_stg (p : Punt) (s : State) : (s.endPunt p).stg = s.stg := by simp [State.endPunt]
@[simp] theorem State.endPunt_pmu (p : Punt) (s : State) : (s.endPunt p).pmu = s.pmu := by simp [State.endPunt]
@[simp] theorem State.endPunt_prt (p : Punt) (s : State) : (s.endPunt p).prt = s.prt := by simp [State.endPunt]
@[simp] theorem State.endPunt_cel (p : Punt) (s : State) : (s.endPunt p).cel = s.cel := by simp [State.endPunt]
@[simp] theorem State.endPunt_frm (p : Punt) (s : State) : (s.endPunt p).frm = s.frm := by simp [State.endPunt]
@[simp] theorem State.endPunt_tbl (p : Punt) (s : State) : (s.endPunt p).tbl = s.tbl := by simp [State.endPunt]
@[simp] theorem State.endPunt_flo (p : Punt) (s : State) : (s.endPunt p).flo = s.flo := by simp [State.endPunt]
@[simp] theorem State.endPunt_prg (p : Punt) (s : State) : (s.endPunt p).prg = s.prg := by simp [State.endPunt]
@[simp] theorem State.endPunt_fab (p : Punt) (s : State) : (s.endPunt p).fab = s.fab := by simp [State.endPunt]
@[simp] theorem State.endPunt_egr (p : Punt) (s : State) : (s.endPunt p).egr = s.egr := by simp [State.endPunt]
@[simp] theorem State.endPunt_ctr (p : Punt) (s : State) : (s.endPunt p).ctr = s.ctr := by simp [State.endPunt]
@[simp] theorem State.endPunt_shadow (p : Punt) (s : State) : (s.endPunt p).shadow = s.shadow := by simp [State.endPunt]
@[simp] theorem State.endPunt_out (p : Punt) (s : State) : (s.endPunt p).out = s.out := by simp [State.endPunt]
@[simp] theorem State.endPunt_draw (p : Punt) (s : State) : (s.endPunt p).draw = s.draw := by simp [State.endPunt]
@[simp] theorem State.endPunt_pending (p : Punt) (s : State) : (s.endPunt p).pending = s.pending := by simp [State.endPunt]

/-! ## State.cqStall -/

@[simp] theorem State.cqStall_crn (q : Nat) (s : State) : (s.cqStall q).crn = s.crn := by
  dsimp only [State.cqStall]; (repeat' split) <;> simp
@[simp] theorem State.cqStall_sup (q : Nat) (s : State) : (s.cqStall q).sup = s.sup := by
  dsimp only [State.cqStall]; (repeat' split) <;> simp
@[simp] theorem State.cqStall_tim (q : Nat) (s : State) : (s.cqStall q).tim = s.tim := by
  dsimp only [State.cqStall]; (repeat' split) <;> simp
@[simp] theorem State.cqStall_hif (q : Nat) (s : State) : (s.cqStall q).hif = s.hif := by
  dsimp only [State.cqStall]; (repeat' split) <;> simp
@[simp] theorem State.cqStall_img (q : Nat) (s : State) : (s.cqStall q).img = s.img := by
  dsimp only [State.cqStall]; (repeat' split) <;> simp
@[simp] theorem State.cqStall_sec (q : Nat) (s : State) : (s.cqStall q).sec = s.sec := by
  dsimp only [State.cqStall]; (repeat' split) <;> simp
@[simp] theorem State.cqStall_stg (q : Nat) (s : State) : (s.cqStall q).stg = s.stg := by
  dsimp only [State.cqStall]; (repeat' split) <;> simp
@[simp] theorem State.cqStall_bpm (q : Nat) (s : State) : (s.cqStall q).bpm = s.bpm := by
  dsimp only [State.cqStall]; (repeat' split) <;> simp
@[simp] theorem State.cqStall_pmu (q : Nat) (s : State) : (s.cqStall q).pmu = s.pmu := by
  dsimp only [State.cqStall]; (repeat' split) <;> simp
@[simp] theorem State.cqStall_prt (q : Nat) (s : State) : (s.cqStall q).prt = s.prt := by
  dsimp only [State.cqStall]; (repeat' split) <;> simp
@[simp] theorem State.cqStall_cel (q : Nat) (s : State) : (s.cqStall q).cel = s.cel := by
  dsimp only [State.cqStall]; (repeat' split) <;> simp
@[simp] theorem State.cqStall_frm (q : Nat) (s : State) : (s.cqStall q).frm = s.frm := by
  dsimp only [State.cqStall]; (repeat' split) <;> simp
@[simp] theorem State.cqStall_tbl (q : Nat) (s : State) : (s.cqStall q).tbl = s.tbl := by
  dsimp only [State.cqStall]; (repeat' split) <;> simp
@[simp] theorem State.cqStall_flo (q : Nat) (s : State) : (s.cqStall q).flo = s.flo := by
  dsimp only [State.cqStall]; (repeat' split) <;> simp
@[simp] theorem State.cqStall_prg (q : Nat) (s : State) : (s.cqStall q).prg = s.prg := by
  dsimp only [State.cqStall]; (repeat' split) <;> simp
@[simp] theorem State.cqStall_fab (q : Nat) (s : State) : (s.cqStall q).fab = s.fab := by
  dsimp only [State.cqStall]; (repeat' split) <;> simp
@[simp] theorem State.cqStall_egr (q : Nat) (s : State) : (s.cqStall q).egr = s.egr := by
  dsimp only [State.cqStall]; (repeat' split) <;> simp
@[simp] theorem State.cqStall_ctr (q : Nat) (s : State) : (s.cqStall q).ctr = s.ctr := by
  dsimp only [State.cqStall]; (repeat' split) <;> simp
@[simp] theorem State.cqStall_shadow (q : Nat) (s : State) : (s.cqStall q).shadow = s.shadow := by
  dsimp only [State.cqStall]; (repeat' split) <;> simp
@[simp] theorem State.cqStall_out (q : Nat) (s : State) : (s.cqStall q).out = s.out := by
  dsimp only [State.cqStall]; (repeat' split) <;> simp
@[simp] theorem State.cqStall_draw (q : Nat) (s : State) : (s.cqStall q).draw = s.draw := by
  dsimp only [State.cqStall]; (repeat' split) <;> simp
@[simp] theorem State.cqStall_pending (q : Nat) (s : State) : (s.cqStall q).pending = s.pending := by
  dsimp only [State.cqStall]; (repeat' split) <;> simp

/-! ## State.cqResume -/

@[simp] theorem State.cqResume_crn (q : Nat) (s : State) : (s.cqResume q).crn = s.crn := by
  dsimp only [State.cqResume]; (repeat' split) <;> simp
@[simp] theorem State.cqResume_sup (q : Nat) (s : State) : (s.cqResume q).sup = s.sup := by
  dsimp only [State.cqResume]; (repeat' split) <;> simp
@[simp] theorem State.cqResume_tim (q : Nat) (s : State) : (s.cqResume q).tim = s.tim := by
  dsimp only [State.cqResume]; (repeat' split) <;> simp
@[simp] theorem State.cqResume_hif (q : Nat) (s : State) : (s.cqResume q).hif = s.hif := by
  dsimp only [State.cqResume]; (repeat' split) <;> simp
@[simp] theorem State.cqResume_flt (q : Nat) (s : State) : (s.cqResume q).flt = s.flt := by
  dsimp only [State.cqResume]; (repeat' split) <;> simp
@[simp] theorem State.cqResume_img (q : Nat) (s : State) : (s.cqResume q).img = s.img := by
  dsimp only [State.cqResume]; (repeat' split) <;> simp
@[simp] theorem State.cqResume_sec (q : Nat) (s : State) : (s.cqResume q).sec = s.sec := by
  dsimp only [State.cqResume]; (repeat' split) <;> simp
@[simp] theorem State.cqResume_stg (q : Nat) (s : State) : (s.cqResume q).stg = s.stg := by
  dsimp only [State.cqResume]; (repeat' split) <;> simp
@[simp] theorem State.cqResume_bpm (q : Nat) (s : State) : (s.cqResume q).bpm = s.bpm := by
  dsimp only [State.cqResume]; (repeat' split) <;> simp
@[simp] theorem State.cqResume_pmu (q : Nat) (s : State) : (s.cqResume q).pmu = s.pmu := by
  dsimp only [State.cqResume]; (repeat' split) <;> simp
@[simp] theorem State.cqResume_prt (q : Nat) (s : State) : (s.cqResume q).prt = s.prt := by
  dsimp only [State.cqResume]; (repeat' split) <;> simp
@[simp] theorem State.cqResume_cel (q : Nat) (s : State) : (s.cqResume q).cel = s.cel := by
  dsimp only [State.cqResume]; (repeat' split) <;> simp
@[simp] theorem State.cqResume_frm (q : Nat) (s : State) : (s.cqResume q).frm = s.frm := by
  dsimp only [State.cqResume]; (repeat' split) <;> simp
@[simp] theorem State.cqResume_tbl (q : Nat) (s : State) : (s.cqResume q).tbl = s.tbl := by
  dsimp only [State.cqResume]; (repeat' split) <;> simp
@[simp] theorem State.cqResume_flo (q : Nat) (s : State) : (s.cqResume q).flo = s.flo := by
  dsimp only [State.cqResume]; (repeat' split) <;> simp
@[simp] theorem State.cqResume_prg (q : Nat) (s : State) : (s.cqResume q).prg = s.prg := by
  dsimp only [State.cqResume]; (repeat' split) <;> simp
@[simp] theorem State.cqResume_fab (q : Nat) (s : State) : (s.cqResume q).fab = s.fab := by
  dsimp only [State.cqResume]; (repeat' split) <;> simp
@[simp] theorem State.cqResume_egr (q : Nat) (s : State) : (s.cqResume q).egr = s.egr := by
  dsimp only [State.cqResume]; (repeat' split) <;> simp
@[simp] theorem State.cqResume_ctr (q : Nat) (s : State) : (s.cqResume q).ctr = s.ctr := by
  dsimp only [State.cqResume]; (repeat' split) <;> simp
@[simp] theorem State.cqResume_shadow (q : Nat) (s : State) : (s.cqResume q).shadow = s.shadow := by
  dsimp only [State.cqResume]; (repeat' split) <;> simp
@[simp] theorem State.cqResume_out (q : Nat) (s : State) : (s.cqResume q).out = s.out := by
  dsimp only [State.cqResume]; (repeat' split) <;> simp
@[simp] theorem State.cqResume_draw (q : Nat) (s : State) : (s.cqResume q).draw = s.draw := by
  dsimp only [State.cqResume]; (repeat' split) <;> simp
@[simp] theorem State.cqResume_pending (q : Nat) (s : State) : (s.cqResume q).pending = s.pending := by
  dsimp only [State.cqResume]; (repeat' split) <;> simp

/-! ## State.cqFlush -/

@[simp] theorem State.cqFlush_crn (q n : Nat) (s : State) : (s.cqFlush q n).crn = s.crn := by
  have h : ∀ l : List (List Word), (l.foldl (fun a e => a.writeEntry (512 + q) 16 e) s).crn = s.crn :=
    fun l => foldl_keeps (·.crn) _ (fun a x => State.writeEntry_crn _ _ _ a) l s
  dsimp only [State.cqFlush]; split
  · simp [h]
  · rfl
@[simp] theorem State.cqFlush_sup (q n : Nat) (s : State) : (s.cqFlush q n).sup = s.sup := by
  have h : ∀ l : List (List Word), (l.foldl (fun a e => a.writeEntry (512 + q) 16 e) s).sup = s.sup :=
    fun l => foldl_keeps (·.sup) _ (fun a x => State.writeEntry_sup _ _ _ a) l s
  dsimp only [State.cqFlush]; split
  · simp [h]
  · rfl
@[simp] theorem State.cqFlush_tim (q n : Nat) (s : State) : (s.cqFlush q n).tim = s.tim := by
  have h : ∀ l : List (List Word), (l.foldl (fun a e => a.writeEntry (512 + q) 16 e) s).tim = s.tim :=
    fun l => foldl_keeps (·.tim) _ (fun a x => State.writeEntry_tim _ _ _ a) l s
  dsimp only [State.cqFlush]; split
  · simp [h]
  · rfl
@[simp] theorem State.cqFlush_flt (q n : Nat) (s : State) : (s.cqFlush q n).flt = s.flt := by
  have h : ∀ l : List (List Word), (l.foldl (fun a e => a.writeEntry (512 + q) 16 e) s).flt = s.flt :=
    fun l => foldl_keeps (·.flt) _ (fun a x => State.writeEntry_flt _ _ _ a) l s
  dsimp only [State.cqFlush]; split
  · simp [h]
  · rfl
@[simp] theorem State.cqFlush_img (q n : Nat) (s : State) : (s.cqFlush q n).img = s.img := by
  have h : ∀ l : List (List Word), (l.foldl (fun a e => a.writeEntry (512 + q) 16 e) s).img = s.img :=
    fun l => foldl_keeps (·.img) _ (fun a x => State.writeEntry_img _ _ _ a) l s
  dsimp only [State.cqFlush]; split
  · simp [h]
  · rfl
@[simp] theorem State.cqFlush_sec (q n : Nat) (s : State) : (s.cqFlush q n).sec = s.sec := by
  have h : ∀ l : List (List Word), (l.foldl (fun a e => a.writeEntry (512 + q) 16 e) s).sec = s.sec :=
    fun l => foldl_keeps (·.sec) _ (fun a x => State.writeEntry_sec _ _ _ a) l s
  dsimp only [State.cqFlush]; split
  · simp [h]
  · rfl
@[simp] theorem State.cqFlush_stg (q n : Nat) (s : State) : (s.cqFlush q n).stg = s.stg := by
  have h : ∀ l : List (List Word), (l.foldl (fun a e => a.writeEntry (512 + q) 16 e) s).stg = s.stg :=
    fun l => foldl_keeps (·.stg) _ (fun a x => State.writeEntry_stg _ _ _ a) l s
  dsimp only [State.cqFlush]; split
  · simp [h]
  · rfl
@[simp] theorem State.cqFlush_bpm (q n : Nat) (s : State) : (s.cqFlush q n).bpm = s.bpm := by
  have h : ∀ l : List (List Word), (l.foldl (fun a e => a.writeEntry (512 + q) 16 e) s).bpm = s.bpm :=
    fun l => foldl_keeps (·.bpm) _ (fun a x => State.writeEntry_bpm _ _ _ a) l s
  dsimp only [State.cqFlush]; split
  · simp [h]
  · rfl
@[simp] theorem State.cqFlush_pmu (q n : Nat) (s : State) : (s.cqFlush q n).pmu = s.pmu := by
  have h : ∀ l : List (List Word), (l.foldl (fun a e => a.writeEntry (512 + q) 16 e) s).pmu = s.pmu :=
    fun l => foldl_keeps (·.pmu) _ (fun a x => State.writeEntry_pmu _ _ _ a) l s
  dsimp only [State.cqFlush]; split
  · simp [h]
  · rfl
@[simp] theorem State.cqFlush_prt (q n : Nat) (s : State) : (s.cqFlush q n).prt = s.prt := by
  have h : ∀ l : List (List Word), (l.foldl (fun a e => a.writeEntry (512 + q) 16 e) s).prt = s.prt :=
    fun l => foldl_keeps (·.prt) _ (fun a x => State.writeEntry_prt _ _ _ a) l s
  dsimp only [State.cqFlush]; split
  · simp [h]
  · rfl
@[simp] theorem State.cqFlush_cel (q n : Nat) (s : State) : (s.cqFlush q n).cel = s.cel := by
  have h : ∀ l : List (List Word), (l.foldl (fun a e => a.writeEntry (512 + q) 16 e) s).cel = s.cel :=
    fun l => foldl_keeps (·.cel) _ (fun a x => State.writeEntry_cel _ _ _ a) l s
  dsimp only [State.cqFlush]; split
  · simp [h]
  · rfl
@[simp] theorem State.cqFlush_frm (q n : Nat) (s : State) : (s.cqFlush q n).frm = s.frm := by
  have h : ∀ l : List (List Word), (l.foldl (fun a e => a.writeEntry (512 + q) 16 e) s).frm = s.frm :=
    fun l => foldl_keeps (·.frm) _ (fun a x => State.writeEntry_frm _ _ _ a) l s
  dsimp only [State.cqFlush]; split
  · simp [h]
  · rfl
@[simp] theorem State.cqFlush_tbl (q n : Nat) (s : State) : (s.cqFlush q n).tbl = s.tbl := by
  have h : ∀ l : List (List Word), (l.foldl (fun a e => a.writeEntry (512 + q) 16 e) s).tbl = s.tbl :=
    fun l => foldl_keeps (·.tbl) _ (fun a x => State.writeEntry_tbl _ _ _ a) l s
  dsimp only [State.cqFlush]; split
  · simp [h]
  · rfl
@[simp] theorem State.cqFlush_flo (q n : Nat) (s : State) : (s.cqFlush q n).flo = s.flo := by
  have h : ∀ l : List (List Word), (l.foldl (fun a e => a.writeEntry (512 + q) 16 e) s).flo = s.flo :=
    fun l => foldl_keeps (·.flo) _ (fun a x => State.writeEntry_flo _ _ _ a) l s
  dsimp only [State.cqFlush]; split
  · simp [h]
  · rfl
@[simp] theorem State.cqFlush_prg (q n : Nat) (s : State) : (s.cqFlush q n).prg = s.prg := by
  have h : ∀ l : List (List Word), (l.foldl (fun a e => a.writeEntry (512 + q) 16 e) s).prg = s.prg :=
    fun l => foldl_keeps (·.prg) _ (fun a x => State.writeEntry_prg _ _ _ a) l s
  dsimp only [State.cqFlush]; split
  · simp [h]
  · rfl
@[simp] theorem State.cqFlush_fab (q n : Nat) (s : State) : (s.cqFlush q n).fab = s.fab := by
  have h : ∀ l : List (List Word), (l.foldl (fun a e => a.writeEntry (512 + q) 16 e) s).fab = s.fab :=
    fun l => foldl_keeps (·.fab) _ (fun a x => State.writeEntry_fab _ _ _ a) l s
  dsimp only [State.cqFlush]; split
  · simp [h]
  · rfl
@[simp] theorem State.cqFlush_egr (q n : Nat) (s : State) : (s.cqFlush q n).egr = s.egr := by
  have h : ∀ l : List (List Word), (l.foldl (fun a e => a.writeEntry (512 + q) 16 e) s).egr = s.egr :=
    fun l => foldl_keeps (·.egr) _ (fun a x => State.writeEntry_egr _ _ _ a) l s
  dsimp only [State.cqFlush]; split
  · simp [h]
  · rfl
@[simp] theorem State.cqFlush_ctr (q n : Nat) (s : State) : (s.cqFlush q n).ctr = s.ctr := by
  have h : ∀ l : List (List Word), (l.foldl (fun a e => a.writeEntry (512 + q) 16 e) s).ctr = s.ctr :=
    fun l => foldl_keeps (·.ctr) _ (fun a x => State.writeEntry_ctr _ _ _ a) l s
  dsimp only [State.cqFlush]; split
  · simp [h]
  · rfl
@[simp] theorem State.cqFlush_shadow (q n : Nat) (s : State) : (s.cqFlush q n).shadow = s.shadow := by
  have h : ∀ l : List (List Word), (l.foldl (fun a e => a.writeEntry (512 + q) 16 e) s).shadow = s.shadow :=
    fun l => foldl_keeps (·.shadow) _ (fun a x => State.writeEntry_shadow _ _ _ a) l s
  dsimp only [State.cqFlush]; split
  · simp [h]
  · rfl
@[simp] theorem State.cqFlush_draw (q n : Nat) (s : State) : (s.cqFlush q n).draw = s.draw := by
  have h : ∀ l : List (List Word), (l.foldl (fun a e => a.writeEntry (512 + q) 16 e) s).draw = s.draw :=
    fun l => foldl_keeps (·.draw) _ (fun a x => State.writeEntry_draw _ _ _ a) l s
  dsimp only [State.cqFlush]; split
  · simp [h]
  · rfl
@[simp] theorem State.cqFlush_pending (q n : Nat) (s : State) : (s.cqFlush q n).pending = s.pending := by
  have h : ∀ l : List (List Word), (l.foldl (fun a e => a.writeEntry (512 + q) 16 e) s).pending = s.pending :=
    fun l => foldl_keeps (·.pending) _ (fun a x => State.writeEntry_pending _ _ _ a) l s
  dsimp only [State.cqFlush]; split
  · simp [h]
  · rfl

/-! ## State.scanRing -/

@[simp] theorem State.scanRing_crn (i : Nat) (l : List (List Word)) (s : State) : (s.scanRing i l).crn = s.crn := by
  dsimp only [State.scanRing]; (repeat' split) <;> simp
@[simp] theorem State.scanRing_sup (i : Nat) (l : List (List Word)) (s : State) : (s.scanRing i l).sup = s.sup := by
  dsimp only [State.scanRing]; (repeat' split) <;> simp
@[simp] theorem State.scanRing_tim (i : Nat) (l : List (List Word)) (s : State) : (s.scanRing i l).tim = s.tim := by
  dsimp only [State.scanRing]; (repeat' split) <;> simp
@[simp] theorem State.scanRing_hif (i : Nat) (l : List (List Word)) (s : State) : (s.scanRing i l).hif = s.hif := by
  dsimp only [State.scanRing]; (repeat' split) <;> simp
@[simp] theorem State.scanRing_flt (i : Nat) (l : List (List Word)) (s : State) : (s.scanRing i l).flt = s.flt := by
  dsimp only [State.scanRing]; (repeat' split) <;> simp
@[simp] theorem State.scanRing_img (i : Nat) (l : List (List Word)) (s : State) : (s.scanRing i l).img = s.img := by
  dsimp only [State.scanRing]; (repeat' split) <;> simp
@[simp] theorem State.scanRing_sec (i : Nat) (l : List (List Word)) (s : State) : (s.scanRing i l).sec = s.sec := by
  dsimp only [State.scanRing]; (repeat' split) <;> simp
@[simp] theorem State.scanRing_stg (i : Nat) (l : List (List Word)) (s : State) : (s.scanRing i l).stg = s.stg := by
  dsimp only [State.scanRing]; (repeat' split) <;> simp
@[simp] theorem State.scanRing_bpm (i : Nat) (l : List (List Word)) (s : State) : (s.scanRing i l).bpm = s.bpm := by
  dsimp only [State.scanRing]; (repeat' split) <;> simp
@[simp] theorem State.scanRing_pmu (i : Nat) (l : List (List Word)) (s : State) : (s.scanRing i l).pmu = s.pmu := by
  dsimp only [State.scanRing]; (repeat' split) <;> simp
@[simp] theorem State.scanRing_prt (i : Nat) (l : List (List Word)) (s : State) : (s.scanRing i l).prt = s.prt := by
  dsimp only [State.scanRing]; (repeat' split) <;> simp
@[simp] theorem State.scanRing_cel (i : Nat) (l : List (List Word)) (s : State) : (s.scanRing i l).cel = s.cel := by
  dsimp only [State.scanRing]; (repeat' split) <;> simp
@[simp] theorem State.scanRing_frm (i : Nat) (l : List (List Word)) (s : State) : (s.scanRing i l).frm = s.frm := by
  dsimp only [State.scanRing]; (repeat' split) <;> simp
@[simp] theorem State.scanRing_tbl (i : Nat) (l : List (List Word)) (s : State) : (s.scanRing i l).tbl = s.tbl := by
  dsimp only [State.scanRing]; (repeat' split) <;> simp
@[simp] theorem State.scanRing_flo (i : Nat) (l : List (List Word)) (s : State) : (s.scanRing i l).flo = s.flo := by
  dsimp only [State.scanRing]; (repeat' split) <;> simp
@[simp] theorem State.scanRing_prg (i : Nat) (l : List (List Word)) (s : State) : (s.scanRing i l).prg = s.prg := by
  dsimp only [State.scanRing]; (repeat' split) <;> simp
@[simp] theorem State.scanRing_fab (i : Nat) (l : List (List Word)) (s : State) : (s.scanRing i l).fab = s.fab := by
  dsimp only [State.scanRing]; (repeat' split) <;> simp
@[simp] theorem State.scanRing_egr (i : Nat) (l : List (List Word)) (s : State) : (s.scanRing i l).egr = s.egr := by
  dsimp only [State.scanRing]; (repeat' split) <;> simp
@[simp] theorem State.scanRing_ctr (i : Nat) (l : List (List Word)) (s : State) : (s.scanRing i l).ctr = s.ctr := by
  dsimp only [State.scanRing]; (repeat' split) <;> simp
@[simp] theorem State.scanRing_shadow (i : Nat) (l : List (List Word)) (s : State) : (s.scanRing i l).shadow = s.shadow := by
  dsimp only [State.scanRing]; (repeat' split) <;> simp
@[simp] theorem State.scanRing_out (i : Nat) (l : List (List Word)) (s : State) : (s.scanRing i l).out = s.out := by
  dsimp only [State.scanRing]; (repeat' split) <;> simp
@[simp] theorem State.scanRing_draw (i : Nat) (l : List (List Word)) (s : State) : (s.scanRing i l).draw = s.draw := by
  dsimp only [State.scanRing]; (repeat' split) <;> simp
@[simp] theorem State.scanRing_pending (i : Nat) (l : List (List Word)) (s : State) : (s.scanRing i l).pending = s.pending := by
  dsimp only [State.scanRing]; (repeat' split) <;> simp

/-! ## State.finishDesc -/

@[simp] theorem State.finishDesc_crn (i k st n : Nat) (ts : Option Nat) (s : State) : (s.finishDesc i k st n ts).crn = s.crn := by simp [State.finishDesc]
@[simp] theorem State.finishDesc_sup (i k st n : Nat) (ts : Option Nat) (s : State) : (s.finishDesc i k st n ts).sup = s.sup := by simp [State.finishDesc]
@[simp] theorem State.finishDesc_tim (i k st n : Nat) (ts : Option Nat) (s : State) : (s.finishDesc i k st n ts).tim = s.tim := by simp [State.finishDesc]
@[simp] theorem State.finishDesc_hif (i k st n : Nat) (ts : Option Nat) (s : State) : (s.finishDesc i k st n ts).hif = s.hif := by simp [State.finishDesc]
@[simp] theorem State.finishDesc_flt (i k st n : Nat) (ts : Option Nat) (s : State) : (s.finishDesc i k st n ts).flt = s.flt := by simp [State.finishDesc]
@[simp] theorem State.finishDesc_img (i k st n : Nat) (ts : Option Nat) (s : State) : (s.finishDesc i k st n ts).img = s.img := by simp [State.finishDesc]
@[simp] theorem State.finishDesc_sec (i k st n : Nat) (ts : Option Nat) (s : State) : (s.finishDesc i k st n ts).sec = s.sec := by simp [State.finishDesc]
@[simp] theorem State.finishDesc_stg (i k st n : Nat) (ts : Option Nat) (s : State) : (s.finishDesc i k st n ts).stg = s.stg := by simp [State.finishDesc]
@[simp] theorem State.finishDesc_bpm (i k st n : Nat) (ts : Option Nat) (s : State) : (s.finishDesc i k st n ts).bpm = s.bpm := by simp [State.finishDesc]
@[simp] theorem State.finishDesc_pmu (i k st n : Nat) (ts : Option Nat) (s : State) : (s.finishDesc i k st n ts).pmu = s.pmu := by simp [State.finishDesc]
@[simp] theorem State.finishDesc_prt (i k st n : Nat) (ts : Option Nat) (s : State) : (s.finishDesc i k st n ts).prt = s.prt := by simp [State.finishDesc]
@[simp] theorem State.finishDesc_cel (i k st n : Nat) (ts : Option Nat) (s : State) : (s.finishDesc i k st n ts).cel = s.cel := by simp [State.finishDesc]
@[simp] theorem State.finishDesc_frm (i k st n : Nat) (ts : Option Nat) (s : State) : (s.finishDesc i k st n ts).frm = s.frm := by simp [State.finishDesc]
@[simp] theorem State.finishDesc_tbl (i k st n : Nat) (ts : Option Nat) (s : State) : (s.finishDesc i k st n ts).tbl = s.tbl := by simp [State.finishDesc]
@[simp] theorem State.finishDesc_flo (i k st n : Nat) (ts : Option Nat) (s : State) : (s.finishDesc i k st n ts).flo = s.flo := by simp [State.finishDesc]
@[simp] theorem State.finishDesc_prg (i k st n : Nat) (ts : Option Nat) (s : State) : (s.finishDesc i k st n ts).prg = s.prg := by simp [State.finishDesc]
@[simp] theorem State.finishDesc_fab (i k st n : Nat) (ts : Option Nat) (s : State) : (s.finishDesc i k st n ts).fab = s.fab := by simp [State.finishDesc]
@[simp] theorem State.finishDesc_egr (i k st n : Nat) (ts : Option Nat) (s : State) : (s.finishDesc i k st n ts).egr = s.egr := by simp [State.finishDesc]
@[simp] theorem State.finishDesc_ctr (i k st n : Nat) (ts : Option Nat) (s : State) : (s.finishDesc i k st n ts).ctr = s.ctr := by simp [State.finishDesc]
@[simp] theorem State.finishDesc_shadow (i k st n : Nat) (ts : Option Nat) (s : State) : (s.finishDesc i k st n ts).shadow = s.shadow := by simp [State.finishDesc]
@[simp] theorem State.finishDesc_out (i k st n : Nat) (ts : Option Nat) (s : State) : (s.finishDesc i k st n ts).out = s.out := by simp [State.finishDesc]
@[simp] theorem State.finishDesc_draw (i k st n : Nat) (ts : Option Nat) (s : State) : (s.finishDesc i k st n ts).draw = s.draw := by simp [State.finishDesc]
@[simp] theorem State.finishDesc_pending (i k st n : Nat) (ts : Option Nat) (s : State) : (s.finishDesc i k st n ts).pending = s.pending := by simp [State.finishDesc]

/-! ## State.busError -/

@[simp] theorem State.busError_crn (a b : Nat) (s : State) : (s.busError a b).crn = s.crn := by simp [State.busError]
@[simp] theorem State.busError_sup (a b : Nat) (s : State) : (s.busError a b).sup = s.sup := by simp [State.busError]
@[simp] theorem State.busError_tim (a b : Nat) (s : State) : (s.busError a b).tim = s.tim := by simp [State.busError]
@[simp] theorem State.busError_hif (a b : Nat) (s : State) : (s.busError a b).hif = s.hif := by simp [State.busError]
@[simp] theorem State.busError_img (a b : Nat) (s : State) : (s.busError a b).img = s.img := by simp [State.busError]
@[simp] theorem State.busError_sec (a b : Nat) (s : State) : (s.busError a b).sec = s.sec := by simp [State.busError]
@[simp] theorem State.busError_stg (a b : Nat) (s : State) : (s.busError a b).stg = s.stg := by simp [State.busError]
@[simp] theorem State.busError_rng (a b : Nat) (s : State) : (s.busError a b).rng = s.rng := by simp [State.busError]
@[simp] theorem State.busError_bpm (a b : Nat) (s : State) : (s.busError a b).bpm = s.bpm := by simp [State.busError]
@[simp] theorem State.busError_pmu (a b : Nat) (s : State) : (s.busError a b).pmu = s.pmu := by simp [State.busError]
@[simp] theorem State.busError_prt (a b : Nat) (s : State) : (s.busError a b).prt = s.prt := by simp [State.busError]
@[simp] theorem State.busError_cel (a b : Nat) (s : State) : (s.busError a b).cel = s.cel := by simp [State.busError]
@[simp] theorem State.busError_frm (a b : Nat) (s : State) : (s.busError a b).frm = s.frm := by simp [State.busError]
@[simp] theorem State.busError_tbl (a b : Nat) (s : State) : (s.busError a b).tbl = s.tbl := by simp [State.busError]
@[simp] theorem State.busError_flo (a b : Nat) (s : State) : (s.busError a b).flo = s.flo := by simp [State.busError]
@[simp] theorem State.busError_prg (a b : Nat) (s : State) : (s.busError a b).prg = s.prg := by simp [State.busError]
@[simp] theorem State.busError_fab (a b : Nat) (s : State) : (s.busError a b).fab = s.fab := by simp [State.busError]
@[simp] theorem State.busError_egr (a b : Nat) (s : State) : (s.busError a b).egr = s.egr := by simp [State.busError]
@[simp] theorem State.busError_ctr (a b : Nat) (s : State) : (s.busError a b).ctr = s.ctr := by simp [State.busError]
@[simp] theorem State.busError_shadow (a b : Nat) (s : State) : (s.busError a b).shadow = s.shadow := by simp [State.busError]
@[simp] theorem State.busError_out (a b : Nat) (s : State) : (s.busError a b).out = s.out := by simp [State.busError]
@[simp] theorem State.busError_draw (a b : Nat) (s : State) : (s.busError a b).draw = s.draw := by simp [State.busError]
@[simp] theorem State.busError_pending (a b : Nat) (s : State) : (s.busError a b).pending = s.pending := by simp [State.busError]

/-! ## State.eqFlush -/

@[simp] theorem State.eqFlush_crn (q n : Nat) (s : State) : (s.eqFlush q n).crn = s.crn := by
  have h : ∀ (l : List (List Word)) (t : State), (l.foldl (fun a e => a.writeEvent (576 + q) e) t).crn = t.crn :=
    fun l t => foldl_keeps (·.crn) _ (fun a x => State.writeEvent_crn _ _ a) l t
  dsimp only [State.eqFlush]; split
  · rw [State.onRing_crn, h, State.onIf_keeps (·.crn) _ _ _ (by simp)]
  · rfl
@[simp] theorem State.eqFlush_sup (q n : Nat) (s : State) : (s.eqFlush q n).sup = s.sup := by
  have h : ∀ (l : List (List Word)) (t : State), (l.foldl (fun a e => a.writeEvent (576 + q) e) t).sup = t.sup :=
    fun l t => foldl_keeps (·.sup) _ (fun a x => State.writeEvent_sup _ _ a) l t
  dsimp only [State.eqFlush]; split
  · rw [State.onRing_sup, h, State.onIf_keeps (·.sup) _ _ _ (by simp)]
  · rfl
@[simp] theorem State.eqFlush_tim (q n : Nat) (s : State) : (s.eqFlush q n).tim = s.tim := by
  have h : ∀ (l : List (List Word)) (t : State), (l.foldl (fun a e => a.writeEvent (576 + q) e) t).tim = t.tim :=
    fun l t => foldl_keeps (·.tim) _ (fun a x => State.writeEvent_tim _ _ a) l t
  dsimp only [State.eqFlush]; split
  · rw [State.onRing_tim, h, State.onIf_keeps (·.tim) _ _ _ (by simp)]
  · rfl
@[simp] theorem State.eqFlush_flt (q n : Nat) (s : State) : (s.eqFlush q n).flt = s.flt := by
  have h : ∀ (l : List (List Word)) (t : State), (l.foldl (fun a e => a.writeEvent (576 + q) e) t).flt = t.flt :=
    fun l t => foldl_keeps (·.flt) _ (fun a x => State.writeEvent_flt _ _ a) l t
  dsimp only [State.eqFlush]; split
  · rw [State.onRing_flt, h, State.onIf_keeps (·.flt) _ _ _ (by simp)]
  · rfl
@[simp] theorem State.eqFlush_img (q n : Nat) (s : State) : (s.eqFlush q n).img = s.img := by
  have h : ∀ (l : List (List Word)) (t : State), (l.foldl (fun a e => a.writeEvent (576 + q) e) t).img = t.img :=
    fun l t => foldl_keeps (·.img) _ (fun a x => State.writeEvent_img _ _ a) l t
  dsimp only [State.eqFlush]; split
  · rw [State.onRing_img, h, State.onIf_keeps (·.img) _ _ _ (by simp)]
  · rfl
@[simp] theorem State.eqFlush_sec (q n : Nat) (s : State) : (s.eqFlush q n).sec = s.sec := by
  have h : ∀ (l : List (List Word)) (t : State), (l.foldl (fun a e => a.writeEvent (576 + q) e) t).sec = t.sec :=
    fun l t => foldl_keeps (·.sec) _ (fun a x => State.writeEvent_sec _ _ a) l t
  dsimp only [State.eqFlush]; split
  · rw [State.onRing_sec, h, State.onIf_keeps (·.sec) _ _ _ (by simp)]
  · rfl
@[simp] theorem State.eqFlush_stg (q n : Nat) (s : State) : (s.eqFlush q n).stg = s.stg := by
  have h : ∀ (l : List (List Word)) (t : State), (l.foldl (fun a e => a.writeEvent (576 + q) e) t).stg = t.stg :=
    fun l t => foldl_keeps (·.stg) _ (fun a x => State.writeEvent_stg _ _ a) l t
  dsimp only [State.eqFlush]; split
  · rw [State.onRing_stg, h, State.onIf_keeps (·.stg) _ _ _ (by simp)]
  · rfl
@[simp] theorem State.eqFlush_bpm (q n : Nat) (s : State) : (s.eqFlush q n).bpm = s.bpm := by
  have h : ∀ (l : List (List Word)) (t : State), (l.foldl (fun a e => a.writeEvent (576 + q) e) t).bpm = t.bpm :=
    fun l t => foldl_keeps (·.bpm) _ (fun a x => State.writeEvent_bpm _ _ a) l t
  dsimp only [State.eqFlush]; split
  · rw [State.onRing_bpm, h, State.onIf_keeps (·.bpm) _ _ _ (by simp)]
  · rfl
@[simp] theorem State.eqFlush_pmu (q n : Nat) (s : State) : (s.eqFlush q n).pmu = s.pmu := by
  have h : ∀ (l : List (List Word)) (t : State), (l.foldl (fun a e => a.writeEvent (576 + q) e) t).pmu = t.pmu :=
    fun l t => foldl_keeps (·.pmu) _ (fun a x => State.writeEvent_pmu _ _ a) l t
  dsimp only [State.eqFlush]; split
  · rw [State.onRing_pmu, h, State.onIf_keeps (·.pmu) _ _ _ (by simp)]
  · rfl
@[simp] theorem State.eqFlush_prt (q n : Nat) (s : State) : (s.eqFlush q n).prt = s.prt := by
  have h : ∀ (l : List (List Word)) (t : State), (l.foldl (fun a e => a.writeEvent (576 + q) e) t).prt = t.prt :=
    fun l t => foldl_keeps (·.prt) _ (fun a x => State.writeEvent_prt _ _ a) l t
  dsimp only [State.eqFlush]; split
  · rw [State.onRing_prt, h, State.onIf_keeps (·.prt) _ _ _ (by simp)]
  · rfl
@[simp] theorem State.eqFlush_cel (q n : Nat) (s : State) : (s.eqFlush q n).cel = s.cel := by
  have h : ∀ (l : List (List Word)) (t : State), (l.foldl (fun a e => a.writeEvent (576 + q) e) t).cel = t.cel :=
    fun l t => foldl_keeps (·.cel) _ (fun a x => State.writeEvent_cel _ _ a) l t
  dsimp only [State.eqFlush]; split
  · rw [State.onRing_cel, h, State.onIf_keeps (·.cel) _ _ _ (by simp)]
  · rfl
@[simp] theorem State.eqFlush_frm (q n : Nat) (s : State) : (s.eqFlush q n).frm = s.frm := by
  have h : ∀ (l : List (List Word)) (t : State), (l.foldl (fun a e => a.writeEvent (576 + q) e) t).frm = t.frm :=
    fun l t => foldl_keeps (·.frm) _ (fun a x => State.writeEvent_frm _ _ a) l t
  dsimp only [State.eqFlush]; split
  · rw [State.onRing_frm, h, State.onIf_keeps (·.frm) _ _ _ (by simp)]
  · rfl
@[simp] theorem State.eqFlush_tbl (q n : Nat) (s : State) : (s.eqFlush q n).tbl = s.tbl := by
  have h : ∀ (l : List (List Word)) (t : State), (l.foldl (fun a e => a.writeEvent (576 + q) e) t).tbl = t.tbl :=
    fun l t => foldl_keeps (·.tbl) _ (fun a x => State.writeEvent_tbl _ _ a) l t
  dsimp only [State.eqFlush]; split
  · rw [State.onRing_tbl, h, State.onIf_keeps (·.tbl) _ _ _ (by simp)]
  · rfl
@[simp] theorem State.eqFlush_flo (q n : Nat) (s : State) : (s.eqFlush q n).flo = s.flo := by
  have h : ∀ (l : List (List Word)) (t : State), (l.foldl (fun a e => a.writeEvent (576 + q) e) t).flo = t.flo :=
    fun l t => foldl_keeps (·.flo) _ (fun a x => State.writeEvent_flo _ _ a) l t
  dsimp only [State.eqFlush]; split
  · rw [State.onRing_flo, h, State.onIf_keeps (·.flo) _ _ _ (by simp)]
  · rfl
@[simp] theorem State.eqFlush_prg (q n : Nat) (s : State) : (s.eqFlush q n).prg = s.prg := by
  have h : ∀ (l : List (List Word)) (t : State), (l.foldl (fun a e => a.writeEvent (576 + q) e) t).prg = t.prg :=
    fun l t => foldl_keeps (·.prg) _ (fun a x => State.writeEvent_prg _ _ a) l t
  dsimp only [State.eqFlush]; split
  · rw [State.onRing_prg, h, State.onIf_keeps (·.prg) _ _ _ (by simp)]
  · rfl
@[simp] theorem State.eqFlush_fab (q n : Nat) (s : State) : (s.eqFlush q n).fab = s.fab := by
  have h : ∀ (l : List (List Word)) (t : State), (l.foldl (fun a e => a.writeEvent (576 + q) e) t).fab = t.fab :=
    fun l t => foldl_keeps (·.fab) _ (fun a x => State.writeEvent_fab _ _ a) l t
  dsimp only [State.eqFlush]; split
  · rw [State.onRing_fab, h, State.onIf_keeps (·.fab) _ _ _ (by simp)]
  · rfl
@[simp] theorem State.eqFlush_egr (q n : Nat) (s : State) : (s.eqFlush q n).egr = s.egr := by
  have h : ∀ (l : List (List Word)) (t : State), (l.foldl (fun a e => a.writeEvent (576 + q) e) t).egr = t.egr :=
    fun l t => foldl_keeps (·.egr) _ (fun a x => State.writeEvent_egr _ _ a) l t
  dsimp only [State.eqFlush]; split
  · rw [State.onRing_egr, h, State.onIf_keeps (·.egr) _ _ _ (by simp)]
  · rfl
@[simp] theorem State.eqFlush_ctr (q n : Nat) (s : State) : (s.eqFlush q n).ctr = s.ctr := by
  have h : ∀ (l : List (List Word)) (t : State), (l.foldl (fun a e => a.writeEvent (576 + q) e) t).ctr = t.ctr :=
    fun l t => foldl_keeps (·.ctr) _ (fun a x => State.writeEvent_ctr _ _ a) l t
  dsimp only [State.eqFlush]; split
  · rw [State.onRing_ctr, h, State.onIf_keeps (·.ctr) _ _ _ (by simp)]
  · rfl
@[simp] theorem State.eqFlush_shadow (q n : Nat) (s : State) : (s.eqFlush q n).shadow = s.shadow := by
  have h : ∀ (l : List (List Word)) (t : State), (l.foldl (fun a e => a.writeEvent (576 + q) e) t).shadow = t.shadow :=
    fun l t => foldl_keeps (·.shadow) _ (fun a x => State.writeEvent_shadow _ _ a) l t
  dsimp only [State.eqFlush]; split
  · rw [State.onRing_shadow, h, State.onIf_keeps (·.shadow) _ _ _ (by simp)]
  · rfl
@[simp] theorem State.eqFlush_draw (q n : Nat) (s : State) : (s.eqFlush q n).draw = s.draw := by
  have h : ∀ (l : List (List Word)) (t : State), (l.foldl (fun a e => a.writeEvent (576 + q) e) t).draw = t.draw :=
    fun l t => foldl_keeps (·.draw) _ (fun a x => State.writeEvent_draw _ _ a) l t
  dsimp only [State.eqFlush]; split
  · rw [State.onRing_draw, h, State.onIf_keeps (·.draw) _ _ _ (by simp)]
  · rfl
@[simp] theorem State.eqFlush_pending (q n : Nat) (s : State) : (s.eqFlush q n).pending = s.pending := by
  have h : ∀ (l : List (List Word)) (t : State), (l.foldl (fun a e => a.writeEvent (576 + q) e) t).pending = t.pending :=
    fun l t => foldl_keeps (·.pending) _ (fun a x => State.writeEvent_pending _ _ a) l t
  dsimp only [State.eqFlush]; split
  · rw [State.onRing_pending, h, State.onIf_keeps (·.pending) _ _ _ (by simp)]
  · rfl

/-! ## State.ringDisable -/

@[simp] theorem State.ringDisable_crn (i : Nat) (s : State) : (s.ringDisable i).crn = s.crn := by
  have h : ∀ (l : List Punt) (t : State), (l.foldl (fun a p => (a.endPunt p).bump 16 p.cell 0 1) t).crn = t.crn :=
    fun l t => foldl_keeps (·.crn) _ (fun a x => by simp) l t
  dsimp only [State.ringDisable]; (repeat' split) <;> simp [h]
@[simp] theorem State.ringDisable_sup (i : Nat) (s : State) : (s.ringDisable i).sup = s.sup := by
  have h : ∀ (l : List Punt) (t : State), (l.foldl (fun a p => (a.endPunt p).bump 16 p.cell 0 1) t).sup = t.sup :=
    fun l t => foldl_keeps (·.sup) _ (fun a x => by simp) l t
  dsimp only [State.ringDisable]; (repeat' split) <;> simp [h]
@[simp] theorem State.ringDisable_tim (i : Nat) (s : State) : (s.ringDisable i).tim = s.tim := by
  have h : ∀ (l : List Punt) (t : State), (l.foldl (fun a p => (a.endPunt p).bump 16 p.cell 0 1) t).tim = t.tim :=
    fun l t => foldl_keeps (·.tim) _ (fun a x => by simp) l t
  dsimp only [State.ringDisable]; (repeat' split) <;> simp [h]
@[simp] theorem State.ringDisable_hif (i : Nat) (s : State) : (s.ringDisable i).hif = s.hif := by
  have h : ∀ (l : List Punt) (t : State), (l.foldl (fun a p => (a.endPunt p).bump 16 p.cell 0 1) t).hif = t.hif :=
    fun l t => foldl_keeps (·.hif) _ (fun a x => by simp) l t
  dsimp only [State.ringDisable]; (repeat' split) <;> simp [h]
@[simp] theorem State.ringDisable_img (i : Nat) (s : State) : (s.ringDisable i).img = s.img := by
  have h : ∀ (l : List Punt) (t : State), (l.foldl (fun a p => (a.endPunt p).bump 16 p.cell 0 1) t).img = t.img :=
    fun l t => foldl_keeps (·.img) _ (fun a x => by simp) l t
  dsimp only [State.ringDisable]; (repeat' split) <;> simp [h]
@[simp] theorem State.ringDisable_sec (i : Nat) (s : State) : (s.ringDisable i).sec = s.sec := by
  have h : ∀ (l : List Punt) (t : State), (l.foldl (fun a p => (a.endPunt p).bump 16 p.cell 0 1) t).sec = t.sec :=
    fun l t => foldl_keeps (·.sec) _ (fun a x => by simp) l t
  dsimp only [State.ringDisable]; (repeat' split) <;> simp [h]
@[simp] theorem State.ringDisable_stg (i : Nat) (s : State) : (s.ringDisable i).stg = s.stg := by
  have h : ∀ (l : List Punt) (t : State), (l.foldl (fun a p => (a.endPunt p).bump 16 p.cell 0 1) t).stg = t.stg :=
    fun l t => foldl_keeps (·.stg) _ (fun a x => by simp) l t
  dsimp only [State.ringDisable]; (repeat' split) <;> simp [h]
@[simp] theorem State.ringDisable_pmu (i : Nat) (s : State) : (s.ringDisable i).pmu = s.pmu := by
  have h : ∀ (l : List Punt) (t : State), (l.foldl (fun a p => (a.endPunt p).bump 16 p.cell 0 1) t).pmu = t.pmu :=
    fun l t => foldl_keeps (·.pmu) _ (fun a x => by simp) l t
  dsimp only [State.ringDisable]; (repeat' split) <;> simp [h]
@[simp] theorem State.ringDisable_prt (i : Nat) (s : State) : (s.ringDisable i).prt = s.prt := by
  have h : ∀ (l : List Punt) (t : State), (l.foldl (fun a p => (a.endPunt p).bump 16 p.cell 0 1) t).prt = t.prt :=
    fun l t => foldl_keeps (·.prt) _ (fun a x => by simp) l t
  dsimp only [State.ringDisable]; (repeat' split) <;> simp [h]
@[simp] theorem State.ringDisable_cel (i : Nat) (s : State) : (s.ringDisable i).cel = s.cel := by
  have h : ∀ (l : List Punt) (t : State), (l.foldl (fun a p => (a.endPunt p).bump 16 p.cell 0 1) t).cel = t.cel :=
    fun l t => foldl_keeps (·.cel) _ (fun a x => by simp) l t
  dsimp only [State.ringDisable]; (repeat' split) <;> simp [h]
@[simp] theorem State.ringDisable_frm (i : Nat) (s : State) : (s.ringDisable i).frm = s.frm := by
  have h : ∀ (l : List Punt) (t : State), (l.foldl (fun a p => (a.endPunt p).bump 16 p.cell 0 1) t).frm = t.frm :=
    fun l t => foldl_keeps (·.frm) _ (fun a x => by simp) l t
  dsimp only [State.ringDisable]; (repeat' split) <;> simp [h]
@[simp] theorem State.ringDisable_tbl (i : Nat) (s : State) : (s.ringDisable i).tbl = s.tbl := by
  have h : ∀ (l : List Punt) (t : State), (l.foldl (fun a p => (a.endPunt p).bump 16 p.cell 0 1) t).tbl = t.tbl :=
    fun l t => foldl_keeps (·.tbl) _ (fun a x => by simp) l t
  dsimp only [State.ringDisable]; (repeat' split) <;> simp [h]
@[simp] theorem State.ringDisable_flo (i : Nat) (s : State) : (s.ringDisable i).flo = s.flo := by
  have h : ∀ (l : List Punt) (t : State), (l.foldl (fun a p => (a.endPunt p).bump 16 p.cell 0 1) t).flo = t.flo :=
    fun l t => foldl_keeps (·.flo) _ (fun a x => by simp) l t
  dsimp only [State.ringDisable]; (repeat' split) <;> simp [h]
@[simp] theorem State.ringDisable_prg (i : Nat) (s : State) : (s.ringDisable i).prg = s.prg := by
  have h : ∀ (l : List Punt) (t : State), (l.foldl (fun a p => (a.endPunt p).bump 16 p.cell 0 1) t).prg = t.prg :=
    fun l t => foldl_keeps (·.prg) _ (fun a x => by simp) l t
  dsimp only [State.ringDisable]; (repeat' split) <;> simp [h]
@[simp] theorem State.ringDisable_fab (i : Nat) (s : State) : (s.ringDisable i).fab = s.fab := by
  have h : ∀ (l : List Punt) (t : State), (l.foldl (fun a p => (a.endPunt p).bump 16 p.cell 0 1) t).fab = t.fab :=
    fun l t => foldl_keeps (·.fab) _ (fun a x => by simp) l t
  dsimp only [State.ringDisable]; (repeat' split) <;> simp [h]
@[simp] theorem State.ringDisable_egr (i : Nat) (s : State) : (s.ringDisable i).egr = s.egr := by
  have h : ∀ (l : List Punt) (t : State), (l.foldl (fun a p => (a.endPunt p).bump 16 p.cell 0 1) t).egr = t.egr :=
    fun l t => foldl_keeps (·.egr) _ (fun a x => by simp) l t
  dsimp only [State.ringDisable]; (repeat' split) <;> simp [h]
@[simp] theorem State.ringDisable_shadow (i : Nat) (s : State) : (s.ringDisable i).shadow = s.shadow := by
  have h : ∀ (l : List Punt) (t : State), (l.foldl (fun a p => (a.endPunt p).bump 16 p.cell 0 1) t).shadow = t.shadow :=
    fun l t => foldl_keeps (·.shadow) _ (fun a x => by simp) l t
  dsimp only [State.ringDisable]; (repeat' split) <;> simp [h]
@[simp] theorem State.ringDisable_out (i : Nat) (s : State) : (s.ringDisable i).out = s.out := by
  have h : ∀ (l : List Punt) (t : State), (l.foldl (fun a p => (a.endPunt p).bump 16 p.cell 0 1) t).out = t.out :=
    fun l t => foldl_keeps (·.out) _ (fun a x => by simp) l t
  dsimp only [State.ringDisable]; (repeat' split) <;> simp [h]
@[simp] theorem State.ringDisable_draw (i : Nat) (s : State) : (s.ringDisable i).draw = s.draw := by
  have h : ∀ (l : List Punt) (t : State), (l.foldl (fun a p => (a.endPunt p).bump 16 p.cell 0 1) t).draw = t.draw :=
    fun l t => foldl_keeps (·.draw) _ (fun a x => by simp) l t
  dsimp only [State.ringDisable]; (repeat' split) <;> simp [h]
@[simp] theorem State.ringDisable_pending (i : Nat) (s : State) : (s.ringDisable i).pending = s.pending := by
  have h : ∀ (l : List Punt) (t : State), (l.foldl (fun a p => (a.endPunt p).bump 16 p.cell 0 1) t).pending = t.pending :=
    fun l t => foldl_keeps (·.pending) _ (fun a x => by simp) l t
  dsimp only [State.ringDisable]; (repeat' split) <;> simp [h]

end Sys2Proof.Machine
end

