-- ==== Sys2Proof/Laws/Command.lean ====
section
/-!
SUPPORT. What the execution of a mailbox command answers (04 R123, R601), and the frame of a BAR0 access.
-/

namespace Sys2Proof.Machine

open Sys2Proof

/-- A message that no transport has taken changes nothing. -/
theorem mailbox_none {op : Nat} {r : Req} {s : State} {chk : Req → Chk} {run : Req → Ans} (h : s.request op r = none) :
    mailbox op r s chk run = .next s := by
  simp [mailbox, h]

/-- A status of the common checks is answered and nothing else happens. -/
theorem mailbox_status {op : Nat} {r q : Req} {s : State} {chk : Req → Chk} {run : Req → Ans}
    (h : s.request op r = some q) (hs : s.preStatus q (chk q) ≠ stOk) :
    mailbox op r s chk run = .next (s.respond op q (s.preStatus q (chk q)) []) := by
  simp [mailbox, h, hs]

/-- The common checks give no status. -/
theorem preStatus_ok {s : State} {q : Req} {k : Chk} (ho : k.opens = false) (hs : s.sessionOpen q = true)
    (hm : q.malformed = false) (hb : k.bad = false) (hl : k.bl = false) (hz : ∀ n, k.size = some n → q.size = n)
    (he : ∀ n, k.ext = some n → q.extCmd = true → q.size = n) (hk : k.locks = true → s.flt.fatal = 0)
    (hy : k.busy = false) (hp : q.epoch = 0 ∨ q.epoch = s.hif.epoch) : s.preStatus q k = stOk := by
  have h1 : k.wrongSize q = false := by
    cases hzz : k.size <;> cases hee : k.ext <;> cases hx : q.extCmd <;>
      simp_all [Chk.wrongSize]
  have h3 : (k.locks && decide (s.flt.fatal ≠ 0)) = false := by
    cases hl2 : k.locks with
    | false => rfl
    | true => simp [hk hl2]
  have h4 : ¬(q.epoch ≠ 0 ∧ q.epoch ≠ s.hif.epoch) := by
    rintro ⟨a, b⟩; exact hp.elim a b
  unfold State.preStatus
  rw [h1, h3, hb, hl, hy, hm, hs, ho, if_neg h4]
  simp

/-- An accepted command that opens no session runs. -/
theorem mailbox_runs {op : Nat} {r q : Req} {s : State} {chk : Req → Chk} {run : Req → Ans} (h : s.Accepts op r q)
    (hb : (chk q).bad = false) (hl : (chk q).bl = false) (hz : ∀ n, (chk q).size = some n → q.size = n)
    (he : ∀ n, (chk q).ext = some n → q.ExtSize n) (hk : (chk q).locks = true → s.flt.fatal = 0)
    (hy : (chk q).busy = false) (ho : (chk q).opens = false) :
    mailbox op r s chk run = .next (s.finish op q (run q)) := by
  simp [mailbox, h.1, preStatus_ok ho h.2.1 h.2.2.1 hb hl hz he hk hy h.2.2.2]

/-- As `mailbox_runs`, with what follows the response. -/
theorem mailboxThen_runs {op : Nat} {r q : Req} {s : State} {chk : Req → Chk} {run : Req → Ans}
    {after : Req → State → State} (h : s.Accepts op r q)
    (hb : (chk q).bad = false) (hl : (chk q).bl = false) (hz : ∀ n, (chk q).size = some n → q.size = n)
    (he : ∀ n, (chk q).ext = some n → q.ExtSize n) (hk : (chk q).locks = true → s.flt.fatal = 0)
    (hy : (chk q).busy = false) (ho : (chk q).opens = false) (ha : (run q).status = stOk) :
    mailboxThen op r s chk run after = .next (after q (s.finish op q (run q))) := by
  simp [mailboxThen, h.1, preStatus_ok ho h.2.1 h.2.2.1 hb hl hz he hk hy h.2.2.2, ha]

/-- An answer OK or PARTIAL that fits its response is given with the state that it leaves. -/
theorem State.finish_done {op : Nat} {q : Req} {s : State} {a : Ans} (ha : a.status = stOk ∨ a.status = stPartial)
    (hw : a.wait = none) (hh : a.hold = false) (hr : a.words.length ≤ q.room) :
    s.finish op q a = a.st.respond op q a.status a.words := by
  simp [State.finish, ha, hw, hh, Nat.not_lt.mpr hr]

/-- A refusal leaves the state. -/
theorem State.finish_refused {op : Nat} {q : Req} {s : State} {a : Ans} (h0 : a.status ≠ stOk) (h9 : a.status ≠ stPartial)
    (hk : a.keep = false) : s.finish op q a = s.respond op q a.status a.words := by
  simp [State.finish, h0, h9, hk]

/-- An event of the performance monitor changes its counters alone. -/
theorem State.pmuEvent_eq (b e n : Nat) (o : Occ) (s : State) :
    s.pmuEvent b e n o = { s with pmu := (s.pmuEvent b e n o).pmu } := by
  ext1 <;> simp

/-- A BAR0 access of the host, with its count in the GCC's counters. -/
theorem State.access_runs {off : Nat} {f : State → State} {s : State} (h : s.hostAccess = true) :
    s.access off f = f { s with pmu := (s.pmuEvent 200 0x05 1 { addr := some off }).pmu } := by
  rw [State.access, if_pos h, ← State.pmuEvent_eq]

/-- Without the host's access nothing happens. -/
theorem State.access_none {off : Nat} {f : State → State} {s : State} (h : s.hostAccess = false) : s.access off f = s := by
  simp [State.access, h]

/-- A response changes the host interface, what left the module, FLT status and PMU counters alone. -/
theorem State.respond_same (op : Nat) (r : Req) (st : Nat) (ws : List Word) (s : State) :
    s.SameButResponse (s.respond op r st ws) := by
  unfold State.SameButResponse; ext1 <;> simp

end Sys2Proof.Machine
end

