-- ==== Sys2Proof/Laws/Tab.lean ====
section
/-!
SUPPORT. Sparse tables: a read after a write, and the canonical form that every table operation keeps.
-/

namespace Sys2Proof.Machine

open Sys2Proof

variable {α : Type}

@[simp] theorem tabFind_nil (n : Nat) : tabFind ([] : Tab α) n = none := rfl

/-- A written key reads its value. -/
@[simp] theorem tabFind_tabIns_same (n : Nat) (v : α) (t : Tab α) : tabFind (tabIns n v t) n = some v := by
  induction t with
  | nil => simp [tabIns, tabFind]
  | cons e t ih =>
    obtain ⟨k, w⟩ := e
    simp only [tabIns]
    split
    · simp [tabFind]
    · split
      · simp [tabFind]
      · have h : k ≠ n := fun h => by subst h; simp_all
        simp [tabFind, h, ih]

/-- Every other key reads as before. -/
theorem tabFind_tabIns_other {m n : Nat} (h : m ≠ n) (v : α) (t : Tab α) : tabFind (tabIns n v t) m = tabFind t m := by
  induction t with
  | nil => simp [tabIns, tabFind, h.symm]
  | cons e t ih =>
    obtain ⟨k, w⟩ := e
    simp only [tabIns]
    split
    · simp [tabFind, h.symm]
    · split
      · rename_i h1 h2; subst h2; simp [tabFind, h.symm]
      · simp only [tabFind]; split
        · rfl
        · exact ih

/-- A removed key reads nothing. -/
@[simp] theorem tabFind_tabDel_same (n : Nat) (t : Tab α) : tabFind (tabDel n t) n = none := by
  induction t with
  | nil => rfl
  | cons e t ih =>
    obtain ⟨k, w⟩ := e
    simp only [tabDel]
    split
    · exact ih
    · rename_i h; simp [tabFind, Ne.symm h, ih]

theorem tabFind_tabDel_other {m n : Nat} (h : m ≠ n) (t : Tab α) : tabFind (tabDel n t) m = tabFind t m := by
  induction t with
  | nil => rfl
  | cons e t ih =>
    obtain ⟨k, w⟩ := e
    simp only [tabDel]
    split
    · rename_i h1; subst h1; simp [tabFind, h.symm, ih]
    · simp only [tabFind]; split
      · rfl
      · exact ih

variable [DecidableEq α]

/-- A written key reads its value. -/
@[simp] theorem tabGet_tabPut_same (d : α) (n : Nat) (v : α) (t : Tab α) : tabGet d (tabPut d n v t) n = v := by
  unfold tabPut; split
  · rename_i h; simp [tabGet, h]
  · simp [tabGet]

theorem tabFind_tabPut_other {m n : Nat} (h : m ≠ n) (d v : α) (t : Tab α) : tabFind (tabPut d n v t) m = tabFind t m := by
  unfold tabPut; split
  · exact tabFind_tabDel_other h t
  · exact tabFind_tabIns_other h v t

theorem tabFind_tabPut_same (d : α) (n : Nat) (v : α) (t : Tab α) :
    tabFind (tabPut d n v t) n = if v = d then none else some v := by
  unfold tabPut; split <;> simp

/-- Every other key reads as before. -/
theorem tabGet_tabPut_other {m n : Nat} (h : m ≠ n) (c d v : α) (t : Tab α) : tabGet c (tabPut d n v t) m = tabGet c t m := by
  simp [tabGet, tabFind_tabPut_other h]

@[simp] theorem tabGet_tabMod_same (d : α) (n : Nat) (f : α → α) (t : Tab α) : tabGet d (tabMod d n f t) n = f (tabGet d t n) := by
  simp [tabMod]

theorem tabGet_tabMod_other {m n : Nat} (h : m ≠ n) (d : α) (f : α → α) (t : Tab α) :
    tabGet d (tabMod d n f t) m = tabGet d t m := tabGet_tabPut_other h d d _ t

/-! ## The canonical form -/

omit [DecidableEq α] in
theorem tabSorted_cons {e : Nat × α} {t : Tab α} :
    tabSorted (e :: t) = true ↔ tabSorted t = true ∧ ∀ x ∈ t, e.1 < x.1 := by
  induction t generalizing e with
  | nil => simp [tabSorted]
  | cons b t ih =>
    simp only [tabSorted, Bool.and_eq_true, decide_eq_true_eq, List.mem_cons, forall_eq_or_imp]
    constructor
    · rintro ⟨h1, h2⟩
      exact ⟨h2, h1, fun x hx => lt_trans h1 ((ih.mp h2).2 x hx)⟩
    · rintro ⟨h1, h2, _⟩
      exact ⟨h2, h1⟩

omit [DecidableEq α] in
theorem mem_tabIns {n : Nat} {v : α} {t : Tab α} {x : Nat × α} (h : x ∈ tabIns n v t) : x = (n, v) ∨ x ∈ t := by
  induction t with
  | nil => simpa [tabIns] using h
  | cons e t ih =>
    obtain ⟨k, w⟩ := e
    simp only [tabIns] at h
    split at h
    · simpa using h
    · split at h
      · simp only [List.mem_cons] at h ⊢; tauto
      · simp only [List.mem_cons] at h ⊢
        rcases h with h | h
        · tauto
        · rcases ih h with h | h <;> tauto

omit [DecidableEq α] in
theorem mem_tabDel {n : Nat} {t : Tab α} {x : Nat × α} (h : x ∈ tabDel n t) : x ∈ t := by
  induction t with
  | nil => simp [tabDel] at h
  | cons e t ih =>
    obtain ⟨k, w⟩ := e
    simp only [tabDel] at h
    split at h
    · exact List.mem_cons_of_mem _ (ih h)
    · simp only [List.mem_cons] at h ⊢
      rcases h with h | h
      · exact Or.inl h
      · exact Or.inr (ih h)

omit [DecidableEq α] in
theorem tabSorted_tabIns (n : Nat) (v : α) {t : Tab α} (h : tabSorted t = true) : tabSorted (tabIns n v t) = true := by
  induction t with
  | nil => rfl
  | cons e t ih =>
    obtain ⟨k, w⟩ := e
    have h' := tabSorted_cons.mp h
    simp only [tabIns]
    split
    · rename_i hlt
      refine tabSorted_cons.mpr ⟨h, fun x hx => ?_⟩
      rcases List.mem_cons.mp hx with rfl | hx
      · exact hlt
      · exact lt_trans hlt (h'.2 x hx)
    · split
      · rename_i heq; subst heq
        exact tabSorted_cons.mpr h'
      · rename_i h1 h2
        refine tabSorted_cons.mpr ⟨ih h'.1, fun x hx => ?_⟩
        rcases mem_tabIns hx with rfl | hx
        · simp only; omega
        · exact h'.2 x hx

omit [DecidableEq α] in
theorem tabSorted_tabDel (n : Nat) {t : Tab α} (h : tabSorted t = true) : tabSorted (tabDel n t) = true := by
  induction t with
  | nil => rfl
  | cons e t ih =>
    obtain ⟨k, w⟩ := e
    have h' := tabSorted_cons.mp h
    simp only [tabDel]
    split
    · exact ih h'.1
    · exact tabSorted_cons.mpr ⟨ih h'.1, fun x hx => h'.2 x (mem_tabDel hx)⟩

/-- A write keeps the canonical form. -/
theorem tabWf_tabPut (d : α) (n : Nat) (v : α) {t : Tab α} (h : tabWf d t = true) : tabWf d (tabPut d n v t) = true := by
  simp only [tabWf, Bool.and_eq_true, List.all_eq_true, decide_eq_true_eq] at h ⊢
  unfold tabPut; split
  · exact ⟨tabSorted_tabDel n h.1, fun x hx => h.2 x (mem_tabDel hx)⟩
  · rename_i hv
    refine ⟨tabSorted_tabIns n v h.1, fun x hx => ?_⟩
    rcases mem_tabIns hx with rfl | hx
    · exact hv
    · exact h.2 x hx

/-- A change of one key's value keeps the canonical form. -/
theorem tabWf_tabMod (d : α) (n : Nat) (f : α → α) {t : Tab α} (h : tabWf d t = true) : tabWf d (tabMod d n f t) = true :=
  tabWf_tabPut d n _ h

omit [DecidableEq α] in
theorem tabSorted_filter (p : Nat × α → Bool) {t : Tab α} (h : tabSorted t = true) : tabSorted (t.filter p) = true := by
  induction t with
  | nil => rfl
  | cons e t ih =>
    have h' := tabSorted_cons.mp h
    by_cases hp : p e = true
    · rw [List.filter_cons_of_pos hp]
      exact tabSorted_cons.mpr ⟨ih h'.1, fun x hx => h'.2 x (List.mem_of_mem_filter hx)⟩
    · rw [List.filter_cons_of_neg hp]
      exact ih h'.1

/-- Dropping entries keeps the canonical form. -/
theorem tabWf_tabKeep (d : α) (p : Nat → Bool) {t : Tab α} (h : tabWf d t = true) : tabWf d (tabKeep p t) = true := by
  simp only [tabWf, Bool.and_eq_true, List.all_eq_true, decide_eq_true_eq, tabKeep] at h ⊢
  exact ⟨tabSorted_filter _ h.1, fun x hx => h.2 x (List.mem_of_mem_filter hx)⟩

/-! ## Objects of a configuration -/

@[simp] theorem cfgFind_cfgDel_same (op obj : Nat) (c : Cfg) : cfgFind (cfgDel op obj c) op obj = none := by
  simp [cfgFind, cfgDel]

/-- A set object has its words, and one set to its cold-start words is not held. -/
theorem cfgFind_cfgSet_same (op obj : Nat) (w d : List Word) (c : Cfg) :
    cfgFind (cfgSet op obj w d c) op obj = if w = d then none else some w := by
  simp [cfgFind, cfgSet, tabFind_tabPut_same]

/-- A set object reads its words. -/
@[simp] theorem cfgWords_cfgSet_same (op obj : Nat) (w d : List Word) (c : Cfg) :
    cfgWords (cfgSet op obj w d c) op obj d = w := by
  simp only [cfgWords, cfgFind_cfgSet_same]; split <;> simp_all

theorem tabFind_cfgSet_other {op obj k : Nat} (h : k ≠ cfgKey op obj) (w d : List Word) (c : Cfg) :
    tabFind (cfgSet op obj w d c) k = tabFind c k := tabFind_tabPut_other h d w c

theorem tabFind_cfgDel_other {op obj k : Nat} (h : k ≠ cfgKey op obj) (c : Cfg) :
    tabFind (cfgDel op obj c) k = tabFind c k := tabFind_tabDel_other h c

end Sys2Proof.Machine
end

