-- ==== Sys2Proof/WellFormed.lean ====
section
/-!
DEFINITION. Well-formed commands: operands that the interface or the board can deliver at all. The machine takes any
operand; these bounds say which ones a sender can form.
-/

namespace Sys2Proof

/-- The header fields fit their widths, the message its transport, and EXT_ADDR holds words only with EXT_CMD
(04 R122, R127, R129, R130). -/
def Req.wf (r : Req) : Bool :=
  decide (r.tag < 2 ^ 16) && decide (r.length < 2 ^ 16) && decide (r.session < 2 ^ 32) && decide (r.epoch < 2 ^ 16) &&
  decide (r.words.length ≤ (match r.via with | .remote _ => 348 | _ => 60)) &&
  (r.extCmd || r.mem.isEmpty) && decide (r.mem.length ≤ 262144)

/-- A BAR0 offset is aligned and within 4 MiB (04 R112, R116). -/
def offsetWf (off : Nat) : Bool := decide (off % 4 = 0) && decide (off < 0x400000)

/-- Bytes received do not exceed the frame's length; all of them have arrived when it is whole (07 R221). -/
def Arrival.wf (a : Arrival) : Bool :=
  decide (a.data.length ≤ a.length) && (!a.whole || decide (a.data.length = a.length))

/-- A MAC address has 48 bits. -/
def macWf (mac : Nat) : Bool := decide (mac < 2 ^ 48)

/-- Whether a command is well-formed. -/
def Instr.wf : Instr → Bool
  | .unknownOpcode op r => decide (op < 2 ^ 16) && r.wf
  | .ringDoorbell _ entries => entries.all fun e => decide (e.length = 8)
  | .completionDoorbell _ _ scans | .stallReread _ _ scans | .txDescriptorStart _ _ _ scans | .descriptorDone _ _ _ scans
  | .puntDelivery _ _ scans => scans.all fun x => x.entries.all fun e => decide (e.length = 8)
  | .pmuCntLoWrite off _ => offsetWf off
  | .pmuCntHiWrite off _ => offsetWf off
  | .loReadLatch master off => decide (master < 256) && offsetWf off
  | .reservedBar0Write off _ => offsetWf off
  | .registerWrite off _ => offsetWf off
  | .i2cRead dev off _ input => decide (dev < 128) && decide (off < 2 ^ 16) && decide (input.vin < 2 ^ 16) &&
    decide (input.iin < 2 ^ 16) && decide (input.pin < 2 ^ 16)
  | .keyAgreementInit src _ => decide (src.length = 4)
  | .unlockResponse scope key sig => decide (scope < 256) && decide (key.length = 24) && decide (sig.length = 24)
  | .firstInputMeasurement vin iin pin _ => decide (vin < 2 ^ 16) && decide (iin < 2 ^ 16) && decide (pin < 2 ^ 16)
  | .surge g => decide (g.mode < 4)
  | .holdBufferStore _ data _ _ => decide (data.length ≤ 16384)
  | .pipelineEntry _ a => a.wf
  | .learnFilterExpiry _ _ mac => macWf mac
  | .agingPassRow _ _ mac _ _ => macWf mac
  | .temperatureSample temps => decide (temps.length = 24)
  | .pcieLinkUp free => decide (free.length ≤ 32)
  | .firmwareLogLine _ _ id text _ => decide (id < 2 ^ 16) && decide (text.length ≤ 44)
  | .sessionOpen r | .sessionClose r | .commit r _ | .epochStatus r | .stageDiscard r | .statsSnapshot r
  | .powerStatus r | .powerSetState r | .powerSetPreserve r | .powerHoldAwake r | .resetWarm r | .resetCell r
  | .resetLane r | .powerJournalReplay r | .ringSetService r | .ringPuntMap r | .ringEventRoute r | .ringPuntLimit r
  | .portSet r | .portStatus r | .portStatsRead r | .clsParserSet r | .clsBankSet r | .clsProfileSet r | .clsPortSet r
  | .clsRuleWrite r | .clsRuleDelete r | .clsRuleRead r | .clsMeterSet r | .clsMirrorSet r | .clsStatsRead r
  | .tblVlanSet r | .tblPortSet r | .tblL2Write r | .tblL2Flush r | .tblL2Read r | .tblAgeSet r | .tblRouteWrite r
  | .tblNexthopSet r | .tblRouterMac r | .tblGroupSet r | .tblHashKey r | .tblMcastSet r | .tblLookup r
  | .tblStatsRead r | .flowFormat r | .flowTemplateSet r | .flowZoneSet r | .flowAgeSet r | .flowRead r | .flowDelete r
  | .flowZoneFlush r | .flowArchiveRead r | .flowStatsRead r | .progLoad r | .progRead r | .progMeterSet r
  | .progPoolSet r | .progPoolStatus r | .progGroupSet r | .progEmitSet r | .progStatsRead r | .fabStatus r | .fabBench r
  | .fabColPolicer r | .fabBufSet r | .fabStatsRead r | .egrPortSet r | .egrQueueSet r | .egrGateSet r | .egrGateStatus r
  | .egrStatsRead r | .timeStep r | .timeRate r | .timeStatus r | .timeUtcSet r | .timeReanchor r | .timePulseSet r
  | .timeTcSet r | .timeTcStats r | .imgStatus r | .imgWrite r | .imgVerify r | .imgActivate r | .fwConfirm r _
  | .journalSet r | .secStatus r | .secNonce r | .secOwnerEnroll r _ | .secOwnerRevoke r _ | .secCertRead r | .secAttest r
  | .secDebugArm r | .secDebugLock r | .fltStatus r | .fltRead r | .fltClear r | .fltFfrRearm r | .fltAlertSet r
  | .fltInject r | .pmuSet r | .pmuRead r | .pmuSampleSet r => r.wf
  | _ => true

end Sys2Proof
end

