-- ==== Sys2Proof/Tests/Slice0.lean ====
section
/-!
SUPPORT. Tests: ill-formed commands are refused; for each statement of the certificates a concrete state and operands that
meet the hypotheses of each of its clauses; and single steps whose results the manual's own words give. Where a
clause asks for a value that the manual leaves open (the answer of a signature check, a digest, a decryption) nothing
can be evaluated: such a clause has its witness under that one premise, or none, and the theorem says so.
-/

open Sys2Proof Sys2Proof.Machine

namespace Sys2Proof.Tests

set_option Elab.async false

/-- A module in Run, its cells in Run, input power good, with one local session; ring pair 0 has taken a message. -/
def base : State :=
  { State.reset with
    crn := { mod := .run, fwRuns := true, pcieUp := true }
    sup := { pfw := false, measured := true, vin := 5000 }
    hif := { ready := true, blLow := 1, blHigh := 3, blPinned := 1, nextSession := 2, sessions := [{ id := 1 }]
             mbx := [(0, { enable := true, idle := false, exec := some 0, log2size := 4 })] }
    cel := (List.range 64).map fun c => (c, { st := .run }) }

/-- A message with the payload words `ws`, of session 1, through ring pair 0. -/
def rq (ws : List Word) : Req := { via := .ring 0, session := 1, length := 4 + ws.length, words := ws }

/-- The common premise of the statements about commands: the message is accepted as it is. -/
abbrev Ok (s : State) (op : Nat) (ws : List Word) : Prop := s.Accepts op (rq ws) (rq ws)

/-! ## Ill-formed commands are refused, one for each check -/

theorem test_wf_tag : Instr.wf (.commit { rq [] with tag := 65536 } {}) = false := by decide +kernel
theorem test_wf_length : Instr.wf (.commit { rq [] with length := 65536 } {}) = false := by decide +kernel
theorem test_wf_session : Instr.wf (.commit { rq [] with session := 2 ^ 32 } {}) = false := by decide +kernel
theorem test_wf_epoch : Instr.wf (.commit { rq [] with epoch := 65536 } {}) = false := by decide +kernel
theorem test_wf_ring_words : Instr.wf (.commit (rq (List.replicate 61 0)) {}) = false := by decide +kernel
theorem test_wf_remote_words :
    Instr.wf (.commit { rq (List.replicate 349 0) with via := .remote 1 } {}) = false := by decide +kernel
theorem test_wf_mem_without_ext : Instr.wf (.commit { rq [] with mem := [0] } {}) = false := by decide +kernel
theorem test_wf_mem_length (q : Req) (h : q.mem.length = 262145) : Instr.wf (.commit q {}) = false := by
  simp [Instr.wf, Req.wf, h]
theorem test_wf_opcode : Instr.wf (.unknownOpcode 65536 (rq [])) = false := by decide +kernel
theorem test_wf_descriptor : Instr.wf (.ringDoorbell 0 [[0]]) = false := by decide +kernel
theorem test_wf_offset_aligned : Instr.wf (.registerWrite 2 0) = false := by decide +kernel
theorem test_wf_offset_range : Instr.wf (.reservedBar0Write 0x400000 0) = false := by decide +kernel
theorem test_wf_cnt_lo : Instr.wf (.pmuCntLoWrite 1 0) = false := by decide +kernel
theorem test_wf_cnt_hi : Instr.wf (.pmuCntHiWrite 1 0) = false := by decide +kernel
theorem test_wf_master : Instr.wf (.loReadLatch 256 0) = false := by decide +kernel
theorem test_wf_i2c : Instr.wf (.i2cRead 0x3C 65536 1 { vin := 5000, iin := 0, pin := 0 }) = false := by decide +kernel
theorem test_wf_i2c_device : Instr.wf (.i2cRead 128 0 1 { vin := 0, iin := 0, pin := 0 }) = false := by decide +kernel
theorem test_wf_i2c_input : Instr.wf (.i2cRead 0x3C 0 1 { vin := 65536, iin := 0, pin := 0 }) = false := by decide +kernel
theorem test_wf_scan : Instr.wf (.descriptorDone 0 false false [{ ring := 0, entries := [[0]] }]) = false := by decide +kernel
theorem test_wf_key_source : Instr.wf (.keyAgreementInit [] []) = false := by decide +kernel
theorem test_wf_unlock_scope :
    Instr.wf (.unlockResponse 256 (List.replicate 24 0) (List.replicate 24 0)) = false := by decide +kernel
theorem test_wf_unlock_key : Instr.wf (.unlockResponse 1 [] (List.replicate 24 0)) = false := by decide +kernel
theorem test_wf_unlock_sig : Instr.wf (.unlockResponse 1 (List.replicate 24 0) []) = false := by decide +kernel
theorem test_wf_measurement : Instr.wf (.firstInputMeasurement 65536 0 0 false) = false := by decide +kernel
theorem test_wf_surge : Instr.wf (.surge ⟨0, 0, 4, 0, 0, 0, false⟩) = false := by decide +kernel
theorem test_wf_hold_buffer (p : Fin 1024) (data : List Byte) (w : Bool) (h : data.length = 16385) :
    Instr.wf (.holdBufferStore p data w 0) = false := by simp [Instr.wf, h]
theorem test_wf_arrival_long : Instr.wf (.pipelineEntry 0 { data := [0], whole := false, length := 0 }) = false := by
  decide +kernel
theorem test_wf_arrival_whole : Instr.wf (.pipelineEntry 0 { data := [], whole := true, length := 1 }) = false := by
  decide +kernel
theorem test_wf_learn_mac : Instr.wf (.learnFilterExpiry 0 0 (2 ^ 48)) = false := by decide +kernel
theorem test_wf_aging_mac (c : Fin 64) (h : Bool) : Instr.wf (.agingPassRow c 0 (2 ^ 48) h h) = false := by
  simp [Instr.wf, macWf]
theorem test_wf_temperatures : Instr.wf (.temperatureSample []) = false := by decide +kernel
theorem test_wf_link_free : Instr.wf (.pcieLinkUp (List.replicate 33 0)) = false := by decide +kernel
theorem test_wf_log_id : Instr.wf (.firmwareLogLine 0 0 65536 [] false) = false := by decide +kernel
theorem test_wf_log_text : Instr.wf (.firmwareLogLine 0 0 0 (List.replicate 45 0) false) = false := by decide +kernel
/-- And a well-formed one is accepted. -/
theorem test_wf_good : Instr.wf (.commit (rq []) {}) = true := by decide +kernel

/-! ## A witness for each statement: the machine and its mailbox -/

theorem witness_StepRunsFront : { base with pending := [.commit (rq []) {}] }.pending = Instr.commit (rq []) {} :: [] := rfl

theorem witness_EveryStepGoesOn :
    base.pending = [] ∧ base.crn.mod ≠ .unpowered ∧ base.crn.mod ≠ .softStart := by and_intros <;> decide +kernel

/-- Each rung of the order of statuses, with every rung after it at work too. -/
theorem witness_MailboxStatusOrder :
    let all : Chk := { bad := true, bl := true, locks := true, busy := true }
    let late : State := { base with flt := { base.flt with fatal := 1 } }
    let q : Req := { rq [] with epoch := 2 }
    (base.request 0x10 { q with session := 9 } = some { q with session := 9 } ∧ all.opens = false ∧
      base.sessionOpen { q with session := 9 } = false) ∧
    (late.request 0x10 q = some q ∧ late.sessionOpen q = true ∧ all.bad = true) ∧
    (q.malformed = false ∧ { all with bad := false }.wrongSize q = false) ∧
    late.flt.fatal ≠ 0 ∧ q.epoch ≠ 0 ∧ q.epoch ≠ late.hif.epoch := by (try dsimp only); and_intros <;> decide +kernel

theorem witness_ResponseGoesBack :
    ((base.pair 0).exec = some 0 ∧ (rq []).rspOwn = false ∧ base.crn.pcieUp = true) ∧
    { rq [] with rspOwn := true }.rspOwn = true ∧ { rq [] with extRsp := true }.extRsp = true ∧
    (let c : Channel := { id := 7, owner := 0, keyIn := [], keyOut := [] };
      { base with hif := { base.hif with channels := [c] } }.hif.channels.find? (fun h : Channel => h.id == 7) = some c) := by (try dsimp only); and_intros <;> decide +kernel

/-- SESSION_OPEN of level `l`, which names no session. -/
def opening (l : Word) : Req := { rq [l] with session := 0 }
/-- What the statement asks of it. -/
abbrev Opens (l : Word) : Prop :=
  base.request 0x0001 (opening l) = some (opening l) ∧ (opening l).malformed = false ∧ (opening l).session = 0 ∧
    (opening l).f 4 31 8 = 0 ∧ (opening l).ExtSize 1 ∧ (opening l).epoch = 0 ∧ 6 ≤ (opening l).room

/-- The levels 0, above the range, beside the pinned one, and the pinned one. -/
theorem witness_SessionLevelIsPinned :
    (Opens 0 ∧ Opens 4 ∧ Opens 2 ∧ Opens 1) ∧
    (opening 4).f 4 7 0 = base.hif.blHigh + 1 ∧ (opening 2).f 4 7 0 ≠ base.hif.blPinned ∧
    (opening 1).f 4 7 0 = base.hif.blPinned ∧
    base.localSessions < 8 ∧ ¬{ base with hif := { base.hif with sessions := (List.range 8).map fun k => { id := k + 1 } } }.localSessions < 8 ∧
    (Ok base 0x0002 [] ∧ (rq []).ExtSize 0) ∧ (base.closeSessions fun _ => true).hif.sessions = [] := by (try dsimp only); and_intros <;> decide +kernel

theorem witness_EpochsAndSnapshots :
    (Ok base 0x0010 [] ∧ (rq []).ExtSize 0 ∧ base.flt.fatal = 0 ∧ 3 ≤ (rq []).room) ∧
    (base.hif.pend = false ∧ base.changing = false ∧ base.cellResetting = false ∧ base.pfwLow = false ∧ base.stg.flag = false) ∧
    { base with stg := { flag := true }, hif := { base.hif with epoch := 0xFFFF } }.stg.flag = true ∧
    { base with sup := { pfw := true } }.pfwLow = true ∧ { base with hif := { base.hif with pend := true } }.hif.pend = true ∧
    (let g : Segment := { number := 0, bl := 1, checkpoint := false, epoch := 1, opened := 0, records := [] }
     let s : State := { base with img := { base.img with open_ := some g }, stg := { base.stg with flag := true, log := [[0x0301, 4 * 2 ^ 16, 0, 0]] } }
     let g' := { g with records := g.records ++ ((s.stg.log.filter classJ).map (commandRecord 2) ++ [commitRecord 2]) }
     s.stg.flag = true ∧ s.img.journaling = true ∧ s.img.open_ = some g ∧ 4 * g'.words ≤ 4 * 2 ^ 20 ∧
       4 * { s with img := { s.img with open_ := some g' } }.journalUsed < 524288 * 3 ∧
       { s with img := { s.img with journaling := false } }.img.journaling = false ∧ ({ cut := some 0 } : Burn).cut = some 0) ∧
    (Ok base 0x0011 [] ∧ 7 ≤ (rq []).room) ∧ Ok base 0x0012 [] ∧ (Ok base 0x0020 [] ∧ base.snapping = false) ∧
    { base with hif := { base.hif with deferred := [{ kind := .snapshot, op := 0x0020, req := rq [] }], snapAt := 2 ^ 64 - 1 } }.snapping = true ∧
    (base.hif.snapCopy = none ∧ base.hif.snapAt ≤ base.now ∧
      base.now < { base with hif := { base.hif with snapAt := 2 ^ 64 - 1 } }.hif.snapAt) ∧
    (definedOpcodes.contains 0xFFFF = false ∧ 0xFFFF < 2 ^ 16 ∧ Ok base 0xFFFF []) := by (try dsimp only); and_intros <;> decide +kernel

theorem witness_MailboxTransports :
    let free : State := { base with hif := { base.hif with mbx := [(0, { enable := true, idle := false, log2size := 4, pos := 15 })] } }
    let held : State := { base with hif := { base.hif with mbx := [(0, { enable := true, rspStall := true, held := some { slot := 15, op := 0x0010, req := rq [], status := 0, words := [] } })] } }
    (base.hostAccess = true ∧ base.hif.ready = true ∧ base.hif.bmbBusy = false) ∧
    (free.crn.fwRuns = true ∧ free.crn.pcieUp = true ∧ free.hif.ready = true ∧ (free.pair 0).enable = true ∧
      (free.pair 0).exec = none ∧ (free.pair 0).rspStall = false ∧ (0x80000000 : Word).getLsbD 31 = true) ∧
    (held.hostAccess = true ∧ (held.pair 0).rspStall = true) ∧
    ((base.pair 7).enable = false ∧ (base.pair 7).exec = none ∧ (base.pair 7).rspStall = false) ∧
    ((base.pair 7).idle = true ∧ (0x41 : Word).getLsbD 0 = true ∧ fld 0x41 7 4 = 4 ∧ fld 0xC1 7 4 = 12 ∧ fld 0x31 7 4 = 3 ∧
      fld 0xD1 7 4 = 13) := by (try dsimp only); and_intros <;> decide +kernel

theorem witness_Bar0AndBoard :
    let latched : State := { base with hif := { base.hif with latch := [(0x20, 5)] } }
    let addr : State := { base with img := { base.img with policy := { base.img.policy with mgmt := [1, 0x0100000A] } } }
    (base.hostAccess = true ∧ tabFind base.hif.latch (255 * 2 ^ 22 + 0x20) = none) ∧
    (tabFind latched.hif.latch (0 * 2 ^ 22 + 0x20) = some 5 ∧ highOf 0x20 = []) ∧
    ((base.pair 0).enable = true ∧ (base.pair 1).enable = false ∧ (base.pair 1).idle = true) ∧
    (base.cairnRuns = true ∧ base.sup.measured = true ∧ 0x3C + base.sup.i2cAddr ≠ 0x3D ∧ 0x3C + base.sup.i2cAddr = 0x3C) ∧
    ({ base with crn := { base.crn with mod := .watch, fwRuns := false, pcieUp := false } }.crn.fwRuns = false) ∧
    (∃ d : List Byte, d.take 6 ≠ State.mgmtMac 0 ∧ beAt d 0 1 % 2 = 0) ∧
    (fld (addr.mgmtWord 0 0) 27 16 = 0 ∧ addr.mgmtV4 0 = some [10, 0, 0, 1]) := by
  refine ⟨by decide +kernel, by decide +kernel, by decide +kernel, by decide +kernel, by decide +kernel, ?_, by decide +kernel⟩
  by_cases h : ([0, 0, 0, 0, 0, 0] : List Byte) = State.mgmtMac 0
  · exact ⟨[2, 0, 0, 0, 0, 0], fun e => absurd (h.trans e.symm) (by decide), by decide⟩
  · exact ⟨[0, 0, 0, 0, 0, 0], h, by decide⟩

/-! ## Faults and performance monitors -/

/-- A source whose CAUSE is 1 beside one whose CAUSE is 0. -/
theorem witness_EventClears :
    let live : State := { base with flt := { base.flt with live := [(32, 1)], evt := 3 <<< 32 } }
    live.hostAccess = true ∧ live.causeOf 32 = true ∧ live.causeOf 33 = false ∧ (3 : Word).getLsbD 1 = true := by (try dsimp only); and_intros <;> decide +kernel

theorem witness_FirstFaultRecord :
    base.fltRuns = true ∧ { base with crn := { base.crn with fwRuns := false, draining := true } }.fltRuns = true ∧ 2 ≤ (⟨5, 1, 3, 0, 0, 0, 0, false, false, false, false, 0⟩ : Ev).cls ∧ base.flt.ffr.valid = false ∧
    { base with flt := { base.flt with ffr := { valid := true } } }.flt.ffr.valid = true ∧ (Ok base 0x0D04 [] ∧ (rq []).ExtSize 0) ∧
    base.hostAccess = true ∧ (1 : Word).getLsbD 0 = true ∧ (0 : Word).getLsbD 0 = false := by (try dsimp only); and_intros <;> decide +kernel

theorem witness_FaultCommands :
    let e : Ev := { src := 5, reason := 1, cls := 2 }
    let ring : State := { base with flt := { base.flt with queue := [e] }
                                    rng := { base.rng with rings := [(576, { enable := true, log2size := 4 })]
                                                           route := [(2, true, 0, 2)] } }
    (Ok base 0x0D01 [] ∧ (rq []).ExtSize 0 ∧ 10 ≤ (rq []).room) ∧
    (let q := rq [22 + 14 * 2 ^ 6];
      Ok base 0x0D02 q.words ∧ q.f 4 31 12 = 0 ∧ q.ExtSize 1 ∧ q.f 4 11 6 ≤ 14 ∧ q.f 4 5 0 + q.f 4 11 6 ≤ 36 ∧
      1 + 4 * q.f 4 11 6 ≤ q.room) ∧
    (let q := rq [35 + 1 * 2 ^ 6, 7];
      Ok base 0x0D05 [35 + 1 * 2 ^ 6, 7] ∧ q.f 4 31 12 = 0 ∧ q.f 4 11 6 ≤ 14 ∧ q.f 4 5 0 + q.f 4 11 6 ≤ 36 ∧ 1 + q.f 4 11 6 ≤ q.size ∧
      q.ExtSize (1 + q.f 4 11 6)) ∧
    (let q := rq [1, 1151 + 1151 * 2 ^ 16];
      Ok base 0x0D03 [1, 1151 + 1151 * 2 ^ 16] ∧ q.f 4 31 7 = 0 ∧ q.f 4 6 0 = 1 ∧ 2 ≤ q.size ∧ q.ExtSize 2 ∧ q.f 5 15 11 = 0 ∧
      q.f 5 31 27 = 0 ∧ q.f 5 10 0 ≤ 1151 ∧ 2 ≤ q.room ∧ base.causeOf (q.f 5 10 0) = false) ∧
    (let q := rq [1151 + 2 * 2 ^ 11];
      Ok base 0x0D06 [1151 + 2 * 2 ^ 11] ∧ q.f 4 31 13 = 0 ∧ q.f 4 12 11 ≠ 3 ∧ q.f 4 10 0 ≤ 1151 ∧ q.ExtSize 1 ∧ base.eventRing 2 (q.f 4 12 11) = none ∧ (ring.eventRing 2 (q.f 4 12 11)).isSome = true) ∧
    (ring.flt.queue = e :: [] ∧ ring.eventRing 2 e.cls = some 576 ∧
      ((tabGet {} ring.flt.bucket e.src).draw 1000 32 1 ring.tim.up).1 = true ∧ (ring.ring 576).held = [] ∧
      (ring.ring 576).lostNew = 0 ∧ ring.crn.pcieUp = true) ∧
    (base.crn.fwRuns = true ∧ 65535 < 2 ^ 16) := by (try dsimp only); and_intros <;> decide +kernel

theorem witness_Monitors :
    let on : State := base
    (∃ off b w item, on.hostAccess = true ∧ pmuHalf off false = some (b, w) ∧ pmuHalf (off + 4) true = some (b, w + 1) ∧
      pmuReg b w = .cntLo item ∧ pmuReg b (w + 1) = .cntHi item ∧ on.pmuPowered b = true ∧
      ¬(b < 64 ∧ ((on.cell b).st = .slumber ∨ (on.cell b).st = .waking true))) ∧
    (let q := rq [200 + 0x1000, 0, 0, 0, 0, 0, 0];
      Ok base 0x0E01 q.words ∧ q.f 4 31 13 = 0 ∧ q.f 5 31 9 = 0 ∧ q.f 6 31 29 = 0 ∧ q.f 4 7 0 ≤ 200 ∧
      q.f 4 11 8 < pmuCounters (q.f 4 7 0) ∧ q.ExtSize 7) ∧
    (let q := rq [0 + 9 * 2 ^ 12];
      Ok base 0x0E02 q.words ∧ q.f 4 31 16 = 0 ∧ q.f 4 7 0 ≤ 200 ∧ q.f 4 11 8 + q.f 4 15 12 ≤ pmuCounters (q.f 4 7 0) + 1 ∧
      q.ExtSize 1 ∧ 6 + 2 * q.f 4 15 12 ≤ q.room) ∧
    ((8 : Fin 9).val ≤ pmuCounters 0 ∧ base.pmuClock 0 = true ∧ base.pmuCnt 0 8 < 2 ^ 48) ∧
    (let q := rq [8 + 2 ^ 16, 1, 0];
      Ok base 0x0E03 q.words ∧ q.f 4 15 0 = 8 ∧ base.pmuPowered 0 = true ∧ State.reset.pmuPowered 0 = false ∧ q.f 4 31 26 = 0 ∧ q.f64 5 ≠ 0 ∧ q.ExtSize 3) ∧
    (let s : State := { base with pmu := { base.pmu with sample := [(62, { period := 8, count := 2 }), (63, { period := 1, count := 1 })] } };
      (tabGet {} s.pmu.sample 63).period ≠ 0 ∧ (tabGet {} s.pmu.sample 63).count ≤ 1 ∧ (tabGet {} s.pmu.sample 63).armed = false ∧
      1 < (tabGet {} s.pmu.sample 62).count ∧ (tabGet {} s.pmu.sample 61).period = 0) := by
  refine ⟨⟨0x50010, 0, 4, 0, by decide +kernel⟩, ?_⟩; (try dsimp only); and_intros <;> decide +kernel

/-! ## Rings, buffers, ports and links -/

/-- The base module with one ring context. -/
def withRing (i : Nat) (g : Ring) : State := { base with rng := { base.rng with rings := [(i, g)] } }

theorem witness_Rings :
    let tx : Desc := { slot := 3, data := [0x80000000 + 2 ^ 18, 0, 0, 0, 5 + 32 * 2 ^ 21, 0x8000, 0, 0], status := some 0 }
    let done : State := { withRing 0 { busy := [tx] } with bpm := { base.bpm with owner := [(5, 32)] } }
    let held : State := withRing 512 { held := [[1], [2]], log2size := 4, pos := 15 }
    let eq : State := withRing 576 { enable := true, log2size := 4, held := [[1]], lostNew := 1 }
    (base.hostAccess = true ∧ ((base.ring 511).enable = false ∧ fld 0x41 8 4 = 4 ∧ fld 0x101 8 4 = 16 ∧ fld 0x31 8 4 = 3 ∧
      fld 0x111 8 4 = 17 ∧ (0x41 : Word).getLsbD 0 = true) ∧ (base.ring (512 + fld 0x41 21 16)).enable = false) ∧
    ((withRing 512 { enable := true }).ring 512).enable = true ∧
    (withRing 0 { idle := false }).rng.rings.any
      (fun e => decide (e.1 < 512) && ((e.2.cq == 512 - 512 && (e.2.enable || !e.2.idle)) || e.2.busy.any fun d => d.cq.val == 512 - 512)) = true ∧
    (withRing 0 { busy := [tx], cq := 5 }).rng.rings.any
      (fun e => decide (e.1 < 512) && ((e.2.cq == 512 - 512 && (e.2.enable || !e.2.idle)) || e.2.busy.any fun d => d.cq.val == 512 - 512)) = true ∧
    (((withRing 511 { enable := true, log2size := 4 }).ring 511).enable = true ∧
      (withRing 511 { enable := true }).rng.cstall.getLsbD 0 = false ∧
      (let stalled := withRing 511 { enable := true };
        { stalled with rng := { stalled.rng with cstall := 1 } }.rng.cstall.getLsbD (stalled.ring 511).cq = true)) ∧
    (base.rng.invalDone = true ∧ fld 511 9 0 < 512) ∧
    ((withRing 511 { cache := [tx] }).ring 511).cache = tx :: [] ∧
    (base.ring 511).enable = false ∧ (base.rng.rings.any fun e => inRange e.1 512 575 && e.2.held.any fun x => fld (wordAt x 1) 24 16 == 511) = false ∧
    ((base.ring 607).enable = false ∧ (base.ring 607).cache = [] ∧ (base.ring 607).busy = [] ∧ (base.ring 607).held = [] ∧
      512 ≤ (607 : Fin 608).val) ∧
    ((base.ring 512).owed = false ∧ ((withRing 512 { owed := true, irqEn := true }).ring 512).owed = true ∧
      bit ((withRing 512 { owed := true, irqEn := true }).msixWord (4 * 0 + 3)) 0 = true ∧
      bit ({ base with hif := { base.hif with msix := [(3, 0)] } }.msixWord (4 * 0 + 3)) 0 = false) ∧
    (held.hostAccess = true ∧ (held.ring 512).pos < 2 ^ (held.ring 512).log2size ∧ 1 < (held.ring 512).held.length ∧
      held.cqLoad 0 < 32 + min 1 (held.ring 512).held.length) ∧
    ({ base with rng := { base.rng with cstall := 1 } }.rng.cstall.getLsbD 0 = true) ∧
    ((eq.ring 576).enable = true ∧ 0 < (eq.ring 576).lostNew) ∧
    ((done.ring 0).busy = tx :: [] ∧ tx.status = some 0 ∧ tx.lost = false ∧ done.crn.pcieUp = true ∧
      fld (wordAt tx.data 0) 21 18 = 1 ∧ bit (wordAt tx.data 5) 15 = true ∧ done.ownsHandle 32 (wordAt tx.data 4) = true ∧
      (done.ring 512).held = [] ∧ ¬(1 ≤ 0 ∧ 0 ≤ 4) ∧ (withRing 0 { busy := [tx] }).ownsHandle 32 (wordAt tx.data 4) = false) ∧
    (((withRing 0 { cache := [tx] }).ring 0).busy = [] ∧ ((withRing 0 { cache := [tx] }).ring 0).cq < 64 ∧ (withRing 0 { cache := [tx] }).cqLoad 0 < 32) := by (try dsimp only); and_intros <;> decide +kernel

theorem witness_RingServiceAndPunts :
    let p : Punt := { data := [1, 2], cell := 63, port := 0, reason := 1, ts := 0, target := 0x100, handle := 5 }
    let d : Desc := { slot := 0, data := [2, 0, 0, 0, 0, 0, 0, 0] }
    let fw : State := { base with rng := { base.rng with punts := [p] } }
    let rx : State := { base with rng := { base.rng with punts := [{ p with target := 0 }], rings := [(256, { cache := [d] })] } }
    (let q := rq [255 + 1 * 2 ^ 8 + 64 * 2 ^ 16];
      Ok base 0x0201 q.words ∧ q.f 4 31 23 = 0 ∧ q.f 4 15 8 ≠ 0 ∧ 1 ≤ q.f 4 22 16 ∧ q.f 4 22 16 ≤ 64 ∧ q.ExtSize 1) ∧
    (let q := rq [2, 63 + 0x1FF * 2 ^ 8, 0 + 0x100 * 2 ^ 8];
      Ok base 0x0202 q.words ∧ q.f 4 31 7 = 0 ∧ 1 ≤ q.f 4 6 0 ∧ q.f 4 6 0 ≤ 64 ∧ 1 + q.f 4 6 0 ≤ q.size ∧ q.ExtSize (1 + q.f 4 6 0) ∧
      (∀ j, j < q.f 4 6 0 → q.f (5 + j) 7 6 = 0 ∧ q.f (5 + j) 31 17 = 0 ∧ (q.f (5 + j) 16 8 ≤ 0x100 ∨ q.f (5 + j) 16 8 = 0x1FF)) ∧
      (∀ k, k < q.f 4 6 0 → ∀ j, j < k → q.f (5 + j) 5 0 ≠ q.f (5 + k) 5 0)) ∧
    (let q := rq [5 + 31 * 2 ^ 4 + 7 * 2 ^ 9];
      Ok base 0x0203 q.words ∧ q.f 4 31 12 = 0 ∧ q.f 4 3 0 ≤ 5 ∧ q.ExtSize 1) ∧
    (let q := rq [127, 1000];
      Ok base 0x0204 q.words ∧ q.f 4 31 7 = 0 ∧ q.f 5 31 16 = 0 ∧ q.f 4 6 0 = 127 ∧ q.f 5 15 0 ≤ 1000 ∧ q.ExtSize 2) ∧
    (fw.crn.fwRuns = true ∧ fw.rng.punts.find? (fun p => p.cell == 63 && p.target == 0x100) = some p) ∧
    (rx.rng.punts.find? (fun p => p.target == 0) = some { p with target := 0 } ∧ p.sent = 0 ∧ (rx.ring 256).cache = d :: [] ∧
      d.status = none ∧ rxBad d = false ∧ rx.rng.cstall.getLsbD (rx.ring 256).cq = false ∧ rx.cqLoad (rx.ring 256).cq < 32 ∧
      p.data.length ≤ fld (wordAt d.data 0) 17 0 ∧ fld (wordAt d.data 0) 17 0 ≠ 0 ∧ rx.crn.pcieUp = true) := by (try dsimp only); and_intros <;> decide +kernel

theorem witness_Buffers :
    let s : State := { base with bpm := { base.bpm with owner := [(bufKey 1 5, 32)], quota := [(4 * 32 + 1, 2), (4 * 33 + 1, 1)]
                                                        xferTo := [(0, 33), (1, 31), (2, 64), (3, 34)] } }
    let h := mkHandle 1 5 32 0
    (s.hostAccess = true ∧ s.bpm.four = false ∧ fld 0 17 0 = 0 ∧ 131072 < fld 131073 17 0 ∧ fld 2048 17 0 = 2048 ∧ 2048 < fld 2049 17 0) ∧
    (s.poolFree 1 ≠ 0 ∧ s.bpmUsed 32 1 < s.bpmQuota 32 1 ∧ s.bpmQuota 34 1 ≤ s.bpmUsed 34 1) ∧
    { s with bpm := { s.bpm with four := true } }.bpm.four = true ∧
    (s.ownsHandle 32 h = true ∧ s.ownsHandle 33 h = false) ∧
    (tabGet 0 s.bpm.xferTo 1 < 32 ∧ 63 < tabGet 0 s.bpm.xferTo 2 ∧ s.bpmUsed 33 (hPool h) < s.bpmQuota 33 (hPool h) ∧
      s.bpmQuota 34 (hPool h) ≤ s.bpmUsed 34 (hPool h)) := by (try dsimp only); and_intros <;> decide +kernel

/-- Port 1020 in four-lane mode takes its group; beside an enabled port it is answered EXISTS. -/
theorem witness_Ports :
    let q := rq [1020 + 4 * 2 ^ 10 + 2 * 2 ^ 14, 9216, 0, 1000]
    let q1 := rq [1020 + 1 * 2 ^ 10 + 2 ^ 18, 64, 1 + 2 ^ 16, 0]
    let q2 := rq [1021 + 2 * 2 ^ 10, 64, 0, 0]
    let en : State := { base with stg := { staged := [(cfgKey 0x0301 1021, [1021 + 2 * 2 ^ 10 + 2 ^ 16, 1522, 0, 0])] } }
    let four : State := { base with stg := { staged := [(cfgKey 0x0301 1020, [1020 + 4 * 2 ^ 10 + 2 * 2 ^ 14, 1522, 0, 0])] } }
    (Ok base 0x0301 q.words ∧ q.f 4 31 23 = 0 ∧ q.f 5 31 14 = 0 ∧ q.f 7 31 10 = 0 ∧ q.f 4 13 10 ≤ 4 ∧
      fecAllowed (q.f 4 13 10) (q.f 4 15 14) = true ∧ q.f 4 18 18 ≠ 1 ∧ 64 ≤ q.f 5 13 0 ∧ q.f 5 13 0 ≤ 9216 ∧ q.f 7 9 0 ≤ 1000 ∧
      q.f 4 9 0 % 4 = 0 ∧ q.ExtSize 4 ∧ 3 ≤ q.f 4 13 10) ∧
    (Ok base 0x0301 q1.words ∧ q1.f 4 18 18 = 1 ∧ q1.f 4 13 10 = 1 ∧ q1.f 6 15 0 ≠ 0 ∧ q1.f 6 31 16 ≠ 0 ∧
      isPort base.stg.staged 1020 = true) ∧
    (Ok en 0x0301 q.words ∧ isPort en.stg.staged 1021 = true ∧ portEnabled en.stg.staged 1021 = true) ∧
    (Ok four 0x0301 q2.words ∧ isPort four.stg.staged 1021 = false) ∧
    (Ok base 0x0302 [1023] ∧ (rq [1023]).f 4 31 10 = 0 ∧ (rq [1023]).ExtSize 1 ∧ 4 ≤ (rq [1023]).room ∧
      isPort (base.portCfg 1023) 1023 = true) ∧
    isPort ({ base with stg := { cur := [(cfgKey 0x0301 1020, [1020 + 4 * 2 ^ 10, 1522, 0, 0])] } }.portCfg 1021) 1021 = false ∧
    (let q := rq [1023 + 1 * 2 ^ 10];
      Ok base 0x0303 q.words ∧ q.f 4 31 22 = 0 ∧ q.f 4 9 0 + q.f 4 20 10 ≤ 1024 ∧ q.ExtSize 1 ∧ 2 + 49 * q.f 4 20 10 ≤ q.room ∧
      (rq [2 ^ 21]).f 4 21 21 = 1 ∧ base.hif.snapOk = false) := by (try dsimp only); and_intros <;> decide +kernel

theorem witness_Links :
    let at_ (x : Port) : State := { base with prt := [(1023, x)] }
    let lpi : State := { at_ { link := .up } with
      stg := { cur := [(cfgKey 0x0301 1023, [1023 + 1 * 2 ^ 10 + 2 ^ 18, 64, 1 + 2 ^ 16, 0])] } }
    (((at_ { link := .down }).port 1023).link = .down ∧ ((at_ { link := .down }).port 1023).shut = false ∧
      isPort (base.portCfg 1023) 1023 = true ∧ base.crn.mod = .run ∧ base.fltRuns = true ∧ base.inService (cellOf 1023) = true ∧
      base.tim.sdsref.getLsbD (1023 / 128) = true) ∧
    ((at_ { link := .up }).port 1023).link = .up ∧
    (portOf (base.portCfg 1023) 1023 = 1023 ∧ ((at_ { link := .down }).port 1023).link ≠ .disabled ∧ ((at_ { link := .down }).port 1023).shut = false) ∧
    ((lpi.port 1023).link = .up ∧ lpiPort (lpi.portCfg 1023) 1023 = true ∧ (lpi.port 1023).txLpi = false ∧ lpi.portIdle 1023 = true) ∧
    (((at_ { link := .up, txLpi := true }).port 1023).txLpi = true ∧
      { base with egr := { base.egr with queue := [(8 * 1023, [{ fid := 0, port := 1023 }])] } }.portIdle 1023 = false) ∧
    (((at_ { rxLpi := true }).port 1023).rxLpi = true ∧ ({ base with cel := [(63, { st := .doze })] }.cell (1023 / 16)).st = .doze) ∧
    ((at_ { verify := 1 }).port 1023).verify = 1 ∧
    ({ base with cel := [(63, { st := .slumber })] }.cellRuns (1023 / 16) = false ∧ base.running = true ∧
      (([] : List HeldFrame).map (·.data.length)).sum + 16384 ≤ 16384 * portLanes (base.portCfg 1023) 1023 ∧
      ¬(([] : List HeldFrame).map (·.data.length)).sum + 16385 ≤ 16384 * portLanes (base.portCfg 1023) 1023) := by (try dsimp only); and_intros <;> decide +kernel

/-! ## Classifier and forwarding tables -/

/-- The base module with staged objects. -/
def staged (c : Cfg) : State := { base with stg := { base.stg with staged := c } }
/-- The base module whose configuration in force, and staged, holds objects. -/
def inForce (c : Cfg) : State := { base with stg := { base.stg with cur := c, staged := c } }

theorem witness_Classifier :
    (let q := rq [65535 + 2 ^ 16]; Ok base 0x0401 q.words ∧ q.f 4 31 17 = 0 ∧ q.f 4 15 0 ≠ 0 ∧ q.ExtSize 1) ∧
    (let q := rq [15 + 1 * 2 ^ 4 + 3 * 2 ^ 6 + 2 ^ 10, 1, 0];
      Ok base 0x0402 q.words ∧ q.f 4 31 13 = 0 ∧ q.f64 5 ≠ 0 ∧ q.ExtSize 3 ∧ q.f 4 5 4 = 1 ∧ q.f 4 9 8 = 0 ∧ q.f 4 12 10 ≠ 0 ∧
      bankWord base.stg.staged 15 0 ≠ q.w 4 ∧ (∀ c, c < 64 → (q.f64 5).testBit c = true → base.bankBusy 15 c = false) ∧ (q.f64 5).testBit 0 = true ∧
      (staged [(cfgKey 0x0410 (ruleObj 15 0 0), [])]).bankBusy 15 0 = true) ∧
    (let q := rq [15, 1, 0]; Ok base 0x0402 q.words ∧ bankWord base.stg.staged 15 0 = q.w 4 ∧ q.f 4 5 4 = 0 ∧ q.f 4 12 6 = 0) ∧
    (let q := rq ([7, 0, 0x80000000] ++ List.replicate 12 0 ++ [383 + 383 * 2 ^ 9 + 383 * 2 ^ 18, 383, 0, 0, 0, 0]);
      Ok base 0x0403 q.words ∧ q.size = 21 ∧ q.f 4 31 3 = 0 ∧ q.f 19 31 27 = 0 ∧ q.f 20 31 25 = 0 ∧ q.f64 5 ≠ 0 ∧ q.f 19 8 0 ≤ 383 ∧
      q.f 19 17 9 ≤ 383 ∧ q.f 19 26 18 ≤ 383 ∧ q.f 20 8 0 ≤ 383 ∧ actionBad [q.w 21, q.w 22, q.w 23, q.w 24] = false) ∧
    (let q := rq [1023]; Ok base 0x0404 q.words ∧ q.f 4 31 31 = 0 ∧ q.ExtSize 1 ∧ isPort base.stg.staged (q.f 4 9 0) = true) ∧
    isPort (staged [(cfgKey 0x0301 1020, [1020 + 4 * 2 ^ 10, 1522, 0, 0])]).stg.staged 1023 = false ∧
    (let q := rq ([15 + 1023 * 2 ^ 4, 1, 0] ++ List.replicate 28 0);
      let s := staged [(cfgKey 0x0402 (perCell 15 0), [15 + 1 * 2 ^ 4, 1, 0])];
      Ok s 0x0410 q.words ∧ q.size = 31 ∧ q.f 4 31 23 = 0 ∧ q.f 4 22 22 = 0 ∧ q.f64 5 ≠ 0 ∧ bitsOf 64 (q.f64 5) = [0] ∧
      (∀ i, i < 12 → q.w (7 + i) &&& ~~~ q.w (19 + i) = 0) ∧ actionBad [q.w 31, q.w 32, q.w 33, q.w 34] = false ∧
      bankWidth s.stg.staged 15 0 = 1 ∧ q.f 4 13 4 < widthEntries 1 ∧
      (∀ i, i < 12 → widthWords 1 ≤ i → q.w (7 + i) = 0 ∧ q.w (19 + i) = 0) ∧ 2 ≤ q.room ∧
      s.occupied 0x0410 (ruleObj 15 1023 0) = false ∧ bankWidth base.stg.staged 15 0 = 0 ∧
      bankWidth s.stg.staged 15 0 ≠ bankWidth s.stg.staged 15 1 ∧ autoCells base.stg.staged 15 = [] ∧
      (rq ([15 + 2 ^ 22, 0, 0] ++ List.replicate 28 0)).f 4 22 22 = 1 ∧ (rq ([15 + 2 ^ 22, 0, 0] ++ List.replicate 28 0)).f64 5 = 0 ∧
      (staged [(cfgKey 0x0410 (ruleObj 15 1023 0), [])]).occupied 0x0410 (ruleObj 15 1023 0) = true) ∧
    (let q := rq [15 + 1023 * 2 ^ 4, 0, 0x80000000];
      Ok base 0x0411 q.words ∧ q.f 4 31 14 = 0 ∧ q.f64 5 ≠ 0 ∧ q.ExtSize 3 ∧ bitsOf 64 (q.f64 5) = [63] ∧
      cfgFind base.stg.staged 0x0410 (ruleObj (q.f 4 3 0) (q.f 4 13 4) 63) = none ∧
      cfgFind (staged [(cfgKey 0x0410 (ruleObj 15 1023 63), [])]).stg.staged 0x0410 (ruleObj (q.f 4 3 0) (q.f 4 13 4) 63) ≠ none) ∧
    (let q := rq [63 + 15 * 2 ^ 6 + 1023 * 2 ^ 10];
      Ok base 0x0412 q.words ∧ q.f 4 31 20 = 0 ∧ q.ExtSize 1 ∧ 29 ≤ q.room ∧ base.oldSides 63 = [] ∧
      (let s := { base with hif := { base.hif with pend := true }, stg := { prev := [(cfgKey 0x0410 (ruleObj 15 1023 63), [])] } }
        ∃ c ∈ s.oldSides 63, cfgFind c 0x0410 (ruleObj (q.f 4 9 6) (q.f 4 19 10) (q.f 4 5 0)) ≠ none) ∧
      cfgFind (inForce [(cfgKey 0x0410 (ruleObj 15 1023 63), [])]).stg.cur 0x0410 (ruleObj (q.f 4 9 6) (q.f 4 19 10) (q.f 4 5 0)) ≠ none) ∧
    (let q := rq [4095, 1, 0, 5, 100000000, 64, 64];
      Ok base 0x0420 q.words ∧ q.f 4 31 12 = 0 ∧ q.f 7 31 27 = 0 ∧ q.f 8 31 27 = 0 ∧ q.f 9 31 24 = 0 ∧ q.f 10 31 24 = 0 ∧ q.f64 5 ≠ 0 ∧
      q.f 7 26 0 ≤ q.f 8 26 0 ∧ q.f 8 26 0 ≤ 100000000 ∧ 64 ≤ q.f 9 23 0 ∧ 64 ≤ q.f 10 23 0 ∧ q.ExtSize 7) ∧
    (let q := rq [7 + 1023 * 2 ^ 3 + 2 ^ 16 + 2 ^ 17 + 256 * 2 ^ 18, 1, 0];
      Ok base 0x0421 q.words ∧ q.f 4 31 27 = 0 ∧ q.f64 5 ≠ 0 ∧ q.f 4 17 17 = 1 ∧ 64 ≤ q.f 4 26 18 ∧ q.f 4 26 18 ≤ 256 ∧ q.ExtSize 3 ∧
      q.f 4 16 16 = 1 ∧ isPort base.stg.staged (q.f 4 12 3) = true) ∧
    (let q := rq [63 + 2 * 2 ^ 6, 6 + 2 * 2 ^ 13];
      Ok base 0x0430 q.words ∧ q.f 4 31 8 = 0 ∧ q.f 5 31 27 = 0 ∧ q.f 4 7 6 = 2 ∧ q.ExtSize 2 ∧ q.f 5 12 0 + q.f 5 26 13 ≤ 8 ∧
      1 + 2 * q.f 5 26 13 ≤ q.room) := by (try dsimp only); and_intros <;> decide +kernel

/-- Long and short prefixes, group members at both ends of their range. -/
theorem witness_Tables :
    (let q := rq [4094, 0]; Ok base 0x0501 q.words ∧ q.f 4 31 31 = 0 ∧ q.f 5 31 18 = 0 ∧ q.f 4 11 0 ≠ 0 ∧ q.f 4 11 0 ≠ 4095 ∧
      q.f 5 1 0 ≠ 3 ∧ q.f 5 3 2 ≠ 3 ∧ q.ExtSize 2 ∧ base.img.policy.placePermit.testBit (q.f 5 3 2) = true ∧
      base.img.policy.placePermit.testBit ((rq [4094, 8]).f 5 3 2) = false) ∧
    (let q := rq [1023 + 4095 * 2 ^ 10 + 2 ^ 22]; Ok base 0x0502 q.words ∧ q.f 4 31 23 = 0 ∧ q.ExtSize 1 ∧
      isPort base.stg.staged (q.f 4 9 0) = true) ∧
    (let q := rq [65535, 1 * 2 ^ 14 + 4095, 0, 0]; Ok base 0x0521 q.words ∧ q.f 4 31 17 = 0 ∧ q.f 5 31 28 = 0 ∧ q.f 7 31 16 = 0 ∧
      destKind (q.f 5 15 0) ≤ 1 ∧ destInRange base.stg.staged (q.f 5 15 0) = true ∧ q.ExtSize 4) ∧
    (let q := rq [0, 0xFEFF]; Ok base 0x0522 q.words ∧ q.f 5 31 16 = 0 ∧ (q.w 5).toNat / 256 % 2 = 0 ∧ q.ExtSize 2) ∧
    (let q := rq [4095 + 2 ^ 12 + 1 * 2 ^ 13, 0x80, 1023]; Ok base 0x0530 q.words ∧ q.f 4 31 20 = 0 ∧ q.f 5 31 8 = 0 ∧ 1 ≤ q.f 4 19 13 ∧
      q.f 4 19 13 ≤ 64 ∧ q.f 5 7 0 ≠ 0 ∧ q.f 4 12 12 = 1 ∧ halves q.payload 2 (q.f 4 19 13) = [1023] ∧
      (∀ p ∈ halves q.payload 2 (q.f 4 19 13), isPort base.stg.staged p = true) ∧ q.ExtSize (2 + (q.f 4 19 13 + 1) / 2)) ∧
    (let q := rq [1, 2, 0xFF]; Ok base 0x0531 q.words ∧ q.f 6 31 8 = 0 ∧ q.f 6 7 0 ≠ 0 ∧ q.ExtSize 3) ∧
    (let q := rq [16383 + 2 * 2 ^ 14, 1023 + 2 ^ 30 + 4095 * 2 ^ 16]; Ok base 0x0540 q.words ∧ q.f 4 31 21 = 0 ∧ q.f 4 20 14 ≤ 64 ∧
      q.ExtSize (1 + (q.f 4 20 14 + 1) / 2) ∧ halves q.payload 1 (q.f 4 20 14) = [1023, 1 * 2 ^ 14 + 4095] ∧ destKind 1023 = 0 ∧
      destInRange base.stg.staged 1023 = true ∧ destKind (1 * 2 ^ 14 + 4095) = 1 ∧ destInRange base.stg.staged (1 * 2 ^ 14 + 4095) = true ∧
      groupWords base.stg.staged 4095 7 = []) ∧
    (let q := rq [1 + 2 ^ 12, 5, 0, 1, 0]; Ok base 0x0510 q.words ∧ q.f 4 31 14 = 0 ∧ q.f 4 11 0 ≠ 0 ∧ q.f 4 13 13 ≠ 1 ∧ q.f64 7 ≠ 0 ∧
      q.ExtSize 5 ∧ q.f 4 12 12 = 1 ∧ q.f 6 31 16 = 0 ∧ namedCells (q.f 4 13 13 == 1) (q.f64 7) = [0] ∧
      cfgFind base.stg.staged 0x0510 (l2Obj 1 5 0) = none ∧
      cfgFind (staged [(cfgKey 0x0510 (l2Obj 1 5 0), [])]).stg.staged 0x0510 (l2Obj 1 5 0) ≠ none) ∧
    (let q := rq [1, 5, 1023 * 2 ^ 16, 0, 0x80000000]; Ok base 0x0510 q.words ∧ q.f 4 12 12 = 0 ∧ q.f 4 13 13 ≠ 1 ∧ q.f64 7 ≠ 0 ∧
      destInRange base.stg.staged (q.f 6 31 16) = true ∧ destKind (q.f 6 31 16) = 0 ∧ (∀ side ∈ base.sides 63, cfgFind side 0x0510 (l2Obj 1 5 63) = none) ∧
      namedCells (q.f 4 13 13 == 1) (q.f64 7) = [63] ∧ base.l2Count 63 < 58982) ∧
    (let q := rq [15 + 32 * 2 ^ 5, 0x0A000001, 0, 0, 0, 1 + 65535 * 2 ^ 3, 1, 0]; Ok base 0x0520 q.words ∧ q.f 4 31 15 = 0 ∧
      q.f 9 31 19 = 0 ∧ q.ExtSize 8 ∧ longPrefix (q.f 4 4 4) (q.f 4 12 5) = true ∧ q.f 4 12 5 ≤ famBits 0 ∧
      wordsNat [q.w 5, q.w 6, q.w 7, q.w 8] < 2 ^ 32 ∧ q.f 4 13 13 ≠ 1 ∧ q.f64 10 ≠ 0 ∧ q.f 4 14 14 = 0 ∧ q.f 9 2 0 ≤ 3 ∧
      base.longUnits 0 + 1 + 0 ≤ 26214) ∧
    (let q := rq [0 + 24 * 2 ^ 5, 0x0A000000, 0, 0, 0, 3, 0, 0]; Ok base 0x0520 q.words ∧ longPrefix (q.f 4 4 4) (q.f 4 12 5) = false ∧
      wordsNat [q.w 5, q.w 6, q.w 7, q.w 8] % 2 ^ (famBits 0 - 24) = 0 ∧ q.f64 10 = 0 ∧ q.f 9 2 0 = 3 ∧ q.f 9 18 3 = 0 ∧
      base.trieUnits + 1 + 0 ≤ 1048576) ∧
    (let q := rq [0 + 24 * 2 ^ 5 + 2 ^ 14, 0x0A000000, 0, 0, 0, 0, 0, 0]; Ok base 0x0520 q.words ∧ q.f 4 14 14 = 1 ∧ q.f 9 18 0 = 0 ∧
      cfgFind base.stg.staged 0x0520 (routeObj 0 0 24 0x0A000000 64) = none) := by (try dsimp only); and_intros <;> decide +kernel

theorem witness_TableUpkeep :
    let m : Master := { dest := 7, cells := 1, moved := 0 }
    let known : State := { base with tbl := { base.tbl with master := [(l2Key 1 5, m)] } }
    let rep : Report := { kind := 0, cell := 63, fid := 1, mac := 5, port := 1008, time := 9, place := 0, flood := 0 }
    let told : State := { base with tbl := { base.tbl with reports := [rep] } }
    let old (a : Bool) : State := { base with tbl := { base.tbl with dyn := [(l2Obj 1 5 63, { dest := 7, act := a })] }
                                              stg := { base.stg with imm := [(cfgKey 0x0513 0, [300 + 2 ^ 20])] } }
    let gone : State := { base with tbl := { base.tbl with absent := [(71, 4, 9)] } }
    (let q := rq [1, 5, 0]; Ok base 0x0512 q.words ∧ q.f 4 31 12 = 0 ∧ q.f 6 31 16 = 0 ∧ q.ExtSize 3 ∧ 5 ≤ q.room ∧
      base.master (q.f 4 11 0) (join (q.w 5) (q.w 6) % 2 ^ 48) = none ∧
      known.master (q.f 4 11 0) (join (q.w 5) (q.w 6) % 2 ^ 48) = some m ∧ known.stg.cur = [] ∧
      cfgFind (inForce [(cfgKey 0x0510 (l2Obj 1 5 63), [])]).stg.cur 0x0510 (l2Obj (q.f 4 11 0) (join (q.w 5) (q.w 6) % 2 ^ 48) 63) = some []) ∧
    (let q := rq (63 :: List.replicate 10 0); Ok base 0x0550 q.words ∧ q.f 4 31 11 = 0 ∧ q.ExtSize 11 ∧ 3 ≤ q.room) ∧
    (let q := rq [71 + 0 * 2 ^ 7 + 3 * 2 ^ 11]; Ok base 0x0560 q.words ∧ q.f 4 31 16 = 0 ∧ q.f 4 6 0 ≤ 71 ∧
      q.f 4 10 7 + q.f 4 15 11 ≤ 3 ∧ q.ExtSize 1 ∧ 1 + 2 * q.f 4 15 11 ≤ q.room) ∧
    (let q := rq [1 + 2 ^ 13]; Ok base 0x0511 q.words ∧ q.f 4 15 14 = 0 ∧ q.ExtSize 1 ∧ 1 ≤ q.room) ∧
    (let q := rq [1000000]; Ok base 0x0513 q.words ∧ q.f 4 31 21 = 0 ∧ 10 ≤ q.f 4 19 0 ∧ q.f 4 19 0 ≤ 1000000 ∧ q.ExtSize 1) ∧
    (told.crn.fwRuns = true ∧ told.tbl.reports = rep :: [] ∧ rep.kind = 0 ∧ told.master rep.fid rep.mac = none ∧
      told.masterCount < 4194304 ∧ told.img.policy.placePermit.testBit rep.place = true ∧
      told.img.policy.placePermit.testBit 1 = false) ∧
    (((old true).cell 63).st = .run ∧ (old true).crn.fwRuns = true ∧
      tabFind (old true).tbl.dyn (l2Obj 1 5 63) = some { dest := 7, act := true } ∧
      tabFind (old false).tbl.dyn (l2Obj 1 5 63) = some { dest := 7, act := false } ∧
      (old true).l2Gone (l2Obj 1 5 63) false = false ∧ ((old true).cell 63).ageRow = 0 ∧ (old true).ageWord.getLsbD 20 = true) ∧
    (base.scrubs 63 = true ∧ base.scrubs 71 = true ∧ base.fltRuns = true ∧ State.reset.scrubs 63 = false ∧ unitTable 63 15 = false ∧
      (∀ x ∈ [tL2, tVlan, tRule, tChunk, tStaging, tHold], unitTable 63 x = true) ∧ ∀ x ∈ [tTrie, tHop, tGroup, tMcast, tSummit], unitTable 71 x = true) ∧
    (gone.isAbsent 71 4 9 = true ∧ ¬(71 < 64 ∧ 4 = tL2) ∧ ∀ e ∈ gone.tbl.absent, e.1 = 71 → e = (71, 4, 9)) := by (try dsimp only); and_intros <;> decide +kernel

/-! ## Flow store -/

/-- The base module with a formatted flow store that holds records. -/
def store (l : Tab Rec) : State := { base with flo := { base.flo with formatted := true, recs := l } }
/-- All contexts of an engine are taken. -/
def full (e : Nat) (s : State) : State := { s with prg := { s.prg with ctx := (List.range 12).map fun i => (ctxKey e i, {}) } }

theorem witness_FlowStoreSettings :
    (let q := rq [48 + 2 ^ 6, 1, 2, 3, 4];
      Ok base 0x0601 q.words ∧ q.f 4 31 7 = 0 ∧ q.f 4 5 0 ≤ 48 ∧ q.f 4 5 0 % 4 = 0 ∧ q.f 4 6 6 = 1 ∧ q.ExtSize 5 ∧ 1 ≤ q.room ∧ base.flt.fatal = 0 ∧
      base.hif.pend = false ∧ base.flo.formatting = false ∧ base.inRun = true ∧ base.pfwLow = false) ∧
    { base with crn := { base.crn with mod := .standby } }.inRun = false ∧
    (let s : State := { base with flo := { base.flo with formatting := true }
                                  hif := { base.hif with deferred := [{ kind := .format, op := 0x0601, req := rq [] }] } };
      s.flo.formatting = true ∧ (∀ o ∈ s.flo.ops, o.place = .done) ∧ s.flo.voids = [] ∧ s.flo.fwOps = [] ∧ s.flo.coh = [] ∧
      s.prg.comps = [] ∧ s.prg.ctx = [] ∧ (s.hif.deferred.filter fun d => decide (d.kind = .format) && !d.lost) = [{ kind := .format, op := 0x0601, req := rq [] }]) ∧
    (let q := rq [31 + 1 * 2 ^ 5]; Ok base 0x0602 q.words ∧ q.f 4 31 18 = 0 ∧ q.f 4 17 5 ≠ 0 ∧ q.ExtSize 1 ∧
      templateLen (q.f 4 17 5) 2 ≤ 40 ∧ 40 < templateLen ((rq [0x1FFF * 2 ^ 5]).f 4 17 5) 2) ∧
    (let q := rq [4095 + 1 * 2 ^ 12, 268435456, 1280000000, 128];
      Ok base 0x0603 q.words ∧ q.f 4 31 14 = 0 ∧ q.f 5 31 29 = 0 ∧ q.f 7 31 24 = 0 ∧ q.f 5 28 0 ≤ 268435456 ∧
      (q.w 6).toNat ≤ 1280000000 ∧ 128 ≤ q.f 7 23 0 ∧ q.f 4 13 12 < 2 ∧ q.ExtSize 4 ∧ q.f 5 28 0 ≤ base.img.policy.quotaMax ∧
      (q.w 6).toNat ≤ base.img.policy.rateMax ∧ q.f 7 23 0 ≤ base.img.policy.burstMax ∧
      ¬q.f 5 28 0 ≤ ({ base.img.policy with quotaMax := 5 } : Policy).quotaMax) ∧
    (let q := rq [15, 86400]; Ok base 0x0604 q.words ∧ q.f 4 31 4 = 0 ∧ q.f 5 31 17 = 0 ∧ 1 ≤ q.f 5 16 0 ∧ q.f 5 16 0 ≤ 86400 ∧
      q.ExtSize 2) ∧
    (let q := rq [3 + 1 * 2 ^ 2, 0, 0];
      let s : State := { store [] with flo := { (store []).flo with archiveGib := 4, head := [(3, 1)], archive := [(3 * 2 ^ 32, [7])] } };
      Ok s 0x0620 q.words ∧ q.f 4 31 15 = 0 ∧ q.f 4 14 2 ≤ 4096 ∧ q.ExtSize 3 ∧ s.storeAway = false ∧ s.flo.archiveGib ≠ 0 ∧
      base.storeAway = true ∧ (store []).flo.archiveGib = 0 ∧
      max (q.f64 5) (tabGet 0 s.flo.head 3 - s.archiveCap) ≤ q.f64 5 + 0 ∧ q.f64 5 + 0 < tabGet 0 s.flo.head 3 ∧ 5 + 1 ≤ q.room) ∧
    (let q := rq [4 + 0 * 2 ^ 3 + 2 * 2 ^ 15 + 1 * 2 ^ 20]; Ok base 0x0630 q.words ∧ q.f 4 31 25 = 0 ∧ q.f 4 2 0 ≤ 4 ∧
      q.f 4 14 3 < [128, 64, 8, 4096, 1].getD (q.f 4 2 0) 0 ∧ q.f 4 19 15 + q.f 4 24 20 ≤ [20, 5, 4, 4, 3].getD (q.f 4 2 0) 0 ∧
      q.ExtSize 1 ∧ 1 + 2 * q.f 4 24 20 ≤ q.room) := by (try dsimp only); and_intros <;> decide +kernel

/-- Record 2^28 - 1, free, held by a ridge, or quarantined. -/
theorem witness_HomeReadsAndDeletes :
    let h := 2 ^ 28 - 1
    let m : List Word := [1, 3, 0]
    let o (byH : Bool) (d : Bool) : FwOp :=
      { engine := 127, tag := 15, delete := d, byHandle := byH, handle := h, msg := m, keyLen := 0, req := rq [], ord := 2 }
    let with_ (l : Tab Rec) (x : FwOp) : State := { store l with flo := { (store l).flo with fwOps := [x] } }
    (let q := rq (1 :: wd h :: List.replicate 10 0);
      Ok (store []) 0x0610 q.words ∧ q.size = 12 ∧ q.f 4 31 1 = 0 ∧ q.f 4 0 0 = 1 ∧ q.f 5 31 28 = 0 ∧ (∀ i, i < 10 → q.w (6 + i) = 0) ∧
      (store []).storeAway = false ∧ base.storeAway = true ∧ (∃ i, i < 16 ∧ ∀ x ∈ (store []).flo.fwOps, x.engine = 127 → x.tag ≠ i) ∧
      let l := (List.range 16).map fun i => { o true false with tag := i }
      ∀ i, i < 16 → ∃ x ∈ ({ (store []).flo with fwOps := l } : Flo).fwOps, x.engine = 127 ∧ x.tag = i) ∧
    (let q := rq (0 :: 4095 :: List.replicate 10 0);
      Ok (store []) 0x0611 q.words ∧ q.f 4 0 0 = 0 ∧ q.f 5 31 20 = 0 ∧
      ∀ b ∈ (wordsToBytes ((List.range 10).map fun i => q.w (6 + i))).drop (typeLen base.stg.cur (q.f 5 19 12)), b = 0) ∧
    ((with_ [] (o true false)).flo.fwOps.find? fun x => x.engine == 127 && x.tag == 15 && x.delete == false) = some (o true false) ∧
    ((full 127 (with_ [] (o true false))).contextOpen 127 0 = false ∧ (with_ [] (o true false)).contextOpen 127 0 = true ∧
      { o true false with engine := 126, tag := 16 } ∈ (with_ [] { o true false with engine := 126, tag := 16 }).flo.fwOps) ∧
    ((o true false).lost = false ∧ 34 ≤ (o true false).req.room ∧ { rq [0, 0, 0, 0, 0, 0, 33, 0] with extRsp := true }.room < 34) ∧
    ((with_ [] (o true false)).fwKey (o true false) = none ∧
      (let s := with_ [(h, {})] (o true true);
        (∀ k, s.fwKey (o true true) = some k → s.behind 2 127 k = false) ∧
        (let t : State := { s with flo := { s.flo with fwOps := [o true true, { o true false with tag := 14, ord := 1 }] } };
          ∃ k, t.fwKey (o true true) = some k ∧ t.behind 2 127 k = true))) ∧
    ((with_ [] (o false true)).findRec (msgKey m 0) = none ∧ (with_ [] (o false true)).poisoned (msgKey m 0) = false) ∧
    ((with_ [(h, {})] (o true true)).recOf h = some {} ∧ (with_ [(h, {})] (o true true)).recBusy h = false ∧ ({} : Rec).presence = 0 ∧
      ({} : Rec).quarantined = false ∧ quarantinedRec.quarantined = true ∧ quarantinedRec.presence = 0 ∧
      ({ presence := 1 } : Rec).presence ≠ 0) := by (try dsimp only); and_intros <;> decide +kernel

/-- The store holds one record, of zone 4095, last seen at 0; the time is 1000 s. -/
def aged : State := { store [(2 ^ 28 - 1, { zone := 4095 })] with tim := { base.tim with ctr := 10 ^ 12 * 2 ^ 48 } }
def flushed : State := { aged with flo := { aged.flo with flushing := [4095] } }
theorem flushed_records : flushed.zoneRecords 4095 = [2 ^ 28 - 1] := by decide +kernel

theorem witness_FlowUpkeep :
    (Ok aged 0x0612 [4095] ∧ (rq [4095]).f 4 31 12 = 0 ∧ (rq [4095]).ExtSize 1 ∧ 1 ≤ (rq [4095]).room ∧ aged.storeAway = false ∧ base.storeAway = true) ∧
    (flushed.flo.flushing.contains 4095 = true ∧ (flushed.zoneRecords 4095 = [2 ^ 28 - 1] ∧
      ∀ h ∈ flushed.zoneRecords 4095, ∃ x, flushed.recOf h = some x ∧ x.presence = 0 ∧ flushed.recBusy h = false) ∧
      flushed.zoneRecords 4094 = []) ∧
    (aged.enginesRun = true ∧ aged.sweepWay (2 ^ 28 - 1) = [] ∧ aged.flo.formatted = true ∧ aged.recBusy (2 ^ 28 - 1) = false ∧
      aged.recOf (2 ^ 28 - 1) = some { zone := 4095 } ∧ ({ zone := 4095 } : Rec).quarantined = false ∧
      aged.expired { zone := 4095 } = true ∧ aged.expired { last := 10 ^ 12 - 1 } = false ∧
      aged.expired { presence := 0x80 } = true ∧ ({ presence := 0x80 } : Rec).presence ≠ 0) ∧
    ((2 ^ 28 - 1) / 2 ^ 26 = 3 ∧ Burst.other ≠ .record 0 ∧ aged.fltRuns = true ∧
      (tabFind { aged.flo with archive := [(3 * 2 ^ 32 + 7, [9])] }.archive (3 * 2 ^ 32 + 7)).isSome = true) := by
  refine ⟨?_, ⟨?_, ⟨flushed_records, ?_⟩, ?_⟩, ?_, ?_⟩
  · and_intros <;> decide +kernel
  · decide +kernel
  · intro h hh
    rw [flushed_records, List.mem_singleton] at hh
    subst hh
    exact ⟨{ zone := 4095 }, by decide +kernel, rfl, by decide +kernel⟩
  · decide +kernel
  · and_intros <;> decide +kernel
  · and_intros <;> decide +kernel

/-- A message of cell 63, epoch 1: program `p`, the key of zeros, 64 bytes at time 9. -/
def msg (p : Nat) : List Word := wd (1 + p * 2 ^ 16) :: List.replicate 11 0 ++ [64, 9, 0, 0]
/-- Its key, and its operation at `place`. -/
def key : FKey := msgKey (msg 5) 0
def op (place : OpAt) (p : Nat) : Op :=
  { cell := 63, tag := 255, msg := msg p, keyLen := 0, engine := homeOf (base.hashKey key), place := place, fid := 0, wait := true,
    program := p, ready := 0 }
/-- The slot that its record takes, and that record. -/
def slot : Nat := bucketA (base.hashKey key)
def rec_ : Rec := { key := List.replicate 40 0, program := 5 }
/-- The store with operations, and the record where `r` holds one. -/
def ops (l : List Op) (r : Tab Rec) : State := { store r with flo := { (store r).flo with ops := l } }
/-- A cache entry of the record. -/
def line : CacheEntry := { handle := slot, zone := 0, keyType := 0, keyLen := 0, key := List.replicate 40 0, epoch := 1, program := 5
                           y := List.replicate 6 0, lease := false, dpkts := 65535 }

theorem witness_RidgeCaches :
    let s := ops [op .cache 5] []
    let c : State := { s with flo := { s.flo with cache := [(7, [line])] } }
    let v : VoidMsg := { cell := 63, msg := msg 5, keyLen := 0 }
    let w : State := { c with flo := { c.flo with ops := [], voids := [v] } }
    let m (k : Nat) : Coh := { kind := k, ridge := 7, handle := slot }
    let coh (k : Nat) (l : Tab Lock) : State := { store [(slot, rec_)] with flo := { (store [(slot, rec_)]).flo with coh := [m k], locked := l } }
    ((s.flo.ops.find? fun p => p.cell == 63 && p.tag == 255 && decide (p.place = .cache)) = some (op .cache 5) ∧
      s.nextAtCache (ridgeOf 63) ((op .cache 5).engine / 32) (op .cache 5).ord = true ∧ s.cacheOf 7 = [] ∧
      ((c.cacheOf 7).find? fun x => x.holds (msgKey (msg 5) 0) && x.epoch == msgEpoch (msg 5) && x.program == msgProgram (msg 5)) =
        some line ∧ 65536 ≤ line.dpkts + 1) ∧
    (takeFirst (fun v => v.cell == 63 && w.sentVoid v && w.nextAtCache (ridgeOf 63) (w.voidHome v / 32) v.ord) w.flo.voids = some (v, []) ∧
      ((w.cacheOf 7).find? fun x => x.holds (msgKey v.msg v.keyLen)) = some line ∧ line.dpkts ≤ 65536) ∧
    (takeFirst (fun m : Coh => m.ridge == 7 && m.handle / 2 ^ 26 == slot / 2 ^ 26 && decide (m.kind < 2)) (coh 1 []).flo.coh = some (m 1, []) ∧
      ((c.cacheOf 7).find? fun x => x.handle == slot) = some line ∧
      takeFirst (fun m : Coh => m.ridge == 7 && m.handle / 2 ^ 26 == slot / 2 ^ 26 && decide (m.kind < 2)) (coh 0 []).flo.coh = some (m 0, [])) ∧
    (takeFirst (fun m : Coh => m.ridge == 7 && m.handle == slot && decide (2 ≤ m.kind)) (coh 4 []).flo.coh = some (m 4, []) ∧
      (coh 4 []).recOf slot = some rec_ ∧ rec_.quarantined = false ∧ tabFind (coh 4 []).flo.locked slot = none ∧
      (coh 4 []).routeClear 7 (engineOf slot) 0 = true) ∧
    (takeFirst (fun m : Coh => m.ridge == 7 && m.handle == slot && decide (2 ≤ m.kind)) (coh 2 []).flo.coh = some (m 2, []) ∧
      (coh 2 [(slot, ⟨0x80, 0x80, .write⟩)]).routeClear 7 (engineOf slot) 0 = true ∧
      tabFind (coh 2 [(slot, ⟨0x80, 0x80, .write⟩)]).flo.locked slot = some ⟨0x80, 0x80, .write⟩ ∧
      (0x80 : BitVec 8) &&& ~~~BitVec.ofNat 8 (2 ^ 7) = 0) ∧
    (c.flo.coh = [] ∧ ((c.cacheOf 7).find? fun x => x.handle == slot && decide (x.dpkts ≠ 0 ∨ x.dbytes ≠ 0 ∨ x.latest ≠ 0)) = some line ∧
      tabFind c.flo.locked slot = none ∧ (ops [] [(slot, rec_)]).routeClear 7 (engineOf slot) 1 = true ∧
      (ops [{ op .home 5 with ord := 0 }] [(slot, rec_)]).routeClear 7 (engineOf slot) 1 = false) := by
  (try dsimp only); and_intros <;> decide +kernel

/-- A store whose records of another key fill the first bucket of `key`, or both, held by the ridges of `presence`. -/
def crowd (presence : BitVec 8) (both : Bool) : State :=
  let r : Rec := { key := List.replicate 39 0 ++ [9], program := 5, presence := presence }
  let b := bucketB (base.hashKey key)
  let create : Cfg := [(cfgKey 0x0603 0, [0, 1280, 1000, 128]), (cfgKey 0x0701 5, [wd (5 + 2 ^ 13), 0, 0])]
  let l := (List.range 4).map fun i => (slot + i, r)
  let m := if both then (List.range 4).map fun i => (b + i, r) else []
  let s := ops [op .home 5] ((l ++ m).foldl (fun t x => tabIns x.1 x.2 t) [])
  { s with stg := { cur := create } }

/-- The record found, created, refused and poisoned; the new one's bucket full, and both full with and without a way out. -/
theorem witness_Operate :
    let s := ops [op .home 5] [(slot, rec_)]
    let create : Cfg := [(cfgKey 0x0603 0, [0, 1280, 1000, 128]), (cfgKey 0x0701 5, [wd (5 + 2 ^ 13), 0, 0])]
    let new : State := { ops [op .home 5] [] with stg := { cur := create } }
    let shut : State := { new with flo := { new.flo with flushing := [0] } }
    (s.AtHome 63 255 (op .home 5) ∧ s.epochCfg (msgEpoch (msg 5)) = some [] ∧ s.flo.formatted = true ∧
      s.findRec (msgKey (msg 5) 0) = some slot ∧ s.recOf slot = some rec_ ∧ s.recBusy slot = false ∧
      s.contextOpen (op .home 5).engine (op .home 5).queued = true ∧
      (full (op .home 5).engine s).contextOpen (op .home 5).engine (op .home 5).queued = false ∧
      progLength [] rec_.program = 0 ∧ rec_.state ≠ 0xE ∧ progCache [] rec_.program = 0 ∧
      progCache [(cfgKey 0x0701 5, [wd (5 + 2 * 2 ^ 14), 0, 0])] rec_.program = 2 ∧ msgTime (msg 5) ≤ rec_.last + 10000) ∧
    ({ new with hif := { new.hif with epoch := 5 } }.epochCfg (msgEpoch (msg 5)) = none) ∧
    (new.AtHome 63 255 (op .home 5) ∧ new.contextOpen (op .home 5).engine (op .home 5).queued = true ∧
      new.keyBusy (msgKey (msg 5) 0) = false ∧ new.epochCfg (msgEpoch (msg 5)) = some create ∧ base.flo.formatted = false ∧
      new.findRec (msgKey (msg 5) 0) = none ∧ new.poisoned (msgKey (msg 5) 0) = false ∧ progCreate create 5 = true ∧
      progCreate [] 5 = false ∧ (new.zoneJudge (op .home 5).engine 0).1 = 0 ∧ (shut.zoneJudge (op .home 5).engine 0).1 = 4 ∧
      new.freeSlot (bucketA (new.hashKey (msgKey (msg 5) 0))) = some slot ∧ progLength create 5 = 0) ∧
    (let one := crowd 0 false; let both := crowd 0 true; let stuck := crowd 1 true
      one.freeSlot slot = none ∧ one.freeSlot (bucketB (one.hashKey key)) = some (bucketB (one.hashKey key)) ∧
      (both.zoneJudge (op .home 5).engine 0).1 = 0 ∧ both.freeSlot slot = none ∧ both.freeSlot (bucketB (both.hashKey key)) = none ∧
      (both.findRec key).isNone = true ∧ both.poisoned key = false ∧
      (both.insertPath (both.hashKey key)).isSome = true ∧ stuck.insertPath (stuck.hashKey key) = none) ∧
    (ops [] [(slot, quarantinedRec)]).poisoned (msgKey (msg 5) 0) = true := by (try dsimp only); and_intros <;> decide +kernel

theorem witness_VoidsAndCompanions :
    let v : VoidMsg := { cell := 63, msg := msg 5, keyLen := 0, passed := true }
    let s : State := { store [(slot, rec_)] with flo := { (store [(slot, rec_)]).flo with voids := [v] } }
    let m : CompMsg := { engine := 127, context := 15, home := homeOf (base.hashKey key), msg := msg 5, keyLen := 0 }
    let create : Cfg := [(cfgKey 0x0603 0, [0, 1280, 1000, 128]), (cfgKey 0x0701 5, [wd (5 + 2 ^ 13), 0, 0])]
    let c (r : Tab Rec) : State := { store r with prg := { base.prg with comps := [m] }, stg := { cur := create } }
    let x (st : Nat) : Run := { handle := some slot, compResult := some (st, 3), holds := some (63, 255), msg := msg 5 }
    let w (st : Nat) : State := { store [(slot, rec_)] with prg := { base.prg with ctx := [(ctxKey 127 15, x st)] } }
    let y (st : Bool) : Run := { handle := some slot, stall := st, holds := some (63, 255), msg := msg 5, index := 12 }
    let z (l : List Nat) : State := { w 1 with prg := { (w 1).prg with ctx := l.map fun i => (ctxKey 127 i, y (i == 11)) } }
    (takeFirst (fun v => v.cell == 63 && s.voidReady v) s.flo.voids = some (v, []) ∧
      (∀ v ∈ (full (homeOf (s.hashKey key)) s).flo.voids, (full (homeOf (s.hashKey key)) s).voidReady v = false) ∧
      s.findRec (msgKey v.msg v.keyLen) = some slot ∧ s.recOf slot = some rec_ ∧ s.recBusy slot = false ∧
      (store []).findRec (msgKey v.msg v.keyLen) = none) ∧
    (((c []).prg.comps.find? fun m => m.engine == 127 && m.context == 15) = some m ∧ (c []).epochCfg (msgEpoch m.msg) = some create ∧
      progLength create (msgProgram m.msg) = 0 ∧ (c []).behind 0 m.home (msgKey m.msg m.keyLen) = false ∧
      (c []).keyBusy (msgKey m.msg m.keyLen) = false ∧ (c [(slot, rec_)]).keyBusy (msgKey m.msg m.keyLen) = false ∧ (c [(slot, rec_)]).findRec (msgKey m.msg m.keyLen) = some slot ∧
      (c []).findRec (msgKey m.msg m.keyLen) = none ∧
      (c []).poisoned (msgKey m.msg m.keyLen) = false ∧ progCreate create (msgProgram m.msg) = true ∧
      ((c []).zoneJudge m.home 0).1 = 0 ∧ (c []).freeSlot (bucketA ((c []).hashKey (msgKey m.msg m.keyLen))) = some slot) ∧
    (tabFind (w 1).prg.ctx (ctxKey 127 15) = some (x 1) ∧ (w 1).recOf slot = some rec_ ∧ rec_.quarantined = false ∧ rec_.state ≠ 0xE ∧
      rec_.presence = 0) ∧
    (tabFind (z [3, 11]).prg.ctx (ctxKey 127 11) = some (y true) ∧ (y true).holds.isSome = true ∧ (z [3, 11]).heldContexts 127 < 8 ∧
      (∀ j, j < 11 → tabGet (y false) (z [3, 11]).prg.ctx (ctxKey 127 j) = y false) ∧ 8 ≤ (z (List.range 8)).heldContexts 127) := by (try dsimp only); and_intros <;> decide +kernel

theorem witness_FlowResults :
    let fr : Frame := { data := List.replicate 64 0, length := 64, ended := true }
    let done (st : Nat) : Op := { op .done 5 with result := resultWords 255 63 st 0 0 0 0 (List.replicate 6 0) }
    let s (o : Op) (k : List Park) : State := { ops [o] [] with frm := { base.frm with frames := [(0, fr)], parked := k } }
    let p : Park := ⟨0, 63, 0, 1⟩
    (((s (done 6) []).flo.ops.find? fun o => o.cell == 63 && o.tag == 255 && decide (o.place = .done)) = some (done 6) ∧
      (s (done 6) []).cellRuns 63 = true ∧ (∀ q ∈ (s (done 6) []).flo.ops, q.cell = 63 → q.tag ≠ 255 → q.place ≠ .credit) ∧
      (done 6).sampled = false ∧ ((s (done 6) []).frm.parked.any fun k => k.fid == 0) = false ∧
      ((s (done 6) [p]).frm.parked.any fun k => k.fid == 0) = true ∧ ((s (done 6) [p]).frame 0).ended = true ∧
      ((s (done 6) [p]).frame 0).bad = false ∧ resultStatus (done 6).result = 6 ∧ resultStatus (done 0).result = 0 ∧
      fld (wordAt (done 0).result 2) 1 0 = 0) ∧
    (((s (op .credit 5) [p]).flo.ops.find? fun o => o.cell == 63 && o.tag % 256 == 255 && (s (op .credit 5) [p]).frm.parked.any fun k => k.fid == o.fid) =
      some (op .credit 5) ∧ (tabFind (s (op .credit 5) [p]).frm.frames 0).isSome = true) ∧
    (((s { op .credit 5 with wait := false } []).flo.ops.find? fun o => o.cell == 63 && o.tag % 256 == 255 && !o.out && !o.wait) =
      some { op .credit 5 with wait := false }) := by (try dsimp only); and_intros <;> decide +kernel

/-- The export of a telemetry record needs a token, and a bucket that is full has one. -/
theorem witness_Exports :
    let x : Export := ⟨[25 * 2 ^ 24, 0, 1, 2, 3, 4, 5, 6], 9, 7⟩
    let s : State := { store [] with flo := { (store []).flo with evq := [(127, [x])], arq := [(127, [x])], archiveGib := 4 } }
    let t : State := { base with img := { base.img with policy := { base.img.policy with collector := some ([1], 4739, 1) } }
                                 prg := { base.prg with staging := [(3, [[7]])], templates := [(1, 0, [])] } }
    (s.crn.fwRuns = true ∧ tabGet [] s.flo.evq 127 = x :: []) ∧ (s.enginesRun = true ∧ tabGet [] s.flo.arq 127 = x :: [] ∧ s.flo.archiveGib ≠ 0) ∧
    (t.crn.fwRuns = true ∧ tabGet [] t.prg.staging 3 = [7] :: [] ∧ t.img.policy.collector = some ([1], 4739, 1)) ∧
    (∀ n : Nat, (({} : Bucket).draw 1000000 (1 + n) 1 0).1 = true) ∧ t.prg.templates ≠ [] := by
  refine ⟨?_, ?_, ?_, ?_, ?_⟩
  · and_intros <;> decide +kernel
  · and_intros <;> decide +kernel
  · and_intros <;> decide +kernel
  · intro n; have e : (1 : Nat) * tokenParts ≤ (1 + n) * tokenParts := Nat.mul_le_mul_right _ (by omega)
    have b : (({} : Bucket).refill 1000000 0).has (1 + n) 1 = true := by simpa [Bucket.refill, Bucket.has] using e
    simp [Bucket.draw, b]
  · decide +kernel

/-! ## Flow programs -/

/-- Context 15 of engine 127 runs on the record of `msg 5`. -/
def ctx (x : Run) : State := { store [(slot, rec_)] with prg := { base.prg with ctx := [(ctxKey 127 15, x)] } }
def run5 : Run := { handle := some slot, msg := msg 5, lastBefore := some 1, inStatus := 1, program := 5 }
/-- An instruction word of opcode `op` with the lower bits `l`. -/
def iw (op : Nat) (l : Nat) : Word := wd (op * 2 ^ 27 + l)

theorem witness_FlowInstructions :
    let s := ctx run5
    (s.Issues 127 15 0x03 (iw 0x03 (9 * 2 ^ 22 + 2 ^ 16 + 0xFFF)) ∧ s.Issues 127 15 0x04 (iw 0x04 (15 * 2 ^ 22)) ∧
      s.Issues 127 15 0x05 (iw 0x05 (19 * 2 ^ 22)) ∧ s.Issues 127 15 0x06 (iw 0x06 0) ∧ s.Issues 127 15 0x07 (iw 0x07 (3 * 2 ^ 20 + 0xFFF)) ∧
      s.Issues 127 15 0x08 (iw 0x08 (31 * 2 ^ 7)) ∧ s.Issues 127 15 0x09 (iw 0x09 (31 * 2 ^ 12)) ∧
      s.Issues 127 15 0x0A (iw 0x0A (36 * 2 ^ 16 + 2 * 2 ^ 14)) ∧ s.Issues 127 15 0x0B (iw 0x0B (3 * 2 ^ 20)) ∧
      s.Issues 127 15 0x13 (iw 0x13 (2 ^ 5))) ∧
    { s with crn := { s.crn with mod := .standby } }.enginesRun = false ∧
    ((s.ctxRun 127 15).lastBefore = some 1 ∧ fld (iw 0x0B (3 * 2 ^ 20)) 21 20 = 3) ∧
    (s.Issues 127 15 0x02 (iw 0x02 (5 * 2 ^ 24 + 11 * 2 ^ 20)) ∧ s.Issues 127 15 0x01 (iw 0x01 (2 ^ 20))) ∧
    (s.Issues 127 15 0x0C (iw 0x0C (14 * 2 ^ 23 + 2 ^ 9)) ∧ (s.ctxRun 127 15).handle = some slot ∧ s.recOf slot = some rec_) := by (try dsimp only); and_intros <;> decide +kernel

theorem witness_FlowResources :
    let s := ctx run5
    let none_ := ctx { run5 with handle := none }
    let pool : State := { s with stg := { cur := [(cfgKey 0x0720 255, [wd (255 + 2 ^ 8), 4095, 7])] } }
    let lb : State := { s with stg := { cur := [(cfgKey 0x0730 0, [wd (1 * 2 ^ 16), 9, 80 + 2 ^ 16])] } }
    let comp := ctx { run5 with msg := (msg 5).set 1 (wd (32 * 2 ^ 23)), keyLen := 13 }
    let emit : State := { s with stg := { imm := [(cfgKey 0x0740 0, [1000, 0])] }, prg := { s.prg with staging := [(3, [[7]])] } }
    (s.Issues 127 15 0x0D (iw 0x0D (8 * 2 ^ 18)) ∧ (none_.ctxRun 127 15).record none_ = none ∧
      (s.ctxRun 127 15).record s = some rec_) ∧
    (pool.Issues 127 15 0x0E (iw 0x0E (255 * 2 ^ 9)) ∧ (pool.ctxRun 127 15).handle ≠ none ∧
      ((poolOf ((pool.ctxRun 127 15).cfg pool) 255).2.findSome? fun a => (pool.natPort 127 0 a.1).map fun q => (a.1, a.2, q)) =
        some (4095, 7, 1024 + 504 * 127) ∧ (poolOf ((s.ctxRun 127 15).cfg s) 255).2 = []) ∧
    (s.Issues 127 15 0x0F (iw 0x0F 0) ∧
      tabGet false { s with prg := { s.prg with nat := [(65535, true)] } }.prg.nat 65535 = true ∧ 65535 % 65536 < 1528 + 504 * 127) ∧
    (s.Issues 127 15 0x10 (iw 0x10 (2 ^ 11)) ∧ (lbMembers ((s.ctxRun 127 15).cfg s) 0).filter (fun m => m.2.2) = [] ∧
      (lbMembers ((lb.ctxRun 127 15).cfg lb) 0).filter (fun m => m.2.2) ≠ []) ∧
    (s.Issues 127 15 0x11 (iw 0x11 0) ∧ (none_.ctxRun 127 15).handle = none ∧ (s.ctxRun 127 15).companionRun = false ∧
      compKey ((s.ctxRun 127 15).cfg s) (s.ctxRun 127 15) 0 0 0 = none ∧
      (compKey ((comp.ctxRun 127 15).cfg comp) (comp.ctxRun 127 15) 0 0 0).map (fun y => y.bytes.length) = some 40 ∧ comp.heldContexts 127 < 8 ∧
      let eight : State := { s with prg := { s.prg with ctx := (List.range 8).map (fun i => (ctxKey 127 i, { holds := some (i, 0) })) ++
        [(ctxKey 127 15, { run5 with msg := (msg 5).set 1 (wd (32 * 2 ^ 23)), keyLen := 13 })] } }
      eight.Issues 127 15 0x11 (iw 0x11 0) ∧ 8 ≤ eight.heldContexts 127 ∧
      (compKey ((eight.ctxRun 127 15).cfg eight) (eight.ctxRun 127 15) 0 0 0).isSome = true) ∧
    (s.Issues 127 15 0x12 (iw 0x12 (255 * 2 ^ 19)) ∧ s.emitSet.1 = 0 ∧ emit.emitSet.1 ≠ 0 ∧
      ((tabGet {} emit.prg.emitBucket 127).draw 1000 64 1 emit.tim.up).1 = true ∧ (tabGet [] emit.prg.staging 3).length % 32 ≠ 0) := by (try dsimp only); and_intros <;> decide +kernel

theorem witness_FlowPrograms :
    let add : Word := iw 0x03 (2 ^ 16)
    (let q := rq ([wd (511 + 1 * 2 ^ 9 + 15 * 2 ^ 20 + 15 * 2 ^ 24), 1000, 0, add] ++ List.replicate 11 0);
      Ok base 0x0701 q.words ∧ q.size = 15 ∧ q.f 4 31 28 = 0 ∧ q.f 5 15 10 = 0 ∧ q.f 5 31 26 = 0 ∧ q.f 6 31 21 = 0 ∧ q.f 4 12 9 ≤ 12 ∧
      q.f 4 15 14 ≠ 3 ∧ q.f 4 18 17 ≠ 3 ∧ q.f 4 23 20 = 15 ∧ q.f 4 27 24 = 15 ∧ 1 ≤ q.f 5 9 0 ∧ q.f 5 9 0 ≤ 1000 ∧
      q.f 5 25 16 = 0 ∧ q.f 4 15 14 = 0 ∧ programOk (q.f 4 12 9) ((List.range 12).map fun i => q.w (7 + i)) = true ∧
      cacheOk (q.f 4 15 14) (q.f 5 25 16) (((List.range 12).map fun i => q.w (7 + i)).take (q.f 4 12 9)) = true ∧
      programOk (q.f 4 12 9) (0 :: List.replicate 11 0) = false) ∧
    (let q := rq [1023, 5, 100000000, 64, 64]; Ok base 0x0710 q.words ∧ q.f 4 31 10 = 0 ∧ q.f 5 31 27 = 0 ∧ q.f 6 31 27 = 0 ∧ q.f 7 31 24 = 0 ∧
      q.f 8 31 24 = 0 ∧ q.f 5 26 0 ≤ q.f 6 26 0 ∧ q.f 6 26 0 ≤ 100000000 ∧ 64 ≤ q.f 7 23 0 ∧ 64 ≤ q.f 8 23 0 ∧ q.ExtSize 5) ∧
    (let q := rq [255 + 1 * 2 ^ 8, 4095, 7];
      let other := staged [(cfgKey 0x0720 254, [wd (254 + 2 ^ 8), 4095, 7])];
      let used : State := { base with prg := { base.prg with nat := [(4095 * 65536 + 1024, true)] } };
      Ok base 0x0720 q.words ∧ q.f 4 31 21 = 0 ∧ q.f 4 12 8 = 1 ∧ q.ExtSize (1 + 2 * q.f 4 12 8) ∧ q.f (5 + 2 * 0) 31 12 = 0 ∧
      poolItems q = [(4095, 7)] ∧ ((poolItems q).map fun a => a.1).Nodup ∧ base.rebinds (4095, 7) = false ∧
      indexOwner base.stg.staged 4095 = none ∧ indexOwner other.stg.staged 4095 = some (254, 7) ∧ used.rebinds (4095, 7) = true) ∧
    (let q := rq [65535 + 1 * 2 ^ 16, 9, 80 + 2 ^ 16]; Ok base 0x0730 q.words ∧ q.f 4 31 25 = 0 ∧ q.f 4 24 16 ≤ 256 ∧ q.f 4 24 16 = 1 ∧ q.f 4 24 16 ≤ 29 ∧
      q.f (6 + 2 * 0) 31 17 = 0 ∧ q.ExtSize (1 + 2 * q.f 4 24 16) ∧ base.stg.lbStaged < 512 ∧
      512 ≤ ({ lbStaged := 512 } : Stg).lbStaged) ∧
    (let q := rq [100000, 9]; Ok base 0x0740 q.words ∧ q.f 4 31 17 = 0 ∧ q.f 4 16 0 ≤ 100000 ∧ q.ExtSize 2) ∧
    (let q := rq [511]; Ok base 0x0702 q.words ∧ q.f 4 31 10 = 0 ∧ q.ExtSize 1 ∧ q.f 4 9 9 = 0 ∧
      (progWords base.stg.cur 511).length ≤ q.room ∧ (rq [511 + 2 ^ 9]).f 4 9 9 = 1 ∧
      (({ log := [[0x0701, 0, 0, 0, 511]] } : Stg).log.any fun w => fld (wordAt w 0) 15 0 == 0x0701 && fld (wordAt w 4) 8 0 == 511) = true) ∧
    (let q := rq [4095]; Ok base 0x0721 q.words ∧ q.f 4 31 12 = 0 ∧ q.ExtSize 1 ∧ 3 ≤ q.room ∧ indexOwner base.stg.cur 4095 = none ∧
      indexOwner (inForce [(cfgKey 0x0720 254, [wd (254 + 2 ^ 8), 4095, 7])]).stg.cur 4095 = some (254, 7)) ∧
    (let q := rq [191 + 3 * 2 ^ 8 + 1 * 2 ^ 13]; Ok base 0x0750 q.words ∧ q.f 4 31 18 = 0 ∧ q.f 4 7 0 ≤ 191 ∧
      q.f 4 12 8 + q.f 4 17 13 ≤ 4 ∧ q.ExtSize 1 ∧ 1 + 2 * q.f 4 17 13 ≤ q.room) := by (try dsimp only); and_intros <;> decide +kernel

/-! ## Fabric -/

/-- The base module with one cell set. -/
def withCell (c : Nat) (x : Cell) : State := { base with cel := tabPut {} c x base.cel }

theorem witness_FabricAndBenching :
    let many : State := { base with cel := (List.range 64).map fun c => (c, { st := .run, benched := decide (c < 16) }) }
    (let q := rq [1023 + 25 * 2 ^ 10, 64]; Ok base 0x0810 q.words ∧ q.f 4 31 15 = 0 ∧ q.f 5 31 17 = 0 ∧ q.f 4 14 10 ≤ 25 ∧ 64 ≤ q.f 5 16 0 ∧
      q.ExtSize 2 ∧ isPort base.stg.staged (q.f 4 9 0) = true) ∧
    (let q := rq [1, 2, 0, 0x80000000]; Ok base 0x0811 q.words ∧ q.f 4 31 24 = 0 ∧ q.f 5 31 24 = 0 ∧ q.f64 6 ≠ 0 ∧ q.ExtSize 4) ∧
    (let q := rq [63 + 19 * 2 ^ 6 + 1 * 2 ^ 11]; Ok base 0x0820 q.words ∧ q.f 4 31 16 = 0 ∧ q.f 4 10 6 + q.f 4 15 11 ≤ 20 ∧ q.ExtSize 1 ∧
      1 + 2 * q.f 4 15 11 ≤ q.room) ∧
    (Ok base 0x0801 [] ∧ (rq []).ExtSize 0 ∧ 21 ≤ (rq []).room ∧ base.img.policy.benchPct < 128 ∧ (base.cell 63).sr < 256) ∧
    (let q := rq [63 + 2 ^ 6]; Ok base 0x0802 q.words ∧ q.f 4 31 7 = 0 ∧ q.ExtSize 1 ∧ q.f 4 6 6 = 1 ∧
      ((base.cell 63).benched && !(base.cell 63).unbenchSoon || (base.cell 63).benchSoon) = false ∧ base.outCount < 16 ∧
      16 ≤ many.outCount ∧ many.firstSlumber = none ∧ (rq [15]).f 4 6 6 = 0 ∧ (many.cell 15).benched = true ∧
      (many.cell 15).unbenchSoon = false) ∧
    (let win (sent low : Nat) : Cell := (withCell 63 { st := .run, svcHeld := 256, svcSent := sent, lowWindows := low }).cell 63;
      (win 217 0).out = false ∧ (win 217 0).idle = false ∧ (win 217 0).st ≠ .off ∧ (win 217 0).svcSkip = false ∧ 256 ≤ (win 217 0).svcHeld ∧
      100 * (win 217 0).svcSent < base.img.policy.benchPct * (win 217 0).svcHeld ∧
      ¬100 * (win 218 0).svcSent < base.img.policy.benchPct * (win 218 0).svcHeld ∧ (win 217 0).lowWindows = 0 ∧
      (win 217 1).lowWindows ≠ 0 ∧ (win 217 1).benchSoon = false ∧ (base.cell 63).svcHeld < 256 ∧
      (many.cell 63).out = false ∧ ((withCell 63 { st := .slumber }).cell 63).idle = true) ∧
    ((withCell 63 { st := .run, benchSoon := true }).cell 63).benchSoon = true ∧
    ((withCell 63 { st := .run, isoSoon := true }).cell 63).isoSoon = true ∧ (base.cell 63).isoSoon = false := by (try dsimp only); and_intros <;> decide +kernel

theorem witness_Fabric :
    let c : Chunk := { src := 0, dst := 63, cls := 7, seq := 65535 }
    let part : State := { base with fab := { base.fab with partials := [(ckeyOf 0 63 7, c)] } }
    let fst_ : State := { base with fab := { base.fab with first := [(0, [c])] } }
    let mid : State := { base with fab := { base.fab with mid := [(5, [c])] } }
    let wire (at_ expect : Nat) (held : List Chunk) : State :=
      { base with fab := { base.fab with wire := [(at_, c)], pairs := [(63 * 64 + 0, { expect := expect, held := held })] } }
    let fr : Frame := { data := List.replicate 64 0, length := 64, ended := true, port := 0 }
    let col (x : Frame) (ps : List Nat) : State :=
      { base with frm := { base.frm with frames := [(4, x)], colReady := [(4, 1023)] }, prt := ps.map fun p => (p, { link := .up }) }
    let m : Frame := { fr with plan := { mcast := true } }
    let held : State := { base with frm := { base.frm with frames := [(4, fr)], colHeld := [(4, 1023, 1)] } }
    tabFind part.fab.partials (ckeyOf 0 63 7) = some c ∧
    (fst_.cellRuns 0 = true ∧ (fst_.cell (0 + 63)).idle = false ∧ (fst_.cell 63).st ≠ .off ∧
      takeFirst (fun d => fst_.accepts 63 d) (tabGet [] fst_.fab.first 0) = some (c, [])) ∧
    (mid.cellRuns 5 = true ∧ (14 : BitVec 4).getLsbD 0 = false ∧ (mid.cell 63).st = .run ∧ takeFirst (fun d => d.dst == (5 + 58) % 64) (tabGet [] mid.fab.mid 5) = some (c, [])) ∧
    ((wire 5 0 []).cellRuns 5 = true ∧ takeFirst (fun e => e.1 == 5) (wire 5 0 []).fab.wire = some ((5, c), []) ∧ c.dst ≠ 5 ∧ ((wire 5 0 []).cell 5).resetting = false) ∧
    (takeFirst (fun e => e.1 == 63) (wire 63 65535 []).fab.wire = some ((63, c), []) ∧
      ((wire 63 65535 []).pairOf c.dst c.src).expect = c.seq ∧ c.pgen = ((wire 63 65535 []).pairOf c.dst c.src).pgen ∧
      ((wire 63 65535 []).pairOf c.dst c.src).held = [] ∧ c.pieces = []) ∧
    ((65535 + 65536 - 65534) % 65536 < 32768 ∧ c.seq ≠ ((wire 63 65534 []).pairOf c.dst c.src).expect ∧
      (wire 63 65534 []).hasRoom 63 regReseq 1 = true ∧
      ((wire 63 65534 []).bufAdd 63 regReseq 1).hasRoom 63 regReseq 1 = true) ∧
    32768 ≤ (65535 + 65536 - 0) % 65536 ∧
    (((wire 63 65534 [c]).pairOf 63 0).held ≠ [] ∧ ((wire 63 65534 [c]).pairOf 63 0).expect < 65536 ∧ c.seq < 65536) ∧
    (takeFirst (fun e => e.1 == 4) (col fr []).frm.colReady = some ((4, 1023), []) ∧ ((col fr [1023]).colPolice fr).1 = true ∧
      fr.plan.mcast = false ∧ m.plan.mcast = true ∧ ((col m []).colPolice m).1 = true ∧ ((col fr [1023]).cell (cellOf 1023)).st = .run ∧
      (col fr [1023]).channelsUsed 0 + colChannels (portMode ((col fr [1023]).portCfg 0) 0) ≤ 4 ∧ (col fr [1023]).portUp 1023 = true ∧
      (col fr [1023]).neverFits 1023 8 64 = false ∧
      (col fr [1023]).staged 1023 + fr.data.length ≤ stageBytes ((col fr [1023]).portCfg 1023) 1023 ∧ (col fr [1023]).allCopies = [] ∧
      fr.ended = true ∧ { fr with ended := false }.ended = false ∧
      (tabFind (col fr [1023]).frm.frames 4).isSome = true ∧ (base.hasRoom 0 regIngress (chunksFor 64) = true) ∧
      ((withCell 63 { st := .slumber }).cell (cellOf 1023)).st ≠ .run ∧
      4 < (withCell 0 { st := .run, channels := [(4, 2 ^ 60)] }).channelsUsed 0 + colChannels 2) ∧
    ((held.cell 63).st = .run ∧ takeFirst (fun e => cellOf e.2.1 == 63) held.frm.colHeld = some ((4, 1023, 1), []) ∧
      held.channelsUsed 0 + colChannels (portMode (held.portCfg 0) 0) ≤ 4) := by (try dsimp only); and_intros <;> decide +kernel

/-! ## Egress and the pipeline -/

/-- Frame 4 in the module, 64 bytes received at port 0, and egress state. -/
def fr64 : Frame := { data := List.replicate 64 0, line := List.replicate 64 0, length := 64, ended := true, epoch := 1 }
def sends (x : Frame) (e : Egr) : State :=
  { base with frm := { base.frm with frames := [(4, x)], next := 5 }, egr := e, prt := [(0, { link := .up }), (1023, { link := .up })] }
def copy4 : Copy := { fid := 4, port := 1023, got := 64, whole := true }
/-- A gate list of two segments on port 1023. -/
def gates2 : GateList := { enable := true, base := 0, cycle := 1000, entries := [(500, 1), (500, 0x1FF)] }

theorem witness_Egress :
    let listed : State := { base with egr := { base.egr with gate := [(1023, { next := some (gates2, 9) })] } }
    (let q := rq [1023 + 2 * 2 ^ 10 + 96 * 2 ^ 15, 0, 100000000, 64]; Ok base 0x0901 q.words ∧ q.f 4 31 23 = 0 ∧ q.f 5 31 24 = 0 ∧ q.f 6 31 27 = 0 ∧
      q.f 7 31 24 = 0 ∧ q.f 4 11 10 ≠ 3 ∧ 95 < q.f 4 21 15 ∧ q.f 6 26 0 ≤ 100000000 ∧ 64 ≤ q.f 7 23 0 ∧ q.ExtSize 4 ∧
      isPort base.stg.staged (q.f 4 9 0) = true) ∧
    (let q := rq [1023 + 7 * 2 ^ 10 + 1 * 2 ^ 15, 100000000, 64]; Ok base 0x0902 q.words ∧ q.f 4 31 24 = 0 ∧ q.f 5 31 27 = 0 ∧ q.f 6 31 24 = 0 ∧
      q.f 4 14 13 ≠ 3 ∧ q.f 4 22 15 ≠ 0 ∧ q.f 5 26 0 ≤ 100000000 ∧ 64 ≤ q.f 6 23 0 ∧ q.ExtSize 3) ∧
    (let q := rq [1023 + 2 ^ 10 + 1 * 2 ^ 11, 0, 0, 1000000000, 32, 0x1FF]; Ok base 0x0903 q.words ∧ q.f 4 31 19 = 0 ∧ q.f 7 31 30 = 0 ∧
      q.f 4 18 11 ≤ 128 ∧ q.size = 4 + 2 * q.f 4 18 11 ∧ q.f 4 18 11 = 1 ∧ 32 ≤ q.f (8 + 2 * 0) 29 0 ∧ q.f (8 + 2 * 0) 29 0 ≤ 1000000000 ∧
      q.f (8 + 2 * 0) 31 30 = 0 ∧ q.f (9 + 2 * 0) 31 9 = 0 ∧ q.f 4 10 10 = 1 ∧ 32 ≤ q.f 7 29 0 ∧ q.f 7 29 0 ≤ 1000000000 ∧
      base.tim.stepped = false ∧ { base with tim := { base.tim with stepped := true } }.tim.stepped = true) ∧
    (let q := rq [1023, 0, 0, 0]; Ok base 0x0903 q.words ∧ q.f 4 10 10 = 0 ∧ q.f 4 18 11 = 0 ∧ q.f64 5 = 0 ∧ q.f 7 29 0 = 0 ∧
      q.size = 4 + 2 * q.f 4 18 11) ∧
    (let q := rq [1023]; Ok listed 0x0904 q.words ∧ q.f 4 31 10 = 0 ∧ q.ExtSize 1 ∧ 5 ≤ q.room ∧ isPort listed.stg.staged 1023 = true ∧
      (listed.gateOf 1023).entry < 128 ∧ (listed.gateOf 1023).gates < 512 ∧ (listed.gateOf 1023).next = some (gates2, 9)) ∧
    (let q := rq [1023 + 7 * 2 ^ 10 + 8 * 2 ^ 13 + 1 * 2 ^ 17]; Ok base 0x0910 q.words ∧ q.f 4 31 22 = 0 ∧ q.f 4 16 13 + q.f 4 20 17 ≤ 9 ∧
      q.ExtSize 1 ∧ 2 + 2 * q.f 4 20 17 ≤ q.room ∧ isPort base.stg.staged 1023 = true ∧ base.hif.snapOk = false) := by (try dsimp only); and_intros <;> decide +kernel

theorem witness_AdmissionAndStart :
    let s := sends fr64 { arriving := [copy4] }
    let full : State := { s with cel := [(63, { st := .run, buf := [(regEgress 1023 0, 10 ^ 6)] })] }
    let pale : State := { full with frm := { full.frm with frames := [(4, { fr64 with yellow := true })] } }
    let never : State := { s with tim := { s.tim with stepped := true }, stg := { cur := [(cfgKey 0x0903 1023, [1023 + 2 ^ 10 + 1 * 2 ^ 11, 0, 0, 64, 32, 0])] } }
    let tx (x : Frame) : State := sends x { tx := [(1023, { copy := copy4 })] }
    let ptp : Frame := { fr64 with ptp := true, tcMode := 1, ptpAt := 14 }
    let lpi : State := { tx fr64 with prt := [(1023, { link := .up, txReadyAt := 5 })] }
    let fair : State := { tx fr64 with stg := { cur := [(cfgKey 0x0902 (8 * 1023), [wd (1023 + 1 * 2 ^ 13 + 1 * 2 ^ 15), 0, 64])] } }
    ((s.egr.arriving.find? fun c => c.fid == 4 && c.port == 1023) = some copy4 ∧ s.lengthOf copy4 = 64 ∧ s.portUp 1023 = true ∧ base.portUp 1023 = false ∧
      s.startable copy4 = true ∧ s.startable { copy4 with whole := false, got := 1 } = false ∧
      s.neverFits 1023 (s.queueOf 4 1023) 64 = false ∧ s.hasRoom 63 (regEgress 1023 (s.queueOf 4 1023)) (chunksFor 64) = true ∧
      s.queueOf 4 1023 = 0 ∧ never.neverFits 1023 0 64 = true ∧ full.hasRoom 63 (regEgress 1023 0) (chunksFor 64) = false ∧
      (pale.frame 4).yellow = true ∧ pale.poolAllows 63 (regEgress 1023 0) 2 = false) ∧
    ((tx fr64).txOf 1023 = some { copy := copy4 } ∧ (tx fr64).portUp 1023 = true ∧ fr64.epoch = (tx fr64).hif.epoch ∧
      ({ fr64 with epoch := 9 }.epoch ≠ base.hif.epoch ∧ { fr64 with epoch := 9 }.epoch ≠ prevEpoch base.hif.epoch) ∧
      copy4.queue < 8 ∧ copy4.col = false ∧ ((tx fr64).shaper 1023 8).on = false ∧ fr64.corrected = false ∧ ptp.corrected = true ∧
      ((tx ptp).port 1023).txReadyAt ≤ (tx ptp).now ∧ lpi.now < (lpi.port 1023).txReadyAt ∧
      queueGroup (fair.portCfg 1023) 1023 copy4.queue ≠ 0 ∧
      (let s : State := { tx ptp with prt := [(0, { link := .up, deskew := 4 }), (1023, { link := .up })] };
        (0 ≤ s.residence ptp 1023 ∧ s.residence ptp 1023 ≤ 16000000 * 65536) ∧ ¬0 ≤ s.residence { ptp with ts := 2 ^ 60 } 1023)) := by (try dsimp only); and_intros <;> decide +kernel

theorem witness_Transmission :
    let idle := sends fr64 { }
    let col := sends fr64 { colq := [(1023, [{ copy4 with col := true }])] }
    let held (g : Bool) : State := sends fr64 { heldTx := [(1023, { copy := copy4, sent := 60, gateHeld := g })] }
    let q0 := sends fr64 { queue := [(qkey 1023 0, [copy4])] }
    let busy (n : Nat) (c : Copy) : State := sends fr64 { tx := [(1023, { copy := c, sent := n, at_ := some 0 })] }
    let big : Frame := { fr64 with data := List.replicate 300 0, length := 300 }
    let pre : State := { sends big { tx := [(1023, { copy := { copy4 with got := 300 }, at_ := some 0 })]
                                     colq := [(1023, [{ copy4 with col := true }])] } with
      prt := [(0, { link := .up }), (1023, { link := .up, verify := 2 })]
      stg := { cur := [(cfgKey 0x0301 1023, [1023 + 2 * 2 ^ 10 + 2 ^ 19, 1522, 0, 0])] } }
    let shut (split : Bool) : State := { pre with egr := { pre.egr with
      tx := [(1023, { copy := { copy4 with got := 300 }, at_ := some 0, split := split, cut := 236 })]
      gate := [(1023, { cur := gates2, gates := 2 })]
      colq := [] } }
    let gate (e : Nat) : State := { base with egr := { base.egr with gate := [(1023, { cur := gates2, entry := e })] } }
    let stop (n : Nat) : State := { base with egr := { base.egr with
      gate := [(1023, { cur := gates2, entry := 1, next := some (gates2, n), stopAt := n })] } }
    let both : State := { shut true with egr := { (shut true).egr with
      colq := [(1023, [{ copy4 with col := true }])], gate := [(1023, { gates := 0x100 })] } }
    let wait (g : Bool) : State := { held g with egr := { (held g).egr with
      heldTx := [(1023, { copy := copy4, sent := 60, gateHeld := g, split := true })], gate := [(1023, { cur := gates2, gates := 2 })] } }
    let fair : State := { q0 with
      egr := { q0.egr with queue := [(qkey 1023 0, [copy4]), (qkey 1023 1, [copy4])] }
      stg := { cur := [(cfgKey 0x0902 (8 * 1023), [wd (1023 + 1 * 2 ^ 13 + 1 * 2 ^ 15), 0, 64]),
                       (cfgKey 0x0902 (8 * 1023 + 1), [wd (1023 + 1 * 2 ^ 10 + 1 * 2 ^ 13 + 1 * 2 ^ 15), 0, 64])] } }
    (idle.txOf 1023 = none ∧ idle.portUp 1023 = true ∧ (idle.port 1023).txLpi = false ∧ (idle.port 1023).txReadyAt ≤ idle.now ∧
      idle.nextCol 1023 = none ∧ tabFind idle.egr.heldTx 1023 = none ∧ (idle.shaper 1023 8).allows = true ∧ idle.eligible 1023 7 = false) ∧
    (col.txOf 1023 = none ∧ col.nextCol 1023 = some { copy4 with col := true }) ∧
    ((held false).nextCol 1023 = none ∧ tabFind (held true).egr.heldTx 1023 = some { copy := copy4, sent := 60, gateHeld := true } ∧
      (held true).gateOpen 1023 0 = true ∧ tabFind (held false).egr.heldTx 1023 = some { copy := copy4, sent := 60, gateHeld := false }) ∧
    (q0.nextCol 1023 = none ∧ tabFind q0.egr.heldTx 1023 = none ∧ q0.eligible 1023 0 = true ∧ (q0.shaper 1023 8).allows = true) ∧
    ((wait true).nextCol 1023 = none ∧ (wait true).gateOpen 1023 0 = false ∧
      tabFind (wait true).egr.heldTx 1023 = some { copy := copy4, sent := 60, gateHeld := true, split := true } ∧
      tabFind (wait false).egr.heldTx 1023 = some { copy := copy4, sent := 60, split := true }) ∧
    (fair.txOf 1023 = none ∧ fair.nextCol 1023 = none ∧ tabFind fair.egr.heldTx 1023 = none ∧ (fair.shaper 1023 8).allows = true ∧
      queueGroup (fair.portCfg 1023) 1023 0 = 1 ∧ queueGroup (fair.portCfg 1023) 1023 1 = 1 ∧
      (∀ j, j < 8 → fair.eligible 1023 j = decide (j < 2)) ∧
      ∀ j, j < 8 → (tabFind (fair.retag 1023).egr.startTag (qkey 1023 j)).getD 0 = 0) ∧
    ((⟨-1, true, 0, 0⟩ : Shaper).allows = false) ∧
    ((busy 0 copy4).txOf 1023 = some { copy := copy4, sent := 0, at_ := some 0 } ∧ max 0 (min 64 copy4.got) = copy4.got ∧
      copy4.whole = true ∧ copy4.bad = false ∧ { copy4 with bad := true }.bad = true ∧ (busy 0 copy4).preempts 1023 = false ∧
      max 0 (min 63 copy4.got) ≠ copy4.got) ∧
    (pre.txOf 1023 = some { copy := { copy4 with got := 300 }, at_ := some 0 } ∧ max 0 (min 236 300) ≠ 300 ∧ pre.preempts 1023 = true ∧
      fragMin (pre.portCfg 1023) 1023 ≤ 236 - 0 ∧ 236 + 60 ≤ pre.lengthOf { copy4 with got := 300 } - 4 ∧
      pre.nextCol 1023 = some { copy4 with col := true }) ∧
    ((shut true).txOf 1023 = some { copy := { copy4 with got := 300 }, at_ := some 0, split := true, cut := 236 } ∧
      (shut true).gateOpen 1023 0 = false ∧ max 0 (min 300 300) = 300 ∧ max 0 (min 250 300) ≠ 300 ∧ max 0 (min 236 300) = 236 ∧
      (shut true).preempts 1023 = true ∧ (shut true).nextCol 1023 = none ∧ fragMin ((shut true).portCfg 1023) 1023 ≤ 236 ∧
      236 + 60 ≤ (shut true).lengthOf { copy4 with got := 300 } - 4 ∧
      (shut false).txOf 1023 = some { copy := { copy4 with got := 300 }, at_ := some 0, split := false, cut := 236 } ∧ (shut false).nextCol 1023 = none ∧
      both.nextCol 1023 = some { copy4 with col := true } ∧ both.preempts 1023 = true ∧ both.gateOpen 1023 0 = false) ∧
    ((base.cell (1023 / 16)).st ≠ .off) ∧
    (((gate 0).gateOf 1023).cur.active = true ∧ 0 + 1 < ((gate 0).gateOf 1023).cur.segs.length ∧
      ((gate 1).gateOf 1023).cur.segs.length ≤ 1 + 1 ∧ ((gate 1).gateOf 1023).next = none ∧
      ((stop 1000).gateOf 1023).next ≠ none ∧ ((stop 1000).gateOf 1023).stopAt ≤ ((stop 1000).gateOf 1023).cycleStart + gates2.cycle ∧
      ((stop 2000).gateOf 1023).cycleStart + gates2.cycle < ((stop 2000).gateOf 1023).stopAt ∧ (base.gateOf 1023).cur.active = false) ∧
    ({ base with egr := { base.egr with gate := [(1023, { next := some (gates2, 9) })] } }.gateOf 1023).next = some (gates2, 9) := by (try dsimp only); and_intros <;> decide +kernel

theorem witness_PipelinePasses :
    let up : State := { base with prt := [(0, { link := .up }), (1023, { link := .up })] }
    let short : Arrival := { data := [1], whole := true, length := 1 }
    let eth (t : Nat) (n : Nat) : Arrival :=
      { data := List.replicate 12 0 ++ beBytes 2 t ++ [0, 1] ++ List.replicate 48 0, whole := false, length := n }
    let six : Arrival := { eth 0x86DD 200 with data := List.replicate 12 0 ++ [0x86, 0xDD, 0x60, 0, 0, 0, 0, 100, 6] ++ List.replicate 43 0 }
    let ptp : Arrival := { six with data := List.replicate 12 0 ++ [0x81, 0, 0, 0, 0x86, 0xDD, 0x60, 0, 0, 0, 0, 60, 17, 64] ++ List.replicate 32 0 ++
      [0, 0, 1, 0x3F, 0, 0] }
    let tc : State := { up with stg := { cur := [(cfgKey 0x0A20 1023, [1023 + 2 * 2 ^ 10, 0])] } }
    let fec : State := { up with stg := { cur := [(cfgKey 0x0301 1023, [1023 + 2 * 2 ^ 10 + 1 * 2 ^ 14, 64, 0, 0])] } }
    let bad : Arrival := { data := [], whole := false, length := 0, rejected := true, fragments := 1, fecCorrected := 1, fecUncorrected := 1 }
    let wait (l : Bool) : Frame := { data := six.data, line := six.data, port := 1023, length := 200, lateWait := l }
    let key (l : Bool) : State := { up with frm := { base.frm with frames := [(4, wait l)], late := [4], next := 5 } }
    let late : State := { sends { fr64 with ended := false, recirc := true } {} with frm := { (sends { fr64 with ended := true, recirc := true } {}).frm with
      late := [4], recirc := [4] } }
    let d (ty : Nat) : Desc := { slot := 3, data := [wd (64 + ty * 2 ^ 18), 0, 0, 0, if ty = 0 then 0 else mkHandle 1 5 32 0, 0, 0, 0] }
    let ring (x : Desc) : State := { base with bpm := { base.bpm with owner := [(bufKey 1 5, 32)] }
                                               rng := { base.rng with rings := [(0, { enable := true, cache := [x] }), (512, { enable := true })] } }
    (up.lineOpen 1023 = true ∧ short.rejected = false ∧ short.data.length < 64 ∧ short.whole = true ∧ short.data.length ≤ maxFrame (up.portCfg 1023) 1023) ∧
    (bad.rejected = true ∧ fec.lineOpen 1023 = true ∧ portFec (fec.portCfg 1023) 1023 ≠ 0 ∧ maxFrame (fec.portCfg 1023) 1023 < 65) ∧
    (let x : Frame := { data := ptp.data, line := ptp.data, port := 1023, length := 200, epoch := tc.cellEpoch 63 };
      ptp.data.length = 64 ∧ isPause ptp.data = false ∧ ¬64 < (tc.parsed x).needs ∧ ¬x.data.length < (tc.parsed x).needs) ∧
    (tabFind (key false).frm.frames 4 = some (wait false) ∧ (key false).frm.late.contains 4 = true ∧ (key false).cellRuns (wait false).cell = true ∧
      (wait false).ended = false ∧ (wait false).host = none ∧
      maxFrame ((key false).frameCfg (wait false)) 1023 < (wait false).line.length + 1459 ∧
      ¬maxFrame ((key false).frameCfg (wait false)) 1023 < (wait false).line.length + 0 ∧
      colIngress ((key false).frameCfg (wait false)) 1023 = false ∧ 64 < ((key false).parsed (wait false)).needs ∧
      (wait false).stay = none ∧ (key false).enginesRun = true ∧
      (wait false).data.length < ((key false).parsed (wait false)).needs ∧ ((key false).parsed (wait false)).needs ≤ (wait false).data.length + 64 ∧
      (wait true).lateWait = true ∧ (wait true).data.length < ((key true).parsed (wait true)).needs) ∧
    ((eth 0x8808 64).data.length = 64 ∧ (eth 0x8808 64).whole = false ∧ isPause (eth 0x8808 64).data = true ∧ isPause six.data = false ∧
      64 ≤ six.data.length ∧ isPause (eth 0x0800 64).data = false ∧ up.tbl.absent = [] ∧ colIngress [] 1023 = false ∧
      (let x : Frame := { data := six.data, line := six.data, port := 1023, length := 200, epoch := up.cellEpoch 63 };
        x.data.length < x.length ∧ 64 < (up.parsed x).needs ∧ x.data.length < (up.parsed x).needs)) ∧
    (tabFind late.frm.frames 4 = some { fr64 with ended := true, recirc := true } ∧ late.frm.late.contains 4 = true ∧
      late.cellRuns { fr64 with ended := true, recirc := true }.cell = true ∧ late.frm.recirc.contains 4 = true) ∧
    ((ring (d 0)).openRound.nextTx = some 0 ∧ ((ring (d 0)).ring 0).cache = d 0 :: [] ∧ (ring (d 0)).openRound.deferStart 0 (d 0) = none ∧ ((ring (d 0)).ring 0).scan = false ∧ (d 0).status = none ∧
      ((ring (d 0)).ring 0).busy = [] ∧ (d 0).ty = 0 ∧ (d 0).f 5 13 13 = 0 ∧ (ring (d 0)).openRound.txStatus 0 (d 0) true = 0 ∧
      (ring (d 0)).openRound.txStatus 0 (d 0) false ≠ 0 ∧ (ring (d 2)).openRound.txStatus 0 (d 2) true = 0 ∧ (d 2).ty = 2 ∧
      (ring (d 3)).openRound.txStatus 0 (d 3) true = 0 ∧ (d 3).ty = 3) := by (try dsimp only); and_intros <;> decide +kernel

/-- A frame of 64 bytes whose FCS is right, received as a whole, with each of the bad ends beside it. -/
theorem witness_FrameEnds :
    let good := withFcs [1, 0, 0, 0, 0, 0]
    let x : Frame := { fr64 with ended := false, line := [], data := [] }
    let held : State := { base with prt := [(1023, { link := .up, hold := [{ data := good, ts := 0, pcsErr := false }] })] }
    (tabFind (sends x {}).frm.frames 4 = some x ∧ x.ended = false ∧ x.mirrorOf = none ∧ x.host = none ∧ x.pcs = false ∧
      fcsGood (x.line ++ good) = true ∧ ¬maxFrame ((sends x {}).portCfg 0) 0 < (x.line ++ good).length ∧
      (([1] : List Byte).headD 0).toNat % 2 = 1 ∧ good.take 6 ≠ List.replicate 6 0xFF ∧ fcsGood (x.line ++ List.replicate 64 0) = false ∧
      maxFrame ((sends x {}).portCfg 0) 0 < 1523) ∧
    (maxFrame (held.portCfg 1023) 1023 < 1523 ∧ (List.replicate 63 (0 : Byte)).length < 64) ∧
    ((held.port 1023).hold = { data := good, ts := 0, pcsErr := false } :: [] ∧ held.lineOpen 1023 = true ∧ good.length = 64 ∧
      isPause good = false ∧ good.length ≤ maxFrame (held.portCfg 1023) 1023) := by (try dsimp only); and_intros <;> decide +kernel

/-! ## The time base -/

theorem witness_TimeBase :
    let due : State := { base with tim := { base.tim with rateNext := some (5, 40) } }
    (let q := rq [5, 0]; Ok base 0x0A01 q.words ∧ q.ExtSize 2 ∧ 2 ≤ q.room ∧ base.tim.stepped = false ∧
      0 ≤ (base.tick.tim.ctr : Int) + signed64 (q.f64 4) * 2 ^ 48 ∧
      (base.tick.tim.ctr : Int) + signed64 (q.f64 4) * 2 ^ 48 < 2 ^ 48 * 10 ^ 9 * 2 ^ 48 ∧
      (base.tick.tim.ctr : Int) + signed64 ((rq [0xFFFFFFD7, 0xFFFFFFFF]).f64 4) * 2 ^ 48 < 0) ∧
    (let q := rq [500000000, 0, 0, 0]; Ok base 0x0A02 q.words ∧ q.ExtSize 4 ∧ 2 ≤ q.room ∧ signed64 (q.f64 4) = 500000000 ∧
      q.f64 6 = 0 ∧ (signed64 (q.f64 4)).natAbs ≤ base.img.policy.rateLimit ∧ base.tim.rateNext = none ∧
      due.tim.rateNext = some (5, 40) ∧ 40 ≤ due.tick.now ∧ (rq [5, 0, 10000, 0]).f64 6 = base.now + 10000 ∧
      due.tick.now < 10 ^ 9 ∧ { due with tim := { due.tim with rateNext := some (5, 10 ^ 9) } }.tick.now < 10 ^ 9 ∧
      { due with tim := { due.tim with rateNext := some (5, 10 ^ 9) } }.tim.rateNext = some (5, 10 ^ 9) ∧ due.crn.mod ≠ .unpowered ∧
      due.crn.mod ≠ .softStart ∧
      500000000 < signed64 ((rq [500000001, 0, 0, 0]).f64 4) ∧ ({ rateLimit := 5 } : Policy).rateLimit < 500000000) ∧
    (Ok base 0x0A03 [] ∧ (rq []).ExtSize 0 ∧ 9 ≤ (rq []).room ∧ base.tim.domain < 256 ∧ -500000000 ≤ base.tim.rate ∧ base.tim.rate ≤ 500000000 ∧
      base.tim.stepAt < 2 ^ 64) ∧
    (Ok base 0x0A04 [255] ∧ (rq [255]).f 4 31 8 = 0 ∧ (rq [255]).ExtSize 1) ∧
    (let q := rq [1023 + 3 * 2 ^ 10, 9]; Ok base 0x0A20 q.words ∧ q.f 4 31 12 = 0 ∧ q.ExtSize 2 ∧ isPort base.stg.staged (q.f 4 9 0) = true) ∧
    (Ok base 0x0A21 [1023] ∧ (rq [1023]).f 4 31 10 = 0 ∧ (rq [1023]).ExtSize 1 ∧ 4 ≤ (rq [1023]).room ∧
      isPort base.stg.staged ((rq [1023]).f 4 9 0) = true ∧
      let merged := staged [(cfgKey 0x0301 1020, [wd (1020 + 4 * 2 ^ 10), 1522, 0, 0])]
      Ok merged 0x0A21 [1021] ∧ isPort merged.stg.staged ((rq [1021]).f 4 9 0) = false) := by (try dsimp only); and_intros <;> decide +kernel

theorem witness_TimeDomains :
    let g (m w : Nat) : PulseSet := { mode := m, start := 0, period := 100, width := w }
    let pin (p : Pulse) : State := { base with tim := { base.tim with stepped := true, pulse := [(7, p)] } }
    (Ok base 0x0A0F [] ∧ (rq []).ExtSize 0 ∧ base.eventRing 2 1 = none ∧ base.eventRing 2 0 = none ∧
      (let r := { withRing 576 { enable := true } with rng := { (withRing 576 { enable := true }).rng with route := [(2, true, 0, 0)] } };
        (r.eventRing 2 1).isSome = true ∧ (r.eventRing 2 0).isSome = true) ∧ base.hif.pend = false ∧ { base with hif := { base.hif with pend := true } }.hif.pend = true) ∧
    (let q := rq [7 + 2 * 2 ^ 3, 5, 0, 100, 99]; Ok base 0x0A10 q.words ∧ q.ExtSize 5 ∧ q.f 4 31 5 = 0 ∧ q.f 8 31 30 = 0 ∧ q.f 4 4 3 = 2 ∧
      8 ≤ q.f 8 29 0 ∧ q.f 8 29 0 ≤ 1000000000 ∧ 100 ≤ q.f 7 31 0 ∧ q.f 7 31 0 ≤ 4000000000 ∧ q.f 8 29 0 < q.f 7 31 0) ∧
    (let q := rq [7 + 1 * 2 ^ 3, 10000, 0, 0, 8]; Ok base 0x0A10 q.words ∧ q.f 4 4 3 = 1 ∧ q.f 7 31 0 = 0 ∧ base.now + 10000 ≤ q.f64 5 ∧
      8 ≤ q.f 8 29 0) ∧
    (let q := rq [7, 0, 0, 0, 0]; Ok base 0x0A10 q.words ∧ q.f 4 4 3 = 0 ∧ q.f64 5 = 0 ∧ q.f 7 31 0 = 0 ∧ q.f 8 29 0 = 0) ∧
    (base.tim.stepped = false ∧ (pin {}).tim.stepped = true ∧ ((pin { high := true }).pulseOf 7).high = true ∧
      ((pin {}).pulseOf 7).cur.mode = 0 ∧ ((pin { cur := g 2 8 }).pulseOf 7).cur.mode ≠ 0 ∧
      ((pin { high := true, cur := g 2 8 }).pulseOf 7).next = none ∧ ((pin { high := true, cur := g 1 8 }).pulseOf 7).cur.mode ≠ 2 ∧
      ((pin { high := true, next := some (g 2 8) }).pulseOf 7).next = some (g 2 8) ∧ 0 < (g 2 8).period ∧
      base.now < ((pin { edge := 10 ^ 9 }).pulseOf 7).edge ∧ ((pin {}).pulseOf 7).edge ≤ (pin {}).now ∧
      ((pin { high := true, edge := 1, next := some (g 1 8) }).pulseOf 7).edge > (g 1 8).start) := by (try dsimp only); and_intros <;> decide +kernel

theorem witness_ReferenceClocks :
    let s : State := { base with tim := { base.tim with lock := 0x80, sdsref := 0x7F }, prt := [(1023, { link := .up })]
                                 stg := { cur := [(cfgKey 0x0A20 1023, [1023 + 2 * 2 ^ 10, 0])] } }
    ¬(s.crn.mod = .watch ∧ s.crn.trans = none) ∧ s.crn.fwRuns = true ∧ s.tim.lock.getLsbD 7 = true ∧ s.cairnRuns = true ∧ s.sup.sysclkLost = false ∧ s.tim.sdsref.getLsbD 0 = true ∧
    s.tim.sdsref.getLsbD 7 = false ∧ tcModeOf (s.portCfg 1023) 1023 = 2 ∧ (s.port 1023).link = .up := by (try dsimp only); and_intros <;> decide +kernel

/-! ## Images, security and remote sessions -/

/-- The public key of RFC 6979's example on P-384 (A.2.6), and its signature of "sample" with SHA-384. -/
def rfcKey : List Word :=
  [0x414E3AEC, 0xA4194E5B, 0x02188656, 0xA57F429F, 0xC48B9ADA, 0x2EE092AE, 0x28E5AA06, 0x640C306B,
   0xEAF0F8DE, 0x60865590, 0x5154A264, 0x13BC8054, 0xB7D91580, 0x24577D2D, 0x9AEFA84E, 0x8921C6C0,
   0x93A50867, 0xB9DFF967, 0x4BA84CF5, 0xB19D1C3F, 0x1C238B28, 0xFED4E03A, 0x25FD4473, 0x20472633]
def rfcSig : List Word :=
  [0x92BBED94, 0xAAB8ECA5, 0x566E73D4, 0x6B9191C6, 0x0614883F, 0xA79FCE66, 0xEAC4643D, 0x3C13AD95,
   0x1548A681, 0xF9AC442E, 0x1EDD366E, 0x46BEFA80, 0xEB4AEF99, 0xCE78F115, 0xDB40FEA1, 0x8F130326,
   0x0A740E13, 0x26456219, 0x51633B20, 0x4FA9A3D0, 0x45C129A3, 0x9E676E78, 0x1AC7827B, 0xC88A6238]
theorem test_ecdsa_rfc6979 : ecdsaVerify rfcKey (sha384 (ascii "sample")) rfcSig = true := by decide +kernel
/-- FIPS 180-4's example: the digest of "abc" begins with the bytes CB 00 75 3F. -/
theorem test_sha384_abc : wordAt (sha384 (ascii "abc")).toList 0 = 0x3F7500CB := by decide +kernel
/-- FIPS 197, C.3. -/
theorem test_aes256_fips197 : aes256 ((List.range 32).map fun i => BitVec.ofNat 8 i) (beBytes 16 0x00112233445566778899AABBCCDDEEFF) =
    beBytes 16 0x8EA2B7CA516745BFEAFC49904B496089 := by decide +kernel

/-- A message whose payload lies in host memory. -/
def ext (ws : List Word) : Req := { rq [] with extCmd := true, length := 12, words := [0, 0, wd ws.length, 0, 0, 0, 0, 0], mem := ws }
/-- A message whose response goes to host memory, with room for 200 words. -/
def extR (ws : List Word) : Req := { rq [] with extRsp := true, length := 12 + ws.length, words := [0, 0, 0, 0, 0, 0, 200, 0] ++ ws }
def img (x : Img) : State := { base with img := x }
/-- A policy that permits placement 0 alone, checked, in slot 1. -/
def permit0 : Slot := { words := [(1, 136), (96, wd (3 + 2 * 2 ^ 16)), (97, 1)], written := 640, verified := true }
def junk : Slot := { words := [(0, 0)], written := 4 }
def seg (t : Option Nat) : Segment := { number := 0, bl := 1, checkpoint := false, epoch := 1, opened := 0, records := [[7]], sealedAt := t }
/-- A policy image of one record, signed by the key of `rfcKey`: its header and its signature. -/
def polHead : List Word :=
  [0x0102D4E1, 0x00000088, 0x00000000, 0x00000007, 0x00000000, 0x00000000, 0x00000000, 0x00000000,
   0x3409ED1B, 0xC056AFA4, 0x788821CB, 0x2D911381, 0xA00F73E6, 0xD54AC0A9, 0x32FFF20D, 0xDEF339BF,
   0xEA00FCEE, 0x1BF5A8C6, 0x44890236, 0xA5A02938]
def polSig : List Word :=
  [0x4652D1BF, 0xB9E55854, 0xEA03A9F1, 0x9530F0FE, 0xC552FDEB, 0xBE97EAF9, 0x9491DE74, 0xB4CF5F35,
   0x3197C00E, 0xFD6ADF5A, 0xF421BAEF, 0x485B624B, 0xE9A2E989, 0xD58E47A6, 0x07840B95, 0x6D78FB64,
   0x1B7B3AF6, 0xAC7A9885, 0xA1E3B756, 0xCC48D6CC, 0x3F2954C5, 0x9C886723, 0xBEEDDFFF, 0x7CB2DCA6]
def polImage : Slot :=
  let at_ (k : Nat) (l : List Word) : Tab Word := (List.range l.length).zip l |>.map fun e => (k + e.1, e.2)
  { words := at_ 0 (polHead ++ polSig) ++ at_ 64 (rfcKey ++ List.replicate 8 0 ++ [wd (3 + 2 * 2 ^ 16), 1]), written := 392 }
def low (s : State) : State := { s with sup := { s.sup with pfw := true } }

theorem witness_Images :
    let fwOk : State := { img { fw := [(0, { factory := true }), (1, { factory := true, verified := true })] } with
      hif := { base.hif with blPinned := 0 } }
    let trial := img { trial := true, fwBank := 1, fwActive := 0 }
    let pol := img { pol := [(1, permit0)] }
    let bad : State := { pol with stg := { cur := [(cfgKey 0x0501 0, [0, 4])] } }
    (Ok base 0x0B01 [] ∧ (rq []).ExtSize 0 ∧ 5 ≤ (rq []).room ∧ base.img.fwActive < 2 ∧ base.img.polActive < 2 ∧ base.sec.fwArb < 128 ∧
      { base with sec := { fwArb := 127, polArb := 127 } }.sec.polArb < 128) ∧
    (let q := ext [2, 134217472, 9]; base.Accepts 0x0B02 q q ∧ q.extCmd = true ∧ 3 ≤ q.size ∧ q.size ≤ 16386 ∧ q.f 4 31 2 = 0 ∧
      (q.w 5).toNat % 256 = 0 ∧ (q.w 5).toNat + 4 * (q.size - 2) ≤ slotBytes false ∧ (low base).Accepts 0x0B02 q q ∧ (low base).pfwLow = true ∧
      trial.Accepts 0x0B02 q q ∧ trial.trialRuns = true ∧ base.pfwLow = false ∧ base.trialRuns = false) ∧
    (let q := ext [1, 256, 9]; trial.Accepts 0x0B02 q q ∧ q.f 4 31 2 = 0 ∧ q.f 4 0 0 = 1 ∧ (q.w 5).toNat + 4 * (q.size - 2) ≤ slotBytes true) ∧
    (let q := rq [0]; Ok base 0x0B03 q.words ∧ q.f 4 31 1 = 0 ∧ Ok fwOk 0x0B03 q.words ∧ q.ExtSize 1 ∧ fwOk.verifyReason false (fwOk.inactive false) = 0 ∧
      base.verifyReason true junk = 5 ∧ base.verifyReason true polImage = 1 ∧
      (let s : State := { base with sec := { enrolled := 1, ownerDigest := [(0, keyDigest rfcKey)] } }; s.verifyReason true polImage = 0)) ∧
    (let q := rq [1]; Ok pol 0x0B04 q.words ∧ q.f 4 31 2 = 0 ∧ q.f 4 1 0 ≠ 3 ∧ q.ExtSize 1 ∧ pol.pfwLow = false ∧ (low pol).pfwLow = true ∧
      (pol.inactive true).verified = true ∧ (base.inactive true).verified = false ∧ (pol.inactive true).recordTypes.head? = some 3 ∧
      bad.breaks ((bad.inactive true).policy.getD {}) 3 = true ∧
      ((pol.inactive true).recordTypes.all fun t => !pol.breaks ((pol.inactive true).policy.getD {}) t) = true) ∧
    (let q := rq [2]; Ok fwOk 0x0B04 q.words ∧ q.f 4 31 2 = 0 ∧ q.f 4 1 0 ≠ 3 ∧ q.f 4 1 1 = 1 ∧ (rq [0]).f 4 1 1 = 0 ∧ fwOk.pfwLow = false ∧
      (fwOk.inactive false).verified = true ∧ fwOk.trialRuns = false ∧ trial.trialRuns = true) ∧
    (let arb : State := { trial with img := { trial.img with fw := [(1, { words := [(2, 5)] })] } };
      (arb.fwSlot arb.img.fwBank).arb = 5 ∧ arb.sec.fwArb + 3 < 5 ∧ arb.trialRuns = true ∧ Ok arb 0x0B05 [] ∧ arb.pfwLow = false ∧ arb.crn.fwRuns = true) ∧
    (Ok trial 0x0B05 [] ∧ (rq []).ExtSize 0 ∧ trial.trialRuns = true ∧ Ok base 0x0B05 [] ∧ base.trialRuns = false ∧ Ok (low base) 0x0B05 [] ∧ (low base).pfwLow = true) ∧
    (let on := rq [1]; let off := rq [0]; let stopped := img { journaling := false }; let open_ := img { open_ := some (seg none) };
      Ok stopped 0x0B06 on.words ∧ on.f 4 31 1 = 0 ∧ on.ExtSize 1 ∧ on.f 4 0 0 = 1 ∧ stopped.img.journaling = false ∧
      Ok open_ 0x0B06 off.words ∧ off.f 4 0 0 = 0 ∧ open_.img.journaling = true ∧ open_.img.open_ ≠ none ∧
      (∀ g ∈ stopped.img.segs, g.number < stopped.img.nextSeg)) ∧
    (base.crn.fwRuns = true ∧ (img { open_ := some (seg none) }).img.open_ = some (seg none) ∧ base.img.open_ = none) ∧
    (let s := img { segs := [seg (some 3), { seg none with sealing := true }] };
      s.cairnRuns = true ∧ s.crn.wdDeferred = false ∧ s.img.segs[0]? = some (seg (some 3)) ∧ (seg (some 3)).sealing = false ∧
      s.img.segs[1]? = some { seg none with sealing := true }) := by (try dsimp only); and_intros <;> decide +kernel

theorem witness_Attestation :
    (Ok base 0x0C01 [] ∧ (rq []).ExtSize 0 ∧ 18 ≤ (rq []).room ∧ { base with sec := { unlocks := 255 } }.sec.unlocks < 256 ∧ base.sec.fwArb < 128 ∧
      base.sec.polArb < 128 ∧ base.sec.armUntil < 2 ^ 64) ∧
    (Ok base 0x0C02 [] ∧ (rq []).ExtSize 0 ∧ 8 ≤ (rq []).room) ∧
    (let q := rq [2, 2048]; Ok base 0x0C05 q.words ∧ q.f 4 31 2 = 0 ∧ q.f 4 1 0 ≠ 3 ∧ q.ExtSize 2 ∧ 3 ≤ q.room ∧ (q.w 5).toNat = 2048 ∧
      (rq [0, 0]).f 5 31 0 = 0) ∧
    (let q := extR (List.replicate 8 0); base.Accepts 0x0C06 q q ∧ q.ExtSize 8 ∧ 149 ≤ q.room ∧ ((List.range 8).map fun i => q.w (4 + i)) = List.replicate 8 0) ∧
    (let q := extR (List.replicate 7 0 ++ [1]); base.Accepts 0x0C06 q q ∧ q.ExtSize 8 ∧ 149 ≤ q.room ∧ q.w 11 ≠ 0 ∧ q.extCmd = false ∧
      q.length = 20 ∧ { q with length := 19 }.length ≠ 20) := by (try dsimp only); and_intros <;> decide +kernel

/-- SEC_CERT_READ's two clauses meet where the certificate's length says: an offset of 2,048 lies beyond every certificate, and an offset
below the length exists wherever the certificate is not empty, which the manual leaves to the module. -/
theorem witness_Attestation_offset :
    (certificate 2).length ≤ ((rq [2, 2048]).w 5).toNat ∧
      (certificate 2 ≠ [] → ((rq [2, 0]).w 5).toNat < (certificate 2).length) := by
  have h : ((rq [2, 2048]).w 5).toNat = 2048 ∧ ((rq [2, 0]).w 5).toNat = 0 := by decide +kernel
  rw [h.1, h.2]
  exact ⟨by simp [certificate, certCopy], fun e => List.length_pos_of_ne_nil e⟩

/-- An owner in slot 0 whose key is RFC 6979's, and a session with a live nonce. -/
def owned (enrolled : BitVec 4) : State :=
  { base with
    sec := { enrolled := enrolled, ownerDigest := [(0, keyDigest rfcKey)] }
    hif := { base.hif with sessions := [{ id := 1, nonce := some (List.replicate 8 5, 0) }] } }
/-- A message of a remote channel: opcode, length, session, epoch and the payload. -/
def remote (op : Nat) (ws : List Word) : State :=
  { base with hif := { base.hif with
    sessions := [{ id := 1, channel := some 9 }]
    channels := [{ id := 9, owner := 0, keyIn := [], keyOut := [], exec := some 0
                   msg := [wd op, wd ((4 + ws.length) * 2 ^ 16), 1, 0] ++ ws }] } }

theorem witness_OwnerKeys :
    let key := List.replicate 48 (0 : Word)
    let s := owned 1
    (let q := rq (16 :: key); Ok s 0x0C03 q.words ∧ q.size = 49 ∧ q.f 4 31 5 = 0 ∧ q.f 4 4 4 = 1 ∧ s.sec.anyOwner = true) ∧
    (let q := rq (0 :: key); Ok base 0x0C03 q.words ∧ q.size = 49 ∧ q.f 4 4 4 = 0 ∧ base.sec.anyOwner = false) ∧
    (let q := rq (16 :: key); Ok base 0x0C03 q.words ∧ q.f 4 3 2 = 0 ∧ (∀ i, i < 24 → q.w (29 + i) = 0) ∧ q.via = .ring 0 ∧
      base.pfwLow = false ∧ base.sec.spoiled 0 = false ∧ Ok (low base) 0x0C03 q.words ∧ (low base).pfwLow = true ∧
      { base with sec := { ownerDigest := [(0, [1])] } }.sec.spoiled 0 = true ∧ base.crn.fwRuns = true ∧ tabFind base.sec.ownerDigest 0 = none ∧
      0 < fuseCount (keyDigest (List.replicate 24 0))) ∧
    (let m := remote 0x0C03 (16 :: key); let q := decodeReq (.remote 9) (m.heldMessage (.remote 9));
      m.Accepts 0x0C03 { rq [] with via := .remote 9 } q ∧ q.size = 49 ∧ q.f 4 31 5 = 0 ∧ q.f 4 4 4 = 1 ∧ m.sec.anyOwner = false ∧
      q.f 4 3 2 = 0 ∧ (∀ i, i < 24 → q.w (29 + i) = 0) ∧ q.via = .remote 9) ∧
    (let q := rq (3 :: key); Ok s 0x0C03 q.words ∧ q.size = 49 ∧ q.f 4 31 5 = 0 ∧ q.f 4 4 4 = 0 ∧ s.sec.anyOwner = true ∧ s.pfwLow = false ∧
      s.sec.enrolled.getLsbD 3 = false ∧ s.sec.spoiled 3 = false ∧ (owned 9).sec.enrolled.getLsbD 3 = true ∧
      { s with sec := { s.sec with ownerDigest := (3, [1]) :: s.sec.ownerDigest } }.sec.spoiled 3 = true) ∧
    (let q := rq (0 :: key); Ok s 0x0C04 q.words ∧ q.size = 49 ∧ q.f 4 31 4 = 0 ∧ (∀ j, j < 4 → j ≠ 0 → s.sec.usable j = false) ∧
      (owned 3).sec.usable 1 = true ∧ s.keyInUse 0 = false ∧ { s with img := { s.img with polBank := some 0, pol := [(0, { words := [(4, 0)] })] } }.keyInUse 0 = true ∧
      s.sec.enrolled.getLsbD 0 = true ∧ s.sec.revoked.getLsbD 0 = false ∧ (owned 2).sec.enrolled.getLsbD 0 = false) ∧
    (let q := rq ([12, 1] ++ key); Ok s 0x0C07 q.words ∧ q.f 4 31 4 = 0 ∧ q.f 5 31 12 = 0 ∧ q.ExtSize 50 ∧ q.f 4 3 2 = 3) ∧
    (let q := rq ([8, 3600] ++ key); Ok s 0x0C07 q.words ∧ q.f 4 31 4 = 0 ∧ q.f 5 31 12 = 0 ∧ 1 ≤ q.f 4 3 2 ∧ q.f 4 3 2 ≤ 2 ∧ 1 ≤ q.f 5 11 0 ∧
      q.f 5 11 0 ≤ 3600 ∧ 3600 < (rq ([8, 3601] ++ key)).f 5 11 0) ∧
    Ok s 0x0C08 [] ∧ (rq []).ExtSize 0 := by (try dsimp only); and_intros <;> decide +kernel

/-- With a signature `g` by the owner's key of what its command says, each command of `witness_OwnerKeys` is authorized. What is signed holds
the module's serial number, and an enrollment does not carry the key that signs it, so no signature can be written out here. -/
theorem witness_OwnerKeys_signed (g : Fin 24 → Word) :
    let n := List.replicate 8 (5 : Word)
    let zero := List.replicate 24 (0 : Word)
    (ecdsaVerify (Config.ownerKey (keyDigest rfcKey)) (ownerMessage n 0x0C03 (3 :: zero)) (List.ofFn g) = true →
      (owned 1).OwnerSigned 0x0C03 (rq (3 :: zero ++ List.ofFn g)) 0 5) ∧
    (ecdsaVerify rfcKey (ownerMessage n 0x0C04 (0 :: rfcKey)) (List.ofFn g) = true →
      (owned 1).OwnerSigned 0x0C04 (rq (0 :: rfcKey ++ List.ofFn g)) 0 5) ∧
    (ecdsaVerify rfcKey (ownerMessage n 0x0C07 ([8, 3600] ++ rfcKey)) (List.ofFn g) = true →
      (owned 1).OwnerSigned 0x0C07 (rq ([8, 3600] ++ rfcKey ++ List.ofFn g)) 0 6) := by
  have d : tabGet [] (owned 1).sec.ownerDigest 0 = keyDigest rfcKey := rfl
  have z : ¬keyDigest (List.replicate 24 0) = keyDigest rfcKey := by decide +kernel
  refine ⟨fun h => ?_, fun h => ?_, fun h => ?_⟩ <;> refine ⟨List.replicate 8 5, rfl, rfl, ?_⟩ <;> rw [d]
  · refine ⟨.inr rfl, ?_⟩
    rw [show reqWords (rq (3 :: List.replicate 24 0 ++ List.ofFn g)) 5 24 = List.replicate 24 0 from rfl, if_neg z]
    exact h
  · rw [show reqWords (rq (0 :: rfcKey ++ List.ofFn g)) 5 24 = rfcKey from rfl, if_pos rfl]
    exact ⟨.inl rfl, h⟩
  · rw [show reqWords (rq ([8, 3600] ++ rfcKey ++ List.ofFn g)) 6 24 = rfcKey from rfl, if_pos rfl]
    exact ⟨.inl rfl, h⟩

theorem witness_OwnerKeys_unsigned : ¬base.OwnerSigned 0x0C03 (rq (0 :: List.replicate 48 0)) 0 5 := fun ⟨_, h, _⟩ => by
  rw [show base.liveNonce (rq (0 :: List.replicate 48 0)) = none by decide +kernel] at h
  cases h

theorem witness_DebugPort :
    let s (c : Sec) : State := { base with sec := c }
    (base.cairnRuns = true ∧ (s { failures := 7 }).sec.failures < 8) ∧
    8 ≤ (s { failures := 8 }).sec.failures ∧
    (base.sec.nonce = none ∧ (s { nonce := some ([], 0), failures := 7 }).sec.failures = 7) ∧
    (s { nonce := some ([], 0) }).sec.nonce = some ([], 0) ∧
    ((s { failures := 6 }).sec.failures < 7 ∧ base.fltRuns = true ∧ let r := { withRing 576 { enable := true } with
        rng := { (withRing 576 { enable := true }).rng with route := [(2, true, 0, 0)] } }; (r.eventRing 2 1).isSome = true) ∧
    ((s { armScope := 1 }).sec.armScope ≠ 0 ∧ (s { armScope := 1 }).sec.armUntil ≤ base.now ∧ base.sec.armScope = 0) ∧
    ((owned 1).hif.sessions[0]? = some { id := 1, nonce := some (List.replicate 8 5, 0) } ∧
      (owned 1).upNs < 0 + 60 * 10 ^ 9 ∧ 0 + 60 * 10 ^ 9 ≤ { owned 1 with tim := { base.tim with up := 60 * 10 ^ 9 * 2 ^ 48 } }.upNs) := by (try dsimp only); and_intros <;> decide +kernel

/-- A response with a live nonce, a key that is Dreisa's and a signature by it is a good one. Which key is Dreisa's, and the serial number that it
signs, the manual leaves to the module. -/
theorem witness_DebugPort_good (key sig : List Word) (hk : sha384 (wordsToBytes key) = Config.dreisaDigest)
    (h : ecdsaVerify key (sha384 (ascii "QORLON-DBG" ++ serialBytes ++ wordsToBytes [] ++ leBytes 1 2)) sig = true) :
    let s : State := { base with sec := { nonce := some ([], 0), enrolled := 1, armScope := 2, armUntil := 1 } }
    ∃ n t, s.sec.nonce = some (n, t) ∧ s.upNs < t + 600 * 10 ^ 9 ∧ (2 = 1 ∨ 2 = 2) ∧ sha384 (wordsToBytes key) = Config.dreisaDigest ∧
      ecdsaVerify key (sha384 (ascii "QORLON-DBG" ++ serialBytes ++ wordsToBytes n ++ leBytes 1 2)) sig = true ∧
      (s.sec.anyOwner = true → s.now < s.sec.armUntil ∧ 2 ≤ s.sec.armScope) :=
  ⟨[], 0, by decide +kernel, by decide +kernel, by decide +kernel, hk, h, by decide +kernel⟩

theorem witness_RemoteSessions :
    let chan (x : Channel) : State := { base with hif := { base.hif with channels := [x] } }
    let c : Channel := { id := 9, owner := 0, keyIn := List.replicate 32 7, keyOut := [], high := 69, kept := [(5, some [1])] }
    let k : State := { base with img := { base.img with policy := { owners := [[1, 2, 3, 4]] } } }
    let hello : List Word := [0x101, 0, 0, 0, 1] ++ List.replicate 32 0
    let a : Agreement := { id := 9, ephemeral := 0, hostKey := [], salt := [], init := [], resp := [], at_ := 0 }
    let p : State := { base with hif := { base.hif with agreements := [a] }, sec := { enrolled := 1, ownerDigest := [(0, [1])] } }
    let fin : List Word := [0x101, 9, 0, 0, 3] ++ List.replicate 24 0
    let sealed : List Word := [0x201, 9, 5, 0, 0xEEC56018, 0xFE75DA00, 0x093C2DDB, 0x71A0222B]
    let opened (k : List Byte) : Option (List Word) :=
      gcmOpen k 5 false (sealed.take 4) ((sealed.drop 4).take (sealed.length - 8)) (sealed.drop (sealed.length - 4))
    (base.crn.fwRuns = true ∧ base.hif.channels.find? (fun c => c.id == (wordAt sealed 1).toNat) = none) ∧
    ((chan c).hif.channels.find? (fun c => c.id == (wordAt sealed 1).toNat) = some c ∧ fld (wordAt sealed 0) 15 0 = 0x201 ∧
      fld (wordAt [0x101, 9] 0) 15 0 ≠ 0x201 ∧ join (wordAt sealed 2) (wordAt sealed 3) = 5 ∧
      opened c.keyIn = some [] ∧ opened [] = none ∧ 5 + 64 < { c with high := 70 }.high ∧ c.high ≤ 5 + 64 ∧
      c.kept.find? (fun e : Nat × Option (List Word) => e.1 == 5) = some (5, some [1]) ∧ { c with kept := [(5, none)] }.kept.find? (fun e : Nat × Option (List Word) => e.1 == 5) = some (5, none) ∧
      { c with kept := [] }.kept.find? (fun e : Nat × Option (List Word) => e.1 == 5) = none ∧ c.exec = none ∧ { c with exec := some 7 }.exec ≠ none) ∧
    (c ∈ (chan c).hif.channels ∧ c.lastAt + 600 * 10 ^ 9 ≤ { chan c with tim := { base.tim with up := 600 * 10 ^ 9 * 2 ^ 48 } }.upNs) ∧
    (k.crn.fwRuns = true ∧ [1, 2, 3, 4] ∈ k.img.policy.owners ∧ hello.length = 37 ∧ hello.take 4 = [0x101, 0, 0, 0] ∧ fld (wordAt hello 4) 7 0 = 1 ∧
      k.hif.channels.length < 4 ∧ base.img.policy.owners = []) ∧
    (p.crn.fwRuns = true ∧ p.hif.agreements.find? (fun a => a.id == (wordAt fin 1).toNat && !p.passed a.at_ (2 * 10 ^ 9)) = some a ∧
      [0x101, 9, 0, 0, 2].length ≠ 29 ∧ wordAt [0x101, 9, 0, 0, 2] 1 = wordAt fin 1 ∧ fin.length = 29 ∧
      fin.take 4 = [0x101, wd 9, 0, 0] ∧ fld (wordAt fin 4) 7 0 = 3 ∧ p.sec.usable (fld (wordAt fin 4) 9 8) = true ∧ base.sec.usable 0 = false) ∧
    base.hif.agreements.find? (fun a => a.id == (wordAt fin 1).toNat && !base.passed a.at_ (2 * 10 ^ 9)) = none ∧
    a ∈ p.hif.agreements := by (try dsimp only); and_intros <;> decide +kernel

/-! ## Power, resets and cells -/

/-- The module in a transition. -/
def moving (m : ModState) (x : Trans) : State := { base with crn := { base.crn with mod := m, trans := some x } }
def at_ (m : ModState) : State := { base with crn := { base.crn with mod := m } }

theorem witness_PowerCommands :
    let hot : State := { at_ .standby with sup := { base.sup with temp := [(20, 65536 + 1371)] } }
    let busy := moving .run { kind := .toStandby, back := .run }
    let nap : State := { base with cel := tabPut {} 1 { st := .slumber } (tabPut {} 0 { st := .doze } base.cel) }
    (Ok base 0x0100 [] ∧ (rq []).ExtSize 0 ∧ 7 ≤ (rq []).room) ∧
    (let q := rq [4, 10000000, 0]; Ok base 0x0101 q.words ∧ q.f 4 31 4 = 0 ∧ q.ExtSize 3 ∧ q.f 4 1 0 = 0 ∧ q.f 4 3 2 = 1 ∧
      base.now + 10000000 ≤ q.f64 5 ∧ base.hif.pend = false ∧ base.changing = false ∧ base.pfwLow = false ∧ 0 ≠ base.modCode ∧
      Ok busy 0x0101 q.words ∧ busy.changing = true ∧ Ok (low base) 0x0101 q.words ∧ (low base).pfwLow = true) ∧
    (let q := rq [2, 0, 0]; Ok hot 0x0101 q.words ∧ q.f 4 31 4 = 0 ∧ q.f 4 1 0 = 2 ∧ hot.flt.fatal = 0 ∧ hot.hot = true ∧ q.f 4 3 2 = 0 ∧ q.f64 5 = 0 ∧
      Ok base 0x0101 q.words ∧ base.flt.fatal = 0 ∧ 2 = base.modCode ∧ Ok (at_ .standby) 0x0101 q.words ∧ (at_ .standby).hot = false ∧
      2 ≠ (at_ .standby).modCode) ∧
    (let q := rq [1, 0, 0]; Ok base 0x0101 q.words ∧ q.f 4 1 0 = 1 ∧ 1 ≠ base.modCode ∧ base.crn.mod = .run) ∧
    (let q := rq [1]; Ok base 0x0102 q.words ∧ q.f 4 31 1 = 0 ∧ q.ExtSize 1) ∧
    (let q := rq [3, 0]; Ok nap 0x0103 q.words ∧ q.ExtSize 2 ∧ (q.f64 4).testBit 0 = true ∧ (nap.cell 0).st = .doze ∧ (q.f64 4).testBit 1 = true ∧
      (nap.cell 1).st = .slumber ∧ (q.f64 4).testBit 63 = false) := by (try dsimp only); and_intros <;> decide +kernel

theorem witness_ResetCommands :
    let busy := moving .run { kind := .toStandby, back := .run }
    let pend : State := { base with hif := { base.hif with pend := true } }
    let full : State := { base with cel := (List.range 64).map fun c => (c, { st := .run, benched := decide (c < 16) }) }
    let held : State := { base with cel := tabPut {} 63 { st := .run, resetting := true } base.cel }
    let c : Cfg := [(cfgKey 0x0301 0, [0])]
    let pt : Segment := { seg (some 3) with checkpoint := true, records := checkpointRecords c [] }
    let jrnl (l : List Segment) : State := { base with img := { base.img with segs := l } }
    let shut : State := { at_ .standby with prt := [(1009, { link := .isolated })], hif := { base.hif with isolated := BitVec.ofNat 64 (2 ^ 63) } }
    (Ok base 0x0110 [] ∧ (rq []).ExtSize 0 ∧ base.hif.pend = false ∧ base.changing = false ∧ base.pfwLow = false ∧ (low base).pfwLow = true ∧ busy.changing = true ∧
      pend.hif.pend = true ∧ base.crn.mod = .run ∧ base.crn.preserve = false ∧
      { base with crn := { base.crn with preserve := true } }.crn.preserve = true) ∧
    (let q := rq [63]; Ok base 0x0111 q.words ∧ q.f 4 31 6 = 0 ∧ q.ExtSize 1 ∧ q.f 4 5 0 = 63 ∧ base.sup.pfw = false ∧ (low base).sup.pfw = true ∧
      (at_ .standby).crn.mod ≠ .run ∧ (shut.port 1009).link = .isolated ∧ shut.crn.mod ≠ .run ∧ base.crn.mod = .run ∧ base.outCount < 16 ∧ Ok full 0x0111 q.words ∧ (full.cell 63).out = false ∧
      full.outCount = 16 ∧ ((List.range 64).all fun d => decide ((full.cell d).st ≠ .slumber)) = true ∧
      let nap : State := { full with cel := tabPut {} 20 { st := .slumber } full.cel }
      nap.outCount = 17 ∧ (nap.cell 63).out = false ∧ (nap.cell 20).st = .slumber ∧ (nap.cell 20).returns = true) ∧
    (held.crn.fwRuns = true ∧ (held.cell 63).resetting = true ∧ (base.cell 63).resetting = false) ∧
    (let q := rq [1023]; Ok base 0x0112 q.words ∧ q.f 4 31 10 = 0 ∧ q.ExtSize 1 ∧ base.changing = false ∧ busy.changing = true ∧ base.sup.pfw = false) ∧
    (Ok (jrnl [pt]) 0x0120 [] ∧ (jrnl []).crn.published = false ∧ (jrnl []).replayed = none ∧ (jrnl [seg none]).replayed = none ∧
      (jrnl [pt, seg none]).replayed = (jrnl [pt]).replayed ∧ (jrnl [pt]).crn.published = false ∧ (rq []).ExtSize 0 ∧
      (jrnl [pt]).crn.mod = .run ∧ (jrnl [pt]).heldCells true ||| (jrnl [pt]).hif.isolated ≠ BitVec.allOnes 64 ∧
      (at_ .standby).crn.mod ≠ .run ∧ (jrnl [pt]).replayed.isSome = true ∧ tabSorted (jrnl [pt]).stg.cur = true ∧
      (∀ x ∈ (jrnl [pt]).replayed, ∀ e ∈ x.cfg, isJ e.1 = true) ∧ Ok { base with crn := { base.crn with published := true } } 0x0120 []) := by (try dsimp only); and_intros <;> decide +kernel

theorem witness_InputPower :
    let cold : State := { at_ .watch with crn := { base.crn with mod := .watch, trans := some { kind := .coldStart, back := .standby } }, sup := {} }
    let warm (x : Sup) : State := { base with sup := x }
    (State.reset.crn.mod = .unpowered ∧ { State.reset with sup := { ovStop := true } }.sup.ovStop = true ∧ (at_ .softStart).crn.mod = .softStart ∧
      cold.crn.trans = some { kind := .coldStart, back := .standby } ∧ cold.cairnRuns = true ∧ cold.sup.measured = false ∧ base.crn.mod ≠ .unpowered) ∧
    (base.cairnRuns = true ∧ base.sup.pfw = false ∧ (low base).sup.pfw = true ∧ base.sup.snsOpen = false ∧
      (img { open_ := some (seg none) }).img.open_ = some (seg none)) ∧
    (let t : List (Option Int) := List.replicate 20 none ++ [some (-5)]; ∃ k, k ≤ 20 ∧ base.sensorPowered k = true ∧ t.getD k none ≠ none) ∧
    (∀ k : Nat, k ≤ 20 → (List.replicate 21 (none : Option Int) ++ [some 900]).getD k none = none) ∧
    (base.sensorPowered 8 = false ∧ (let s : State := { base with tim := { base.tim with up := 2000000 * 2 ^ 48, steps := [(1500000, 7)] }, crn := { base.crn with pfwWarned := [500000] } };
        (let g : SurgeSeen := { peakV := 70000, peakI := 9, mode := 1, pulses := 300, duration := 5000, ago := 1000000, worn := true };
          s.upNs - g.ago = 1000000 ∧ (∀ e ∈ s.tim.steps, s.upNs - g.ago < e.1) ∧ s.crn.pfwWarned = [500000] ∧ s.cairnRuns = true ∧
            1000000 ≤ g.ago ∧ g.ago ≤ s.upNs ∧ { g with ago := 999999 }.ago < 1000000 ∧ s.upNs < { g with ago := 2000001 }.ago) ∧
        (let g : SurgeSeen := { peakV := 1, peakI := 9, mode := 1, pulses := 1, duration := 1, ago := 1000000, worn := false }; let s : State := { s with tim := { s.tim with steps := [(900000, 7)] } }; ∀ e ∈ s.tim.steps, e.1 ≤ s.upNs - g.ago))) ∧
    (base.sup.warn = false ∧ base.sup.limit = false ∧ (warm { pfw := false, limit := true, warn := true }).sup.limit = true ∧
      base.sup.warnSamples < 10 ∧ base.sup.limitSamples < 10 ∧ 10 ≤ (warm { warnSamples := 10 }).sup.warnSamples ∧
      10 ≤ (warm { limitSamples := 10 }).sup.limitSamples ∧ base.sup.belowLimit = none ∧ base.sup.belowWarn = none ∧
      (let s : State := { warm { belowWarn := some 0, belowLimit := some 0, limit := true, warn := true } with tim := { base.tim with up := 10 ^ 9 * 2 ^ 48 } };
        s.cairnRuns = true ∧ s.sup.belowWarn = some 0 ∧ s.sup.belowLimit = some 0 ∧ 0 + 10 ^ 9 ≤ s.upNs ∧ base.upNs < 0 + 10 ^ 9)) ∧
    (let s : State := { base with crn := { base.crn with thermal := true } };
      s.crn.thermal = true ∧ s.crn.mod = .run ∧ s.crn.trans = none ∧ s.hif.pend = false ∧ s.sealWaited = true ∧ (low s).sealWaited = false ∧
      { s with hif := { s.hif with pend := true } }.hif.pend = true) := by
  dsimp only
  refine ⟨?_, ?_, ⟨20, by decide +kernel⟩, ?_, ?_, ?_, ?_⟩
  case refine_3 => intro k hk; interval_cases k <;> rfl
  all_goals and_intros <;> decide +kernel

/-- A VOID that is still to be answered. -/
def voidMsg : VoidMsg := { cell := 0, msg := [], keyLen := 13 }

theorem witness_PowerTransitions :
    let boot (x : Img) (k : TransKind) : State := { moving .watch { kind := k, back := .standby } with img := x }
    let both : Img := { fw := [(0, { factory := true }), (1, { factory := true })] }
    let drain (k : TransKind) : State := { base with crn := { base.crn with draining := true, trans := some { kind := k, back := .run } } }
    let stuck : State := { drain .toWatch with flo := { base.flo with voids := [voidMsg] } }
    let chip (x : Img) : State := { boot x .coldStart with sec := { enrolled := 1, ownerDigest := [(0, keyDigest rfcKey)] } }
    let far : State := { at_ .watch with crn := { base.crn with mod := .watch, wakeTime := 1 }, tim := { base.tim with ctr := 2 ^ 48 } }
    ((boot both .coldStart).crn.trans = some { kind := .coldStart, back := .standby } ∧
      (boot both .coldStart).imageReason false ((boot both .coldStart).fwSlot 0) = 0 ∧
      (boot both .coldStart).imageReason false ((boot both .coldStart).fwSlot 1) = 0 ∧
      (boot { fw := [(0, junk), (1, junk)] } (.reset .warm)).imageReason false junk ≠ 0 ∧
      (boot { both with trial := true } .coldStart).img.trial = true ∧ (boot { both with trial := true, fwBank := 1 } (.reset .fatal)).trialRuns = true ∧
      (let x : Trans := { kind := .reset .watchExit, back := .standby, byPin := true }; x.kind = .reset .watchExit ∧ x.byPin = true) ∧
      base.crn.held = false ∧ base.crn.draining = false ∧ (base.polSlot 0).words = [] ∧
      (let s : State := { base with img := { base.img with pol := [(0, { factory := false, words := [(0, 0)] })] } }; (s.polSlot 0).words ≠ []) ∧
      (chip { both with pol := [(0, polImage)] }).imageReason true ((chip { both with pol := [(0, polImage)] }).polSlot 0) = 0 ∧
      (chip { both with pol := [(0, polImage)] }).imageReason true ((chip { both with pol := [(0, polImage)] }).polSlot 1) ≠ 0) ∧
    ((moving .watch { kind := .coldStart, back := .standby, phase := 1 }).crn.trans = some { kind := .coldStart, back := .standby, phase := 1 } ∧
      (moving .run { kind := .reset .module, back := .run, phase := 1 }).crn.trans = some { kind := .reset .module, back := .run, phase := 1 }) ∧
    ((moving .run { kind := .reset .module, back := .run, phase := 2 }).crn.trans = some { kind := .reset .module, back := .run, phase := 2 } ∧
      base.img.journaling = true ∧ (img { journaling := false }).img.journaling = false ∧
      (let cut := (img { segs := [seg (some 3), seg none] }).img; (∃ g ∈ cut.segs, g.sealedAt = none ∧ g.sealing = false) ∧
        cut.segs.takeWhile (fun g => g.sealedAt.isSome) = [seg (some 3)]) ∧
      (let whole := img { segs := [seg (some 3), { seg none with sealing := true }] };
        (∀ g ∈ whole.img.segs, ¬(g.sealedAt = none ∧ g.sealing = false)) ∧ whole.replayed.isSome = true) ∧ base.replayed = none ∧
      base.crn.thermal = false ∧ { base.crn with thermal := true }.thermal = true) ∧
    ((moving .standby { kind := .toRun, back := .standby }).crn.trans = some { kind := .toRun, back := .standby } ∧ base.tim.lock ≠ BitVec.allOnes 8 ∧
      { base with tim := { base.tim with lock := 0xFF } }.tim.lock = BitVec.allOnes 8) ∧
    ((moving .standby { kind := .toRun, back := .standby, phase := 3 }).crn.trans = some { kind := .toRun, back := .standby, phase := 3 } ∧
      (drain .toStandby).crn.draining = true ∧ base.crn.draining = false ∧ base.settled = true ∧ base.hif.pend = false ∧
      (let p : State := { moving .run { kind := .toStandby, back := .run } with hif := { base.hif with pend := true } }; p.hif.pend = true) ∧
      (moving .run { kind := .toWatch, back := .run }).crn.mod = .run ∧ tabSorted base.prt = true) ∧
    (far.crn.mod = .watch ∧ far.crn.trans = none ∧ far.crn.wakeTime ≠ 0 ∧ far.crn.wakeTime ≤ far.now) ∧
    (stuck.crn.draining = true ∧ stuck.drained = false ∧ (drain (.reset .warm)).drained = true ∧
      (drain (.reset .warm)).crn.trans = some { kind := .reset .warm, back := .run } ∧
      (drain .toStandby).crn.trans = some { kind := .toStandby, back := .run }) := by (try dsimp only); and_intros <;> decide +kernel

theorem witness_Resets :
    let late (n : Nat) (c : Crn) : State := { base with crn := c, tim := { base.tim with up := n * 2 ^ 48 } }
    let armed : Crn := { base.crn with wdArmed := true }
    let up : State := { base with rng := { base.rng with rings := [(576, { enable := true, held := [[1], [2]], lostNew := 1 })] }
                                  crn := { base.crn with pcieUp := false } }
    ((late 0 armed).cairnRuns = true ∧ armed.wdArmed = true ∧ armed.wdDeferred = false ∧ (late 249999999 armed).upNs < armed.wdLast + 250000000 ∧
      armed.wdLast + 250000000 ≤ (late 250000000 armed).upNs ∧ base.sealWaited = true ∧ (low base).sealWaited = false ∧
      (img { trial := true, fwBank := 1 }).trialRuns = true) ∧
    (armed.fwRuns = true ∧ { base.crn with wdDeferred := true }.wdDeferred = true ∧ base.crn.pfwFell + 3000000 ≤ (late 3000000 base.crn).upNs) ∧
    (base.cairnRuns = true ∧ State.reset.cairnRuns = false) ∧
    (let s : State := { base with crn := { base.crn with resetAsked := true, prstN := false, fatalTrig := some (1134, 1) } };
      let t : State := { s with img := { s.img with segs := [{ seg none with sealing := true }] } };
      s.crn.resetAsked = true ∧ s.crn.fatalTrig = some (1134, 1) ∧ s.sealWaited = true ∧ s.sealComplete = true ∧ s.sup.pfw = false ∧ s.askedSealed s.crn.fatalAt = true ∧
      t.crn.resetAsked = true ∧ t.sealComplete = false ∧ t.upNs < t.crn.resetAt + 3000000 ∧ t.sup.pfw = false ∧
      (let u : State := { low t with tim := { base.tim with up := 5000000 * 2 ^ 48 }, crn := { t.crn with resetAt := 4000000, pfwFell := 2000000 } };
        u.sup.pfw = true ∧ u.crn.resetAt ≤ u.crn.pfwFell + 3000000 ∧ u.crn.pfwFell + 3000000 ≤ u.upNs ∧ u.sealComplete = false) ∧ t.askedSealed t.crn.fatalAt = false ∧ s.trialRuns = false) ∧
    (base.crn.pcieUp = true ∧ base.crn.fwRuns = true ∧ base.crn.mod = .run ∧ ¬(State.reset.crn.fwRuns = true)) ∧
    (up.crn.fwRuns = true ∧ up.crn.perstN = true ∧ up.crn.pcieUp = false ∧ (up.ring 576).enable = true ∧ 0 < [1].getD 0 0 ∧ 0 < (up.ring 576).lostNew) := by (try dsimp only); and_intros <;> decide +kernel

theorem witness_CellSleep :
    let doze (p : Policy) : State := { withCell 63 { st := .doze } with img := { base.img with policy := p } }
    let s := doze { slumberEn := BitVec.ofNat 64 (2 ^ 63) }
    ((base.cell 63).st = .run ∧ base.cellIdle 63 = true ∧ { base with hif := { base.hif with hold := BitVec.ofNat 64 (2 ^ 63) } }.cellIdle 63 = false) ∧
    ((s.cell 63).st = .doze ∧ s.cellIdle 63 = true ∧ s.img.policy.slumberEn.getLsbD 63 = true ∧ (∀ i : Nat, i < 16 → s.portUp (16 * 63 + i) = false) ∧
      (∀ i : Nat, i < 16 → s.gated (16 * 63 + i) = false) ∧ s.outCount + (if (s.cell 63).out = false ∧ (s.cell 63).benchSoon = false then 1 else 0) ≤ 16 ∧ (doze {}).img.policy.slumberEn.getLsbD 63 = false) ∧
    ((s.cell 63).st = .doze ∧ ((withCell 63 { st := .slumber }).cell 63).st = .slumber ∧ (WakeTrigger.chunk ≠ .commit) ∧
      (base.cell 63).st ≠ .doze ∧ (base.cell 63).st ≠ .slumber) ∧
    (((withCell 63 { st := .waking false }).cell 63).st = .waking false ∧ ((withCell 63 { st := .waking true }).cell 63).st = .waking true ∧
      (withCell 63 { st := .waking true }).inService 63 = true ∧
      { withCell 63 { st := .waking true } with hif := { base.hif with isolated := BitVec.allOnes 64 } }.inService 63 = false) ∧
    ((base.cell 63).st = .run ∧ (s.cell 63).st ≠ .run ∧ ((withCell 63 { st := .run, unbenchSoon := true }).cell 63).unbenchSoon = true ∧
      (base.cell 63).unbenchSoon = false) := by (try dsimp only); and_intros <;> decide +kernel

theorem witness_CellIsolation :
    let s : State := { base with hif := { base.hif with pend := true, applied := BitVec.allOnes 64 - BitVec.ofNat 64 (2 ^ 63) } }
    let woken (n : Nat) : State := { withCell 63 { st := .waking true } with tim := { base.tim with up := n * 2 ^ 48 } }
    let live : State := { base with flt := { base.flt with live := [(1024 + 63, 9)] } }
    (s.hif.applied.getLsbD 63 = false ∧ s.hif.isolated.getLsbD 63 = false ∧ base.hif.pend = false ∧ s.inService 63 = true ∧ (s.cell 63).st = .run ∧ s.hif.pend = true ∧ base.hif.applied.getLsbD 63 = true) ∧
    (((woken 0).cell 63).st = .waking true ∧ (woken 2599).upNs < ((woken 0).cell 63).wakeAt + 2600 ∧
      ((woken 0).cell 63).wakeAt + 2600 ≤ (woken 2600).upNs) ∧
    ((live.cell 63).st ≠ .off ∧ (1024 + 63, 9) ∈ live.flt.live ∧ (live.cell 63).fatalIso = false ∧
      ((withCell 63 { st := .run, fatalIso := true }).cell 63).fatalIso = true) ∧
    (base.crn.fwRuns = true ∧ base.fltRuns = true ∧ base.cairnRuns = true ∧ (at_ .unpowered).cairnRuns = false ∧
      { base with crn := { base.crn with fwRuns := false } }.fltRuns = false ∧ ((withCell 63 { st := .off }).cell 63).st = .off ∧ (base.cell 63).st ≠ .off ∧ base.crn.fatalTrig = none) := by (try dsimp only); and_intros <;> decide +kernel

/-- The invariants' premises: a module without power that meets all of them and whose step answers a next state. -/
theorem witness_invariants :
    let s : State := { State.reset with pending := [.prstNRelease] }
    s.EpochSound ∧ s.PowerSound ∧ s.Canonical ∧ s.GoesOn := by
  refine ⟨⟨by decide +kernel, by decide +kernel⟩, fun _ => by and_intros <;> decide +kernel, ?_, ⟨_, rfl⟩⟩
  constructor
  all_goals decide +kernel

/-! ## Single steps and functions with the manual's own numbers -/

/-- 09, worked find-or-create: home engine 73, slot 0 of bucket A is handle 0x09314E20, bucket B is bank 25, bucket 12,345. -/
theorem test_home_and_buckets :
    homeOf 0x26AF81C9913888A6 = 73 ∧ bucketA 0x26AF81C9913888A6 = 0x09314E20 ∧
      bucketB 0x26AF81C9913888A6 = 73 * 2 ^ 21 + 25 * 2 ^ 16 + 12345 * 4 := by decide +kernel
/-- 09 R312, the same case: X moves to handle 0x09230C26, the new record takes its slot, one relocation is counted. -/
theorem test_relocation_path :
    let h : Nat := 0x26AF81C9913888A6
    nfld 0x09230C26 27 26 = 2 ∧ nfld 0x09230C26 25 21 = 9 ∧ nfld 0x09230C26 20 16 = 3 ∧ nfld 0x09230C26 15 2 = 777 ∧ nfld 0x09230C26 1 0 = 2 ∧
      engineOf (bucketA h) = engineOf 0x09230C26 := by decide +kernel
/-- SipHash-2-4 of the 48 bytes 0 to 47 under the key of the bytes 0 to 15, by its authors' definition (09 R310). -/
theorem test_sip_hash :
    sipHash 0x0706050403020100 0x0F0E0D0C0B0A0908
      [0x0706050403020100, 0x0F0E0D0C0B0A0908, 0x1716151413121110, 0x1F1E1D1C1B1A1918, 0x2726252423222120, 0x2F2E2D2C2B2A2928] =
        0xE612A3CB9ECBA951 := by decide +kernel
/-- CRC-32C and the Ethernet FCS of the nine digits 1 to 9, the check values of both (08 R290; 06 R205). -/
theorem test_crc :
    crc32c (ascii "123456789") = 0xE3069283 ∧ crcOf 0xEDB88320 (ascii "123456789") = 0xCBF43926 := by decide +kernel
/-- 08, worked lookup: H 0x9C3A51E7 selects member 2 of four, and member 0 while member 2 is not live. -/
theorem test_member_selection :
    selectMember 0x9C3A51E7 [true, true, true, true] = some 2 ∧ selectMember 0x9C3A51E7 [true, true, false, true] = some 0 := by
  decide +kernel

/-- 07, worked example: entries 345 and 410 of bank 0 match port 86's frame, and 345 wins. -/
def rule (tag pri : Nat) (v m act : List Word) : List Word :=
  [wd (pri * 2 ^ 14 + tag * 2 ^ 18), 0, 0] ++ v ++ List.replicate 6 0 ++ m ++ List.replicate 6 0 ++ act
def rules : Cfg :=
  [(cfgKey 0x0402 (perCell 0 5), [wd (2 * 2 ^ 4 + 1 * 2 ^ 8 + 2 * 2 ^ 10), 32, 0]),
   (cfgKey 0x0410 (ruleObj 0 345 5), rule 6 8 [0x56, 0x03200000, 0, 0xC0000200, 0xC6336414, 0x09640000]
     [0x3FF, 0x7FE00000, 0, 0xFFFFFF00, 0xFFFFFFFF, 0xFFFF0000] [0x00800002, 0x10110000, 0x187, 0x159]),
   (cfgKey 0x0410 (ruleObj 0 410 5), rule 6 8 [0x56, 0x03200000, 0, 0, 0xC6336400, 0] [0x3FF, 0x7FE00000, 0, 0, 0xFFFFFF00, 0] [1, 2, 3, 4])]
theorem test_rule_match :
    let key := wordsNat [0x56, 0x03200000, 0, 0xC000022C, 0xC6336414, 0x0964C000]
    ((rules.drop 1).all fun e => entryMatches e.2 [0, 1] 6 key) = true ∧
      (betterRule (ruleObj 0 410 5, [wd (8 * 2 ^ 14)]) (ruleObj 0 345 5, [wd (8 * 2 ^ 14)])).1 = ruleObj 0 345 5 ∧
      (betterRule (ruleObj 3 304 5, [wd (9 * 2 ^ 14)]) (ruleObj 0 410 5, [wd (8 * 2 ^ 14)])).1 = ruleObj 3 304 5 := by decide +kernel

/-- 05 R164: rings 3, 7 and 9 start descriptors in the order 3, 3, 7, 9, 9, 3, 3. -/
def txRound : State :=
  let d : Desc := { slot := 0, data := List.replicate 8 0 }
  let g (w b : Nat) : Ring := { enable := true, idle := false, cache := List.replicate 4 d, weight := w, burst := b }
  { base with rng := { base.rng with rings := [(3, g 4 2), (7, g 1 1), (9, g 2 4)], visit := (256, 0) } }
def starts : Nat → State → List (Option Nat)
  | 0, _ => []
  | n + 1, s => let t := s.openRound; t.nextTx :: starts n (t.countStart (t.nextTx.getD 0))
theorem test_transmit_round : starts 7 txRound = [some 3, some 3, some 7, some 9, some 9, some 3, some 3] := by decide +kernel

/-- 05, worked example: requester 40 frees a handle of owner 8 and is REFUSED; its own handle is freed. -/
theorem test_bpm_free :
    let s : State := { base with bpm := { base.bpm with four := true, owner := [(bufKey 2 5, 40)] } }
    hPool 0x81000005 = 2 ∧ hGen 0x81000005 = 0 ∧ hOwner 0x81000005 = 8 ∧ hIndex 0x81000005 = 5 ∧
      (s.bpmFree 40 0x81000005 false).1 = stRefused ∧ (s.bpmFree 40 0x85000005 false).1 = stOk := by decide +kernel

/-- 12, fair sharing: INC of Lc 1,520 at WEIGHT 3 and 1; a tag of equal values goes to the higher queue. -/
theorem test_fair_increment : fairInc 1520 3 = 33204906 ∧ fairInc 1520 1 = 99614720 := by decide +kernel
theorem test_fair_choice :
    let tags (q3 q2 : Nat) : State := { base with egr := { base.egr with startTag := [(qkey 520 2, q2), (qkey 520 3, q3)] } }
    (tags 0 0).pickMember 520 [2, 3] = some 3 ∧ (tags 33204906 0).pickMember 520 [2, 3] = some 2 ∧
      (tags 99614718 99614720).pickMember 520 [2, 3] = some 3 ∧ (tags 132819624 99614720).pickMember 520 [2, 3] = some 2 := by decide +kernel
/-- 12 R440 to R442: at RATE 2,000,000 a refill adds 250 bytes; from −1,520 bytes the seventh refill lets the queue start, at 230. -/
theorem test_shaper_refills :
    let c : Bool × Nat × Nat := (true, 2000000, 3040)
    let n (k : Nat) : Shaper := Nat.rec ⟨-1520 * 65536, true, 2000000, 3040⟩ (fun _ x => x.refill c) k
    (n 6).allows = false ∧ (n 7).allows = true ∧ (n 7).count = 230 * 65536 := by decide +kernel
/-- 12 R444, the protected Col window: 249,609 ns into the cycle queue 2's window ends at the cycle's end. -/
theorem test_gate_window :
    let g : Gate := { cur := { enable := true, base := 0, cycle := 250000, entries := [(50000, 0x100), (200000, 0xFF)] }, cycleStart := 0, entry := 1, gates := 0xFF }
    (openRun 2 (g.ahead 249610) = some 390) ∧ (openRun 8 (g.ahead 250000) = some 50000 ∨ g.entry = 1) := by decide +kernel

/-- 10, worked program 3: its twelve words are accepted, with the fields that the table of the example gives. -/
def prog3 : List Word :=
  [0x44348180, 0x11780001, 0x54400000, 0x11488006, 0x141B8010, 0x142B8002, 0x98000800, 0x67000200, 0x900D2E00, 0x44B00980, 0x11190000,
   0x90163200]
theorem test_program_is_valid : prog3.all instrOk = true ∧ programOk 12 prog3 = true := by decide +kernel
/-- The creating segment: flags 0x02 keep the record and emit one record; flags 0x10 drop and close it. -/
def synRun (flags : Nat) : Run × State :=
  let m := [wd (1 + 3 * 2 ^ 16), 0, 6] ++ List.replicate 9 0 ++ [wd (64 + 86 * 2 ^ 14), 9, 0, wd flags]
  let c : Cfg := [(cfgKey 0x0701 3, [wd (3 + 12 * 2 ^ 9 + 2 ^ 13 + 15 * 2 ^ 20 + 15 * 2 ^ 24), 100, 0] ++ prog3)]
  let r : Rec := { zone := 17, keyLen := 13, key := 6 :: List.replicate 39 0, program := 3, packets := 1 }
  let s : State := { base with stg := { cur := c, prev := c, imm := [(cfgKey 0x0740 0, [1000, 0])] },
                                  flo := { base.flo with recs := [(0, r)] }, bpm := { base.bpm with quota := [(4 * 24 + 1, 1)] } }
  runProgram c 0 0 { handle := some 0, msg := m, keyLen := 13, inStatus := 1, program := 3 } s
theorem test_program_creates :
    (wordAt (synRun 2).1.y 0 = 0) ∧ ((synRun 2).2.recOf 0).map (fun r => r.state) = some 1 ∧
      (tabGet [] (synRun 2).2.prg.staging 0).length = 1 ∧ (wordAt (synRun 0x10).1.y 0).getLsbD 0 = true ∧
      ((synRun 0x10).2.recOf 0).map (fun r => r.state) = some 0xE := by decide +kernel

/-- 13 R466: a step of 5 ns falls at the first clock edge after the command, 40 ns on (log entry 4). -/
theorem test_time_step :
    (match exec (.timeStep (rq [5, 0, 0, 0])) base with
     | .next t => t.tim.stepAt
     | _ => 0) = 45 := by decide +kernel
/-- 04 R137: epoch 0 is skipped. -/
theorem test_epoch_wraps :
    (match exec (.commit (rq []) {}) { base with hif := { base.hif with epoch := 0xFFFF }, stg := { base.stg with flag := true } } with
     | .next t => t.hif.epoch
     | _ => 0) = 1 := by decide +kernel
/-- 09 R330, the worked read: three deltas absorbed in the home's counts, and the latest time kept. -/
theorem test_collect :
    let r : Rec := { packets := 1000000, bytes := 612345678, last := 86400000412000, presence := 0x52 }
    let d (ridge : Nat) (p b : Int) (l : Nat) : Coh := { kind := 2, ridge := ridge, handle := 0, dpkts := p, dbytes := b, latest := l }
    let x := ((r.absorb (d 1 120 84000 0)).absorb (d 4 37 2368 0)).absorb (d 6 5 3000 86400000640950)
    x.packets = 1000162 ∧ x.bytes = 612435046 ∧ x.last = 86400000640950 ∧ x.presence = 0x52 := by decide +kernel
/-- 14 R495 and R502, the worked failed update: the watchdog ends the trial and slot A boots again. -/
theorem test_failed_update :
    (match exec .watchdogExpiry { img { trial := true, fwBank := 1 } with
       crn := { base.crn with wdArmed := true }, tim := { base.tim with up := 250000000 * 2 ^ 48 } } with
     | .next t => decide (t.img.trial = false ∧ t.img.reverted = true ∧ t.img.fwActive = 0 ∧ t.crn.fwRuns = false)
     | _ => false) = true := by decide +kernel
/-- 11 R394: a frame that fills its chunk to the last byte ends in that chunk, and no empty chunk is opened for its end. -/
theorem test_end_in_full_chunk :
    let c : Chunk := { src := 0, dst := 5, cls := 3, fill := 112
                       pieces := [{ fid := 7, off := 0, len := 104, mask := 1, head := 8, last := false }] }
    let x : Frame := { data := List.replicate 104 0, packed := 104, ended := true, path := .fabric, plan := { copies := [(5, 1)] }, left := 1 }
    let t := ({ base with frm := { base.frm with frames := [(7, x)] }, fab := { base.fab with first := [(0, [c])] } } : State).packFrame 7
    t.fab.partials = [] ∧
      ((tabGet [] t.fab.first 0).flatMap fun d => d.pieces.map fun p => (p.len, p.last, p.bad)) = [(104, true, false)] := by decide +kernel

/-! ## The forms of CommandsComplete -/

/-- A lane alone and a group of four, the last port, bank, entry and cell. `witness_Ports` and `witness_Classifier` hold the forms that are not named here. -/
theorem witness_CommandsComplete_ports :
    (let q := rq [1020 + 4 * 2 ^ 10 + 2 * 2 ^ 14, 9216, 0, 1000];
      Ok base 0x0301 q.words ∧ q.ExtSize 4 ∧ q.f 4 18 18 ≠ 1 ∧ 3 ≤ q.f 4 13 10 ∧ q.f 4 9 0 % 4 = 0 ∧ portEnabled base.stg.staged 1021 = false ∧
      portEnabled base.stg.staged 1022 = false ∧ portEnabled base.stg.staged 1023 = false) ∧
    (let q := rq [1020 + 1 * 2 ^ 10 + 2 ^ 18, 64, 1 + 2 ^ 16, 0]; Ok base 0x0301 q.words ∧ q.f 4 13 10 < 3 ∧ isPort base.stg.staged (q.f 4 9 0) = true) ∧
    (rq [1023 + 1 * 2 ^ 10]).f 4 21 21 ≠ 1 ∧
    (let q := rq [15 + 1 * 2 ^ 4 + 3 * 2 ^ 6 + 2 ^ 10, 0, 0x80000000]; Ok base 0x0402 q.words ∧ q.ExtSize 3 ∧ q.f64 5 ≠ 0 ∧ bitsOf 64 (q.f64 5) = [63] ∧
      base.bankBusy 15 63 = false) ∧
    (let q := rq ([15 + 1023 * 2 ^ 4, 0, 0x80000000] ++ List.replicate 28 0);
      let s := staged [(cfgKey 0x0402 (perCell 15 63), [15 + 1 * 2 ^ 4, 0, 0x80000000])];
      Ok s 0x0410 q.words ∧ q.size = 31 ∧ q.f 4 31 22 = 0 ∧ bitsOf 64 (q.f64 5) = [63] ∧ 2 ≤ q.room ∧ bankWidth s.stg.staged 15 63 = 1 ∧
      q.f 4 13 4 < widthEntries 1 ∧ s.occupied 0x0410 (ruleObj 15 1023 63) = false) ∧
    (let q := rq [15 + 1023 * 2 ^ 4, 0, 0x80000000]; let s := staged [(cfgKey 0x0410 (ruleObj 15 1023 63), [])];
      Ok s 0x0411 q.words ∧ bitsOf 64 (q.f64 5) = [63] ∧ cfgFind s.stg.staged 0x0410 (ruleObj (q.f 4 3 0) (q.f 4 13 4) 63) ≠ none) ∧
    (let q := rq [63 + 15 * 2 ^ 6 + 1023 * 2 ^ 10]; let s := inForce [(cfgKey 0x0410 (ruleObj 15 1023 63), [])];
      Ok s 0x0412 q.words ∧ q.ExtSize 1 ∧ 29 ≤ q.room ∧ cfgFind s.stg.cur 0x0410 (ruleObj 15 1023 63) ≠ none ∧
      cfgFind s.stg.staged 0x0410 (ruleObj 15 1023 63) ≠ none) := by (try dsimp only); and_intros <;> decide +kernel

theorem witness_CommandsComplete_tables :
    let m : Master := { dest := 7, cells := 1, moved := 0 }
    let known : State := { base with tbl := { base.tbl with master := [(l2Key 1 5, m)] } }
    let old : State := { withCell 63 { st := .run, ageRow := 16383, ageOn := true } with tbl := { base.tbl with dyn := [(l2Obj 1 5 63, { dest := 7, act := true })] } }
    (let q := rq [16383 + 2 * 2 ^ 14, 1023]; Ok base 0x0540 q.words ∧ q.ExtSize (1 + (q.f 4 20 14 + 1) / 2) ∧ halves q.payload 1 (q.f 4 20 14) = [1023, 0] ∧
      ∀ d ∈ halves q.payload 1 (q.f 4 20 14), destKind d = 0 ∧ destInRange base.stg.staged d = true) ∧
    (let q := rq [1, 5, 1023 * 2 ^ 16, 0, 0x80000000]; Ok base 0x0510 q.words ∧ q.ExtSize 5 ∧ q.f 4 31 12 = 0 ∧ q.f 4 11 0 ≠ 0 ∧ bitsOf 64 (q.f64 7) = [63] ∧
      destKind (q.f 6 31 16) = 0 ∧ destInRange base.stg.staged (q.f 6 31 16) = true ∧ base.l2Count 63 < 58982 ∧
      ∀ side ∈ base.sides 63, cfgFind side 0x0510 (l2Obj (q.f 4 11 0) (join (q.w 5) (q.w 6) % 2 ^ 48) 63) = none) ∧
    (let q := rq [15 + 24 * 2 ^ 5, 0x0A000000, 0, 0, 0, 1 + 65535 * 2 ^ 3, 0, 0]; Ok base 0x0520 q.words ∧ q.ExtSize 8 ∧ q.f 4 31 14 = 0 ∧ q.f 9 31 19 = 0 ∧
      q.f64 10 = 0 ∧ q.f 9 2 0 = 1 ∧ longPrefix (q.f 4 4 4) (q.f 4 12 5) = false ∧ wordsNat [q.w 5, q.w 6, q.w 7, q.w 8] < 2 ^ 32 ∧
      wordsNat [q.w 5, q.w 6, q.w 7, q.w 8] % 2 ^ (famBits (q.f 4 4 4) - q.f 4 12 5) = 0 ∧
      cfgFind base.stg.staged 0x0520 (routeObj 15 0 24 0x0A000000 64) = none ∧ base.trieUnits + 1 + q.f 4 4 4 ≤ 1048576) ∧
    (let q := rq [2 ^ 12 + 2 ^ 13]; Ok known 0x0511 q.words ∧ q.ExtSize 1 ∧ q.f 4 15 14 = 0 ∧ q.f 4 12 12 = 1 ∧ q.f 4 13 13 = 1 ∧ 1 ≤ q.room) ∧
    (let q := rq [1, 5, 0]; Ok known 0x0512 q.words ∧ q.ExtSize 3 ∧ 5 ≤ q.room ∧ known.master (q.f 4 11 0) (join (q.w 5) (q.w 6) % 2 ^ 48) = some m ∧
      ∀ c, c < 64 → cfgFind known.stg.cur 0x0510 (l2Obj 1 5 c) = none) ∧
    (let q := rq [63 + 15 * 2 ^ 7 + 1 * 2 ^ 11]; Ok base 0x0560 q.words ∧ q.ExtSize 1 ∧ q.f 4 31 16 = 0 ∧ q.f 4 6 0 < 64 ∧ q.f 4 10 7 + q.f 4 15 11 ≤ 16 ∧
      1 + 2 * q.f 4 15 11 ≤ q.room) ∧
    ((old.cell 63).st = .run ∧ old.crn.fwRuns = true ∧ (old.cell 63).ageRow ≠ 0 ∧ (old.cell 63).ageOn = true ∧
      tabFind old.tbl.dyn (l2Obj 1 5 63) = some { dest := 7, act := true } ∧ old.l2Gone (l2Obj 1 5 63) false = false) ∧
    (base.crn.fwRuns = true ∧ base.scrubs 63 = true ∧ unitTable 63 1 = true ∧ base.scrubs 71 = true ∧ unitTable 71 4 = true ∧
      { base with tbl := { base.tbl with absent := [(71, 4, 9)] } }.isAbsent 71 4 9 = true ∧
      (let s : State := { base with tbl := { base.tbl with reports := [{ kind := 0, cell := 0, fid := 1, mac := 5, port := 0, time := 9, place := 0, flood := 0 }] } }
       s.masterCount < 4194304 ∧ s.master 1 5 = none ∧ s.tbl.reports ≠ [] ∧ s.img.policy.placePermit.testBit 0 = true)) := by (try dsimp only); and_intros <;> decide +kernel

theorem witness_CommandsComplete_flow :
    let h := 2 ^ 28 - 1
    let arch (n : Nat) : State := { store [] with flo := { (store []).flo with archiveGib := 4, head := [(3, n)], archive := [(3 * 2 ^ 32, [7])] } }
    let o (d : Bool) : FwOp := { engine := 127, tag := 15, delete := d, byHandle := true, handle := h, msg := [], keyLen := 0, req := rq [], ord := 2 }
    let home (d : Bool) : State := { store [(h, {})] with flo := { (store [(h, {})]).flo with fwOps := [o d] } }
    let s := ops [op .cache 5] []
    let line0 : CacheEntry := { line with handle := h }
    let m (k : Nat) : Coh := { kind := k, ridge := 7, handle := h, empty := decide (k = 2) }
    let coh (k : Nat) (l : Tab Rec) : State := { store l with flo := { (store l).flo with coh := [m k], cache := [(7, [line0])] } }
    (let q := rq [48 + 2 ^ 6, 1, 2, 3, 4]; Ok base 0x0601 q.words ∧ q.ExtSize 5 ∧ 1 ≤ q.room ∧ base.inRun = true ∧ base.pfwLow = false ∧ base.flo.formatting = false) ∧
    (let q := rq [3, 0, 0]; Ok (arch 0) 0x0620 q.words ∧ q.ExtSize 3 ∧ q.f 4 31 15 = 0 ∧ q.f 4 14 2 = 0 ∧ 5 ≤ q.room ∧ (arch 0).storeAway = false ∧
      (arch 0).flo.archiveGib ≠ 0) ∧
    (let q := rq [3 + 1 * 2 ^ 2, 0, 0]; Ok (arch 1) 0x0620 q.words ∧ q.f 4 14 2 = 1 ∧ q.f64 5 < tabGet 0 (arch 1).flo.head (q.f 4 1 0) ∧
      tabGet 0 (arch 1).flo.head (q.f 4 1 0) ≤ q.f64 5 + (arch 1).archiveCap ∧
      5 + (tabGet [] (arch 1).flo.archive (q.f 4 1 0 * 2 ^ 32 + q.f64 5 % (arch 1).archiveCap)).length ≤ q.room) ∧
    (let q := rq [127 * 2 ^ 3 + 18 * 2 ^ 15 + 2 * 2 ^ 20]; Ok base 0x0630 q.words ∧ q.ExtSize 1 ∧ q.f 4 31 25 = 0 ∧ q.f 4 2 0 = 0 ∧ q.f 4 14 3 < 128 ∧
      q.f 4 19 15 + q.f 4 24 20 ≤ 20 ∧ 1 + 2 * q.f 4 24 20 ≤ q.room) ∧
    (let q := rq (1 :: wd h :: List.replicate 10 0); Ok (store []) 0x0610 q.words ∧ Ok (store []) 0x0611 q.words ∧ q.size = 12 ∧ q.f 4 31 1 = 0 ∧ q.f 4 0 0 = 1 ∧
      q.f 5 31 28 = 0 ∧ (∀ i, i < 10 → q.w (6 + i) = 0) ∧ (store []).storeAway = false) ∧
    (∀ d, ((home d).flo.fwOps.find? fun x => x.engine == 127 && x.tag == 15 && x.delete == d) = some (o d) ∧ (o d).lost = false ∧ (o d).byHandle = true ∧
      (home d).recOf h = some {} ∧ (home d).recBusy h = false ∧ 34 ≤ (o d).req.room ∧ (home d).fwKey (o d) ≠ none ∧
      ((home d).fwKey (o d)).all (fun k => !(home d).behind 2 127 k) = true ∧ (home d).contextOpen 127 0 = true) ∧
    (flushed.flo.flushing.contains 4095 = true ∧
      (let e : State := { store [] with flo := { (store []).flo with flushing := [4095] } }; e.flo.flushing.contains 4095 = true ∧ e.zoneRecords 4095 = [])) ∧
    ((store []).enginesRun = true ∧ (store []).flo.formatted = true ∧ (store []).recBusy h = false ∧ h / 2 ^ 26 = 3 ∧
      (store [(h, {})]).recOf h = some {} ∧ ({} : Rec).quarantined = false) ∧
    ((s.flo.ops.find? fun p => p.cell == 63 && p.tag == 255 && decide (p.place = .cache)) = some (op .cache 5) ∧
      s.nextAtCache (ridgeOf 63) ((op .cache 5).engine / 32) (op .cache 5).ord = true ∧ s.cacheOf (ridgeOf 63) = []) ∧
    (∀ k, k < 2 → takeFirst (fun m : Coh => m.ridge == 7 && m.handle / 2 ^ 26 == h / 2 ^ 26 && decide (m.kind < 2)) (coh k []).flo.coh = some (m k, []) ∧
      ((coh k []).cacheOf 7).find? (fun x => x.handle == h) = some line0) ∧
    ∀ k, 2 ≤ k → k < 5 → takeFirst (fun m : Coh => m.ridge == 7 && m.handle == h && decide (2 ≤ m.kind)) (coh k [(h, {})]).flo.coh = some (m k, []) ∧
      (coh k [(h, {})]).recOf h = some {} ∧ tabFind (coh k [(h, {})]).flo.locked h = none ∧ (coh k [(h, {})]).routeClear 7 (engineOf h) 0 = true := by
  dsimp only
  refine ⟨?_, ?_, ?_, ?_, ?_, ?_, ?_, ?_, ?_, ?_, ?_⟩
  case refine_10 => intro k hk; interval_cases k <;> and_intros <;> decide +kernel
  case refine_11 => intro k hk hk'; interval_cases k <;> and_intros <;> decide +kernel
  case refine_6 => intro d; cases d <;> and_intros <;> decide +kernel
  all_goals and_intros <;> decide +kernel

end Sys2Proof.Tests
end

section
/-!
PROOF of CellSleep (O53). What the frames, ports, responses and table writes of the module leave in place: Cairn, the
configuration, the epoch's marks and each cell apart from its stores. Then the sleep, wake and return to duty of a cell
(01 R25, R30; 03 R87 to R93).
-/

namespace Sys2Proof.Machine

open Sys2Proof

/-! ## What outlasts the work of a wake -/

/-- A cell without what it stores: held table writes, meters, learning and buffers. -/
def Cell.bare (x : Cell) : Cell :=
  { x with held := [], meters := [], filter := [], learnBucket := {}, buf := [], channels := [] }

/-- What frames, link changes, responses and table writes leave in place: Cairn's state, the configuration, the epoch
and its marks of the cells, the OWN bits that the command found, and each cell apart from what it stores. -/
structure Anchor where
  crn : Crn
  stg : Stg
  epoch : Nat
  applied : BitVec 64
  isolated : BitVec 64
  slotOwn : BitVec 8
  cell : Nat → Cell

/-- The anchor of a state. -/
def State.anchor (s : State) : Anchor where
  crn := s.crn
  stg := s.stg
  epoch := s.hif.epoch
  applied := s.hif.applied
  isolated := s.hif.isolated
  slotOwn := s.hif.slotOwn
  cell c := (s.cell c).bare

/-- The anchor stays where its parts of the state stay. -/
theorem State.anchor_congr {s t : State} (hcrn : t.crn = s.crn) (hstg : t.stg = s.stg) (hhif : t.hif = s.hif)
    (hcel : t.cel = s.cel) : t.anchor = s.anchor := by
  simp [State.anchor, State.cell, hcrn, hstg, hhif, hcel]

/-- The host interface keeps the epoch, its marks and the OWN bits. -/
theorem State.onHif_anchor {f : Hif → Hif} {s : State} (he : (f s.hif).epoch = s.hif.epoch)
    (ha : (f s.hif).applied = s.hif.applied) (hi : (f s.hif).isolated = s.hif.isolated)
    (ho : (f s.hif).slotOwn = s.hif.slotOwn) : (s.onHif f).anchor = s.anchor := by
  simp [State.anchor, he, ha, hi, ho]

/-- A cell whose stores alone change. -/
@[simp] theorem State.onCell_anchor {c : Nat} {f : Cell → Cell} {s : State} (h : ∀ x, (f x).bare = x.bare) :
    (s.onCell c f).anchor = s.anchor := by
  have hcell : (fun d => ((s.onCell c f).cell d).bare) = fun d => (s.cell d).bare := by
    funext d
    by_cases hd : d = c
    · subst hd; simpa [State.cell] using h _
    · simp [State.cell, tabGet_tabMod_other hd]
  simpa [State.anchor] using hcell

@[simp] theorem State.onIf_anchor {b : Bool} {f : State → State} {s : State} (h : ∀ a, (f a).anchor = a.anchor) :
    (s.onIf b f).anchor = s.anchor := State.onIf_keeps State.anchor b f s (h s)

@[simp] theorem foldl_anchor {β : Type} {f : State → β → State} {l : List β} {s : State}
    (h : ∀ a x, (f a x).anchor = a.anchor) : (l.foldl f s).anchor = s.anchor := foldl_keeps State.anchor f h l s

@[simp] theorem State.onFlt_anchor (f : Flt → Flt) (s : State) : (s.onFlt f).anchor = s.anchor := (rfl)
@[simp] theorem State.onRng_anchor (f : Rng → Rng) (s : State) : (s.onRng f).anchor = s.anchor := (rfl)
@[simp] theorem State.onFrm_anchor (f : Frm → Frm) (s : State) : (s.onFrm f).anchor = s.anchor := (rfl)
@[simp] theorem State.onTbl_anchor (f : Tbl → Tbl) (s : State) : (s.onTbl f).anchor = s.anchor := (rfl)
@[simp] theorem State.onFlo_anchor (f : Flo → Flo) (s : State) : (s.onFlo f).anchor = s.anchor := (rfl)
@[simp] theorem State.onFab_anchor (f : Fab → Fab) (s : State) : (s.onFab f).anchor = s.anchor := (rfl)
@[simp] theorem State.onEgr_anchor (f : Egr → Egr) (s : State) : (s.onEgr f).anchor = s.anchor := (rfl)
@[simp] theorem State.onPort_anchor (p : Nat) (f : Port → Port) (s : State) : (s.onPort p f).anchor = s.anchor := (rfl)
@[simp] theorem State.emit_anchor (o : Out) (s : State) : (s.emit o).anchor = s.anchor := (rfl)
@[simp] theorem State.bump_anchor (k i x n : Nat) (s : State) : (s.bump k i x n).anchor = s.anchor := (rfl)

@[simp] theorem State.raise_anchor (e : Ev) (s : State) : (s.raise e).anchor = s.anchor := by
  apply State.anchor_congr <;> simp
@[simp] theorem State.endLive_anchor (a b : Nat) (s : State) : (s.endLive a b).anchor = s.anchor := by
  apply State.anchor_congr <;> simp
@[simp] theorem State.pmuEvent_anchor (b e n : Nat) (o : Occ) (s : State) : (s.pmuEvent b e n o).anchor = s.anchor := by
  apply State.anchor_congr <;> simp
@[simp] theorem State.pmuRelease_anchor (c : Nat) (s : State) : (s.pmuRelease c).anchor = s.anchor := by
  apply State.anchor_congr <;> simp
@[simp] theorem State.finishDesc_anchor (i k st n : Nat) (ts : Option Nat) (s : State) :
    (s.finishDesc i k st n ts).anchor = s.anchor := by
  apply State.anchor_congr <;> simp

/-! ## Interrupts, host writes and responses -/

@[simp] theorem State.sendVector_anchor (v : Nat) (s : State) : (s.sendVector v).anchor = s.anchor := by
  unfold State.sendVector
  split
  · split
    · exact State.onHif_anchor rfl rfl rfl rfl
    · rfl
  · rfl

@[simp] theorem State.irq_anchor (n : Nat) (s : State) : (s.irq n).anchor = s.anchor := by
  dsimp only [State.irq]
  split
  · exact (State.sendVector_anchor _ _).trans (State.onHif_anchor rfl rfl rfl rfl)
  · exact State.onHif_anchor rfl rfl rfl rfl

@[simp] theorem State.hostWrite_anchor (a : Nat) (l : List Word) (s : State) : (s.hostWrite a l).anchor = s.anchor := by
  unfold State.hostWrite; split <;> simp

@[simp] theorem State.onRing_anchor (i : Nat) (f : Ring → Ring) (s : State) : (s.onRing i f).anchor = s.anchor := (rfl)
@[simp] theorem State.onPair_anchor (n : Nat) (f : MbxPair → MbxPair) (s : State) : (s.onPair n f).anchor = s.anchor := (rfl)

@[simp] theorem State.signalRing_anchor (i : Nat) (s : State) : (s.signalRing i).anchor = s.anchor := by
  dsimp only [State.signalRing]; (repeat' split) <;> simp

@[simp] theorem State.writeEvent_anchor (i : Nat) (e : List Word) (s : State) : (s.writeEvent i e).anchor = s.anchor := by
  simp [State.writeEvent, State.writeEntry]

@[simp] theorem State.pushEvent_anchor (k c i t : Nat) (b : List Word) (own : Bool) (s : State) :
    (s.pushEvent k c i t b own).anchor = s.anchor := by
  dsimp only [State.pushEvent]; (repeat' split) <;> simp

@[simp] theorem State.writeResponse_anchor (n : Nat) (e : HeldRsp) (s : State) : (s.writeResponse n e).anchor = s.anchor := by
  simp [State.writeResponse]

@[simp] theorem State.countDone_anchor (s : State) : s.countDone.anchor = s.anchor := by simp [State.countDone]

/-- A response on any transport. -/
@[simp] theorem State.respond_anchor (op : Nat) (r : Req) (st : Nat) (ws : List Word) (s : State) :
    (s.respond op r st ws).anchor = s.anchor := by
  have hdone : (s.onIf (s.answersNow r) State.countDone).anchor = s.anchor := by simp
  dsimp only [State.respond]
  split
  · exact ((State.irq_anchor _ _).trans (State.onHif_anchor rfl rfl rfl rfl)).trans hdone
  · split
    · exact hdone
    · split <;> simp
  · split
    · exact hdone
    · exact ((State.emit_anchor _ _).trans (State.onHif_anchor rfl rfl rfl rfl)).trans hdone

@[simp] theorem State.answerDeferred_anchor (p : DeferKind → Bool) (ws : DeferKind → List Word) (s : State) :
    (s.answerDeferred p ws).anchor = s.anchor := by
  simpa [State.answerDeferred] using State.onHif_anchor rfl rfl rfl rfl

/-! ## Frames and their copies -/

@[simp] theorem State.onFrame_anchor (fid : Nat) (f : Frame → Frame) (s : State) : (s.onFrame fid f).anchor = s.anchor := by
  unfold State.onFrame; split <;> simp

@[simp] theorem State.hostDone_anchor (x : Frame) (s : State) : (s.hostDone x).anchor = s.anchor := by
  unfold State.hostDone; (repeat' split) <;> simp

@[simp] theorem State.settle_anchor (fid : Nat) (s : State) : (s.settle fid).anchor = s.anchor := by
  dsimp only [State.settle]; split <;> simp

@[simp] theorem State.bufAdd_anchor (c r n : Nat) (s : State) : (s.bufAdd c r n).anchor = s.anchor :=
  State.onCell_anchor fun _ => rfl
@[simp] theorem State.bufSub_anchor (c r n : Nat) (s : State) : (s.bufSub c r n).anchor = s.anchor :=
  State.onCell_anchor fun _ => rfl

@[simp] theorem State.onCopies_anchor (t : Copy → Bool) (f : Copy → Copy) (s : State) :
    (s.onCopies t f).anchor = s.anchor := (rfl)
@[simp] theorem State.freeChunks_anchor (s : State) : s.freeChunks.anchor = s.anchor := (rfl)
@[simp] theorem State.pullCopy_anchor (fid p : Nat) (s : State) : (s.pullCopy fid p).anchor = s.anchor := (rfl)

@[simp] theorem State.endCopy_anchor (c : Copy) (s : State) : (s.endCopy c).anchor = s.anchor := by
  dsimp only [State.endCopy]; split <;> simp

@[simp] theorem State.dropCopy_anchor (c : Copy) (k i : Nat) (s : State) : (s.dropCopy c k i).anchor = s.anchor := by
  simp [State.dropCopy]

@[simp] theorem State.refuseCopy_anchor (c : Copy) (k i st : Nat) (s : State) :
    (s.refuseCopy c k i st).anchor = s.anchor := by
  simp [State.refuseCopy]

@[simp] theorem State.badTail_anchor (fid : Nat) (l : List Nat) (s : State) : (s.badTail fid l).anchor = s.anchor :=
  foldl_anchor fun a p => by (repeat' split) <;> simp

/-! ## Chunks -/

@[simp] theorem State.closeChunk_anchor (a b c : Nat) (s : State) : (s.closeChunk a b c).anchor = s.anchor := by
  unfold State.closeChunk; split <;> simp

@[simp] theorem State.openChunk_anchor (a b c : Nat) (s : State) : (s.openChunk a b c).2.anchor = s.anchor := by
  unfold State.openChunk; split <;> simp

@[simp] theorem packBytes_anchor (n src dst cls mask fid off len head : Nat) (last bad : Bool) (s : State) :
    (packBytes n src dst cls mask fid off len head last bad s).anchor = s.anchor := by
  induction n generalizing off len head s with
  | zero => rfl
  | succ n ih =>
    dsimp only [packBytes]
    (repeat' split) <;> simp [ih]

@[simp] theorem State.growCopies_anchor (fid p n : Nat) (last : Bool) (s : State) :
    (s.growCopies fid p n last).anchor = s.anchor := by
  unfold State.growCopies; split <;> simp

@[simp] theorem State.landPiece_anchor (c : Nat) (p : Piece) (s : State) : (s.landPiece c p).anchor = s.anchor := by
  dsimp only [State.landPiece]; (repeat' split) <;> simp

@[simp] theorem State.endPacked_anchor (fid : Nat) (s : State) : (s.endPacked fid).anchor = s.anchor :=
  foldl_anchor fun a c => by split <;> simp

@[simp] theorem State.ledger_anchor (fid : Nat) (b : Bool) (s : State) : (s.ledger fid b).anchor = s.anchor := by
  dsimp only [State.ledger]; split <;> simp

@[simp] theorem State.cutPacked_anchor (fid : Nat) (s : State) : (s.cutPacked fid).anchor = s.anchor := by
  simp [State.cutPacked]

@[simp] theorem State.packFrame_anchor (fid : Nat) (s : State) : (s.packFrame fid).anchor = s.anchor := by
  dsimp only [State.packFrame]; (repeat' split) <;> simp

@[simp] theorem State.unpack_anchor (fid : Nat) (s : State) : (s.unpack fid).anchor = s.anchor := by
  simp [State.unpack]

@[simp] theorem State.feedCol_anchor (fid : Nat) (s : State) : (s.feedCol fid).anchor = s.anchor := by
  dsimp only [State.feedCol]
  split
  · exact foldl_anchor fun a c => by (repeat' split) <;> simp
  · rfl

/-! ## The end of a frame -/

@[simp] theorem State.postVoid_anchor (fid : Nat) (s : State) : (s.postVoid fid).anchor = s.anchor := by
  dsimp only [State.postVoid]; (repeat' split) <;> simp

@[simp] theorem State.closeFrame_anchor (fid : Nat) (bad : Bool) (s : State) : (s.closeFrame fid bad).anchor = s.anchor := by
  dsimp only [State.closeFrame]; (repeat' split) <;> simp

@[simp] theorem State.endCopies_anchor (fid : Nat) (bad : Bool) (s : State) : (s.endCopies fid bad).anchor = s.anchor :=
  foldl_anchor fun a e => by (repeat' split) <;> simp

/-! ## Ports -/

@[simp] theorem setTx_anchor (p : Nat) (t : Option Tx) (s : State) : (setTx p t s).anchor = s.anchor := (rfl)
@[simp] theorem setHeld_anchor (p : Nat) (t : Option Tx) (s : State) : (setHeld p t s).anchor = s.anchor := (rfl)

@[simp] theorem State.chargeShaper_anchor (p b : Nat) (n : Int) (s : State) : (s.chargeShaper p b n).anchor = s.anchor := by
  dsimp only [State.chargeShaper, State.putShaper]; split <;> simp

@[simp] theorem State.chargeFrame_anchor (p : Nat) (c : Copy) (n : Int) (s : State) :
    (s.chargeFrame p c n).anchor = s.anchor := by
  dsimp only [State.chargeFrame]; split <;> simp

@[simp] theorem State.endTx_anchor (p : Nat) (t : Tx) (b : Bool) (s : State) : (s.endTx p t b).anchor = s.anchor := by
  dsimp only [State.endTx]; (repeat' split) <;> simp

@[simp] theorem State.dropLink_anchor (p : Nat) (s : State) : (s.dropLink p).anchor = s.anchor := by
  dsimp only [State.dropLink]; (repeat' split) <;> simp

@[simp] theorem State.setLink_anchor (p : Nat) (l : Link) (s : State) : (s.setLink p l).anchor = s.anchor := by
  dsimp only [State.setLink]; (repeat' split) <;> simp

@[simp] theorem State.applyLink_anchor (p : Nat) (s : State) : (s.applyLink p).anchor = s.anchor := by
  dsimp only [State.applyLink]; (repeat' split) <;> simp

@[simp] theorem State.applyGate_anchor (p : Nat) (s : State) : (s.applyGate p).anchor = s.anchor := by
  dsimp only [State.applyGate, State.scheduleGates]; (repeat' split) <;> simp

@[simp] theorem State.applyPort_anchor (old : Cfg) (p : Nat) (s : State) : (s.applyPort old p).anchor = s.anchor := by
  dsimp only [State.applyPort]; (repeat' split) <;> simp

@[simp] theorem State.enactEpoch_anchor (c : Nat) (s : State) : (s.enactEpoch c).anchor = s.anchor :=
  foldl_anchor fun a p => by simp [State.applyPreempt]

/-! ## The epoch -/

@[simp] theorem State.dropReplaced_anchor (s : State) : s.dropReplaced.anchor = s.anchor := by
  dsimp only [State.dropReplaced]
  exact (State.onTbl_anchor _ _).trans (foldl_anchor fun a e => State.onCell_anchor fun _ => rfl)

@[simp] theorem State.settleCommit_anchor (s : State) : s.settleCommit.anchor = s.anchor := by
  unfold State.settleCommit
  split
  · simpa using State.onHif_anchor rfl rfl rfl rfl
  · rfl

/-- Setting a bit that is set changes nothing. -/
theorem or_bit_of_getLsbD {x : BitVec 64} {c : Nat} (h : x.getLsbD c = true) : x ||| BitVec.ofNat 64 (2 ^ c) = x := by
  apply BitVec.eq_of_getLsbD_eq
  intro i hi
  rw [BitVec.getLsbD_or, BitVec.getLsbD_ofNat, Nat.testBit_two_pow]
  by_cases hic : c = i
  · subst hic; simp [h]
  · simp [hic]

/-- The APPLIED bit of the cell is set, whether it was before or not. -/
theorem State.acceptEpoch_anchor (c : Nat) (s : State) :
    (s.acceptEpoch c).anchor = { s.anchor with applied := s.hif.applied ||| BitVec.ofNat 64 (2 ^ c) } := by
  dsimp only [State.acceptEpoch]
  split
  · rename_i h; rw [or_bit_of_getLsbD h]; rfl
  · rw [foldl_anchor fun a p => State.applyPort_anchor s.stg.prev p a, State.onCell_anchor]
    · rfl
    · exact fun _ => rfl

/-! ## Table writes -/

@[simp] theorem State.rewrite_anchor (u t i : Nat) (s : State) : (s.rewrite u t i).anchor = s.anchor := by
  dsimp only [State.rewrite]; (repeat' split) <;> simp

@[simp] theorem State.rewriteAll_anchor (u t : Nat) (l : List Nat) (s : State) : (s.rewriteAll u t l).anchor = s.anchor :=
  foldl_anchor fun a w => State.rewrite_anchor u t w a

@[simp] theorem State.dynMake_anchor (c fid mac : Nat) (d : Option Nat) (s : State) :
    (s.dynMake c fid mac d).2.anchor = s.anchor := by
  dsimp only [State.dynMake, State.dynFree, State.l2Put]; (repeat' split) <;> simp

@[simp] theorem State.makeHeld_anchor (c : Nat) (h : DynWrite) (s : State) : (s.makeHeld c h).2.anchor = s.anchor := by
  dsimp only [State.makeHeld, State.putMaster]; (repeat' split) <;> simp

@[simp] theorem State.learnEvent_anchor (ty c fid mac new old cells res port : Nat) (own : Bool) (s : State) :
    (s.learnEvent ty c fid mac new old cells res port own).anchor = s.anchor := by
  simp [State.learnEvent, State.kindEvent, State.noteEvt]

@[simp] theorem State.applyHeld_anchor (c : Nat) (l : List DynWrite) (own : List Bool) (s : State) :
    (s.applyHeld c l own).anchor = s.anchor := by
  induction l generalizing own s with
  | nil => rfl
  | cons h l ih =>
    dsimp only [State.applyHeld, State.dropCopyOf]
    split <;> simp [ih]

/-! ## Reads of a changed cell, and live conditions -/

@[simp] theorem State.onCell_cell_same (c : Nat) (f : Cell → Cell) (s : State) : (s.onCell c f).cell c = f (s.cell c) := by
  simp [State.cell]

theorem State.onCell_cell_other {c d : Nat} (h : d ≠ c) (f : Cell → Cell) (s : State) : (s.onCell c f).cell d = s.cell d := by
  simp [State.cell, tabGet_tabMod_other h]

/-- A live condition that ends is live no more while the FLT block runs (16 R538). -/
theorem State.endLive_not_live {a b : Nat} {s : State} (h : s.fltRuns = true) : (a, b) ∉ (s.endLive a b).flt.live := by
  unfold State.endLive
  split
  · simp [State.raise, State.eventSeen, h]
  · rename_i hl; simpa using hl

/-! ## Sleep (03 R87, R88; 01 R30) -/

/-- DOZE_ENTRY: an idle running cell dozes, and nothing else changes (03 R87). -/
theorem exec_dozeEntry (s : State) (c : Fin 64) : exec (.dozeEntry c) s =
    .next (if s.cellRuns c.val = true ∧ s.cellIdle c.val = true then
      { s with cel := tabMod {} c.val (fun x => { x with st := .doze }) s.cel } else s) := by
  change execDozeEntry c s = _
  simp [execDozeEntry, State.onCell]

/-- No active link, or low-power idle in both directions on each (03 R88). -/
theorem State.linksQuiet_iff {s : State} {c : Nat} : s.linksQuiet c = true ↔
    ∀ i, i < 16 → s.portUp (16 * c + i) = true → (s.port (16 * c + i)).rxLpi = true ∧ (s.port (16 * c + i)).txLpi = true := by
  simp [State.linksQuiet, cellPorts, Classical.or_iff_not_imp_left]

/-- A dozing cell that idleness, policy, links, gates and the 16 places out of duty let slumber (03 R88; 01 R30). -/
def State.maySlumber (s : State) (c : Nat) : Prop :=
  (s.cell c).st = .doze ∧ s.cellIdle c = true ∧ s.img.policy.slumberEn.getLsbD c = true ∧
    ((∀ i, i < 16 → s.portUp (16 * c + i) = true → (s.port (16 * c + i)).rxLpi = true ∧ (s.port (16 * c + i)).txLpi = true) ∨
      s.img.policy.activeSlumber.getLsbD c = true) ∧
    (∀ i, i < 16 → s.gated (16 * c + i) = false) ∧
    s.outCount + (if (s.cell c).out = false ∧ (s.cell c).benchSoon = false then 1 else 0) ≤ 16

/-- SLUMBER_ENTRY acts exactly where the cell may slumber. -/
theorem exec_slumberEntry (s : State) (c : Fin 64) [Decidable (s.maySlumber c.val)] : exec (.slumberEntry c) s =
    .next (if s.maySlumber c.val then { s with cel := tabMod {} c.val (fun x => { x with st := .slumber }) s.cel } else s) := by
  change execSlumberEntry c s = _
  unfold execSlumberEntry State.maySlumber
  simp [State.linksQuiet_iff, cellPorts, b2n, State.onCell]

/-! ## Wakes (03 R89, R92; 01 R25) -/

theorem State.startWake_cell_other {c d : Nat} (h : d ≠ c) (s : State) : (s.startWake c).cell d = s.cell d := by
  unfold State.startWake
  split
  · simp [State.cell, tabGet_tabMod_other h]
  · simp [State.cell, tabGet_tabMod_other h]
  · rfl

theorem State.startWake_cell_doze {c : Nat} {s : State} (h : (s.cell c).st = .doze) :
    (s.startWake c).cell c = { s.cell c with st := .waking false, wakeAt := s.upNs } := by
  simp only [State.startWake, h]
  simp [State.cell]

theorem State.startWake_cell_slumber {c : Nat} {s : State} (h : (s.cell c).st = .slumber) :
    (s.startWake c).cell c = { s.cell c with st := .waking true, wakeAt := s.upNs } := by
  simp only [State.startWake, h]
  simp [State.cell]

/-- A cell that does not sleep is not woken. -/
theorem State.startWake_awake {c : Nat} {s : State} (hd : (s.cell c).st ≠ .doze) (hs : (s.cell c).st ≠ .slumber) :
    s.startWake c = s := by
  unfold State.startWake
  split
  · contradiction
  · contradiction
  · rfl

/-- A wake changes cells and the performance monitor's counts alone. -/
theorem State.startWake_eq (c : Nat) (s : State) :
    s.startWake c = { s with cel := (s.startWake c).cel, pmu := (s.startWake c).pmu } := by
  ext1 <;> simp

/-- CELL_WAKE: a chunk and a commit wake from Doze alone, every other trigger from Slumber too. -/
theorem exec_cellWake (s : State) (c : Fin 64) (g : WakeTrigger) : exec (.cellWake c g) s =
    .next (if (g = .chunk ∨ g = .commit) ∧ (s.cell c.val).st ≠ .doze then s else s.startWake c.val) := by
  change execCellWake c g s = _
  cases g <;> simp [execCellWake]

/-! ## The end of a wake (03 R90, R91) -/

/-- The cell runs with its lost state new, nothing held for it, and waits for the rotation boundary. -/
def State.restartCell (c : Nat) (s : State) : State :=
  (s.reinitCell c).onCell c fun x => { x with st := .run, rejoin := true, held := [] }

theorem State.restartCell_cell (c : Nat) (s : State) :
    ((s.restartCell c).cell c).st = .run ∧ ((s.restartCell c).cell c).rejoin = true := by
  simp [State.restartCell]

/-- Doze ends in Run, and nothing but the cell's state changes. -/
theorem exec_wakeComplete_doze {s : State} {c : Fin 64} (h : (s.cell c.val).st = .waking false) (own : List Bool)
    (slots : BitVec 8) : exec (.wakeComplete c own slots) s = .next
      { s with hif := { s.hif with slotOwn := slots }, cel := tabMod {} c.val (fun x => { x with st := .run }) s.cel } := by
  change execWakeComplete c own slots s = _
  simp only [execWakeComplete, State.sees, State.onHif_cell, h]
  rfl

/-- A cell that does not wake only sees the OWN bits. -/
theorem exec_wakeComplete_other {s : State} {c : Fin 64} (h : ∀ b, (s.cell c.val).st ≠ .waking b) (own : List Bool)
    (slots : BitVec 8) : exec (.wakeComplete c own slots) s = .next { s with hif := { s.hif with slotOwn := slots } } := by
  change execWakeComplete c own slots s = _
  dsimp only [execWakeComplete, State.sees, State.onHif_cell]
  split
  · rename_i hw; exact absurd hw (h false)
  · rename_i hw; exact absurd hw (h true)
  · rfl

/-- After Slumber the restarted cell applies the epoch where it is in service, then what was held for it. -/
theorem exec_wakeComplete_slumber {s : State} {c : Fin 64} (h : (s.cell c.val).st = .waking true) (own : List Bool)
    (slots : BitVec 8) : exec (.wakeComplete c own slots) s =
      let r := (s.sees slots).restartCell c.val
      .next (((if s.inService c.val then ((r.acceptEpoch c.val).enactEpoch c.val).settleCommit else r).applyHeld c.val
        (s.cell c.val).held own).pmuRelease c.val) := by
  change execWakeComplete c own slots s = _
  have hsees : ((s.sees slots).cell c.val).st = .waking true := h
  simp only [execWakeComplete, hsees]
  rfl

/-- Of what the anchor holds, the end of Slumber changes the restarted cell, and its APPLIED bit where it is in service. -/
theorem wakeComplete_slumber_anchor {s : State} {c : Fin 64} (h : (s.cell c.val).st = .waking true) (own : List Bool)
    (slots : BitVec 8) : ∃ t, exec (.wakeComplete c own slots) s = .next t ∧
      t.anchor = { ((s.sees slots).restartCell c.val).anchor with
        applied := if s.inService c.val then s.hif.applied ||| BitVec.ofNat 64 (2 ^ c.val) else s.hif.applied } := by
  refine ⟨_, exec_wakeComplete_slumber h own slots, ?_⟩
  rw [State.pmuRelease_anchor, State.applyHeld_anchor]
  split
  · rw [State.settleCommit_anchor, State.enactEpoch_anchor, State.acceptEpoch_anchor]
    rfl
  · rfl

/-- A cell that wakes from Slumber runs, waits for the rotation boundary and, in service, has applied the epoch. -/
theorem wakeComplete_slumber_spec {s : State} {c : Fin 64} (h : (s.cell c.val).st = .waking true) (own : List Bool)
    (slots : BitVec 8) : ∃ t, exec (.wakeComplete c own slots) s = .next t ∧ t.hif.slotOwn = slots ∧
      (t.cell c.val).st = .run ∧ (t.cell c.val).rejoin = true ∧ t.crn = s.crn ∧ t.stg = s.stg ∧
      (s.inService c.val = true → t.hif.applied.getLsbD c.val = true) ∧
      (s.inService c.val = false → t.hif.applied = s.hif.applied) := by
  obtain ⟨t, hexec, hanchor⟩ := wakeComplete_slumber_anchor h own slots
  obtain ⟨hst, hrejoin⟩ := State.restartCell_cell c.val (s.sees slots)
  have hcell := congrFun (congrArg Anchor.cell hanchor) c.val
  have happlied := congrArg Anchor.applied hanchor
  refine ⟨t, hexec, congrArg Anchor.slotOwn hanchor, (congrArg Cell.st hcell).trans hst, (congrArg Cell.rejoin hcell).trans hrejoin,
    congrArg Anchor.crn hanchor, congrArg Anchor.stg hanchor, fun hs => ?_, fun hs => ?_⟩
  · have hset : t.hif.applied = s.hif.applied ||| BitVec.ofNat 64 (2 ^ c.val) := happlied.trans (if_pos hs)
    rw [hset, BitVec.getLsbD_or, BitVec.getLsbD_ofNat, Nat.testBit_two_pow]
    simp
  · exact happlied.trans (if_neg (by simp [hs]))

/-! ## Return to duty (03 R91; 11 R411) -/

/-- A running cell waits for the rotation boundary no longer. -/
def State.retakeDuty (c : Nat) (s : State) : State :=
  if (s.cell c).rejoin ∧ (s.cell c).st = .run then s.onCell c fun y => { y with rejoin := false } else s

/-- The cell leaves the bench, and its live condition ends. -/
def State.leaveBench (c : Nat) (s : State) : State :=
  (s.onCell c fun y => { y with unbenchSoon := false, benched := false, lowWindows := 0, svcSkip := true }).endLive (1024 + c) 5

/-- DUTY_REJOIN in its two parts. -/
theorem exec_dutyRejoin (s : State) (c : Fin 64) : exec (.dutyRejoin c) s = .next
    (if (s.cell c.val).unbenchSoon then (s.retakeDuty c.val).leaveBench c.val else s.retakeDuty c.val) := rfl

theorem State.retakeDuty_eq (c : Nat) (s : State) : s.retakeDuty c = { s with cel := (s.retakeDuty c).cel } := by
  unfold State.retakeDuty; split <;> rfl

theorem State.leaveBench_eq (c : Nat) (s : State) :
    s.leaveBench c = { s with cel := (s.leaveBench c).cel, flt := (s.leaveBench c).flt } := by
  ext1 <;> simp [State.leaveBench]

theorem State.retakeDuty_cell_other {c d : Nat} (h : d ≠ c) (s : State) : (s.retakeDuty c).cell d = s.cell d := by
  unfold State.retakeDuty
  split
  · exact State.onCell_cell_other h _ s
  · rfl

/-- Only the mark of the cell that waits changes, and only in Run. -/
theorem State.retakeDuty_cell_same (c : Nat) (s : State) : (s.retakeDuty c).cell c =
    { s.cell c with rejoin := (s.cell c).rejoin && decide ((s.cell c).st ≠ .run) } := by
  unfold State.retakeDuty
  split
  · rename_i h; simp [h.2]
  · rename_i h
    have hkeep : ((s.cell c).rejoin && decide ((s.cell c).st ≠ .run)) = (s.cell c).rejoin := by
      cases hr : (s.cell c).rejoin <;> simp_all
    rw [hkeep]

theorem State.leaveBench_cell_other {c d : Nat} (h : d ≠ c) (s : State) : (s.leaveBench c).cell d = s.cell d := by
  simp [State.leaveBench, State.cell, tabGet_tabMod_other h]

theorem State.leaveBench_cell_same (c : Nat) (s : State) : (s.leaveBench c).cell c =
    { s.cell c with unbenchSoon := false, benched := false, lowWindows := 0, svcSkip := true } := by
  simp [State.leaveBench, State.cell]

theorem State.leaveBench_not_live {c : Nat} {s : State} (h : s.fltRuns = true) :
    (1024 + c, 5) ∉ (s.leaveBench c).flt.live :=
  State.endLive_not_live h

/-- Settles O53, an instruction at a time; for a wake from Slumber, what follows the restart of the cell leaves the
anchor in place. -/
theorem cellSleep : Obligations.CellSleep := by
  unfold Obligations.CellSleep
  refine ⟨exec_dozeEntry, ?slumber, ?wake, ?complete, ?rejoin⟩
  case slumber =>
    classical
    intro s c
    exact ⟨fun (h : s.maySlumber c.val) => by rw [exec_slumberEntry, if_pos h],
      fun (h : ¬s.maySlumber c.val) => by rw [exec_slumberEntry, if_neg h]⟩
  case wake =>
    intro s c g
    refine ⟨_, exec_cellWake s c g, ?_⟩
    split
    · rename_i hkept
      exact ⟨rfl, fun _ _ => rfl, fun hd => absurd hd hkept.2, fun _ hg hg' => absurd hkept.1 (not_or.mpr ⟨hg, hg'⟩),
        fun _ _ => rfl, fun _ _ => rfl⟩
    · rename_i hwake
      refine ⟨State.startWake_eq c.val s, fun d hd => State.startWake_cell_other hd s, State.startWake_cell_doze,
        fun hs _ _ => State.startWake_cell_slumber hs, fun hs hg => ?_, State.startWake_awake⟩
      exact absurd ⟨hg, by simp [hs]⟩ hwake
  case complete =>
    intro s c own slots
    by_cases hdoze : (s.cell c.val).st = .waking false
    · exact ⟨_, exec_wakeComplete_doze hdoze own slots, rfl, fun _ => rfl, fun h => by simp [hdoze] at h,
        fun h => absurd hdoze (h false)⟩
    by_cases hslumber : (s.cell c.val).st = .waking true
    · obtain ⟨t, hexec, hown, hst, hrejoin, hcrn, hstg, hin, hout⟩ := wakeComplete_slumber_spec hslumber own slots
      exact ⟨t, hexec, hown, fun h => absurd h hdoze, fun _ => ⟨hst, hrejoin, hcrn, by rw [hstg], hin, hout⟩,
        fun h => absurd hslumber (h true)⟩
    · have hother : ∀ b, (s.cell c.val).st ≠ .waking b := fun b => by cases b <;> assumption
      exact ⟨_, exec_wakeComplete_other hother own slots, rfl, fun h => absurd h hdoze, fun h => absurd h hslumber,
        fun _ => rfl⟩
  case rejoin =>
    intro s c
    have hruns : (s.retakeDuty c.val).fltRuns = s.fltRuns := by rw [State.retakeDuty_eq]; rfl
    refine ⟨_, exec_dutyRejoin s c, ?_⟩
    split
    · rename_i hbench
      refine ⟨by rw [State.retakeDuty_eq]; exact State.leaveBench_eq _ _,
        fun d hd => by rw [State.leaveBench_cell_other hd, State.retakeDuty_cell_other hd], ?_⟩
      rw [State.leaveBench_cell_same, State.retakeDuty_cell_same]
      exact ⟨fun h => by simp [h], fun h => by simp [h],
        fun _ => ⟨rfl, rfl, fun h => State.leaveBench_not_live (hruns.trans h)⟩, fun h => by simp [h] at hbench⟩
    · rename_i hstay
      refine ⟨by rw [State.retakeDuty_eq], fun d hd => State.retakeDuty_cell_other hd s, ?_⟩
      rw [State.retakeDuty_cell_same]
      exact ⟨fun h => by simp [h], fun h => by simp [h], fun h => absurd h hstay,
        fun _ => ⟨rfl, by rw [State.retakeDuty_eq]⟩⟩

end Sys2Proof.Machine
end

section
/-!
REFUTATION of UnpoweredIsInert (O57). PowerSound rules out firmware, but not a drain, and through a drain the FLT block
runs without firmware (14 R485; 16 R540). A ridge that fails then leaves a fatal event behind in a module without power.
-/

namespace Sys2Proof.Machine

open Sys2Proof

/-! ## Fatal events of units (16 R549) -/

/-- A fatal event leaves the module in its power state: the reset comes later (14 R602). -/
theorem State.fatalEvent_mod (e : Ev) (s : State) : (s.fatalEvent e).crn.mod = s.crn.mod := by
  have hcrn : ((s.raise e).onIf s.crn.fwRuns State.sealBegin).crn = s.crn := by
    rw [State.onIf_keeps State.crn _ _ _ (State.sealBegin_crn _), State.raise_crn]
  rw [State.fatalEvent, State.onCrn_crn, hcrn]
  split <;> rfl

/-- After a fatal event a fatal reset is triggered. -/
theorem State.fatalEvent_fatalTrig_ne_none (e : Ev) (s : State) : (s.fatalEvent e).crn.fatalTrig ≠ none := by
  rw [State.fatalEvent, State.onCrn_crn]
  split
  · rename_i htrig; rw [htrig]; exact Option.some_ne_none _
  · exact Option.some_ne_none _

/-- SUPPLY_FAULT of a ridge while the FLT block runs is a fatal event, whatever the module's state. -/
theorem exec_supplyFault_ridge {s : State} (h : s.fltRuns = true) (r : Fin 8) :
    exec (.supplyFault (.ridge r)) s = .next (s.fatalEvent { src := 1088 + r.val, reason := 4, cls := 3 }) := by
  change execSupplyFault (.ridge r) s = _
  simp [execSupplyFault, State.unitFault, h]

/-- A fatal event in a module without power leaves it unsound. -/
theorem State.fatalEvent_not_powerSound {s : State} (h : s.crn.mod = .unpowered) (e : Ev) :
    ¬(s.fatalEvent e).PowerSound := by
  intro hsound
  obtain ⟨_, _, _, htrig, _⟩ := hsound (.inl ((State.fatalEvent_mod e s).trans h))
  exact State.fatalEvent_fatalTrig_ne_none e s htrig

/-! ## A drain without power -/

/-- The module as at reset, without power, but with a drain under way. -/
def unpoweredDrain : State := { State.reset with crn := { State.reset.crn with draining := true } }

/-- Nothing that PowerSound names is under way in it, whatever its queue holds. -/
theorem unpoweredDrain_powerSound (l : List Instr) : State.PowerSound { unpoweredDrain with pending := l } :=
  fun _ => ⟨rfl, rfl, rfl, rfl, rfl, rfl, rfl⟩

/-- There the failure of ridge 0 is a fatal event. -/
theorem step_unpoweredDrain : step { unpoweredDrain with pending := [.supplyFault (.ridge 0)] } =
    .next (unpoweredDrain.fatalEvent { src := 1088, reason := 4, cls := 3 }) :=
  exec_supplyFault_ridge (s := unpoweredDrain) rfl 0

/-- Refutes O57: a module without power in which a drain is under way satisfies PowerSound, and the failure of a ridge
there triggers a fatal reset, which PowerSound excludes. -/
theorem not_unpoweredIsInert : ¬ Obligations.UnpoweredIsInert := by
  unfold Obligations.UnpoweredIsInert
  intro h
  exact State.fatalEvent_not_powerSound (s := unpoweredDrain) rfl _ (h _ _ (unpoweredDrain_powerSound _) step_unpoweredDrain)

end Sys2Proof.Machine
end

section
/-!
SUPPORT. The canonical form of the tables, step by step (03 R101; 14 R499): what it speaks of, and what every update of one
part of the state leaves of it.
-/

namespace Sys2Proof.Machine

open Sys2Proof

/-! ## What the canonical form speaks of -/

/-- The parts of the journal that its order is about. -/
def Img.journalParts (m : Img) : List Segment × Option Segment × Nat := (m.segs, m.open_, m.nextSeg)

/-- The configurations that the canonical form is about. -/
def Stg.configs (g : Stg) : Cfg × Cfg × Cfg × Cfg := (g.cur, g.prev, g.staged, g.imm)

/-- The tables that the canonical form is about. -/
def State.tables (s : State) : Tab Port × Tab Cell × Tab Nat × (Cfg × Cfg × Cfg × Cfg) × (List Segment × Option Segment × Nat) :=
  (s.prt, s.cel, s.ctr, s.stg.configs, s.img.journalParts)

/-- The numbers of the segments rise up to the next one's (14 R499). -/
def Img.Ordered (m : Img) : Prop :=
  ((m.segs ++ m.open_.toList).map fun g => g.number).Pairwise (fun a b => a < b) ∧
    ∀ g ∈ m.segs ++ m.open_.toList, g.number < m.nextSeg

/-- An update of a configuration that keeps its keys rising. -/
def KeepsSorted (f : Cfg → Cfg) : Prop := ∀ c, tabSorted c = true → tabSorted (f c) = true

/-- The outcome goes on to states in canonical form alone. -/
def Res.Canonical (x : Res) : Prop := ∀ t, x = .next t → t.Canonical

/-- The canonical form is one of the tables: a state with the same tables has it too. -/
theorem State.Canonical.congr {s t : State} (h : s.Canonical)
    (e : t.tables = s.tables := by dsimp only [State.tables, Stg.configs, Img.journalParts]) : t.Canonical := by
  simp only [State.tables, Stg.configs, Img.journalParts, Prod.mk.injEq] at e
  obtain ⟨hp, hc, hn, ⟨hcur, hprev, hstaged, himm⟩, hsegs, hopen, hnext⟩ := e
  constructor
  · exact hp ▸ h.ports
  · exact hc ▸ h.cells
  · exact hn ▸ h.counters
  · exact hcur ▸ h.cur
  · exact hprev ▸ h.prev
  · exact hstaged ▸ h.staged
  · exact himm ▸ h.imm
  · rw [hsegs, hopen, hnext]; exact h.journal

/-! ## Choices and folds -/

theorem State.Canonical.ite {p : Prop} [Decidable p] {s t : State} (hs : s.Canonical) (ht : t.Canonical) :
    (if p then s else t).Canonical := by
  split
  · exact hs
  · exact ht

theorem State.Canonical.onIf {b : Bool} {f : State → State} {s : State} (hf : ∀ t : State, t.Canonical → (f t).Canonical)
    (h : s.Canonical) : (s.onIf b f).Canonical :=
  .ite (hf s h) h

theorem State.Canonical.foldl {α : Type} {f : State → α → State} {l : List α} {s : State}
    (hf : ∀ (t : State) (a : α), t.Canonical → (f t a).Canonical) (h : s.Canonical) : (l.foldl f s).Canonical := by
  induction l generalizing s with
  | nil => exact h
  | cons a l ih => exact ih (hf s a h)

/-- The state that a command's own answer carries is in canonical form. -/
def Ans.Canonical (a : Ans) : Prop := a.st.Canonical

theorem Ans.Canonical.st {a : Ans} (h : a.Canonical) : a.st.Canonical := h

theorem Ans.Canonical.mk {status need : Nat} {words : List Word} {t : State} {wait : Option DeferKind} {hold keep : Bool}
    (h : t.Canonical) : Ans.Canonical { status, words, st := t, wait, need, hold, keep } := h

theorem Ans.Canonical.ite {p : Prop} [Decidable p] {a b : Ans} (ha : a.Canonical) (hb : b.Canonical) :
    Ans.Canonical (if p then a else b) := by
  split
  · exact ha
  · exact hb

theorem State.Canonical.snd {α : Type} {a : α} {t : State} (h : t.Canonical) : (a, t).2.Canonical := h

theorem State.Canonical.snd_ite {α : Type} {p : Prop} [Decidable p] {x y : α × State} (hx : x.2.Canonical) (hy : y.2.Canonical) :
    (if p then x else y).2.Canonical := by
  split
  · exact hx
  · exact hy

/-- The state of a pair that is known. -/
theorem State.Canonical.of_mk {α : Type} {x : α × State} {a : α} {t : State} (h : x.2.Canonical) (e : x = (a, t)) : t.Canonical := by
  rw [e] at h; exact h

/-! ## Updates of one part of the state -/

theorem State.Canonical.onCrn {f : Crn → Crn} {s : State} (h : s.Canonical) : (s.onCrn f).Canonical := h.congr rfl

theorem State.Canonical.onSup {f : Sup → Sup} {s : State} (h : s.Canonical) : (s.onSup f).Canonical := h.congr rfl

theorem State.Canonical.onTim {f : Tim → Tim} {s : State} (h : s.Canonical) : (s.onTim f).Canonical := h.congr rfl

theorem State.Canonical.onHif {f : Hif → Hif} {s : State} (h : s.Canonical) : (s.onHif f).Canonical := h.congr rfl

theorem State.Canonical.onFlt {f : Flt → Flt} {s : State} (h : s.Canonical) : (s.onFlt f).Canonical := h.congr rfl

/-- An update of the images that leaves the journal's segments. -/
theorem State.Canonical.onImg {f : Img → Img} {s : State} (h : s.Canonical)
    (e : ∀ m, (f m).journalParts = m.journalParts := by intro; dsimp only [Img.journalParts]) : (s.onImg f).Canonical :=
  h.congr (by simp only [State.tables, State.onImg, e])

/-- An update of the images that keeps the journal's segments in order. -/
theorem State.Canonical.onImg_ordered {f : Img → Img} {s : State} (h : s.Canonical) (hj : (f s.img).Ordered) :
    (s.onImg f).Canonical :=
  { h with journal := hj }

theorem State.Canonical.onSec {f : Sec → Sec} {s : State} (h : s.Canonical) : (s.onSec f).Canonical := h.congr rfl

/-- An update of the staging area that leaves the configurations. -/
theorem State.Canonical.onStg {f : Stg → Stg} {s : State} (h : s.Canonical)
    (e : ∀ g, (f g).configs = g.configs := by intro; dsimp only [Stg.configs]) : (s.onStg f).Canonical :=
  h.congr (by simp only [State.tables, State.onStg, e])

/-- An update of the staging area to configurations whose keys rise. -/
theorem State.Canonical.onStg_sorted {f : Stg → Stg} {s : State} (h : s.Canonical) (hc : tabSorted (f s.stg).cur = true)
    (hp : tabSorted (f s.stg).prev = true) (hs : tabSorted (f s.stg).staged = true) (hi : tabSorted (f s.stg).imm = true) :
    (s.onStg f).Canonical :=
  { h with cur := hc, prev := hp, staged := hs, imm := hi }

theorem State.Canonical.onRng {f : Rng → Rng} {s : State} (h : s.Canonical) : (s.onRng f).Canonical := h.congr rfl

theorem State.Canonical.onBpm {f : Bpm → Bpm} {s : State} (h : s.Canonical) : (s.onBpm f).Canonical := h.congr rfl

theorem State.Canonical.onPmu {f : Pmu → Pmu} {s : State} (h : s.Canonical) : (s.onPmu f).Canonical := h.congr rfl

theorem State.Canonical.onFrm {f : Frm → Frm} {s : State} (h : s.Canonical) : (s.onFrm f).Canonical := h.congr rfl

theorem State.Canonical.onTbl {f : Tbl → Tbl} {s : State} (h : s.Canonical) : (s.onTbl f).Canonical := h.congr rfl

theorem State.Canonical.onFlo {f : Flo → Flo} {s : State} (h : s.Canonical) : (s.onFlo f).Canonical := h.congr rfl

theorem State.Canonical.onPrg {f : Prg → Prg} {s : State} (h : s.Canonical) : (s.onPrg f).Canonical := h.congr rfl

theorem State.Canonical.onFab {f : Fab → Fab} {s : State} (h : s.Canonical) : (s.onFab f).Canonical := h.congr rfl

theorem State.Canonical.onEgr {f : Egr → Egr} {s : State} (h : s.Canonical) : (s.onEgr f).Canonical := h.congr rfl

theorem State.Canonical.onPort {p : Nat} {f : Port → Port} {s : State} (h : s.Canonical) : (s.onPort p f).Canonical :=
  { h with ports := tabWf_tabMod {} p f h.ports }

theorem State.Canonical.onCell {c : Nat} {f : Cell → Cell} {s : State} (h : s.Canonical) : (s.onCell c f).Canonical :=
  { h with cells := tabWf_tabMod {} c f h.cells }

theorem State.Canonical.onRing {i : Nat} {f : Ring → Ring} {s : State} (h : s.Canonical) : (s.onRing i f).Canonical :=
  h.onRng

theorem State.Canonical.onPair {n : Nat} {f : MbxPair → MbxPair} {s : State} (h : s.Canonical) : (s.onPair n f).Canonical :=
  h.onHif

theorem State.Canonical.emit {o : Out} {s : State} (h : s.Canonical) : (s.emit o).Canonical := h.congr rfl

theorem State.Canonical.drawNat {s : State} (h : s.Canonical) : (s.drawNat).2.Canonical :=
  .snd h.congr

theorem State.Canonical.drawWords {n : Nat} {s : State} (h : s.Canonical) : (State.drawWords n s).2.Canonical := by
  induction n generalizing s with
  | zero => exact h
  | succ n ih => exact .snd (ih h.drawNat)

/-- Dropping entries keeps the canonical form, whatever they are. -/
theorem tabWf_filter {α : Type} [DecidableEq α] {d : α} {p : Nat × α → Bool} {t : Tab α} (h : tabWf d t = true) :
    tabWf d (t.filter p) = true := by
  simp only [tabWf, Bool.and_eq_true, List.all_eq_true] at h ⊢
  exact ⟨tabSorted_filter p h.1, fun x hx => h.2 x (List.mem_of_mem_filter hx)⟩

theorem State.Canonical.bump {kind inst idx n : Nat} {s : State} (h : s.Canonical) : (s.bump kind inst idx n).Canonical :=
  { h with counters := tabWf_tabMod 0 (ckey kind inst idx) (fun v => (v + n) % 2 ^ 64) h.counters }

/-- Counters that are dropped leave the others in their form. -/
theorem State.Canonical.filterCounters {p : Nat × Nat → Bool} {s : State} (h : s.Canonical) :
    State.Canonical { s with ctr := s.ctr.filter p } :=
  { h with counters := tabWf_filter h.counters }

theorem State.Canonical.sendVector {v : Nat} {s : State} (h : s.Canonical) : (s.sendVector v).Canonical :=
  .ite (.ite h.onHif h.emit) h

theorem State.Canonical.irq {n : Nat} {s : State} (h : s.Canonical) : (s.irq n).Canonical :=
  .ite h.onHif.sendVector h.onHif

theorem State.Canonical.hostWrite {addr : Nat} {data : List Word} {s : State} (h : s.Canonical) :
    (s.hostWrite addr data).Canonical :=
  .ite h.emit h

theorem State.Canonical.hostPut {addr : Nat} {data : List Byte} {s : State} (h : s.Canonical) : (s.hostPut addr data).Canonical :=
  .ite h.emit h

theorem State.Canonical.signalRing {i : Nat} {s : State} (h : s.Canonical) : (s.signalRing i).Canonical :=
  .ite (.ite h.sendVector (.ite h.sendVector.onRing h.onRing)) h

theorem State.Canonical.writeEntry {i size : Nat} {e : List Word} {s : State} (h : s.Canonical) :
    (s.writeEntry i size e).Canonical :=
  h.hostWrite.onRing.signalRing

theorem State.Canonical.writeEvent {i : Nat} {e : List Word} {s : State} (h : s.Canonical) : (s.writeEvent i e).Canonical :=
  h.writeEntry.onRing

theorem State.Canonical.pushEvent {kind cls src time : Nat} {body : List Word} {own : Bool} {s : State} (h : s.Canonical) :
    (s.pushEvent kind cls src time body own).Canonical := by
  unfold State.pushEvent
  split
  · exact h
  · exact .ite h.writeEvent (.ite h.onRing h.onRing)

theorem State.Canonical.saveLife {s : State} (h : s.Canonical) : s.saveLife.Canonical :=
  h.onSup

theorem State.Canonical.raise {e : Ev} {s : State} (h : s.Canonical) : (s.raise e).Canonical :=
  .ite h.onFlt h

theorem State.Canonical.raiseByCore {e : Ev} {s : State} (h : s.Canonical) : (s.raiseByCore e).Canonical :=
  h.drawNat.raise

theorem State.Canonical.endLive {src reason : Nat} {s : State} (h : s.Canonical) : (s.endLive src reason).Canonical :=
  .ite h.raise h

theorem State.Canonical.noteEvt {src : Nat} {s : State} (h : s.Canonical) : (s.noteEvt src).Canonical :=
  h.onFlt

theorem State.Canonical.kindEvent {kind cls src : Nat} {body : List Word} {own : Bool} {s : State} (h : s.Canonical) :
    (s.kindEvent kind cls src body own).Canonical :=
  h.noteEvt.pushEvent

theorem State.Canonical.clearSource {n : Nat} {s : State} (h : s.Canonical) : (s.clearSource n).2.Canonical := by
  unfold State.clearSource
  refine .snd_ite ?_ ?_
  · exact .snd h
  · exact .snd h.onFlt

theorem State.Canonical.clearSources {l : List Nat} {s : State} (h : s.Canonical) : (s.clearSources l).2.Canonical :=
  .snd (.onFlt (.foldl (fun _ _ h => h.clearSource) h))

/-! ## Configurations with rising keys (04 R137; 14 R501) -/

theorem KeepsSorted.cfgSet {op obj : Nat} {w d : List Word} : KeepsSorted (cfgSet op obj w d) := fun _ h => by
  unfold Machine.cfgSet tabPut
  split
  · exact tabSorted_tabDel _ h
  · exact tabSorted_tabIns _ _ h

theorem KeepsSorted.cfgDel {op obj : Nat} : KeepsSorted (cfgDel op obj) := fun _ h => tabSorted_tabDel _ h

theorem KeepsSorted.ite {p : Prop} [Decidable p] {f g : Cfg → Cfg} (hf : KeepsSorted f) (hg : KeepsSorted g) :
    KeepsSorted (if p then f else g) := by
  split
  · exact hf
  · exact hg

theorem KeepsSorted.foldl {α : Type} {l : List α} {f : Cfg → α → Cfg} (hf : ∀ a, KeepsSorted fun c => f c a) :
    KeepsSorted fun c => l.foldl f c := fun _ h =>
  List.foldlRecOn (motive := fun c => tabSorted c = true) l f h fun c hc a _ => hf a c hc

/-- An object in each of several places is set or deleted, as one bit of the command says. -/
theorem KeepsSorted.foldl_ite {α : Type} {l : List α} {p : Prop} [Decidable p] {f g : α → Cfg → Cfg} (hf : ∀ a, KeepsSorted (f a))
    (hg : ∀ a, KeepsSorted (g a)) : KeepsSorted fun c => l.foldl (fun c a => if p then f a c else g a c) c :=
  .foldl fun a c h => by
    split
    · exact hf a c h
    · exact hg a c h

theorem KeepsSorted.setCells {op n cells : Nat} {f d : Nat → List Word} : KeepsSorted (setCells op n cells f d) := .foldl fun _ => .cfgSet
theorem KeepsSorted.setPort {q : Req} : KeepsSorted (setPort q) := fun c h =>
  KeepsSorted.cfgSet _ (by
    split
    · exact KeepsSorted.foldl (fun _ => .cfgDel) c h
    · exact h)
theorem KeepsSorted.setClsParser {q : Req} : KeepsSorted (setClsParser q) := .cfgSet
theorem KeepsSorted.setClsBank {q : Req} : KeepsSorted (setClsBank q) := .setCells
theorem KeepsSorted.setClsProfile {q : Req} : KeepsSorted (setClsProfile q) := .setCells
theorem KeepsSorted.setClsPort {q : Req} : KeepsSorted (setClsPort q) := .cfgSet
theorem KeepsSorted.setClsRule {q : Req} : KeepsSorted (setClsRule q) := fun c h =>
  KeepsSorted.foldl (l := ruleCells q c) (fun _ => .cfgSet) c h
theorem KeepsSorted.delClsRule {q : Req} : KeepsSorted (delClsRule q) := .foldl fun _ => .cfgDel
theorem KeepsSorted.setClsMeter {q : Req} : KeepsSorted (setClsMeter q) := .setCells
theorem KeepsSorted.setClsMirror {q : Req} : KeepsSorted (setClsMirror q) := .setCells
theorem KeepsSorted.setVlan {q : Req} : KeepsSorted (setVlan q) := .cfgSet
theorem KeepsSorted.setTblPort {q : Req} : KeepsSorted (setTblPort q) := .cfgSet
theorem KeepsSorted.setL2 {q : Req} : KeepsSorted (setL2 q) := .foldl_ite (fun _ => .cfgDel) fun _ => .cfgSet
theorem KeepsSorted.setAge {q : Req} : KeepsSorted (setAge q) := .cfgSet
theorem KeepsSorted.setRoute {q : Req} : KeepsSorted (setRoute q) := .foldl_ite (fun _ => .cfgDel) fun _ => .cfgSet
theorem KeepsSorted.setNexthop {q : Req} : KeepsSorted (setNexthop q) := .cfgSet
theorem KeepsSorted.setRouterMac {q : Req} : KeepsSorted (setRouterMac q) := .cfgSet
theorem KeepsSorted.setGroup {q : Req} : KeepsSorted (setGroup q) := .foldl fun _ => .cfgSet
theorem KeepsSorted.setHashKey {q : Req} : KeepsSorted (setHashKey q) := .foldl fun _ => .cfgSet
theorem KeepsSorted.setMcast {q : Req} : KeepsSorted (setMcast q) := .cfgSet
theorem KeepsSorted.setTemplate {q : Req} : KeepsSorted (setTemplate q) := .cfgSet
theorem KeepsSorted.setZone {g : Stg} {q : Req} : KeepsSorted (setZone g q) := .cfgSet
theorem KeepsSorted.setAging {g : Stg} {q : Req} : KeepsSorted (setAging g q) := .cfgSet
theorem KeepsSorted.setProg {q : Req} : KeepsSorted (setProg q) := .cfgSet
theorem KeepsSorted.setProgMeter {q : Req} : KeepsSorted (setProgMeter q) := .cfgSet
theorem KeepsSorted.setPool {q : Req} : KeepsSorted (setPool q) := .cfgSet
theorem KeepsSorted.setLbGroup {q : Req} : KeepsSorted (setLbGroup q) := .cfgSet
theorem KeepsSorted.setEmit {q : Req} : KeepsSorted (setEmit q) := .cfgSet
theorem KeepsSorted.setColPolicer {q : Req} : KeepsSorted (setColPolicer q) := .cfgSet
theorem KeepsSorted.setBuf {q : Req} : KeepsSorted (setBuf q) := .foldl fun _ => .cfgSet
theorem KeepsSorted.setEgrPort {q : Req} : KeepsSorted (setEgrPort q) := .cfgSet
theorem KeepsSorted.setEgrQueue {q : Req} : KeepsSorted (setEgrQueue q) := .cfgSet
theorem KeepsSorted.setEgrGate {q : Req} : KeepsSorted (setEgrGate q) := .ite .cfgSet .cfgDel
theorem KeepsSorted.setTc {q : Req} : KeepsSorted (setTc q) := .cfgSet

/-! ## The journal's replay (14 R498 to R501) -/

theorem KeepsSorted.applyStaged {g : Stg} {cmd : List Word} : KeepsSorted (applyStaged g cmd) := by
  intro c h
  dsimp only [Machine.applyStaged]
  split
  · exact KeepsSorted.setPort c h
  · exact KeepsSorted.setClsParser c h
  · exact KeepsSorted.setClsBank c h
  · exact KeepsSorted.setClsProfile c h
  · exact KeepsSorted.setClsPort c h
  · exact KeepsSorted.setClsRule c h
  · exact KeepsSorted.delClsRule c h
  · exact KeepsSorted.setClsMeter c h
  · exact KeepsSorted.setClsMirror c h
  · exact KeepsSorted.setVlan c h
  · exact KeepsSorted.setTblPort c h
  · exact KeepsSorted.setL2 c h
  · exact KeepsSorted.setRoute c h
  · exact KeepsSorted.setNexthop c h
  · exact KeepsSorted.setRouterMac c h
  · exact KeepsSorted.setGroup c h
  · exact KeepsSorted.setHashKey c h
  · exact KeepsSorted.setMcast c h
  · exact KeepsSorted.setTemplate c h
  · exact KeepsSorted.setZone c h
  · exact KeepsSorted.setAging c h
  · exact KeepsSorted.setProg c h
  · exact KeepsSorted.setProgMeter c h
  · exact KeepsSorted.setPool c h
  · exact KeepsSorted.setLbGroup c h
  · exact KeepsSorted.setColPolicer c h
  · exact KeepsSorted.setBuf c h
  · exact KeepsSorted.setEgrPort c h
  · exact KeepsSorted.setEgrQueue c h
  · exact KeepsSorted.setEgrGate c h
  · exact KeepsSorted.setTc c h
  · exact h

theorem KeepsSorted.applyImm {cmd : List Word} : KeepsSorted (applyImm cmd) := by
  intro c h
  dsimp only [Machine.applyImm]
  split
  · exact KeepsSorted.setAge c h
  · exact KeepsSorted.setEmit c h
  · exact h

/-- The configurations of a replay have rising keys. -/
def Replay.Sorted (x : Replay) : Prop := tabSorted x.work = true ∧ tabSorted x.cfg = true ∧ tabSorted x.imm = true

theorem Replay.Sorted.record {g : Stg} {x : Replay} {rec : List Word} (h : x.Sorted) : (x.record g rec).Sorted := by
  obtain ⟨hwork, hcfg, himm⟩ := h
  unfold Replay.record
  split
  · exact ⟨hwork, hwork, himm⟩
  · exact ⟨KeepsSorted.applyStaged _ hwork, hcfg, KeepsSorted.applyImm _ himm⟩

/-- What the journal restores has rising keys, whatever its records are. -/
theorem State.replayed_sorted {s : State} {x : Replay} (h : s.replayed = some x) : x.Sorted := by
  unfold State.replayed at h
  split at h
  · cases h
  · obtain rfl := Option.some.inj h
    exact List.foldlRecOn (motive := Replay.Sorted) _ _ ⟨rfl, rfl, rfl⟩ fun _ hx _ _ => hx.record

theorem tabSorted_foldl_tabIns {l c : Cfg} (h : tabSorted c = true) : tabSorted (l.foldl (fun a e => tabIns e.1 e.2 a) c) = true :=
  List.foldlRecOn (motive := fun c => tabSorted c = true) l _ h fun _ hc _ _ => tabSorted_tabIns _ _ hc

/-- What is staged, staged anew on another configuration, has rising keys where that has. -/
theorem tabSorted_rebase (cur staged : Cfg) {new : Cfg} (h : tabSorted new = true) : tabSorted (rebase cur staged new) = true := by
  have hins : tabSorted (staged.foldl (fun t e => if tabFind cur e.1 = some e.2 then t else tabIns e.1 e.2 t) new) = true :=
    List.foldlRecOn (motive := fun c => tabSorted c = true) _ _ h fun c hc e _ => by
      split
      · exact hc
      · exact tabSorted_tabIns _ _ hc
  refine List.foldlRecOn (motive := fun c => tabSorted c = true) _ _ hins fun c hc e _ => ?_
  split
  · exact tabSorted_tabDel _ hc
  · exact hc

/-! ## Performance counters and samples (17) -/

theorem State.Canonical.pmuAdd {b item n : Nat} {s : State} (h : s.Canonical) : (s.pmuAdd b item n).Canonical := by
  dsimp only [State.pmuAdd]
  exact h.onPmu

theorem State.Canonical.pmuStore {master b w : Nat} {v : Word} {s : State} (h : s.Canonical) :
    (s.pmuStore master b w v).Canonical := by
  unfold State.pmuStore
  split
  · exact h.onPmu
  · exact h.onPmu
  · exact h.onPmu
  · exact h.onPmu
  · exact h.onPmu
  · exact h

theorem State.Canonical.pmuWrite {master b w : Nat} {v : Word} {s : State} (h : s.Canonical) :
    (s.pmuWrite master b w v).Canonical :=
  .ite h (.ite h.onPmu h.pmuStore)

theorem State.Canonical.pmuRelease {c : Nat} {s : State} (h : s.Canonical) : (s.pmuRelease c).Canonical :=
  .foldl (fun _ _ h => h.pmuStore) h.onPmu

theorem State.Canonical.pmuEvent {b ev n : Nat} {o : Occ} {s : State} (h : s.Canonical) : (s.pmuEvent b ev n o).Canonical :=
  .ite h (.foldl (fun _ _ h => .ite h.pmuAdd h) h)

theorem State.Canonical.pmuSpan {b ev lo hi : Nat} {s : State} (h : s.Canonical) : (s.pmuSpan b ev lo hi).Canonical :=
  .ite h (.foldl (fun _ _ h => .ite h.pmuAdd h) h)

theorem State.Canonical.pmuOpen {b ev : Nat} {s : State} (h : s.Canonical) : (s.pmuOpen b ev).Canonical :=
  .ite h (.foldl (fun _ _ h => .ite h.drawNat.pmuAdd h) h)

theorem State.Canonical.pmuFirmware {b ev : Nat} {o : Occ} {s : State} (h : s.Canonical) : (s.pmuFirmware b ev o).Canonical :=
  .ite h h.drawNat.pmuEvent

theorem State.Canonical.pmuKey {c : Nat} {host : Bool} {tc : Nat} {s : State} (h : s.Canonical) :
    (s.pmuKey c host tc).Canonical :=
  .ite h h.pmuEvent.onPmu

theorem State.Canonical.startWake {c : Nat} {s : State} (h : s.Canonical) : (s.startWake c).Canonical := by
  unfold State.startWake
  split
  · exact h.onCell.pmuEvent
  · exact h.onCell.pmuEvent
  · exact h

/-! ## The mailbox (04) -/

theorem State.Canonical.writeResponse {n : Nat} {e : HeldRsp} {s : State} (h : s.Canonical) : (s.writeResponse n e).Canonical :=
  .onPair (.sendVector (.hostWrite (.onIf (fun _ h => h.hostWrite) h)))

theorem State.Canonical.countDone {s : State} (h : s.Canonical) : s.countDone.Canonical :=
  h.pmuEvent

theorem State.Canonical.respond {op : Nat} {r : Req} {status : Nat} {ws : List Word} {s0 : State} (h : s0.Canonical) :
    (s0.respond op r status ws).Canonical := by
  dsimp only [State.respond]
  split
  · exact .irq (.onHif (.onIf (fun _ h => h.countDone) h))
  · split
    · exact .onIf (fun _ h => h.countDone) h
    · refine .ite ?_ ?_
      · exact .raise (.irq (.onPair (.onIf (fun _ h => h.countDone) h)))
      · exact .writeResponse (.onIf (fun _ h => h.countDone) h)
  · split
    · exact .onIf (fun _ h => h.countDone) h
    · exact .emit (.onHif (.onIf (fun _ h => h.countDone) h))

theorem State.Canonical.finish {op : Nat} {r : Req} {s : State} {a : Ans} (h : s.Canonical) (ha : a.Canonical) :
    (s.finish op r a).Canonical := by
  unfold State.finish
  refine .ite ?_ (.respond (.ite ha.st h))
  split
  · exact .ite h.respond ha.st.onHif
  · exact .ite ha.st (.ite h.respond ha.st.respond)

theorem Res.Canonical.next {s : State} (h : s.Canonical) : Res.Canonical (.next s) := by
  rintro t ⟨⟩
  exact h

/-- A command leaves the canonical form if the state that its own answer carries has it. -/
theorem Res.Canonical.mailbox {op : Nat} {r : Req} {s : State} {chk : Req → Chk} {run : Req → Ans} (h : s.Canonical)
    (hr : ∀ q, (run q).Canonical) : Res.Canonical (mailbox op r s chk run) := by
  refine .next ?_
  split
  · exact h
  · exact .ite (.finish h (hr _)) h.respond

theorem Res.Canonical.mailboxThen {op : Nat} {r : Req} {s : State} {chk : Req → Chk} {run : Req → Ans}
    {after : Req → State → State} (h : s.Canonical) (hr : ∀ q, (run q).Canonical)
    (ha : ∀ q (t : State), t.Canonical → (after q t).Canonical) : Res.Canonical (mailboxThen op r s chk run after) := by
  refine .next ?_
  split
  · exact h
  · exact .ite (.ite (ha _ _ (.finish h (hr _))) (.finish h (hr _))) h.respond

theorem State.Canonical.snapTake {s : State} (h : s.Canonical) : s.snapTake.Canonical :=
  .ite h.onHif h

theorem State.Canonical.sees {slots : BitVec 8} {s : State} (h : s.Canonical) : (s.sees slots).Canonical :=
  h.onHif

theorem State.Canonical.answerDeferred {p : DeferKind → Bool} {ws : DeferKind → List Word} {s : State} (h : s.Canonical) :
    (s.answerDeferred p ws).Canonical :=
  .foldl (fun _ _ h => h.respond) h.onHif

/-! ## Staging, the journal and the publish of an epoch (04 R137 to R141; 14 R497 to R501) -/

theorem State.Canonical.stageBy {op : Nat} {r : Req} {f : Cfg → Cfg} {s : State} (h : s.Canonical) (hf : KeepsSorted f) :
    (s.stageBy op r f).Canonical :=
  h.onStg_sorted h.cur h.prev (hf _ h.staged) h.imm

/-- A new segment takes the next number; no segment is open before. -/
theorem State.Canonical.openSegment {b : Bool} {s : State} (h : s.Canonical) (hopen : s.img.open_ = none) :
    (s.openSegment b).Canonical := by
  obtain ⟨hpair, hlt⟩ := h.journal
  simp only [hopen, Option.toList_none, List.append_nil] at hpair hlt
  unfold State.openSegment
  refine h.onImg_ordered ⟨?_, ?_⟩
  · simp only [Option.toList_some, List.map_append, List.map_cons, List.map_nil]
    refine List.pairwise_append.mpr ⟨hpair, List.pairwise_singleton _ _, ?_⟩
    simpa using hlt
  · simp only [Option.toList_some, List.mem_append, List.mem_singleton]
    rintro g (hg | rfl)
    · exact Nat.lt_succ_of_lt (hlt g hg)
    · exact Nat.lt_succ_self _

/-- Segments that keep their numbers and places keep their order. -/
theorem Img.Ordered.map_segs {m : Img} (h : m.Ordered) {f : Segment → Segment} (hf : ∀ g, (f g).number = g.number) :
    Img.Ordered { m with segs := m.segs.map f } := by
  obtain ⟨hpair, hlt⟩ := h
  constructor
  · simpa [Function.comp_def, hf] using hpair
  · intro g hg
    rcases List.mem_append.mp hg with hg | hg
    · obtain ⟨x, hx, rfl⟩ := List.mem_map.mp hg
      rw [hf]
      exact hlt x (List.mem_append_left _ hx)
    · exact hlt g (List.mem_append_right _ hg)

/-- The open segment joins the others, as a seal begins or a reset ends it. -/
theorem Img.Ordered.close {m : Img} (h : m.Ordered) {f : Segment → Segment} (hf : ∀ g, (f g).number = g.number) :
    Img.Ordered { m with open_ := none, segs := m.segs ++ m.open_.toList.map f } := by
  obtain ⟨hpair, hlt⟩ := h
  constructor
  · simpa [Function.comp_def, hf] using hpair
  · intro g hg
    simp only [Option.toList_none, List.append_nil] at hg
    rcases List.mem_append.mp hg with hg | hg
    · exact hlt g (List.mem_append_left _ hg)
    · obtain ⟨x, hx, rfl⟩ := List.mem_map.mp hg
      rw [hf]
      exact hlt x (List.mem_append_right _ hx)

/-- Segments that are dropped leave the others in order. -/
theorem Img.Ordered.sublist {m : Img} (h : m.Ordered) {l : List Segment} (hl : l.Sublist m.segs) :
    Img.Ordered { m with segs := l } :=
  ⟨h.1.sublist ((hl.append_right _).map _), fun g hg => h.2 g ((hl.append_right _).subset hg)⟩

theorem State.Canonical.sealDone {s : State} (h : s.Canonical) : s.sealDone.Canonical :=
  h.onImg_ordered (Img.Ordered.map_segs h.journal fun g => by split <;> rfl)

theorem State.Canonical.sealBegin {s : State} (h : s.Canonical) : s.sealBegin.Canonical := by
  unfold State.sealBegin
  split
  · exact h.saveLife
  · rename_i g hg
    have hclose := Img.Ordered.close (m := s.img) h.journal (f := fun g => { g with sealing := true }) fun _ => rfl
    rw [hg] at hclose
    exact h.saveLife.onImg_ordered hclose

theorem State.Canonical.sealNow {s : State} (h : s.Canonical) : s.sealNow.Canonical :=
  h.sealBegin.sealDone

/-- The open segment, if there is one, changes in what its number does not show. -/
theorem Img.Ordered.map_open {m : Img} (h : m.Ordered) {f : Segment → Segment} (hf : ∀ g, (f g).number = g.number) :
    Img.Ordered { m with open_ := m.open_.map f } := by
  obtain ⟨hpair, hlt⟩ := h
  cases hopen : m.open_ with
  | none => simpa [Img.Ordered, hopen] using And.intro hpair hlt
  | some g =>
    rw [hopen] at hpair hlt
    refine ⟨by simpa [hf] using hpair, fun x hx => ?_⟩
    rcases List.mem_append.mp hx with hx | hx
    · exact hlt x (List.mem_append_left _ hx)
    · obtain rfl : x = f g := by simpa using hx
      rw [hf]
      exact hlt g (by simp)

theorem State.Canonical.appendRecord {s : State} {rec : List Word} (h : s.Canonical) : (s.appendRecord rec).Canonical := by
  unfold State.appendRecord
  extract_lets full t u
  have ht : t.Canonical := .onIf (fun _ h => h.sealNow) h
  have hu : u.Canonical := by
    dsimp only [u]
    split
    · exact ht
    · rename_i hopen
      exact ht.openSegment hopen
  exact hu.onImg_ordered (Img.Ordered.map_open hu.journal fun _ => rfl)

theorem State.Canonical.checkpoint {s : State} (h : s.Canonical) : s.checkpoint.Canonical := by
  unfold State.checkpoint
  extract_lets n t u
  have ht : t.Canonical := by
    refine State.Canonical.openSegment (h.onImg_ordered ?_) rfl
    exact ⟨h.journal.1.sublist (by simp), fun g hg => h.journal.2 g (List.mem_append_left _ (by simpa using hg))⟩
  have hu : u.Canonical := State.Canonical.sealNow (.foldl (fun _ _ h => h.appendRecord) ht)
  exact hu.onImg_ordered (Img.Ordered.sublist hu.journal List.filter_sublist)

theorem State.Canonical.appendJournal {recs : List (List Word)} {s : State} (h : s.Canonical) :
    (s.appendJournal recs).Canonical := by
  unfold State.appendJournal
  refine .ite ?_ ?_
  · exact .onIf (fun _ h => h.checkpoint) (.foldl (fun _ _ h => h.appendRecord) h)
  · exact h

theorem State.Canonical.setImm {op : Nat} {r : Req} {f : Cfg → Cfg} {s : State} (h : s.Canonical) (hf : KeepsSorted f) :
    (s.setImm op r f).Canonical :=
  State.Canonical.appendJournal (h.onStg_sorted h.cur h.prev h.staged (hf _ h.imm))

theorem State.Canonical.carryZones {old : Cfg} {s : State} (h : s.Canonical) : (s.carryZones old).Canonical := by
  dsimp only [State.carryZones]
  exact h.onFlo

theorem State.Canonical.dropReplaced {s : State} (h : s.Canonical) : s.dropReplaced.Canonical := by
  dsimp only [State.dropReplaced]
  exact .onTbl (.foldl (fun _ _ h => h.onCell) h)

theorem State.Canonical.settleCommit {s : State} (h : s.Canonical) : s.settleCommit.Canonical :=
  .ite h.onHif.dropReplaced.irq.answerDeferred h

/-- A publish of a configuration whose keys rise; the one before it was CURRENT. -/
theorem State.Canonical.publish {on : Bool} {cfg : Cfg} {cmds : List (List Word)} {s : State} (h : s.Canonical)
    (hc : tabSorted cfg = true) : (s.publish on cfg cmds).Canonical :=
  .settleCommit <| .carryZones <| .onImg <| .foldl (fun _ _ h => .ite h.startWake h) <| .appendJournal <| .onHif <|
    h.onStg_sorted hc h.cur h.staged h.imm

/-! ## Ports as the configuration has them -/

theorem State.Canonical.parkPort {p : Nat} {s : State} (h : s.Canonical) : (s.parkPort p).Canonical :=
  h.onPort

theorem State.Canonical.parkPorts {old : Cfg} {s : State} (h : s.Canonical) : (s.parkPorts old).Canonical :=
  .foldl (fun _ _ h => h.parkPort) h

/-! ## Records of the flow store (09) -/

theorem State.Canonical.setRec {h : Nat} {r : Rec} {s : State} (hs : s.Canonical) : (s.setRec h r).Canonical :=
  hs.onFlo

theorem State.Canonical.onRec {h : Nat} {f : Rec → Rec} {s : State} (hs : s.Canonical) : (s.onRec h f).Canonical := by
  unfold State.onRec
  split
  · exact hs.setRec
  · exact hs

theorem State.Canonical.moveRec {v alt : Nat} {s : State} (h : s.Canonical) : (s.moveRec v alt).Canonical := by
  unfold State.moveRec
  split
  · exact h.onFlo.bump.onPrg
  · exact h

theorem State.Canonical.placeFor {k : FKey} {s : State} (h : s.Canonical) : (s.placeFor k).2.Canonical := by
  dsimp only [State.placeFor]
  split
  · exact .snd h
  · exact .snd h
  · split
    · exact .snd (.foldl (fun _ _ h => h.moveRec) h)
    · exact .snd h

theorem State.Canonical.countRefusal {e z st : Nat} {s : State} (h : s.Canonical) : (s.countRefusal e z st).Canonical :=
  .ite h.bump.bump (.ite h.bump.bump h.bump)

theorem State.Canonical.createRec {e : Nat} {r : Rec} {s : State} (h : s.Canonical) : (s.createRec e r).2.Canonical := by
  unfold State.createRec
  refine .snd_ite (.snd h.countRefusal) ?_
  split
  · rename_i heq
    exact .snd h.countRefusal
  · rename_i heq
    exact .snd (h.placeFor.of_mk heq).setRec.onFlo.bump.bump

theorem State.Canonical.sendCoh {kind h : Nat} {mask : BitVec 8} {s : State} (hs : s.Canonical) :
    (s.sendCoh kind h mask).Canonical :=
  hs.onFlo.bump

theorem State.Canonical.lockFor {kind h : Nat} {why : LockWhy} {s : State} (hs : s.Canonical) :
    (s.lockFor kind h why).Canonical := by
  unfold State.lockFor
  split
  · exact hs
  · exact hs.sendCoh.onFlo

theorem State.Canonical.natFree {e : Nat} {w : Word} {s : State} (h : s.Canonical) : (s.natFree e w).Canonical :=
  .ite h.onPrg.bump h.bump

theorem State.Canonical.natRelease {e natWord : Nat} {ws : List Word} {s : State} (h : s.Canonical) :
    (s.natRelease e natWord ws).Canonical :=
  .ite h.natFree h

theorem State.Canonical.queueExport {event : Bool} {e : Nat} {x : Export} {s : State} (h : s.Canonical) :
    (s.queueExport event e x).Canonical :=
  .ite h.bump h.onFlo

theorem State.Canonical.countFlush {z : Nat} {s : State} (h : s.Canonical) : (s.countFlush z).Canonical :=
  h.onHif

theorem State.Canonical.evict {h reason : Nat} {s : State} (hs : s.Canonical) : (s.evict h reason).Canonical := by
  unfold State.evict
  split
  · exact hs
  · exact .onIf (fun _ h => h.countFlush) (.bump (.natRelease (.onIf (fun _ h => h.queueExport) (.onIf (fun _ h => h.queueExport) hs.onFlo))))

theorem State.Canonical.evictSoon {h reason : Nat} {s : State} (hs : s.Canonical) : (s.evictSoon h reason).Canonical := by
  unfold State.evictSoon
  split
  · exact hs
  · exact .ite hs.evict hs.lockFor

theorem State.Canonical.quarantine {access who h : Nat} {s : State} (hs : s.Canonical) :
    (s.quarantine access who h).Canonical := by
  unfold State.quarantine
  split
  · exact hs
  · exact .ite hs hs.setRec.sendCoh.bump.onFlo.raise

/-! ## Status and duty (16; 01 R30) -/

theorem State.Canonical.dutyPlace {s t : State} (h : s.Canonical) (e : s.dutyPlace = some t) : t.Canonical := by
  unfold State.dutyPlace at e
  split at e
  · cases e; exact h
  · obtain ⟨c, _, rfl⟩ := Option.map_eq_some_iff.mp e
    exact h.startWake

/-- A place for a cell that is already out of duty, or that needs one. -/
theorem State.Canonical.dutyPlaceIf {b : Bool} {s t : State} (h :
    s.Canonical) (e : (if b then some s else s.dutyPlace) = some t) :
    t.Canonical := by
  split at e
  · cases e; exact h
  · exact h.dutyPlace e

/-! ## The policy in force (14 R496) -/

theorem State.Canonical.setQuotas {s : State} (h : s.Canonical) : s.setQuotas.Canonical := by
  dsimp only [State.setQuotas]
  exact h.onBpm

theorem State.Canonical.usePolicy {b : Nat} {g : Slot} {s : State} (h : s.Canonical) : (s.usePolicy b g).Canonical :=
  h.onImg.setQuotas

theorem State.Canonical.noPolicy {s : State} (h : s.Canonical) : s.noPolicy.Canonical :=
  h.onImg.setQuotas

theorem State.Canonical.fuseWrong {did : Bool} {s : State} (h : s.Canonical) : (s.fuseWrong did).Canonical :=
  .onIf (fun _ h => h.raise) h

theorem State.Canonical.commitPolicy {b : Burn} {s : State} (h : s.Canonical) : (s.commitPolicy b).Canonical := by
  unfold State.commitPolicy
  split
  · exact h
  · exact h.usePolicy.onImg.onSec.fuseWrong

/-! ## Resets and the loss of power (03 R95 to R103; 02 R71) -/

theorem State.Canonical.dropStore {s : State} (h : s.Canonical) : s.dropStore.Canonical := by
  dsimp only [State.dropStore]
  exact h.congr

theorem State.Canonical.keepStore {s : State} (h : s.Canonical) : s.keepStore.Canonical := by
  dsimp only [State.keepStore]
  exact h.congr

theorem State.Canonical.resetFlt {s : State} (h : s.Canonical) : s.resetFlt.Canonical :=
  h.onFlt

theorem State.Canonical.resetHif {keepMsix : Bool} {s : State} (h : s.Canonical) : (s.resetHif keepMsix).Canonical :=
  h.onHif

theorem State.Canonical.resetJournal {s : State} (h : s.Canonical) : s.resetJournal.Canonical := by
  refine h.onImg_ordered ?_
  have hclose := Img.Ordered.map_segs (f := fun g => { g with sealing := false })
    (Img.Ordered.close h.journal (f := id) fun _ => rfl) fun _ => rfl
  cases hopen : s.img.open_ <;> simpa [hopen] using hclose

theorem State.Canonical.resetDomains {keepMsix keep : Bool} {s : State} (h : s.Canonical) :
    (s.resetDomains keepMsix keep).Canonical := by
  have ht : (if keep then s.keepStore else s.dropStore).Canonical := .ite h.keepStore h.dropStore
  refine State.Canonical.resetJournal (.resetHif (.resetFlt ?_))
  exact { ports := rfl, cells := rfl, counters := rfl, cur := rfl, prev := rfl, staged := rfl, imm := rfl, journal := ht.journal }

theorem State.Canonical.endTrial {s : State} (h : s.Canonical) : s.endTrial.Canonical :=
  .ite h.onImg.raise h

theorem State.Canonical.pmuDrop {gone : Nat → Bool} {s : State} (h : s.Canonical) : (s.pmuDrop gone).Canonical :=
  h.onPmu

theorem State.Canonical.applyReset {k : ResetKind} {back : ModState} {keep : Bool} {s : State} (h : s.Canonical) :
    (s.applyReset k back keep).Canonical :=
  .ite h.resetDomains.onCrn.onTim.onSec h.resetDomains.onCrn.onTim

theorem State.Canonical.beginReset {k : ResetKind} {s : State} (h : s.Canonical) : (s.beginReset k).Canonical :=
  .ite h.onCrn.onHif h.applyReset

theorem State.Canonical.dropUnsealed {s : State} (h : s.Canonical) : s.dropUnsealed.Canonical :=
  .ite (.raise (h.onImg_ordered (Img.Ordered.sublist h.journal (List.takeWhile_sublist _)))) h

theorem State.Canonical.powerOff {s : State} (h : s.Canonical) : s.powerOff.Canonical :=
  { ports := rfl, cells := rfl, counters := rfl, cur := rfl, prev := rfl, staged := rfl, imm := rfl,
    journal := h.resetJournal.journal }

theorem Res.Canonical.interruptBurn {b : Burn} {s : State} {x : Res} (h : s.Canonical) (hx : Res.Canonical x) :
    Res.Canonical (interruptBurn b s x) := by
  unfold Sys2Proof.Machine.interruptBurn
  split
  · split
    · exact .next (State.Canonical.powerOff h.congr)
    · exact hx
  · exact hx

/-! ## Sessions, commits and snapshots (04 R134 to R146) -/

theorem execSessionOpen_canonical {r : Req} {s : State} (h : s.Canonical) : Res.Canonical (execSessionOpen r s) :=
  .mailbox h fun _ => .ite (.mk h) (.ite (.mk h) (.mk h.onHif))

theorem State.Canonical.closeSessions {p : Session → Bool} {s : State} (h : s.Canonical) : (s.closeSessions p).Canonical :=
  h.onHif

theorem execSessionClose_canonical {r : Req} {s : State} (h : s.Canonical) : Res.Canonical (execSessionClose r s) :=
  .mailbox h fun _ => .mk h.closeSessions

theorem execCommit_canonical {r : Req} {b : Burn} {s : State} (h : s.Canonical) : Res.Canonical (execCommit r b s) :=
  .interruptBurn h <| .mailbox h fun _ => by
    dsimp only
    split
    · exact .mk h
    · split
      · exact .mk h
      · exact .mk (.onCrn (.onIf (fun _ h => h.parkPorts) (.onStg (h.commitPolicy.publish h.staged))))

theorem execEpochStatus_canonical {r : Req} {s : State} (h : s.Canonical) : Res.Canonical (execEpochStatus r s) :=
  .mailbox h fun _ => .mk h

theorem State.Canonical.discardStaged {s : State} (h : s.Canonical) : s.discardStaged.Canonical :=
  .onImg (h.onStg_sorted h.cur h.prev h.cur h.imm)

theorem execStageDiscard_canonical {r : Req} {s : State} (h : s.Canonical) : Res.Canonical (execStageDiscard r s) :=
  .mailbox h fun _ => .mk h.discardStaged

theorem execStatsSnapshot_canonical {r : Req} {s : State} (h : s.Canonical) : Res.Canonical (execStatsSnapshot r s) :=
  .mailbox h fun _ => .mk h.onHif

theorem execSnapshotDone_canonical {slots : BitVec 8} {s0 : State} (h : s0.Canonical) :
    Res.Canonical (execSnapshotDone slots s0) := by
  refine .next ?_
  split
  · exact h.sees.snapTake.congr.onHif.irq.answerDeferred
  · exact h.sees.snapTake

theorem execUnknownOpcode_canonical {op : Nat} {r : Req} {s : State} (h : s.Canonical) :
    Res.Canonical (execUnknownOpcode op r s) := by
  unfold execUnknownOpcode
  split
  · exact .next h
  · exact .mailbox h fun _ => .mk h

/-! ## Rings and buffers (05) -/

theorem State.Canonical.bpmAlloc {r size : Nat} {s : State} (h : s.Canonical) : (s.bpmAlloc r size).2.2.Canonical := by
  unfold State.bpmAlloc
  split
  · exact .snd h
  · split
    · exact .snd h
    · exact .snd h.drawNat.onBpm

theorem State.Canonical.bpmRelease {k : Nat} {s : State} (h : s.Canonical) : (s.bpmRelease k).Canonical :=
  h.onBpm

theorem State.Canonical.bpmRefusal {h : Word} {r : Nat} {own : Bool} {s : State} (hs : s.Canonical) :
    (s.bpmRefusal h r own).Canonical :=
  hs.kindEvent

theorem State.Canonical.bpmFree {r : Nat} {h : Word} {own : Bool} {s : State} (hs : s.Canonical) :
    (s.bpmFree r h own).2.Canonical := by
  unfold State.bpmFree
  refine .snd_ite ?_ ?_
  · exact .snd hs.bpmRelease
  · exact .snd hs.bpmRefusal

theorem State.Canonical.bpmTransfer {r dst : Nat} {h : Word} {own : Bool} {s : State} (hs : s.Canonical) :
    (s.bpmTransfer r dst h own).2.2.Canonical := by
  unfold State.bpmTransfer
  split
  · exact .snd hs
  · split
    · exact .snd hs.bpmRefusal
    · split
      · exact .snd hs
      · exact .snd hs.onBpm

theorem State.Canonical.bufferBytes {s : State} {k off n : Nat} (h : s.Canonical) : (s.bufferBytes k off n).2.Canonical :=
  .snd h.drawNat

theorem State.Canonical.bufferWrite {k off : Nat} {b : List Byte} {s : State} (h : s.Canonical) :
    (s.bufferWrite k off b).Canonical :=
  h.onBpm

theorem State.Canonical.access {off : Nat} {f : State → State} {s : State} (hf : ∀ t : State, t.Canonical → (f t).Canonical)
    (h : s.Canonical) : (s.access off f).Canonical :=
  .ite (hf _ h.pmuEvent) h

theorem execBpmAllocReq_canonical {q : Fin 32} {v : Word} {s : State} (h : s.Canonical) : Res.Canonical (execBpmAllocReq q v s) :=
  .next (.access (fun _ h => h.bpmAlloc.onBpm) h)

theorem execBpmFree_canonical {q : Fin 32} {v : Word} {own : Bool} {s : State} (h : s.Canonical) :
    Res.Canonical (execBpmFree q v own s) :=
  .next (.access (fun _ h => h.bpmFree.onBpm) h)

theorem execBpmXfer_canonical {q : Fin 32} {v : Word} {own : Bool} {s : State} (h : s.Canonical) :
    Res.Canonical (execBpmXfer q v own s) :=
  .next (.access (fun _ h => h.bpmTransfer.onBpm) h)

theorem State.Canonical.punt {c port reason : Nat} {data : List Byte} {ts : Nat} {s : State} (h : s.Canonical) :
    (s.punt c port reason data ts).Canonical := by
  unfold State.punt
  refine .ite h.bump ?_
  refine .ite ?_ ?_
  · exact h.onRng.bump
  · exact .ite h.onRng.bump h.onRng.bpmAlloc.bufferWrite.onRng

theorem State.Canonical.endPunt {p : Punt} {s : State} (h : s.Canonical) : (s.endPunt p).Canonical :=
  h.bpmRelease.onRng

theorem execFirmwarePuntReceive_canonical {c : Fin 64} {s : State} (h : s.Canonical) :
    Res.Canonical (execFirmwarePuntReceive c s) := by
  refine .next ?_
  split
  · exact .ite h.endPunt h
  · exact h

theorem State.Canonical.cqStall {q : Nat} {s : State} (h : s.Canonical) : (s.cqStall q).Canonical :=
  .ite h.onRng.raise h

theorem State.Canonical.cqResume {q : Nat} {s : State} (h : s.Canonical) : (s.cqResume q).Canonical :=
  .ite h.onRng h

theorem State.Canonical.cqFlush {q n : Nat} {s : State} (h : s.Canonical) : (s.cqFlush q n).Canonical :=
  .ite (.cqResume (.onRing (.foldl (fun _ _ h => h.writeEntry) h))) h

theorem State.Canonical.scanRing {i : Nat} {entries : List (List Word)} {s : State} (h : s.Canonical) :
    (s.scanRing i entries).Canonical :=
  .ite h (.ite h.onRing h.onRing)

theorem State.Canonical.rescan {l : List Scan} {s : State} (h : s.Canonical) : (s.rescan l).Canonical :=
  .foldl (fun _ _ h => .ite h.scanRing h) h

theorem State.Canonical.finishDesc {i slot status len : Nat} {ts : Option Nat} {s : State} (h : s.Canonical) :
    (s.finishDesc i slot status len ts).Canonical :=
  h.onRing

theorem State.Canonical.busError {access addr : Nat} {s : State} (h : s.Canonical) : (s.busError access addr).Canonical :=
  h.raise

theorem State.Canonical.flushNext {i : Nat} {s : State} (h : s.Canonical) : (s.flushNext i).Canonical := by
  dsimp only [State.flushNext]
  split
  · exact .ite h.onRing.cqStall h
  · exact h

theorem execDescriptorDone_canonical {i : Fin 512} {own evOwn : Bool} {scans : List Scan} {s0 : State} (h : s0.Canonical) :
    Res.Canonical (execDescriptorDone i own evOwn scans s0) := by
  refine .next (.rescan ?_)
  split
  · exact h.flushNext
  · refine .ite h.flushNext ?_
    refine .ite (.cqResume (.onRing (.onIf (fun _ h => h.bpmFree) h.flushNext))) ?_
    refine .ite ?_ ?_
    · exact .cqResume (.writeEntry (.onRing (.hostWrite (.onIf (fun _ h => h.bpmFree) h.flushNext))))
    · exact .cqStall (.onRing (.onRing (.hostWrite (.onIf (fun _ h => h.bpmFree) h.flushNext))))

theorem execCompletionDoorbell_canonical {q : Fin 64} {free : Nat} {scans : List Scan} {s : State} (h : s.Canonical) :
    Res.Canonical (execCompletionDoorbell q free scans s) :=
  .next (.access (fun _ h => h.cqFlush.rescan) h)

theorem State.Canonical.eqFlush {q n : Nat} {s : State} (h : s.Canonical) : (s.eqFlush q n).Canonical := by
  unfold State.eqFlush
  refine .ite ?_ ?_
  · exact .onRing (.foldl (fun _ _ h => h.writeEvent) (.onIf (fun _ h => h.writeEvent.onRing) h))
  · exact h

theorem execEventDoorbell_canonical {q : Fin 32} {free : Nat} {s : State} (h : s.Canonical) :
    Res.Canonical (execEventDoorbell q free s) :=
  .next (.access (fun _ h => h.eqFlush) h)

theorem execStallReread_canonical {i : Fin 96} {free : Nat} {scans : List Scan} {s : State} (h : s.Canonical) :
    Res.Canonical (execStallReread i free scans s) :=
  .next (.ite (.ite h.cqFlush.rescan h) (.ite h.eqFlush h))

theorem execHoldoffExpiry_canonical {i : Fin 96} {s : State} (h : s.Canonical) : Res.Canonical (execHoldoffExpiry i s) :=
  .next (.ite h.onRing.signalRing h.onRing)

theorem State.Canonical.ringDisable {i : Nat} {s : State} (h : s.Canonical) : (s.ringDisable i).Canonical := by
  unfold State.ringDisable
  refine .ite (.ite h.onRing h.onRing) ?_
  refine .ite ?_ ?_
  · exact .ite h.onRing.onFlt h.onRing
  · exact .ite (.foldl (fun _ _ h => h.endPunt.bump) h.onRing) h.onRing

theorem execRingCtrlWrite_canonical {i : Fin 608} {v : Word} {s : State} (h : s.Canonical) :
    Res.Canonical (execRingCtrlWrite i v s) := by
  refine .next (.access (fun _ h => ?_) h)
  refine .ite ?_ ?_
  · exact .ite h.onRing h.onRing.ringDisable
  · exact .ite h.onRing.onRing.onRing h.onRing.onRing

theorem execRingIdle_canonical {i : Fin 608} {s : State} (h : s.Canonical) : Res.Canonical (execRingIdle i s) :=
  .next (.ite h.onRing h)

theorem execRingDoorbell_canonical {i : Fin 512} {entries : List (List Word)} {s : State} (h : s.Canonical) :
    Res.Canonical (execRingDoorbell i entries s) :=
  .next (.access (fun _ h => h.scanRing) h)

theorem execRingInval_canonical {v : Word} {s : State} (h : s.Canonical) : Res.Canonical (execRingInval v s) :=
  .next (.access (fun _ h => .ite h.onRng h) h)

theorem execInvalidationDone_canonical {s : State} (h : s.Canonical) : Res.Canonical (execInvalidationDone s) :=
  .next (.ite h h.onRing.onRng)

theorem State.Canonical.fillDescs {i : Nat} {p : Punt} {busOk : Bool} {l : List Desc} {sent : Nat} {s : State} (h : s.Canonical) :
    (fillDescs i p busOk l sent s).1.Canonical := by
  induction l generalizing sent s with
  | nil => exact h
  | cons d l ih =>
    dsimp only [Machine.fillDescs]
    repeat' split
    · exact h
    · exact ih h.onRing.cqStall
    · exact ih h.onRing.cqStall
    · exact ih h.onRing.cqStall
    · exact h.onRing.cqStall.busError
    · exact h.onRing.cqStall.hostPut
    · exact ih h.onRing.cqStall.hostPut

theorem execPuntDelivery_canonical {q : Fin 256} {busOk : Bool} {scans : List Scan} {s : State} (h : s.Canonical) :
    Res.Canonical (execPuntDelivery q busOk scans s) := by
  refine .next ?_
  split
  · exact h
  · exact .ite h (.rescan (.ite h.fillDescs.endPunt h.fillDescs.onRng))

theorem execRingSetService_canonical {r : Req} {s : State} (h : s.Canonical) : Res.Canonical (execRingSetService r s) :=
  .mailbox h fun _ => .mk h.onRing

theorem execRingPuntMap_canonical {r : Req} {s : State} (h : s.Canonical) : Res.Canonical (execRingPuntMap r s) :=
  .mailbox h fun _ => by
    split
    · exact .mk h
    · exact .mk (h.stageBy (.foldl fun _ => .cfgSet))

theorem execRingEventRoute_canonical {r : Req} {s : State} (h : s.Canonical) : Res.Canonical (execRingEventRoute r s) :=
  .mailbox h fun _ => .mk h.onRng

theorem execRingPuntLimit_canonical {r : Req} {s : State} (h : s.Canonical) : Res.Canonical (execRingPuntLimit r s) :=
  .mailbox h fun _ => .mk h.onRng

/-! ## Flow programs (10) -/

theorem State.Canonical.writeOp {n : Nat} {v : Word} {p : Exec} (h : p.2.Canonical) : (writeOp n v p).2.Canonical := by
  unfold Machine.writeOp
  refine .snd_ite ?_ ?_
  · split
    · exact .snd h.onRec
    · exact h
  · refine .snd_ite (.snd h) ?_
    refine .snd_ite ?_ ?_
    · exact .snd h
    · exact h

theorem State.Canonical.skipBy {n : Nat} {p : Exec} (h : p.2.Canonical) : (skipBy n p).2.Canonical :=
  .snd h

theorem State.Canonical.endRun {p : Exec} (h : p.2.Canonical) : (endRun p).2.Canonical := by
  unfold Machine.endRun
  refine .snd ?_
  split
  · exact h.onRec
  · exact h

theorem State.Canonical.countProg {e i : Nat} {p : Exec} (h : p.2.Canonical) : (countProg e i p).2.Canonical :=
  .snd h.bump

theorem State.Canonical.instrSkip {w : Word} {p : Exec} (h : p.2.Canonical) : (instrSkip w p).2.Canonical := by
  unfold Machine.instrSkip
  refine .snd_ite ?_ ?_
  · exact h.skipBy
  · exact h

theorem State.Canonical.instrSkipi {w : Word} {p : Exec} (h : p.2.Canonical) : (instrSkipi w p).2.Canonical := by
  unfold Machine.instrSkipi
  refine .snd_ite ?_ ?_
  · exact h.skipBy
  · exact h

theorem State.Canonical.instrAdd {w : Word} {p : Exec} (h : p.2.Canonical) : (instrAdd w p).2.Canonical :=
  h.writeOp

theorem State.Canonical.instrSadd {w : Word} {p : Exec} (h : p.2.Canonical) : (instrSadd w p).2.Canonical :=
  h.writeOp

theorem State.Canonical.instrMin {w : Word} {p : Exec} (h : p.2.Canonical) : (instrMin w p).2.Canonical :=
  h.writeOp

theorem State.Canonical.instrMax {w : Word} {p : Exec} (h : p.2.Canonical) : (instrMax w p).2.Canonical :=
  h.writeOp

theorem State.Canonical.instrLdi {w : Word} {p : Exec} (h : p.2.Canonical) : (instrLdi w p).2.Canonical :=
  h.writeOp

theorem State.Canonical.instrExt {w : Word} {p : Exec} (h : p.2.Canonical) : (instrExt w p).2.Canonical :=
  h.writeOp

theorem State.Canonical.instrIns {w : Word} {p : Exec} (h : p.2.Canonical) : (instrIns w p).2.Canonical :=
  h.writeOp

theorem State.Canonical.instrKeyx {w : Word} {p : Exec} (h : p.2.Canonical) : (instrKeyx w p).2.Canonical :=
  h.writeOp

theorem State.Canonical.instrTs {w : Word} {p : Exec} (h : p.2.Canonical) : (instrTs w p).2.Canonical :=
  h.writeOp

theorem State.Canonical.instrSetsc {w : Word} {p : Exec} (h : p.2.Canonical) : (instrSetsc w p).2.Canonical := by
  unfold Machine.instrSetsc
  split
  · exact h
  · exact .snd h.onRec

theorem State.Canonical.instrMeter {e : Nat} {w : Word} {p : Exec} (h : p.2.Canonical) : (instrMeter e w p).2.Canonical := by
  dsimp only [Machine.instrMeter]
  split
  · exact h.writeOp
  · exact h.writeOp.writeOp.writeOp.countProg

theorem State.Canonical.instrNatalloc {e : Nat} {w : Word} {p : Exec} (h : p.2.Canonical) :
    (instrNatalloc e w p).2.Canonical := by
  dsimp only [Machine.instrNatalloc]
  split
  · exact h.writeOp.writeOp
  · split
    · exact h.endRun.countProg
    · exact .countProg (.writeOp (.writeOp (.snd h.onPrg)))

theorem State.Canonical.instrNatfree {e : Nat} {w : Word} {p : Exec} (h : p.2.Canonical) : (instrNatfree e w p).2.Canonical :=
  .snd h.natFree

theorem State.Canonical.instrLbsel {e : Nat} {w : Word} {p : Exec} (h : p.2.Canonical) : (instrLbsel e w p).2.Canonical := by
  dsimp only [Machine.instrLbsel]
  split
  · exact h.endRun.countProg
  · exact h.writeOp.writeOp.countProg

theorem State.Canonical.instrComp {e ctx : Nat} {w : Word} {p : Exec} (h : p.2.Canonical) :
    (instrComp e ctx w p).2.Canonical := by
  dsimp only [Machine.instrComp]
  refine .snd_ite h.countProg ?_
  split
  · exact .snd h
  · refine .snd_ite ?_ ?_
    · exact .snd h
    · exact .countProg (.snd h.onPrg.onFlo)

theorem State.Canonical.stage {stack : Nat} {r : List Word} {s t : State} (h : s.Canonical) (e : s.stage stack r = some t) :
    t.Canonical := by
  dsimp only [State.stage] at e
  split at e
  · split at e
    · cases e; exact h.bpmAlloc.onPrg
    · cases e
  · cases e; exact h.onPrg

theorem State.Canonical.instrEmit {e : Nat} {w : Word} {p : Exec} (h : p.2.Canonical) : (instrEmit e w p).2.Canonical := by
  unfold Machine.instrEmit
  refine .snd_ite h.countProg ?_
  split
  · exact h.countProg
  · rename_i heq
    exact .countProg (.snd (h.stage heq).onPrg)

theorem State.Canonical.instrSetact {w : Word} {p : Exec} (h : p.2.Canonical) : (instrSetact w p).2.Canonical :=
  h.writeOp

theorem State.Canonical.instrOf {e ctx : Nat} {w : Word} {p : Exec} (h : p.2.Canonical) : (instrOf e ctx w p).2.Canonical := by
  unfold Machine.instrOf
  split
  · exact h.instrSkip
  · exact h.instrSkipi
  · exact h.instrAdd
  · exact h.instrSadd
  · exact h.instrMin
  · exact h.instrMax
  · exact h.instrLdi
  · exact h.instrExt
  · exact h.instrIns
  · exact h.instrKeyx
  · exact h.instrTs
  · exact h.instrSetsc
  · exact h.instrMeter
  · exact h.instrNatalloc
  · exact h.instrNatfree
  · exact h.instrLbsel
  · exact h.instrComp
  · exact h.instrEmit
  · exact h.instrSetact
  · exact h

theorem State.Canonical.doInstr {e : Nat} {w : Word} {act : Exec → Exec} {p : Exec}
    (ha : ∀ q : Exec, q.2.Canonical → (act q).2.Canonical) (h : p.2.Canonical) : (doInstr e w act p).2.Canonical := by
  dsimp only [Machine.doInstr]
  refine .snd_ite ?_ ?_
  · exact .snd h
  · exact .snd (ha (_, _) (.snd h.bump.pmuEvent))

theorem State.Canonical.runFrom {c : Cfg} {e ctx n : Nat} {p : Exec} (h : p.2.Canonical) : (runFrom c e ctx n p).2.Canonical := by
  induction n generalizing p with
  | zero => exact h
  | succ n ih =>
    dsimp only [Machine.runFrom]
    split
    · exact h
    · exact ih (.doInstr (fun _ h => h.instrOf) h)

theorem State.Canonical.runProgram {c : Cfg} {e ctx : Nat} {x : Run} {s : State} (h : s.Canonical) :
    (runProgram c e ctx x s).2.Canonical :=
  .runFrom (.snd h.bump)

theorem State.Canonical.instrRow {e : Fin 128} {k : Fin 16} {op : Nat} {act : Exec → Exec} {w : Word} {s : State}
    (ha : ∀ q : Exec, q.2.Canonical → (act q).2.Canonical) (h : s.Canonical) : (s.instrRow e k op act w).Canonical :=
  .ite (.onPrg (.doInstr ha h)) h

theorem execSkip_canonical {e : Fin 128} {k : Fin 16} {w : Word} {s : State} (h : s.Canonical) :
    Res.Canonical (execSkip e k w s) :=
  .next (.instrRow (fun _ h => h.instrSkip) h)

theorem execSkipi_canonical {e : Fin 128} {k : Fin 16} {w : Word} {s : State} (h : s.Canonical) :
    Res.Canonical (execSkipi e k w s) :=
  .next (.instrRow (fun _ h => h.instrSkipi) h)

theorem execAdd_canonical {e : Fin 128} {k : Fin 16} {w : Word} {s : State} (h : s.Canonical) : Res.Canonical (execAdd e k w s) :=
  .next (.instrRow (fun _ h => h.instrAdd) h)

theorem execSadd_canonical {e : Fin 128} {k : Fin 16} {w : Word} {s : State} (h : s.Canonical) :
    Res.Canonical (execSadd e k w s) :=
  .next (.instrRow (fun _ h => h.instrSadd) h)

theorem execMin_canonical {e : Fin 128} {k : Fin 16} {w : Word} {s : State} (h : s.Canonical) : Res.Canonical (execMin e k w s) :=
  .next (.instrRow (fun _ h => h.instrMin) h)

theorem execMax_canonical {e : Fin 128} {k : Fin 16} {w : Word} {s : State} (h : s.Canonical) : Res.Canonical (execMax e k w s) :=
  .next (.instrRow (fun _ h => h.instrMax) h)

theorem execLdi_canonical {e : Fin 128} {k : Fin 16} {w : Word} {s : State} (h : s.Canonical) : Res.Canonical (execLdi e k w s) :=
  .next (.instrRow (fun _ h => h.instrLdi) h)

theorem execExt_canonical {e : Fin 128} {k : Fin 16} {w : Word} {s : State} (h : s.Canonical) : Res.Canonical (execExt e k w s) :=
  .next (.instrRow (fun _ h => h.instrExt) h)

theorem execIns_canonical {e : Fin 128} {k : Fin 16} {w : Word} {s : State} (h : s.Canonical) : Res.Canonical (execIns e k w s) :=
  .next (.instrRow (fun _ h => h.instrIns) h)

theorem execKeyx_canonical {e : Fin 128} {k : Fin 16} {w : Word} {s : State} (h : s.Canonical) :
    Res.Canonical (execKeyx e k w s) :=
  .next (.instrRow (fun _ h => h.instrKeyx) h)

theorem execTs_canonical {e : Fin 128} {k : Fin 16} {w : Word} {s : State} (h : s.Canonical) : Res.Canonical (execTs e k w s) :=
  .next (.instrRow (fun _ h => h.instrTs) h)

theorem execSetsc_canonical {e : Fin 128} {k : Fin 16} {w : Word} {s : State} (h : s.Canonical) :
    Res.Canonical (execSetsc e k w s) :=
  .next (.instrRow (fun _ h => h.instrSetsc) h)

theorem execMeter_canonical {e : Fin 128} {k : Fin 16} {w : Word} {s : State} (h : s.Canonical) :
    Res.Canonical (execMeter e k w s) :=
  .next (.instrRow (fun _ h => h.instrMeter) h)

theorem execNatalloc_canonical {e : Fin 128} {k : Fin 16} {w : Word} {s : State} (h : s.Canonical) :
    Res.Canonical (execNatalloc e k w s) :=
  .next (.instrRow (fun _ h => h.instrNatalloc) h)

theorem execNatfree_canonical {e : Fin 128} {k : Fin 16} {w : Word} {s : State} (h : s.Canonical) :
    Res.Canonical (execNatfree e k w s) :=
  .next (.instrRow (fun _ h => h.instrNatfree) h)

theorem execLbsel_canonical {e : Fin 128} {k : Fin 16} {w : Word} {s : State} (h : s.Canonical) :
    Res.Canonical (execLbsel e k w s) :=
  .next (.instrRow (fun _ h => h.instrLbsel) h)

theorem execComp_canonical {e : Fin 128} {k : Fin 16} {w : Word} {s : State} (h : s.Canonical) :
    Res.Canonical (execComp e k w s) :=
  .next (.instrRow (fun _ h => h.instrComp) h)

theorem execEmit_canonical {e : Fin 128} {k : Fin 16} {w : Word} {s : State} (h : s.Canonical) :
    Res.Canonical (execEmit e k w s) :=
  .next (.instrRow (fun _ h => h.instrEmit) h)

theorem execSetact_canonical {e : Fin 128} {k : Fin 16} {w : Word} {s : State} (h : s.Canonical) :
    Res.Canonical (execSetact e k w s) :=
  .next (.instrRow (fun _ h => h.instrSetact) h)

theorem execProgLoad_canonical {r : Req} {s : State} (h : s.Canonical) : Res.Canonical (execProgLoad r s) :=
  .mailbox h fun _ => .mk (h.stageBy .setProg)

theorem execProgRead_canonical {r : Req} {s : State} (h : s.Canonical) : Res.Canonical (execProgRead r s) :=
  .mailbox h fun _ => .ite (.mk h) (.ite (.mk h) (.mk h))

theorem execProgMeterSet_canonical {r : Req} {s : State} (h : s.Canonical) : Res.Canonical (execProgMeterSet r s) :=
  .mailbox h fun _ => .mk (h.stageBy .setProgMeter)

theorem execProgPoolSet_canonical {r : Req} {s : State} (h : s.Canonical) : Res.Canonical (execProgPoolSet r s) :=
  .mailbox h fun _ => .ite (.mk h) (.mk (h.stageBy .setPool))

theorem execProgPoolStatus_canonical {r : Req} {s : State} (h : s.Canonical) : Res.Canonical (execProgPoolStatus r s) :=
  .mailbox h fun _ => by
    dsimp only
    split <;> exact .mk h

theorem execProgGroupSet_canonical {r : Req} {s : State} (h : s.Canonical) : Res.Canonical (execProgGroupSet r s) :=
  .mailbox h fun _ => .ite (.mk h) (.mk (.onStg (h.stageBy .setLbGroup)))

theorem execProgEmitSet_canonical {r : Req} {s : State} (h : s.Canonical) : Res.Canonical (execProgEmitSet r s) :=
  .mailbox h fun _ => .mk (h.setImm .setEmit)

theorem execProgStatsRead_canonical {r : Req} {s : State} (h : s.Canonical) : Res.Canonical (execProgStatsRead r s) :=
  .mailbox h fun _ => .mk h

theorem State.Canonical.sendIpfix {templates : List (Nat × Nat × List IpfixField)} {records : List (List Word)} {s : State}
    (h : s.Canonical) : (s.sendIpfix templates records).Canonical := by
  unfold State.sendIpfix
  split
  · exact h.emit
  · exact h

theorem execIpfixExport_canonical {stack : Fin 4} {s : State} (h : s.Canonical) : Res.Canonical (execIpfixExport stack s) := by
  refine .next ?_
  split
  · exact h
  · refine .ite h (.ite ?_ h.sendIpfix.onPrg)
    split
    · exact h.sendIpfix.onPrg.bpmRelease
    · exact h.sendIpfix.onPrg

theorem execIpfixTemplateTimer_canonical {s : State} (h : s.Canonical) : Res.Canonical (execIpfixTemplateTimer s) :=
  .next (.ite h.sendIpfix h)

/-! ## Frames and their copies (07; 11) -/

theorem State.Canonical.onFrame {fid : Nat} {f : Frame → Frame} {s : State} (h : s.Canonical) : (s.onFrame fid f).Canonical := by
  unfold State.onFrame
  split
  · exact h.onFrm
  · exact h

theorem State.Canonical.newFrame {x : Frame} {s : State} (h : s.Canonical) : (s.newFrame x).2.Canonical :=
  .snd h.onFrm

theorem State.Canonical.hostDone {x : Frame} {s : State} (h : s.Canonical) : (s.hostDone x).Canonical := by
  unfold State.hostDone
  split
  · exact h
  · split
    · exact h
    · exact h.finishDesc

theorem State.Canonical.settle {fid : Nat} {s : State} (h : s.Canonical) : (s.settle fid).Canonical :=
  .ite h.hostDone.onFrm h

theorem State.Canonical.bufAdd {c r n : Nat} {s : State} (h : s.Canonical) : (s.bufAdd c r n).Canonical :=
  h.onCell

theorem State.Canonical.bufSub {c r n : Nat} {s : State} (h : s.Canonical) : (s.bufSub c r n).Canonical :=
  h.onCell

theorem State.Canonical.onCopies {t : Copy → Bool} {f : Copy → Copy} {s : State} (h : s.Canonical) :
    (s.onCopies t f).Canonical := by
  dsimp only [State.onCopies]
  exact h.onEgr

theorem State.Canonical.freeChunks {s : State} (h : s.Canonical) : s.freeChunks.Canonical := by
  dsimp only [State.freeChunks]
  exact h.onFab

theorem State.Canonical.endCopy {c : Copy} {s : State} (h : s.Canonical) : (s.endCopy c).Canonical :=
  .settle (.freeChunks (.onFrame (.ite h h.bufSub)))

theorem State.Canonical.pullCopy {fid p : Nat} {s : State} (h : s.Canonical) : (s.pullCopy fid p).Canonical := by
  dsimp only [State.pullCopy]
  exact h.onEgr

theorem State.Canonical.dropCopy {c : Copy} {kind idx : Nat} {s : State} (h : s.Canonical) : (s.dropCopy c kind idx).Canonical :=
  h.pullCopy.endCopy.bump

theorem State.Canonical.badTail {fid : Nat} {ports : List Nat} {s : State} (h : s.Canonical) :
    (s.badTail fid ports).Canonical := by
  unfold State.badTail
  refine .foldl (fun _ _ h => .ite h.onCopies ?_) h
  split
  · exact h.dropCopy
  · exact h

theorem State.Canonical.closeChunk {src dst cls : Nat} {s : State} (h : s.Canonical) : (s.closeChunk src dst cls).Canonical := by
  unfold State.closeChunk
  split
  · exact h
  · exact h.onFab

theorem State.Canonical.openChunk {src dst cls : Nat} {s : State} (h : s.Canonical) : (s.openChunk src dst cls).2.Canonical := by
  unfold State.openChunk
  split
  · exact .snd h
  · exact .snd h.bufAdd

theorem State.Canonical.packBytes {n src dst cls mask fid off len head : Nat} {last bad : Bool} {s : State} (h : s.Canonical) :
    (packBytes n src dst cls mask fid off len head last bad s).Canonical := by
  induction n generalizing off len head s with
  | zero => exact h
  | succ n ih =>
    dsimp only [Machine.packBytes]
    split
    · exact ih h.closeChunk
    · split
      · exact ih (.ite h.openChunk.onFab.closeChunk h.openChunk.onFab)
      · exact .ite h.openChunk.onFab.closeChunk h.openChunk.onFab

theorem State.Canonical.growCopies {fid p n : Nat} {last : Bool} {s : State} (h : s.Canonical) :
    (s.growCopies fid p n last).Canonical := by
  unfold State.growCopies
  split
  · exact h
  · exact .onCopies (.onIf (fun _ h => h.bufAdd) h)

theorem State.Canonical.landPiece {cell : Nat} {p : Piece} {s : State} (h : s.Canonical) : (s.landPiece cell p).Canonical := by
  unfold State.landPiece
  refine .ite ?_ ?_
  · exact .badTail (.ite h.onEgr (.foldl (fun _ _ h => h.growCopies) h))
  · exact .ite h.onEgr (.foldl (fun _ _ h => h.growCopies) h)

theorem State.Canonical.endPacked {fid : Nat} {s : State} (h : s.Canonical) : (s.endPacked fid).Canonical :=
  .foldl (fun _ _ h => .ite h h.landPiece) h.onFab

theorem State.Canonical.ledger {fid : Nat} {kept : Bool} {s : State} (h : s.Canonical) : (s.ledger fid kept).Canonical :=
  .ite h.pmuEvent.onFrame h

theorem State.Canonical.cutPacked {fid : Nat} {s : State} (h : s.Canonical) : (s.cutPacked fid).Canonical :=
  .settle (.onIf (fun _ h => h.bump) h.onFrame.endPacked.ledger.onFrame.bump)

theorem State.Canonical.packFrame {fid : Nat} {s : State} (h : s.Canonical) : (s.packFrame fid).Canonical := by
  unfold State.packFrame
  refine .ite h (.ite (.onIf (fun _ h => h.endPacked) h) (.ite h.cutPacked ?_))
  refine .ite ?_ ?_
  · exact h.bump.ledger.onFrame.settle
  · exact .onFrame (.foldl (fun _ _ h => h.packBytes) h)

theorem State.Canonical.unpack {fid : Nat} {s : State} (h : s.Canonical) : (s.unpack fid).Canonical :=
  h.onFab.bufSub

theorem State.Canonical.feedCol {fid : Nat} {s : State} (h : s.Canonical) : (s.feedCol fid).Canonical := by
  unfold State.feedCol
  refine .ite ?_ ?_
  · exact .foldl (fun _ _ h => .ite h (.ite h.onCopies (.ite h.bump.onCopies h.onFrame.dropCopy))) h
  · exact h

theorem State.Canonical.postVoid {fid : Nat} {s : State} (h : s.Canonical) : (s.postVoid fid).Canonical := by
  dsimp only [State.postVoid]
  split
  · exact h
  · exact .ite h.onFrame.bump.raise h.onFrame.onFlo

theorem State.Canonical.closeFrame {fid : Nat} {bad : Bool} {s : State} (h : s.Canonical) : (s.closeFrame fid bad).Canonical := by
  dsimp only [State.closeFrame]
  split
  · refine .ite ?_ ?_
    · exact .settle (.onFrame (.ledger (.unpack (.ite h.onFrame.postVoid h.onFrame))))
    · exact .settle (.onIf (fun _ h => h.bump) (.ledger (.packFrame (.ite h.onFrame.postVoid h.onFrame))))
  · refine .settle ?_
    refine .ite ?_ ?_
    · exact .badTail (.feedCol (.ite h.onFrame.postVoid h.onFrame))
    · exact .feedCol (.ite h.onFrame.postVoid h.onFrame)
  · refine .ite ?_ ?_
    · exact .hostDone (.onFrm (.bufSub (.ledger (.ite h.onFrame.postVoid h.onFrame))))
    · exact .settle (.ite h.onFrame.postVoid h.onFrame)

theorem State.Canonical.endCopies {fid : Nat} {bad : Bool} {s : State} (h : s.Canonical) : (s.endCopies fid bad).Canonical := by
  unfold State.endCopies
  refine .foldl (fun _ _ h => ?_) h
  split
  · refine .ite ?_ ?_
    · exact h.closeFrame
    · exact .ite h.onFrame.onFrame.packFrame.settle h.onFrame.closeFrame
  · exact h.closeFrame

/-! ## The classifier (07) -/

theorem State.Canonical.chargeMeter {c : Cfg} {cell m len : Nat} {s : State} (h : s.Canonical) :
    (s.chargeMeter c cell m len).2.Canonical :=
  .snd h.onCell.bump

theorem execClsParserSet_canonical {r : Req} {s : State} (h : s.Canonical) : Res.Canonical (execClsParserSet r s) :=
  .mailbox h fun _ => .mk (h.stageBy .setClsParser)

theorem execClsBankSet_canonical {r : Req} {s : State} (h : s.Canonical) : Res.Canonical (execClsBankSet r s) :=
  .mailbox h fun _ => .ite (.mk h) (.ite (.mk h) (.mk (h.stageBy .setClsBank)))

theorem execClsProfileSet_canonical {r : Req} {s : State} (h : s.Canonical) : Res.Canonical (execClsProfileSet r s) :=
  .mailbox h fun _ => .mk (h.stageBy .setClsProfile)

theorem execClsPortSet_canonical {r : Req} {s : State} (h : s.Canonical) : Res.Canonical (execClsPortSet r s) :=
  .mailbox h fun _ => .ite (.mk h) (.mk (h.stageBy .setClsPort))

theorem execClsMeterSet_canonical {r : Req} {s : State} (h : s.Canonical) : Res.Canonical (execClsMeterSet r s) :=
  .mailbox h fun _ => .mk (h.stageBy .setClsMeter)

theorem execClsMirrorSet_canonical {r : Req} {s : State} (h : s.Canonical) : Res.Canonical (execClsMirrorSet r s) :=
  .mailbox h fun _ => .ite (.mk h) (.mk (h.stageBy .setClsMirror))

theorem execClsRuleWrite_canonical {r : Req} {s : State} (h : s.Canonical) : Res.Canonical (execClsRuleWrite r s) :=
  .mailbox h fun _ => by
    refine .ite (.mk h) ?_
    refine .ite ?_ ?_
    · exact .mk h
    · exact .ite (.mk h) (.ite (.mk h) (.mk (h.stageBy .setClsRule)))

theorem execClsRuleDelete_canonical {r : Req} {s : State} (h : s.Canonical) : Res.Canonical (execClsRuleDelete r s) :=
  .mailbox h fun _ => .ite (.mk h) (.mk (h.stageBy .delClsRule))

theorem execClsRuleRead_canonical {r : Req} {s : State} (h : s.Canonical) : Res.Canonical (execClsRuleRead r s) :=
  .mailbox h fun _ => .mk h

theorem execClsStatsRead_canonical {r : Req} {s : State} (h : s.Canonical) : Res.Canonical (execClsStatsRead r s) :=
  .mailbox h fun _ => .mk h

/-! ## Egress (12) -/

theorem State.Canonical.scheduleGates {p : Nat} {l : GateList} {s : State} (h : s.Canonical) :
    (s.scheduleGates p l).Canonical := by
  dsimp only [State.scheduleGates]
  exact h.onEgr

theorem State.Canonical.putShaper {p b : Nat} {x : Shaper} {s : State} (h : s.Canonical) : (s.putShaper p b x).Canonical :=
  h.onEgr

theorem State.Canonical.chargeShaper {p b : Nat} {n : ℤ} {s : State} (h : s.Canonical) : (s.chargeShaper p b n).Canonical :=
  .ite h.putShaper h

theorem State.Canonical.refuseCopy {c : Copy} {kind idx status : Nat} {s : State} (h : s.Canonical) :
    (s.refuseCopy c kind idx status).Canonical :=
  h.onFrame.dropCopy

theorem State.Canonical.retag {p : Nat} {s : State} (h : s.Canonical) : (s.retag p).Canonical :=
  .foldl (fun _ _ h => .ite h (.ite (.ite h h.onEgr) (.ite h.onEgr h))) h

theorem execQueueAdmit_canonical {p : Fin 1024} {fid : Nat} {s : State} (h : s.Canonical) :
    Res.Canonical (execQueueAdmit p fid s) := by
  refine .next ?_
  split
  · exact h
  · refine .ite h.refuseCopy (.ite h (.ite h.refuseCopy (.ite h.refuseCopy ?_)))
    refine .ite ?_ ?_
    · exact h.refuseCopy
    · exact .retag (.onIf (fun _ h => h.bump) h.pullCopy.bufAdd.onEgr.bump.bump)

theorem State.Canonical.putGate {p : Nat} {g : Gate} {s : State} (h : s.Canonical) : (s.putGate p g).Canonical :=
  h.onEgr.retag

theorem execGateChange_canonical {p : Fin 1024} {s : State} (h : s.Canonical) : Res.Canonical (execGateChange p s) :=
  .next (.ite (.ite h.putGate (.ite h h.putGate)) h)

theorem execGateListStart_canonical {p : Fin 1024} {s : State} (h : s.Canonical) : Res.Canonical (execGateListStart p s) := by
  refine .next ?_
  split
  · exact h
  · exact h.putGate

theorem execShaperRefill_canonical {p : Fin 1024} {s : State} (h : s.Canonical) : Res.Canonical (execShaperRefill p s) :=
  .next (.ite h (.retag (.foldl (fun _ _ h => h.putShaper) h)))

theorem State.Canonical.setTx {p : Nat} {t : Option Tx} {s : State} (h : s.Canonical) : (setTx p t s).Canonical :=
  h.onEgr

theorem State.Canonical.setHeld {p : Nat} {t : Option Tx} {s : State} (h : s.Canonical) : (setHeld p t s).Canonical :=
  h.onEgr

theorem State.Canonical.chargeFrame {p : Nat} {c : Copy} {n : ℤ} {s : State} (h : s.Canonical) :
    (s.chargeFrame p c n).Canonical :=
  .ite h.chargeShaper h.chargeShaper.chargeShaper

theorem State.Canonical.endTx {p : Nat} {t : Tx} {stomp : Bool} {s : State} (h : s.Canonical) :
    (s.endTx p t stomp).Canonical := by
  unfold State.endTx
  extract_lets c _ cp l n grow a g u w o more b first bcast d late e
  have hb : b.Canonical := .ite h.setTx.emit (.ite h.setTx.emit.chargeFrame h.setTx.emit.chargeFrame.onEgr)
  have hd : d.Canonical := .ite hb.bump (.onIf (fun _ h => h.bump) (.onIf (fun _ h => h.bump) hb.bump.bump))
  have he : e.Canonical := .ite hd (.onIf (fun _ h => h.bump) hd.bump.bump)
  exact .endCopy (.onIf (fun _ h => h.onFrame) (.onIf (fun _ h => h.bump) he))

theorem State.Canonical.chooseTx {p : Nat} {s : State} (h : s.Canonical) : (s.chooseTx p).Canonical := by
  dsimp only [State.chooseTx]
  split
  · exact h.onEgr.setTx
  · split
    · exact .ite h (.ite h.setHeld.bump h.setHeld.setTx.bump)
    · refine .ite h ?_
      split
      · exact h.retag
      · split
        · exact h.retag
        · exact h.retag.onEgr.setTx

theorem execTransmitSelect_canonical {p : Fin 1024} {sent : Nat} {s : State} (h : s.Canonical) :
    Res.Canonical (execTransmitSelect p sent s) := by
  refine .next ?_
  split
  · exact .ite h.chooseTx h
  · refine .ite h (.ite (.ite h.endTx.chooseTx h.endTx) ?_)
    refine .ite ?_ ?_
    · exact .onIf (fun _ h => h.chooseTx) (.onIf (fun _ h => h.bump) h.emit.setTx.setHeld)
    · exact h.setTx

theorem execEgressStart_canonical {p : Fin 1024} {s : State} (h : s.Canonical) : Res.Canonical (execEgressStart p s) := by
  refine .next ?_
  split
  · exact h
  · refine .ite h (.ite h.refuseCopy (.ite h.refuseCopy (.setTx ?_)))
    refine .ite ?_ ?_
    · exact .chargeFrame (.onIf (fun _ h => h.bump) h)
    · exact .onEgr (.chargeFrame (.onIf (fun _ h => h.bump) h))

theorem execEgrPortSet_canonical {r : Req} {s : State} (h : s.Canonical) : Res.Canonical (execEgrPortSet r s) :=
  .mailbox h fun _ => .ite (.mk h) (.mk (h.stageBy .setEgrPort))

theorem execEgrQueueSet_canonical {r : Req} {s : State} (h : s.Canonical) : Res.Canonical (execEgrQueueSet r s) :=
  .mailbox h fun _ => .ite (.mk h) (.mk (h.stageBy .setEgrQueue))

theorem execEgrGateSet_canonical {r : Req} {s : State} (h : s.Canonical) : Res.Canonical (execEgrGateSet r s) :=
  .mailbox h fun _ => .ite (.mk h) (.ite (.mk h) (.mk (h.stageBy .setEgrGate)))

theorem execEgrGateStatus_canonical {r : Req} {s : State} (h : s.Canonical) : Res.Canonical (execEgrGateStatus r s) :=
  .mailbox h fun _ => .ite (.mk h) (.mk h)

theorem execEgrStatsRead_canonical {r : Req} {s : State} (h : s.Canonical) : Res.Canonical (execEgrStatsRead r s) :=
  .mailbox h fun _ => .ite (.mk h) (.ite (.mk h) (.mk h))

/-! ## Forwarding tables (08) -/

theorem State.Canonical.touch {c : Cfg} {cell fid mac : Nat} {s : State} (h : s.Canonical) :
    (s.touch c cell fid mac).Canonical := by
  unfold State.touch
  split
  · exact h
  · exact h.onTbl
  · exact h.onTbl

theorem State.Canonical.rewrite {u table index : Nat} {s : State} (h : s.Canonical) : (s.rewrite u table index).Canonical :=
  .ite (.ite h.onTbl h.onTbl.endLive) h

theorem State.Canonical.rewriteAll {u table : Nat} {l : List Nat} {s : State} (h : s.Canonical) :
    (s.rewriteAll u table l).Canonical :=
  .foldl (fun _ _ h => h.rewrite) h

theorem State.Canonical.l2Put {i : Nat} {s : State} (h : s.Canonical) : (s.l2Put i).Canonical :=
  h.onTbl.rewriteAll

theorem State.Canonical.dynFree {obj : Nat} {s : State} (h : s.Canonical) : (s.dynFree obj).Canonical :=
  h.onTbl.rewriteAll

theorem State.Canonical.dynMake {cell fid mac : Nat} {dest : Option Nat} {s : State} (h : s.Canonical) :
    (s.dynMake cell fid mac dest).2.Canonical := by
  dsimp only [State.dynMake]
  split
  · exact .snd h.dynFree
  · split
    · refine .snd_ite ?_ ?_
      · exact .snd h.onTbl.l2Put
      · exact .snd h
    · exact .snd h.onTbl.rewriteAll

theorem State.Canonical.dynWrite {cell fid mac : Nat} {dest : Option Nat} {ev : Nat × Nat × Nat} {s : State} (h : s.Canonical) :
    (s.dynWrite cell fid mac dest ev).2.Canonical := by
  dsimp only [State.dynWrite]
  split
  · exact .snd h
  · exact .snd h.onCell
  · exact .snd h.onCell
  · refine .snd_ite ?_ ?_
    · exact .snd h.onCell
    · exact h.dynMake

theorem State.Canonical.report {r : Report} {s : State} (h : s.Canonical) : (s.report r).Canonical :=
  .ite h.bump (.ite h.onCell.onCell.onTbl.pmuEvent h.onCell.bump)

theorem execLearnFilterExpiry_canonical {c : Fin 64} {fid : Fin 4096} {mac : Nat} {s : State} (h : s.Canonical) :
    Res.Canonical (execLearnFilterExpiry c fid mac s) :=
  .next h.onCell

theorem State.Canonical.learnEvent {ty cell fid mac new old cells outcome port : Nat} {own : Bool} {s : State} (h : s.Canonical) :
    (s.learnEvent ty cell fid mac new old cells outcome port own).Canonical :=
  h.kindEvent

theorem State.Canonical.putMaster {fid mac : Nat} {m : Master} {s : State} (h : s.Canonical) :
    (s.putMaster fid mac m).Canonical :=
  h.onTbl

theorem State.Canonical.install {l : List Nat} {fid mac dest : Nat} {ev : Nat × Nat × Nat} {s : State} (h : s.Canonical) :
    (s.install l fid mac dest ev).2.2.Canonical := by
  unfold State.install
  refine List.foldlRecOn (motive := fun a : List Nat × Bool × State => a.2.2.Canonical) l _ h fun a ha k _ => ?_
  dsimp only
  split <;> exact ha.dynWrite

theorem State.Canonical.handleReport {r : Report} {own : Bool} {s : State} (h : s.Canonical) :
    (s.handleReport r own).Canonical := by
  dsimp only [State.handleReport]
  split
  · split
    · refine .ite ?_ ?_
      · exact h.learnEvent
      · exact .ite h.learnEvent h.install.putMaster.learnEvent
    · exact h.install.putMaster.learnEvent
  · split
    · exact h.learnEvent
    · exact .ite h.learnEvent h.install.putMaster.learnEvent
  · split
    · exact h.install.putMaster.learnEvent
    · split
      · exact h
      · exact .learnEvent (.ite h.install h.install.putMaster)
  · split
    · exact h.learnEvent
    · exact h

theorem execLearnReportHandle_canonical {own : Bool} {s : State} (h : s.Canonical) :
    Res.Canonical (execLearnReportHandle own s) := by
  refine .next ?_
  split
  · exact h
  · exact .ite h.onTbl.handleReport h

theorem State.Canonical.dropCopyOf {cell fid mac : Nat} {s : State} (h : s.Canonical) : (s.dropCopyOf cell fid mac).Canonical :=
  h.onTbl

theorem execAgingPassRow_canonical {c : Fin 64} {fid : Fin 4096} {mac : Nat} {last own : Bool} {s : State} (h : s.Canonical) :
    Res.Canonical (execAgingPassRow c fid mac last own s) := by
  refine .next (.ite h ?_)
  refine .ite h.onCell ?_
  split
  · exact h.onCell
  · exact .ite h.onCell.onTbl h.onCell.dynFree.dropCopyOf.learnEvent

theorem execTblVlanSet_canonical {r : Req} {s : State} (h : s.Canonical) : Res.Canonical (execTblVlanSet r s) :=
  .mailbox h fun _ => .ite (.mk h) (.mk (h.stageBy .setVlan))

theorem execTblPortSet_canonical {r : Req} {s : State} (h : s.Canonical) : Res.Canonical (execTblPortSet r s) :=
  .mailbox h fun _ => .ite (.mk h) (.mk (h.stageBy .setTblPort))

theorem execTblL2Write_canonical {r : Req} {s : State} (h : s.Canonical) : Res.Canonical (execTblL2Write r s) :=
  .mailbox h fun _ => by
    refine .ite (.ite (.mk h) (.mk (h.stageBy .setL2))) ?_
    refine .ite ?_ ?_
    · exact .mk h
    · exact .ite (.mk h) (.mk (.foldl (fun _ _ h => h.l2Put) (h.stageBy .setL2)))

theorem execTblL2Flush_canonical {r : Req} {s : State} (h : s.Canonical) : Res.Canonical (execTblL2Flush r s) :=
  .mailbox h fun _ => .mk (.onTbl (.foldl (fun _ _ h => h.dynWrite) (.foldl (fun _ _ h => h.onCell) h)))

theorem execTblL2Read_canonical {r : Req} {s : State} (h : s.Canonical) : Res.Canonical (execTblL2Read r s) :=
  .mailbox h fun _ => by
    dsimp only
    split
    · exact .mk h
    · split <;> exact .mk h

theorem execTblAgeSet_canonical {r : Req} {s : State} (h : s.Canonical) : Res.Canonical (execTblAgeSet r s) :=
  .mailbox h fun _ => .mk (h.setImm .setAge)

theorem State.Canonical.prefixPut {i : Nat} {s : State} (h : s.Canonical) : (s.prefixPut i).Canonical := by
  unfold State.prefixPut
  refine .ite ?_ ?_
  · exact .foldl (fun _ _ h => h.rewriteAll) h.onTbl
  · exact h.onTbl.rewriteAll

theorem State.Canonical.tidyWords {s : State} (h : s.Canonical) : s.tidyWords.Canonical :=
  h.onTbl

theorem State.Canonical.placeRestored {s : State} (h : s.Canonical) : s.placeRestored.Canonical :=
  .foldl (fun _ _ h => h.prefixPut) (.foldl (fun _ _ h => h.l2Put) h)

theorem execTblRouteWrite_canonical {r : Req} {s : State} (h : s.Canonical) : Res.Canonical (execTblRouteWrite r s) :=
  .mailbox h fun _ => by
    refine .ite (.ite (.mk h) (.mk (h.stageBy .setRoute))) (.ite (.mk h) ?_)
    refine .ite ?_ ?_
    · exact .mk h
    · exact .mk (.foldl (fun _ _ h => h.prefixPut) (h.stageBy .setRoute))

theorem execTblNexthopSet_canonical {r : Req} {s : State} (h : s.Canonical) : Res.Canonical (execTblNexthopSet r s) :=
  .mailbox h fun _ => .mk (h.stageBy .setNexthop)

theorem execTblRouterMac_canonical {r : Req} {s : State} (h : s.Canonical) : Res.Canonical (execTblRouterMac r s) :=
  .mailbox h fun _ => .mk (h.stageBy .setRouterMac)

theorem execTblGroupSet_canonical {r : Req} {s : State} (h : s.Canonical) : Res.Canonical (execTblGroupSet r s) :=
  .mailbox h fun _ => .mk (h.stageBy .setGroup)

theorem execTblHashKey_canonical {r : Req} {s : State} (h : s.Canonical) : Res.Canonical (execTblHashKey r s) :=
  .mailbox h fun _ => .mk (h.stageBy .setHashKey)

theorem execTblMcastSet_canonical {r : Req} {s : State} (h : s.Canonical) : Res.Canonical (execTblMcastSet r s) :=
  .mailbox h fun _ => .mk (h.stageBy .setMcast)

theorem execTblLookup_canonical {r : Req} {s : State} (h : s.Canonical) : Res.Canonical (execTblLookup r s) :=
  .mailbox h fun _ => by
    dsimp only
    split <;> exact .mk h

theorem execTblStatsRead_canonical {r : Req} {s : State} (h : s.Canonical) : Res.Canonical (execTblStatsRead r s) :=
  .mailbox h fun _ => .mk h

/-! ## The flow store (09) -/

theorem State.Canonical.onOp {c tag : Nat} {f : Op → Option Op} {s : State} (h : s.Canonical) : (s.onOp c tag f).Canonical :=
  h.onFlo

theorem State.Canonical.sampleReload {period : Nat} {s : State} (h : s.Canonical) : (sampleReload period s).2.Canonical :=
  .snd h.drawNat

theorem State.Canonical.sampleOp {c prog : Nat} {s : State} (h : s.Canonical) : (s.sampleOp c prog).2.Canonical := by
  unfold State.sampleOp
  refine .snd_ite (.snd h) ?_
  refine .snd_ite ?_ ?_
  · exact .snd h.sampleReload.onPmu
  · exact .snd h.onPmu

theorem State.Canonical.stampVoids {o : Op} {s : State} (h : s.Canonical) : (s.stampVoids o).Canonical :=
  h.onFlo

theorem State.Canonical.sendOp {c tag : Nat} {s : State} (h : s.Canonical) : (s.sendOp c tag).Canonical := by
  unfold State.sendOp
  split
  · exact h
  · exact .ite h.sampleOp.onOp.stampVoids.pmuEvent h

theorem State.Canonical.sendOps {c : Nat} {s : State} (h : s.Canonical) : (s.sendOps c).Canonical :=
  .foldl (fun _ _ h => h.sendOp) h

theorem State.Canonical.postOp {c fid : Nat} {msg : List Word} {keyLen : Nat} {wait : Bool} {s : State} (h : s.Canonical) :
    (s.postOp c fid msg keyLen wait).2.Canonical :=
  .snd (.sendOp (.onIf (fun _ h => h.bump) h.onFlo))

theorem State.Canonical.unpostOp {o : Op} {s : State} (h : s.Canonical) : (s.unpostOp o).Canonical := by
  dsimp only [State.unpostOp]
  exact h.onFlo.congr

theorem execCreditWaitExpiry_canonical {c : Fin 64} {tag : Fin 256} {s : State} (h : s.Canonical) :
    Res.Canonical (execCreditWaitExpiry c tag s) := by
  refine .next ?_
  split
  · exact h
  · exact h.unpostOp.bump

theorem State.Canonical.setCache {r : Nat} {l : List CacheEntry} {s : State} (h : s.Canonical) : (s.setCache r l).Canonical :=
  h.onFlo

theorem State.Canonical.pushCoh {m : Coh} {s : State} (h : s.Canonical) : (s.pushCoh m).Canonical :=
  h.onFlo

theorem State.Canonical.useEntry {r : Nat} {x : CacheEntry} {s : State} (h : s.Canonical) : (s.useEntry r x).Canonical :=
  .ite h.setCache.pushCoh.bump.pmuEvent h.setCache

theorem State.Canonical.grantEntry {r : Nat} {x : CacheEntry} {s : State} (h : s.Canonical) : (s.grantEntry r x).Canonical := by
  dsimp only [State.grantEntry]
  split
  · exact h.setCache
  · split
    · exact .ite h.setCache.pushCoh.bump.pmuEvent h.setCache
    · exact h.setCache

theorem State.Canonical.dropEntry {r : Nat} {x : CacheEntry} {scrub : Option Nat} {s : State} (h : s.Canonical) :
    (s.dropEntry r x scrub).Canonical :=
  .ite h.setCache.raise h.setCache.raise.endLive

theorem State.Canonical.loseEntry {r : Nat} {k : FKey} {s : State} (h : s.Canonical) : (s.loseEntry r k).Canonical := by
  unfold State.loseEntry
  split
  · exact h.dropEntry
  · exact h

theorem State.Canonical.lookupOp {c tag : Nat} {bad : Bool} {s0 : State} (h : s0.Canonical) :
    (s0.lookupOp c tag bad).Canonical := by
  dsimp only [State.lookupOp]
  split
  · exact h
  · refine .ite h ?_
    split
    · exact .pmuEvent (.bump (.onOp (.useEntry (.pmuEvent (.onIf (fun _ h => h.loseEntry) h)))))
    · exact .pmuEvent (.onFlo (.pmuEvent (.onIf (fun _ h => h.loseEntry) h)))

theorem State.Canonical.lookupVoid {c : Nat} {bad : Bool} {s0 : State} (h : s0.Canonical) : (s0.lookupVoid c bad).Canonical := by
  dsimp only [State.lookupVoid]
  split
  · exact h
  · split
    · exact .useEntry (.onFlo (.pmuEvent (.onIf (fun _ h => h.loseEntry) h)))
    · exact .pmuEvent (.onFlo (.pmuEvent (.onIf (fun _ h => h.loseEntry) h)))

theorem execCacheLookup_canonical {c : Fin 64} {tag : Fin 256} {void uncorrectable : Bool} {s : State} (h : s.Canonical) :
    Res.Canonical (execCacheLookup c tag void uncorrectable s) :=
  .next (.ite h.lookupVoid h.lookupOp)

theorem State.Canonical.takeRidge {kind r n : Nat} {s : State} {m : Coh} {t : State} (h : s.Canonical)
    (e : s.takeRidge kind r n = some (m, t)) : t.Canonical := by
  unfold State.takeRidge at e
  split at e
  · split at e
    · cases e; exact h.onFlo
    · cases e
  · cases e

theorem State.Canonical.takeHome {kind r n : Nat} {s : State} {m : Coh} {t : State} (h : s.Canonical)
    (e : s.takeHome kind r n = some (m, t)) : t.Canonical := by
  unfold State.takeHome at e
  split at e
  · split at e
    · cases e; exact h.onFlo
    · cases e
  · cases e

theorem State.Canonical.ridgeAck {kind r h : Nat} {s : State} (hs : s.Canonical) : (s.ridgeAck kind r h).Canonical := by
  dsimp only [State.ridgeAck]
  split
  · exact hs
  · rename_i heq
    split
    · exact (hs.takeRidge heq).pmuEvent.pushCoh
    · exact (hs.takeRidge heq).pmuEvent.setCache.pushCoh

theorem execInvalidate_canonical {r : Fin 8} {h : Fin 268435456} {s : State} (hs : s.Canonical) :
    Res.Canonical (execInvalidate r h s) :=
  .next hs.ridgeAck

theorem execCollect_canonical {r : Fin 8} {h : Fin 268435456} {s : State} (hs : s.Canonical) :
    Res.Canonical (execCollect r h s) :=
  .next hs.ridgeAck

theorem State.Canonical.answerFw {o : FwOp} {status h collected : Nat} {image : List Word} {s : State} (hs : s.Canonical) :
    (s.answerFw o status h collected image).Canonical :=
  .onIf (fun _ h => h.respond) hs.onFlo

theorem State.Canonical.endFw {o : FwOp} {h : Nat} {collected : BitVec 8} {s : State} (hs : s.Canonical) :
    (s.endFw o h collected).Canonical := by
  unfold State.endFw
  split
  · exact hs.answerFw
  · refine .ite ?_ ?_
    · exact .ite hs.onFlo.answerFw hs.answerFw
    · exact .ite hs.evict.answerFw hs.answerFw

theorem State.Canonical.findEcc {k : FKey} {ecc : Option (Fin 268435456)} {s : State} (h : s.Canonical) :
    (s.findEcc k ecc).Canonical := by
  unfold State.findEcc
  split
  · exact .ite h.quarantine h
  · exact h

theorem State.Canonical.slotEcc {slot : Nat} {ecc : Option (Fin 268435456)} {s : State} (h : s.Canonical) :
    (s.slotEcc slot ecc).Canonical := by
  unfold State.slotEcc
  split
  · exact .ite h.quarantine h
  · exact h

theorem State.Canonical.startFw {e tag : Nat} {delete : Bool} {ecc : Option (Fin 268435456)} {fixed : Nat} {s0 : State}
    (h : s0.Canonical) : (s0.startFw e tag delete ecc fixed).Canonical := by
  unfold State.startFw
  split
  · exact h
  · refine .ite h (.ite h (.ite h (.ite (.bump (.ite h.slotEcc h.findEcc)) ?_)))
    split
    · exact .answerFw (.pmuFirmware (.bump (.ite h.slotEcc h.findEcc)))
    · refine .ite (.answerFw (.pmuFirmware (.bump (.ite h.slotEcc h.findEcc)))) ?_
      refine .ite ?_ ?_
      · exact .endFw (.pmuFirmware (.bump (.ite h.slotEcc h.findEcc)))
      · exact .lockFor (.pmuFirmware (.bump (.ite h.slotEcc h.findEcc)))

theorem execRead_canonical {e : Fin 128} {tag : Fin 16} {ecc : Option (Fin 268435456)} {fixed : Nat} {slots : BitVec 8} {s : State}
    (h : s.Canonical) : Res.Canonical (execRead e tag ecc fixed slots s) :=
  .next h.sees.startFw

theorem execDelete_canonical {e : Fin 128} {tag : Fin 16} {ecc : Option (Fin 268435456)} {fixed : Nat} {slots : BitVec 8} {s : State}
    (h : s.Canonical) : Res.Canonical (execDelete e tag ecc fixed slots s) :=
  .next h.sees.startFw

theorem State.Canonical.unlock {h : Nat} {s : State} (hs : s.Canonical) : (s.unlock h).Canonical := by
  dsimp only [State.unlock]
  split
  · exact hs
  · refine .ite hs ?_
    split
    · exact hs.onFlo
    · split
      · exact hs.onFlo.endFw
      · exact hs.onFlo
    · split
      · exact hs.onFlo.endFw
      · exact hs.onFlo
    · split
      · exact .ite hs.onFlo.evictSoon hs.onFlo
      · exact hs.onFlo
    · exact .ite hs.onFlo.evict hs.onFlo

theorem State.Canonical.applyCoh {m : Coh} {clear : Bool} {s : State} (h : s.Canonical) : (s.applyCoh m clear).Canonical := by
  unfold State.applyCoh
  split
  · exact h
  · exact .ite (.onIf (fun _ h => h.bump) h) h.setRec

theorem execAck_canonical {r : Fin 8} {h : Fin 268435456} {slots : BitVec 8} {s0 : State} (hs : s0.Canonical) :
    Res.Canonical (execAck r h slots s0) := by
  refine .next ?_
  split
  · exact hs.sees
  · rename_i heq
    exact (hs.sees.takeHome heq).applyCoh.onFlo.unlock

theorem State.Canonical.writeFlush {r h : Nat} {s : State} (hs : s.Canonical) : (s.writeFlush r h).Canonical := by
  unfold State.writeFlush
  split
  · exact hs
  · exact hs.setCache.pushCoh.bump.pmuEvent

theorem execFlush_canonical {r : Fin 8} {h : Fin 268435456} {slots : BitVec 8} {s0 : State} (hs : s0.Canonical) :
    Res.Canonical (execFlush r h slots s0) := by
  refine .next ?_
  split
  · rename_i heq
    exact (State.Canonical.takeHome (.onIf (fun _ h => h.writeFlush) hs.sees) heq).applyCoh
  · exact .onIf (fun _ h => h.writeFlush) hs.sees

theorem execRelease_canonical {r : Fin 8} {h : Fin 268435456} {slots : BitVec 8} {s0 : State} (hs : s0.Canonical) :
    Res.Canonical (execRelease r h slots s0) := by
  refine .next ?_
  split
  · rename_i heq
    exact (hs.sees.takeHome heq).applyCoh
  · exact hs.sees

theorem State.Canonical.endRecord {x : Run} {h : Nat} {s : State} (hs : s.Canonical) : (s.endRecord x h).Canonical := by
  unfold State.endRecord
  split
  · exact hs
  · exact .ite hs (.ite hs.evictSoon (.ite hs.lockFor hs))

theorem State.Canonical.failCompanion {e : Nat} {x : Run} {h : Nat} {s : State} (hs : s.Canonical) :
    (s.failCompanion e x h).2.Canonical :=
  .snd hs.natRelease.onRec.bump

theorem State.Canonical.sendResult {c tag status grant lease handle : Nat} {y : List Word} {ran : Option Ran} {s : State}
    (h : s.Canonical) : (s.sendResult c tag status grant lease handle y ran).Canonical :=
  h.onOp

theorem State.Canonical.endOperate {c tag : Nat} {x : Run} {h : Nat} {s : State} (hs : s.Canonical) :
    (s.endOperate c tag x h).Canonical :=
  .endRecord (.sendResult (.ite hs.onRec.grantEntry.bump.pmuEvent hs))

theorem State.Canonical.settleRun {c tag e k : Nat} {p : Exec} (h : p.2.Canonical) : (State.settleRun c tag e k p).Canonical := by
  dsimp only [State.settleRun]
  split
  · exact h.sendResult
  · exact .ite h.onPrg.onOp (.ite h.failCompanion.endOperate h.endOperate)

theorem State.Canonical.runOperate {c tag e : Nat} {x : Run} {s : State} (h : s.Canonical) : (s.runOperate c tag e x).Canonical :=
  h.runProgram.settleRun

theorem State.Canonical.resumeStalled {e : Nat} {s : State} (h : s.Canonical) : (s.resumeStalled e).Canonical := by
  unfold State.resumeStalled
  split
  · exact .ite h (.settleRun (.runFrom (.snd h.onPrg)))
  · exact h

theorem State.Canonical.queueOp {c tag : Nat} {s : State} (h : s.Canonical) : (s.queueOp c tag).Canonical :=
  h.onOp.onFlo

theorem execOperate_canonical {c : Fin 64} {tag : Fin 256} {ecc : Option (Fin 268435456)} {fixed : Nat} {s0 : State}
    (h : s0.Canonical) : Res.Canonical (execOperate c tag ecc fixed s0) := by
  refine .next ?_
  dsimp only
  split
  · exact h
  · refine .ite h (.ite (.ite h.queueOp h) ?_)
    split
    · exact h.findEcc.bump.pmuEvent.sendResult.bump
    · refine .ite h.findEcc.bump.pmuEvent.sendResult ?_
      split
      · exact h.findEcc.bump.pmuEvent.setRec.bump.runOperate
      · refine .ite h.findEcc.bump.pmuEvent.sendResult.bump ?_
        refine .ite ?_ h.findEcc.bump.pmuEvent.bump.runOperate
        split
        · rename_i heq
          exact (h.findEcc.bump.pmuEvent.createRec.of_mk heq).runOperate
        · rename_i heq
          exact (h.findEcc.bump.pmuEvent.createRec.of_mk heq).sendResult

theorem execVoid_canonical {c : Fin 64} {ecc : Option (Fin 268435456)} {fixed : Nat} {s0 : State} (h : s0.Canonical) :
    Res.Canonical (execVoid c ecc fixed s0) := by
  refine .next ?_
  dsimp only
  split
  · exact h
  · split
    · exact h.onFlo.findEcc.bump.pmuEvent.bump
    · exact h.onFlo.findEcc.bump.pmuEvent.onRec.bump

theorem State.Canonical.compAnswer {m : CompMsg} {status h : Nat} {s : State} (hs : s.Canonical) :
    (s.compAnswer m status h).Canonical :=
  hs.onPrg

theorem State.Canonical.runCompanion {m : CompMsg} {x : Run} {s : State} (h : s.Canonical) : (s.runCompanion m x).Canonical := by
  dsimp only [State.runCompanion]
  split
  · exact h.runProgram.compAnswer.endRecord
  · exact h.runProgram.compAnswer

theorem execCompanion_canonical {e : Fin 128} {k : Fin 16} {ecc : Option (Fin 268435456)} {fixed : Nat} {s0 : State}
    (h : s0.Canonical) : Res.Canonical (execCompanion e k ecc fixed s0) := by
  refine .next ?_
  split
  · exact h
  · refine .ite h ?_
    split
    · exact h.findEcc.bump.pmuEvent.compAnswer.bump
    · split
      · exact h.findEcc.bump.pmuEvent.bump.runCompanion
      · refine .ite h.findEcc.bump.pmuEvent.compAnswer.bump ?_
        refine .ite ?_ h.findEcc.bump.pmuEvent.bump.runCompanion
        split
        · rename_i heq
          exact (h.findEcc.bump.pmuEvent.createRec.of_mk heq).runCompanion
        · rename_i heq
          exact (h.findEcc.bump.pmuEvent.createRec.of_mk heq).compAnswer

theorem execCompanionResult_canonical {e : Fin 128} {k : Fin 16} {s : State} (h : s.Canonical) :
    Res.Canonical (execCompanionResult e k s) := by
  refine .next ?_
  split
  · exact h
  · refine .resumeStalled ?_
    split
    · refine .ite ?_ (.ite h.onPrg.failCompanion.endOperate h.onPrg.bump.sendResult)
      exact .endOperate (.snd_ite (.writeOp (.snd h.onPrg)) (.snd h.onPrg))
    · exact h

theorem State.Canonical.visit {h : Nat} {ecc : EccSeen} {s : State} (hs : s.Canonical) : (s.visit h ecc).Canonical := by
  dsimp only [State.visit]
  split
  · exact .onIf (fun _ h => h.bump) hs
  · refine .ite (.onIf (fun _ h => h.bump) hs) ?_
    refine .ite (.quarantine (.onIf (fun _ h => h.bump) hs)) ?_
    refine .ite ?_ (.onIf (fun _ h => h.bump) hs)
    refine .ite ?_ ?_
    · exact .evict (.onIf (fun _ h => h.bump) hs)
    · exact .lockFor (.onIf (fun _ h => h.bump) hs)

theorem State.Canonical.sweepReads {h : Nat} {s : State} (hs : s.Canonical) : (s.sweepReads h).Canonical :=
  .ite hs.pmuSpan hs.pmuSpan.pmuSpan

theorem execSweepVisit_canonical {h : Fin 268435456} {ecc : EccSeen} {s : State} (hs : s.Canonical) :
    Res.Canonical (execSweepVisit h ecc s) := by
  refine .next ?_
  refine .ite ?_ ?_
  · exact .onFlo (.visit (.foldl (fun _ _ h => .ite h h.visit) hs.sweepReads))
  · exact hs

theorem State.Canonical.dramEvent {stack burst : Nat} {s : State} (h : s.Canonical) : (s.dramEvent stack burst).Canonical :=
  h.drawNat.raise

theorem State.Canonical.loseBurst {stack burst : Nat} {what : Burst} {s : State} (h : s.Canonical) :
    (s.loseBurst stack burst what).Canonical := by
  unfold State.loseBurst
  split
  · exact .ite h.quarantine h
  · exact h.onFlo.dramEvent
  · exact .dramEvent (.onIf (fun _ h => h.bufferWrite) h)
  · exact h.onTbl.dramEvent
  · exact h.dramEvent

theorem execDramScrub_canonical {stack : Fin 4} {burst : Fin (2 ^ 29)} {what : Burst} {err : EccSeen} {s : State}
    (h : s.Canonical) : Res.Canonical (execDramScrub stack burst what err s) := by
  refine .next (.ite h ?_)
  split
  · exact h
  · split
    · exact h.bump
    · exact h.drawNat.bump
  · exact h.loseBurst

theorem execExportWrite_canonical {e : Fin 128} {own : Bool} {s : State} (h : s.Canonical) :
    Res.Canonical (execExportWrite e own s) := by
  refine .next ?_
  split
  · exact h
  · exact .ite h h.onFlo.noteEvt.pushEvent

theorem execArchiveWrite_canonical {e : Fin 128} {s : State} (h : s.Canonical) : Res.Canonical (execArchiveWrite e s) := by
  refine .next (.ite h ?_)
  split
  · exact h
  · exact h.onFlo

theorem execFlowFormatDone_canonical {slots : BitVec 8} {s0 : State} (h : s0.Canonical) :
    Res.Canonical (execFlowFormatDone slots s0) :=
  .next (.ite h.sees.onFlo.onPrg.answerDeferred h.sees)

theorem execFlowTemplateSet_canonical {r : Req} {s : State} (h : s.Canonical) : Res.Canonical (execFlowTemplateSet r s) :=
  .mailbox h fun _ => .mk (h.stageBy .setTemplate)

theorem execFlowZoneSet_canonical {r : Req} {s : State} (h : s.Canonical) : Res.Canonical (execFlowZoneSet r s) :=
  .mailbox h fun _ => .ite (.mk h) (.mk (h.stageBy .setZone))

theorem execFlowAgeSet_canonical {r : Req} {s : State} (h : s.Canonical) : Res.Canonical (execFlowAgeSet r s) :=
  .mailbox h fun _ => .mk (h.stageBy .setAging)

theorem State.Canonical.fwRun {s : State} {delete : Bool} {q : Req} (h : s.Canonical) : Ans.Canonical (fwRun s delete q) :=
  .ite (.mk h) (.mk h.onFlo)

theorem execFlowRead_canonical {r : Req} {s : State} (h : s.Canonical) : Res.Canonical (execFlowRead r s) :=
  .mailbox h fun _ => h.fwRun

theorem execFlowDelete_canonical {r : Req} {s : State} (h : s.Canonical) : Res.Canonical (execFlowDelete r s) :=
  .mailbox h fun _ => h.fwRun

theorem State.Canonical.flushZone {z : Nat} {s : State} (h : s.Canonical) : (s.flushZone z).Canonical :=
  .foldl (fun _ _ h => .ite h h.evictSoon) h

theorem execFlowZoneFlush_canonical {r : Req} {s : State} (h : s.Canonical) : Res.Canonical (execFlowZoneFlush r s) :=
  .mailbox h fun _ => .ite (.mk h) (.mk h.onFlo.flushZone)

theorem execZoneFlushDone_canonical {zone : Fin 4096} {slots : BitVec 8} {s0 : State} (h : s0.Canonical) :
    Res.Canonical (execZoneFlushDone zone slots s0) := by
  refine .next ?_
  refine .ite ?_ ?_
  · exact .ite h.sees.flushZone.onFlo.answerDeferred h.sees.flushZone
  · exact h.sees

theorem execFlowArchiveRead_canonical {r : Req} {s : State} (h : s.Canonical) : Res.Canonical (execFlowArchiveRead r s) :=
  .mailbox h fun _ => .ite (.mk h) (.ite (.mk h) (.mk h.drawWords))

theorem execFlowStatsRead_canonical {r : Req} {s : State} (h : s.Canonical) : Res.Canonical (execFlowStatsRead r s) :=
  .mailbox h fun _ => .mk h

/-! ## The fabric (11) -/

theorem execChunkClose_canonical {src dst : Fin 64} {cls : Fin 8} {s : State} (h : s.Canonical) :
    Res.Canonical (execChunkClose src dst cls s) :=
  .next (.ite h.closeChunk.bump h)

theorem execFirstStageSlot_canonical {c t : Fin 64} {s : State} (h : s.Canonical) : Res.Canonical (execFirstStageSlot c t s) := by
  refine .next (.ite h ?_)
  refine .onFab (.foldl (fun _ _ h => .ite h ?_) h)
  split
  · exact h
  · exact h.onFab.bufSub.bump.startWake

theorem execAcceptMapPublish_canonical {c : Fin 64} {s : State} (h : s.Canonical) : Res.Canonical (execAcceptMapPublish c s) :=
  .next h.onFab

theorem State.Canonical.measure {c : Nat} {sent : Bool} {s : State} (h : s.Canonical) : (s.measure c sent).Canonical :=
  .onIf (fun _ h => h.onCell) h

theorem execSecondStageSlot_canonical {c t : Fin 64} {slow : BitVec 4} {s : State} (h : s.Canonical) :
    Res.Canonical (execSecondStageSlot c t slow s) := by
  refine .next (.ite h ?_)
  dsimp only
  refine .foldl (fun _ _ h => ?_) h
  split
  · exact h
  · exact .ite h.measure h.measure.onFab.bufSub.bump.startWake

theorem State.Canonical.landChunk {c : Chunk} {s : State} (h : s.Canonical) : (s.landChunk c).Canonical :=
  .freeChunks (.onFab (.foldl (fun _ _ h => h.landPiece) h))

theorem State.Canonical.losePieces {cell : Nat} {l : List Piece} {s : State} (h : s.Canonical) :
    (s.losePieces cell l).Canonical :=
  .foldl (fun _ _ h => .ite h.badTail.onFrame.settle h.badTail) h

theorem State.Canonical.onPairOf {dst src : Nat} {f : Pair → Pair} {s : State} (h : s.Canonical) :
    (s.onPairOf dst src f).Canonical :=
  h.onFab

theorem State.Canonical.releaseRun {n dst src : Nat} {s : State} (h : s.Canonical) : (releaseRun n dst src s).Canonical := by
  induction n generalizing s with
  | zero => exact h
  | succ n ih =>
    dsimp only [Machine.releaseRun]
    split
    · exact h.onPairOf
    · exact ih h.onPairOf.bufSub.landChunk

theorem State.Canonical.takeMissing {src dst seq pgen : Nat} {s : State} (h : s.Canonical) :
    (s.takeMissing src dst seq pgen).2.Canonical :=
  .snd h.onFab

theorem State.Canonical.declareLost {dst src : Nat} {s : State} (h : s.Canonical) : (s.declareLost dst src).Canonical := by
  dsimp only [State.declareLost]
  split
  · exact h
  · refine .releaseRun (.onPairOf (.raise (.bump (.bump (.losePieces ?_)))))
    exact List.foldlRecOn (motive := fun a : List Piece × State => a.2.Canonical) _ _ h fun a ha i _ => ha.takeMissing

theorem execReseqLost_canonical {d src : Fin 64} {s : State} (h : s.Canonical) : Res.Canonical (execReseqLost d src s) :=
  .next h.declareLost

theorem State.Canonical.forceRoom {n dst : Nat} {s : State} (h : s.Canonical) : (forceRoom n dst s).Canonical := by
  induction n generalizing s with
  | zero => exact h
  | succ n ih =>
    dsimp only [Machine.forceRoom]
    split
    · exact h
    · split
      · exact h
      · exact ih h.declareLost.bump

theorem State.Canonical.judgeChunk {c : Chunk} {s : State} (h : s.Canonical) : (s.judgeChunk c).Canonical := by
  unfold State.judgeChunk
  refine .ite ?_ ?_
  · exact h.losePieces.bump
  · exact .ite h.onPairOf.landChunk.releaseRun h.onPairOf.bufAdd

theorem State.Canonical.resequence {c : Chunk} {s : State} (h : s.Canonical) : (s.resequence c).Canonical :=
  .ite h.forceRoom.judgeChunk.forceRoom h.judgeChunk

theorem execChunkArrival_canonical {c : Fin 64} {crcOk : Bool} {s : State} (h : s.Canonical) :
    Res.Canonical (execChunkArrival c crcOk s) := by
  refine .next (.ite h ?_)
  split
  · exact h
  · refine .ite (.ite h.onFab.losePieces h.onFab.onFab) ?_
    refine .ite ?_ ?_
    · exact h.onFab.onFab.bump.raise
    · exact .ite h.onFab.bump.resequence h.onFab.onFab.bufAdd

theorem State.Canonical.bench {c : Nat} {s : State} (h : s.Canonical) : (s.bench c).2.Canonical := by
  dsimp only [State.bench]
  split
  · exact h
  · rename_i heq
    exact (h.dutyPlaceIf heq).onCell.bump.raise

theorem execBenchWindow_canonical {c : Fin 64} {s0 : State} (h : s0.Canonical) : Res.Canonical (execBenchWindow c s0) := by
  refine .next (.ite h.onCell ?_)
  refine .ite (.ite h.onCell.onCell.onCell ?_) h.onCell.onCell.onCell.endLive
  refine .ite ?_ ?_
  · exact h.onCell.onCell
  · exact .ite h.onCell.onCell.bench h.onCell.onCell.raise

theorem execBenchStart_canonical {c : Fin 64} {s : State} (h : s.Canonical) : Res.Canonical (execBenchStart c s) :=
  .next (.ite h.onCell h)

theorem execDutyRejoin_canonical {c : Fin 64} {s : State} (h : s.Canonical) : Res.Canonical (execDutyRejoin c s) :=
  .next (.ite (.endLive (.onCell (.ite h.onCell h))) (.ite h.onCell h))

theorem State.Canonical.demote {fid : Nat} {s : State} (h : s.Canonical) : (s.demote fid).Canonical :=
  .onIf (fun _ h => h.ledger) h.onFrame.packFrame

theorem State.Canonical.dropFrame {fid status : Nat} {s : State} (h : s.Canonical) : (s.dropFrame fid status).Canonical :=
  h.onFrame.settle

theorem State.Canonical.takeChannels {fid n : Nat} {s : State} (h : s.Canonical) : (s.takeChannels fid n).Canonical :=
  .ite h.onCell h.onFrame

theorem State.Canonical.injectCol {fid p : Nat} {s : State} (h : s.Canonical) : (s.injectCol fid p).Canonical := by
  unfold State.injectCol
  refine .ite h.bump.demote (.ite h.bump.ledger.takeChannels.bump.dropFrame ?_)
  refine .ite h.bump.ledger.takeChannels.bump.dropFrame ?_
  refine .ite ?_ ?_
  · exact h.bump.ledger.takeChannels.bump.dropFrame
  · exact h.bump.ledger.takeChannels.onEgr.onFrame.feedCol

theorem State.Canonical.colPolice {x : Frame} {s : State} (h : s.Canonical) : (s.colPolice x).2.Canonical := by
  unfold State.colPolice
  refine .snd_ite ?_ ?_
  · exact .snd h
  · exact .snd h.onPort

theorem execColInject_canonical {fid : Nat} {s : State} (h : s.Canonical) : Res.Canonical (execColInject fid s) := by
  refine .next ?_
  split
  · exact h
  · refine .ite h.onFrm.colPolice.bump.demote (.ite h.onFrm.colPolice.bump.demote ?_)
    refine .ite h.onFrm.colPolice.injectCol ?_
    refine .ite ?_ ?_
    · exact h.onFrm.colPolice.bufAdd.onFrm
    · exact h.onFrm.colPolice.bump.ledger.dropFrame

theorem execColHeldInject_canonical {c : Fin 64} {s : State} (h : s.Canonical) : Res.Canonical (execColHeldInject c s) := by
  refine .next (.ite h ?_)
  split
  · exact h
  · exact h.onFrm.bufSub.injectCol

theorem execFabStatus_canonical {r : Req} {s : State} (h : s.Canonical) : Res.Canonical (execFabStatus r s) :=
  .mailbox h fun _ => .mk h

theorem execFabBench_canonical {r : Req} {s : State} (h : s.Canonical) : Res.Canonical (execFabBench r s) :=
  .mailbox h fun _ => by
    refine .ite ?_ ?_
    · exact .ite (.mk h) (.ite (.mk h) (.mk h.bench))
    · exact .ite (.mk h) (.ite (.mk h.onCell.endLive) (.mk h.onCell))

theorem execFabColPolicer_canonical {r : Req} {s : State} (h : s.Canonical) : Res.Canonical (execFabColPolicer r s) :=
  .mailbox h fun _ => .ite (.mk h) (.mk (h.stageBy .setColPolicer))

theorem execFabBufSet_canonical {r : Req} {s : State} (h : s.Canonical) : Res.Canonical (execFabBufSet r s) :=
  .mailbox h fun _ => .mk (h.stageBy .setBuf)

theorem execFabStatsRead_canonical {r : Req} {s : State} (h : s.Canonical) : Res.Canonical (execFabStatsRead r s) :=
  .mailbox h fun _ => .mk h

/-! ## Ports and lanes (06) -/

theorem State.Canonical.dropLink {p : Nat} {s : State} (h : s.Canonical) : (s.dropLink p).Canonical := by
  unfold State.dropLink
  refine .foldl (fun _ _ h => h.bump.endCopies.closeFrame) (.foldl (fun _ _ h => h.refuseCopy) ?_)
  split
  · refine .setHeld (.endTx ?_)
    split
    · exact .ite h.endTx h
    · exact h
  · split
    · exact .ite h.endTx h
    · exact h

theorem State.Canonical.setLink {p : Nat} {l : Link} {s : State} (h : s.Canonical) : (s.setLink p l).Canonical :=
  .ite h (.onPort (.ite h.dropLink.bump.raise h))

theorem execLinkUp_canonical {p : Fin 1024} {deskew : Nat} {s : State} (h : s.Canonical) :
    Res.Canonical (execLinkUp p deskew s) :=
  .next (.ite h.onPort.raise h)

theorem execLinkDown_canonical {p : Fin 1024} {s : State} (h : s.Canonical) : Res.Canonical (execLinkDown p s) :=
  .next (.ite h.setLink h)

theorem execLossOfSignal_canonical {lane : Fin 1024} {s : State} (h : s.Canonical) : Res.Canonical (execLossOfSignal lane s) :=
  .next (.ite h h.raise)

theorem execLaneShutdown_canonical {p : Fin 1024} {s : State} (h : s.Canonical) : Res.Canonical (execLaneShutdown p s) :=
  .next (.ite (.onPort (.ite h.raise.setLink h.raise)) h)

theorem execLpiEntry_canonical {p : Fin 1024} {rx : Bool} {s : State} (h : s.Canonical) : Res.Canonical (execLpiEntry p rx s) :=
  .next (.ite (.ite h.onPort (.ite h.onPort.bump.emit h)) h)

theorem execLpiExit_canonical {p : Fin 1024} {s : State} (h : s.Canonical) : Res.Canonical (execLpiExit p s) :=
  .next (.ite (.ite h.onPort.emit.chooseTx h.onPort.emit) h)

theorem execPartnerLpiExit_canonical {p : Fin 1024} {s : State} (h : s.Canonical) : Res.Canonical (execPartnerLpiExit p s) :=
  .next (.ite h.onPort.startWake h)

theorem execVerifyResult_canonical {p : Fin 1024} {ok : Bool} {s : State} (h : s.Canonical) :
    Res.Canonical (execVerifyResult p ok s) :=
  .next (.ite (.ite h.onPort.endLive h.onPort.raise) h)

theorem execHoldBufferStore_canonical {p : Fin 1024} {data : List Byte} {pcsErr : Bool} {fragments : Nat} {s : State}
    (h : s.Canonical) : Res.Canonical (execHoldBufferStore p data pcsErr fragments s) := by
  refine .next (.ite ?_ h)
  refine .ite ?_ ?_
  · exact .bump (.onIf (fun _ h => h.bump) h.startWake)
  · exact .onPort (.onIf (fun _ h => h.bump) h.startWake)

theorem execPortSet_canonical {r : Req} {s : State} (h : s.Canonical) : Res.Canonical (execPortSet r s) :=
  .mailbox h fun _ => .ite (.mk h) (.ite (.mk h) (.mk (h.stageBy .setPort)))

theorem execPortStatus_canonical {r : Req} {s : State} (h : s.Canonical) : Res.Canonical (execPortStatus r s) :=
  .mailbox h fun _ => .ite (.mk h) (.mk h)

theorem execPortStatsRead_canonical {r : Req} {s : State} (h : s.Canonical) : Res.Canonical (execPortStatsRead r s) :=
  .mailbox h fun _ => .ite (.mk h) (.mk h)

/-! ## Lookups (08) -/

theorem State.Canonical.lookupRoute {k : Look} {s : State} (h : s.Canonical) : (s.lookupRoute k).2.Canonical := by
  unfold State.lookupRoute
  split
  · exact .snd h
  · exact .snd h.bump

theorem State.Canonical.lookupSource {k : Look} {fid : Nat} {s : State} (h : s.Canonical) :
    (s.lookupSource k fid).2.Canonical := by
  unfold State.lookupSource
  refine .snd_ite (.snd h) ?_
  split
  · exact .snd (.onIf (fun _ h => h.report) h.bump)
  · refine .snd_ite (.snd h.touch) ?_
    refine .snd_ite ?_ ?_
    · exact .snd (.onIf (fun _ h => h.report) h.touch)
    · exact .snd (.onIf (fun _ h => h.report) h.touch.bump)

theorem State.Canonical.lookupDest {k : Look} {fid : Nat} {s : State} (h : s.Canonical) : (s.lookupDest k fid).2.Canonical := by
  unfold State.lookupDest
  split
  · exact .snd h.touch.bump
  · exact .snd (.onIf (fun _ h => h.report) h.bump)

theorem State.Canonical.lookups {k : Look} {s : State} (h : s.Canonical) : (s.lookups k).2.Canonical := by
  unfold State.lookups
  refine .snd_ite (.snd h) ?_
  refine .snd_ite ?_ ?_
  · exact h.lookupRoute
  · exact .snd h.lookupDest.lookupSource

/-! ## The pipeline (07) -/

theorem State.Canonical.stopFrame {fid kind inst idx : Nat} {s : State} (h : s.Canonical) :
    (s.stopFrame fid kind inst idx).Canonical :=
  h.bump.ledger.dropFrame

theorem State.Canonical.arrive {fid : Nat} {l : List Byte} {s : State} (h : s.Canonical) : (s.arrive fid l).Canonical :=
  h.onFrm

theorem State.Canonical.puntFrame {fid reason : Nat} {s : State} (h : s.Canonical) : (s.puntFrame fid reason).Canonical :=
  .ite h.ledger.punt.dropFrame h.ledger.onFrame

theorem State.Canonical.issueFrame {fid : Nat} {s : State} (h : s.Canonical) : (s.issueFrame fid).Canonical := by
  unfold State.issueFrame
  refine .ite h.ledger.dropFrame ?_
  refine .ite ?_ ?_
  · exact h.onFrame.onFrm
  · exact .onIf (fun _ h => h.ledger) h.onFrame.packFrame

theorem State.Canonical.degrade {fid : Nat} {s : State} (h : s.Canonical) : (s.degrade fid).Canonical :=
  .ite h.bump.ledger.dropFrame h.bump.issueFrame

theorem State.Canonical.holdAt {fid : Nat} {y : Stay} {s : State} (h : s.Canonical) : (s.holdAt fid y).Canonical :=
  h.onFrame.onFrm

theorem State.Canonical.postFlow {fid : Nat} {p : Parsed} {a : Action} {s : State} (h : s.Canonical) :
    (s.postFlow fid p a).Canonical := by
  unfold State.postFlow
  refine .ite h.holdAt (.ite (.ite h.onFrame.degrade h.issueFrame) ?_)
  refine .ite ?_ ?_
  · exact h.postOp.onFrame.issueFrame
  · exact .ite h.postOp.onFrame.bufAdd.onFrm h.postOp.onFrame.bump.degrade

theorem State.Canonical.mirror {fid session : Nat} {s : State} (h : s.Canonical) : (s.mirror fid session).Canonical :=
  .ite (.ite h.newFrame.startWake.packFrame h.newFrame.startWake) h

theorem State.Canonical.conclude {fid : Nat} {p : Parsed} {a : Action} {col : Bool} {v : Verdict} {s : State} (h : s.Canonical) :
    (s.conclude fid p a col v).Canonical := by
  unfold State.conclude
  split
  · exact h.ledger.dropFrame
  · exact h.stopFrame
  · exact h.puntFrame
  · refine .ite ?_ ?_
    · exact .dropFrame (.ledger (.onFrame (.onIf (fun _ h => h.bump) (.onIf (fun _ h => h.bump) h))))
    · refine .ite ?_ ?_
      · exact .postFlow (.foldl (fun _ _ h => h.startWake) (.onFrame (.onIf (fun _ h => h.bump) (.onIf (fun _ h => h.bump) h))))
      · exact .issueFrame (.foldl (fun _ _ h => h.startWake) (.onFrame (.onIf (fun _ h => h.bump) (.onIf (fun _ h => h.bump) h))))

theorem State.Canonical.decap {fid inner : Nat} {s : State} (h : s.Canonical) : (s.decap fid inner).Canonical :=
  h.onFrame.onFrm.ledger

theorem State.Canonical.decide_ {fid : Nat} {k : Look} {a : Action} {look : Verdict} {s : State} (h : s.Canonical) :
    (s.decide_ fid k a look).Canonical := by
  unfold State.decide_
  refine .ite h.bump.puntFrame (.ite h.holdAt (.ite h.puntFrame ?_))
  refine .ite h.puntFrame (.ite (.decap (.onIf (fun _ h => h.bump) h)) ?_)
  split
  · exact .conclude (.onIf (fun _ h => h.bump) h)
  · refine .ite ?_ ?_
    · exact .conclude (.onIf (fun _ h => h.bump) h)
    · exact .stopFrame (.onIf (fun _ h => h.bump) h)
  · exact .conclude (.onIf (fun _ h => h.bump) h)
  · exact .conclude (.onIf (fun _ h => h.bump) h)

theorem State.Canonical.resolve {fid : Nat} {k : Look} {a : Action} {look : Verdict} {s : State} (h : s.Canonical) :
    (s.resolve fid k a look).Canonical := by
  unfold State.resolve
  refine .ite ?_ ?_
  · exact .stopFrame (.onIf (fun _ h => h.mirror) (.onIf (fun _ h => h.bump.bump) h))
  · refine .ite ?_ ?_
    · refine .ite ?_ ?_
      · exact .dropFrame (.ledger (.chargeMeter (.onIf (fun _ h => h.mirror) (.onIf (fun _ h => h.bump.bump) h))))
      · exact .decide_ (.onFrame (.chargeMeter (.onIf (fun _ h => h.mirror) (.onIf (fun _ h => h.bump.bump) h))))
    · exact .decide_ (.onIf (fun _ h => h.mirror) (.onIf (fun _ h => h.bump.bump) h))

theorem State.Canonical.pass {fid : Nat} {s : State} (h : s.Canonical) : (s.pass fid).Canonical :=
  .resolve (.lookups (.onFrame (.onIf (fun _ h => h.pmuEvent) (.pmuKey (.onIf (fun _ h => h.bump) (.onIf (fun _ h => h.bump) (.onIf (fun _ h => h.bump) h.bump)))))))

theorem State.Canonical.countLate {fid : Nat} {s : State} (h : s.Canonical) : (s.countLate fid).Canonical :=
  .ite h.bump.onFrame h

theorem State.Canonical.tagFrame {fid : Nat} {s : State} (h : s.Canonical) : (s.tagFrame fid).Canonical :=
  h.onFrame

theorem State.Canonical.goOn {fid : Nat} {y : Stay} {s : State} (h : s.Canonical) : (s.goOn fid y).Canonical := by
  unfold State.goOn
  split
  · exact h.onFrame.onFrm.decide_
  · exact h.onFrame.onFrm.postFlow

theorem State.Canonical.advance {fid : Nat} {s : State} (h : s.Canonical) : (s.advance fid).Canonical := by
  unfold State.advance
  split
  · exact h.goOn
  · refine .ite ?_ ?_
    · exact .ite h.tagFrame.countLate h.tagFrame.countLate.onFrm
    · exact h.tagFrame.countLate.onFrm.pass

theorem State.Canonical.finishFrame {fid : Nat} {rest : List Byte} {bad : Bool} {s : State} (h : s.Canonical) :
    (s.finishFrame fid rest bad).Canonical := by
  unfold State.finishFrame
  refine .closeFrame (.endCopies ?_)
  split
  · exact .ite h.arrive h.arrive.punt
  · exact h.arrive

theorem State.Canonical.endFrame {fid : Nat} {rest : List Byte} {t : FrameTail} {s : State} (h : s.Canonical) :
    (s.endFrame fid rest t).Canonical := by
  dsimp only [State.endFrame]
  split
  · exact h
  · refine .ite h ?_
    split
    · exact h.bump.finishFrame
    · exact .finishFrame (.onIf (fun _ h => h.bump) (.onIf (fun _ h => h.bump) h.bump.bump))

theorem execFrameEnd_canonical {fid : Nat} {rest : List Byte} {t : FrameTail} {s : State} (h : s.Canonical) :
    Res.Canonical (execFrameEnd fid rest t s) :=
  .next (.ite h.endFrame h)

theorem State.Canonical.enterFrame {x : Frame} {s : State} (h : s.Canonical) : (s.enterFrame x).2.Canonical :=
  .snd h.newFrame.advance

theorem State.Canonical.countLine {p : Nat} {a : Arrival} {s : State} (h : s.Canonical) : (s.countLine p a).Canonical :=
  .onIf (fun _ h => h.bump) (.onIf (fun _ h => h.bump) (.onIf (fun _ h => h.bump) h))

theorem State.Canonical.receive {p : Nat} {a : Arrival} {ts : Nat} {s : State} (h : s.Canonical) :
    (s.receive p a ts).Canonical := by
  unfold State.receive
  refine .ite h.countLine.bump (.ite h.countLine.bump ?_)
  refine .ite (.onIf (fun _ h => h.bump) h.countLine) ?_
  refine .ite ?_ ?_
  · refine .endFrame ?_
    refine .snd_ite ?_ ?_
    · exact .snd h.countLine.bump.newFrame.dropFrame
    · exact h.countLine.enterFrame
  · refine .snd_ite ?_ ?_
    · exact .snd h.countLine.bump.newFrame.dropFrame
    · exact h.countLine.enterFrame

theorem execPipelineEntry_canonical {p : Fin 1024} {a : Arrival} {s : State} (h : s.Canonical) :
    Res.Canonical (execPipelineEntry p a s) :=
  .next (.ite h.receive h)

theorem execLateKeyEntry_canonical {fid : Nat} {more : List Byte} {s : State} (h : s.Canonical) :
    Res.Canonical (execLateKeyEntry fid more s) :=
  .next (.ite (.ite h.advance (.ite h.bump.finishFrame h.arrive.advance)) h)

theorem execRecirculationPass_canonical {fid : Nat} {s : State} (h : s.Canonical) : Res.Canonical (execRecirculationPass fid s) :=
  .next (.ite h.onFrm.advance h)

theorem execHoldRelease_canonical {p : Fin 1024} {uncorrectable : Bool} {s : State} (h : s.Canonical) :
    Res.Canonical (execHoldRelease p uncorrectable s) := by
  refine .next ?_
  split
  · exact h
  · refine .ite ?_ h
    refine .ite ?_ ?_
    · exact h.onPort.pmuEvent.bump.drawNat.raise
    · exact h.onPort.pmuEvent.receive

theorem State.Canonical.unpark {fid : Nat} {s : State} (h : s.Canonical) : (s.unpark fid).Canonical := by
  unfold State.unpark
  split
  · exact h
  · exact h.bufSub.onFrm

theorem State.Canonical.sampleResult {o : Op} {times : SampleTimes} {own : Bool} {s : State} (h : s.Canonical) :
    (s.sampleResult o times own).Canonical :=
  .ite h (.ite h.onPmu.noteEvt.pushEvent h.onPmu.pmuEvent)

theorem State.Canonical.applyResult {fid : Nat} {y : List Word} {s : State} (h : s.Canonical) :
    (s.applyResult fid y).Canonical := by
  dsimp only [State.applyResult]
  refine .ite h.stopFrame (.ite h.bump.puntFrame (.ite h.stopFrame ?_))
  refine .ite ?_ h.onFrame.issueFrame
  split
  · exact h.bump.stopFrame
  · exact h.bump.ledger.dropFrame
  · exact h.bump.puntFrame
  · exact .issueFrame (.onFrame (.foldl (fun _ _ h => h.startWake) h.bump.onFrame))

theorem State.Canonical.frameResult {fid : Nat} {r : List Word} {s : State} (h : s.Canonical) :
    (s.frameResult fid r).Canonical := by
  unfold State.frameResult
  refine .ite ?_ ?_
  · exact h.postVoid.ledger.onFrame.dropFrame
  · exact .ite h.degrade h.applyResult

theorem execFlowResult_canonical {c : Fin 64} {tag : Fin 256} {times : SampleTimes} {own : Bool} {s : State} (h : s.Canonical) :
    Res.Canonical (execFlowResult c tag times own s) := by
  refine .next ?_
  split
  · exact h
  · refine .ite h.startWake (.ite h ?_)
    refine .ite ?_ ?_
    · exact h.onOp.sendOps.sampleResult.unpark.frameResult
    · exact h.onOp.sendOps.sampleResult

theorem State.Canonical.giveUp {o : Op} {s : State} (h : s.Canonical) : (s.giveUp o).Canonical := by
  unfold State.giveUp
  refine .ite (.onIf (fun _ h => h.unpostOp) h.unpark) ?_
  refine .ite ?_ ?_
  · exact .dropFrame (.onFrame (.ledger (.postVoid (.onIf (fun _ h => h.unpostOp) h.unpark))))
  · exact .degrade (.onIf (fun _ h => h.unpostOp) h.unpark)

theorem execWaitLimitExpiry_canonical {c : Fin 64} {tag : Fin 256} {s : State} (h : s.Canonical) :
    Res.Canonical (execWaitLimitExpiry c tag s) := by
  refine .next ?_
  split
  · exact h
  · exact h.giveUp

theorem execFlowFormat_canonical {r : Req} {s : State} (h : s.Canonical) : Res.Canonical (execFlowFormat r s) :=
  .mailbox h fun _ => by
    refine .ite ?_ ?_
    · exact .mk h
    · exact .mk (.onFlo (.foldl (fun _ _ h => h.giveUp) (.ite h h.drawWords)))

/-! ## Cells: sleep, wakes, epochs, isolation and resets (03; 16 R549) -/

theorem execDozeEntry_canonical {c : Fin 64} {s : State} (h : s.Canonical) : Res.Canonical (execDozeEntry c s) :=
  .next (.ite h.onCell h)

theorem execSlumberEntry_canonical {c : Fin 64} {s : State} (h : s.Canonical) : Res.Canonical (execSlumberEntry c s) :=
  .next (.ite h.onCell h)

theorem State.Canonical.applyLink {p : Nat} {s : State} (h : s.Canonical) : (s.applyLink p).Canonical := by
  unfold State.applyLink
  refine .ite ?_ ?_
  · exact h.setLink.onPort
  · exact .ite h (.onPort (.setLink (.ite h h.setLink)))

theorem State.Canonical.applyPreempt {p : Nat} {s : State} (h : s.Canonical) : (s.applyPreempt p).Canonical :=
  h.onPort

theorem State.Canonical.applyGate {p : Nat} {s : State} (h : s.Canonical) : (s.applyGate p).Canonical :=
  .ite h h.scheduleGates

theorem State.Canonical.applyPort {old : Cfg} {p : Nat} {s : State} (h : s.Canonical) : (s.applyPort old p).Canonical :=
  .ite h.onEgr h.onEgr.onPort

theorem State.Canonical.acceptEpoch {c : Nat} {s : State} (h : s.Canonical) : (s.acceptEpoch c).Canonical :=
  .ite h (.foldl (fun _ _ h => h.applyPort) h.onHif.onCell)

theorem State.Canonical.enactEpoch {c : Nat} {s : State} (h : s.Canonical) : (s.enactEpoch c).Canonical :=
  .foldl (fun _ _ h => h.applyLink.applyPreempt.applyGate) h

theorem execCellEpochApply_canonical {c : Fin 64} {slots : BitVec 8} {s0 : State} (h : s0.Canonical) :
    Res.Canonical (execCellEpochApply c slots s0) := by
  refine .next (.ite h.sees ?_)
  split
  · exact h.sees.acceptEpoch.enactEpoch.settleCommit
  · exact h.sees.acceptEpoch.settleCommit
  · exact h.sees.acceptEpoch.settleCommit
  · exact h.sees

theorem State.Canonical.isolatePorts {c : Nat} {s : State} (h : s.Canonical) : (s.isolatePorts c).Canonical :=
  .foldl (fun _ _ h => .ite h h.setLink) h

theorem execCommitIsolation_canonical {c : Fin 64} {slots : BitVec 8} {s0 : State} (h : s0.Canonical) :
    Res.Canonical (execCommitIsolation c slots s0) :=
  .next (.ite h.sees h.sees.isolatePorts.onHif.raise.irq.settleCommit)

theorem execCellWake_canonical {c : Fin 64} {t : WakeTrigger} {s : State} (h : s.Canonical) :
    Res.Canonical (execCellWake c t s) := by
  refine .next ?_
  split
  · exact .ite h.startWake h
  · exact .ite h.startWake h
  · exact h.startWake

theorem State.Canonical.makeHeld {c : Nat} {h : DynWrite} {s : State} (hs : s.Canonical) : (s.makeHeld c h).2.Canonical := by
  unfold State.makeHeld
  split
  · exact .snd hs
  · refine .snd_ite ?_ ?_
    · exact .snd hs.dynMake
    · exact .snd hs.dynMake.putMaster
  · exact .snd hs.dynMake

theorem State.Canonical.applyHeld {c : Nat} {l : List DynWrite} {own : List Bool} {s : State} (h : s.Canonical) :
    (s.applyHeld c l own).Canonical := by
  induction l generalizing own s with
  | nil => exact h
  | cons w l ih =>
    dsimp only [State.applyHeld]
    split
    · exact ih h.makeHeld
    · exact ih h.makeHeld.dropCopyOf.learnEvent

theorem State.Canonical.reinitCell {c : Nat} {s : State} (h : s.Canonical) : (s.reinitCell c).Canonical := by
  dsimp only [State.reinitCell]
  exact h.onCell.onEgr

theorem execWakeComplete_canonical {c : Fin 64} {own : List Bool} {slots : BitVec 8} {s0 : State} (h : s0.Canonical) :
    Res.Canonical (execWakeComplete c own slots s0) := by
  refine .next ?_
  split
  · exact h.sees.onCell
  · refine .pmuRelease (.applyHeld ?_)
    refine .ite ?_ ?_
    · exact h.sees.reinitCell.onCell.acceptEpoch.enactEpoch.settleCommit
    · exact h.sees.reinitCell.onCell
  · exact h.sees

theorem State.Canonical.wakeSome {n : Nat} {l : List Nat} {s : State} (h : s.Canonical) : (wakeSome n l s).Canonical := by
  induction l generalizing n s with
  | nil => cases n <;> exact h
  | cons c l ih =>
    cases n with
    | zero => exact h
    | succ n => exact ih h.startWake

theorem State.Canonical.wakeForDuty {s : State} (h : s.Canonical) : s.wakeForDuty.Canonical :=
  h.wakeSome

theorem State.Canonical.isolateCell {c : Nat} {s : State} (h : s.Canonical) : (s.isolateCell c).Canonical :=
  .ite h h.isolatePorts.onCell.wakeForDuty

theorem execCellWakeTimeout_canonical {c : Fin 64} {s : State} (h : s.Canonical) : Res.Canonical (execCellWakeTimeout c s) := by
  refine .next ?_
  split
  · exact .ite h.raise.isolateCell h
  · exact h

theorem execCellIsolation_canonical {c : Fin 64} {s : State} (h : s.Canonical) : Res.Canonical (execCellIsolation c s) :=
  .next (.ite h.isolateCell h)

theorem State.Canonical.fatalEvent {e : Ev} {s : State} (h : s.Canonical) : (s.fatalEvent e).Canonical := by
  dsimp only [State.fatalEvent]
  exact .onCrn (.onIf (fun _ h => h.sealBegin) h.raise)

theorem State.Canonical.unitFault {u : SupplyUnit} {s : State} (h : s.Canonical) : (s.unitFault u).Canonical := by
  unfold State.unitFault
  split
  · exact .ite h h.raise.isolateCell
  · exact h.fatalEvent
  · exact h.fatalEvent
  · exact h.fatalEvent
  · exact h.fatalEvent
  · exact h.raise
  · exact h.fatalEvent
  · exact h.raise

theorem execSupplyFault_canonical {u : SupplyUnit} {s : State} (h : s.Canonical) : Res.Canonical (execSupplyFault u s) :=
  .next (.ite h.unitFault h)

theorem State.Canonical.resetPort {p : Nat} {s : State} (h : s.Canonical) : (s.resetPort p).Canonical :=
  .onPort (.foldl (fun _ _ h => h.refuseCopy) h.dropLink)

theorem State.Canonical.loseFrame {fid : Nat} {s : State} (h : s.Canonical) : (s.loseFrame fid).Canonical :=
  .dropFrame (.onFrame (.onFrm (.unpark (.onIf (fun _ h => h.bump) h))))

theorem State.Canonical.resetChunks {c : Nat} {s : State} (h : s.Canonical) : (s.resetChunks c).Canonical := by
  unfold State.resetChunks
  refine .foldl (fun _ _ h => h.losePieces) (.onIf (fun _ h => h.bump) (.foldl (fun _ _ h => .ite h (.foldl (fun _ _ h => h.bump) h)) (.foldl (fun _ _ h => ?_) h.onFab)))
  refine .ite ?_ ?_
  · exact .onPairOf (.ite h (.foldl (fun _ _ h => h.bufSub) h))
  · exact .onPairOf (.onPairOf (.ite h (.foldl (fun _ _ h => h.bufSub) h)))

theorem State.Canonical.startCellReset {c : Nat} {s : State} (h : s.Canonical) : (s.startCellReset c).Canonical :=
  .onCell <| .pmuDrop <| .reinitCell <| .onFlo <| .resetChunks <| .foldl (fun _ _ h => h.loseFrame) <|
    .foldl (fun _ _ h => h.resetPort) h.filterCounters

theorem State.Canonical.clearIsolation {c : Nat} {s : State} (h : s.Canonical) : (s.clearIsolation c).Canonical :=
  .foldl (fun _ _ h => h.endLive) h.onHif.onCell

theorem execResetCell_canonical {r : Req} {s : State} (h : s.Canonical) : Res.Canonical (execResetCell r s) :=
  .mailbox h fun _ => by
    dsimp only
    split
    · exact .mk h
    · split
      · exact .mk (.foldl (fun _ _ h => .ite h.setLink h) h.clearIsolation)
      · split
        · exact .mk h
        · rename_i heq
          exact .mk (h.dutyPlaceIf heq).startCellReset

theorem execCellResetDone_canonical {c : Fin 64} {own : List Bool} {slots : BitVec 8} {s0 : State} (h : s0.Canonical) :
    Res.Canonical (execCellResetDone c own slots s0) := by
  refine .next ?_
  refine .ite ?_ ?_
  · exact .answerDeferred (.applyHeld (.settleCommit (.enactEpoch (.acceptEpoch (.foldl (fun _ _ h => .ite h.setLink h) h.sees.clearIsolation.onCell)))))
  · exact h.sees

theorem execResetLane_canonical {r : Req} {s : State} (h : s.Canonical) : Res.Canonical (execResetLane r s) :=
  .mailbox h fun _ => .ite (.mk h) (.mk (.endLive (.onPort (.ite h.setLink h))))

theorem execPowerHoldAwake_canonical {r : Req} {s : State} (h : s.Canonical) : Res.Canonical (execPowerHoldAwake r s) :=
  .mailbox h fun _ => .mk (.foldl (fun _ _ h => h.startWake) h.onHif)

/-! ## Faults (16) -/

theorem State.Canonical.rearm {s : State} (h : s.Canonical) : s.rearm.Canonical :=
  h.onFlt

theorem execFltEvtWrite_canonical {n : Fin 36} {v : Word} {s : State} (h : s.Canonical) : Res.Canonical (execFltEvtWrite n v s) :=
  .next (.access (fun _ h => h.clearSources) h)

theorem execFfrValidWrite_canonical {v : Word} {s : State} (h : s.Canonical) : Res.Canonical (execFfrValidWrite v s) :=
  .next (.access (fun _ h => .ite h.rearm h) h)

theorem execFltStatus_canonical {r : Req} {s : State} (h : s.Canonical) : Res.Canonical (execFltStatus r s) :=
  .mailbox h fun _ => .mk h

theorem execFltRead_canonical {r : Req} {s : State} (h : s.Canonical) : Res.Canonical (execFltRead r s) :=
  .mailbox h fun _ => .mk h

theorem execFltClear_canonical {r : Req} {s : State} (h : s.Canonical) : Res.Canonical (execFltClear r s) :=
  .mailbox h fun _ => .ite (.mk h) (.ite (.mk h.clearSources) (.mk h.clearSources))

theorem execFltFfrRearm_canonical {r : Req} {s : State} (h : s.Canonical) : Res.Canonical (execFltFfrRearm r s) :=
  .mailbox h fun _ => .mk h.rearm

theorem execFltAlertSet_canonical {r : Req} {s : State} (h : s.Canonical) : Res.Canonical (execFltAlertSet r s) :=
  .mailbox h fun _ => .mk h.onFlt

theorem execFltInject_canonical {r : Req} {s : State} (h : s.Canonical) : Res.Canonical (execFltInject r s) :=
  .mailbox h fun _ => .mk h.raiseByCore

theorem execFltEntryWrite_canonical {own : Bool} {s : State} (h : s.Canonical) : Res.Canonical (execFltEntryWrite own s) := by
  refine .next ?_
  split
  · exact h
  · refine .ite h.onFlt ?_
    refine .ite ?_ ?_
    · exact .ite h.onFlt.onFlt.pushEvent h.onFlt.onFlt.pushEvent.onFlt
    · exact h.onFlt.onFlt.onFlt

theorem execFirmwareLogLine_canonical {core : Fin 16} {sev : Fin 3} {id : Nat} {text : List Byte} {own : Bool} {s : State}
    (h : s.Canonical) : Res.Canonical (execFirmwareLogLine core sev id text own s) :=
  .next (.ite h.kindEvent.emit h)

/-! ## Performance monitors (17) -/

theorem State.Canonical.slotTick {c : Nat} {s : State} (h : s.Canonical) : (s.slotTick c).Canonical := by
  unfold State.slotTick
  split
  · exact h.onPmu.pmuEvent
  · exact h.onPmu.pmuEvent.pmuEvent

theorem State.Canonical.dropKeys {s : State} (h : s.Canonical) : s.dropKeys.Canonical :=
  h.onPmu

theorem State.Canonical.pmuTick {b : Nat} {s : State} (h : s.Canonical) : (s.pmuTick b).Canonical := by
  unfold State.pmuTick
  refine .ite h ?_
  refine .ite ?_ ?_
  · exact .slotTick (.foldl (fun _ _ h => h.pmuEvent) (.onIf (fun _ h => h.pmuAdd) h))
  · refine .ite ?_ ?_
    · exact .foldl (fun _ _ h => h.pmuEvent) (.onIf (fun _ h => h.pmuAdd) h)
    · exact .foldl (fun _ _ h => h.pmuOpen) (.foldl (fun _ _ h => h.pmuEvent) (.onIf (fun _ h => h.pmuAdd) h))

theorem State.Canonical.applyDueRate {s : State} (h : s.Canonical) : s.applyDueRate.Canonical := by
  unfold State.applyDueRate
  split
  · exact .ite h.onTim h
  · exact h

theorem State.Canonical.edge {f : Tim → Tim} {s : State} (h : s.Canonical) : (s.edge f).Canonical := by
  unfold State.edge
  refine .ite h ?_
  refine .ite ?_ ?_
  · exact h.onTim.applyDueRate.snapTake
  · exact .onPmu (.foldl (fun _ _ h => h.pmuTick) h.onTim.applyDueRate.snapTake.dropKeys)

theorem State.Canonical.tick {s : State} (h : s.Canonical) : s.tick.Canonical :=
  h.edge

theorem execPmuCntLoWrite_canonical {off : Nat} {v : Word} {s : State} (h : s.Canonical) :
    Res.Canonical (execPmuCntLoWrite off v s) := by
  refine .next ?_
  split
  · exact .access (fun _ h => h.pmuWrite) h
  · exact h

theorem execPmuCntHiWrite_canonical {off : Nat} {v : Word} {s : State} (h : s.Canonical) :
    Res.Canonical (execPmuCntHiWrite off v s) := by
  refine .next ?_
  split
  · exact .access (fun _ h => h.pmuWrite) h
  · exact h

theorem execCounterWrap_canonical {block : Fin 201} {item : Fin 9} {s : State} (h : s.Canonical) :
    Res.Canonical (execCounterWrap block item s) :=
  .next (.ite h.pmuAdd h)

theorem execPmuSet_canonical {r : Req} {s : State} (h : s.Canonical) : Res.Canonical (execPmuSet r s) :=
  .mailbox h fun _ => .mk (.onIf (fun _ h => h.pmuWrite.pmuWrite.pmuWrite) (.foldl (fun _ _ h => h.pmuWrite) h))

theorem execPmuRead_canonical {r : Req} {s : State} (h : s.Canonical) : Res.Canonical (execPmuRead r s) :=
  .mailbox h fun _ => .mk h

theorem execPmuSampleSet_canonical {r : Req} {s : State} (h : s.Canonical) : Res.Canonical (execPmuSampleSet r s) :=
  .mailbox h fun _ => .mk (.foldl (fun _ _ h => h.sampleReload.onPmu) h)

theorem execSampleTrigger_canonical {c : Fin 64} {s : State} (h : s.Canonical) : Res.Canonical (execSampleTrigger c s) :=
  .next (.ite h.onPmu h)

/-! ## Network time (13) -/

theorem execTimeStep_canonical {r : Req} {s : State} (h : s.Canonical) : Res.Canonical (execTimeStep r s) :=
  .mailbox h fun _ => .ite (.mk h) (.mk h.tick.onTim.onTim.applyDueRate.snapTake.raise)

theorem execTimeRate_canonical {r : Req} {s : State} (h : s.Canonical) : Res.Canonical (execTimeRate r s) :=
  .mailbox h fun _ => .ite (.mk h) (.ite (.mk h.edge) (.mk h.onTim))

theorem execRateChangeApply_canonical {s : State} (h : s.Canonical) : Res.Canonical (execRateChangeApply s) :=
  .next (.ite h.tick h)

theorem execTimeStatus_canonical {r : Req} {s : State} (h : s.Canonical) : Res.Canonical (execTimeStatus r s) :=
  .mailbox h fun _ => .mk h

theorem execTimeUtcSet_canonical {r : Req} {s : State} (h : s.Canonical) : Res.Canonical (execTimeUtcSet r s) :=
  .mailbox h fun _ => .mk h.onTim

theorem State.Canonical.clearGates {s : State} (h : s.Canonical) : s.clearGates.Canonical := by
  have hclear : (s.onStg fun g => { g with
      cur := noGates g.cur, prev := noGates g.prev, staged := noGates g.staged
      log := g.log.filter fun w => fld (wordAt w 0) 15 0 != 0x0903 }).Canonical :=
    h.onStg_sorted (tabSorted_filter _ h.cur) (tabSorted_filter _ h.prev) (tabSorted_filter _ h.staged) h.imm
  exact .ite hclear.onEgr hclear.onEgr.appendJournal.onImg

theorem State.Canonical.clearPulses {s : State} (h : s.Canonical) : s.clearPulses.Canonical := by
  dsimp only [State.clearPulses]
  exact .onTim (.foldl (fun _ _ h => .onIf (fun _ h => h.emit) h) h)

theorem execTimeReanchor_canonical {r : Req} {s : State} (h : s.Canonical) : Res.Canonical (execTimeReanchor r s) :=
  .mailbox h fun _ => .mk h.clearGates.clearPulses.onTim.raise

theorem execTimePulseSet_canonical {r : Req} {s : State} (h : s.Canonical) : Res.Canonical (execTimePulseSet r s) :=
  .mailbox h fun _ => .ite (.mk h) (.mk h.onTim)

theorem execPulseEdge_canonical {n : Fin 8} {s : State} (h : s.Canonical) : Res.Canonical (execPulseEdge n s) :=
  .next (.ite h (.ite h.onTim.emit (.ite h.onTim.emit h)))

theorem execFollowerLock_canonical {r : Fin 8} {s : State} (h : s.Canonical) : Res.Canonical (execFollowerLock r s) :=
  .next (.ite h h.onTim.endLive)

theorem execFollowerUnlock_canonical {r : Fin 8} {s : State} (h : s.Canonical) : Res.Canonical (execFollowerUnlock r s) :=
  .next (.ite h.onTim.raise h)

theorem execTimeTcSet_canonical {r : Req} {s : State} (h : s.Canonical) : Res.Canonical (execTimeTcSet r s) :=
  .mailbox h fun _ => .ite (.mk h) (.mk (h.stageBy .setTc))

theorem execTimeTcStats_canonical {r : Req} {s : State} (h : s.Canonical) : Res.Canonical (execTimeTcStats r s) :=
  .mailbox h fun _ => .ite (.mk h) (.mk h)

theorem execPeerDelayMeasurement_canonical {p : Fin 1024} {delay : Nat} {s : State} (h : s.Canonical) :
    Res.Canonical (execPeerDelayMeasurement p delay s) :=
  .next (.ite h.onPort h)

/-! ## The journal restored (03 R101, R103) -/

theorem State.Canonical.restoreJ {s : State} (h : s.Canonical) : s.restoreJ.Canonical := by
  unfold State.restoreJ
  split
  · dsimp only
    split
    · rename_i x hx
      obtain ⟨_, hcfg, himm⟩ := State.replayed_sorted hx
      exact .parkPorts (.onImg (h.dropUnsealed.onStg_sorted hcfg hcfg hcfg himm))
    · exact h.dropUnsealed
  · exact h

/-! ## Images (14) -/

theorem State.Canonical.onInactive {policy : Bool} {f : Slot → Slot} {s : State} (h : s.Canonical) :
    (s.onInactive policy f).Canonical := by
  unfold State.onInactive
  exact h.onImg fun _ => by split <;> rfl

theorem execImgStatus_canonical {r : Req} {s : State} (h : s.Canonical) : Res.Canonical (execImgStatus r s) :=
  .mailbox h fun _ => .mk h

theorem execImgWrite_canonical {r : Req} {s : State} (h : s.Canonical) : Res.Canonical (execImgWrite r s) :=
  .mailbox h fun _ => .ite (.mk h) (.mk h.onInactive)

theorem execImgVerify_canonical {r : Req} {s : State} (h : s.Canonical) : Res.Canonical (execImgVerify r s) :=
  .mailbox h fun _ => .ite (.mk h.onInactive) (.mk h.onInactive)

theorem execImgActivate_canonical {r : Req} {s : State} (h : s.Canonical) : Res.Canonical (execImgActivate r s) :=
  .mailboxThen h
    (fun _ => by
      dsimp only
      split
      · exact .mk h
      · split
        · split
          · exact .mk h
          · exact .mk h.onImg.onStg
        · exact .mk h.onImg)
    fun _ _ h => .ite h.sealNow.beginReset h

theorem execFwConfirm_canonical {r : Req} {b : Burn} {s : State} (h : s.Canonical) : Res.Canonical (execFwConfirm r b s) :=
  .interruptBurn h (.mailbox h fun _ => .ite (.mk h) (.ite (.mk h) (.mk h.onSec.onImg.fuseWrong)))

theorem execJournalSet_canonical {r : Req} {s : State} (h : s.Canonical) : Res.Canonical (execJournalSet r s) :=
  .mailbox h fun _ => .mk (.ite h (.ite h.onImg.checkpoint h.sealNow.onImg))

/-! ## Identity and attestation (15) -/

theorem State.Canonical.authorize {op : Nat} {q : Req} {signer key : Nat} {s : State} (h : s.Canonical) :
    (s.authorize op q signer key).2.Canonical := by
  unfold State.authorize
  split
  · exact .snd h
  · exact .snd h.onHif

theorem State.Canonical.closeChannels {p : Channel → Bool} {s : State} (h : s.Canonical) : (s.closeChannels p).Canonical := by
  dsimp only [State.closeChannels]
  exact h.closeSessions.onHif

theorem execSecStatus_canonical {r : Req} {s : State} (h : s.Canonical) : Res.Canonical (execSecStatus r s) :=
  .mailbox h fun _ => .mk h

theorem execSecNonce_canonical {r : Req} {s : State} (h : s.Canonical) : Res.Canonical (execSecNonce r s) :=
  .mailbox h fun _ => .mk h.drawWords.onHif

theorem execSecOwnerEnroll_canonical {r : Req} {b : Burn} {s : State} (h : s.Canonical) :
    Res.Canonical (execSecOwnerEnroll r b s) :=
  .interruptBurn h <| .mailbox h fun _ => by
    refine .ite ?_ ?_
    · refine .mk ?_
      refine .snd_ite ?_ ?_
      · exact .snd h
      · exact h.authorize
    · refine .ite ?_ ?_
      · refine .mk ?_
        refine .snd_ite ?_ ?_
        · exact .snd h
        · exact h.authorize
      · refine .ite ?_ ?_
        · refine .mk ?_
          refine .snd_ite ?_ ?_
          · exact .snd h
          · exact h.authorize
        · refine .ite ?_ ?_
          · refine .mk (.fuseWrong (.onSec ?_))
            refine .snd_ite ?_ ?_
            · exact .snd h
            · exact h.authorize
          · refine .mk (.onSec ?_)
            refine .snd_ite ?_ ?_
            · exact .snd h
            · exact h.authorize

theorem execSecOwnerRevoke_canonical {r : Req} {b : Burn} {s : State} (h : s.Canonical) :
    Res.Canonical (execSecOwnerRevoke r b s) :=
  .interruptBurn h <| .mailbox h fun _ => by
    refine .ite (.mk h.authorize) (.ite (.mk h.authorize) ?_)
    refine .ite (.mk h.authorize) (.ite (.mk h.authorize) ?_)
    refine .ite ?_ ?_
    · exact .mk h.authorize.fuseWrong
    · exact .mk h.authorize.onSec.closeChannels

theorem execSecCertRead_canonical {r : Req} {s : State} (h : s.Canonical) : Res.Canonical (execSecCertRead r s) :=
  .mailbox h fun _ => .mk h

theorem execSecAttest_canonical {r : Req} {s : State} (h : s.Canonical) : Res.Canonical (execSecAttest r s) :=
  .mailbox h fun _ => .mk h

theorem execSecDebugArm_canonical {r : Req} {s : State} (h : s.Canonical) : Res.Canonical (execSecDebugArm r s) :=
  .mailbox h fun _ => .ite (.mk h.authorize) (.mk h.authorize.onSec)

theorem State.Canonical.lockDebug {s : State} (h : s.Canonical) : s.lockDebug.Canonical :=
  h.onSec

theorem execSecDebugLock_canonical {r : Req} {s : State} (h : s.Canonical) : Res.Canonical (execSecDebugLock r s) :=
  .mailbox h fun _ => .mk h.lockDebug

theorem execNonceLapse_canonical {id : Nat} {s : State} (h : s.Canonical) : Res.Canonical (execNonceLapse id s) :=
  .next h.onHif

theorem execUnlockChallenge_canonical {s : State} (h : s.Canonical) : Res.Canonical (execUnlockChallenge s) :=
  .next (.ite h.drawWords.onSec.emit h)

theorem execUnlockResponse_canonical {scope : Nat} {key sig : List Word} {s : State} (h : s.Canonical) :
    Res.Canonical (execUnlockResponse scope key sig s) := by
  refine .next (.ite ?_ h)
  refine .ite ?_ ?_
  · exact h.onSec.onSec.raise
  · exact .onIf (fun _ h => h.raise) h.onSec.onSec.raise

theorem execDebugNonceLapse_canonical {s : State} (h : s.Canonical) : Res.Canonical (execDebugNonceLapse s) := by
  refine .next ?_
  split
  · exact .ite h.onSec h
  · exact h

theorem execDebugArmEnd_canonical {s : State} (h : s.Canonical) : Res.Canonical (execDebugArmEnd s) :=
  .next (.ite h.onSec h)

theorem State.Canonical.discard {s : State} (h : s.Canonical) : s.discard.Canonical :=
  h.onHif

theorem State.Canonical.discardDatagram {s : State} (h : s.Canonical) : s.discardDatagram.Canonical :=
  h.discard.raiseByCore

theorem execRemoteDatagram_canonical {data : List Word} {s : State} (h : s.Canonical) :
    Res.Canonical (execRemoteDatagram data s) := by
  refine .next (.ite h ?_)
  split
  · exact h.discardDatagram
  · refine .ite h.discardDatagram ?_
    split
    · exact h.discardDatagram
    · refine .ite h.discardDatagram ?_
      split
      · exact h.emit
      · exact h
      · exact h.onHif

theorem execRemoteSessionTimeout_canonical {ch : Nat} {s : State} (h : s.Canonical) :
    Res.Canonical (execRemoteSessionTimeout ch s) :=
  .next h.closeChannels

theorem State.Canonical.refuseAgreement {s : State} (h : s.Canonical) : s.refuseAgreement.Canonical :=
  h.raiseByCore

theorem execKeyAgreementInit_canonical {src data : List Word} {s : State} (h : s.Canonical) :
    Res.Canonical (execKeyAgreementInit src data s) := by
  refine .next ?_
  refine .ite ?_ ?_
  · exact h
  · exact .ite h.discard.refuseAgreement h.drawWords.drawNat.onHif.emit

theorem execKeyAgreementFinish_canonical {data : List Word} {s : State} (h : s.Canonical) :
    Res.Canonical (execKeyAgreementFinish data s) := by
  refine .next (.ite h ?_)
  split
  · exact h.discardDatagram
  · refine .ite ?_ ?_
    · exact h.discardDatagram
    · exact .ite h.onHif.emit h.onHif.emit.refuseAgreement

theorem execPendingAgreementExpiry_canonical {id : Nat} {s : State} (h : s.Canonical) :
    Res.Canonical (execPendingAgreementExpiry id s) :=
  .next h.onHif

/-! ## Module states and boot (03; 14 R495) -/

theorem execPowerStatus_canonical {r : Req} {s : State} (h : s.Canonical) : Res.Canonical (execPowerStatus r s) :=
  .mailbox h fun _ => .mk h

theorem State.Canonical.beginTrans {k : TransKind} {thermal : Bool} {s : State} (h : s.Canonical) :
    (s.beginTrans k thermal).Canonical :=
  h.sealNow.onCrn

theorem execPowerSetState_canonical {r : Req} {s : State} (h : s.Canonical) : Res.Canonical (execPowerSetState r s) :=
  .mailbox h fun _ => by
    refine .ite (.mk h) ?_
    refine .ite ?_ ?_
    · exact .mk h
    · exact .ite (.mk h.onCrn) (.ite (.mk h.beginTrans) (.mk h.beginTrans.onCrn))

theorem execPowerSetPreserve_canonical {r : Req} {s : State} (h : s.Canonical) : Res.Canonical (execPowerSetPreserve r s) :=
  .mailbox h fun _ => .mk h.onCrn

theorem execResetWarm_canonical {r : Req} {s : State} (h : s.Canonical) : Res.Canonical (execResetWarm r s) :=
  .mailboxThen h (fun _ => .ite (.mk h) (.mk h)) fun _ _ h => .ite h.sealNow.beginReset.onHif h.sealNow.beginReset

theorem execPowerJournalReplay_canonical {r : Req} {s : State} (h : s.Canonical) : Res.Canonical (execPowerJournalReplay r s) :=
  .mailbox h fun _ => by
    dsimp only
    split
    · exact .mk h
    · split
      · exact .mk h
      · split
        · exact .mk h.dropUnsealed.tidyWords
        · rename_i x hx
          obtain ⟨_, hcfg, himm⟩ := State.replayed_sorted hx
          have hnew := tabSorted_foldl_tabIns (l := tabKeep (fun k => !isJ k) s.stg.cur) hcfg
          refine .mk (.placeRestored (.onCrn (.onIf (fun _ h => h.parkPorts) (State.Canonical.publish ?_ hnew))))
          have ht := h.dropUnsealed.tidyWords
          exact ht.onStg_sorted ht.cur ht.prev (tabSorted_rebase _ _ hnew) himm

theorem State.Canonical.bootLine {line detail : Nat} {s : State} (h : s.Canonical) : (s.bootLine line detail).Canonical :=
  h.emit

theorem State.Canonical.bankFails {b : Nat} {s : State} (h : s.Canonical) : (s.bankFails b).Canonical :=
  h.bootLine

theorem State.Canonical.failTrial {s : State} (h : s.Canonical) : s.failTrial.Canonical :=
  h.bankFails.onImg.raise

theorem State.Canonical.pickBank {k : TransKind} {s : State} (h : s.Canonical) : (s.pickBank k).2.Canonical := by
  unfold State.pickBank
  refine .snd_ite (.snd h) (.snd_ite (.snd (.ite h.failTrial h)) ?_)
  refine .snd_ite (.snd (.bankFails (.ite h.failTrial h))) ?_
  refine .snd_ite ?_ ?_
  · exact .snd (.bankFails (.ite h.failTrial h))
  · exact .snd (.bankFails (.bankFails (.ite h.failTrial h)))

theorem State.Canonical.bootPolicy {s : State} (h : s.Canonical) : s.bootPolicy.Canonical := by
  unfold State.bootPolicy
  refine .ite ?_ ?_
  · exact h.usePolicy
  · exact .ite h.raiseByCore.usePolicy h.raiseByCore.noPolicy

theorem State.Canonical.restoreFfr {s : State} (h : s.Canonical) : s.restoreFfr.Canonical := by
  unfold State.restoreFfr
  split
  · exact h
  · refine .onCrn ?_
    split
    · exact h.onFlt.onFlt
    · exact h.onFlt

theorem State.Canonical.raiseAbsent {s : State} (h : s.Canonical) : s.raiseAbsent.Canonical :=
  .foldl (fun _ _ h => h.raise) h

theorem State.Canonical.startFirmware {b : Nat} {t : Trans} {s : State} (h : s.Canonical) : (s.startFirmware b t).Canonical := by
  unfold State.startFirmware
  refine .ite ?_ ?_
  · exact h.bootLine.onImg.onHif.onCrn.restoreFfr.raiseAbsent.bootPolicy.onImg.onImg.onStg
  · exact h.bootLine.onImg.onHif.onCrn.restoreFfr.raiseAbsent.bootPolicy.onImg

theorem State.Canonical.enterWatch {s : State} (h : s.Canonical) : s.enterWatch.Canonical :=
  h.resetDomains.onCrn.onTim

theorem execBootImageVerified_canonical {s : State} (h : s.Canonical) : Res.Canonical (execBootImageVerified s) := by
  refine .next ?_
  split
  · exact h
  · refine .ite h ?_
    split
    · rename_i heq
      exact (h.pickBank.of_mk heq).startFirmware
    · rename_i heq
      exact (h.pickBank.of_mk heq).enterWatch.raise.bootLine

theorem State.Canonical.phase {n : Nat} {s : State} (h : s.Canonical) : (s.phase n).Canonical :=
  h.onCrn

theorem State.Canonical.atStandby {s : State} (h : s.Canonical) : s.atStandby.Canonical :=
  h.onCrn.onHif

theorem execStacksTrained_canonical {s : State} (h : s.Canonical) : Res.Canonical (execStacksTrained s) := by
  refine .next ?_
  split
  · exact .ite (.ite h.atStandby h.phase) h
  · exact h

theorem execResetDone_canonical {s : State} (h : s.Canonical) : Res.Canonical (execResetDone s) := by
  refine .next ?_
  split
  · refine .ite ?_ h
    refine .ite ?_ ?_
    · exact h.restoreJ.placeRestored.atStandby.onCrn
    · exact h.restoreJ.placeRestored.atStandby
  · exact h

theorem execRunEntryCommit_canonical {s : State} (h : s.Canonical) : Res.Canonical (execRunEntryCommit s) := by
  refine .next ?_
  split
  · dsimp only
    split
    · have hv := State.Canonical.foldl (f := fun a c => a.isolatePorts c)
        (l := (List.range 64).filter fun c => !(((List.range 64).foldl (fun a c => a.onCell c fun x => { x with st := .run }) s).onBpm
          fun b => { b with four := true }).inService c)
        (fun _ _ h => h.isolatePorts)
        (State.Canonical.onBpm (f := fun b => { b with four := true })
          (.foldl (f := fun a c => a.onCell c fun x => { x with st := .run }) (l := List.range 64) (fun _ _ h => h.onCell) h))
      exact (hv.publish hv.cur).phase
    · exact h
  · exact h

theorem State.Canonical.reinstall {s : State} (h : s.Canonical) : s.reinstall.Canonical :=
  .foldl (fun _ _ h => .foldl (fun _ _ h => h.dynWrite) h) h.onTbl

theorem tabWf_foldl_tabPut {α β : Type} [DecidableEq β] {d : β} {f : Nat × α → β} {l : List (Nat × α)} :
    tabWf d (l.foldl (fun m e => tabPut d e.1 (f e) m) []) = true :=
  List.foldlRecOn (motive := fun m => tabWf d m = true) l _ rfl fun _ hm e _ => tabWf_tabPut d e.1 (f e) hm

theorem State.Canonical.leaveRun {s : State} (h : s.Canonical) : s.leaveRun.Canonical := by
  unfold State.leaveRun
  extract_lets keep s' t u off rest _ v
  have ht : t.Canonical := .foldl (fun _ _ h => h.setLink) (.foldl (fun _ _ h => h.endLive) h)
  have hu : u.Canonical := .ite ht.keepStore ht.dropStore
  have hv : v.Canonical :=
    { hu with ports := tabWf_foldl_tabPut, cells := tabWf_foldl_tabPut, counters := tabWf_filter ht.counters }
  exact hv.pmuDrop.onCrn

theorem execPowerTransitionDone_canonical {s : State} (h : s.Canonical) : Res.Canonical (execPowerTransitionDone s) := by
  refine .next ?_
  split
  · exact h
  · split
    · exact .ite h.onCrn.reinstall h
    · exact .ite h (.onCrn (.ite h.leaveRun h))
    · exact .ite h (.enterWatch (.ite h.leaveRun h))
    · exact h

theorem State.Canonical.writeBack {s : State} (h : s.Canonical) : s.writeBack.Canonical := by
  dsimp only [State.writeBack]
  exact .onFlo (.foldl (fun _ _ h => .foldl (fun _ _ h => h.applyCoh) h) (.foldl (fun _ _ h => h.applyCoh) h))

theorem execDrainComplete_canonical {s : State} (h : s.Canonical) : Res.Canonical (execDrainComplete s) := by
  refine .next (.ite ?_ h)
  split
  · split
    · exact h.writeBack.onCrn.applyReset
    · exact h.writeBack.onCrn
  · exact h.writeBack.onCrn

theorem execWatchWake_canonical {s : State} (h : s.Canonical) : Res.Canonical (execWatchWake s) :=
  .next (.ite h.onCrn.applyReset h)

theorem State.Canonical.watchdogReset {s : State} (h : s.Canonical) : s.watchdogReset.Canonical :=
  h.endTrial.beginReset

theorem execWatchdogExpiry_canonical {s : State} (h : s.Canonical) : Res.Canonical (execWatchdogExpiry s) :=
  .next (.ite (.ite h.raise.watchdogReset h.raise.onCrn) h)

theorem execDeferredWatchdogReset_canonical {s : State} (h : s.Canonical) : Res.Canonical (execDeferredWatchdogReset s) :=
  .next (.ite h.watchdogReset h)

theorem execWatchdogRefresh_canonical {s : State} (h : s.Canonical) : Res.Canonical (execWatchdogRefresh s) :=
  .next (.ite h.onCrn h)

theorem execJournalSeal_canonical {s : State} (h : s.Canonical) : Res.Canonical (execJournalSeal s) :=
  .next (.ite h.sealBegin h)

theorem execJournalSealDone_canonical {s : State} (h : s.Canonical) : Res.Canonical (execJournalSealDone s) :=
  .next (.ite (.ite h.sealDone.onSup.watchdogReset h.sealDone.onSup) h)

theorem execPrstNAssert_canonical {s : State} (h : s.Canonical) : Res.Canonical (execPrstNAssert s) :=
  .next (.ite (.onIf (fun _ h => h.sealBegin) h.onCrn) h.onCrn)

theorem execModuleReset_canonical {s : State} (h : s.Canonical) : Res.Canonical (execModuleReset s) :=
  .next (.ite h.applyReset.onCrn h)

theorem execPrstNRelease_canonical {s : State} (h : s.Canonical) : Res.Canonical (execPrstNRelease s) :=
  .next h.onCrn

theorem execFatalFaultReset_canonical {s : State} (h : s.Canonical) : Res.Canonical (execFatalFaultReset s) := by
  refine .next ?_
  split
  · exact h
  · exact .ite h h.onFlt.endTrial.applyReset.onCrn

/-! ## The input supply and temperatures (02; 18) -/

theorem execStartThreshold_canonical {s : State} (h : s.Canonical) : Res.Canonical (execStartThreshold s) :=
  .next (.ite h.onSup.onCrn h)

theorem execOvervoltageRestart_canonical {s : State} (h : s.Canonical) : Res.Canonical (execOvervoltageRestart s) :=
  .next (.ite h.onSup.onCrn h)

theorem execCairnPowerUp_canonical {straps : Fin 4} {s : State} (h : s.Canonical) : Res.Canonical (execCairnPowerUp straps s) :=
  .next (.ite h.onSup.onCrn h)

theorem execFirstInputMeasurement_canonical {vin iin pin : Nat} {above : Bool} {s : State} (h : s.Canonical) :
    Res.Canonical (execFirstInputMeasurement vin iin pin above s) :=
  .next (.ite h.onSup h)

theorem execPowerFailWarning_canonical {s : State} (h : s.Canonical) : Res.Canonical (execPowerFailWarning s) :=
  .next (.ite h.onSup.onCrn.raise.sealBegin h)

theorem execPowerFailRelease_canonical {s : State} (h : s.Canonical) : Res.Canonical (execPowerFailRelease s) :=
  .next (.ite h.onSup.raise h)

theorem execConverterStop_canonical {ov : Bool} {s : State} (h : s.Canonical) : Res.Canonical (execConverterStop ov s) :=
  .next (.ite h h.powerOff.onSup)

theorem execVinSnsOpen_canonical {s : State} (h : s.Canonical) : Res.Canonical (execVinSnsOpen s) :=
  .next (.ite h.onSup.raise h)

theorem execVinSnsConnected_canonical {s : State} (h : s.Canonical) : Res.Canonical (execVinSnsConnected s) :=
  .next (.ite h.onSup.endLive h)

theorem execSurge_canonical {g : SurgeSeen} {s : State} (h : s.Canonical) : Res.Canonical (execSurge g s) :=
  .next (.ite (.ite h.onSup.raise.onSup.raise h.onSup.raise) h)

theorem execSysclkLost_canonical {s : State} (h : s.Canonical) : Res.Canonical (execSysclkLost s) :=
  .next (.ite h.onSup.raise h)

theorem execSysclkReturn_canonical {s : State} (h : s.Canonical) : Res.Canonical (execSysclkReturn s) :=
  .next (.ite h.onSup.endLive h)

theorem execSdsrefLoss_canonical {r : Fin 8} {s : State} (h : s.Canonical) : Res.Canonical (execSdsrefLoss r s) :=
  .next (.ite (.raise (.foldl (fun _ _ h => h.setLink) h.onTim)) h)

theorem execSdsrefReturn_canonical {r : Fin 8} {s : State} (h : s.Canonical) : Res.Canonical (execSdsrefReturn r s) :=
  .next (.ite h h.onTim.endLive)

theorem State.Canonical.linkLost {s : State} (h : s.Canonical) : s.linkLost.Canonical :=
  .ite h.onCrn.raise h

theorem execPerstNAssert_canonical {s : State} (h : s.Canonical) : Res.Canonical (execPerstNAssert s) :=
  .next h.onCrn.linkLost

theorem State.Canonical.cutRing {i : Nat} {s : State} (h : s.Canonical) : (s.cutRing i).Canonical := by
  unfold State.cutRing
  refine .ite ?_ ?_
  · exact h.ringDisable
  · exact .ite h.onRing (.ite h.ringDisable.onRing h.onRing)

theorem State.Canonical.endpointReset {s : State} (h : s.Canonical) : s.endpointReset.Canonical := by
  dsimp only [State.endpointReset]
  exact .onRng (.foldl (fun _ _ h => h.cutRing) h.closeSessions.onHif.onFlo)

theorem execPerstNRelease_canonical {s : State} (h : s.Canonical) : Res.Canonical (execPerstNRelease s) :=
  .next h.onCrn.endpointReset

theorem execPcieLinkDown_canonical {s : State} (h : s.Canonical) : Res.Canonical (execPcieLinkDown s) :=
  .next h.linkLost

theorem execPcieLinkUp_canonical {free : List Nat} {s : State} (h : s.Canonical) : Res.Canonical (execPcieLinkUp free s) :=
  .next (.ite (.foldl (fun _ _ h => h.eqFlush) h.onCrn) h)

theorem execTemperatureSample_canonical {temps : List (Option ℤ)} {s : State} (h : s.Canonical) :
    Res.Canonical (execTemperatureSample temps s) :=
  .next (.ite h.onSup h)

theorem execThermalWarning_canonical {s : State} (h : s.Canonical) : Res.Canonical (execThermalWarning s) :=
  .next (.ite h.onSup.raise h)

theorem execThermalLimit_canonical {s : State} (h : s.Canonical) : Res.Canonical (execThermalLimit s) :=
  .next (.ite h.onSup.raise.onCrn h)

theorem execThermalStandby_canonical {s : State} (h : s.Canonical) : Res.Canonical (execThermalStandby s) :=
  .next (.ite h.beginTrans h)

theorem execThermalConditionEnd_canonical {limit : Bool} {s : State} (h : s.Canonical) :
    Res.Canonical (execThermalConditionEnd limit s) :=
  .next (.ite (.ite h.onSup.endLive h) (.ite h.onSup.endLive h))

theorem execThermalTrip_canonical {s : State} (h : s.Canonical) : Res.Canonical (execThermalTrip s) :=
  .next (.ite h h.powerOff.onSup)

theorem execTripLatchClear_canonical {s : State} (h : s.Canonical) : Res.Canonical (execTripLatchClear s) :=
  .next h.onSup

theorem execHourlyFlashWrite_canonical {s : State} (h : s.Canonical) : Res.Canonical (execHourlyFlashWrite s) :=
  .next (.ite h.saveLife h)

/-! ## The host interface (04) -/

theorem execLoReadLatch_canonical {master off : Nat} {s : State} (h : s.Canonical) :
    Res.Canonical (execLoReadLatch master off s) :=
  .next (.access (fun _ h => h.onHif.emit) h)

theorem State.Canonical.writeMsix {k : Nat} {v : Word} {s : State} (h : s.Canonical) : (s.writeMsix k v).Canonical :=
  .ite h.onHif.onHif.sendVector h.onHif

theorem State.Canonical.writeMbxBase {off : Nat} {v : Word} {s : State} (h : s.Canonical) : (s.writeMbxBase off v).Canonical := by
  unfold State.writeMbxBase
  refine .ite h ?_
  split
  · exact h.onPair
  · exact h.onPair
  · exact h.onPair
  · exact h.onPair
  · exact h

theorem State.Canonical.writeRingReg {off : Nat} {v : Word} {s : State} (h : s.Canonical) : (s.writeRingReg off v).Canonical := by
  unfold State.writeRingReg
  split
  · exact .ite h h.onRing
  · exact .ite h h.onRing
  · exact h.onRing
  · exact h

theorem State.Canonical.bar0Write {off : Nat} {v : Word} {s : State} (h : s.Canonical) : (s.bar0Write off v).Canonical := by
  unfold State.bar0Write
  refine .ite h (.ite h.onHif (.ite h.onHif (.ite h.onHif ?_)))
  refine .ite h.writeMbxBase (.ite h.writeMsix (.ite h.writeRingReg ?_))
  refine .ite h.onBpm (.ite h.onBpm (.ite h.onBpm (.ite h.onFlt ?_)))
  split
  · split
    · exact h
    · exact h
    · exact h.pmuWrite
  · exact h

theorem execRegisterWrite_canonical {off : Nat} {v : Word} {s : State} (h : s.Canonical) :
    Res.Canonical (execRegisterWrite off v s) :=
  .next (.access (fun _ h => h.bar0Write) h)

theorem execReservedBar0Write_canonical {off : Nat} {_v : Word} {s : State} (h : s.Canonical) :
    Res.Canonical (execReservedBar0Write off _v s) :=
  .next (.access (fun _ h => .ite h.raise h) h)

theorem execBootMailboxGo_canonical {s : State} (h : s.Canonical) : Res.Canonical (execBootMailboxGo s) :=
  .next (.access (fun _ h => .ite h.onHif h) h)

theorem State.Canonical.takeCommand {n : Nat} {head : Word} {s : State} (h : s.Canonical) : (s.takeCommand n head).Canonical :=
  .ite h.hostWrite.onPair h

theorem execMailboxDoorbell_canonical {n : Fin 8} {head : Word} {s : State} (h : s.Canonical) :
    Res.Canonical (execMailboxDoorbell n head s) := by
  refine .next (.access (fun _ h => .ite ?_ h.takeCommand) h)
  split
  · exact .ite h h.countDone.writeResponse
  · exact h

theorem execMailboxCommandTake_canonical {n : Fin 8} {head : Word} {s : State} (h : s.Canonical) :
    Res.Canonical (execMailboxCommandTake n head s) :=
  .next (.ite h.takeCommand h)

theorem execMbxCtrlWrite_canonical {n : Fin 8} {v : Word} {s : State} (h : s.Canonical) :
    Res.Canonical (execMbxCtrlWrite n v s) :=
  .next (.access (fun _ h => h.onPair) h)

theorem execMbxIdle_canonical {n : Fin 8} {s : State} (h : s.Canonical) : Res.Canonical (execMbxIdle n s) :=
  .next (.ite h.onPair h)

theorem execI2cRead_canonical {dev off n : Nat} {input : InputSeen} {s : State} (h : s.Canonical) :
    Res.Canonical (execI2cRead dev off n input s) :=
  .next (.ite h.onSup.emit h)

theorem execMgmtFrame_canonical {m : Fin 2} {data : List Byte} {s : State} (h : s.Canonical) :
    Res.Canonical (execMgmtFrame m data s) := by
  refine .next (.ite h ?_)
  refine .ite h.discard (.ite h ?_)
  split
  · exact h.drawNat.emit
  · exact h.discard

/-! ## Scrubs (09; 16) -/

theorem State.Canonical.emptyChunk {d : Chunk} {s : State} (h : s.Canonical) : (s.emptyChunk d).Canonical := by
  dsimp only [State.emptyChunk]
  exact h.onFab

theorem State.Canonical.loseChunk {c n : Nat} {s : State} (h : s.Canonical) : (s.loseChunk c n).Canonical := by
  unfold State.loseChunk
  split
  · exact h.emptyChunk.losePieces
  · split
    · exact .foldl (fun _ _ h => h.badTail) h
    · exact h

theorem State.Canonical.loseStaged {c n : Nat} {s : State} (h : s.Canonical) : (s.loseStaged c n).Canonical := by
  dsimp only [State.loseStaged]
  split
  · exact h.badTail
  · exact h

theorem State.Canonical.loseWord {u table index : Nat} {s : State} (h : s.Canonical) : (s.loseWord u table index).Canonical :=
  h.onTbl.raise

theorem State.Canonical.wordError {u table index : Nat} {s : State} (h : s.Canonical) :
    (s.wordError u table index).Canonical := by
  unfold State.wordError
  refine .ite h.loseChunk.raise (.ite h.loseStaged.raise (.ite h ?_))
  refine .ite ?_ (.loseWord (.ite h.bump h.bump))
  split
  · exact .dropEntry (.ite h.bump h.bump)
  · exact .ite h.bump h.bump

theorem execTableScrub_canonical {u : Fin 72} {table : Fin 16} {index : Nat} {err : EccSeen} {s : State} (h : s.Canonical) :
    Res.Canonical (execTableScrub u table index err s) := by
  refine .next (.ite h ?_)
  split
  · exact h
  · exact .ite h.bump h.bump
  · exact h.wordError

theorem State.Canonical.restoredEvent {cell obj dest : Nat} {own : Bool} {s : State} (h : s.Canonical) :
    (s.restoredEvent cell obj dest own).Canonical :=
  h.learnEvent

theorem State.Canonical.restoreL2 {cell word : Nat} {own : Bool} {s : State} (h : s.Canonical) :
    (s.restoreL2 cell word own).Canonical := by
  unfold State.restoreL2
  split
  · exact h
  · refine .ite ?_ ?_
    · split
      · exact h.restoredEvent
      · exact h
    · split
      · exact .ite h.onTbl.restoredEvent h.dynFree
      · exact h.dynFree

theorem execTableWordRestore_canonical {u : Fin 72} {table : Fin 16} {index : Nat} {own : Bool} {s : State} (h : s.Canonical) :
    Res.Canonical (execTableWordRestore u table index own s) := by
  refine .next (.ite h ?_)
  refine .ite ?_ ?_
  · exact .restoreL2 (.ite h.rewrite h.rewrite.bump)
  · exact .ite h.rewrite h.rewrite.bump

/-! ## Transmit service (05) -/

theorem State.Canonical.openRound {s : State} (h : s.Canonical) : s.openRound.Canonical :=
  .ite h (.onRng (.foldl (fun _ _ h => h.onRing) h))

theorem State.Canonical.countStart {i : Nat} {s : State} (h : s.Canonical) : (s.countStart i).Canonical :=
  h.onRing.onRng

theorem State.Canonical.copyDesc {i : Nat} {d : Desc} {data : List Byte} {s : State} (h : s.Canonical) :
    (s.copyDesc i d data).Canonical :=
  .finishDesc (.ite h.bufferWrite h.bufferBytes.hostPut)

theorem State.Canonical.sendDesc {i : Nat} {d : Desc} {body : List Byte} {s : State} (h : s.Canonical) :
    (s.sendDesc i d body).Canonical := by
  unfold State.sendDesc
  refine .ite ?_ ?_
  · exact .ite h.finishDesc h.enterFrame.finishFrame
  · exact h.startWake.newFrame.onEgr

theorem State.Canonical.deferStart {i : Nat} {d : Desc} {s t : State} (h : s.Canonical) (e : s.deferStart i d = some t) :
    t.Canonical := by
  dsimp only [State.deferStart] at e
  split at e
  · split at e
    · cases e; exact h
    · split at e
      · cases e; exact h.startWake
      · split at e
        · cases e
        · cases e; exact h.onRing
  · cases e

theorem State.Canonical.chargeHost {d : Desc} {s : State} (h : s.Canonical) : (s.chargeHost d).Canonical :=
  .ite h.onRng h

theorem execTxDescriptorStart_canonical {i : Fin 256} {busOk : Bool} {data : List Byte} {scans : List Scan} {s0 : State}
    (h : s0.Canonical) : Res.Canonical (execTxDescriptorStart i busOk data scans s0) := by
  refine .next (.ite h ?_)
  split
  · exact h
  · split
    · rename_i heq
      exact h.openRound.deferStart heq
    · refine .ite ?_ ?_
      · exact .onIf (fun _ h => h.busError) h.openRound.onRing.rescan.countStart.cqStall
      · refine .ite h.openRound.onRing.rescan.countStart.cqStall.copyDesc ?_
        refine .ite ?_ ?_
        · exact h.openRound.onRing.rescan.countStart.cqStall.bufferBytes.chargeHost.sendDesc
        · exact h.openRound.onRing.rescan.countStart.cqStall.chargeHost.sendDesc

/-! ## The step -/

/-- Every instruction keeps the canonical form. -/
theorem exec_canonical {i : Instr} {s : State} (h : s.Canonical) : Res.Canonical (exec i s) := by
  cases i with
  | sessionOpen _ => exact execSessionOpen_canonical h
  | sessionClose _ => exact execSessionClose_canonical h
  | commit _ _ => exact execCommit_canonical h
  | epochStatus _ => exact execEpochStatus_canonical h
  | stageDiscard _ => exact execStageDiscard_canonical h
  | statsSnapshot _ => exact execStatsSnapshot_canonical h
  | snapshotDone _ => exact execSnapshotDone_canonical h
  | unknownOpcode _ _ => exact execUnknownOpcode_canonical h
  | powerStatus _ => exact execPowerStatus_canonical h
  | powerSetState _ => exact execPowerSetState_canonical h
  | powerSetPreserve _ => exact execPowerSetPreserve_canonical h
  | powerHoldAwake _ => exact execPowerHoldAwake_canonical h
  | resetWarm _ => exact execResetWarm_canonical h
  | resetCell _ => exact execResetCell_canonical h
  | resetLane _ => exact execResetLane_canonical h
  | powerJournalReplay _ => exact execPowerJournalReplay_canonical h
  | ringSetService _ => exact execRingSetService_canonical h
  | ringPuntMap _ => exact execRingPuntMap_canonical h
  | ringEventRoute _ => exact execRingEventRoute_canonical h
  | ringPuntLimit _ => exact execRingPuntLimit_canonical h
  | portSet _ => exact execPortSet_canonical h
  | portStatus _ => exact execPortStatus_canonical h
  | portStatsRead _ => exact execPortStatsRead_canonical h
  | clsParserSet _ => exact execClsParserSet_canonical h
  | clsBankSet _ => exact execClsBankSet_canonical h
  | clsProfileSet _ => exact execClsProfileSet_canonical h
  | clsPortSet _ => exact execClsPortSet_canonical h
  | clsRuleWrite _ => exact execClsRuleWrite_canonical h
  | clsRuleDelete _ => exact execClsRuleDelete_canonical h
  | clsRuleRead _ => exact execClsRuleRead_canonical h
  | clsMeterSet _ => exact execClsMeterSet_canonical h
  | clsMirrorSet _ => exact execClsMirrorSet_canonical h
  | clsStatsRead _ => exact execClsStatsRead_canonical h
  | tblVlanSet _ => exact execTblVlanSet_canonical h
  | tblPortSet _ => exact execTblPortSet_canonical h
  | tblL2Write _ => exact execTblL2Write_canonical h
  | tblL2Flush _ => exact execTblL2Flush_canonical h
  | tblL2Read _ => exact execTblL2Read_canonical h
  | tblAgeSet _ => exact execTblAgeSet_canonical h
  | tblRouteWrite _ => exact execTblRouteWrite_canonical h
  | tblNexthopSet _ => exact execTblNexthopSet_canonical h
  | tblRouterMac _ => exact execTblRouterMac_canonical h
  | tblGroupSet _ => exact execTblGroupSet_canonical h
  | tblHashKey _ => exact execTblHashKey_canonical h
  | tblMcastSet _ => exact execTblMcastSet_canonical h
  | tblLookup _ => exact execTblLookup_canonical h
  | tblStatsRead _ => exact execTblStatsRead_canonical h
  | flowFormat _ => exact execFlowFormat_canonical h
  | flowTemplateSet _ => exact execFlowTemplateSet_canonical h
  | flowZoneSet _ => exact execFlowZoneSet_canonical h
  | flowAgeSet _ => exact execFlowAgeSet_canonical h
  | flowRead _ => exact execFlowRead_canonical h
  | flowDelete _ => exact execFlowDelete_canonical h
  | flowZoneFlush _ => exact execFlowZoneFlush_canonical h
  | flowArchiveRead _ => exact execFlowArchiveRead_canonical h
  | flowStatsRead _ => exact execFlowStatsRead_canonical h
  | progLoad _ => exact execProgLoad_canonical h
  | progRead _ => exact execProgRead_canonical h
  | progMeterSet _ => exact execProgMeterSet_canonical h
  | progPoolSet _ => exact execProgPoolSet_canonical h
  | progPoolStatus _ => exact execProgPoolStatus_canonical h
  | progGroupSet _ => exact execProgGroupSet_canonical h
  | progEmitSet _ => exact execProgEmitSet_canonical h
  | progStatsRead _ => exact execProgStatsRead_canonical h
  | fabStatus _ => exact execFabStatus_canonical h
  | fabBench _ => exact execFabBench_canonical h
  | fabColPolicer _ => exact execFabColPolicer_canonical h
  | fabBufSet _ => exact execFabBufSet_canonical h
  | fabStatsRead _ => exact execFabStatsRead_canonical h
  | egrPortSet _ => exact execEgrPortSet_canonical h
  | egrQueueSet _ => exact execEgrQueueSet_canonical h
  | egrGateSet _ => exact execEgrGateSet_canonical h
  | egrGateStatus _ => exact execEgrGateStatus_canonical h
  | egrStatsRead _ => exact execEgrStatsRead_canonical h
  | timeStep _ => exact execTimeStep_canonical h
  | timeRate _ => exact execTimeRate_canonical h
  | timeStatus _ => exact execTimeStatus_canonical h
  | timeUtcSet _ => exact execTimeUtcSet_canonical h
  | timeReanchor _ => exact execTimeReanchor_canonical h
  | timePulseSet _ => exact execTimePulseSet_canonical h
  | timeTcSet _ => exact execTimeTcSet_canonical h
  | timeTcStats _ => exact execTimeTcStats_canonical h
  | imgStatus _ => exact execImgStatus_canonical h
  | imgWrite _ => exact execImgWrite_canonical h
  | imgVerify _ => exact execImgVerify_canonical h
  | imgActivate _ => exact execImgActivate_canonical h
  | fwConfirm _ _ => exact execFwConfirm_canonical h
  | journalSet _ => exact execJournalSet_canonical h
  | secStatus _ => exact execSecStatus_canonical h
  | secNonce _ => exact execSecNonce_canonical h
  | secOwnerEnroll _ _ => exact execSecOwnerEnroll_canonical h
  | secOwnerRevoke _ _ => exact execSecOwnerRevoke_canonical h
  | secCertRead _ => exact execSecCertRead_canonical h
  | secAttest _ => exact execSecAttest_canonical h
  | secDebugArm _ => exact execSecDebugArm_canonical h
  | secDebugLock _ => exact execSecDebugLock_canonical h
  | fltStatus _ => exact execFltStatus_canonical h
  | fltRead _ => exact execFltRead_canonical h
  | fltClear _ => exact execFltClear_canonical h
  | fltFfrRearm _ => exact execFltFfrRearm_canonical h
  | fltAlertSet _ => exact execFltAlertSet_canonical h
  | fltInject _ => exact execFltInject_canonical h
  | pmuSet _ => exact execPmuSet_canonical h
  | pmuRead _ => exact execPmuRead_canonical h
  | pmuSampleSet _ => exact execPmuSampleSet_canonical h
  | skip _ _ _ => exact execSkip_canonical h
  | skipi _ _ _ => exact execSkipi_canonical h
  | add _ _ _ => exact execAdd_canonical h
  | sadd _ _ _ => exact execSadd_canonical h
  | min _ _ _ => exact execMin_canonical h
  | max _ _ _ => exact execMax_canonical h
  | ldi _ _ _ => exact execLdi_canonical h
  | ext _ _ _ => exact execExt_canonical h
  | ins _ _ _ => exact execIns_canonical h
  | keyx _ _ _ => exact execKeyx_canonical h
  | ts _ _ _ => exact execTs_canonical h
  | setsc _ _ _ => exact execSetsc_canonical h
  | meter _ _ _ => exact execMeter_canonical h
  | natalloc _ _ _ => exact execNatalloc_canonical h
  | natfree _ _ _ => exact execNatfree_canonical h
  | lbsel _ _ _ => exact execLbsel_canonical h
  | comp _ _ _ => exact execComp_canonical h
  | emit _ _ _ => exact execEmit_canonical h
  | setact _ _ _ => exact execSetact_canonical h
  | bootMailboxGo => exact execBootMailboxGo_canonical h
  | mailboxDoorbell _ _ => exact execMailboxDoorbell_canonical h
  | mailboxCommandTake _ _ => exact execMailboxCommandTake_canonical h
  | mbxCtrlWrite _ _ => exact execMbxCtrlWrite_canonical h
  | mbxIdle _ => exact execMbxIdle_canonical h
  | ringCtrlWrite _ _ => exact execRingCtrlWrite_canonical h
  | ringIdle _ => exact execRingIdle_canonical h
  | ringDoorbell _ _ => exact execRingDoorbell_canonical h
  | completionDoorbell _ _ _ => exact execCompletionDoorbell_canonical h
  | eventDoorbell _ _ => exact execEventDoorbell_canonical h
  | stallReread _ _ _ => exact execStallReread_canonical h
  | ringInval _ => exact execRingInval_canonical h
  | invalidationDone => exact execInvalidationDone_canonical h
  | txDescriptorStart _ _ _ _ => exact execTxDescriptorStart_canonical h
  | descriptorDone _ _ _ _ => exact execDescriptorDone_canonical h
  | puntDelivery _ _ _ => exact execPuntDelivery_canonical h
  | holdoffExpiry _ => exact execHoldoffExpiry_canonical h
  | bpmAllocReq _ _ => exact execBpmAllocReq_canonical h
  | bpmFree _ _ _ => exact execBpmFree_canonical h
  | bpmXfer _ _ _ => exact execBpmXfer_canonical h
  | fltEvtWrite _ _ => exact execFltEvtWrite_canonical h
  | ffrValidWrite _ => exact execFfrValidWrite_canonical h
  | pmuCntLoWrite _ _ => exact execPmuCntLoWrite_canonical h
  | pmuCntHiWrite _ _ => exact execPmuCntHiWrite_canonical h
  | loReadLatch _ _ => exact execLoReadLatch_canonical h
  | reservedBar0Write _ v => exact execReservedBar0Write_canonical (_v := v) h
  | registerWrite _ _ => exact execRegisterWrite_canonical h
  | i2cRead _ _ _ _ => exact execI2cRead_canonical h
  | remoteDatagram _ => exact execRemoteDatagram_canonical h
  | keyAgreementInit _ _ => exact execKeyAgreementInit_canonical h
  | keyAgreementFinish _ => exact execKeyAgreementFinish_canonical h
  | pendingAgreementExpiry _ => exact execPendingAgreementExpiry_canonical h
  | remoteSessionTimeout _ => exact execRemoteSessionTimeout_canonical h
  | nonceLapse _ => exact execNonceLapse_canonical h
  | mgmtFrame _ _ => exact execMgmtFrame_canonical h
  | unlockChallenge => exact execUnlockChallenge_canonical h
  | unlockResponse _ _ _ => exact execUnlockResponse_canonical h
  | debugNonceLapse => exact execDebugNonceLapse_canonical h
  | debugArmEnd => exact execDebugArmEnd_canonical h
  | startThreshold => exact execStartThreshold_canonical h
  | cairnPowerUp _ => exact execCairnPowerUp_canonical h
  | firstInputMeasurement _ _ _ _ => exact execFirstInputMeasurement_canonical h
  | bootImageVerified => exact execBootImageVerified_canonical h
  | stacksTrained => exact execStacksTrained_canonical h
  | powerFailWarning => exact execPowerFailWarning_canonical h
  | powerFailRelease => exact execPowerFailRelease_canonical h
  | converterStop _ => exact execConverterStop_canonical h
  | overvoltageRestart => exact execOvervoltageRestart_canonical h
  | surge _ => exact execSurge_canonical h
  | vinSnsOpen => exact execVinSnsOpen_canonical h
  | sysclkLost => exact execSysclkLost_canonical h
  | sysclkReturn => exact execSysclkReturn_canonical h
  | sdsrefLoss _ => exact execSdsrefLoss_canonical h
  | sdsrefReturn _ => exact execSdsrefReturn_canonical h
  | prstNAssert => exact execPrstNAssert_canonical h
  | moduleReset => exact execModuleReset_canonical h
  | perstNAssert => exact execPerstNAssert_canonical h
  | perstNRelease => exact execPerstNRelease_canonical h
  | watchdogExpiry => exact execWatchdogExpiry_canonical h
  | fatalFaultReset => exact execFatalFaultReset_canonical h
  | drainComplete => exact execDrainComplete_canonical h
  | resetDone => exact execResetDone_canonical h
  | runEntryCommit => exact execRunEntryCommit_canonical h
  | powerTransitionDone => exact execPowerTransitionDone_canonical h
  | watchWake => exact execWatchWake_canonical h
  | journalSeal => exact execJournalSeal_canonical h
  | journalSealDone => exact execJournalSealDone_canonical h
  | cellEpochApply _ _ => exact execCellEpochApply_canonical h
  | commitIsolation _ _ => exact execCommitIsolation_canonical h
  | dozeEntry _ => exact execDozeEntry_canonical h
  | slumberEntry _ => exact execSlumberEntry_canonical h
  | cellWake _ _ => exact execCellWake_canonical h
  | wakeComplete _ _ _ => exact execWakeComplete_canonical h
  | cellWakeTimeout _ => exact execCellWakeTimeout_canonical h
  | dutyRejoin _ => exact execDutyRejoin_canonical h
  | linkUp _ _ => exact execLinkUp_canonical h
  | linkDown _ => exact execLinkDown_canonical h
  | lossOfSignal _ => exact execLossOfSignal_canonical h
  | laneShutdown _ => exact execLaneShutdown_canonical h
  | cellIsolation _ => exact execCellIsolation_canonical h
  | lpiEntry _ _ => exact execLpiEntry_canonical h
  | lpiExit _ => exact execLpiExit_canonical h
  | partnerLpiExit _ => exact execPartnerLpiExit_canonical h
  | verifyResult _ _ => exact execVerifyResult_canonical h
  | holdBufferStore _ _ _ _ => exact execHoldBufferStore_canonical h
  | holdRelease _ _ => exact execHoldRelease_canonical h
  | pipelineEntry _ _ => exact execPipelineEntry_canonical h
  | lateKeyEntry _ _ => exact execLateKeyEntry_canonical h
  | recirculationPass _ => exact execRecirculationPass_canonical h
  | frameEnd _ _ _ => exact execFrameEnd_canonical h
  | learnFilterExpiry _ _ _ => exact execLearnFilterExpiry_canonical h
  | learnReportHandle _ => exact execLearnReportHandle_canonical h
  | agingPassRow _ _ _ _ _ => exact execAgingPassRow_canonical h
  | tableScrub _ _ _ _ => exact execTableScrub_canonical h
  | tableWordRestore _ _ _ _ => exact execTableWordRestore_canonical h
  | cacheLookup _ _ _ _ => exact execCacheLookup_canonical h
  | creditWaitExpiry _ _ => exact execCreditWaitExpiry_canonical h
  | operate _ _ _ _ => exact execOperate_canonical h
  | void _ _ _ => exact execVoid_canonical h
  | companion _ _ _ _ => exact execCompanion_canonical h
  | companionResult _ _ => exact execCompanionResult_canonical h
  | read _ _ _ _ _ => exact execRead_canonical h
  | delete _ _ _ _ _ => exact execDelete_canonical h
  | invalidate _ _ => exact execInvalidate_canonical h
  | collect _ _ => exact execCollect_canonical h
  | ack _ _ _ => exact execAck_canonical h
  | flush _ _ _ => exact execFlush_canonical h
  | release _ _ _ => exact execRelease_canonical h
  | flowResult _ _ _ _ => exact execFlowResult_canonical h
  | waitLimitExpiry _ _ => exact execWaitLimitExpiry_canonical h
  | sweepVisit _ _ => exact execSweepVisit_canonical h
  | dramScrub _ _ _ _ => exact execDramScrub_canonical h
  | exportWrite _ _ => exact execExportWrite_canonical h
  | archiveWrite _ => exact execArchiveWrite_canonical h
  | ipfixExport _ => exact execIpfixExport_canonical h
  | ipfixTemplateTimer => exact execIpfixTemplateTimer_canonical h
  | sampleTrigger _ => exact execSampleTrigger_canonical h
  | chunkClose _ _ _ => exact execChunkClose_canonical h
  | firstStageSlot _ _ => exact execFirstStageSlot_canonical h
  | secondStageSlot _ _ _ => exact execSecondStageSlot_canonical h
  | acceptMapPublish _ => exact execAcceptMapPublish_canonical h
  | chunkArrival _ _ => exact execChunkArrival_canonical h
  | reseqLost _ _ => exact execReseqLost_canonical h
  | benchWindow _ => exact execBenchWindow_canonical h
  | benchStart _ => exact execBenchStart_canonical h
  | egressStart _ => exact execEgressStart_canonical h
  | queueAdmit _ _ => exact execQueueAdmit_canonical h
  | colInject _ => exact execColInject_canonical h
  | colHeldInject _ => exact execColHeldInject_canonical h
  | transmitSelect _ _ => exact execTransmitSelect_canonical h
  | shaperRefill _ => exact execShaperRefill_canonical h
  | gateChange _ => exact execGateChange_canonical h
  | gateListStart _ => exact execGateListStart_canonical h
  | rateChangeApply => exact execRateChangeApply_canonical h
  | pulseEdge _ => exact execPulseEdge_canonical h
  | followerLock _ => exact execFollowerLock_canonical h
  | followerUnlock _ => exact execFollowerUnlock_canonical h
  | thermalWarning => exact execThermalWarning_canonical h
  | thermalLimit => exact execThermalLimit_canonical h
  | thermalStandby => exact execThermalStandby_canonical h
  | thermalConditionEnd _ => exact execThermalConditionEnd_canonical h
  | thermalTrip => exact execThermalTrip_canonical h
  | supplyFault _ => exact execSupplyFault_canonical h
  | pcieLinkDown => exact execPcieLinkDown_canonical h
  | fltEntryWrite _ => exact execFltEntryWrite_canonical h
  | counterWrap _ _ => exact execCounterWrap_canonical h
  | prstNRelease => exact execPrstNRelease_canonical h
  | pcieLinkUp _ => exact execPcieLinkUp_canonical h
  | vinSnsConnected => exact execVinSnsConnected_canonical h
  | watchdogRefresh => exact execWatchdogRefresh_canonical h
  | deferredWatchdogReset => exact execDeferredWatchdogReset_canonical h
  | tripLatchClear => exact execTripLatchClear_canonical h
  | temperatureSample _ => exact execTemperatureSample_canonical h
  | hourlyFlashWrite => exact execHourlyFlashWrite_canonical h
  | flowFormatDone _ => exact execFlowFormatDone_canonical h
  | zoneFlushDone _ _ => exact execZoneFlushDone_canonical h
  | cellResetDone _ _ _ => exact execCellResetDone_canonical h
  | firmwarePuntReceive _ => exact execFirmwarePuntReceive_canonical h
  | peerDelayMeasurement _ _ => exact execPeerDelayMeasurement_canonical h
  | firmwareLogLine _ _ _ _ _ => exact execFirmwareLogLine_canonical h

/-- Settles O58, an instruction at a time: each is a chain of updates, and every update keeps the canonical form. -/
theorem tablesStayCanonical : Obligations.TablesStayCanonical := by
  unfold Obligations.TablesStayCanonical
  intro s t h hstep
  unfold step at hstep
  split at hstep
  · exact Res.Canonical.next h.tick t hstep
  · exact exec_canonical (s := { s with pending := _ }) h.congr t hstep

end Sys2Proof.Machine
end

section
/-!
PROOF of PowerCommands (O48). What an accepted command answers where it may be BUSY, the words of POWER_STATUS, and the
wakes that POWER_HOLD_AWAKE brings about (03 R79 to R82, R106 to R110).
-/

namespace Sys2Proof.Machine

open Sys2Proof

/-! ## Accepted commands that can be BUSY (04 R123) -/

/-- Of the common checks only BUSY is left to an accepted command of the right size that nothing locks. -/
theorem preStatus_accepted {op : Nat} {s : State} {r q : Req} {k : Chk} (h : s.Accepts op r q) (hb : k.bad = false)
    (hl : k.bl = false) (hz : ∀ n, k.size = some n → q.size = n) (he : ∀ n, k.ext = some n → q.ExtSize n)
    (hk : k.locks = true → s.flt.fatal = 0) (ho : k.opens = false) :
    s.preStatus q k = if k.busy then stBusy else stOk := by
  obtain ⟨-, hopen, hform, hepoch⟩ := h
  cases hbusy : k.busy with
  | false => exact preStatus_ok ho hopen hform hb hl hz he hk hbusy hepoch
  | true =>
    have hidle := preStatus_ok (k := { k with busy := false }) ho hopen hform hb hl hz he hk rfl hepoch
    have hsize : Chk.wrongSize { k with busy := false } q = k.wrongSize q := (rfl)
    unfold State.preStatus at hidle ⊢
    rw [hsize] at hidle
    simp only [hbusy, Bool.false_eq_true, if_false, if_true] at hidle ⊢
    grind

/-- The answer of an accepted command: BUSY, or what the command itself answers. -/
theorem mailbox_accepted {op : Nat} {r q : Req} {s : State} {chk : Req → Chk} {run : Req → Ans} (h : s.Accepts op r q)
    (hb : (chk q).bad = false) (hl : (chk q).bl = false) (hz : ∀ n, (chk q).size = some n → q.size = n)
    (he : ∀ n, (chk q).ext = some n → q.ExtSize n) (hk : (chk q).locks = true → s.flt.fatal = 0)
    (ho : (chk q).opens = false) : mailbox op r s chk run =
      .next (if (chk q).busy then s.respond op q stBusy [] else s.finish op q (run q)) := by
  unfold mailbox
  rw [h.1]
  dsimp only
  rw [preStatus_accepted h hb hl hz he hk ho]
  cases (chk q).busy <;> rfl

/-- An answer OK without words. -/
theorem State.finish_ok {op : Nat} {s t : State} {q : Req} :
    s.finish op q { st := t } = t.respond op q stOk [] :=
  State.finish_done (.inl rfl) rfl rfl (Nat.zero_le _)

/-- An answer of a status other than OK and PARTIAL, without words. -/
theorem State.finish_no {op st : Nat} {s t : State} {q : Req} (h0 : st ≠ stOk) (h9 : st ≠ stPartial) :
    s.finish op q { status := st, st := t } = s.respond op q st [] :=
  State.finish_refused h0 h9 rfl

/-! ## Masks and packed words -/

/-- A mask has exactly the listed bits. -/
theorem testBit_maskOf (l : List Nat) (i : Nat) : (maskOf l).testBit i = decide (i ∈ l) := by
  have hfold : ∀ a, (l.foldl (fun a i => a ||| 2 ^ i) a).testBit i = (a.testBit i || decide (i ∈ l)) := by
    induction l with
    | nil => simp
    | cons b l ih =>
      intro a
      rw [List.foldl_cons, ih, Nat.testBit_or, Nat.testBit_two_pow]
      simp [Bool.or_assoc, eq_comm]
  simpa [maskOf] using hfold 0

/-- A mask of places below n fits n bits. -/
theorem maskOf_lt {l : List Nat} {n : Nat} (h : ∀ i ∈ l, i < n) : maskOf l < 2 ^ n := by
  refine Nat.lt_pow_two_of_testBit _ fun i hi => ?_
  rw [testBit_maskOf, decide_eq_false_iff_not]
  exact fun hmem => absurd (h i hmem) (Nat.not_lt.mpr hi)

/-- The places below n that a mask of chosen places counts are the chosen ones. -/
theorem popcount_maskOf_filter (n : Nat) (p : Nat → Bool) :
    popcount n (maskOf ((List.range n).filter p)) = ((List.range n).filter p).length := by
  unfold popcount
  congr 1
  refine List.filter_congr fun i hi => ?_
  rw [testBit_maskOf]
  simp_all

/-- The two words of a 64-bit number give it back. -/
theorem join_two {n : Nat} (h : n < 2 ^ 64) : join (wd n) (wd (n / 2 ^ 32)) = n := by
  simp only [join, BitVec.toNat_ofNat]
  omega

/-- The 64-bit field of a mask of chosen cells has the bits of exactly those. -/
theorem testBit_join_cells (p : Nat → Bool) {c : Nat} (hc : c < 64) :
    let m := maskOf ((List.range 64).filter p)
    (join (wd m) (wd (m / 2 ^ 32))).testBit c = p c := by
  intro m
  have hm : m < 2 ^ 64 := maskOf_lt fun i hi => by simp_all
  rw [join_two hm, testBit_maskOf]
  simp [hc]

/-- A bit of a word is its one-bit field. -/
theorem bit_eq_fld (w : Word) (n : Nat) : bit w n = decide (fld w n n = 1) := by
  simp [bit, fld, nfld, Nat.testBit_eq_decide_div_mod_eq]

/-! ## POWER_STATUS (03 R107) -/

theorem State.modCode_le (s : State) : s.modCode ≤ 3 := by
  unfold State.modCode
  (repeat' split) <;> decide

theorem ResetKind.code_le (k : ResetKind) : k.code ≤ 5 := by
  cases k <;> decide

theorem b2n_le (b : Bool) : b2n b ≤ 1 := by
  cases b <;> decide

/-- Word 4 of POWER_STATUS: MOD_STATE, RESET_CAUSE, three flags and the number of cells out of duty. -/
def powerWord (st cause : Nat) (keep jour store : Bool) (n : Nat) : Word :=
  wd (st + cause * 2 ^ 2 + b2n keep * 2 ^ 5 + b2n jour * 2 ^ 6 + b2n store * 2 ^ 7 + n * 2 ^ 8)

/-- Its fields, where each value fits its own. -/
theorem powerWord_fields {st cause n : Nat} (hst : st ≤ 3) (hcause : cause ≤ 5) (hn : n ≤ 64) (keep jour store : Bool) :
    let w := powerWord st cause keep jour store n
    fld w 1 0 = st ∧ fld w 4 2 = cause ∧ w.getLsbD 5 = keep ∧ w.getLsbD 6 = jour ∧ w.getLsbD 7 = store ∧ fld w 14 8 = n := by
  intro w
  have hb (b : Bool) : b = decide (b2n b = 1) := by cases b <;> rfl
  have hkeep := b2n_le keep
  have hjour := b2n_le jour
  have hstore := b2n_le store
  have hw : w.toNat = st + cause * 2 ^ 2 + b2n keep * 2 ^ 5 + b2n jour * 2 ^ 6 + b2n store * 2 ^ 7 + n * 2 ^ 8 := by
    simp only [w, powerWord, BitVec.toNat_ofNat]
    omega
  simp only [fld, nfld, BitVec.getLsbD, hw, Nat.testBit_eq_decide_div_mod_eq]
  refine ⟨by omega, by omega, ?_, ?_, ?_, by omega⟩
  · rw [hb keep]; grind
  · rw [hb jour]; grind
  · rw [hb store]; grind

/-- POWER_STATUS answers the module's state, the sleeping cells and the cells held awake. -/
theorem exec_powerStatus {s : State} {r q : Req} (h : s.Accepts 0x0100 r q) (he : q.ExtSize 0) (hroom : 7 ≤ q.room) :
    let mask (p : Cell → Bool) : Nat := maskOf ((List.range 64).filter fun c => p (s.cell c))
    exec (.powerStatus r) s = .next (s.respond 0x0100 q stOk
      ([powerWord s.modCode s.crn.cause.code s.crn.preserve s.img.journaling s.crn.storeKept (popcount 64 (mask Cell.out))] ++
        two (mask fun c => decide (c.st = .doze)) ++ two (mask fun c => decide (c.st = .slumber)) ++ two s.hif.hold.toNat)) := by
  intro mask
  refine (mailbox_accepted h rfl rfl (by simp) (by simpa using he) (by simp) rfl).trans ?_
  rw [if_neg Bool.false_ne_true, State.finish_done]
  · rfl
  · exact .inl rfl
  · rfl
  · rfl
  · exact hroom

/-! ## POWER_SET_STATE and POWER_SET_PRESERVE (03 R79 to R82, R108, R109) -/

/-- What POWER_SET_STATE answers when it is not BUSY. -/
def State.powerSet (s : State) (q : Req) : Ans :=
  if s.pfwLow ∨ (q.f 4 1 0 = 2 ∧ s.hot) then { status := stRefused, st := s }
  else if q.f 4 1 0 = s.modCode then { st := s }
  else if q.f 4 1 0 = 2 then { st := s.onCrn fun c => { c with trans := some { kind := .toRun, back := c.mod } } }
  else if q.f 4 1 0 = 1 then { st := s.beginTrans .toStandby false }
  else { st := (s.beginTrans .toWatch false).onCrn fun c => { c with
    afterWatch := if q.f 4 3 2 = 2 then .run else .standby, wakeTime := q.f64 5 } }

/-- The checks of POWER_SET_STATE by its operands. -/
theorem exec_powerSetState {s : State} {r q : Req} (h : s.Accepts 0x0101 r q) (hrsv : q.f 4 31 4 = 0) (he : q.ExtSize 3)
    (hrun : q.f 4 1 0 ≠ 3) (hfatal : q.f 4 1 0 = 2 → s.flt.fatal = 0)
    (hwatch : q.f 4 1 0 = 0 → (q.f 4 3 2 = 1 ∨ q.f 4 3 2 = 2) ∧ (q.f64 5 = 0 ∨ s.now + 10000000 ≤ q.f64 5))
    (hother : q.f 4 1 0 ≠ 0 → q.f 4 3 2 = 0 ∧ q.f64 5 = 0) : exec (.powerSetState r) s =
      .next (if s.hif.pend || s.changing then s.respond 0x0101 q stBusy [] else s.finish 0x0101 q (s.powerSet q)) := by
  refine mailbox_accepted h ?_ rfl (by simp) (by simpa using he) (by simpa using hfatal) rfl
  by_cases ht : q.f 4 1 0 = 0
  · obtain ⟨haft, hwake⟩ := hwatch ht
    have hin : inRange (q.f 4 3 2) 1 2 = true := by simp only [inRange]; grind
    simp [Req.rsv, hrsv, ht, hin]
    omega
  · obtain ⟨haft, hwake⟩ := hother ht
    simp [Req.rsv, hrsv, hrun, ht, haft, hwake]

/-- No transition to the target begins where it holds already, or is refused. -/
theorem State.finish_powerSet_refused {s : State} {q : Req} (h : s.pfwLow = true ∨ (q.f 4 1 0 = 2 ∧ s.hot = true)) :
    s.finish 0x0101 q (s.powerSet q) = s.respond 0x0101 q stRefused [] := by
  rw [State.powerSet, if_pos h]
  exact State.finish_no (by decide) (by decide)

/-- A seal leaves no segment open. -/
@[simp] theorem State.sealNow_open (s : State) : s.sealNow.img.open_ = none := by
  unfold State.sealNow State.sealBegin State.sealDone
  cases h : s.img.open_ <;> simp [h]

/-- A transition begins: Cairn's marks of it, and a seal of the journal. -/
theorem State.beginTrans_eq (k : TransKind) (th : Bool) (s : State) :
    s.beginTrans k th = { s with
      crn := { s.crn with
        trans := some { kind := k, back := s.crn.mod, thermal := th, keep := s.crn.preserve && decide (s.crn.mod = .run) }
        draining := decide (s.crn.mod = .run)
        thermal := false }
      img := s.sealNow.img
      sup := s.sealNow.sup } := by
  ext1 <;> simp [State.beginTrans]

/-- The transition that POWER_SET_STATE begins towards `target`. -/
def startedTrans (target : Nat) (s : State) : Trans :=
  if target = 2 then { kind := .toRun, back := s.crn.mod }
  else
    { kind := if target = 1 then .toStandby else .toWatch
      back := s.crn.mod
      keep := s.crn.preserve && decide (s.crn.mod = .run) }

/-- The state in which a transition to `target` has begun, with Watch's end where that is the target. -/
def State.transBegun (target aft wake : Nat) (s : State) : State :=
  if target = 2 then { s with crn := { s.crn with trans := some (startedTrans target s) } }
  else
    { s with
      crn := { s.crn with
        trans := some (startedTrans target s)
        draining := decide (s.crn.mod = .run)
        thermal := false
        afterWatch := if target = 1 then s.crn.afterWatch else if aft = 2 then .run else .standby
        wakeTime := if target = 1 then s.crn.wakeTime else wake }
      img := s.sealNow.img
      sup := s.sealNow.sup }

/-- Where it is neither refused nor idle, POWER_SET_STATE begins the transition. -/
theorem State.powerSet_begins {s : State} {q : Req} (hno : ¬(s.pfwLow = true ∨ (q.f 4 1 0 = 2 ∧ s.hot = true)))
    (hmod : q.f 4 1 0 ≠ s.modCode) :
    s.powerSet q = { st := s.transBegun (q.f 4 1 0) (q.f 4 3 2) (q.f64 5) } := by
  rw [State.powerSet, if_neg hno, if_neg hmod]
  by_cases h2 : q.f 4 1 0 = 2
  · simp [h2, State.transBegun, startedTrans, State.onCrn]
  by_cases h1 : q.f 4 1 0 = 1
  · simp [h1, State.transBegun, startedTrans, State.beginTrans_eq]
  · simp [h1, h2, State.transBegun, startedTrans, State.beginTrans_eq, State.onCrn]

/-- What the begun transition is and what of the state it changes. -/
theorem State.transBegun_spec (target aft wake : Nat) (s : State) :
    let u := s.transBegun target aft wake
    let x := startedTrans target s
    u = { s with crn := u.crn, img := u.img, sup := u.sup } ∧ u.crn.trans = some x ∧ x.back = s.crn.mod ∧ x.phase = 0 ∧
      x.thermal = false ∧ x.kind = (if target = 2 then .toRun else if target = 1 then .toStandby else .toWatch) ∧
      u.crn.mod = s.crn.mod ∧
      (target ≠ 2 → (u.crn.draining = true ↔ s.crn.mod = .run) ∧ u.img.open_ = none ∧
        (x.keep = true ↔ s.crn.preserve = true ∧ s.crn.mod = .run)) ∧
      (target = 2 → u.crn.draining = s.crn.draining ∧ u.img = s.img) ∧
      (target = 0 → u.crn.wakeTime = wake ∧ u.crn.afterWatch = if aft = 2 then .run else .standby) := by
  by_cases h : target = 2
  · simp [State.transBegun, startedTrans, h]
  · simp [State.transBegun, startedTrans, h]
    grind

/-! ## POWER_HOLD_AWAKE (03 R110) -/

/-- Wakes change cells and the performance monitor's counts alone. -/
theorem State.wakes_eq (l : List Nat) (s : State) :
    let u := l.foldl (fun a c => a.startWake c) s
    u = { s with cel := u.cel, pmu := u.pmu } := by
  exact List.foldlRecOn (motive := fun u : State => u = { s with cel := u.cel, pmu := u.pmu }) l _ rfl
    fun a ha c _ => (State.startWake_eq c a).trans (by rw [ha])

/-- A cell that is not listed stays as it is. -/
theorem State.wakes_cell_other {l : List Nat} {c : Nat} (h : c ∉ l) (s : State) :
    (l.foldl (fun a c => a.startWake c) s).cell c = s.cell c :=
  List.foldlRecOn (motive := fun u : State => u.cell c = s.cell c) l _ rfl
    fun a ha _ hd => (State.startWake_cell_other (ne_of_mem_of_not_mem hd h).symm a).trans ha

/-- What a wake makes of a cell depends on the cell and the time alone. -/
theorem State.startWake_cell_congr {s t : State} {c : Nat} (hcell : t.cell c = s.cell c) (hup : t.upNs = s.upNs) :
    (t.startWake c).cell c = (s.startWake c).cell c := by
  unfold State.startWake
  rw [hcell, hup]
  split
  · simp [State.cell, show tabGet {} t.cel c = tabGet {} s.cel c from hcell]
  · simp [State.cell, show tabGet {} t.cel c = tabGet {} s.cel c from hcell]
  · exact hcell

/-- A listed cell is woken as if it were the only one. -/
theorem State.wakes_cell {l : List Nat} {c : Nat} (hl : l.Nodup) (h : c ∈ l) (s : State) :
    (l.foldl (fun a c => a.startWake c) s).cell c = (s.startWake c).cell c := by
  obtain ⟨before, after, rfl⟩ := List.append_of_mem h
  obtain ⟨-, hafter, hapart⟩ := List.nodup_append.mp hl
  have hbefore : c ∉ before := fun hc => hapart c hc c (List.mem_cons_self ..) rfl
  rw [List.foldl_append, List.foldl_cons, State.wakes_cell_other (List.nodup_cons.mp hafter).1]
  refine State.startWake_cell_congr (State.wakes_cell_other hbefore s) ?_
  rw [State.wakes_eq before s]
  rfl

/-- The state in which the cells of the mask are to be held awake. -/
def State.holding (m : Nat) (s : State) : State := { s with hif := { s.hif with hold := BitVec.ofNat 64 m } }

@[simp] theorem State.holding_cell (m c : Nat) (s : State) : (s.holding m).cell c = s.cell c := (rfl)
@[simp] theorem State.holding_upNs (m : Nat) (s : State) : (s.holding m).upNs = s.upNs := (rfl)

/-- POWER_HOLD_AWAKE sets its bits and wakes the cells of its mask. -/
theorem exec_powerHoldAwake {s : State} {r q : Req} (h : s.Accepts 0x0103 r q) (he : q.ExtSize 2) :
    exec (.powerHoldAwake r) s = .next (((bitsOf 64 (q.f64 4)).foldl (fun (a : State) c => a.startWake c)
      (s.holding (q.f64 4))).respond 0x0103 q stOk []) := by
  refine (mailbox_accepted h rfl rfl (by simp) (by simpa using he) (by simp) rfl).trans ?_
  rw [if_neg Bool.false_ne_true]
  exact congrArg _ State.finish_ok

theorem mem_bitsOf {n v c : Nat} : c ∈ bitsOf n v ↔ c < n ∧ v.testBit c = true := by simp [bitsOf]

theorem nodup_bitsOf (n v : Nat) : (bitsOf n v).Nodup := List.nodup_range.filter _

/-- Settles O48, a command at a time. -/
theorem powerCommands : Obligations.PowerCommands := by
  unfold Obligations.PowerCommands
  refine ⟨?status, ?setState, ?setPreserve, ?holdAwake⟩
  case status =>
    intro s r q h he hroom
    have hout : popcount 64 (maskOf ((List.range 64).filter fun c => (s.cell c).out)) =
      ((List.range 64).filter fun c => (s.cell c).out).length := popcount_maskOf_filter 64 fun c => (s.cell c).out
    obtain ⟨hmod, hcause, hkeep, hjour, hstore, hnum⟩ := powerWord_fields s.modCode_le s.crn.cause.code_le
      (n := ((List.range 64).filter fun c => (s.cell c).out).length) (List.length_filter_le _ (List.range 64))
      s.crn.preserve s.img.journaling s.crn.storeKept
    refine ⟨_, exec_powerStatus h he hroom, rfl, ?_⟩
    rw [hout]
    refine ⟨hmod, hcause, hkeep, hjour, hstore, hnum, fun c hc => ?_, fun c hc => ?_, join_two s.hif.hold.isLt⟩
    · rw [← decide_eq_true_iff (p := (s.cell c).st = .doze)]
      exact iff_of_eq (congrArg (· = true) (testBit_join_cells (fun c => decide ((s.cell c).st = .doze)) hc))
    · rw [← decide_eq_true_iff (p := (s.cell c).st = .slumber)]
      exact iff_of_eq (congrArg (· = true) (testBit_join_cells (fun c => decide ((s.cell c).st = .slumber)) hc))
  case setState =>
    intro s r q h hrsv he target aft wake hrun hfatal hwatch hother busy no
    have hbusy : busy ↔ (s.hif.pend || s.changing) = true := (Bool.or_eq_true _ _).symm.to_iff
    have hexec := exec_powerSetState h hrsv he hrun hfatal hwatch hother
    rw [hexec]
    refine ⟨fun hb => ?_, fun hb hno => ?_, fun hb hno hmod => ?_, fun hb hno hmod => ?_⟩
    · rw [if_pos (hbusy.mp hb)]
    · rw [if_neg (mt hbusy.mpr hb), State.finish_powerSet_refused hno]
    · rw [if_neg (mt hbusy.mpr hb), State.powerSet, if_neg hno, if_pos hmod, State.finish_ok]
    · refine ⟨s.transBegun target aft wake, startedTrans target s, ?_, s.transBegun_spec target aft wake⟩
      rw [if_neg (mt hbusy.mpr hb), State.powerSet_begins hno hmod, State.finish_ok]
  case setPreserve =>
    intro s r q h hrsv he
    refine (mailbox_accepted h (by simp [Req.rsv, hrsv]) rfl (by simp) (by simpa using he) (by simp) rfl).trans ?_
    rw [if_neg Bool.false_ne_true, bit_eq_fld]
    exact congrArg _ State.finish_ok
  case holdAwake =>
    intro s r q h he
    refine ⟨_, exec_powerHoldAwake h he, State.wakes_eq _ _, fun c hc => ⟨fun hm hdoze => ?_, fun hm hslumber => ?_, fun hm => ?_⟩⟩
    · rw [State.wakes_cell (nodup_bitsOf _ _) (mem_bitsOf.mpr ⟨hc, hm⟩), State.startWake_cell_doze (by simpa using hdoze)]
      exact ⟨rfl, rfl⟩
    · rw [State.wakes_cell (nodup_bitsOf _ _) (mem_bitsOf.mpr ⟨hc, hm⟩), State.startWake_cell_slumber (by simpa using hslumber)]
      exact ⟨rfl, rfl⟩
    · rw [State.wakes_cell_other (by simp [mem_bitsOf, hm]), State.holding_cell]

end Sys2Proof.Machine
end

section
/-!
SUPPORT. The footing of a state: what the work of frames and their copies leaves in place, and so the loss of a link.
-/

namespace Sys2Proof.Machine

open Sys2Proof

/-! ## The footing -/

/-- A state without what frames, their copies and their counts change: of FLT the live conditions stay, of the flow store
all but the VOIDs. -/
def State.footing (s : State) : State :=
  { s with
    flt := { live := s.flt.live }
    flo := { s.flo with voids := [], seq := 0 }
    rng := {}, pmu := {}, cel := [], frm := {}, fab := {}, egr := {}, ctr := [], out := [] }

@[simp] theorem State.footing_crn (s : State) : s.footing.crn = s.crn := (rfl)
@[simp] theorem State.footing_sup (s : State) : s.footing.sup = s.sup := (rfl)
@[simp] theorem State.footing_tim (s : State) : s.footing.tim = s.tim := (rfl)
@[simp] theorem State.footing_hif (s : State) : s.footing.hif = s.hif := (rfl)
@[simp] theorem State.footing_img (s : State) : s.footing.img = s.img := (rfl)
@[simp] theorem State.footing_sec (s : State) : s.footing.sec = s.sec := (rfl)
@[simp] theorem State.footing_stg (s : State) : s.footing.stg = s.stg := (rfl)
@[simp] theorem State.footing_bpm (s : State) : s.footing.bpm = s.bpm := (rfl)
@[simp] theorem State.footing_prt (s : State) : s.footing.prt = s.prt := (rfl)
@[simp] theorem State.footing_tbl (s : State) : s.footing.tbl = s.tbl := (rfl)
@[simp] theorem State.footing_prg (s : State) : s.footing.prg = s.prg := (rfl)
@[simp] theorem State.footing_shadow (s : State) : s.footing.shadow = s.shadow := (rfl)
@[simp] theorem State.footing_draw (s : State) : s.footing.draw = s.draw := (rfl)
@[simp] theorem State.footing_pending (s : State) : s.footing.pending = s.pending := (rfl)
@[simp] theorem State.footing_live (s : State) : s.footing.flt.live = s.flt.live := (rfl)
@[simp] theorem State.footing_recs (s : State) : s.footing.flo.recs = s.flo.recs := (rfl)

@[simp] theorem State.onIf_footing {b : Bool} {f : State → State} {s : State} (h : ∀ a, (f a).footing = a.footing) :
    (s.onIf b f).footing = s.footing := State.onIf_keeps State.footing b f s (h s)

@[simp] theorem foldl_footing {β : Type} {f : State → β → State} {l : List β} {s : State}
    (h : ∀ a x, (f a x).footing = a.footing) : (l.foldl f s).footing = s.footing := foldl_keeps State.footing f h l s

@[simp] theorem State.onRng_footing (f : Rng → Rng) (s : State) : (s.onRng f).footing = s.footing := (rfl)
@[simp] theorem State.onRing_footing (i : Nat) (f : Ring → Ring) (s : State) : (s.onRing i f).footing = s.footing := (rfl)
@[simp] theorem State.onFrm_footing (f : Frm → Frm) (s : State) : (s.onFrm f).footing = s.footing := (rfl)
@[simp] theorem State.onFab_footing (f : Fab → Fab) (s : State) : (s.onFab f).footing = s.footing := (rfl)
@[simp] theorem State.onEgr_footing (f : Egr → Egr) (s : State) : (s.onEgr f).footing = s.footing := (rfl)
@[simp] theorem State.onCell_footing (c : Nat) (f : Cell → Cell) (s : State) : (s.onCell c f).footing = s.footing := (rfl)
@[simp] theorem State.onPmu_footing (f : Pmu → Pmu) (s : State) : (s.onPmu f).footing = s.footing := (rfl)
@[simp] theorem State.emit_footing (o : Out) (s : State) : (s.emit o).footing = s.footing := (rfl)
@[simp] theorem State.bump_footing (k i x n : Nat) (s : State) : (s.bump k i x n).footing = s.footing := (rfl)

@[simp] theorem State.pmuEvent_footing (b e n : Nat) (o : Occ) (s : State) : (s.pmuEvent b e n o).footing = s.footing := by
  rw [State.pmuEvent_eq]; rfl

/-- An event that begins and ends no live condition leaves the live ones. -/
@[simp] theorem State.raise_footing {e : Ev} {s : State} (hl : e.live = false) (he : e.ended = false) :
    (s.raise e).footing = s.footing := by
  unfold State.raise
  split
  · simp [State.footing, State.onFlt, hl, he]
  · rfl

/-! ## Frames and their copies -/

@[simp] theorem State.finishDesc_footing (i k st n : Nat) (ts : Option Nat) (s : State) :
    (s.finishDesc i k st n ts).footing = s.footing := (rfl)

@[simp] theorem State.onFrame_footing (fid : Nat) (f : Frame → Frame) (s : State) : (s.onFrame fid f).footing = s.footing := by
  unfold State.onFrame; split <;> simp

@[simp] theorem State.hostDone_footing (x : Frame) (s : State) : (s.hostDone x).footing = s.footing := by
  unfold State.hostDone; (repeat' split) <;> simp

@[simp] theorem State.settle_footing (fid : Nat) (s : State) : (s.settle fid).footing = s.footing := by
  dsimp only [State.settle]; split <;> simp

@[simp] theorem State.bufAdd_footing (c r n : Nat) (s : State) : (s.bufAdd c r n).footing = s.footing := (rfl)
@[simp] theorem State.bufSub_footing (c r n : Nat) (s : State) : (s.bufSub c r n).footing = s.footing := (rfl)
@[simp] theorem State.onCopies_footing (t : Copy → Bool) (f : Copy → Copy) (s : State) :
    (s.onCopies t f).footing = s.footing := (rfl)
@[simp] theorem State.freeChunks_footing (s : State) : s.freeChunks.footing = s.footing := (rfl)
@[simp] theorem State.pullCopy_footing (fid p : Nat) (s : State) : (s.pullCopy fid p).footing = s.footing := (rfl)

@[simp] theorem State.endCopy_footing (c : Copy) (s : State) : (s.endCopy c).footing = s.footing := by
  dsimp only [State.endCopy]; split <;> simp

@[simp] theorem State.dropCopy_footing (c : Copy) (k i : Nat) (s : State) : (s.dropCopy c k i).footing = s.footing := by
  simp [State.dropCopy]

@[simp] theorem State.refuseCopy_footing (c : Copy) (k i st : Nat) (s : State) :
    (s.refuseCopy c k i st).footing = s.footing := by
  simp [State.refuseCopy]

@[simp] theorem State.badTail_footing (fid : Nat) (l : List Nat) (s : State) : (s.badTail fid l).footing = s.footing :=
  foldl_footing fun a p => by (repeat' split) <;> simp

/-! ## Chunks -/

@[simp] theorem State.closeChunk_footing (a b c : Nat) (s : State) : (s.closeChunk a b c).footing = s.footing := by
  unfold State.closeChunk; split <;> simp

@[simp] theorem State.openChunk_footing (a b c : Nat) (s : State) : (s.openChunk a b c).2.footing = s.footing := by
  unfold State.openChunk; split <;> simp

@[simp] theorem packBytes_footing (n src dst cls mask fid off len head : Nat) (last bad : Bool) (s : State) :
    (packBytes n src dst cls mask fid off len head last bad s).footing = s.footing := by
  induction n generalizing off len head s with
  | zero => rfl
  | succ n ih =>
    dsimp only [packBytes]
    (repeat' split) <;> simp [ih]

@[simp] theorem State.growCopies_footing (fid p n : Nat) (last : Bool) (s : State) :
    (s.growCopies fid p n last).footing = s.footing := by
  unfold State.growCopies; split <;> simp

@[simp] theorem State.landPiece_footing (c : Nat) (p : Piece) (s : State) : (s.landPiece c p).footing = s.footing := by
  dsimp only [State.landPiece]; (repeat' split) <;> simp

@[simp] theorem State.endPacked_footing (fid : Nat) (s : State) : (s.endPacked fid).footing = s.footing :=
  foldl_footing fun a c => by split <;> simp

@[simp] theorem State.ledger_footing (fid : Nat) (b : Bool) (s : State) : (s.ledger fid b).footing = s.footing := by
  dsimp only [State.ledger]; split <;> simp

@[simp] theorem State.cutPacked_footing (fid : Nat) (s : State) : (s.cutPacked fid).footing = s.footing := by
  simp [State.cutPacked]

@[simp] theorem State.packFrame_footing (fid : Nat) (s : State) : (s.packFrame fid).footing = s.footing := by
  dsimp only [State.packFrame]; (repeat' split) <;> simp

@[simp] theorem State.unpack_footing (fid : Nat) (s : State) : (s.unpack fid).footing = s.footing := by
  simp [State.unpack]

@[simp] theorem State.feedCol_footing (fid : Nat) (s : State) : (s.feedCol fid).footing = s.footing := by
  dsimp only [State.feedCol]
  split
  · exact foldl_footing fun a c => by (repeat' split) <;> simp
  · rfl

/-! ## The end of a frame -/

/-- A VOID that is posted, or counted as lost. -/
@[simp] theorem State.postVoid_footing (fid : Nat) (s : State) : (s.postVoid fid).footing = s.footing := by
  dsimp only [State.postVoid]
  split
  · rfl
  · split
    · simp
    · exact State.onFrame_footing fid _ s

@[simp] theorem State.closeFrame_footing (fid : Nat) (bad : Bool) (s : State) : (s.closeFrame fid bad).footing = s.footing := by
  dsimp only [State.closeFrame]; (repeat' split) <;> simp

@[simp] theorem State.endCopies_footing (fid : Nat) (bad : Bool) (s : State) : (s.endCopies fid bad).footing = s.footing :=
  foldl_footing fun a e => by (repeat' split) <;> simp

/-! ## The loss of a link -/

@[simp] theorem setTx_footing (p : Nat) (t : Option Tx) (s : State) : (setTx p t s).footing = s.footing := (rfl)
@[simp] theorem setHeld_footing (p : Nat) (t : Option Tx) (s : State) : (setHeld p t s).footing = s.footing := (rfl)

@[simp] theorem State.chargeShaper_footing (p b : Nat) (n : Int) (s : State) :
    (s.chargeShaper p b n).footing = s.footing := by
  dsimp only [State.chargeShaper, State.putShaper]; split <;> simp

@[simp] theorem State.chargeFrame_footing (p : Nat) (c : Copy) (n : Int) (s : State) :
    (s.chargeFrame p c n).footing = s.footing := by
  dsimp only [State.chargeFrame]; split <;> simp

@[simp] theorem State.endTx_footing (p : Nat) (t : Tx) (b : Bool) (s : State) : (s.endTx p t b).footing = s.footing := by
  dsimp only [State.endTx]; (repeat' split) <;> simp

@[simp] theorem State.dropLink_footing (p : Nat) (s : State) : (s.dropLink p).footing = s.footing := by
  dsimp only [State.dropLink]; (repeat' split) <;> simp

end Sys2Proof.Machine
end

section
/-!
PROOF of ResetCommands (O49). What resets cover, the links and cells that RESET_CELL, CELL_RESET_DONE and RESET_LANE
change, and what a replay of the journal publishes (01 R30; 03 R95, R100, R107, R111; 14 R498, R500).
-/

namespace Sys2Proof.Machine

open Sys2Proof

/-- As `mailbox_accepted`, with what follows an answer OK. -/
theorem mailboxThen_accepted {op : Nat} {r q : Req} {s : State} {chk : Req → Chk} {run : Req → Ans}
    {after : Req → State → State} (h : s.Accepts op r q) (hb : (chk q).bad = false) (hl : (chk q).bl = false)
    (hz : ∀ n, (chk q).size = some n → q.size = n) (he : ∀ n, (chk q).ext = some n → q.ExtSize n)
    (hk : (chk q).locks = true → s.flt.fatal = 0) (ho : (chk q).opens = false) : mailboxThen op r s chk run after =
      .next (if (chk q).busy then s.respond op q stBusy []
        else if (run q).status = stOk then after q (s.finish op q (run q)) else s.finish op q (run q)) := by
  unfold mailboxThen
  rw [h.1]
  dsimp only
  rw [preStatus_accepted h hb hl hz he hk ho]
  cases (chk q).busy <;> rfl

/-- An answer that comes later leaves its command deferred. -/
theorem State.finish_waits {op : Nat} {s t : State} {q : Req} {k : DeferKind} : s.finish op q { st := t, wait := some k } =
    { t with hif := { t.hif with deferred := t.hif.deferred ++ [{ kind := k, op := op, req := q }] } } := (rfl)

/-! ## What a reset covers and what it leaves (03 R95, R101) -/

@[simp] theorem State.resetDomains_crn (m keep : Bool) (s : State) : (s.resetDomains m keep).crn = s.crn := by
  cases keep <;> rfl
@[simp] theorem State.resetDomains_sup (m keep : Bool) (s : State) : (s.resetDomains m keep).sup = s.sup := by
  cases keep <;> rfl
@[simp] theorem State.resetDomains_tim (m keep : Bool) (s : State) : (s.resetDomains m keep).tim = s.tim := by
  cases keep <;> rfl
@[simp] theorem State.resetDomains_sec (m keep : Bool) (s : State) : (s.resetDomains m keep).sec = s.sec := by
  cases keep <;> rfl
@[simp] theorem State.resetDomains_fw (m keep : Bool) (s : State) : (s.resetDomains m keep).img.fw = s.img.fw := by
  cases keep <;> rfl
@[simp] theorem State.resetDomains_open (m keep : Bool) (s : State) : (s.resetDomains m keep).img.open_ = none := by
  cases keep <;> rfl
@[simp] theorem State.resetDomains_epoch (m keep : Bool) (s : State) : (s.resetDomains m keep).hif.epoch = s.hif.epoch := by
  cases keep <;> rfl
@[simp] theorem State.resetDomains_sessions (m keep : Bool) (s : State) : (s.resetDomains m keep).hif.sessions = [] := by
  cases keep <;> rfl
@[simp] theorem State.resetDomains_channels (m keep : Bool) (s : State) : (s.resetDomains m keep).hif.channels = [] := by
  cases keep <;> rfl
@[simp] theorem State.resetDomains_cel (m keep : Bool) (s : State) : (s.resetDomains m keep).cel = [] := by
  cases keep <;> rfl
@[simp] theorem State.resetDomains_prt (m keep : Bool) (s : State) : (s.resetDomains m keep).prt = [] := by
  cases keep <;> rfl
@[simp] theorem State.resetDomains_cur (m keep : Bool) (s : State) : (s.resetDomains m keep).stg.cur = [] := by
  cases keep <;> rfl
@[simp] theorem State.resetDomains_recs (m keep : Bool) (s : State) :
    (s.resetDomains m keep).flo.recs = if keep then s.flo.recs else [] := by
  cases keep <;> rfl
@[simp] theorem State.resetDomains_cache (m keep : Bool) (s : State) : (s.resetDomains m keep).flo.cache = [] := by
  cases keep <;> rfl
@[simp] theorem State.resetDomains_coh (m keep : Bool) (s : State) : (s.resetDomains m keep).flo.coh = [] := by
  cases keep <;> rfl

/-- A reset that resets the GCC's PCIe side too (03 R95). -/
def ResetKind.whole (k : ResetKind) : Bool := decide (k = .module ∨ k = .fatal ∨ k = .watchExit)

/-- A reset that boots firmware: its domains, Cairn's marks of it, the loss of lock, and what a whole reset takes of the locks. -/
theorem State.applyReset_eq (k : ResetKind) (back : ModState) (keep : Bool) (s : State) : s.applyReset k back keep =
    { s.resetDomains (!k.whole) keep with
      crn := { s.crn with
        trans := some { kind := .reset k, back := back }
        fwRuns := false, cause := k, storeKept := keep, wdArmed := false, wdDeferred := false, draining := false
        thermal := false, fatalTrig := none, resetAsked := false, pcieUp := s.crn.pcieUp && !k.whole }
      tim := { s.tim with lock := 0 }
      sec := if k.whole then { s.sec with unlocked := 0, armScope := 0, armUntil := 0 } else s.sec } := by
  cases k <;> cases keep <;> rfl

/-- With preserve-on-warm in Run a warm or watchdog reset waits for the drain (03 R104). -/
theorem State.beginReset_drains {k : ResetKind} {s : State} (hk : k = .warm ∨ k = .watchdog) (hp : s.crn.preserve = true)
    (hm : s.crn.mod = .run) : s.beginReset k = { s with
      crn := { s.crn with
        trans := some { kind := .reset k, back := s.resetTarget }
        draining := true, fwRuns := false, wdArmed := false, wdDeferred := false }
      hif := { s.hif with blLow := 0, blHigh := 0, ready := false } } := by
  simp [State.beginReset, hk, hp, hm, State.onCrn, State.onHif]

/-- A warm or watchdog reset that has no drain to wait for. -/
theorem State.beginReset_applies {k : ResetKind} {s : State} (hk : k = .warm ∨ k = .watchdog)
    (h : ¬(s.crn.preserve = true ∧ s.crn.mod = .run)) :
    s.beginReset k = s.applyReset k s.resetTarget s.crn.preserve := by
  have hno : ¬((s.crn.preserve && decide (k = .warm ∨ k = .watchdog)) = true ∧ s.crn.mod = .run) := by simpa [hk] using h
  rw [State.beginReset, if_neg hno]
  simp [hk]

/-- Where a reset returns to depends on Cairn alone. -/
theorem State.resetTarget_congr {s t : State} (h : t.crn = s.crn) : t.resetTarget = s.resetTarget := by
  simp only [State.resetTarget, h]

/-! ## RESET_WARM (03 R95) -/

/-- What RESET_WARM leaves, after the seal of the journal and the reset: in the boot mailbox its response stays. -/
def State.warmReset (via : Via) (t : State) : State :=
  if via = .boot then (t.sealNow.beginReset .warm).onHif fun h => { h with bmbRsp := t.hif.bmbRsp, bmbDone := true }
  else t.sealNow.beginReset .warm

theorem exec_resetWarm {s : State} {r q : Req} (h : s.Accepts 0x0110 r q) (he : q.ExtSize 0) : exec (.resetWarm r) s =
    .next (if s.hif.pend || s.changing then s.respond 0x0110 q stBusy []
      else if s.pfwLow then s.respond 0x0110 q stRefused []
      else (s.respond 0x0110 q stOk []).warmReset q.via) := by
  change execResetWarm r s = _
  unfold execResetWarm
  rw [mailboxThen_accepted h rfl rfl (by simp) (by simpa using he) (by simp) rfl]
  cases hpfw : s.pfwLow
  · simp [State.finish_ok, State.warmReset]
  · simp [State.finish_no]

/-- A response keeps the epoch. -/
@[simp] theorem State.respond_epoch (op : Nat) (r : Req) (st : Nat) (ws : List Word) (s : State) :
    (s.respond op r st ws).hif.epoch = s.hif.epoch := congrArg Anchor.epoch (State.respond_anchor op r st ws s)

/-- What every warm reset leaves: firmware is stopped, the journal sealed, and the way back set. -/
theorem State.warmReset_spec (via : Via) (s : State) : let t := s.warmReset via
    t.crn.fwRuns = false ∧ t.img.open_ = none ∧ t.crn.mod = s.crn.mod ∧ t.sec = s.sec ∧ t.tim.ctr = s.tim.ctr ∧
      t.img.fw = s.img.fw ∧ t.hif.epoch = s.hif.epoch ∧
      t.crn.trans = some { kind := .reset .warm, back := s.resetTarget } := by
  have htarget : s.sealNow.resetTarget = s.resetTarget := State.resetTarget_congr (State.sealNow_crn s)
  have hfw : s.sealNow.img.fw = s.img.fw := by
    unfold State.sealNow State.sealBegin State.sealDone
    cases s.img.open_ <;> rfl
  by_cases hkeep : s.sealNow.crn.preserve = true ∧ s.sealNow.crn.mod = .run
  · obtain ⟨hp, hm⟩ := hkeep
    have ht := State.beginReset_drains (.inl rfl) hp hm
    unfold State.warmReset
    split <;> simp [ht, htarget, hfw]
  · have ht := State.beginReset_applies (.inl rfl) hkeep
    rw [State.applyReset_eq] at ht
    unfold State.warmReset
    split <;> simp [ht, htarget, hfw, ResetKind.whole]

/-- With preserve-on-warm in Run, it waits for the drain. -/
theorem State.warmReset_drains {via : Via} {s : State} (hp : s.crn.preserve = true) (hm : s.crn.mod = .run) :
    let t := s.warmReset via
    t.crn.draining = true ∧ t.cel = s.cel ∧ t.prt = s.prt ∧ t.stg = s.stg ∧ t.flo = s.flo := by
  have ht := State.beginReset_drains (s := s.sealNow) (.inl rfl) (by simpa using hp) (by simpa using hm)
  unfold State.warmReset
  split <;> simp [ht]

/-- Otherwise the reset is made at once, and keeps the flow store's records with preserve-on-warm. -/
theorem State.warmReset_applies {via : Via} {s : State} (h : ¬(s.crn.preserve = true ∧ s.crn.mod = .run)) :
    let t := s.warmReset via
    t.crn.cause = .warm ∧ t.cel = [] ∧ t.prt = [] ∧ t.stg.cur = [] ∧ t.hif.sessions = [] ∧ t.hif.channels = [] ∧
      t.flo.recs = if s.crn.preserve then s.flo.recs else [] := by
  have ht := State.beginReset_applies (s := s.sealNow) (.inl rfl) (by simpa using h)
  rw [State.applyReset_eq] at ht
  unfold State.warmReset
  split <;> simp [ht]

/-! ## Links -/

/-- Of the footing a change of a port alters the ports alone. -/
theorem State.onPort_footing (p : Nat) (f : Port → Port) (s : State) :
    (s.onPort p f).footing = { s.footing with prt := (s.onPort p f).prt } := (rfl)

@[simp] theorem State.dropLink_prt (p : Nat) (s : State) : (s.dropLink p).prt = s.prt := by
  simpa only [State.footing_prt] using congrArg State.prt (State.dropLink_footing p s)

/-- A link change ends in the new state. -/
@[simp] theorem State.setLink_link (p : Nat) (l : Link) (s : State) : ((s.setLink p l).port p).link = l := by
  dsimp only [State.setLink]
  split
  · assumption
  · simp [State.port]

/-- No other port changes. -/
theorem State.setLink_port_other {p j : Nat} (h : j ≠ p) (l : Link) (s : State) : (s.setLink p l).port j = s.port j := by
  dsimp only [State.setLink]
  split
  · rfl
  · split <;> simp [State.port, tabGet_tabMod_other h]

/-- Of the footing a link change alters its port alone. -/
theorem State.setLink_footing (p : Nat) (l : Link) (s : State) :
    (s.setLink p l).footing = { s.footing with prt := (s.setLink p l).prt } := by
  dsimp only [State.setLink]
  split
  · rfl
  · split
    · rw [State.onPort_footing]
      simp
    · rw [State.onPort_footing]

/-- A link that is not Up changes its port and nothing else. -/
theorem State.setLink_idle {p : Nat} {l : Link} {s : State} (h : (s.port p).link ≠ .up) :
    s.setLink p l = { s with prt := (s.setLink p l).prt } := by
  dsimp only [State.setLink]
  split
  · rfl
  · rfl

/-! ## The core of a state -/

/-- The footing without ports and flow store. -/
def State.core (s : State) : State := { s.footing with prt := [], flo := {} }

@[simp] theorem State.core_crn (s : State) : s.core.crn = s.crn := (rfl)
@[simp] theorem State.core_sup (s : State) : s.core.sup = s.sup := (rfl)
@[simp] theorem State.core_tim (s : State) : s.core.tim = s.tim := (rfl)
@[simp] theorem State.core_hif (s : State) : s.core.hif = s.hif := (rfl)
@[simp] theorem State.core_img (s : State) : s.core.img = s.img := (rfl)
@[simp] theorem State.core_sec (s : State) : s.core.sec = s.sec := (rfl)
@[simp] theorem State.core_stg (s : State) : s.core.stg = s.stg := (rfl)
@[simp] theorem State.core_bpm (s : State) : s.core.bpm = s.bpm := (rfl)
@[simp] theorem State.core_tbl (s : State) : s.core.tbl = s.tbl := (rfl)
@[simp] theorem State.core_prg (s : State) : s.core.prg = s.prg := (rfl)
@[simp] theorem State.core_shadow (s : State) : s.core.shadow = s.shadow := (rfl)
@[simp] theorem State.core_draw (s : State) : s.core.draw = s.draw := (rfl)
@[simp] theorem State.core_pending (s : State) : s.core.pending = s.pending := (rfl)
@[simp] theorem State.core_live (s : State) : s.core.flt.live = s.flt.live := (rfl)

theorem State.core_of_footing {s t : State} (h : t.footing = s.footing) : t.core = s.core := by
  rw [State.core, h]; rfl

@[simp] theorem foldl_core {β : Type} {f : State → β → State} {l : List β} {s : State}
    (h : ∀ a x, (f a x).core = a.core) : (l.foldl f s).core = s.core := foldl_keeps State.core f h l s

@[simp] theorem State.onPort_core (p : Nat) (f : Port → Port) (s : State) : (s.onPort p f).core = s.core := (rfl)
@[simp] theorem State.onCell_core (c : Nat) (f : Cell → Cell) (s : State) : (s.onCell c f).core = s.core := (rfl)
@[simp] theorem State.onFlo_core (f : Flo → Flo) (s : State) : (s.onFlo f).core = s.core := (rfl)
@[simp] theorem State.pmuDrop_core (g : Nat → Bool) (s : State) : (s.pmuDrop g).core = s.core := (rfl)
@[simp] theorem State.reinitCell_core (c : Nat) (s : State) : (s.reinitCell c).core = s.core := (rfl)

@[simp] theorem State.startWake_core (c : Nat) (s : State) : (s.startWake c).core = s.core := by
  rw [State.startWake_eq]; rfl

@[simp] theorem State.setLink_core (p : Nat) (l : Link) (s : State) : (s.setLink p l).core = s.core := by
  rw [State.core, State.setLink_footing]; rfl

/-! ## RESET_CELL: what the cell drops (03 R100) -/

@[simp] theorem State.resetPort_core (p : Nat) (s : State) : (s.resetPort p).core = s.core := by
  dsimp only [State.resetPort]
  exact (State.onPort_core _ _ _).trans (State.core_of_footing (by simp))

@[simp] theorem State.unpark_footing (fid : Nat) (s : State) : (s.unpark fid).footing = s.footing := by
  unfold State.unpark; split <;> simp

@[simp] theorem State.dropFrame_footing (fid st : Nat) (s : State) : (s.dropFrame fid st).footing = s.footing := by
  simp [State.dropFrame]

@[simp] theorem State.loseFrame_footing (fid : Nat) (s : State) : (s.loseFrame fid).footing = s.footing := by
  simp [State.loseFrame]

@[simp] theorem State.losePieces_footing (c : Nat) (l : List Piece) (s : State) : (s.losePieces c l).footing = s.footing :=
  foldl_footing fun a p => by dsimp only; split <;> simp

@[simp] theorem State.onPairOf_footing (d c : Nat) (f : Pair → Pair) (s : State) : (s.onPairOf d c f).footing = s.footing :=
  (rfl)

@[simp] theorem State.resetChunks_footing (c : Nat) (s : State) : (s.resetChunks c).footing = s.footing := by
  unfold State.resetChunks
  extract_lets f own held g t u late v
  have hu : u.footing = t.footing := foldl_footing fun a j => by split <;> simp
  have hv : v.footing = u.footing := by
    refine (State.onIf_footing fun a => by simp).trans (foldl_footing fun a j => ?_)
    dsimp only [late]
    split <;> simp
  exact (foldl_footing fun a d => by simp).trans (hv.trans hu)

/-- The begin of a cell reset leaves the core. -/
@[simp] theorem State.startCellReset_core (c : Nat) (s : State) : (s.startCellReset c).core = s.core := by
  unfold State.startCellReset
  extract_lets kinds mine t u waits v w x
  have hu : u.core = s.core := foldl_core (s := t) fun a p => State.resetPort_core p a
  have hv : v.core = u.core := (State.core_of_footing (State.resetChunks_footing c _)).trans
    (State.core_of_footing (foldl_footing fun a f => State.loseFrame_footing f a))
  have hx : x.core = v.core := (State.reinitCell_core c w).trans (State.onFlo_core _ v)
  exact ((State.onCell_core c _ _).trans (State.pmuDrop_core _ x)).trans (hx.trans (hv.trans hu))

theorem State.startCellReset_cell (c : Nat) (s : State) :
    ((s.startCellReset c).cell c).resetting = true ∧ ((s.startCellReset c).cell c).st = .run := by
  unfold State.startCellReset
  extract_lets kinds mine t u waits v w x
  rw [State.onCell_cell_same]
  exact ⟨rfl, rfl⟩

/-! ## RESET_CELL: the place out of duty (01 R30) -/

/-- The state in which the cell's reset has its place out of duty, if it has one. -/
def State.resetPlace (c : Nat) (s : State) : Option State := if (s.cell c).out then some s else s.dutyPlace

/-- There is none where neither the cell is out, nor a place free, nor a slumbering cell frees one. -/
theorem State.resetPlace_eq_none {c : Nat} {s : State} (h : ¬((s.cell c).out = true ∨ s.outCount < 16 ∨
    ∃ d, d < 64 ∧ (s.cell d).st = .slumber ∧ (s.cell d).returns = true)) : s.resetPlace c = none := by
  obtain ⟨hout, hcount, hslumber⟩ := by simpa only [not_or] using h
  rw [State.resetPlace, if_neg hout, State.dutyPlace, if_neg hcount, Option.map_eq_none_iff, State.firstSlumber,
    List.find?_eq_none]
  intro d hd hsleeps
  simp only [Bool.and_eq_true, decide_eq_true_eq] at hsleeps
  exact hslumber ⟨d, List.mem_range.mp hd, hsleeps⟩

/-- Where there is one, the state is as it was but for the wake of a cell. -/
theorem State.resetPlace_eq_some {c : Nat} {s : State} (h : (s.cell c).out = true ∨ s.outCount < 16 ∨
    ∃ d, d < 64 ∧ (s.cell d).st = .slumber ∧ (s.cell d).returns = true) :
    ∃ t, s.resetPlace c = some t ∧ t.core = s.core := by
  unfold State.resetPlace State.dutyPlace State.firstSlumber
  split
  · exact ⟨s, rfl, rfl⟩
  · split
    · exact ⟨s, rfl, rfl⟩
    · rename_i hout hcount
      obtain ⟨d, hd, hsleeps⟩ := (h.resolve_left hout).resolve_left hcount
      have hfound : ((List.range 64).find? fun c => decide ((s.cell c).st = .slumber) && (s.cell c).returns).isSome :=
        List.find?_isSome.mpr ⟨d, List.mem_range.mpr hd, by simpa using hsleeps⟩
      obtain ⟨e, he⟩ := Option.isSome_iff_exists.mp hfound
      exact ⟨s.startWake e, by rw [he]; rfl, State.startWake_core e s⟩

/-! ## The end of a cell's isolation (03 R100; 16 R538) -/

/-- An isolated port takes the link state that the configuration gives it. -/
def State.unisolatePort (p : Nat) (s : State) : State :=
  if (s.port p).link = .isolated then s.setLink p (restLink s.stg.cur p) else s

theorem State.unisolatePort_eq (p : Nat) (s : State) : s.unisolatePort p = { s with prt := (s.unisolatePort p).prt } := by
  unfold State.unisolatePort
  split
  · rename_i h
    exact State.setLink_idle (by rw [h]; decide)
  · rfl

theorem restLink_ne_isolated (c : Cfg) (p : Nat) : restLink c p ≠ .isolated := by
  unfold restLink; split <;> decide

/-- The link of every port after an isolated one has left its isolation. -/
theorem State.unisolatePort_link (p j : Nat) (s : State) : ((s.unisolatePort p).port j).link =
    if j = p ∧ (s.port j).link = .isolated then restLink s.stg.cur j else (s.port j).link := by
  unfold State.unisolatePort
  by_cases hj : j = p
  · subst hj
    split <;> simp_all
  · split
    · simp [State.setLink_port_other hj, hj]
    · simp [hj]

/-- Isolated ports of a list leave their isolation. -/
def State.unisolatePorts (l : List Nat) (s : State) : State := l.foldl (fun a p => State.unisolatePort p a) s

/-- Ports leave their isolation, and nothing else changes. -/
theorem State.unisolatePorts_eq (l : List Nat) (s : State) : s.unisolatePorts l = { s with prt := (s.unisolatePorts l).prt } :=
  List.foldlRecOn (motive := fun t : State => t = { s with prt := t.prt }) l _ rfl
    fun a ha p _ => (State.unisolatePort_eq p a).trans (by rw [ha])

/-- Of the listed ports the isolated ones take what the configuration gives them. -/
theorem State.unisolatePorts_link (l : List Nat) (j : Nat) (s : State) :
    ((s.unisolatePorts l).port j).link =
      if j ∈ l ∧ (s.port j).link = .isolated then restLink s.stg.cur j else (s.port j).link := by
  unfold State.unisolatePorts
  induction l generalizing s with
  | nil => simp
  | cons p l ih =>
    have hstg : (s.unisolatePort p).stg = s.stg := by rw [State.unisolatePort_eq]
    have hne := restLink_ne_isolated s.stg.cur j
    rw [List.foldl_cons, ih, hstg, State.unisolatePort_link]
    grind

/-- A port is one of a cell's when its number is in the cell's 16. -/
theorem mem_cellPorts {c p : Nat} : p ∈ cellPorts c ↔ p / 16 = c := by
  simp only [cellPorts, List.mem_map, List.mem_range]
  constructor
  · rintro ⟨i, hi, rfl⟩; omega
  · intro h; exact ⟨p % 16, by omega, by omega⟩

/-- The live conditions after an event. -/
theorem State.raise_live (e : Ev) (s : State) : (s.raise e).flt.live =
    if s.eventSeen e.src then
      if e.live then (if s.flt.live.contains (e.src, e.reason) then s.flt.live else s.flt.live ++ [(e.src, e.reason)])
      else if e.ended then s.flt.live.filter fun x => x != (e.src, e.reason)
      else s.flt.live
    else s.flt.live := by
  unfold State.raise
  split <;> rfl

/-- The end of a condition begins no other. -/
theorem State.endLive_live_subset (a b : Nat) (s : State) : (s.endLive a b).flt.live ⊆ s.flt.live := by
  unfold State.endLive
  rw [apply_ite State.flt, apply_ite Flt.live, State.raise_live]
  (repeat' split) <;> simp_all

theorem State.endLives_live_subset (a : Nat) (l : List Nat) (s : State) :
    (l.foldl (fun t r => State.endLive a r t) s).flt.live ⊆ s.flt.live :=
  List.foldlRecOn (motive := fun t : State => t.flt.live ⊆ s.flt.live) l _ (List.Subset.refl _)
    fun t ht r _ => List.Subset.trans (State.endLive_live_subset a r t) ht

/-- While the FLT block runs, the listed conditions of a source end. -/
theorem State.endLives_not_live {a : Nat} {l : List Nat} {s : State} (h : s.fltRuns = true) :
    ∀ n ∈ l, (a, n) ∉ (l.foldl (fun t r => State.endLive a r t) s).flt.live := by
  induction l generalizing s with
  | nil => simp
  | cons r l ih =>
    intro n hn
    have hruns : (s.endLive a r).fltRuns = true := by simpa [State.fltRuns] using h
    rcases List.mem_cons.mp hn with rfl | hn
    · exact fun hlive => State.endLive_not_live h (State.endLives_live_subset a l _ hlive)
    · exact ih hruns n hn

/-- Live conditions end, and nothing but FLT changes. -/
theorem State.endLives_eq (a : Nat) (l : List Nat) (s : State) : let t := l.foldl (fun t r => State.endLive a r t) s
    t = { s with flt := t.flt } :=
  List.foldlRecOn (motive := fun t : State => t = { s with flt := t.flt }) l _ rfl
    fun t ht r _ => by
      have hstep : t.endLive a r = { t with flt := (t.endLive a r).flt } := by ext1 <;> simp
      exact hstep.trans (by rw [ht])

/-- The marks of a cell's isolation are gone, before its live conditions end. -/
def State.unmarkIsolation (c : Nat) (s : State) : State :=
  (s.onHif fun h => { h with isolated := h.isolated &&& ~~~ BitVec.ofNat 64 (2 ^ c) }).onCell c fun x => { x with
    fatalIso := false, isoSoon := false, benched := false, benchSoon := false, unbenchSoon := false }

theorem State.clearIsolation_eq (c : Nat) (s : State) :
    s.clearIsolation c = { s.unmarkIsolation c with flt := (s.clearIsolation c).flt } :=
  State.endLives_eq (1024 + c) [1, 5, 9, 10] (s.unmarkIsolation c)

/-- While the FLT block runs, the conditions that RESET_CELL ends are live no more. -/
theorem State.clearIsolation_not_live {c : Nat} {s : State} (h : s.fltRuns = true) :
    ∀ n ∈ [1, 5, 9, 10], (1024 + c, n) ∉ (s.clearIsolation c).flt.live :=
  State.endLives_not_live (s := s.unmarkIsolation c) h

/-- Clearing a bit clears it. -/
theorem getLsbD_and_not_bit {x : BitVec 64} {c : Nat} (h : c < 64) :
    (x &&& ~~~ BitVec.ofNat 64 (2 ^ c)).getLsbD c = false := by
  rw [BitVec.getLsbD_and, BitVec.getLsbD_not, BitVec.getLsbD_ofNat, Nat.testBit_two_pow]
  simp [h]

theorem State.clearIsolation_isolated {c : Nat} (h : c < 64) (s : State) :
    (s.clearIsolation c).hif.isolated.getLsbD c = false := by
  rw [State.clearIsolation_eq]
  exact getLsbD_and_not_bit h

theorem State.clearIsolation_cell (c : Nat) (s : State) : (s.clearIsolation c).cell c =
    { s.cell c with fatalIso := false, isoSoon := false, benched := false, benchSoon := false, unbenchSoon := false } := by
  have hunmark : (s.clearIsolation c).cell c = (s.unmarkIsolation c).cell c := by rw [State.clearIsolation_eq]; rfl
  rw [hunmark, State.unmarkIsolation, State.onCell_cell_same, State.onHif_cell]

/-! ## RESET_CELL (03 R100) -/

/-- A message is taken while firmware runs. -/
theorem State.Accepts.fwRuns {s : State} {op : Nat} {r q : Req} (h : s.Accepts op r q) : s.crn.fwRuns = true := by
  have hreq := h.1
  unfold State.request at hreq
  split at hreq
  · rename_i htaken
    unfold State.taken at htaken
    grind
  · contradiction

/-- The state in which a cell's isolation has ended, with its ports as the configuration has them. -/
def State.reopenCell (c : Nat) (s : State) : State :=
  (s.clearIsolation c).unisolatePorts (cellPorts c)

/-- What RESET_CELL of cell c answers when it is not BUSY. -/
def State.cellResetAns (c : Nat) (s : State) : Ans :=
  if s.sup.pfw then { status := stRefused, st := s }
  else if s.crn.mod ≠ .run then { st := s.reopenCell c }
  else match s.resetPlace c with
    | none => { status := stRefused, st := s }
    | some t => { st := t.startCellReset c, wait := some (.cellReset c) }

theorem exec_resetCell {s : State} {r q : Req} (h : s.Accepts 0x0111 r q) (hrsv : q.f 4 31 6 = 0) (he : q.ExtSize 1) :
    exec (.resetCell r) s = .next (if s.hif.pend || s.changing then s.respond 0x0111 q stBusy []
      else s.finish 0x0111 q (s.cellResetAns (q.f 4 5 0))) := by
  change execResetCell r s = _
  unfold execResetCell
  rw [mailbox_accepted h (by simp [Req.rsv, hrsv]) rfl (by simp) (by simpa using he) (by simp) rfl]
  rfl

theorem State.reopenCell_clear (c : Nat) (s : State) :
    s.reopenCell c = { s.clearIsolation c with prt := (s.reopenCell c).prt } := by
  unfold State.reopenCell
  exact State.unisolatePorts_eq _ _

/-- The parts of the state that the end of an isolation changes. -/
theorem State.reopenCell_eq (c : Nat) (s : State) : s.reopenCell c = { s with
    hif := { s.hif with isolated := (s.reopenCell c).hif.isolated }
    cel := (s.reopenCell c).cel, flt := (s.reopenCell c).flt, prt := (s.reopenCell c).prt } := by
  have hclear := State.clearIsolation_eq c s
  have hports := State.reopenCell_clear c s
  generalize s.reopenCell c = u at hports ⊢
  generalize s.clearIsolation c = t at hclear hports
  rw [hports, hclear]
  rfl

/-- The cell is isolated no more, its conditions have ended, and its ports are as the configuration has them. -/
theorem State.reopenCell_spec {c : Nat} {s : State} (hc : c < 64) (hf : s.fltRuns = true) :
    (s.reopenCell c).hif.isolated.getLsbD c = false ∧
      (∀ p, ((s.reopenCell c).port p).link =
        if p / 16 = c ∧ (s.port p).link = .isolated then restLink s.stg.cur p else (s.port p).link) ∧
      ((s.reopenCell c).cell c).fatalIso = false ∧ ((s.reopenCell c).cell c).benched = false ∧
      ∀ n ∈ [1, 5, 9, 10], (1024 + c, n) ∉ (s.reopenCell c).flt.live := by
  have hclear := State.clearIsolation_eq c s
  have hports := State.reopenCell_clear c s
  have hlink (p : Nat) : ((s.reopenCell c).port p).link = _ := State.unisolatePorts_link (cellPorts c) p (s.clearIsolation c)
  have hisolated := State.clearIsolation_isolated hc s
  have hcell := State.clearIsolation_cell c s
  have hlive := State.clearIsolation_not_live (c := c) hf
  simp only [mem_cellPorts] at hlink
  generalize s.reopenCell c = u at hports hlink ⊢
  generalize s.clearIsolation c = t at hclear hports hlink hisolated hcell hlive
  have hsame (p : Nat) : t.port p = s.port p := by rw [hclear]; rfl
  have hstg : t.stg = s.stg := by rw [hclear]; rfl
  have hkept : u.cell c = t.cell c := by rw [hports]; rfl
  simp only [hsame, hstg] at hlink
  refine ⟨?_, hlink, ?_, ?_, ?_⟩
  · rw [hports]; exact hisolated
  · rw [hkept, hcell]
  · rw [hkept, hcell]
  · rw [hports]; exact hlive

/-! ## The epoch of one cell (04 R139) -/

@[simp] theorem State.applyLink_core (p : Nat) (s : State) : (s.applyLink p).core = s.core := by
  dsimp only [State.applyLink]; (repeat' split) <;> simp

@[simp] theorem State.applyPreempt_core (p : Nat) (s : State) : (s.applyPreempt p).core = s.core := (rfl)

@[simp] theorem State.applyGate_core (p : Nat) (s : State) : (s.applyGate p).core = s.core := by
  unfold State.applyGate
  extract_lets g have_
  split <;> rfl

@[simp] theorem State.enactEpoch_core (c : Nat) (s : State) : (s.enactEpoch c).core = s.core :=
  foldl_core fun a p => by simp

@[simp] theorem State.applyPort_core (old : Cfg) (p : Nat) (s : State) : (s.applyPort old p).core = s.core := by
  dsimp only [State.applyPort]; split <;> rfl

/-- Of the core the acceptance of an epoch changes the host interface alone. -/
theorem State.acceptEpoch_core (c : Nat) (s : State) :
    (s.acceptEpoch c).core = { s.core with hif := (s.acceptEpoch c).hif } := by
  dsimp only [State.acceptEpoch]
  split
  · rfl
  · generalize hu : State.onCell c _ _ = u
    have hcore : u.core = { s.core with hif := u.hif } := by rw [← hu]; rfl
    have hports : ((cellPorts c).foldl (fun a p => State.applyPort s.stg.prev p a) u).core = u.core :=
      foldl_core fun a p => State.applyPort_core _ p a
    have hhif : ((cellPorts c).foldl (fun a p => State.applyPort s.stg.prev p a) u).hif = u.hif := by
      simpa only [State.core_hif] using congrArg State.hif hports
    rw [hhif, ← hcore]
    exact hports

/-! ## Responses, live conditions and deferred commands -/

/-- A response begins and ends no live condition. -/
@[simp] theorem State.respond_live (op : Nat) (r : Req) (st : Nat) (ws : List Word) (s : State) :
    (s.respond op r st ws).flt.live = s.flt.live := by
  have hdone : (s.onIf (s.answersNow r) State.countDone).flt = s.flt :=
    State.onIf_keeps State.flt _ _ s (by simp [State.countDone])
  dsimp only [State.respond]
  split
  · simp [hdone]
  · split
    · rw [hdone]
    · split <;> simp [State.raise_live, hdone]
  · split <;> simp [hdone]

/-- What waits in the host interface: the deferred commands, and a commit that is not complete. -/
def State.waiting (s : State) : List Deferred × Bool := (s.hif.deferred, s.hif.pend)

theorem State.waiting_congr {s t : State} (h : t.hif = s.hif) : t.waiting = s.waiting := by rw [State.waiting, h]; rfl

@[simp] theorem State.onPair_waiting (n : Nat) (f : MbxPair → MbxPair) (s : State) : (s.onPair n f).waiting = s.waiting :=
  (rfl)
@[simp] theorem State.emit_waiting (o : Out) (s : State) : (s.emit o).waiting = s.waiting := (rfl)

@[simp] theorem State.sendVector_waiting (v : Nat) (s : State) : (s.sendVector v).waiting = s.waiting := by
  unfold State.sendVector; (repeat' split) <;> rfl

@[simp] theorem State.irq_waiting (n : Nat) (s : State) : (s.irq n).waiting = s.waiting := by
  dsimp only [State.irq]
  split
  · exact State.sendVector_waiting 0 _
  · rfl

@[simp] theorem State.writeResponse_waiting (n : Nat) (e : HeldRsp) (s : State) : (s.writeResponse n e).waiting = s.waiting := by
  have hpayload (b : Bool) : (s.onIf b fun a => a.hostWrite e.req.rspAddr e.words).hif = s.hif :=
    State.onIf_keeps State.hif b _ s (by simp)
  dsimp only [State.writeResponse]
  rw [State.onPair_waiting, State.sendVector_waiting]
  exact State.waiting_congr (by rw [State.hostWrite_hif, hpayload])

/-- A response leaves every deferred command waiting, and the commit. -/
@[simp] theorem State.respond_waiting (op : Nat) (r : Req) (st : Nat) (ws : List Word) (s : State) :
    (s.respond op r st ws).waiting = s.waiting := by
  have hdone : (s.onIf (s.answersNow r) State.countDone).waiting = s.waiting :=
    State.onIf_keeps State.waiting _ _ s (State.waiting_congr (by simp [State.countDone]))
  rw [← hdone]
  dsimp only [State.respond]
  split
  · exact State.irq_waiting 0 _
  · split
    · rfl
    · split
      · refine (State.waiting_congr (State.raise_hif _ _)).trans ?_
        simp
      · simp
  · split <;> rfl

@[simp] theorem State.respond_deferred (op : Nat) (r : Req) (st : Nat) (ws : List Word) (s : State) :
    (s.respond op r st ws).hif.deferred = s.hif.deferred := congrArg Prod.fst (State.respond_waiting op r st ws s)

@[simp] theorem State.respond_pend (op : Nat) (r : Req) (st : Nat) (ws : List Word) (s : State) :
    (s.respond op r st ws).hif.pend = s.hif.pend := congrArg Prod.snd (State.respond_waiting op r st ws s)

/-- The commands of the answered kinds are deferred no more. -/
theorem State.answerDeferred_deferred (p : DeferKind → Bool) (ws : DeferKind → List Word) (s : State) :
    (s.answerDeferred p ws).hif.deferred = s.hif.deferred.filter fun d => !p d.kind :=
  foldl_keeps (fun a : State => a.hif.deferred) _ (fun a _ => State.respond_deferred _ _ _ _ a) _ _

@[simp] theorem State.answerDeferred_pend (p : DeferKind → Bool) (ws : DeferKind → List Word) (s : State) :
    (s.answerDeferred p ws).hif.pend = s.hif.pend :=
  foldl_keeps (fun a : State => a.hif.pend) _ (fun a _ => State.respond_pend _ _ _ _ a) _ _

@[simp] theorem State.answerDeferred_live (p : DeferKind → Bool) (ws : DeferKind → List Word) (s : State) :
    (s.answerDeferred p ws).flt.live = s.flt.live :=
  foldl_keeps (fun a : State => a.flt.live) _ (fun a _ => State.respond_live _ _ _ _ a) _ _

@[simp] theorem State.settleCommit_live (s : State) : s.settleCommit.flt.live = s.flt.live := by
  unfold State.settleCommit; split <;> simp

/-! ## Table words that are written anew (08 R272, R291) -/

/-- A state without its tables and FLT. -/
def State.apart (s : State) : State := { s with tbl := {}, flt := {} }

@[simp] theorem State.onTbl_apart (f : Tbl → Tbl) (s : State) : (s.onTbl f).apart = s.apart := (rfl)
@[simp] theorem State.onFlt_apart (f : Flt → Flt) (s : State) : (s.onFlt f).apart = s.apart := (rfl)

@[simp] theorem State.endLive_apart (a b : Nat) (s : State) : (s.endLive a b).apart = s.apart := by
  unfold State.endLive State.raise
  split
  · split <;> rfl
  · rfl

@[simp] theorem State.rewrite_apart (u t i : Nat) (s : State) : (s.rewrite u t i).apart = s.apart := by
  dsimp only [State.rewrite]; (repeat' split) <;> simp

@[simp] theorem State.rewriteAll_apart (u t : Nat) (l : List Nat) (s : State) : (s.rewriteAll u t l).apart = s.apart :=
  foldl_keeps State.apart _ (fun a w => State.rewrite_apart u t w a) _ _

@[simp] theorem State.l2Put_apart (i : Nat) (s : State) : (s.l2Put i).apart = s.apart := by simp [State.l2Put]

@[simp] theorem State.prefixPut_apart (i : Nat) (s : State) : (s.prefixPut i).apart = s.apart := by
  dsimp only [State.prefixPut]
  split
  · exact (foldl_keeps State.apart _ (fun a r => State.rewriteAll_apart _ _ _ a) _ _).trans (State.onTbl_apart _ s)
  · simp

/-- What a restored configuration brings is placed in tables, whose lost words are then present. -/
@[simp] theorem State.placeRestored_apart (s : State) : s.placeRestored.apart = s.apart := by
  dsimp only [State.placeRestored]
  exact (foldl_keeps State.apart _ (fun a i => State.prefixPut_apart i a) _ _).trans
    (foldl_keeps State.apart _ (fun a i => State.l2Put_apart i a) _ _)

@[simp] theorem State.dynMake_apart (c fid mac : Nat) (d : Option Nat) (s : State) :
    (s.dynMake c fid mac d).2.apart = s.apart := by
  dsimp only [State.dynMake, State.dynFree]; (repeat' split) <;> simp

@[simp] theorem State.makeHeld_apart (c : Nat) (h : DynWrite) (s : State) : (s.makeHeld c h).2.apart = s.apart := by
  dsimp only [State.makeHeld, State.putMaster]; (repeat' split) <;> simp

theorem State.rewrite_live_subset (u t i : Nat) (s : State) : (s.rewrite u t i).flt.live ⊆ s.flt.live := by
  dsimp only [State.rewrite]
  split
  · split
    · exact List.Subset.refl _
    · exact State.endLive_live_subset _ _ _
  · exact List.Subset.refl _

theorem State.rewriteAll_live_subset (u t : Nat) (l : List Nat) (s : State) : (s.rewriteAll u t l).flt.live ⊆ s.flt.live :=
  List.foldlRecOn (motive := fun a : State => a.flt.live ⊆ s.flt.live) l _ (List.Subset.refl _)
    fun a ha w _ => List.Subset.trans (State.rewrite_live_subset u t w a) ha

theorem State.dynMake_live_subset (c fid mac : Nat) (d : Option Nat) (s : State) :
    (s.dynMake c fid mac d).2.flt.live ⊆ s.flt.live := by
  dsimp only [State.dynMake, State.dynFree, State.l2Put]
  split
  · exact State.rewriteAll_live_subset _ _ _ _
  · split
    · split
      · exact State.rewriteAll_live_subset _ _ _ _
      · exact List.Subset.refl _
    · exact State.rewriteAll_live_subset _ _ _ _

theorem State.makeHeld_live_subset (c : Nat) (h : DynWrite) (s : State) : (s.makeHeld c h).2.flt.live ⊆ s.flt.live := by
  dsimp only [State.makeHeld]
  split
  · exact List.Subset.refl _
  · split <;> exact State.dynMake_live_subset _ _ _ _ s
  · exact State.dynMake_live_subset _ _ _ _ s

/-- The event of a learned address begins and ends no live condition. -/
@[simp] theorem State.learnEvent_live (ty c fid mac new old cells res port : Nat) (own : Bool) (s : State) :
    (s.learnEvent ty c fid mac new old cells res port own).flt.live = s.flt.live := by
  simp [State.learnEvent, State.kindEvent, State.noteEvt]

/-- Of the writes that a cell makes as it returns, no live condition begins. -/
theorem State.applyHeld_live_subset (c : Nat) (l : List DynWrite) (own : List Bool) (s : State) :
    (s.applyHeld c l own).flt.live ⊆ s.flt.live := by
  induction l generalizing own s with
  | nil => exact List.Subset.refl _
  | cons h l ih =>
    have hmade := State.makeHeld_live_subset c h s
    dsimp only [State.applyHeld]
    split
    · exact List.Subset.trans (ih own _) hmade
    · refine List.Subset.trans (ih own.tail _) ?_
      rw [State.learnEvent_live]
      exact hmade

@[simp] theorem State.applyHeld_sec (c : Nat) (l : List DynWrite) (own : List Bool) (s : State) :
    (s.applyHeld c l own).sec = s.sec := by
  induction l generalizing own s with
  | nil => rfl
  | cons h l ih =>
    have hmade : (s.makeHeld c h).2.sec = s.sec := by simpa [State.apart] using congrArg State.sec (State.makeHeld_apart c h s)
    dsimp only [State.applyHeld]
    split
    · rw [ih, hmade]
    · rw [ih]
      simp [State.learnEvent, State.kindEvent, State.noteEvt, State.dropCopyOf, hmade]

/-! ## CELL_RESET_DONE (03 R100) -/

/-- The cell whose reset is over, isolated no more and with its ports as the configuration has them. -/
def State.returnedCell (c : Nat) (s : State) : State :=
  ((s.clearIsolation c).onCell c fun x => { x with resetting := false, rejoin := true, held := [] }).unisolatePorts (cellPorts c)

/-- It has the current epoch. -/
def State.rejoinedCell (c : Nat) (s : State) : State := (((s.returnedCell c).acceptEpoch c).enactEpoch c).settleCommit

theorem exec_cellResetDone (c : Fin 64) (own : List Bool) (slots : BitVec 8) (s : State) :
    exec (.cellResetDone c own slots) s = .next (if (s.cell c.val).resetting then
      (((s.sees slots).rejoinedCell c.val).applyHeld c.val (s.cell c.val).held own).answerDeferred
        (fun k => k == .cellReset c.val) fun _ => []
    else s.sees slots) := (rfl)

/-- What does not read the ports is as it was. -/
theorem State.unisolatePorts_keeps {β : Type} (π : State → β) (h : ∀ (a : State) x, π { a with prt := x } = π a)
    (l : List Nat) (s : State) : π (s.unisolatePorts l) = π s := by
  rw [State.unisolatePorts_eq, h]

theorem State.returnedCell_cell (c : Nat) (s : State) : (s.returnedCell c).cell c =
    { s.cell c with
      fatalIso := false, isoSoon := false, benched := false, benchSoon := false, unbenchSoon := false
      resetting := false, rejoin := true, held := [] } := by
  unfold State.returnedCell
  rw [State.unisolatePorts_keeps (fun a => a.cell c) fun _ _ => rfl, State.onCell_cell_same, State.clearIsolation_cell]

/-- What reads neither cells nor ports is as it was once the isolation had ended. -/
theorem State.returnedCell_keeps {β : Type} (π : State → β) (h : ∀ (a : State) x y, π { a with cel := x, prt := y } = π a)
    (c : Nat) (s : State) : π (s.returnedCell c) = π (s.clearIsolation c) := by
  unfold State.returnedCell
  rw [State.unisolatePorts_keeps π fun a x => h a a.cel x]
  exact h (s.clearIsolation c) _ (s.clearIsolation c).prt

@[simp] theorem State.acceptEpoch_live (c : Nat) (s : State) : (s.acceptEpoch c).flt.live = s.flt.live := by
  simpa only [State.core_live] using congrArg (fun x : State => x.flt.live) (State.acceptEpoch_core c s)

@[simp] theorem State.acceptEpoch_sec (c : Nat) (s : State) : (s.acceptEpoch c).sec = s.sec := by
  simpa only [State.core_sec] using congrArg State.sec (State.acceptEpoch_core c s)

@[simp] theorem State.enactEpoch_live (c : Nat) (s : State) : (s.enactEpoch c).flt.live = s.flt.live := by
  simpa only [State.core_live] using congrArg (fun x : State => x.flt.live) (State.enactEpoch_core c s)

@[simp] theorem State.enactEpoch_sec (c : Nat) (s : State) : (s.enactEpoch c).sec = s.sec := by
  simpa only [State.core_sec] using congrArg State.sec (State.enactEpoch_core c s)

/-- Of the anchor its return to the epoch changes the cell's APPLIED bit alone. -/
theorem State.rejoinedCell_anchor (c : Nat) (s : State) : (s.rejoinedCell c).anchor =
    { (s.returnedCell c).anchor with applied := (s.returnedCell c).hif.applied ||| BitVec.ofNat 64 (2 ^ c) } := by
  unfold State.rejoinedCell
  rw [State.settleCommit_anchor, State.enactEpoch_anchor, State.acceptEpoch_anchor]

theorem State.rejoinedCell_live (c : Nat) (s : State) : (s.rejoinedCell c).flt.live = (s.clearIsolation c).flt.live := by
  unfold State.rejoinedCell
  rw [State.settleCommit_live, State.enactEpoch_live, State.acceptEpoch_live]
  exact State.returnedCell_keeps (fun a => a.flt.live) (fun _ _ _ => rfl) c s

theorem State.rejoinedCell_sec (c : Nat) (s : State) : (s.rejoinedCell c).sec = s.sec := by
  have hclear : (s.clearIsolation c).sec = s.sec := by rw [State.clearIsolation_eq]; rfl
  unfold State.rejoinedCell
  rw [State.settleCommit_sec, State.enactEpoch_sec, State.acceptEpoch_sec, ← hclear]
  exact State.returnedCell_keeps State.sec (fun _ _ _ => rfl) c s

theorem State.returnedCell_anchor (c : Nat) (s : State) : (s.returnedCell c).crn = s.crn ∧ (s.returnedCell c).stg = s.stg ∧
    (s.returnedCell c).hif = (s.clearIsolation c).hif := by
  have hcrn : (s.clearIsolation c).crn = s.crn := by rw [State.clearIsolation_eq]; rfl
  have hstg : (s.clearIsolation c).stg = s.stg := by rw [State.clearIsolation_eq]; rfl
  exact ⟨(State.returnedCell_keeps State.crn (fun _ _ _ => rfl) c s).trans hcrn,
    (State.returnedCell_keeps State.stg (fun _ _ _ => rfl) c s).trans hstg, State.returnedCell_keeps State.hif (fun _ _ _ => rfl) c s⟩

/-- The end of a cell reset: the cell returns with the current epoch, isolated no more, and its command is answered. -/
theorem cellResetDone_spec {s : State} {c : Fin 64} (hf : s.crn.fwRuns = true) (hr : (s.cell c.val).resetting = true)
    (own : List Bool) (slots : BitVec 8) : ∃ t, exec (.cellResetDone c own slots) s = .next t ∧
      (t.cell c.val).resetting = false ∧ (t.cell c.val).rejoin = true ∧ (t.cell c.val).fatalIso = false ∧
      (t.cell c.val).benched = false ∧ t.hif.isolated.getLsbD c.val = false ∧ t.hif.applied.getLsbD c.val = true ∧
      (∀ n ∈ [1, 5, 9, 10], (1024 + c.val, n) ∉ t.flt.live) ∧ (∀ d ∈ t.hif.deferred, d.kind ≠ .cellReset c.val) ∧
      t.crn = s.crn ∧ t.stg = s.stg ∧ t.sec = s.sec := by
  obtain ⟨hcrn, hstg, hhif⟩ := State.returnedCell_anchor c.val (s.sees slots)
  have hcell := State.returnedCell_cell c.val (s.sees slots)
  have hisolated := State.clearIsolation_isolated c.isLt (s.sees slots)
  have hlive := State.clearIsolation_not_live (c := c.val) (s := s.sees slots) (by simp [State.fltRuns, State.sees, hf])
  rw [← State.rejoinedCell_live] at hlive
  refine ⟨_, (exec_cellResetDone c own slots s).trans (congrArg _ (if_pos hr)), ?_⟩
  generalize ht : State.answerDeferred _ _ _ = t
  have hanchor : t.anchor = { ((s.sees slots).returnedCell c.val).anchor with
      applied := ((s.sees slots).returnedCell c.val).hif.applied ||| BitVec.ofNat 64 (2 ^ c.val) } := by
    rw [← ht, State.answerDeferred_anchor, State.applyHeld_anchor, State.rejoinedCell_anchor]
  have hkept : (∀ n ∈ [1, 5, 9, 10], (1024 + c.val, n) ∉ t.flt.live) ∧ (∀ d ∈ t.hif.deferred, d.kind ≠ .cellReset c.val) ∧
      t.sec = s.sec := by
    refine ⟨fun n hn hl => hlive n hn ?_, fun d hd => ?_, ?_⟩
    · rw [← ht, State.answerDeferred_live] at hl
      exact State.applyHeld_live_subset _ _ _ _ hl
    · rw [← ht, State.answerDeferred_deferred, List.mem_filter] at hd
      simpa using hd.2
    · rw [← ht, State.answerDeferred_sec, State.applyHeld_sec, State.rejoinedCell_sec]; rfl
  obtain ⟨hended, hanswered, hsec⟩ := hkept
  generalize (s.sees slots).returnedCell c.val = v at hcrn hstg hhif hcell hanchor
  have hbare : (t.cell c.val).bare = (v.cell c.val).bare :=
    congrFun (congrArg Anchor.cell hanchor) c.val
  rw [hcell] at hbare
  have hiso : t.hif.isolated = v.hif.isolated := congrArg Anchor.isolated hanchor
  have happ : t.hif.applied = v.hif.applied ||| BitVec.ofNat 64 (2 ^ c.val) :=
    congrArg Anchor.applied hanchor
  refine ⟨congrArg Cell.resetting hbare, congrArg Cell.rejoin hbare, congrArg Cell.fatalIso hbare,
    congrArg Cell.benched hbare, ?_, ?_, hended, hanswered, (congrArg Anchor.crn hanchor).trans hcrn,
    (congrArg Anchor.stg hanchor).trans hstg, hsec⟩
  · rw [hiso, hhif]; exact hisolated
  · rw [happ, BitVec.getLsbD_or, BitVec.getLsbD_ofNat, Nat.testBit_two_pow]; simp

/-! ## RESET_LANE (03 R111) -/

/-- The state in which a port's lane is reset: its link is down, and it holds no frame. -/
def State.laneReset (p : Nat) (s : State) : State :=
  ((if (s.port p).link = .up then s.setLink p .down else s).onPort p fun x => { x with
    shut := false, hold := [], deskew := 0, rxLpi := false, txLpi := false, txReadyAt := 0 }).endLive p 6

theorem exec_resetLane {s : State} {r q : Req} (h : s.Accepts 0x0112 r q) (hrsv : q.f 4 31 10 = 0) (he : q.ExtSize 1) :
    exec (.resetLane r) s = .next (if s.changing then s.respond 0x0112 q stBusy []
      else if s.sup.pfw then s.respond 0x0112 q stRefused []
      else (s.laneReset (portOf (s.portCfg (q.f 4 9 0)) (q.f 4 9 0))).respond 0x0112 q stOk []) := by
  change execResetLane r s = _
  unfold execResetLane
  rw [mailbox_accepted h (by simp [Req.rsv, hrsv]) rfl (by simp) (by simpa using he) (by simp) rfl]
  cases hpfw : s.sup.pfw
  · simp [State.finish_ok, State.laneReset]
  · simp [State.finish_no]

/-- A lane reset changes its port alone, and Cairn and the configuration stay. -/
theorem State.laneReset_spec {p : Nat} {s : State} (hf : s.fltRuns = true) : let u := s.laneReset p
    (u.port p).link = (if (s.port p).link = .up then .down else (s.port p).link) ∧ (u.port p).hold = [] ∧
      (u.port p).shut = false ∧ (∀ j, j ≠ p → u.port j = s.port j) ∧ (p, 6) ∉ u.flt.live ∧ u.crn = s.crn ∧ u.stg = s.stg := by
  have hcore (l : Link) : (s.setLink p l).crn = s.crn ∧ (s.setLink p l).stg = s.stg := by
    have hset := State.setLink_core p l s
    exact ⟨by simpa only [State.core_crn] using congrArg State.crn hset, by simpa only [State.core_stg] using congrArg State.stg hset⟩
  unfold State.laneReset
  have hdrop : ∃ t : State, (if (s.port p).link = .up then s.setLink p .down else s) = t ∧
      (t.port p).link = (if (s.port p).link = .up then .down else (s.port p).link) ∧ (∀ j, j ≠ p → t.port j = s.port j) ∧
      t.crn = s.crn ∧ t.stg = s.stg := by
    refine ⟨_, rfl, ?_⟩
    split
    · exact ⟨State.setLink_link _ _ _, fun j hj => State.setLink_port_other hj _ _, hcore .down⟩
    · exact ⟨rfl, fun _ _ => rfl, rfl, rfl⟩
  obtain ⟨t, ht, hlink, hother, hcrn, hstg⟩ := hdrop
  rw [ht]
  have hruns : t.fltRuns = true := by simpa only [State.fltRuns, hcrn] using hf
  refine ⟨?_, ?_, ?_, fun j hj => ?_, State.endLive_not_live hruns, ?_, ?_⟩
  · rw [← hlink]; simp [State.port]
  · simp [State.port]
  · simp [State.port]
  · rw [← hother j hj]; simp [State.port, tabGet_tabMod_other hj]
  · simp [hcrn]
  · simp [hstg]

/-! ## What a replay restores (14 R498) -/

/-- The segments that a replay takes lie before the first one without a trailer. -/
theorem replaySegments_takeWhile (l : List Segment) :
    replaySegments (l.takeWhile fun g => g.sealedAt.isSome) = replaySegments l := by
  have htwice : (l.takeWhile fun g => g.sealedAt.isSome).takeWhile (fun g => g.sealedAt.isSome) =
      l.takeWhile fun g => g.sealedAt.isSome := by
    rw [List.takeWhile_eq_self_iff]
    exact fun g hg => List.mem_takeWhile_imp (p := fun g : Segment => g.sealedAt.isSome) hg
  unfold replaySegments
  rw [htwice]

/-- What a replay restores depends on the journal's segments and the cold-start settings. -/
theorem State.replayed_congr {s t : State} (hs : replaySegments t.img.segs = replaySegments s.img.segs)
    (hg : t.stg = s.stg) : t.replayed = s.replayed := by
  unfold State.replayed
  rw [hs, hg]

/-- Segments that are dropped for the lack of a trailer are not replayed. -/
@[simp] theorem State.dropUnsealed_replayed (s : State) : s.dropUnsealed.replayed = s.replayed := by
  unfold State.dropUnsealed
  split
  · exact State.replayed_congr (by simpa using replaySegments_takeWhile s.img.segs) (by simp)
  · rfl

/-- What the journal's segments without a trailer cost: the segments, and an event. -/
theorem State.dropUnsealed_eq (s : State) :
    s.dropUnsealed = { s with img := { s.img with segs := s.dropUnsealed.img.segs }, flt := s.dropUnsealed.flt } := by
  unfold State.dropUnsealed
  split
  · ext1 <;> simp
  · rfl

/-! ## The configuration of a replay (14 R500) -/

/-- What the journal restores, with the settings of `cur` that are not class J. -/
def replayCfg (cur restored : Cfg) : Cfg := (tabKeep (fun k => !isJ k) cur).foldl (fun a e => tabIns e.1 e.2 a) restored

/-- Insertions of other keys leave a key. -/
theorem tabFind_foldl_tabIns_other {α : Type} {l : Tab α} {k : Nat} (h : ∀ e ∈ l, e.1 ≠ k) (t : Tab α) :
    tabFind (l.foldl (fun a e => tabIns e.1 e.2 a) t) k = tabFind t k :=
  List.foldlRecOn (motive := fun a => tabFind a k = tabFind t k) l _ rfl
    fun a ha e he => (tabFind_tabIns_other (h e he).symm e.2 a).trans ha

/-- A key that a table does not have. -/
theorem tabFind_eq_none_of_forall_ne {α : Type} {t : Tab α} {k : Nat} (h : ∀ e ∈ t, e.1 ≠ k) : tabFind t k = none := by
  induction t with
  | nil => rfl
  | cons e t ih =>
    rw [tabFind, if_neg (h e (List.mem_cons_self ..))]
    exact ih fun e he => h e (List.mem_cons_of_mem _ he)

/-- Once a sorted table is inserted, its keys have its values. -/
theorem tabFind_foldl_tabIns {α : Type} {l : Tab α} (hl : tabSorted l = true) (k : Nat) (t : Tab α) :
    tabFind (l.foldl (fun a e => tabIns e.1 e.2 a) t) k = (tabFind l k).or (tabFind t k) := by
  induction l generalizing t with
  | nil => rfl
  | cons e l ih =>
    obtain ⟨hl, hlt⟩ := tabSorted_cons.mp hl
    rw [List.foldl_cons, ih hl]
    by_cases hk : e.1 = k
    · subst hk
      rw [tabFind_eq_none_of_forall_ne fun x hx => (hlt x hx).ne']
      simp [tabFind]
    · rw [tabFind_tabIns_other (Ne.symm hk)]
      simp [tabFind, hk]

theorem tabFind_tabKeep {α : Type} (p : Nat → Bool) (t : Tab α) (k : Nat) :
    tabFind (tabKeep p t) k = if p k then tabFind t k else none := by
  induction t with
  | nil => simp [tabKeep]
  | cons e t ih =>
    unfold tabKeep at ih ⊢
    by_cases hk : e.1 = k
    · subst hk
      cases hp : p e.1
      · simpa [hp] using ih
      · simp [tabFind, hp]
    · cases hp : p e.1 <;> simp [tabFind, hp, hk, ih]

/-- The class J settings are those that the journal restores. -/
theorem tabFind_replayCfg_J {k : Nat} (hk : isJ k = true) (cur restored : Cfg) :
    tabFind (replayCfg cur restored) k = tabFind restored k := by
  refine tabFind_foldl_tabIns_other (fun e he hek => ?_) restored
  subst hek
  simp [tabKeep, hk] at he

/-- The other settings stay. -/
theorem tabFind_replayCfg_other {cur restored : Cfg} {k : Nat} (hr : ∀ e ∈ restored, isJ e.1 = true)
    (hc : tabSorted cur = true) (hk : isJ k = false) : tabFind (replayCfg cur restored) k = tabFind cur k := by
  have hnone : tabFind restored k = none := by
    refine tabFind_eq_none_of_forall_ne fun e he hek => ?_
    rw [← hek, hr e he] at hk
    contradiction
  have hkeep : tabSorted (tabKeep (fun k => !isJ k) cur) = true := tabSorted_filter _ hc
  unfold replayCfg
  rw [tabFind_foldl_tabIns hkeep, tabFind_tabKeep, hnone]
  simp [hk]

/-! ## The publish of an epoch (04 R137, R139, R140) -/

/-- A commit is complete once every cell has applied it or is isolated. -/
theorem State.settleCommit_pend (s : State) : s.settleCommit.hif.pend =
    (s.hif.pend && decide (s.hif.applied ||| s.hif.isolated ≠ BitVec.allOnes 64)) := by
  unfold State.settleCommit
  by_cases hdone : s.hif.applied ||| s.hif.isolated = BitVec.allOnes 64
  · rw [decide_eq_true hdone, decide_eq_false (not_not.mpr hdone), Bool.and_true, Bool.and_false]
    cases hp : s.hif.pend with
    | false => simpa using hp
    | true =>
      rw [if_pos rfl, State.answerDeferred_pend]
      exact congrArg Prod.snd ((State.irq_waiting 1 _).trans (State.waiting_congr (State.dropReplaced_hif _)))
  · rw [decide_eq_false hdone, decide_eq_true (p := _ ≠ _) hdone, Bool.and_false, Bool.and_true, if_neg Bool.false_ne_true]

/-- Dozing cells wake to apply a commit. -/
def State.wakeDozing (s : State) : State :=
  (List.range 64).foldl (fun a c => if (a.cell c).st = .doze then a.startWake c else a) s

theorem State.wakeDozing_eq (s : State) : s.wakeDozing = { s with cel := s.wakeDozing.cel, pmu := s.wakeDozing.pmu } := by
  unfold State.wakeDozing
  refine List.foldlRecOn (motive := fun u : State => u = { s with cel := u.cel, pmu := u.pmu }) _ _ rfl fun a ha c _ => ?_
  split
  · exact (State.startWake_eq c a).trans (by rw [ha])
  · exact ha

/-- Where none dozes, none wakes. -/
theorem State.wakeDozing_none {s : State} (h : ∀ c, c < 64 → (s.cell c).st ≠ .doze) : s.wakeDozing = s :=
  List.foldlRecOn (motive := fun u : State => u = s) _ _ rfl fun a ha c hc => by
    rw [ha, if_neg (h c (List.mem_range.mp hc))]

/-- A publish: the epoch and the configuration before the commit settles. -/
theorem State.publish_settles (on : Bool) (cfg : Cfg) (cmds : List (List Word)) (s : State) :
    ∃ v : State, s.publish on cfg cmds = v.settleCommit ∧
      v.hif = { s.hif with
        epoch := nextEpoch s.hif.epoch, applied := s.heldCells on, pend := true, epochTime := s.now } ∧
      v.stg = { s.stg with prev := s.stg.cur, cur := cfg, old := v.stg.old } ∧
      ((∀ c, c < 64 → (s.cell c).st ≠ .doze) → v.cel = s.cel) := by
  unfold State.publish
  extract_lets e t u v
  have hwake : v = u.wakeDozing := rfl
  have hv := State.wakeDozing_eq u
  have hnone := State.wakeDozing_none (s := u)
  rw [← hwake] at hv hnone
  have hhif : u.hif = t.hif := State.appendJournal_hif _ t
  have hstg : u.stg = t.stg := State.appendJournal_stg _ t
  have hcel : u.cel = s.cel := State.appendJournal_cel _ t
  refine ⟨_, rfl, ?_, ?_, fun hdoze => ?_⟩
  · rw [State.carryZones_hif, State.onImg_hif, hv]
    exact hhif
  · rw [State.carryZones_stg, State.onImg_stg, hv]
    change u.stg = _
    rw [hstg]
    rfl
  · rw [State.carryZones_cel, State.onImg_cel, hnone, hcel]
    intro c hc
    simpa only [State.cell, hcel] using hdoze c hc

/-- What a publish leaves of the configuration, and the next epoch. -/
theorem State.publish_spec (on : Bool) (cfg : Cfg) (cmds : List (List Word)) (s : State) : let u := s.publish on cfg cmds
    u.stg = { s.stg with prev := s.stg.cur, cur := cfg, old := u.stg.old } ∧ u.hif.epoch = nextEpoch s.hif.epoch ∧
      u.hif.pend = decide (s.heldCells on ||| s.hif.isolated ≠ BitVec.allOnes 64) := by
  obtain ⟨v, hv, hhif, hstg, -⟩ := State.publish_settles on cfg cmds s
  dsimp only
  rw [hv, State.settleCommit_stg, State.settleCommit_pend]
  have hepoch : v.settleCommit.hif.epoch = v.hif.epoch := congrArg Anchor.epoch (State.settleCommit_anchor v)
  rw [hepoch, hhif]
  exact ⟨hstg, rfl, by simp⟩

/-! ## POWER_JOURNAL_REPLAY (03 R107; 14 R500) -/

/-- The state in which the class J settings of a replay are published. -/
def State.replayPublished (x : Replay) (s : State) : State :=
  let cfg := replayCfg s.stg.cur x.cfg
  let u := s.dropUnsealed.tidyWords.onStg fun g => { g with staged := rebase g.cur g.staged cfg, imm := x.imm }
  ((u.publish (decide (s.crn.mod = .run)) cfg []).onIf (decide (s.crn.mod ≠ .run)) fun a => a.parkPorts s.stg.cur).onCrn
    fun c => { c with published := true }

/-- What POWER_JOURNAL_REPLAY answers when it is not BUSY. -/
def State.replayAns (s : State) : Ans :=
  if s.crn.published then { status := stRefused, st := s }
  else match s.replayed with
    | none => { status := stNotFound, st := s }
    | some x => { st := (s.replayPublished x).placeRestored, wait := if (s.replayPublished x).hif.pend then some .replay else none }

/-- The clean-up of table words takes no part in a replay. -/
theorem State.replayBase_replayed (s : State) : s.dropUnsealed.tidyWords.replayed = s.replayed :=
  (State.replayed_congr rfl rfl).trans (State.dropUnsealed_replayed s)

theorem exec_powerJournalReplay {s : State} {r q : Req} (h : s.Accepts 0x0120 r q) (he : q.ExtSize 0) :
    exec (.powerJournalReplay r) s = .next (if s.hif.pend || s.changing then s.respond 0x0120 q stBusy []
      else s.finish 0x0120 q s.replayAns) := by
  change execPowerJournalReplay r s = _
  unfold execPowerJournalReplay
  rw [mailbox_accepted h rfl rfl (by simp) (by simpa using he) (by simp) rfl]
  unfold State.replayAns
  dsimp only
  rw [State.replayBase_replayed]
  cases hx : s.replayed <;> rfl

/-- Parking ports changes ports alone. -/
theorem State.parkPorts_eq (old : Cfg) (s : State) : s.parkPorts old = { s with prt := (s.parkPorts old).prt } := by
  unfold State.parkPorts
  exact List.foldlRecOn (motive := fun u : State => u = { s with prt := u.prt }) _ _ rfl
    fun a ha p _ => (show a.parkPort p = { a with prt := (a.parkPort p).prt } from rfl).trans (by rw [ha])

/-- What does not read the ports is as it was. -/
theorem State.parkPorts_keeps {β : Type} (π : State → β) (h : ∀ (a : State) x, π { a with prt := x } = π a) (old : Cfg)
    (s : State) : π (s.parkPorts old) = π s := by
  rw [State.parkPorts_eq, h]

/-- The cells that hold a commit without applying it, by the host interface and the cells. -/
theorem State.heldCells_congr {s t : State} (hh : t.hif = s.hif) (hc : t.cel = s.cel) (on : Bool) :
    t.heldCells on = s.heldCells on := by
  simp only [State.heldCells, State.cell, hh, hc]

/-- A replay publishes from the state without the segments that it does not take. -/
theorem State.dropUnsealed_keeps (s : State) :
    s.dropUnsealed.crn = s.crn ∧ s.dropUnsealed.hif = s.hif ∧ s.dropUnsealed.stg = s.stg ∧ s.dropUnsealed.cel = s.cel := by
  rw [State.dropUnsealed_eq]
  exact ⟨rfl, rfl, rfl, rfl⟩

/-- What a replay publishes. -/
theorem State.replayPublished_spec (x : Replay) (s : State) : let v := s.replayPublished x
    (v.hif.pend = true ↔ s.crn.mod = .run ∧ s.heldCells true ||| s.hif.isolated ≠ BitVec.allOnes 64) ∧
      v.crn = { s.crn with published := true } ∧ v.hif.epoch = nextEpoch s.hif.epoch ∧
      v.stg.imm = x.imm ∧ v.stg.prev = s.stg.cur ∧ v.stg.cur = replayCfg s.stg.cur x.cfg ∧
      v.stg.flag = s.stg.flag ∧ v.stg.log = s.stg.log := by
  unfold State.replayPublished
  extract_lets cfg u v
  obtain ⟨hcrn, hhif, hstg, hcel⟩ := s.dropUnsealed_keeps
  have hucrn : u.crn = s.crn := hcrn
  have huhif : u.hif = s.hif := hhif
  have hustg : u.stg = { s.stg with staged := rebase s.stg.cur s.stg.staged cfg, imm := x.imm } := by rw [← hstg]; rfl
  have hheld := State.heldCells_congr huhif hcel (on := decide (s.crn.mod = .run))
  obtain ⟨hwstg, hwepoch, hwpend⟩ := State.publish_spec (decide (s.crn.mod = .run)) cfg [] u
  have hwcrn := State.publish_crn (decide (s.crn.mod = .run)) cfg [] u
  have hpark {β : Type} (π : State → β) (h : ∀ (a : State) y, π { a with prt := y } = π a) (w : State) :
      π (w.onIf (decide (s.crn.mod ≠ .run)) fun a => a.parkPorts s.stg.cur) = π w :=
    State.onIf_keeps π _ _ w (State.parkPorts_keeps π h _ w)
  have hvhif : v.hif = (u.publish (decide (s.crn.mod = .run)) cfg []).hif := hpark State.hif (fun _ _ => rfl) _
  have hvstg : v.stg = (u.publish (decide (s.crn.mod = .run)) cfg []).stg := hpark State.stg (fun _ _ => rfl) _
  have hvcrn : v.crn = { s.crn with published := true } := congrArg (fun c : Crn => { c with published := true })
    ((hpark State.crn (fun _ _ => rfl) _).trans (hwcrn.trans hucrn))
  rw [hustg] at hwstg
  rw [hvhif, hvstg, hwpend, hwepoch, hheld, huhif, hwstg]
  refine ⟨?_, hvcrn, rfl, rfl, rfl, rfl, rfl, rfl⟩
  by_cases hrun : s.crn.mod = .run
  · simp [hrun]
  · have hall : s.heldCells false ||| s.hif.isolated = BitVec.allOnes 64 := BitVec.allOnes_or
    rw [decide_eq_false hrun, hall]
    simp [hrun]

/-- What the placement of restored settings leaves. -/
theorem State.placeRestored_keeps (s : State) :
    s.placeRestored.crn = s.crn ∧ s.placeRestored.hif = s.hif ∧ s.placeRestored.stg = s.stg := by
  have h := State.placeRestored_apart s
  exact ⟨by simpa only [State.apart] using congrArg State.crn h, by simpa only [State.apart] using congrArg State.hif h,
    by simpa only [State.apart] using congrArg State.stg h⟩

/-- The answer of a replay that publishes. -/
theorem State.replayAns_published {s : State} {x : Replay} (hp : s.crn.published = false) (hx : s.replayed = some x) :
    s.replayAns = { st := (s.replayPublished x).placeRestored
                    wait := if (s.replayPublished x).hif.pend then some .replay else none } := by
  simp only [State.replayAns, hp, hx, Bool.false_eq_true, if_false]

/-- RESET_WARM by its statuses. -/
theorem resetWarm_spec (s : State) (r q : Req) (h : s.Accepts 0x0110 r q) (he : q.ExtSize 0) :
    let busy := s.hif.pend = true ∨ s.changing = true
    (busy → exec (.resetWarm r) s = .next (s.respond 0x0110 q stBusy [])) ∧
    (¬busy → s.pfwLow = true → exec (.resetWarm r) s = .next (s.respond 0x0110 q stRefused [])) ∧
    (¬busy → s.pfwLow = false → exec (.resetWarm r) s = .next ((s.respond 0x0110 q stOk []).warmReset q.via)) := by
  intro busy
  have hbusy : busy ↔ (s.hif.pend || s.changing) = true := (Bool.or_eq_true _ _).symm.to_iff
  rw [exec_resetWarm h he]
  refine ⟨fun hb => ?_, fun hb hp => ?_, fun hb hp => ?_⟩
  · rw [if_pos (hbusy.mp hb)]
  · rw [if_neg (mt hbusy.mpr hb), if_pos hp]
  · rw [if_neg (mt hbusy.mpr hb), if_neg (by simp [hp])]

/-- Settles O49, a command at a time. -/
theorem resetCommands : Obligations.ResetCommands := by
  unfold Obligations.ResetCommands
  refine ⟨?warm, ?cell, ?done, ?lane, ?replay⟩
  case warm =>
    intro s r q h he busy
    obtain ⟨hbusy, hrefused, hok⟩ := resetWarm_spec s r q h he
    refine ⟨hbusy, hrefused, fun hb hp => ⟨_, hok hb hp, ?_⟩⟩
    obtain ⟨hfw, hopen, hmod, hsec, hctr, himg, hepoch, htrans⟩ := State.warmReset_spec q.via (s.respond 0x0110 q stOk [])
    have hcrn := State.respond_crn 0x0110 q stOk [] s
    have htarget := State.resetTarget_congr hcrn
    refine ⟨hfw, hopen, by rw [hmod, hcrn], by rw [hsec, State.respond_sec], by rw [hctr, State.respond_tim],
      by rw [himg, State.respond_img], by rw [hepoch, State.respond_epoch],
      ⟨_, htrans, rfl, htarget, rfl⟩, fun hpre hrun => ?_, fun hno => ?_⟩
    · have hdrains := State.warmReset_drains (via := q.via) (s := s.respond 0x0110 q stOk []) (by rw [hcrn]; exact hpre) (by rw [hcrn]; exact hrun)
      simpa only [State.respond_cel, State.respond_prt, State.respond_stg, State.respond_flo] using hdrains
    · have happlies := State.warmReset_applies (via := q.via) (s := s.respond 0x0110 q stOk []) (by rw [hcrn]; exact hno)
      obtain ⟨hcause, hcel, hprt, hcur, hsessions, hchannels, hrecs⟩ := happlies
      rw [hcrn, State.respond_flo] at hrecs
      exact ⟨hcause, hcel, hprt, hcur, hsessions, hchannels, fun hpre => by rw [hrecs, hpre]; rfl, fun hpre => by rw [hrecs, hpre]; rfl⟩
  case cell =>
    intro s r q h hrsv he c busy place
    have hbusy : busy ↔ (s.hif.pend || s.changing) = true := (Bool.or_eq_true _ _).symm.to_iff
    rw [exec_resetCell h hrsv he]
    refine ⟨fun hb => ?_, fun hb hp => ?_, fun hb hp hrun => ?_, fun hb hp hrun hplace => ?_, fun hb hp hrun hplace => ?_⟩
    · rw [if_pos (hbusy.mp hb)]
    · rw [if_neg (mt hbusy.mpr hb), State.cellResetAns, if_pos hp]
      exact congrArg _ (State.finish_no (by decide) (by decide))
    · rw [if_neg (mt hbusy.mpr hb), State.cellResetAns, if_neg (by simp [hp]), if_pos hrun, State.finish_ok]
      have hc : c < 64 := by
        simp only [c, Req.f, fld, nfld]; omega
      exact ⟨_, rfl, State.reopenCell_eq _ s, State.reopenCell_spec hc (by simp [State.fltRuns, h.fwRuns])⟩
    · rw [if_neg (mt hbusy.mpr hb), State.cellResetAns, if_neg (by simp [hp]), if_neg (not_not.mpr hrun),
        State.resetPlace_eq_none hplace]
      exact congrArg _ (State.finish_no (by decide) (by decide))
    · obtain ⟨t, ht, hcore⟩ := State.resetPlace_eq_some hplace
      rw [if_neg (mt hbusy.mpr hb), State.cellResetAns, if_neg (by simp [hp]), if_neg (not_not.mpr hrun), ht]
      have hreset := (State.startCellReset_core c t).trans hcore
      obtain ⟨hmark, hst⟩ := State.startCellReset_cell c t
      dsimp only
      generalize t.startCellReset c = v at hreset hmark hst ⊢
      have hhif : v.hif = s.hif := by simpa only [State.core_hif] using congrArg State.hif hreset
      refine ⟨_, { kind := .cellReset c, op := 0x0111, req := q }, congrArg _ State.finish_waits, hmark, hst,
        congrArg (fun h : Hif => h.deferred ++ _) hhif, rfl, rfl, ?_, ?_, ?_, ?_, ?_⟩
      · simpa only [State.core_crn] using congrArg State.crn hreset
      · simpa only [State.core_tim] using congrArg State.tim hreset
      · simpa only [State.core_stg] using congrArg State.stg hreset
      · simpa only [State.core_img] using congrArg State.img hreset
      · simpa only [State.core_sec] using congrArg State.sec hreset
  case done =>
    intro s c own slots hf
    cases hr : (s.cell c.val).resetting with
    | false =>
      refine ⟨_, (exec_cellResetDone c own slots s).trans (congrArg _ (if_neg (by simp [hr]))), fun _ => rfl, fun h => ?_⟩
      contradiction
    | true =>
      obtain ⟨t, hexec, hspec⟩ := cellResetDone_spec hf hr own slots
      exact ⟨t, hexec, fun h => by contradiction, fun _ => hspec⟩
  case lane =>
    intro s r q h hrsv he p
    rw [exec_resetLane h hrsv he]
    refine ⟨fun hb => ?_, fun hb hp => ?_, fun hb hp => ?_⟩
    · rw [if_pos hb]
    · rw [if_neg (by simp [hb]), if_pos hp]
    · rw [if_neg (by simp [hb]), if_neg (by simp [hp])]
      exact ⟨_, rfl, State.laneReset_spec (by simp [State.fltRuns, h.fwRuns])⟩
  case replay =>
    intro s r q h he busy
    have hbusy : busy ↔ (s.hif.pend || s.changing) = true := (Bool.or_eq_true _ _).symm.to_iff
    rw [exec_powerJournalReplay h he]
    refine ⟨fun hb => ?_, fun hb hp => ?_, fun hb hp hnone => ?_, fun x hb hp hx => ?_⟩
    · rw [if_pos (hbusy.mp hb)]
    · rw [if_neg (mt hbusy.mpr hb), State.replayAns, if_pos hp]
      exact congrArg _ (State.finish_no (by decide) (by decide))
    · rw [if_neg (mt hbusy.mpr hb), State.replayAns, if_neg (by simp [hp]), hnone]
      exact congrArg _ (State.finish_no (by decide) (by decide))
    · obtain ⟨hpend, hcrn, hepoch, himm, hprev, hcur, hflag, hlog⟩ := State.replayPublished_spec x s
      obtain ⟨hpcrn, hphif, hpstg⟩ := State.placeRestored_keeps (s.replayPublished x)
      rw [if_neg (mt hbusy.mpr hb), State.replayAns_published hp hx]
      refine ⟨(s.replayPublished x).placeRestored, ?_, ?_⟩
      · rw [hphif]
        cases hpd : (s.replayPublished x).hif.pend with
        | false =>
          rw [if_neg Bool.false_ne_true, if_neg Bool.false_ne_true, State.finish_ok]
        | true =>
          rw [if_pos rfl, if_pos rfl, State.finish_waits, hphif]
      · rw [hpcrn, hphif, hpstg, hcur]
        exact ⟨hpend, hcrn, hepoch, himm, hprev, fun k hk => tabFind_replayCfg_J hk _ _,
          fun hr hc k hk => tabFind_replayCfg_other hr hc hk, hflag, hlog⟩

end Sys2Proof.Machine
end

section
/-!
PROOF of PowerTransitions (O51). The boot, by the images that verify; then the ends of a cold start, a reset, a drain and
Watch, and the transitions into and out of Run (03 R79, R80, R83, R97, R101, R103, R104, R604; 14 R495; 15 R513, R514).
-/

namespace Sys2Proof.Machine

open Sys2Proof

/-! ## Events -/

/-- An event changes FLT alone. -/
theorem State.raise_eq (e : Ev) (s : State) : s.raise e = { s with flt := (s.raise e).flt } := by
  unfold State.raise; split <;> rfl

/-- A source's bit is in its mask. -/
theorem getLsbD_srcMask {n : Nat} (h : n < 1152) : (srcMask n).getLsbD n = true := by
  rw [srcMask, BitVec.getLsbD_ofNat, Nat.testBit_two_pow]
  simp [h]

/-- An event that is seen sets its source's EVT bit; a faulty one sets FLT, and a fatal one FATAL. -/
theorem State.raise_bits {e : Ev} {s : State} (hs : s.eventSeen e.src = true) (hn : e.src < 1152) :
    (s.raise e).flt.evt.getLsbD e.src = true ∧ (2 ≤ e.cls → (s.raise e).flt.flt.getLsbD e.src = true) ∧
      (e.cls = 3 → (s.raise e).flt.fatal.getLsbD e.src = true) := by
  have hbit (v : BitVec 1152) : (v ||| srcMask e.src).getLsbD e.src = true := by
    rw [BitVec.getLsbD_or, getLsbD_srcMask hn, Bool.or_true]
  unfold State.raise
  rw [if_pos hs]
  refine ⟨hbit _, fun h => ?_, fun h => ?_⟩
  · simp only [State.onFlt_flt, if_pos h]
    exact hbit _
  · simp only [State.onFlt_flt, if_pos h]
    exact hbit _

/-- So does an event that a core raises. -/
theorem State.raiseByCore_bits {e : Ev} {s : State} (hs : s.crn.fwRuns = true) (hn : e.src < 1152) (hc : 2 ≤ e.cls) :
    (s.raiseByCore e).flt.evt.getLsbD e.src = true ∧ (s.raiseByCore e).flt.flt.getLsbD e.src = true := by
  obtain ⟨hevt, hflt, -⟩ := State.raise_bits (s := s.drawNat.2) (e := { e with master := 0x48 + s.drawNat.1 % 16 })
    (by simp [State.eventSeen, State.fltRuns, State.drawNat, hs]) hn
  exact ⟨hevt, hflt hc⟩

theorem State.raiseByCore_eq (e : Ev) (s : State) :
    s.raiseByCore e = { s with flt := (s.raiseByCore e).flt, draw := s.draw + 1 } := by
  unfold State.raiseByCore
  extract_lets d
  rw [State.raise_eq]
  rfl

/-! ## The start of firmware (03 R96; 15 R514) -/

/-- Cairn has no first-fault record to write back any more. -/
theorem State.restoreFfr_eq (s : State) :
    s.restoreFfr = { s with crn := { s.crn with carried := none }, flt := s.restoreFfr.flt } := by
  unfold State.restoreFfr
  split
  · rename_i h
    rw [← h]
  · dsimp only
    split <;> rfl

theorem State.raiseAbsent_eq (s : State) : s.raiseAbsent = { s with flt := s.raiseAbsent.flt } := by
  unfold State.raiseAbsent
  exact List.foldlRecOn (motive := fun t : State => t = { s with flt := t.flt }) _ _ rfl
    fun t ht r _ => (State.raise_eq _ t).trans (by rw [ht])

/-- The images that a boot finds: a bank's firmware or policy verifies by the fuses alone. -/
theorem State.imageReason_congr {s t : State} (h : t.sec = s.sec) (policy : Bool) (g : Slot) :
    t.imageReason policy g = s.imageReason policy g := by
  unfold State.imageReason
  rw [h]

/-- An image's record without what the policy in force sets. -/
def Img.bare (m : Img) : Img :=
  { m with policy := {}, polVersion := 0, polBank := none, polKey := 0, polActive := 0, m2 := [] }

/-- The policy of boot stage 2: what verifies goes in force, and a failure raises its event. -/
theorem State.bootPolicy_spec {s : State} (hf : s.crn.fwRuns = true) : let t := s.bootPolicy
    let p := s.img.polActive
    let okP (b : Nat) : Prop := s.imageReason true (s.polSlot b) = 0
    t = { s with img := t.img, bpm := t.bpm, flt := t.flt, draw := t.draw } ∧ t.img.bare = s.img.bare ∧
      (okP p → t.img.policy = (s.polSlot p).policy.getD {} ∧ t.img.polBank = some p) ∧
      (¬okP p → t.flt.evt.getLsbD 1148 = true ∧ t.flt.flt.getLsbD 1148 = true) ∧
      (¬okP p → okP (1 - p) → t.img.policy = (s.polSlot (1 - p)).policy.getD {} ∧ t.img.polBank = some (1 - p)) ∧
      (¬okP p → ¬okP (1 - p) → t.img.policy = {} ∧ t.img.polBank = none) := by
  intro t p okP
  obtain ⟨hevt, hflt⟩ := State.raiseByCore_bits hf (e := { src := 1148, reason := 1, cls := 2 }) (by decide) (by decide)
  by_cases hp : okP p
  · have ht : t = s.usePolicy p (s.polSlot p) := by
      simp only [t, State.bootPolicy, beq_iff_eq]
      exact if_pos hp
    rw [ht]
    exact ⟨rfl, rfl, fun _ => ⟨rfl, rfl⟩, fun h => absurd hp h, fun h => absurd hp h, fun h => absurd hp h⟩
  have hraised := State.raiseByCore_eq { src := 1148, reason := 1, cls := 2 } s
  by_cases hq : okP (1 - p)
  · have ht : t = (s.raiseByCore { src := 1148, reason := 1, cls := 2 }).usePolicy (1 - p) (s.polSlot (1 - p)) := by
      simp only [t, State.bootPolicy, beq_iff_eq]
      exact (if_neg hp).trans (if_pos hq)
    rw [ht, hraised]
    generalize (s.raiseByCore { src := 1148, reason := 1, cls := 2 }).flt = f at hevt hflt
    exact ⟨rfl, rfl, fun h => absurd h hp, fun _ => ⟨hevt, hflt⟩, fun _ _ => ⟨rfl, rfl⟩, fun _ h => absurd hq h⟩
  · have ht : t = (s.raiseByCore { src := 1148, reason := 1, cls := 2 }).noPolicy := by
      simp only [t, State.bootPolicy, beq_iff_eq]
      exact (if_neg hp).trans (if_neg hq)
    rw [ht, hraised]
    generalize (s.raiseByCore { src := 1148, reason := 1, cls := 2 }).flt = f at hevt hflt
    exact ⟨rfl, rfl, fun h => absurd h hp, fun _ => ⟨hevt, hflt⟩, fun _ h => absurd h hq, fun _ _ => ⟨rfl, rfl⟩⟩

/-- What `startFirmware` does before the policy: the bank, Cairn's marks of running firmware, its levels and version. -/
def State.startedBank (b : Nat) (x : Trans) (s : State) : State :=
  { s.bootLine 0 b with
    img := { s.img with fwBank := b, m1 := (sha384 (s.fwSlot b).header).toList }
    hif := { s.hif with
      blLow := (s.fwSlot b).blLow, blHigh := (s.fwSlot b).blHigh, fwVersion := (s.fwSlot b).version, bmbRsp := [], bmbDone := false }
    crn := { s.crn with fwRuns := true, wdArmed := true, wdLast := s.upNs, trans := some { x with phase := 1 } } }

/-- And then: the first-fault record, the absent references, and the policy. -/
theorem State.startFirmware_eq (b : Nat) (x : Trans) (s : State) :
    let d := (s.startedBank b x).restoreFfr.raiseAbsent.bootPolicy
    let e := d.onImg fun m => { m with configDigest := digestOf s.stg.cur s.stg.imm }
    s.startFirmware b x = if x.kind = .coldStart then
      (e.onImg fun m => { m with journaling := m.policy.journal }).onStg fun g =>
        { g with coldZone := d.img.policy.zone, coldAging := d.img.policy.aging, salt := g.salt + 1 }
    else e := (rfl)

/-- The state in which stage 2 takes the policy. -/
theorem State.stage1_eq (b : Nat) (x : Trans) (s : State) : let c := s.startedBank b x
    c.restoreFfr.raiseAbsent = { c with crn := { c.crn with carried := none }, flt := c.restoreFfr.raiseAbsent.flt } := by
  intro c
  rw [State.raiseAbsent_eq]
  generalize c.restoreFfr.raiseAbsent.flt = f
  rw [State.restoreFfr_eq]

/-- What firmware of bank b has in force once it has started. -/
def Boots (s : State) (x : Trans) (b : Nat) (t : State) : Prop :=
  t.img.fwBank = b ∧ t.crn.fwRuns = true ∧ t.crn.wdArmed = true ∧ t.crn.wdLast = s.upNs ∧
    t.crn.trans = some { x with phase := 1 } ∧ t.hif.blLow = (s.fwSlot b).blLow ∧ t.hif.blHigh = (s.fwSlot b).blHigh ∧
    t.hif.fwVersion = (s.fwSlot b).version ∧ t.img.m1 = (sha384 (s.fwSlot b).header).toList ∧ t.crn.mod = s.crn.mod ∧
    t.sec = s.sec ∧ t.img.fwActive = s.img.fwActive ∧ t.img.configDigest = digestOf s.stg.cur s.stg.imm ∧
    (s.imageReason true (s.polSlot s.img.polActive) = 0 →
      t.img.policy = (s.polSlot s.img.polActive).policy.getD {} ∧ t.img.polBank = some s.img.polActive) ∧
    (¬s.imageReason true (s.polSlot s.img.polActive) = 0 →
      t.flt.evt.getLsbD 1148 = true ∧ t.flt.flt.getLsbD 1148 = true) ∧
    (¬s.imageReason true (s.polSlot s.img.polActive) = 0 → s.imageReason true (s.polSlot (1 - s.img.polActive)) = 0 →
      t.img.policy = (s.polSlot (1 - s.img.polActive)).policy.getD {} ∧ t.img.polBank = some (1 - s.img.polActive)) ∧
    (¬s.imageReason true (s.polSlot s.img.polActive) = 0 → ¬s.imageReason true (s.polSlot (1 - s.img.polActive)) = 0 →
      t.img.policy = {} ∧ t.img.polBank = none) ∧
    (x.kind = .coldStart → t.img.journaling = t.img.policy.journal)

/-- The parts of a state that decide how bank b's firmware starts. -/
def State.SameBoot (s u : State) : Prop :=
  u.crn = s.crn ∧ u.sec = s.sec ∧ u.tim = s.tim ∧ u.stg = s.stg ∧ u.img.fw = s.img.fw ∧ u.img.pol = s.img.pol ∧
    u.img.fwActive = s.img.fwActive ∧ u.img.polActive = s.img.polActive

/-- Whatever its marks of a firmware trial, a state that boots bank b has in force what the bank gives, and keeps the marks. -/
theorem State.startFirmware_boots {s u : State} (h : s.SameBoot u) (b : Nat) (x : Trans) :
    Boots s x b (u.startFirmware b x) ∧ (u.startFirmware b x).img.trial = u.img.trial ∧
      (u.startFirmware b x).img.reverted = u.img.reverted := by
  obtain ⟨hcrn, hsec, htim, hstg, hfw, hpol, hact, hpact⟩ := h
  have hslot : u.fwSlot b = s.fwSlot b := by rw [State.fwSlot, hfw]; rfl
  have hpslot (c : Nat) : u.polSlot c = s.polSlot c := by rw [State.polSlot, hpol]; rfl
  have hv := u.stage1_eq b x
  have hd := State.bootPolicy_spec (s := (u.startedBank b x).restoreFfr.raiseAbsent) (by rw [hv]; rfl)
  rw [State.startFirmware_eq]
  dsimp only at hv hd ⊢
  generalize (u.startedBank b x).restoreFfr.raiseAbsent.bootPolicy = d at hd ⊢
  generalize (u.startedBank b x).restoreFfr.raiseAbsent.flt = f at hv
  generalize (u.startedBank b x).restoreFfr.raiseAbsent = v at hv hd
  have hvsec : v.sec = s.sec := by rw [hv]; exact hsec
  have hvslot (c : Nat) : v.polSlot c = s.polSlot c := by rw [← hpslot, hv]; rfl
  have hvact : v.img.polActive = s.img.polActive := by rw [hv]; exact hpact
  simp only [State.imageReason_congr hvsec, hvslot, hvact] at hd
  obtain ⟨hdeq, hbare, hok, hevent, hother, hnone⟩ := hd
  have hdcrn : d.crn = v.crn := by rw [hdeq]
  have hdhif : d.hif = v.hif := by rw [hdeq]
  have hdsec : d.sec = v.sec := by rw [hdeq]
  have hvcrn : v.crn = { s.crn with
      fwRuns := true, wdArmed := true, wdLast := s.upNs, trans := some { x with phase := 1 }, carried := none } := by
    rw [hv, ← hcrn, show s.upNs = u.upNs by rw [State.upNs, ← htim]; rfl]
    rfl
  have hvhif : v.hif.blLow = (s.fwSlot b).blLow ∧ v.hif.blHigh = (s.fwSlot b).blHigh ∧ v.hif.fwVersion = (s.fwSlot b).version := by
    rw [hv, ← hslot]
    exact ⟨rfl, rfl, rfl⟩
  have hvimg : v.img = { u.img with fwBank := b, m1 := (sha384 (s.fwSlot b).header).toList } := by
    rw [hv, ← hslot]
    rfl
  rw [hvimg] at hbare
  obtain ⟨hlow, hhigh, hversion⟩ := hvhif
  have hbank : d.img.fwBank = b := congrArg Img.fwBank hbare
  have hm1 : d.img.m1 = (sha384 (s.fwSlot b).header).toList := congrArg Img.m1 hbare
  have hdact : d.img.fwActive = s.img.fwActive := (congrArg Img.fwActive hbare).trans hact
  have htrial : d.img.trial = u.img.trial := (congrArg Img.trial hbare :)
  have hreverted : d.img.reverted = u.img.reverted := (congrArg Img.reverted hbare :)
  have hmarks : d.crn.fwRuns = true ∧ d.crn.wdArmed = true ∧ d.crn.wdLast = s.upNs ∧ d.crn.trans = some { x with phase := 1 } ∧
      d.crn.mod = s.crn.mod := by
    rw [hdcrn, hvcrn]
    exact ⟨rfl, rfl, rfl, rfl, rfl⟩
  obtain ⟨hruns, harmed, hlast, htrans, hmod⟩ := hmarks
  rw [← hdhif] at hlow hhigh hversion
  rw [← hdsec] at hvsec
  rw [hstg]
  split
  · exact ⟨⟨hbank, hruns, harmed, hlast, htrans, hlow, hhigh, hversion, hm1, hmod, hvsec, hdact, rfl, hok, hevent, hother,
      hnone, fun _ => rfl⟩, htrial, hreverted⟩
  · rename_i hwarm
    exact ⟨⟨hbank, hruns, harmed, hlast, htrans, hlow, hhigh, hversion, hm1, hmod, hvsec, hdact, rfl, hok, hevent, hother,
      hnone, fun hcold => absurd hcold hwarm⟩, htrial, hreverted⟩

/-! ## The bank that the boot ROM picks (14 R495; 15 R513) -/

/-- A trial is booted but by a fatal reset, and by the end of Watch at its wake time, unless it runs already. -/
theorem State.bootsTrial_iff {s : State} {x : Trans} (hx : s.crn.trans = some x) : s.bootsTrial x.kind = true ↔
    s.img.trial = true ∧ (s.trialRuns = true ∨ ¬(x.kind = .reset .fatal ∨ (x.kind = .reset .watchExit ∧ x.byPin = false))) := by
  simp [State.bootsTrial, hx, Decidable.imp_iff_not_or]

/-- A line of the boot log changes no part that a boot depends on. -/
theorem State.SameBoot.refl (s : State) : s.SameBoot s := ⟨rfl, rfl, rfl, rfl, rfl, rfl, rfl, rfl⟩

theorem State.bankFails_sameBoot {s u : State} (h : s.SameBoot u) (b : Nat) : s.SameBoot (u.bankFails b) := h

/-- A trial that fails ends. -/
theorem State.failTrial_spec (s : State) :
    s.SameBoot s.failTrial ∧ s.failTrial.img.trial = false ∧ s.failTrial.img.reverted = true := by
  unfold State.failTrial
  rw [State.raise_eq]
  exact ⟨⟨rfl, rfl, rfl, rfl, rfl, rfl, rfl, rfl⟩, rfl, rfl⟩

/-- The bank's firmware verifies. -/
def State.bootable (s : State) (b : Nat) : Prop := s.imageReason false (s.fwSlot b) = 0

/-- The bank that is booted where one verifies: a trial's, else the active one, else, without a trial, the other. -/
theorem State.pickBank_trial {k : TransKind} {s : State} (ht : s.bootsTrial k = true) (hb : s.bootable (1 - s.img.fwActive)) :
    s.pickBank k = (some (1 - s.img.fwActive), s) := by
  rw [State.bootable] at hb
  simp [State.pickBank, ht, hb]

theorem State.pickBank_failed {k : TransKind} {s : State} (ht : s.bootsTrial k = true)
    (hb : ¬s.bootable (1 - s.img.fwActive)) (ha : s.bootable s.img.fwActive) :
    s.pickBank k = (some s.img.fwActive, s.failTrial) := by
  rw [State.bootable] at ha hb
  simp [State.pickBank, ht, ha, hb]

theorem State.pickBank_active {k : TransKind} {s : State} (ht : ¬s.bootsTrial k = true) (ha : s.bootable s.img.fwActive) :
    s.pickBank k = (some s.img.fwActive, s) := by
  rw [State.bootable] at ha
  simp [State.pickBank, ht, ha]

theorem State.pickBank_other {k : TransKind} {s : State} (ht : ¬s.bootsTrial k = true) (ha : ¬s.bootable s.img.fwActive)
    (hb : s.bootable (1 - s.img.fwActive)) :
    s.pickBank k = (some (1 - s.img.fwActive), s.bankFails s.img.fwActive) := by
  rw [State.bootable] at ha hb
  simp [State.pickBank, ht, ha, hb]

theorem State.pickBank_none {k : TransKind} {s : State} (ha : ¬s.bootable s.img.fwActive)
    (hb : ¬s.bootable (1 - s.img.fwActive)) : ∃ u, s.pickBank k = (none, u) := by
  rw [State.bootable] at ha hb
  by_cases ht : s.bootsTrial k = true
  · exact ⟨s.failTrial.bankFails s.img.fwActive, by simp [State.pickBank, ht, ha, hb]⟩
  · exact ⟨(s.bankFails s.img.fwActive).bankFails (1 - s.img.fwActive), by simp [State.pickBank, ht, ha, hb]⟩

/-! ## BOOT_IMAGE_VERIFIED (03 R83) -/

/-- A boot waits in a cold start or a reset, until firmware has started; PRST_N and a drain hold it. -/
theorem exec_bootImageVerified {s : State} {x : Trans} (hx : s.crn.trans = some x)
    (hk : x.kind = .coldStart ∨ ∃ k, x.kind = .reset k) : exec .bootImageVerified s = .next
      (if x.phase ≠ 0 ∨ s.crn.held = true ∨ s.crn.draining = true then s
      else match s.pickBank x.kind with
        | (some b, u) => u.startFirmware b x
        | (none, u) => (u.enterWatch.raise { src := 1129, reason := 1, cls := 3 }).bootLine 2 0) := by
  change execBootImageVerified s = _
  unfold execBootImageVerified
  rw [hx]
  rcases hk with hk | ⟨k, hk⟩
  all_goals
    simp only [hk, Bool.not_true, Bool.false_or, Bool.or_eq_true, decide_eq_true_eq, or_assoc] <;> rfl

/-- Without an image to boot the module stays in Watch with a fatal event. -/
theorem State.noBoot_spec (u : State) :
    let t := (u.enterWatch.raise { src := 1129, reason := 1, cls := 3 }).bootLine 2 0
    t.crn.mod = .watch ∧ t.crn.trans = none ∧ t.crn.fwRuns = false ∧ t.crn.pcieUp = false ∧
      t.flt.evt.getLsbD 1129 = true ∧ t.flt.flt.getLsbD 1129 = true ∧ t.flt.fatal.getLsbD 1129 = true := by
  obtain ⟨hevt, hflt, hfatal⟩ := State.raise_bits (s := u.enterWatch) (e := { src := 1129, reason := 1, cls := 3 })
    (by simp [State.eventSeen, State.enterWatch, cairnSource]) (by decide)
  have hcrn : (u.enterWatch.raise { src := 1129, reason := 1, cls := 3 }).crn = u.enterWatch.crn := State.raise_crn _ _
  refine ⟨?_, ?_, ?_, ?_, hevt, hflt (by decide), hfatal rfl⟩
  all_goals
    rw [State.bootLine, State.emit_crn, hcrn]
    simp [State.enterWatch]

/-- A boot by the images that verify. -/
theorem bootImageVerified_spec {s : State} {x : Trans} (hx : s.crn.trans = some x)
    (hk : x.kind = .coldStart ∨ ∃ k, x.kind = .reset k) (hphase : x.phase = 0) (hheld : s.crn.held = false)
    (hdrain : s.crn.draining = false) : ∃ t, exec .bootImageVerified s = .next t ∧
      (s.bootsTrial x.kind = true → s.bootable (1 - s.img.fwActive) → Boots s x (1 - s.img.fwActive) t ∧ t.img.trial = s.img.trial) ∧
      (s.bootsTrial x.kind = true → ¬s.bootable (1 - s.img.fwActive) → s.bootable s.img.fwActive →
        Boots s x s.img.fwActive t ∧ t.img.trial = false ∧ t.img.reverted = true) ∧
      (¬s.bootsTrial x.kind = true → s.bootable s.img.fwActive → Boots s x s.img.fwActive t ∧ t.img.trial = s.img.trial) ∧
      (¬s.bootsTrial x.kind = true → ¬s.bootable s.img.fwActive → s.bootable (1 - s.img.fwActive) →
        Boots s x (1 - s.img.fwActive) t) ∧
      (¬s.bootable s.img.fwActive → ¬s.bootable (1 - s.img.fwActive) →
        t.crn.mod = .watch ∧ t.crn.trans = none ∧ t.crn.fwRuns = false ∧ t.crn.pcieUp = false ∧
          t.flt.evt.getLsbD 1129 = true ∧ t.flt.flt.getLsbD 1129 = true ∧ t.flt.fatal.getLsbD 1129 = true) := by
  refine ⟨_, (exec_bootImageVerified hx hk).trans (congrArg _ (if_neg (by simp [hphase, hheld, hdrain]))), ?_, ?_, ?_, ?_, ?_⟩
  · intro ht hb
    rw [State.pickBank_trial ht hb]
    obtain ⟨hboots, htrial, -⟩ := State.startFirmware_boots (.refl s) (1 - s.img.fwActive) x
    exact ⟨hboots, htrial⟩
  · intro ht hb ha
    obtain ⟨hfail, hended, hreverted⟩ := s.failTrial_spec
    obtain ⟨hboots, htrial, hrev⟩ := State.startFirmware_boots hfail s.img.fwActive x
    rw [State.pickBank_failed ht hb ha]
    exact ⟨hboots, htrial.trans hended, hrev.trans hreverted⟩
  · intro ht ha
    rw [State.pickBank_active ht ha]
    obtain ⟨hboots, htrial, -⟩ := State.startFirmware_boots (.refl s) s.img.fwActive x
    exact ⟨hboots, htrial⟩
  · intro ht ha hb
    rw [State.pickBank_other ht ha hb]
    exact (State.startFirmware_boots (State.bankFails_sameBoot (.refl s) s.img.fwActive) _ x).1
  · intro ha hb
    obtain ⟨u, hu⟩ := State.pickBank_none (k := x.kind) ha hb
    rw [hu]
    exact State.noBoot_spec u

/-! ## STACKS_TRAINED and RESET_DONE (03 R83, R97, R101, R103) -/

theorem exec_stacksTrained {s : State} {x : Trans} (hx : s.crn.trans = some x) (hp : x.phase = 1) :
    exec .stacksTrained s = .next (if x.kind = .coldStart then s.atStandby else s.phase 2) := by
  change execStacksTrained s = _
  unfold execStacksTrained
  rw [hx]
  simp only [hp, if_true]

theorem State.phase_eq {s : State} {x : Trans} (hx : s.crn.trans = some x) (n : Nat) :
    s.phase n = { s with crn := { s.crn with trans := some { x with phase := n } } } := by
  simp [State.phase, State.onCrn, hx]

/-- A reset that is done restores class J and is in Standby, on its way back to Run where it came from there. -/
theorem exec_resetDone {s : State} {x : Trans} {k : ResetKind} (hx : s.crn.trans = some x) (hk : x.kind = .reset k)
    (hp : x.phase = 2 ∨ x.phase = 1 ∧ s.crn.storeKept = true) : exec .resetDone s = .next
      (if x.back = .run ∧ !s.crn.thermal then
        s.restoreJ.placeRestored.atStandby.onCrn fun c => { c with trans := some { kind := .toRun, back := .run } }
      else s.restoreJ.placeRestored.atStandby) := by
  change execResetDone s = _
  unfold execResetDone
  rw [hx]
  simp only [hk]
  exact congrArg _ (if_pos (by simpa using hp))

/-- Segments without a trailer, whose seal is not under way, end the journal that is kept. -/
theorem State.dropUnsealed_segs (s : State) :
    let cut := ∃ g ∈ s.img.segs, g.sealedAt = none ∧ g.sealing = false
    (¬cut → s.dropUnsealed = s) ∧ (cut → s.dropUnsealed.img.segs = s.img.segs.takeWhile fun g => g.sealedAt.isSome) := by
  intro cut
  have hcut : (s.img.segs.any fun g => g.sealedAt.isNone && !g.sealing) = true ↔ cut := by simp [cut]
  unfold State.dropUnsealed
  refine ⟨fun h => if_neg (mt hcut.mp h), fun h => ?_⟩
  rw [if_pos (hcut.mpr h)]
  simp

/-- The restore of class J with journaling off. -/
theorem State.restoreJ_off {s : State} (h : s.img.journaling = false) : s.restoreJ = s := by
  rw [State.restoreJ, if_neg (by simp [h])]

/-- With no sealed segment only the segments without a trailer go. -/
theorem State.restoreJ_none {s : State} (hj : s.img.journaling = true) (h : s.replayed = none) : s.restoreJ = s.dropUnsealed := by
  rw [State.restoreJ, if_pos hj]
  dsimp only
  rw [State.dropUnsealed_replayed, h]

/-- What the journal restores stands in every copy of the configuration; ports are as it has them. -/
theorem State.restoreJ_some {s : State} {z : Replay} (hj : s.img.journaling = true) (h : s.replayed = some z) :
    ∃ p, s.restoreJ = { s.dropUnsealed with
      stg := { s.stg with cur := z.cfg, prev := z.cfg, staged := z.cfg, imm := z.imm }
      img := { s.dropUnsealed.img with configDigest := digestOf z.cfg z.imm }
      prt := p } := by
  obtain ⟨-, -, hstg, -⟩ := s.dropUnsealed_keeps
  have hrestore : s.restoreJ = State.parkPorts [] ((s.dropUnsealed.onStg fun g =>
      { g with cur := z.cfg, prev := z.cfg, staged := z.cfg, imm := z.imm }).onImg fun m =>
        { m with configDigest := digestOf z.cfg z.imm }) := by
    rw [State.restoreJ, if_pos hj]
    dsimp only
    rw [State.dropUnsealed_replayed, h]
  rw [hrestore, State.parkPorts_eq, ← hstg]
  exact ⟨_, rfl⟩

/-- The restore of class J by the journal's state: what it changes, and what the configuration is afterwards. -/
theorem State.restoreJ_spec (s : State) : let t := s.restoreJ
    let cut := ∃ g ∈ s.img.segs, g.sealedAt = none ∧ g.sealing = false
    t = { s with stg := t.stg, img := t.img, flt := t.flt, prt := t.prt } ∧
      (s.img.journaling = false → t.stg = s.stg ∧ t.img = s.img ∧ t.prt = s.prt) ∧
      (s.img.journaling = true →
        t.img = { s.img with segs := t.img.segs, configDigest := t.img.configDigest } ∧ (¬cut → t.img.segs = s.img.segs) ∧
        (cut → t.img.segs = s.img.segs.takeWhile fun g => g.sealedAt.isSome) ∧
        (s.replayed = none → t.stg = s.stg ∧ t.prt = s.prt) ∧
        ∀ z, s.replayed = some z → t.stg.cur = z.cfg ∧ t.stg.prev = z.cfg ∧ t.stg.staged = z.cfg ∧ t.stg.imm = z.imm ∧
          t.img.configDigest = digestOf z.cfg z.imm) := by
  intro t cut
  cases hj : s.img.journaling with
  | false =>
    have ht : t = s := State.restoreJ_off hj
    rw [ht]
    exact ⟨rfl, fun _ => ⟨rfl, rfl, rfl⟩, fun h => by contradiction⟩
  | true =>
    have hdrop := s.dropUnsealed_eq
    obtain ⟨hkept, hcut⟩ := s.dropUnsealed_segs
    have hsegs : (¬cut → s.dropUnsealed.img.segs = s.img.segs) := fun h => by rw [hkept h]
    generalize hd : s.dropUnsealed = d at hdrop hsegs hcut
    cases hz : s.replayed with
    | none =>
      have ht : t = d := (State.restoreJ_none hj hz).trans hd
      rw [ht]
      refine ⟨?_, fun h => by contradiction, fun _ => ⟨?_, hsegs, hcut, fun _ => ⟨?_, ?_⟩, fun z h => by contradiction⟩⟩
      all_goals
        rw [hdrop]
    | some z =>
      obtain ⟨p, hp⟩ := State.restoreJ_some hj hz
      rw [hd] at hp
      have ht : t = _ := hp
      rw [ht]
      refine ⟨?_, fun h => by contradiction, fun _ => ⟨?_, hsegs, hcut, fun h => by contradiction, fun y hy => ?_⟩⟩
      · rw [hdrop]
      · rw [hdrop]
      · obtain rfl := Option.some.inj hy
        exact ⟨rfl, rfl, rfl, rfl, rfl⟩

theorem State.eq_of_apart {s t : State} (h : t.apart = s.apart) : t = { s with tbl := t.tbl, flt := t.flt } :=
  congrArg (fun u : State => { u with tbl := t.tbl, flt := t.flt }) h

/-- RESET_DONE: Standby with the mailbox ready, and class J as the journal has it. -/
theorem resetDone_spec {s : State} {x : Trans} {k : ResetKind} (hx : s.crn.trans = some x) (hk : x.kind = .reset k)
    (hp : x.phase = 2 ∨ x.phase = 1 ∧ s.crn.storeKept = true) : ∃ t, exec .resetDone s = .next t ∧
      t = { s with
        crn := t.crn, hif := { s.hif with ready := true }, stg := t.stg, img := t.img, flt := t.flt, prt := t.prt, tbl := t.tbl } ∧
      t.crn.mod = .standby ∧
      (x.back = .run → s.crn.thermal = false → t.crn.trans = some { kind := .toRun, back := .run }) ∧
      ((x.back ≠ .run ∨ s.crn.thermal = true) → t.crn.trans = none) ∧
      t.stg = s.restoreJ.stg ∧ t.img = s.restoreJ.img ∧ t.prt = s.restoreJ.prt := by
  obtain ⟨heq, -⟩ := s.restoreJ_spec
  have hplaced := State.eq_of_apart (State.placeRestored_apart s.restoreJ)
  refine ⟨_, exec_resetDone hx hk hp, ?_⟩
  generalize s.restoreJ.placeRestored = u at hplaced ⊢
  generalize s.restoreJ = v at heq hplaced ⊢
  have hu : u = { s with stg := v.stg, img := v.img, flt := u.flt, prt := v.prt, tbl := u.tbl } := by
    rw [hplaced, heq]
  have hmoves : (x.back = .run ∧ (!s.crn.thermal) = true) ↔ x.back = .run ∧ s.crn.thermal = false := by simp
  split
  · rename_i hback
    obtain ⟨hrun, hcool⟩ := hmoves.mp hback
    refine ⟨?_, rfl, fun _ _ => rfl, fun h => ?_, ?_, ?_, ?_⟩
    · rw [hu]; rfl
    · simp [hrun, hcool] at h
    all_goals
      rw [hu]; rfl
  · rename_i hstay
    refine ⟨?_, rfl, fun hrun hcool => absurd (hmoves.mpr ⟨hrun, hcool⟩) hstay, fun _ => rfl, ?_, ?_, ?_⟩
    all_goals
      rw [hu]; rfl

/-! ## RUN_ENTRY_COMMIT (03 R604; 13 R463) -/

/-- Every cell powers up. -/
def State.powerCells (s : State) : State :=
  (List.range 64).foldl (fun a c => a.onCell c fun x => { x with st := .run }) s

theorem State.powerCells_eq (s : State) : s.powerCells = { s with cel := s.powerCells.cel } :=
  List.foldlRecOn (motive := fun t : State => t = { s with cel := t.cel }) _ _ rfl
    fun t ht c _ => (show t.onCell c _ = { t with cel := (t.onCell c _).cel } from rfl).trans (by rw [ht])

theorem State.powerCells_st {c : Nat} (h : c < 64) (s : State) : (s.powerCells.cell c).st = .run := by
  have hst (l : List Nat) (t : State) : ((l.foldl (fun (a : State) c => a.onCell c fun x => { x with st := .run }) t).cell c).st =
      if c ∈ l then .run else (t.cell c).st := by
    induction l generalizing t with
    | nil => rfl
    | cons d l ih =>
      rw [List.foldl_cons, ih]
      by_cases hd : c = d
      · subst hd; simp
      · simp [hd, State.onCell_cell_other hd]
  rw [State.powerCells, hst, if_pos (List.mem_range.mpr h)]

/-- The powered cells, with the ports of those out of service isolated, before the commit of Run. -/
def State.runCells (s : State) : State :=
  let u := s.powerCells.onBpm fun b => { b with four := true }
  ((List.range 64).filter fun c => !u.inService c).foldl (fun a c => a.isolatePorts c) u

theorem exec_runEntryCommit {s : State} {x : Trans} (hx : s.crn.trans = some x) (hk : x.kind = .toRun) (hp : x.phase = 0) :
    exec .runEntryCommit s = .next (if s.tim.lock = BitVec.allOnes 8 then
      (s.runCells.publish true s.runCells.stg.cur []).phase 3 else s) := by
  change execRunEntryCommit s = _
  unfold execRunEntryCommit
  rw [hx]
  by_cases hlock : s.tim.lock = BitVec.allOnes 8
  · unfold State.runCells State.powerCells
    dsimp only
    rw [if_pos hlock, if_pos ⟨hk, hp, hlock⟩]
  · dsimp only
    rw [if_neg hlock, if_neg fun h => hlock h.2.2]

@[simp] theorem State.isolatePorts_core (c : Nat) (s : State) : (s.isolatePorts c).core = s.core :=
  foldl_core fun a p => by split <;> simp

@[simp] theorem State.isolatePorts_anchor (c : Nat) (s : State) : (s.isolatePorts c).anchor = s.anchor :=
  foldl_anchor fun a p => by split <;> simp

/-- Cells with equal anchors are in equal states. -/
theorem State.cell_st_of_anchor {s t : State} (h : t.anchor = s.anchor) (c : Nat) : (t.cell c).st = (s.cell c).st := by
  have hbare : (t.cell c).bare = (s.cell c).bare := congrFun (congrArg Anchor.cell h) c
  exact (congrArg Cell.st hbare :)

theorem State.runCells_core (s : State) : s.runCells.core = { s.core with bpm := { s.bpm with four := true } } := by
  have hcells : (s.powerCells.onBpm fun b => { b with four := true }).core = { s.core with bpm := { s.bpm with four := true } } := by
    rw [State.powerCells_eq]; rfl
  unfold State.runCells
  rw [← hcells]
  generalize (s.powerCells.onBpm fun b => { b with four := true }) = u
  exact foldl_core fun a c => State.isolatePorts_core c a

theorem State.runCells_st {c : Nat} (h : c < 64) (s : State) : (s.runCells.cell c).st = .run := by
  have hst : ((s.powerCells.onBpm fun b => { b with four := true }).cell c).st = .run := by
    rw [State.onBpm_cell]
    exact State.powerCells_st h s
  unfold State.runCells
  generalize (s.powerCells.onBpm fun b => { b with four := true }) = u at hst ⊢
  have hanchor : (((List.range 64).filter fun c => !u.inService c).foldl (fun a c => State.isolatePorts c a) u).anchor = u.anchor :=
    foldl_anchor fun a c => State.isolatePorts_anchor c a
  exact (State.cell_st_of_anchor hanchor c).trans hst

/-- A publish over running cells leaves them running. -/
theorem State.publish_st {s : State} (h : ∀ c, c < 64 → (s.cell c).st = .run) (on : Bool) (cfg : Cfg)
    (cmds : List (List Word)) : ∀ c, c < 64 → ((s.publish on cfg cmds).cell c).st = .run := by
  intro c hc
  obtain ⟨v, hv, -, -, hcel⟩ := State.publish_settles on cfg cmds s
  have hsame : v.cel = s.cel := hcel fun d hd => by rw [h d hd]; decide
  rw [hv, State.cell_st_of_anchor (State.settleCommit_anchor v), State.cell, hsame]
  exact h c hc

/-- Run's commit: every cell runs, the configuration in force is published as the next epoch, and the last phase begins. -/
theorem runEntryCommit_spec {s : State} {x : Trans} (hx : s.crn.trans = some x) (hk : x.kind = .toRun) (hp : x.phase = 0)
    (hlock : s.tim.lock = BitVec.allOnes 8) : ∃ t, exec .runEntryCommit s = .next t ∧ (∀ c, c < 64 → (t.cell c).st = .run) ∧
      t.stg.cur = s.stg.cur ∧ t.stg.prev = s.stg.cur ∧ t.hif.epoch = nextEpoch s.hif.epoch ∧ t.bpm.four = true ∧
      t.crn.trans = some { x with phase := 3 } ∧ t.crn.mod = s.crn.mod := by
  have hcore := s.runCells_core
  have hst := State.publish_st (fun c hc => State.runCells_st hc s) true s.runCells.stg.cur []
  obtain ⟨hstg, hepoch, -⟩ := State.publish_spec true s.runCells.stg.cur [] s.runCells
  have hcrn := State.publish_crn true s.runCells.stg.cur [] s.runCells
  have hbpm := State.publish_bpm true s.runCells.stg.cur [] s.runCells
  have hvcrn : s.runCells.crn = s.crn := by simpa only [State.core_crn] using congrArg State.crn hcore
  have hvhif : s.runCells.hif = s.hif := by simpa only [State.core_hif] using congrArg State.hif hcore
  have hvstg : s.runCells.stg = s.stg := by simpa only [State.core_stg] using congrArg State.stg hcore
  have hvbpm : s.runCells.bpm = { s.bpm with four := true } := by simpa only [State.core_bpm] using congrArg State.bpm hcore
  refine ⟨_, (exec_runEntryCommit hx hk hp).trans (congrArg _ (if_pos hlock)), ?_⟩
  generalize s.runCells.publish true s.runCells.stg.cur [] = t at hst hstg hepoch hcrn hbpm ⊢
  generalize s.runCells = v at *
  have htx : t.crn.trans = some x := by rw [hcrn, hvcrn, hx]
  rw [State.phase_eq htx]
  refine ⟨hst, ?_, ?_, ?_, ?_, rfl, ?_⟩
  · change t.stg.cur = _
    rw [hstg, hvstg]
  · change t.stg.prev = _
    rw [hstg, hvstg]
  · change t.hif.epoch = _
    rw [hepoch, hvhif]
  · change t.bpm.four = _
    rw [hbpm, hvbpm]
  · change t.crn.mod = _
    rw [hcrn, hvcrn]

/-! ## The end of Run (03 R79) -/

@[simp] theorem State.dynWrite_crn (c fid mac : Nat) (d : Option Nat) (ev : Nat × Nat × Nat) (s : State) :
    (s.dynWrite c fid mac d ev).2.crn = s.crn := by
  have hmake : (s.dynMake c fid mac d).2.crn = s.crn := by
    rw [State.eq_of_apart (State.dynMake_apart c fid mac d s)]
  dsimp only [State.dynWrite]
  split
  · rfl
  · rfl
  · rfl
  · split
    · rfl
    · exact hmake

/-- What firmware reinstalls in the cells leaves Cairn. -/
@[simp] theorem State.reinstall_crn (s : State) : s.reinstall.crn = s.crn :=
  foldl_keeps State.crn _ (fun a _ => foldl_keeps State.crn _ (fun b _ => State.dynWrite_crn _ _ _ _ _ b) _ a) _ _

/-- Every listed port's link goes down. -/
def State.downLinks (l : Tab Port) (s : State) : State := l.foldl (fun a e => a.setLink e.1 .down) s

theorem State.downLinks_footing (l : Tab Port) (s : State) :
    (s.downLinks l).footing = { s.footing with prt := (s.downLinks l).prt } :=
  List.foldlRecOn (motive := fun t : State => t.footing = { s.footing with prt := t.prt }) l _ rfl
    fun t ht e _ => (State.setLink_footing e.1 .down t).trans (by rw [ht])

theorem State.downLinks_link (l : Tab Port) (p : Nat) (s : State) : ((s.downLinks l).port p).link =
    if p ∈ l.map Prod.fst then .down else (s.port p).link := by
  unfold State.downLinks
  induction l generalizing s with
  | nil => rfl
  | cons e l ih =>
    rw [List.foldl_cons, ih]
    by_cases hp : p = e.1
    · subst hp; simp
    · rw [State.setLink_port_other hp]
      simp only [List.map_cons, List.mem_cons, hp, false_or]

/-- A changed entry leaves the keys in order. -/
theorem tabSorted_tabMod {α : Type} [DecidableEq α] (d : α) (n : Nat) (f : α → α) {t : Tab α} (h : tabSorted t = true) :
    tabSorted (tabMod d n f t) = true := by
  unfold tabMod tabPut
  split
  · exact tabSorted_tabDel _ h
  · exact tabSorted_tabIns _ _ h

theorem State.setLink_sorted {p : Nat} {l : Link} {s : State} (h : tabSorted s.prt = true) :
    tabSorted (s.setLink p l).prt = true := by
  dsimp only [State.setLink]
  split
  · exact h
  · split
    · simpa using tabSorted_tabMod {} p _ h
    · simpa using tabSorted_tabMod {} p _ h

theorem State.downLinks_sorted {l : Tab Port} {s : State} (h : tabSorted s.prt = true) :
    tabSorted (s.downLinks l).prt = true :=
  List.foldlRecOn (motive := fun t : State => tabSorted t.prt = true) l _ h fun _ ht _ _ => State.setLink_sorted ht

/-- A key's value is an entry. -/
theorem mem_of_tabFind {α : Type} {t : Tab α} {k : Nat} {v : α} (h : tabFind t k = some v) : (k, v) ∈ t := by
  induction t with
  | nil => contradiction
  | cons e t ih =>
    rw [tabFind] at h
    split at h
    · rename_i hk
      obtain rfl := Option.some.inj h
      subst hk
      exact List.mem_cons_self ..
    · exact List.mem_cons_of_mem _ (ih h)

/-- Once every port that is Up or isolated has gone down, none is Up. -/
theorem State.downLinks_not_up (p : Nat) (s : State) :
    ((s.downLinks (s.prt.filter fun e => decide (e.2.link = .up ∨ e.2.link = .isolated))).port p).link ≠ .up := by
  rw [State.downLinks_link]
  split
  · decide
  · rename_i hp
    intro hup
    cases hv : tabFind s.prt p with
    | none => simp [State.port, tabGet, hv] at hup
    | some v =>
      refine hp (List.mem_map.mpr ⟨(p, v), List.mem_filter.mpr ⟨mem_of_tabFind hv, ?_⟩, rfl⟩)
      have hlink : v.link = .up := by simpa [State.port, tabGet, hv] using hup
      simp [hlink]

/-- A sorted table rewritten entry by entry. -/
theorem tabGet_foldl_tabPut {α : Type} [DecidableEq α] {l : Tab α} (hl : tabSorted l = true) (d : α) (g : α → α)
    (m : Tab α) (k : Nat) : tabGet d (l.foldl (fun m e => tabPut d e.1 (g e.2) m) m) k =
      match tabFind l k with
      | some v => g v
      | none => tabGet d m k := by
  induction l generalizing m with
  | nil => rfl
  | cons e l ih =>
    obtain ⟨hl, hlt⟩ := tabSorted_cons.mp hl
    rw [List.foldl_cons, ih hl]
    by_cases hk : e.1 = k
    · subst hk
      rw [tabFind_eq_none_of_forall_ne fun x hx => (hlt x hx).ne']
      simp [tabFind]
    · simp [tabFind, hk, tabGet_tabPut_other (Ne.symm hk)]

/-- What a cell keeps as it goes off. -/
def Cell.offed (x : Cell) : Cell :=
  { fatalIso := x.fatalIso, isoSoon := x.isoSoon, benched := x.benched, benchSoon := x.benchSoon, unbenchSoon := x.unbenchSoon
    sr := x.sr, lowWindows := x.lowWindows }

/-- What a port keeps as its lanes go off. -/
def Port.rested (x : Port) : Port :=
  { link := x.link, applied := x.applied, lastChange := x.lastChange, shut := x.shut, linkDelay := x.linkDelay }

/-- Every cell goes off, and every port's lanes. -/
def offCells (l : Tab Cell) : Tab Cell := l.foldl (fun m e => tabPut {} e.1 e.2.offed m) []
def restPorts (l : Tab Port) : Tab Port := l.foldl (fun m e => tabPut {} e.1 e.2.rested m) []

theorem offCells_st (l : Tab Cell) (c : Nat) : (tabGet ({} : Cell) (offCells l) c).st = .off :=
  List.foldlRecOn (motive := fun m => (tabGet ({} : Cell) m c).st = .off) l _ rfl fun m hm e _ => by
    by_cases hc : c = e.1
    · subst hc
      rw [tabGet_tabPut_same]
      rfl
    · rw [tabGet_tabPut_other hc]
      exact hm

/-- Ports that were down stay so as their lanes go off. -/
theorem restPorts_link_ne_up {l : Tab Port} (hl : tabSorted l = true) {p : Nat} (h : (tabGet ({} : Port) l p).link ≠ .up) :
    (tabGet ({} : Port) (restPorts l) p).link ≠ .up := by
  unfold restPorts
  rw [tabGet_foldl_tabPut hl]
  unfold tabGet at h
  cases hv : tabFind l p with
  | none => exact (by decide : ({} : Port).link ≠ .up)
  | some v =>
    rw [hv] at h
    exact h

/-- The live conditions of wakes end as the cells go off. -/
def State.endWakes (s : State) : State :=
  ((List.range 64).filter fun c => s.flt.live.contains (1024 + c, 2)).foldl (fun a c => a.endLive (1024 + c) 2) s

theorem State.endWakes_eq (s : State) : s.endWakes = { s with flt := s.endWakes.flt } :=
  List.foldlRecOn (motive := fun t : State => t = { s with flt := t.flt }) _ _ rfl fun t ht c _ => by
    have hstep : t.endLive (1024 + c) 2 = { t with flt := (t.endLive (1024 + c) 2).flt } := by ext1 <;> simp
    exact hstep.trans (by rw [ht])

/-- The links that drop as Run ends. -/
def State.dropAll (s : State) : State :=
  s.endWakes.downLinks (s.endWakes.prt.filter fun e => decide (e.2.link = .up ∨ e.2.link = .isolated))

/-- The end of Run in its parts. -/
theorem State.leaveRun_parts {s : State} {x : Trans} (hx : s.crn.trans = some x) : let t := s.dropAll
    s.leaveRun.crn = { t.crn with storeKept := x.keep } ∧ s.leaveRun.sec = t.sec ∧ s.leaveRun.tim = t.tim ∧
      s.leaveRun.flo.recs = (if x.keep then t.flo.recs else []) ∧
      s.leaveRun.prt = restPorts t.prt ∧
      s.leaveRun.cel = offCells t.cel := by
  unfold State.leaveRun State.dropAll State.endWakes State.downLinks
  rw [hx]
  dsimp only
  cases x.keep <;> exact ⟨rfl, rfl, rfl, rfl, rfl, rfl⟩

/-- Of the footing the drop of the links leaves all but FLT's live conditions and the ports. -/
theorem State.dropAll_keeps (s : State) : s.dropAll.crn = s.crn ∧ s.dropAll.sec = s.sec ∧ s.dropAll.tim = s.tim ∧
    s.dropAll.flo.recs = s.flo.recs := by
  have hfoot := State.downLinks_footing (s.endWakes.prt.filter fun e => decide (e.2.link = .up ∨ e.2.link = .isolated)) s.endWakes
  have hwakes := s.endWakes_eq
  unfold State.dropAll
  generalize State.downLinks _ s.endWakes = t at hfoot ⊢
  generalize s.endWakes = v at hfoot hwakes
  have hcrn : t.crn = v.crn := (congrArg State.crn hfoot :)
  have hsec : t.sec = v.sec := (congrArg State.sec hfoot :)
  have htim : t.tim = v.tim := (congrArg State.tim hfoot :)
  have hrecs : t.flo.recs = v.flo.recs := (congrArg (fun u : State => u.flo.recs) hfoot :)
  rw [hcrn, hsec, htim, hrecs, hwakes]
  exact ⟨rfl, rfl, rfl, rfl⟩

/-- The end of Run: every link drops and every cell is off; the flow store stays where preserve-on-warm asks for it. -/
theorem State.leaveRun_spec {s : State} {x : Trans} (hx : s.crn.trans = some x) :
    s.leaveRun.crn = { s.crn with storeKept := x.keep } ∧ s.leaveRun.sec = s.sec ∧ s.leaveRun.tim = s.tim ∧
      s.leaveRun.flo.recs = (if x.keep then s.flo.recs else []) ∧ (∀ c, (s.leaveRun.cell c).st = .off) ∧
      (tabSorted s.prt = true → ∀ p, (s.leaveRun.port p).link ≠ .up) := by
  obtain ⟨hcrn, hsec, htim, hrecs, hprt, hcel⟩ := State.leaveRun_parts hx
  obtain ⟨hdcrn, hdsec, hdtim, hdrecs⟩ := s.dropAll_keeps
  refine ⟨hcrn.trans (by rw [hdcrn]), hsec.trans hdsec, htim.trans hdtim, hrecs.trans (by rw [hdrecs]), fun c => ?_,
    fun hs p => ?_⟩
  · rw [State.cell, hcel]
    exact offCells_st _ c
  · have hsorted : tabSorted s.endWakes.prt = true := by rw [State.endWakes_eq]; exact hs
    rw [State.port, hprt]
    exact restPorts_link_ne_up (State.downLinks_sorted hsorted) (State.downLinks_not_up p s.endWakes)

/-! ## POWER_TRANSITION_DONE (03 R79) -/

/-- What Watch leaves: Cairn's marks of it, no firmware, no links, and an empty flow store. -/
theorem State.enterWatch_spec (s : State) : s.enterWatch.crn.mod = .watch ∧ s.enterWatch.crn.trans = none ∧
    s.enterWatch.crn.fwRuns = false ∧ s.enterWatch.flo.recs = [] ∧ s.enterWatch.hif.sessions = [] ∧
    s.enterWatch.sec = s.sec ∧ s.enterWatch.tim.ctr = s.tim.ctr ∧ (∀ p, (s.enterWatch.port p).link ≠ .up) ∧
    ∀ c, (s.enterWatch.cell c).st = .off := by
  refine ⟨rfl, rfl, rfl, rfl, rfl, rfl, rfl, fun p => ?_, fun c => rfl⟩
  exact (by decide : ({} : Port).link ≠ .up)

/-- A transition out of Run or to Watch is over once its drain, the commands in the cells and a commit are. -/
def State.mayLeave (s : State) : Prop := s.crn.draining = false ∧ s.settled = true ∧ s.hif.pend = false

/-- Run has ended, where the transition began there. -/
def State.leftRun (s : State) : State := if s.crn.mod = .run then s.leaveRun else s

/-- POWER_TRANSITION_DONE by the transition. -/
theorem exec_powerTransitionDone {s : State} {x : Trans} (hx : s.crn.trans = some x) : exec .powerTransitionDone s = .next
    (match x.kind with
    | .toRun => if x.phase = 3 then (s.onCrn fun c => { c with mod := .run, trans := none }).reinstall else s
    | .toStandby => if s.crn.draining || !s.settled || s.hif.pend then s
      else s.leftRun.onCrn fun c => { c with mod := .standby, trans := none, thermal := false }
    | .toWatch => if s.crn.draining || !s.settled || s.hif.pend then s else s.leftRun.enterWatch
    | _ => s) := by
  change execPowerTransitionDone s = _
  unfold execPowerTransitionDone
  rw [hx]
  dsimp only
  cases x.kind <;> rfl

/-- Run that has ended, in the parts that a transition keeps. -/
theorem State.leftRun_spec {s : State} {x : Trans} (hx : s.crn.trans = some x) : s.leftRun.sec = s.sec ∧
    s.leftRun.tim = s.tim ∧ (s.crn.mod = .run → tabSorted s.prt = true →
      (∀ p, (s.leftRun.port p).link ≠ .up) ∧ ∀ c, (s.leftRun.cell c).st = .off) ∧
    (s.crn.mod = .run → s.leftRun.crn.storeKept = x.keep ∧ (x.keep = true → s.leftRun.flo.recs = s.flo.recs)) := by
  obtain ⟨hcrn, hsec, htim, hrecs, hcel, hprt⟩ := State.leaveRun_spec hx
  unfold State.leftRun
  split
  · refine ⟨hsec, htim, fun _ hs => ⟨hprt hs, hcel⟩, fun _ => ⟨by rw [hcrn], fun hk => by rw [hrecs, hk]; rfl⟩⟩
  · rename_i hrun
    exact ⟨rfl, rfl, fun h => absurd h hrun, fun h => absurd h hrun⟩

theorem State.mayLeave.not_waits {s : State} (h : s.mayLeave) :
    ¬(s.crn.draining = true ∨ s.settled = false ∨ s.hif.pend = true) := by
  obtain ⟨hdrain, hsettled, hpend⟩ := h
  simp [hdrain, hsettled, hpend]

/-- Until then nothing happens. -/
theorem exec_powerTransitionDone_waits {s : State} {x : Trans} (hx : s.crn.trans = some x)
    (hk : x.kind = .toStandby ∨ x.kind = .toWatch) (h : ¬s.mayLeave) : exec .powerTransitionDone s = .next s := by
  have hwait : (s.crn.draining || !s.settled || s.hif.pend) = true := by
    unfold State.mayLeave at h
    grind
  rw [exec_powerTransitionDone hx]
  rcases hk with hk | hk <;> simp only [hk, if_pos hwait]

/-- Once the transition is over, its end by its kind. -/
theorem powerTransitionDone_spec {s : State} {x : Trans} (hx : s.crn.trans = some x)
    (hk : x.kind = .toStandby ∨ x.kind = .toWatch) (hmay : s.mayLeave) : ∃ t, exec .powerTransitionDone s = .next t ∧
      t.crn.mod = (if x.kind = .toStandby then .standby else .watch) ∧ t.crn.trans = none ∧
      (s.crn.mod = .run → tabSorted s.prt = true → (∀ p, (t.port p).link ≠ .up) ∧ ∀ c, (t.cell c).st = .off) ∧
      (x.kind = .toWatch → t.crn.fwRuns = false ∧ t.flo.recs = [] ∧ t.hif.sessions = []) ∧
      (x.kind = .toStandby → s.crn.mod = .run → t.crn.storeKept = x.keep ∧ (x.keep = true → t.flo.recs = s.flo.recs)) ∧
      t.sec.enrolled = s.sec.enrolled ∧ t.tim.ctr = s.tim.ctr := by
  obtain ⟨hdrain, hsettled, hpend⟩ := hmay
  obtain ⟨hsec, htim, hoff, hkept⟩ := State.leftRun_spec hx
  have hgo : ¬(s.crn.draining || !s.settled || s.hif.pend) = true := by simp [hdrain, hsettled, hpend]
  refine ⟨_, exec_powerTransitionDone hx, ?_⟩
  rcases hk with hk | hk
  · rw [hk]
    dsimp only
    rw [if_neg hgo]
    refine ⟨rfl, rfl, hoff, fun h => by contradiction, fun _ => hkept, ?_, ?_⟩
    · exact congrArg Sec.enrolled hsec
    · exact congrArg Tim.ctr htim
  · obtain ⟨hmod, htrans, hfw, hrecs, hsessions, hwsec, hwctr, hport, hcell⟩ := s.leftRun.enterWatch_spec
    rw [hk]
    dsimp only
    rw [if_neg hgo]
    exact ⟨hmod, htrans, fun _ _ => ⟨hport, hcell⟩, fun _ => ⟨hfw, hrecs, hsessions⟩, fun h => by contradiction,
      by rw [hwsec, hsec], by rw [hwctr, htim]⟩

/-! ## The end of a drain (03 R104, R105) -/

/-- A state without its flow store and its counters. -/
def State.shelved (s : State) : State := { s with flo := {}, ctr := [] }

theorem State.eq_of_shelved {s t : State} (h : t.shelved = s.shelved) : t = { s with flo := t.flo, ctr := t.ctr } :=
  congrArg (fun u : State => { u with flo := t.flo, ctr := t.ctr }) h

/-- Written-back deltas change the flow store and the counters alone. -/
theorem State.applyCoh_shelved (m : Coh) (b : Bool) (s : State) : (s.applyCoh m b).shelved = s.shelved := by
  unfold State.applyCoh
  split
  · rfl
  · split
    · cases !m.empty <;> rfl
    · rfl

theorem State.writeBack_shelved (s : State) : s.writeBack.shelved = s.shelved := by
  unfold State.writeBack
  extract_lets t u
  have ht : t.shelved = s.shelved := foldl_keeps State.shelved _ (fun a m => State.applyCoh_shelved m false a) _ s
  have hu : u.shelved = t.shelved := foldl_keeps State.shelved _
    (fun a e => foldl_keeps State.shelved _ (fun b y => State.applyCoh_shelved _ false b) _ a) _ t
  exact hu.trans ht

/-- The state in which the ridges hold nothing and the drain is over. -/
def State.drainEnded (s : State) : State := s.writeBack.onCrn fun c => { c with draining := false }

/-- A reset that waited for the drain begins, with the flow store kept. -/
def State.afterDrain (s : State) : State :=
  match s.crn.trans with
  | some x => match x.kind with
    | .reset k => s.drainEnded.applyReset k x.back true
    | _ => s.drainEnded
  | none => s.drainEnded

theorem State.afterDrain_reset {s : State} {x : Trans} {k : ResetKind} (hx : s.crn.trans = some x) (hk : x.kind = .reset k) :
    s.afterDrain = s.drainEnded.applyReset k x.back true := by
  simp only [State.afterDrain, hx, hk]

theorem State.afterDrain_other {s : State} (h : ∀ x, s.crn.trans = some x → ∀ k, x.kind ≠ .reset k) :
    s.afterDrain = s.drainEnded := by
  unfold State.afterDrain
  split
  · rename_i x hx
    split
    · rename_i k hk
      exact absurd hk (h x hx k)
    · rfl
  · rfl

theorem exec_drainComplete {s : State} (hd : s.crn.draining = true) :
    exec .drainComplete s = .next (if s.drained then s.afterDrain else s) := by
  change execDrainComplete s = _
  unfold execDrainComplete
  rw [hd, Bool.true_and]
  rfl

/-- A drain that ends changes Cairn's mark of it, the flow store and the counters. -/
theorem State.drainEnded_eq (s : State) : s.drainEnded =
    { s with crn := { s.crn with draining := false }, flo := s.drainEnded.flo, ctr := s.drainEnded.ctr } := by
  have hwrite := State.eq_of_shelved s.writeBack_shelved
  unfold State.drainEnded
  generalize s.writeBack = t at hwrite ⊢
  rw [hwrite]
  rfl

/-- The ridges hold no deltas afterwards. -/
theorem State.drainEnded_empty (s : State) : s.drainEnded.flo.cache = [] ∧ s.drainEnded.flo.coh = [] := ⟨rfl, rfl⟩

/-- The end of a drain: a reset that waited for it begins, with the flow store kept. -/
theorem drainComplete_spec {s : State} (hd : s.crn.draining = true) (hdone : s.drained = true) :
    ∃ t, exec .drainComplete s = .next t ∧ t.crn.draining = false ∧ t.flo.cache = [] ∧ t.flo.coh = [] ∧
      (∀ x k, s.crn.trans = some x → x.kind = .reset k → t.crn.trans = some { kind := .reset k, back := x.back } ∧
        t.crn.storeKept = true ∧ t.cel = [] ∧ t.prt = []) ∧
      ((∀ x, s.crn.trans = some x → ∀ k, x.kind ≠ .reset k) →
        t = { s with crn := { s.crn with draining := false }, flo := t.flo, ctr := t.ctr }) := by
  obtain ⟨hcache, hcoh⟩ := s.drainEnded_empty
  have hended := s.drainEnded_eq
  have hcrn : s.drainEnded.crn.draining = false := rfl
  refine ⟨_, (exec_drainComplete hd).trans (congrArg _ (if_pos hdone)), ?_⟩
  by_cases hreset : ∃ x k, s.crn.trans = some x ∧ x.kind = .reset k
  · obtain ⟨x, k, hx, hk⟩ := hreset
    rw [State.afterDrain_reset hx hk, State.applyReset_eq]
    refine ⟨rfl, State.resetDomains_cache (!k.whole) true _, State.resetDomains_coh (!k.whole) true _, fun y l hy hl => ?_,
      fun hno => absurd hk (hno x hx k)⟩
    obtain rfl := Option.some.inj (hx.symm.trans hy)
    obtain rfl : k = l := TransKind.reset.inj (hk.symm.trans hl)
    exact ⟨rfl, rfl, State.resetDomains_cel (!k.whole) true s.drainEnded, State.resetDomains_prt (!k.whole) true s.drainEnded⟩
  · rw [State.afterDrain_other fun x hx k hk => hreset ⟨x, k, hx, hk⟩]
    exact ⟨hcrn, hcache, hcoh, fun x k hx hk => absurd ⟨x, k, hx, hk⟩ hreset, fun _ => hended⟩

/-! ## WATCH_WAKE (03 R80) -/

theorem exec_watchWake {s : State} (hm : s.crn.mod = .watch) (ht : s.crn.trans = none) (hw : s.crn.wakeTime ≠ 0)
    (hn : s.crn.wakeTime ≤ s.now) : exec .watchWake s = .next
      ((s.onCrn fun c => { c with wakeTime := 0 }).applyReset .watchExit s.crn.afterWatch false) := by
  change execWatchWake s = _
  exact congrArg _ (if_pos ⟨hm, ht, hw, hn⟩)

/-- Settles O51, a step at a time. -/
theorem powerTransitions : Obligations.PowerTransitions := by
  unfold Obligations.PowerTransitions
  refine ⟨?boot, ?trained, ?resetDone, ?runEntry, ?transitionDone, ?watchWake, ?drain⟩
  case boot =>
    intro s x hx hk a ok trial p okP boots
    have htrial : trial ↔ s.bootsTrial x.kind = true := (State.bootsTrial_iff hx).symm
    by_cases hwait : x.phase ≠ 0 ∨ s.crn.held = true ∨ s.crn.draining = true
    · refine ⟨s, (exec_bootImageVerified hx hk).trans (congrArg _ (if_pos hwait)), fun _ => rfl, fun hp hh hd => ?_⟩
      simp [hp, hh, hd] at hwait
    · have hgo := hwait
      simp only [not_or, not_not, Bool.not_eq_true] at hgo
      obtain ⟨hphase, hheld, hdrain⟩ := hgo
      obtain ⟨t, hexec, hnew, hfailed, hactive, hother, hnone⟩ := bootImageVerified_spec hx hk hphase hheld hdrain
      refine ⟨t, hexec, fun h => absurd h hwait, fun _ _ _ => ⟨fun ht hb => ?_, fun ht => hfailed (htrial.mp ht),
        fun ht => hactive (mt htrial.mpr ht), fun ht => hother (mt htrial.mpr ht), hnone⟩⟩
      obtain ⟨hboots, hmark⟩ := hnew (htrial.mp ht) hb
      exact ⟨hboots, hmark.trans ht.1⟩
  case trained =>
    intro s x hx hp
    rw [exec_stacksTrained hx hp]
    exact ⟨fun hcold => congrArg _ (if_pos hcold), fun hwarm => congrArg _ ((if_neg hwarm).trans (State.phase_eq hx 2))⟩
  case resetDone =>
    intro s x k hx hk hp
    obtain ⟨t, hexec, heq, hmod, hrun, hstay, hstg, himg, hprt⟩ := resetDone_spec hx hk hp
    obtain ⟨-, hoff, hon⟩ := s.restoreJ_spec
    rw [← hstg, ← himg, ← hprt] at hoff hon
    exact ⟨t, hexec, heq, hmod, hrun, hstay, hoff, hon⟩
  case runEntry =>
    intro s x hx hk hp
    exact ⟨fun hlock => (exec_runEntryCommit hx hk hp).trans (congrArg _ (if_neg hlock)), runEntryCommit_spec hx hk hp⟩
  case transitionDone =>
    intro s x hx
    by_cases hk : x.kind = .toStandby ∨ x.kind = .toWatch
    · have hrun : x.kind ≠ .toRun := by rcases hk with hk | hk <;> simp [hk]
      by_cases hmay : s.mayLeave
      · obtain ⟨t, hexec, hspec⟩ := powerTransitionDone_spec hx hk hmay
        exact ⟨t, hexec, fun h => absurd h hrun, fun _ hwait => absurd hwait hmay.not_waits, fun _ _ _ _ => hspec⟩
      · exact ⟨s, exec_powerTransitionDone_waits hx hk hmay, fun h => absurd h hrun, fun _ _ => rfl,
          fun _ hd hs hp => absurd ⟨hd, hs, hp⟩ hmay⟩
    · refine ⟨_, exec_powerTransitionDone hx, fun hrun hp => ?_, fun h => absurd h hk, fun h => absurd h hk⟩
      rw [hrun]
      dsimp only
      rw [if_pos hp, State.reinstall_crn]
      rfl
  case watchWake =>
    intro s hm ht hw hn
    refine ⟨_, exec_watchWake hm ht hw hn, ?_⟩
    rw [State.applyReset_eq]
    exact ⟨rfl, rfl, rfl, rfl, rfl⟩
  case drain =>
    intro s hd
    exact ⟨fun hbusy => (exec_drainComplete hd).trans (congrArg _ (if_neg (by simp [hbusy]))), drainComplete_spec hd⟩

end Sys2Proof.Machine
end

section
/-!
PROOF of ResetLeaves (O3), InvariantsHoldAtReset (O59), MailboxStatusOrder (O4) and SessionLevelIsPinned (O6): the state right
after reset, the common checks of a command, and the sessions.
-/

namespace Sys2Proof.Machine

open Sys2Proof

/-! ## Reset (04 R120, R134, R137) -/

/-- Settles O3: the state right after reset holds what each register's Reset column says, and a pair, a ring or a counter that no
table lists reads its default. -/
theorem resetLeaves : Obligations.ResetLeaves := by
  unfold Obligations.ResetLeaves
  exact ⟨rfl, rfl, rfl, rfl, rfl, rfl, rfl, fun _ => ⟨rfl, rfl⟩, fun _ => ⟨rfl, rfl⟩, rfl, rfl, rfl, rfl, rfl, rfl, rfl, fun _ _ _ => rfl⟩

/-- CURRENT is 1 at reset (04 R137). -/
theorem State.reset_epochSound : State.reset.EpochSound := by
  unfold State.EpochSound; decide

/-- Every table is empty at reset. -/
theorem State.reset_canonical : State.reset.Canonical where
  ports := rfl
  cells := rfl
  counters := rfl
  cur := rfl
  prev := rfl
  staged := rfl
  imm := rfl
  journal := ⟨List.Pairwise.nil, fun _ h => absurd h List.not_mem_nil⟩

/-- Settles O59: the three invariants, each from the state right after reset; Unpowered leaves nothing for `PowerSound` to check but
what reset clears. -/
theorem invariantsHoldAtReset : Obligations.InvariantsHoldAtReset := by
  unfold Obligations.InvariantsHoldAtReset
  exact ⟨State.reset_epochSound, fun _ => ⟨rfl, rfl, rfl, rfl, rfl, rfl, rfl⟩, State.reset_canonical⟩

/-! ## The order of the common checks (04 R123) -/

/-- The common checks as conditions, in the order of 04 R123. -/
theorem State.preStatus_eq (s : State) (q : Req) (k : Chk) : s.preStatus q k =
    if k.opens = false ∧ s.sessionOpen q = false then stAuth
    else if q.malformed = true ∨ k.bad = true ∨ (k.opens = true ∧ q.session ≠ 0) ∨ k.wrongSize q = true then stInvalid
    else if k.bl = true then stBl
    else if k.locks = true ∧ s.flt.fatal ≠ 0 then stLocked
    else if q.epoch ≠ 0 ∧ q.epoch ≠ s.hif.epoch then stStale
    else if k.busy = true then stBusy
    else stOk := by
  unfold State.preStatus
  simp only [Bool.and_eq_true, Bool.not_eq_true', Bool.or_eq_true, decide_eq_true_eq, or_assoc]

/-- Settles O4: the order is that of `preStatus`. -/
theorem mailboxStatusOrder : Obligations.MailboxStatusOrder := by
  unfold Obligations.MailboxStatusOrder
  intro op r q s chk run h answers k auth bad locked stale
  have hanswers {st : Nat} (hpre : s.preStatus q k = st) (hst : st ≠ stOk) : answers st := by
    subst hpre
    exact mailbox_status h hst
  rw [State.preStatus_eq] at hanswers
  refine ⟨fun ha => ?auth, fun ha hb => ?invalid, fun ha hb hl => ?bl, fun ha hb hl hk => ?locked,
    fun ha hb hl hk he => ?stale, fun ha hb hl hk he hy => ?busy, fun ha hb hl hk he hy => ?ok⟩
  case auth => exact hanswers (if_pos ha) (by decide)
  case invalid => exact hanswers (by rw [if_neg ha, if_pos hb]) (by decide)
  case bl => exact hanswers (by rw [if_neg ha, if_neg hb, if_pos hl]) (by decide)
  case locked => exact hanswers (by rw [if_neg ha, if_neg hb, if_neg (by simp [hl]), if_pos hk]) (by decide)
  case stale => exact hanswers (by rw [if_neg ha, if_neg hb, if_neg (by simp [hl]), if_neg hk, if_pos he]) (by decide)
  case busy =>
    exact hanswers (by rw [if_neg ha, if_neg hb, if_neg (by simp [hl]), if_neg hk, if_neg he, if_pos hy]) (by decide)
  case ok =>
    have hpre : s.preStatus q k = stOk := by
      rw [State.preStatus_eq, if_neg ha, if_neg hb, if_neg (by simp [hl]), if_neg hk, if_neg he, if_neg (by simp [hy])]
    simp [mailbox, h, k, hpre]

/-- Of the common checks only those of the command's own definition are left to a well-formed SESSION_OPEN, which names no session. -/
theorem preStatus_opens {s : State} {q : Req} {k : Chk} (ho : k.opens = true) (hm : q.malformed = false) (hs : q.session = 0)
    (hz : k.wrongSize q = false) (hk : k.locks = false) (hy : k.busy = false) (hp : q.epoch = 0 ∨ q.epoch = s.hif.epoch) :
    s.preStatus q k = if k.bad then stInvalid else if k.bl then stBl else stOk := by
  have hstale : ¬(q.epoch ≠ 0 ∧ q.epoch ≠ s.hif.epoch) := by
    rintro ⟨h0, hne⟩; exact hp.elim h0 hne
  unfold State.preStatus
  rw [if_neg hstale, ho, hm, hs, hz, hk, hy]
  simp only [Bool.not_true, Bool.false_and, Bool.false_or, Bool.or_false, Bool.false_eq_true, if_false, ne_eq, not_true, and_false,
    decide_false]

/-- The answer of a well-formed command that opens a session. -/
theorem mailbox_opens {op : Nat} {r q : Req} {s : State} {chk : Req → Chk} {run : Req → Ans} (h : s.request op r = some q)
    (ho : (chk q).opens = true) (hm : q.malformed = false) (hs : q.session = 0) (hz : (chk q).wrongSize q = false)
    (hk : (chk q).locks = false) (hy : (chk q).busy = false) (hp : q.epoch = 0 ∨ q.epoch = s.hif.epoch) :
    mailbox op r s chk run = .next (if (chk q).bad then s.respond op q stInvalid []
      else if (chk q).bl then s.respond op q stBl [] else s.finish op q (run q)) := by
  unfold mailbox
  rw [h]
  dsimp only
  rw [preStatus_opens ho hm hs hz hk hy hp]
  cases (chk q).bad <;> cases (chk q).bl <;> rfl

/-! ## SESSION_OPEN (04 R135) -/

/-- Room for another session on the transport of a request. -/
def State.sessionRoom (s : State) (q : Req) : Prop :=
  match q.via with | .remote _ => s.remoteSessions < 4 | _ => s.localSessions < 8

/-- A session of a level opens for a request. -/
def State.openedSession (q : Req) (l : Nat) (s : State) : State :=
  s.onHif fun h => { h with
    sessions := h.sessions ++ [{ id := h.nextSession, channel := match q.via with | .remote c => some c | _ => none }]
    nextSession := h.nextSession + 1, blPinned := l }

/-- What SESSION_OPEN itself answers at a level. -/
def State.openAns (s : State) (q : Req) (l : Nat) : Ans :=
  if (s.hif.blPinned ≠ 0 ∧ s.hif.blPinned ≠ l) ∨ (s.img.policy.requiredBl ≠ 0 ∧ s.img.policy.requiredBl ≠ l) then
    { status := stRefused, st := s }
  else if (match q.via with | .remote _ => decide (4 ≤ s.remoteSessions) | _ => decide (8 ≤ s.localSessions)) then
    { status := stNoSpace, st := s }
  else
    { words := [wd s.hif.nextSession, wd (l + s.hif.blLow * 2 ^ 8 + s.hif.blHigh * 2 ^ 16), wd s.hif.fwVersion, wd s.hif.epoch] ++
        two Config.macBase.toNat
      st := s.openedSession q l }

theorem exec_sessionOpen {s : State} {r q : Req} (h : s.request 0x0001 r = some q) (hm : q.malformed = false) (hs : q.session = 0)
    (hf : q.f 4 31 8 = 0) (he : q.ExtSize 1) (hp : q.epoch = 0 ∨ q.epoch = s.hif.epoch) :
    exec (.sessionOpen r) s = .next (if q.f 4 7 0 = 0 then s.respond 0x0001 q stInvalid []
      else if q.f 4 7 0 < s.hif.blLow ∨ s.hif.blHigh < q.f 4 7 0 then s.respond 0x0001 q stBl []
      else s.finish 0x0001 q (s.openAns q (q.f 4 7 0))) := by
  have hsize (k : Chk) (hz : k.size = none) (hx : k.ext = some 1) : k.wrongSize q = false := by
    cases hext : q.extCmd
    · simp [Chk.wrongSize, hz, hext]
    · simp [Chk.wrongSize, hz, hx, hext, he hext]
  refine (mailbox_opens h rfl hm hs (hsize _ rfl rfl) rfl rfl hp).trans ?_
  simp only [Req.rsv, List.any_cons, List.any_nil, hf, bne_self_eq_false, Bool.false_or, beq_iff_eq, decide_eq_true_eq]
  rfl

/-- A level that is not the pinned one, or not the one that the policy requires, is refused. -/
theorem State.openAns_refused {s : State} {q : Req} {l : Nat}
    (h : ¬((s.hif.blPinned = 0 ∨ s.hif.blPinned = l) ∧ (s.img.policy.requiredBl = 0 ∨ s.img.policy.requiredBl = l))) :
    s.openAns q l = { status := stRefused, st := s } := if_pos (by tauto)

theorem State.openAns_full {s : State} {q : Req} {l : Nat} (hpin : s.hif.blPinned = 0 ∨ s.hif.blPinned = l)
    (hpol : s.img.policy.requiredBl = 0 ∨ s.img.policy.requiredBl = l) (h : ¬s.sessionRoom q) :
    s.openAns q l = { status := stNoSpace, st := s } := by
  unfold State.sessionRoom at h
  rw [State.openAns, if_neg (by tauto), if_pos]
  cases hv : q.via <;> rw [hv] at h <;> simpa using h

/-- In every other case the session opens. -/
theorem State.openAns_opens {s : State} {q : Req} {l : Nat} (hpin : s.hif.blPinned = 0 ∨ s.hif.blPinned = l)
    (hpol : s.img.policy.requiredBl = 0 ∨ s.img.policy.requiredBl = l) (h : s.sessionRoom q) :
    s.openAns q l = {
      words := [wd s.hif.nextSession, wd (l + s.hif.blLow * 2 ^ 8 + s.hif.blHigh * 2 ^ 16), wd s.hif.fwVersion, wd s.hif.epoch] ++
        two Config.macBase.toNat
      st := s.openedSession q l } := by
  unfold State.sessionRoom at h
  rw [State.openAns, if_neg (by tauto), if_neg]
  cases hv : q.via <;> rw [hv] at h <;> simpa using h

/-! ## SESSION_CLOSE (04 R136) -/

/-- The sessions that are named close, and the pin lapses with the last one. -/
theorem State.closeSessions_spec (p : Session → Bool) (s : State) :
    let t := s.closeSessions p
    t.hif.sessions = s.hif.sessions.filter (fun e => !p e) ∧ (t.hif.sessions = [] → t.hif.blPinned = 0) ∧
      (t.hif.sessions ≠ [] → t.hif.blPinned = s.hif.blPinned) :=
  ⟨rfl, fun h => if_pos h, fun h => if_neg h⟩

/-- Settles O6: what SESSION_OPEN answers in each case, and what its success and SESSION_CLOSE change. -/
theorem sessionLevelIsPinned : Obligations.SessionLevelIsPinned := by
  unfold Obligations.SessionLevelIsPinned
  refine ⟨?opens, fun s p => s.closeSessions_spec p, ?closes⟩
  case opens =>
    intro s r q h hm hs hf he hp hroom l pinOk polOk free answers
    have hexec := exec_sessionOpen h hm hs hf he hp
    have hin (h0 : l ≠ 0) (hlo : s.hif.blLow ≤ l) (hhi : l ≤ s.hif.blHigh) :
        exec (.sessionOpen r) s = .next (s.finish 0x0001 q (s.openAns q l)) := by
      rw [hexec, if_neg h0, if_neg (by omega)]
    refine ⟨fun h0 => ?_, fun h0 hl => ?_, fun h0 hlo hhi hno => ?_, fun h0 hlo hhi hpin hpol hfull => ?_,
      fun h0 hlo hhi hpin hpol hfree => ?_⟩
    · exact hexec.trans (by rw [if_pos h0])
    · exact hexec.trans (by rw [if_neg h0, if_pos hl])
    · exact (hin h0 hlo hhi).trans (by rw [State.openAns_refused hno, State.finish_no (by decide) (by decide)])
    · exact (hin h0 hlo hhi).trans (by rw [State.openAns_full hpin hpol hfull, State.finish_no (by decide) (by decide)])
    · have hopen : exec (.sessionOpen r) s = .next ((s.openedSession q l).respond 0x0001 q stOk
          ([wd s.hif.nextSession, wd (l + s.hif.blLow * 2 ^ 8 + s.hif.blHigh * 2 ^ 16), wd s.hif.fwVersion, wd s.hif.epoch] ++
            two Config.macBase.toNat)) := by
        rw [hin h0 hlo hhi, State.openAns_opens hpin hpol hfree]
        exact congrArg _ (State.finish_done (.inl rfl) rfl rfl hroom)
      exact ⟨_, _, hopen, rfl, rfl, ⟨_, rfl, rfl, rfl, rfl⟩, rfl, rfl, rfl, rfl⟩
  case closes =>
    intro s r q h he
    obtain ⟨hsessions, hlast, hrest⟩ := s.closeSessions_spec fun e => e.id == q.session
    refine ⟨s.closeSessions fun e => e.id == q.session, ?_, rfl, hsessions, hlast, hrest⟩
    refine (mailbox_accepted h rfl rfl (by simp) (by simpa using he) (by simp) rfl).trans ?_
    exact congrArg _ (State.finish_ok (s := s) (op := 0x0002) (q := q))

end Sys2Proof.Machine
end

section
/-!
PROOF of ResponseGoesBack (O5) and MailboxTransports (O8): what signals and host writes leave, the response on each transport (04
R126 to R131), and how the boot mailbox and the ring pairs take messages (04 R120, R126 to R128).
-/

namespace Sys2Proof.Machine

open Sys2Proof

/-! ## Signals and host writes (04 R113, R121) -/

/-- Of the host interface a vector changes the pending bits of MSI-X alone. -/
theorem State.sendVector_hif (v : Nat) (s : State) :
    (s.sendVector v).hif = { s.hif with msixPend := (s.sendVector v).hif.msixPend } := by
  unfold State.sendVector; (repeat' split) <;> rfl

/-- A vector sends at most its message. -/
theorem State.sendVector_out (v : Nat) (s : State) : (s.sendVector v).out = s.out ∨ (s.sendVector v).out = s.out ++ [.msix v] := by
  unfold State.sendVector
  split
  · split
    · exact .inl rfl
    · exact .inr rfl
  · exact .inl rfl

/-- What has left the module stays sent. -/
theorem State.mem_sendVector_out {v : Nat} {s : State} {o : Out} (h : o ∈ s.out) : o ∈ (s.sendVector v).out := by
  rcases s.sendVector_out v with hout | hout <;> rw [hout]
  · exact h
  · exact List.mem_append_left _ h

/-- HIF_IRQ_STATUS gets the bit, and nothing else of the host interface changes but the pending bits of MSI-X. -/
theorem State.irq_hif (n : Nat) (s : State) :
    (s.irq n).hif = { s.hif with irq := s.hif.irq ||| BitVec.ofNat 5 (2 ^ n), msixPend := (s.irq n).hif.msixPend } := by
  unfold State.irq
  dsimp only
  split
  · exact State.sendVector_hif 0 _
  · rfl

/-- An interrupt of HIF_IRQ_STATUS goes out on vector 0. -/
theorem State.irq_out (n : Nat) (s : State) : (s.irq n).out = s.out ∨ (s.irq n).out = s.out ++ [.msix 0] := by
  unfold State.irq
  dsimp only
  split
  · exact State.sendVector_out 0 _
  · exact .inl rfl

/-- The bit of an interrupt is set. -/
theorem State.irq_getLsbD {n : Nat} (h : n < 5) (s : State) : (s.irq n).hif.irq.getLsbD n = true := by
  rw [State.irq_hif, BitVec.getLsbD_or, BitVec.getLsbD_ofNat, Nat.testBit_two_pow]
  simp [h]

@[simp] theorem State.sendVector_pair (v m : Nat) (s : State) : (s.sendVector v).pair m = s.pair m := by
  unfold State.pair; rw [State.sendVector_hif]

@[simp] theorem State.irq_pair (n m : Nat) (s : State) : (s.irq n).pair m = s.pair m := by
  unfold State.pair; rw [State.irq_hif]

@[simp] theorem State.pair_onPair_same (n : Nat) (f : MbxPair → MbxPair) (s : State) : (s.onPair n f).pair n = f (s.pair n) :=
  tabGet_tabMod_same ..

theorem State.pair_onPair_other {m n : Nat} (h : m ≠ n) (f : MbxPair → MbxPair) (s : State) : (s.onPair n f).pair m = s.pair m :=
  tabGet_tabMod_other h ..

/-- The pairs are part of the host interface. -/
theorem State.pair_of_hif {s t : State} (h : t.hif = s.hif) (n : Nat) : t.pair n = s.pair n := by
  unfold State.pair; rw [h]

/-- While the link is up a host write leaves the module. -/
theorem State.hostWrite_out {s : State} (h : s.crn.pcieUp = true) (a : Nat) (d : List Word) :
    (s.hostWrite a d).out = s.out ++ [.hostWrite a d] := by
  simp [State.hostWrite, h, State.emit]

/-- Counting a response sends nothing. -/
@[simp] theorem State.onIf_countDone_out (b : Bool) (s : State) : (s.onIf b State.countDone).out = s.out :=
  State.onIf_keeps (·.out) _ _ _ (by simp [State.countDone])

/-! ## The boot mailbox (04 R126) -/

/-- Words put from a place on leave the registers below it. -/
theorem tabGet_putWords_below {b i : Nat} (h : i < b) (l : List Word) (t : Tab Word) : tabGet 0 (putWords b l t) i = tabGet 0 t i := by
  induction l generalizing b t with
  | nil => rfl
  | cons w l ih => rw [putWords, ih (by omega), tabGet_tabPut_other (by omega)]

/-- Words put from a place on are found there. -/
theorem tabGet_putWords {b i : Nat} (l : List Word) (t : Tab Word) (h : i < l.length) :
    tabGet 0 (putWords b l t) (b + i) = wordAt l i := by
  induction l generalizing b i t with
  | nil => simp at h
  | cons w l ih =>
    rw [putWords]
    cases i with
    | zero => rw [tabGet_putWords_below (by omega)]; exact tabGet_tabPut_same ..
    | succ i =>
      rw [show b + (i + 1) = (b + 1) + i by omega, ih _ (by simpa using h)]; rfl

theorem State.respond_boot {r : Req} (h : r.via = .boot) (op st : Nat) (ws : List Word) (s : State) :
    let t := s.respond op r st ws
    let m := responseWords op r st s.hif.epoch false ws
    t.hif.bmbDone = true ∧ t.hif.bmbBusy = false ∧ t.hif.irq.getLsbD 0 = true ∧
      ∀ i, i < m.length → tabGet 0 t.hif.bmbRsp i = wordAt m i := by
  have hresp : s.respond op r st ws = ((s.onIf (s.answersNow r) State.countDone).onHif fun h =>
      { h with bmbRsp := putWords 0 (responseWords op r st h.epoch false ws) h.bmbRsp, bmbDone := true, bmbBusy := false }).irq 0 := by
    unfold State.respond; rw [h]
  dsimp only
  rw [hresp]
  refine ⟨by rw [State.irq_hif]; rfl, by rw [State.irq_hif]; rfl, State.irq_getLsbD (by decide) _, fun i hi => ?_⟩
  rw [State.irq_hif, State.onHif_hif, State.onIf_countDone_hif]
  simpa using tabGet_putWords (b := 0) _ s.hif.bmbRsp hi

/-! ## The ring pairs (04 R127 to R129) -/

/-- A response that is written frees its pair. -/
theorem State.writeResponse_pair (n : Nat) (e : HeldRsp) (s : State) :
    (s.writeResponse n e).pair n = { s.pair n with exec := none, held := none, rspStall := false } := by
  unfold State.writeResponse
  dsimp only
  rw [State.pair_onPair_same]
  rw [State.sendVector_pair, State.pair_of_hif (State.hostWrite_hif ..), State.onIf_keeps (·.pair n) _ _ _ (by simp [State.pair])]

/-- While the link is up the response goes to its slot, after its payload where EXT_RSP sends that elsewhere. -/
theorem State.writeResponse_out {s : State} (h : s.crn.pcieUp = true) (n : Nat) (e : HeldRsp) :
    .hostWrite ((s.pair n).rspBase + 256 * e.slot) (responseWords e.op e.req e.status s.hif.epoch true e.words) ∈
        (s.writeResponse n e).out ∧
      (e.req.extRsp = true → e.status ≠ 6 → e.words ≠ [] → .hostWrite e.req.rspAddr e.words ∈ (s.writeResponse n e).out) := by
  unfold State.writeResponse
  dsimp only
  have hup (b : Bool) : (s.onIf b fun a => a.hostWrite e.req.rspAddr e.words).crn.pcieUp = true :=
    (State.onIf_keeps (·.crn.pcieUp) _ _ _ (by simp)).trans h
  rw [State.onPair_out]
  refine ⟨State.mem_sendVector_out ?_, fun hext hst hws => State.mem_sendVector_out ?_⟩
  · rw [State.hostWrite_out (hup _)]
    simp
  · rw [State.hostWrite_out (hup _)]
    simp [hext, hst, hws, State.onIf, State.hostWrite_out h]

theorem State.respond_ring {r : Req} {n : Fin 8} {e : Nat} {s : State} (h : r.via = .ring n) (he : (s.pair n).exec = some e)
    (hown : r.rspOwn = false) (op st : Nat) (ws : List Word) : s.respond op r st ws =
      (s.onIf (s.answersNow r) State.countDone).writeResponse n { slot := e, op := op, req := r, status := st, words := ws } := by
  have hexec : ((s.onIf (s.answersNow r) State.countDone).pair n).exec = some e :=
    (congrArg _ (State.pair_of_hif (State.onIf_countDone_hif _ s) n)).trans he
  unfold State.respond
  simp only [h, hexec, hown, Bool.false_eq_true, if_false]

theorem State.respond_ring_held {r : Req} {n : Fin 8} {e : Nat} {s : State} (h : r.via = .ring n) (he : (s.pair n).exec = some e)
    (hown : r.rspOwn = true) (op st : Nat) (ws : List Word) : s.respond op r st ws =
      ((s.onPair n fun g =>
        { g with exec := none, held := some { slot := e, op := op, req := r, status := st, words := ws }, rspStall := true }).irq 4).raise
          { src := 1146, reason := 2, cls := 0, detail := n } := by
  have hnow : s.answersNow r = false := by simp [State.answersNow, h, hown]
  unfold State.respond
  simp only [h, hnow, State.onIf, Bool.false_eq_true, if_false, he, hown, if_true]

/-! ## The remote channels (04 R130) -/

theorem State.respond_remote_out {r : Req} {c : Nat} {h : Channel} {s : State} (hv : r.via = .remote c)
    (hc : s.hif.channels.find? (fun h => h.id == c) = some h) (op st : Nat) (ws : List Word) :
    (s.respond op r st ws).out = s.out ++ [.datagram c (h.seal (responseWords op r st s.hif.epoch false ws))] := by
  unfold State.respond
  simp only [hv, State.onIf_countDone_hif, hc]
  simp [State.emit]

/-- Settles O5: each transport's response, from what its writes and signals leave. -/
theorem responseGoesBack : Obligations.ResponseGoesBack := by
  unfold Obligations.ResponseGoesBack
  intro op r st ws s t m
  have hhif : (s.onIf (s.answersNow r) State.countDone).hif = s.hif := State.onIf_countDone_hif _ s
  refine ⟨s.respond_same op r st ws, fun h => State.respond_boot h op st ws s, fun n e h he hown => ?written,
    fun n e h he hown => ?held, fun c h hv hc => State.respond_remote_out hv hc op st ws⟩
  case written =>
    have ht : t = _ := State.respond_ring h he hown op st ws
    refine ⟨by rw [ht, State.writeResponse_pair], by rw [ht, State.writeResponse_pair], fun hup => ?_⟩
    have hout := State.writeResponse_out (s := s.onIf (s.answersNow r) State.countDone) (by simpa using hup) n
      { slot := e, op := op, req := r, status := st, words := ws }
    rw [State.pair_of_hif hhif, hhif, ← ht] at hout
    exact hout
  case held =>
    have ht : t = _ := State.respond_ring_held h he hown op st ws
    have hpair : t.pair n =
        { s.pair n with exec := none, held := some { slot := e, op := op, req := r, status := st, words := ws }, rspStall := true } := by
      rw [ht, State.pair_of_hif (State.raise_hif ..), State.irq_pair, State.pair_onPair_same]
    refine ⟨?_, by rw [hpair], ?_, by rw [hpair]; exact Option.some_ne_none _, by rw [hpair]⟩
    · rw [ht, State.raise_out]; exact State.irq_out 4 _
    · rw [ht, State.raise_hif]; exact State.irq_getLsbD (by decide) _

/-! ## The transports of the host (04 R120, R126 to R128) -/

/-- Bits [30:0] of a word as a word of their own. -/
theorem wd_fld_30_0 (w : Word) : wd (fld w 30 0) = w &&& 0x7FFFFFFF := by
  apply BitVec.eq_of_toNat_eq
  rw [wd, BitVec.toNat_ofNat, BitVec.toNat_and, show (0x7FFFFFFF : Word).toNat = 2 ^ 31 - 1 from rfl, Nat.and_two_pow_sub_one_eq_mod,
    fld, nfld]
  omega

/-- The access that a doorbell or a write of the control register is, as a result. -/
theorem exec_access_hif {s : State} (h : s.hostAccess = true) (off : Nat) (f : State → State) (P : State → Prop)
    (hP : ∀ p, P (f { s with pmu := p })) : ∃ t : State, (Host.Outcome.next (s.access off f) : Res) = .next t ∧ P t :=
  ⟨_, congrArg Host.Outcome.next (State.access_runs h), hP _⟩

/-- GO takes the command words while the mailbox is ready and not busy. -/
theorem bootMailboxGo_spec {s : State} (h : s.hostAccess = true) :
    ∃ t, exec .bootMailboxGo s = .next t ∧ t = { s with pmu := t.pmu, hif := t.hif } ∧
      (s.hif.ready = true → s.hif.bmbBusy = false → t.hif.bmbBusy = true ∧ t.hif.bmbDone = false ∧
        t.hif.bmbMsg = (List.range 64).map fun i => tabGet 0 s.hif.bmbCmd i) ∧
      (s.hif.ready = false ∨ s.hif.bmbBusy = true → t.hif = s.hif) := by
  refine exec_access_hif h 0x80 _ _ fun p => ?_
  dsimp only
  split
  next hgo =>
    obtain ⟨hready, hidle⟩ := Bool.and_eq_true_iff.mp hgo
    refine ⟨rfl, fun _ _ => ⟨rfl, rfl, rfl⟩, fun hno => ?_⟩
    simp [hready, Bool.not_eq_eq_eq_not.mp hidle] at hno
  next hgo =>
    refine ⟨rfl, fun hready hidle => absurd ?_ hgo, fun _ => rfl⟩
    simp [hready, hidle]

/-- An owned slot at POS is taken: OWN is cleared in host memory and POS advances. -/
theorem State.takeCommand_spec {s : State} {n : Nat} {head : Word} (hup : s.crn.pcieUp = true) (hready : s.hif.ready = true)
    (hen : (s.pair n).enable = true) (hexec : (s.pair n).exec = none) (hstall : (s.pair n).rspStall = false)
    (hown : head.getLsbD 31 = true) :
    let t := s.takeCommand n head
    t = { s with hif := t.hif, out := t.out } ∧
      t.out = s.out ++ [.hostWrite ((s.pair n).cmdBase + 256 * (s.pair n).pos) [head &&& 0x7FFFFFFF]] ∧
      (t.pair n).exec = some (s.pair n).pos ∧ (t.pair n).pos = ((s.pair n).pos + 1) % 2 ^ (s.pair n).log2size ∧
      ∀ m, m ≠ n → t.pair m = s.pair m := by
  have ht : s.takeCommand n head =
      (s.emit (.hostWrite ((s.pair n).cmdBase + 256 * (s.pair n).pos) [head &&& 0x7FFFFFFF])).onPair n fun g =>
        { g with exec := some g.pos, takenAt := s.now, pos := (g.pos + 1) % 2 ^ g.log2size } := by
    have hown' : bit head 31 = true := hown
    unfold State.takeCommand
    simp only [hready, hen, hexec, hstall, hown', Option.isNone_none, Bool.not_false, Bool.and_self, if_true, State.hostWrite, hup,
      wd_fld_30_0]
  dsimp only
  rw [ht]
  exact ⟨rfl, rfl, congrArg MbxPair.exec (State.pair_onPair_same ..), congrArg MbxPair.pos (State.pair_onPair_same ..),
    fun m hm => State.pair_onPair_other hm ..⟩

/-- A doorbell of a pair whose response is held examines its slot, any other one its next command. -/
theorem exec_mailboxDoorbell {s : State} (h : s.hostAccess = true) (n : Fin 8) (head : Word) :
    ∃ p, exec (.mailboxDoorbell n head) s = .next (if (s.pair n).rspStall then
      (match (s.pair n).held with
        | some e => if bit head 31 then { s with pmu := p } else ({ s with pmu := p } : State).countDone.writeResponse n e
        | none => { s with pmu := p })
      else ({ s with pmu := p } : State).takeCommand n head) :=
  ⟨_, congrArg Host.Outcome.next (State.access_runs h)⟩

/-- Once the host has cleared OWN of its slot, the held response is written. -/
theorem mailboxDoorbell_writes {s : State} (h : s.hostAccess = true) {n : Fin 8} {head : Word} (hstall : (s.pair n).rspStall = true)
    (hown : head.getLsbD 31 = false) : ∃ t, exec (.mailboxDoorbell n head) s = .next t ∧ ∀ e, (s.pair n).held = some e →
      Out.hostWrite ((s.pair n).rspBase + 256 * e.slot) (responseWords e.op e.req e.status s.hif.epoch true e.words) ∈ t.out ∧
        (t.pair n).rspStall = false ∧ (t.pair n).held = none ∧ (t.pair n).exec = none := by
  obtain ⟨p, hexec⟩ := exec_mailboxDoorbell h n head
  refine ⟨_, hexec, fun e he => ?_⟩
  have hown' : bit head 31 = false := hown
  rw [if_pos hstall, he]
  simp only [hown', Bool.false_eq_true, if_false]
  have hhif : ({ s with pmu := p } : State).countDone.hif = s.hif := by simp [State.countDone]
  have hout := (State.writeResponse_out (s := ({ s with pmu := p } : State).countDone)
    (by simpa [State.countDone, State.hostAccess] using h) n e).1
  rw [State.pair_of_hif hhif, hhif] at hout
  rw [State.writeResponse_pair]
  exact ⟨hout, rfl, rfl, rfl⟩

/-- A taken command, by a doorbell or by the module's own look at the slot. -/
theorem mailboxTake_spec {s : State} {n : Fin 8} {head : Word} (hfw : s.crn.fwRuns = true) (hup : s.crn.pcieUp = true)
    (hready : s.hif.ready = true) (hen : (s.pair n).enable = true) (hexec : (s.pair n).exec = none)
    (hstall : (s.pair n).rspStall = false) (hown : head.getLsbD 31 = true) :
    ∀ i ∈ [Instr.mailboxCommandTake n head, Instr.mailboxDoorbell n head],
      ∃ t, exec i s = .next t ∧ t = { s with pmu := t.pmu, hif := t.hif, out := t.out } ∧
        t.out = s.out ++ [.hostWrite ((s.pair n).cmdBase + 256 * (s.pair n).pos) [head &&& 0x7FFFFFFF]] ∧
        (t.pair n).exec = some (s.pair n).pos ∧ (t.pair n).pos = ((s.pair n).pos + 1) % 2 ^ (s.pair n).log2size ∧
        ∀ m, m ≠ n.val → t.pair m = s.pair m := by
  have htake (p : Pmu) := State.takeCommand_spec (s := { s with pmu := p }) hup hready hen hexec hstall hown
  intro i hi
  simp only [List.mem_cons, List.not_mem_nil, or_false] at hi
  rcases hi with rfl | rfl
  · obtain ⟨heq, hrest⟩ := htake s.pmu
    refine ⟨s.takeCommand n head, ?_, ?_, hrest⟩
    · exact congrArg Host.Outcome.next (if_pos (by simp [hfw, hup]))
    · exact heq.trans (by rw [heq])
  · obtain ⟨p, hdo⟩ := exec_mailboxDoorbell hup n head
    obtain ⟨heq, hrest⟩ := htake p
    refine ⟨_, hdo.trans (congrArg Host.Outcome.next (if_neg (by simp [hstall]))), ?_, hrest⟩
    exact heq.trans (by rw [heq])

/-- A write of a pair's control register (04 R120). -/
def MbxPair.control (v : Word) (g : MbxPair) : MbxPair :=
  let size := if g.enable ∨ !g.idle then g.log2size else fld v 7 4
  let h := { g with vector := fld v 13 8, log2size := size }
  if g.enable then { h with enable := bit v 0 }
  else if !bit v 0 then h
  else if inRange size 4 12 then { h with enable := true, idle := false, enaRefused := false, pos := 0 }
  else { h with enaRefused := true }

/-- VECTOR is written; what the control register does not name stays. -/
theorem MbxPair.control_keeps (v : Word) (g : MbxPair) : (g.control v).vector = fld v 13 8 ∧ (g.control v).cmdBase = g.cmdBase ∧
    (g.control v).rspBase = g.rspBase ∧ (g.control v).exec = g.exec ∧ (g.control v).held = g.held ∧
    (g.control v).log2size = if g.enable = true ∨ g.idle = false then g.log2size else fld v 7 4 := by
  unfold MbxPair.control
  simp only [Bool.not_eq_true']
  (repeat' split) <;> simp_all

/-- An accepted enable starts at POS 0; one of another size is refused. -/
theorem MbxPair.control_enable (v : Word) (g : MbxPair) :
    (v.getLsbD 0 = false → (g.control v).enable = false) ∧
    (g.enable = false → g.idle = true → v.getLsbD 0 = true → 4 ≤ fld v 7 4 → fld v 7 4 ≤ 12 →
      (g.control v).enable = true ∧ (g.control v).idle = false ∧ (g.control v).enaRefused = false ∧ (g.control v).pos = 0) ∧
    (g.enable = false → g.idle = true → v.getLsbD 0 = true → (fld v 7 4 < 4 ∨ 12 < fld v 7 4) →
      (g.control v).enable = false ∧ (g.control v).enaRefused = true ∧ (g.control v).pos = g.pos) := by
  unfold MbxPair.control
  refine ⟨fun hv => ?_, fun hg hi hv hlo hhi => ?_, fun hg hi hv hsize => ?_⟩
  · have hoff : bit v 0 = false := hv
    cases g.enable <;> simp [hoff]
  · have hon : bit v 0 = true := hv
    simp [hg, hi, hon, inRange, hlo, hhi]
  · have hout : inRange (fld v 7 4) 4 12 = false := by simp [inRange]; omega
    have hon : bit v 0 = true := hv
    simp [hg, hi, hon, hout]

theorem mbxCtrlWrite_spec {s : State} (h : s.hostAccess = true) (n : Fin 8) (v : Word) :
    ∃ t, exec (.mbxCtrlWrite n v) s = .next t ∧ t = { s with pmu := t.pmu, hif := t.hif } ∧
      (∀ m, m ≠ n.val → t.pair m = s.pair m) ∧ t.pair n = (s.pair n).control v := by
  refine exec_access_hif h (0x1010 + 0x40 * n.val) _ _ fun p => ⟨rfl, fun m hm => State.pair_onPair_other hm _ _, ?_⟩
  exact State.pair_onPair_same ..

/-- A disabled pair with no work is idle. -/
theorem mbxIdle_spec {s : State} {n : Fin 8} (hen : (s.pair n).enable = false) (hexec : (s.pair n).exec = none)
    (hstall : (s.pair n).rspStall = false) : ∃ t, exec (.mbxIdle n) s = .next t ∧ t = { s with hif := t.hif } ∧
      t.pair n = { s.pair n with idle := true } ∧ ∀ m, m ≠ n.val → t.pair m = s.pair m := by
  refine ⟨_, congrArg Host.Outcome.next (if_pos ?_), rfl, State.pair_onPair_same .., fun m hm => State.pair_onPair_other hm _ _⟩
  simp [hen, hexec, hstall]

/-- Settles O8: GO, the taking of a slot, the held response, the idle pair, and the control register. -/
theorem mailboxTransports : Obligations.MailboxTransports := by
  unfold Obligations.MailboxTransports
  refine ⟨⟨fun s h => bootMailboxGo_spec h, fun s n head hfw hup hready hen hexec hstall hown =>
    mailboxTake_spec hfw hup hready hen hexec hstall hown, fun s n head h hstall => ⟨fun hown => ?_, mailboxDoorbell_writes h hstall⟩,
    fun s n hen hexec hstall => mbxIdle_spec hen hexec hstall⟩, fun s n v h => ?_⟩
  · obtain ⟨p, hexec⟩ := exec_mailboxDoorbell h n head
    have hown' : bit head 31 = true := hown
    refine ⟨{ s with pmu := p }, hexec.trans (congrArg Host.Outcome.next ?_), rfl⟩
    rw [if_pos hstall]
    cases (s.pair n).held with
    | none => rfl
    | some e => exact if_pos hown'
  · obtain ⟨t, hexec, heq, hother, hpair⟩ := mbxCtrlWrite_spec h n v
    obtain ⟨hvec, hcmd, hrsp, hrun, hheld, hsize⟩ := (s.pair n).control_keeps v
    refine ⟨t, hexec, heq, hother, ?_⟩
    rw [hpair, hsize]
    exact ⟨hvec, hcmd, hrsp, hrun, hheld, fun hbusy => if_pos hbusy, fun hg hi => if_neg (by simp [hg, hi]),
      (s.pair n).control_enable v⟩

end Sys2Proof.Machine
end

section
/-!
PROOF of Bar0AndBoard (O9): reads and writes of BAR0 (04 R115 to R121), the I2C target (02 R62 to R65), and the frames of the
management ports (04 R133).
-/

namespace Sys2Proof.Machine

open Sys2Proof

/-! ## Reads that latch (04 R116) -/

/-- Entries of distinct keys that are written one after another are all found. -/
theorem tabFind_foldl_tabIns_mem {α : Type} {l : List Nat} {key : Nat → Nat} (hkey : Function.Injective key) (f : Nat → α) {o : Nat}
    (h : o ∈ l) (t : Tab α) : tabFind (l.foldl (fun t o => tabIns (key o) (f o) t) t) (key o) = some (f o) := by
  have hkept (l : List Nat) (t : Tab α) (ht : tabFind t (key o) = some (f o)) :
      tabFind (l.foldl (fun t o => tabIns (key o) (f o) t) t) (key o) = some (f o) := by
    induction l generalizing t with
    | nil => exact ht
    | cons x l ih =>
      refine ih _ ?_
      by_cases hx : x = o
      · subst hx; exact tabFind_tabIns_same ..
      · rw [tabFind_tabIns_other fun heq => hx (hkey heq.symm), ht]
  induction l generalizing t with
  | nil => simp at h
  | cons x l ih =>
    rcases List.mem_cons.mp h with rfl | hmem
    · exact hkept l _ (tabFind_tabIns_same ..)
    · exact ih hmem _

/-- What a read of a master returns and latches. -/
theorem exec_loReadLatch {s : State} (h : s.hostAccess = true) (m off : Nat) :
    ∃ p, exec (.loReadLatch m off) s = .next ((({ s with pmu := p } : State).onHif fun h => { h with
      latch := (highOf off).foldl (fun t o => tabIns (m * 2 ^ 22 + o) (({ s with pmu := p } : State).bar0Read o) t)
        (tabDel (m * 2 ^ 22 + off) h.latch) }).emit
          (.barRead m off ((tabFind s.hif.latch (m * 2 ^ 22 + off)).getD (({ s with pmu := p } : State).bar0Read off)))) :=
  ⟨_, congrArg Host.Outcome.next (State.access_runs h)⟩

theorem loReadLatch_latches {s : State} (h : s.hostAccess = true) {m off : Nat}
    (hnone : tabFind s.hif.latch (m * 2 ^ 22 + off) = none) :
    ∃ t, exec (.loReadLatch m off) s = .next t ∧ t = { s with pmu := t.pmu, hif := t.hif, out := t.out } ∧
      ∃ p, t.out = s.out ++ [.barRead m off (({ s with pmu := p } : State).bar0Read off)] ∧
        ∀ o ∈ highOf off, tabFind t.hif.latch (m * 2 ^ 22 + o) = some (({ s with pmu := p } : State).bar0Read o) := by
  obtain ⟨p, hexec⟩ := exec_loReadLatch h m off
  rw [hnone] at hexec
  exact ⟨_, hexec, rfl, p, rfl, fun o ho => tabFind_foldl_tabIns_mem (fun a b hab => by omega) _ ho _⟩

theorem loReadLatch_returns {s : State} (h : s.hostAccess = true) {m off : Nat} {v : Word}
    (hsome : tabFind s.hif.latch (m * 2 ^ 22 + off) = some v) (hhigh : highOf off = []) :
    ∃ t, exec (.loReadLatch m off) s = .next t ∧ t.out = s.out ++ [.barRead m off v] ∧
      tabFind t.hif.latch (m * 2 ^ 22 + off) = none := by
  obtain ⟨p, hexec⟩ := exec_loReadLatch h m off
  rw [hsome, hhigh] at hexec
  exact ⟨_, hexec, rfl, tabFind_tabDel_same ..⟩

/-! ## Writes (04 R117, R120, R121) -/

theorem State.bar0Write_irq (v : Word) (s : State) :
    s.bar0Write 0x20 v = s.onHif fun h => { h with irq := h.irq &&& ~~~ BitVec.ofNat 5 v.toNat } := rfl

theorem irqWrite_spec {s : State} (h : s.hostAccess = true) (v : Word) :
    ∃ t, exec (.registerWrite 0x20 v) s = .next t ∧ t = { s with pmu := t.pmu, hif := t.hif } ∧
      t.hif = { s.hif with irq := t.hif.irq } ∧ ∀ n, n < 5 → t.hif.irq.getLsbD n = (s.hif.irq.getLsbD n && !v.getLsbD n) := by
  refine exec_access_hif h 0x20 _ _ fun p => ?_
  rw [State.bar0Write_irq]
  refine ⟨rfl, rfl, fun n hn => ?_⟩
  rw [State.onHif_hif, BitVec.getLsbD_and, BitVec.getLsbD_not, BitVec.getLsbD_ofNat]
  simp only [hn, decide_true, Bool.true_and]
  rfl

/-- A write of the low word of a ring pair's command base. -/
theorem State.bar0Write_cmdBase (n : Fin 8) (v : Word) (s : State) : s.bar0Write (0x1000 + 0x40 * n) v =
    if (s.pair n).enable = true ∨ (s.pair n).idle = false then s
    else s.onPair n fun g => { g with cmdBase := setBits g.cmdBase 31 0 (v.toNat / 4096 * 4096) } := by
  have hn := n.isLt
  have hoff : (0x1000 + 0x40 * n.val - 0x1000) / 0x40 = n.val := by omega
  have hreg : (0x1000 + 0x40 * n.val - 0x1000) % 0x40 / 4 = 0 := by omega
  unfold State.bar0Write
  rw [if_neg (by omega), if_neg (by omega), if_neg (by omega), if_neg (by omega), if_pos (by omega)]
  unfold State.writeMbxBase
  rw [hoff, hreg]
  simp only [Bool.not_eq_true']

theorem setBits_31_0 (b v : Nat) (h : v < 2 ^ 32) : setBits b 31 0 v = b / 2 ^ 32 * 2 ^ 32 + v := by
  unfold setBits nfld
  omega

theorem cmdBaseWrite_spec {s : State} (h : s.hostAccess = true) (n : Fin 8) (v : Word) :
    ∃ t, exec (.registerWrite (0x1000 + 0x40 * n) v) s = .next t ∧ t = { s with pmu := t.pmu, hif := t.hif } ∧
      (((s.pair n).enable = true ∨ (s.pair n).idle = false) → t.hif = s.hif) ∧
      ((s.pair n).enable = false → (s.pair n).idle = true →
        (t.pair n).cmdBase = (s.pair n).cmdBase / 2 ^ 32 * 2 ^ 32 + v.toNat / 4096 * 4096) := by
  refine exec_access_hif h (0x1000 + 0x40 * n) _ _ fun p => ?_
  have hpair : (({ s with pmu := p } : State).pair n) = s.pair n := rfl
  rw [State.bar0Write_cmdBase, hpair]
  split
  next hbusy => exact ⟨rfl, fun _ => rfl, fun hen hidle => absurd hbusy (by simp [hen, hidle])⟩
  next hfree =>
    refine ⟨rfl, fun hbusy => absurd hbusy hfree, fun _ _ => ?_⟩
    rw [State.pair_onPair_same]
    exact setBits_31_0 _ _ (by have := v.isLt; omega)

/-! ## Reserved space (00 R9; 16 R538) -/

/-- Nothing defines an offset at 0x100000 and above. -/
theorem State.bar0Read_reserved {off : Nat} (h : 0x100000 ≤ off) (s : State) : s.bar0Read off = 0 := by
  have hpmu : pmuWindow off = none := by
    unfold pmuWindow
    rw [if_neg (by omega), if_neg (by omega), if_neg (by omega), if_neg (by omega)]
  unfold State.bar0Read
  rw [hpmu, if_neg (by omega : ¬off < 0x10000), if_neg (by omega : ¬off < 0x20000), if_neg (by omega : ¬off < 0x30000),
    if_neg (by omega : ¬off < 0x40000), if_neg (by omega : ¬off < 0x50000)]
  exact ite_self _

/-- An informational event of a source that Cairn does not hold sets EVT while the FLT block runs, and is lost otherwise. -/
theorem State.raise_info {e : Ev} (hcls : e.cls = 0) (hsrc : cairnSource e.src = false) (s : State) :
    (s.fltRuns = true → (s.raise e).flt.evt = s.flt.evt ||| srcMask e.src) ∧ (s.fltRuns = false → (s.raise e).flt = s.flt) ∧
      (s.raise e).flt.flt = s.flt.flt ∧ (s.raise e).flt.fatal = s.flt.fatal := by
  have hseen : s.eventSeen e.src = s.fltRuns := by simp [State.eventSeen, hsrc]
  unfold State.raise
  rw [hseen]
  split
  next hrun =>
    refine ⟨fun _ => rfl, fun h => by simp [hrun] at h, ?_, ?_⟩
    · exact if_neg (by omega)
    · exact if_neg (by omega)
  next hrun => exact ⟨fun h => absurd h hrun, fun _ => rfl, rfl, rfl⟩

theorem reservedWrite_spec {s : State} (h : s.hostAccess = true) {off : Nat} (hlo : 0x100000 ≤ off) (hhi : off ≤ 0x3FFFFF)
    (v : Word) : ∃ t, exec (.reservedBar0Write off v) s = .next t ∧ t = { s with pmu := t.pmu, flt := t.flt } ∧
      (s.fltRuns = true → t.flt.evt = s.flt.evt ||| srcMask 1146) ∧ (s.fltRuns = false → t.flt = s.flt) ∧ t.flt.flt = s.flt.flt ∧
      t.flt.fatal = s.flt.fatal := by
  have hin : inRange off 0x100000 0x3FFFFF = true := by simp [inRange, hlo, hhi]
  refine exec_access_hif h off _ _ fun p => ?_
  rw [if_pos hin]
  exact ⟨by rw [State.raise_eq], State.raise_info rfl (show cairnSource 1146 = false by decide) { s with pmu := p }⟩

/-! ## I2C (02 R62 to R65) -/

theorem i2cRead_other {s : State} {dev : Nat} (h : dev ≠ 0x3C + s.sup.i2cAddr) (off n : Nat) (input : InputSeen) :
    exec (.i2cRead dev off n input) s = .next s :=
  congrArg Host.Outcome.next (if_neg (by simp [h]))

/-- The answering byte at an offset. -/
def State.crnByte (s : State) (a : Nat) : Byte := BitVec.ofNat 8 ((s.crnWord (a / 4 * 4)).toNat / 256 ^ (a % 4))

theorem i2cRead_answers {s : State} (hrun : s.cairnRuns = true) (hmeas : s.sup.measured = true) (off n : Nat) (input : InputSeen) :
    ∃ t d, exec (.i2cRead (0x3C + s.sup.i2cAddr) off n input) s = .next t ∧
      t = { s with sup := { s.sup with vin := input.vin % 65536, iin := input.iin % 65536, pin := input.pin % 65536 }
                   out := s.out ++ [.i2c d] } ∧ d.length = n ∧
      ∀ i, i < n → d.getD i 0 =
        BitVec.ofNat 8 ((t.crnWord ((off + i) % 65536 / 4 * 4)).toNat / 256 ^ ((off + i) % 65536 % 4)) := by
  let u := s.onSup fun u => { u with vin := input.vin % 65536, iin := input.iin % 65536, pin := input.pin % 65536 }
  refine ⟨u.emit (.i2c ((List.range n).map fun i => u.crnByte ((off + i) % 65536))), _,
    congrArg Host.Outcome.next (if_pos (by simp [hrun, hmeas])), rfl, by simp, fun i hi => ?_⟩
  rw [List.getD_eq_getElem _ _ (by simpa using hi), List.getElem_map, List.getElem_range]
  rfl

/-! ## Management ports (04 R133) -/

/-- A unicast frame for another address is discarded. -/
theorem mgmtFrame_other {s : State} (hfw : s.crn.fwRuns = true) {m : Fin 2} {data : List Byte} (hdst : data.take 6 ≠ State.mgmtMac m)
    (huni : beAt data 0 1 % 2 = 0) : exec (.mgmtFrame m data) s = .next s.discard := by
  change execMgmtFrame m data s = _
  unfold execMgmtFrame
  rw [if_neg (by simp [hfw])]
  dsimp only
  rw [if_pos]
  simp [hdst, huni]

/-- An ARP request for an address of port m, as its Ethernet payload. -/
def arpRequest (asker a rest : List Byte) : List Byte := [0, 1, 8, 0, 6, 4, 0, 1] ++ asker ++ List.replicate 6 0 ++ a ++ rest

/-- The port answers an ARP request for its own address. -/
theorem State.mgmtAnswer_arp {s : State} {m : Nat} {a : List Byte} (hv4 : s.mgmtV4 m = some a) {asker : List Byte}
    (hasker : asker.length = 10) (ha : a.length = 4) (src rest : List Byte) (hop : Byte) :
    s.mgmtAnswer m src 0x0806 (arpRequest asker a rest) hop =
      some (src, [0, 1, 8, 0, 6, 4, 0, 2] ++ State.mgmtMac m ++ a ++ asker) := by
  have hlen : 28 ≤ (arpRequest asker a rest).length := by simp [arpRequest, hasker, ha]; omega
  have hhead : ((arpRequest asker a rest).drop 0).take 8 = [0, 1, 8, 0, 6, 4, 0, 1] := by simp [arpRequest]
  have htarget : ((arpRequest asker a rest).drop 24).take 4 = a := by
    simp [arpRequest, List.drop_append, List.take_append, hasker, ha]
  have hasker1 : ((arpRequest asker a rest).drop 8).take 6 = asker.take 6 := by
    simp [arpRequest, List.take_append, hasker]
  have hasker2 : ((arpRequest asker a rest).drop 14).take 4 = asker.drop 6 := by
    simp [arpRequest, List.drop_append, hasker]
  unfold State.mgmtAnswer
  simp only [if_true, hv4]
  rw [hhead, htarget, hasker1, hasker2, if_neg (by simp; omega)]
  simp

/-- A field that lies behind a prefix. -/
theorem beAt_append_right (l r : List Byte) (k n : Nat) : beAt (l ++ r) (l.length + k) n = beAt r k n := by
  unfold beAt
  congr 1
  funext a i
  rw [Nat.add_assoc, List.getD_append_right _ _ _ _ (Nat.le_add_right ..), Nat.add_sub_cancel_left]

/-- What a port answers to an untagged frame to its own address, without a VLAN of its own. -/
theorem exec_mgmtFrame_answers {s : State} (hfw : s.crn.fwRuns = true) {m : Fin 2} (hvlan : fld (s.mgmtWord m 0) 27 16 = 0)
    {src p to_ q : List Byte} (hsrc : src.length = 6) (h : ∀ hop, s.mgmtAnswer m src 0x0806 p hop = some (to_, q)) :
    exec (.mgmtFrame m (State.mgmtMac m ++ src ++ [8, 6] ++ p)) s =
      .next (s.drawNat.2.emit (.mgmtFrame m (to_ ++ State.mgmtMac m ++ [8, 6] ++ q))) := by
  have hmac : (State.mgmtMac m).length = 6 := by simp [State.mgmtMac, beBytes]
  have hhead : (State.mgmtMac m ++ src).length = 12 := by simp [hmac, hsrc]
  have hdst : (State.mgmtMac m ++ src ++ [8, 6] ++ p).take 6 = State.mgmtMac m := by simp [hmac]
  have hfrom : ((State.mgmtMac m ++ src ++ [8, 6] ++ p).drop 6).take 6 = src := by simp [hmac, hsrc]
  have hrest : (State.mgmtMac m ++ src ++ [8, 6] ++ p).drop 12 = [8, 6] ++ p := by
    rw [List.append_assoc, ← hhead, List.drop_left]
  have hpay : (State.mgmtMac m ++ src ++ [8, 6] ++ p).drop 14 = p := by
    rw [show 14 = 12 + 2 from rfl, ← List.drop_drop, hrest]; rfl
  have hty : beAt (State.mgmtMac m ++ src ++ [8, 6] ++ p) 12 2 = 0x0806 := by
    rw [List.append_assoc, show 12 = (State.mgmtMac m ++ src).length + 0 by omega, beAt_append_right]
    simp [beAt, List.range_succ]
  have htag : ((0x0806 : Nat) == 0x8100) = false := rfl
  have hremote : s.mgmtRemote m 0x0806 p = false := by simp [State.mgmtRemote]
  change execMgmtFrame m _ s = _
  unfold execMgmtFrame
  rw [if_neg (by simp [hfw])]
  simp only [hty, hvlan, hdst, hfrom, htag, Bool.false_eq_true, if_false, if_true, Nat.reduceSub, hpay, hremote, h, hrest,
    decide_true, Bool.true_or, Bool.not_true, Bool.not_false, Bool.or_self]
  rfl

theorem mgmtFrame_arp {s : State} (hfw : s.crn.fwRuns = true) {m : Fin 2} (hvlan : fld (s.mgmtWord m 0) 27 16 = 0)
    {a src asker : List Byte} (hv4 : s.mgmtV4 m = some a) (hsrc : src.length = 6) (hasker : asker.length = 10) (ha : a.length = 4)
    (rest : List Byte) : ∃ t, exec (.mgmtFrame m (State.mgmtMac m ++ src ++ [8, 6] ++ [0, 1, 8, 0, 6, 4, 0, 1] ++ asker ++
        List.replicate 6 0 ++ a ++ rest)) s = .next t ∧ t = { s with out := t.out, draw := t.draw } ∧
      t.out = s.out ++ [.mgmtFrame m (src ++ State.mgmtMac m ++ [8, 6] ++ ([0, 1, 8, 0, 6, 4, 0, 2] ++ State.mgmtMac m ++ a ++ asker))] := by
  have hdata : State.mgmtMac m ++ src ++ [8, 6] ++ [0, 1, 8, 0, 6, 4, 0, 1] ++ asker ++ List.replicate 6 0 ++ a ++ rest =
      State.mgmtMac m ++ src ++ [8, 6] ++ arpRequest asker a rest := by simp only [arpRequest, List.append_assoc]
  rw [hdata]
  exact ⟨_, exec_mgmtFrame_answers hfw hvlan hsrc fun hop => State.mgmtAnswer_arp hv4 hasker ha src rest hop, rfl, rfl⟩

/-- Settles O9: the reads that latch, the writes of registers and of reserved space, I2C and the management ports. -/
theorem bar0AndBoard : Obligations.Bar0AndBoard := by
  unfold Obligations.Bar0AndBoard
  refine ⟨⟨fun s m off h hnone => loReadLatch_latches h hnone, fun s m off v h hsome hhigh => loReadLatch_returns h hsome hhigh,
    fun s v h => irqWrite_spec h v, fun s n v h => cmdBaseWrite_spec h n v,
    fun s off v h hlo hhi => ⟨State.bar0Read_reserved hlo s, reservedWrite_spec h hlo hhi v⟩⟩,
    fun s dev off n input hrun hmeas => ⟨fun hdev => i2cRead_other hdev off n input, fun hdev => ?_⟩,
    fun s m data hfw hdst huni => mgmtFrame_other hfw hdst huni,
    fun s m src a asker rest hfw hvlan hv4 hsrc hasker ha => mgmtFrame_arp hfw hvlan hv4 hsrc hasker ha rest⟩
  rw [hdev]
  exact i2cRead_answers hrun hmeas off n input

end Sys2Proof.Machine
end

section
/-!
PROOF of RemoteSessions (O47): the datagrams of a channel (04 R130, R131), its lapse (04 R132), and key agreement (15 R524, R525).
-/

namespace Sys2Proof.Machine

open Sys2Proof

/-! ## Discards (04 R131; 16 R538) -/

/-- An informational event that a core raises while firmware runs sets EVT. -/
theorem State.raiseByCore_evt {e : Ev} {s : State} (h : s.crn.fwRuns = true) :
    (s.raiseByCore e).flt.evt = s.flt.evt ||| srcMask e.src := by
  have hseen : s.drawNat.2.eventSeen e.src = true := by simp [State.eventSeen, State.fltRuns, State.drawNat, h]
  unfold State.raiseByCore State.raise
  exact congrArg (fun t : State => t.flt.evt) (if_pos hseen)

/-- What is discarded is counted and raises the event of a source, and nothing else changes but a free value drawn. -/
theorem State.discard_raise {s : State} (h : s.crn.fwRuns = true) (e : Ev) :
    let t := s.discard.raiseByCore e
    t = { s with hif := { s.hif with discards := min (2 ^ 32 - 1) (s.hif.discards + 1) }, flt := t.flt, draw := t.draw } ∧
      t.flt.evt = s.flt.evt ||| srcMask e.src := by
  refine ⟨?_, State.raiseByCore_evt (s := s.discard) h⟩
  rw [State.raiseByCore_eq]
  rfl

/-- Datagrams of a channel, and messages of an agreement that is not pending or not formed. -/
theorem State.discardDatagram_spec {s : State} (h : s.crn.fwRuns = true) :
    let t := s.discardDatagram
    t = { s with hif := { s.hif with discards := min (2 ^ 32 - 1) (s.hif.discards + 1) }, flt := t.flt, draw := t.draw } ∧
      t.flt.evt = s.flt.evt ||| srcMask 1147 :=
  State.discard_raise h { src := 1147, reason := 1, cls := 0 }

/-! ## Datagrams (04 R130, R131) -/

/-- What the channel of a datagram has once its message is accepted: it executes at once or waits. -/
def Channel.accept (s : State) (seq : Nat) (m : List Word) (x : Channel) : Channel :=
  { x with
    high := max x.high seq, lastAt := s.upNs
    kept := keepLast (((seq, none) :: x.kept).filter fun e => decide (max x.high seq ≤ e.1 + 64))
    exec := if x.exec = none then some seq else x.exec
    takenAt := if x.exec = none then s.now else x.takenAt
    msg := if x.exec = none then m else x.msg
    waiting := if x.exec = none then x.waiting else x.waiting ++ [(seq, m)] }

/-- The first channel of a number after an update of the channels of that number that keeps it. -/
theorem find_updWhere_channel {ch : Nat} {f : Channel → Channel} (hf : ∀ x, (f x).id = x.id) {c : Channel} {l : List Channel}
    (h : l.find? (fun x => x.id == ch) = some c) : (updWhere (fun x => x.id == ch) f l).find? (fun x => x.id == ch) = some (f c) := by
  have hid : (fun x : Channel => x.id == ch) ∘ (fun x => if (x.id == ch) = true then f x else x) = fun x => x.id == ch := by
    funext x
    rw [Function.comp_apply, apply_ite Channel.id, hf, ite_self]
  have hc : (c.id == ch) = true := List.find?_some (p := fun x : Channel => x.id == ch) h
  rw [updWhere, List.find?_map, hid, h, Option.map_some, if_pos hc]

section
variable {s : State} {data : List Word} (hfw : s.crn.fwRuns = true)
include hfw

theorem exec_remoteDatagram_noChannel (hc : s.hif.channels.find? (fun c => c.id == (wordAt data 1).toNat) = none) :
    exec (.remoteDatagram data) s = .next s.discardDatagram := by
  change execRemoteDatagram data s = _
  unfold execRemoteDatagram
  simp only [hfw, Bool.not_true, Bool.false_eq_true, if_false, hc]

variable {c : Channel} (hc : s.hif.channels.find? (fun c => c.id == (wordAt data 1).toNat) = some c)
include hc

theorem exec_remoteDatagram_form (hform : fld (wordAt data 0) 15 0 ≠ 0x201) :
    exec (.remoteDatagram data) s = .next s.discardDatagram := by
  change execRemoteDatagram data s = _
  unfold execRemoteDatagram
  simp only [hfw, Bool.not_true, Bool.false_eq_true, if_false, hc]
  rw [if_pos hform]

variable (hform : fld (wordAt data 0) 15 0 = 0x201)
include hform

theorem exec_remoteDatagram_sealed
    (hopen : gcmOpen c.keyIn (join (wordAt data 2) (wordAt data 3)) false (data.take 4) ((data.drop 4).take (data.length - 8))
      (data.drop (data.length - 4)) = none) : exec (.remoteDatagram data) s = .next s.discardDatagram := by
  change execRemoteDatagram data s = _
  unfold execRemoteDatagram
  simp only [hfw, Bool.not_true, Bool.false_eq_true, if_false, hc, hform, ne_eq, not_true, hopen]

variable {m : List Word}
  (hopen : gcmOpen c.keyIn (join (wordAt data 2) (wordAt data 3)) false (data.take 4) ((data.drop 4).take (data.length - 8))
    (data.drop (data.length - 4)) = some m)
include hopen

theorem exec_remoteDatagram_old (hold : join (wordAt data 2) (wordAt data 3) + 64 < c.high) :
    exec (.remoteDatagram data) s = .next s.discardDatagram := by
  change execRemoteDatagram data s = _
  unfold execRemoteDatagram
  simp only [hfw, Bool.not_true, Bool.false_eq_true, if_false, hc, hform, ne_eq, not_true, hopen]
  rw [if_pos hold]

variable (hseq : c.high ≤ join (wordAt data 2) (wordAt data 3) + 64)
include hseq

theorem exec_remoteDatagram_answered {d : List Word} {n : Nat}
    (hkept : c.kept.find? (fun e => e.1 == join (wordAt data 2) (wordAt data 3)) = some (n, some d)) :
    exec (.remoteDatagram data) s = .next (s.emit (.datagram c.id d)) := by
  change execRemoteDatagram data s = _
  unfold execRemoteDatagram
  simp only [hfw, Bool.not_true, Bool.false_eq_true, if_false, hc, hform, ne_eq, not_true, hopen]
  rw [if_neg (by omega), hkept]

theorem exec_remoteDatagram_repeated {n : Nat}
    (hkept : c.kept.find? (fun e => e.1 == join (wordAt data 2) (wordAt data 3)) = some (n, none)) :
    exec (.remoteDatagram data) s = .next s := by
  change execRemoteDatagram data s = _
  unfold execRemoteDatagram
  simp only [hfw, Bool.not_true, Bool.false_eq_true, if_false, hc, hform, ne_eq, not_true, hopen]
  rw [if_neg (by omega), hkept]

theorem exec_remoteDatagram_accepted (hkept : c.kept.find? (fun e => e.1 == join (wordAt data 2) (wordAt data 3)) = none) :
    exec (.remoteDatagram data) s = .next (s.onHif fun h => { h with
      channels := updWhere (fun x => x.id == c.id) (Channel.accept s (join (wordAt data 2) (wordAt data 3)) m) h.channels }) := by
  change execRemoteDatagram data s = _
  unfold execRemoteDatagram
  simp only [hfw, Bool.not_true, Bool.false_eq_true, if_false, hc, hform, ne_eq, not_true, hopen]
  rw [if_neg (by omega), hkept]
  rfl

end

/-! ## The lapse of a channel (04 R132) -/

theorem State.passed_secs (t n : Nat) (s : State) : s.passed t (secs n) = true ↔ t + n * 10 ^ 9 ≤ s.upNs := decide_eq_true_iff

/-- The channels named close, and with each the sessions on its number. -/
theorem State.closeChannels_spec (p : Channel → Bool) (s : State) :
    s.closeChannels p = { s with hif := (s.closeChannels p).hif } ∧
    (∀ c, c ∈ (s.closeChannels p).hif.channels ↔ c ∈ s.hif.channels ∧ ¬p c = true) ∧
    ∀ e, e ∈ (s.closeChannels p).hif.sessions ↔
      e ∈ s.hif.sessions ∧ ∀ c ∈ s.hif.channels, e.channel = some c.id → ¬p c = true := by
  refine ⟨rfl, fun c => by simp [State.closeChannels, State.closeSessions], fun e => ?_⟩
  change e ∈ List.filter _ _ ↔ _
  rw [List.mem_filter]
  refine and_congr_right fun _ => ?_
  obtain ⟨id, channel, nonce⟩ := e
  cases channel with
  | none => simp
  | some k =>
    simp only [Bool.not_eq_true', List.contains_eq_mem, List.mem_map, List.mem_filter, decide_eq_false_iff_not, not_exists, not_and,
      Option.some.injEq]
    exact ⟨fun h c hc hk hp => h c ⟨hc, hp⟩ hk.symm, fun h c hc hk => h c hc.1 hk.symm hc.2⟩

/-! ## Key agreement (15 R524, R525) -/

/-- Drawing words changes the count of draws alone. -/
theorem State.drawWords_eq (n : Nat) (s : State) : (State.drawWords n s).2 = { s with draw := (State.drawWords n s).2.draw } := by
  ext1 <;> simp

/-- As many words are drawn as asked for. -/
@[simp] theorem State.length_drawWords (n : Nat) (s : State) : (State.drawWords n s).1.length = n := by
  induction n generalizing s with
  | zero => rfl
  | succ n ih => exact congrArg (· + 1) (ih _)

/-- The agreement that an INIT begins, with the module's part of it. -/
def State.offer (data : List Word) (s : State) : Agreement :=
  let n := State.drawWords 8 s
  let e := n.2.drawNat
  let init := data.drop 4
  let body := [2] ++ n.1 ++ (ephemeralPub e.1).toList
  { id := s.hif.nextChannel, ephemeral := e.1, hostKey := (init.drop 9).take 24, salt := (init.drop 1).take 8 ++ n.1, init := init
    resp := body ++ (idSign (sha384 (wordsToBytes (init ++ body)))).toList, at_ := s.upNs }

/-- An INIT that is answered. -/
def State.InitGood (s : State) (src data : List Word) : Prop :=
  src ∈ s.img.policy.owners ∧ data.length = 37 ∧ data.take 4 = [0x101, 0, 0, 0] ∧ fld (wordAt data 4) 7 0 = 1 ∧ s.hif.channels.length < 4

theorem exec_keyAgreementInit_discards {s : State} (hfw : s.crn.fwRuns = true) {src data : List Word} (h : ¬s.InitGood src data) :
    exec (.keyAgreementInit src data) s = .next s.discard.refuseAgreement := by
  change execKeyAgreementInit src data s = _
  unfold execKeyAgreementInit
  simp only [hfw, Bool.not_true, Bool.false_eq_true, if_false]
  rw [if_pos]
  simp only [Bool.or_eq_true, Bool.not_eq_true', List.contains_eq_mem, decide_eq_true_eq, decide_eq_false_iff_not]
  unfold State.InitGood at h
  by_contra hno
  exact h ⟨by tauto, by tauto, by tauto, by tauto, by omega⟩

theorem exec_keyAgreementInit {s : State} (hfw : s.crn.fwRuns = true) {src data : List Word} (h : s.InitGood src data) :
    exec (.keyAgreementInit src data) s = .next (((State.drawWords 8 s).2.drawNat.2.onHif fun h => { h with
      nextChannel := h.nextChannel + 1
      agreements :=
        let live := h.agreements.filter fun x => !s.passed x.at_ (secs 2)
        live.drop (live.length - 3) ++ [s.offer data] }).emit
      (.datagram s.hif.nextChannel ([0x101, wd s.hif.nextChannel, 0, 0] ++ (s.offer data).resp))) := by
  obtain ⟨hsrc, hlen, hhead, hkind, hroom⟩ := h
  change execKeyAgreementInit src data s = _
  unfold execKeyAgreementInit
  simp only [hfw, Bool.not_true, Bool.false_eq_true, if_false]
  rw [if_neg]
  · rfl
  · simp [hsrc, hlen, hhead, hkind, hroom]

/-- The module's part of an agreement: KIND 2, its salt, its ephemeral key, and its signature over the transcript. -/
theorem State.offer_resp (data : List Word) (s : State) :
    let a := s.offer data
    a.resp.length = 57 ∧ wordAt a.resp 0 = 2 ∧ a.salt = (data.drop 5).take 8 ++ (a.resp.drop 1).take 8 ∧
      (a.resp.drop 9).take 24 = (ephemeralPub a.ephemeral).toList ∧
      a.resp.drop 33 = (idSign (sha384 (wordsToBytes (data.drop 4 ++ a.resp.take 33)))).toList := by
  have hsalt : (State.drawWords 8 s).1.length = 8 := State.length_drawWords 8 s
  have hpub : (ephemeralPub (State.drawWords 8 s).2.drawNat.1).toList.length = 24 := Vector.length_toList
  have hbody : ([2] ++ (State.drawWords 8 s).1 ++ (ephemeralPub (State.drawWords 8 s).2.drawNat.1).toList).length = 33 := by
    simp [hsalt, hpub]
  refine ⟨by simp [State.offer, hsalt, hpub], rfl, by simp [State.offer, hsalt], by simp [State.offer, hsalt, hpub], ?_⟩
  dsimp only [State.offer]
  rw [List.drop_left' hbody, List.take_left' hbody]

theorem keyAgreementInit_spec {s : State} (hfw : s.crn.fwRuns = true) {src data : List Word} (h : s.InitGood src data) :
    ∃ (t : State) (a : Agreement), exec (.keyAgreementInit src data) s = .next t ∧
      t = { s with hif := t.hif, draw := t.draw, out := s.out ++ [.datagram s.hif.nextChannel ([0x101, wd s.hif.nextChannel, 0, 0] ++ a.resp)] } ∧
      t.hif = { s.hif with
        nextChannel := s.hif.nextChannel + 1
        agreements := t.hif.agreements } ∧
      (let live := s.hif.agreements.filter fun x => !s.passed x.at_ (2 * 10 ^ 9)
       t.hif.agreements = live.drop (live.length - 3) ++ [a]) ∧ a.id = s.hif.nextChannel ∧
      a.at_ = s.upNs ∧ a.hostKey = (data.drop 13).take 24 ∧ a.resp.length = 57 ∧ wordAt a.resp 0 = 2 ∧
      a.salt = (data.drop 5).take 8 ++ (a.resp.drop 1).take 8 ∧
      (a.resp.drop 9).take 24 = (ephemeralPub a.ephemeral).toList ∧
      a.resp.drop 33 = (idSign (sha384 (wordsToBytes (data.drop 4 ++ a.resp.take 33)))).toList := by
  have hdrawn : (State.drawWords 8 s).2.drawNat.2 = { s with draw := (State.drawWords 8 s).2.draw + 1 } := by
    rw [State.drawNat, State.drawWords_eq]
  have hexec := exec_keyAgreementInit hfw h
  rw [hdrawn] at hexec
  exact ⟨_, s.offer data, hexec, rfl, rfl, rfl, rfl, rfl, by simp [State.offer], s.offer_resp data⟩

/-- A FINISH of a pending agreement, in its form. -/
def finishFormed (data : List Word) : Prop :=
  data.length = 29 ∧ data.take 4 = [0x101, wd (wordAt data 1).toNat, 0, 0] ∧ fld (wordAt data 4) 7 0 = 3

/-- The owner of the slot that a FINISH names has signed the agreement. -/
def State.finishSigned (s : State) (data : List Word) (a : Agreement) : Bool :=
  let k := fld (wordAt data 4) 9 8
  s.sec.usable k && ecdsaVerify (Config.ownerKey (tabGet [] s.sec.ownerDigest k)) (sha384 (wordsToBytes (a.init ++ a.resp))) (data.drop 5)

/-- The channel that a FINISH opens, with the key of each direction (15 R524). -/
def State.agreedChannel (s : State) (data : List Word) (a : Agreement) : Channel :=
  let ch := (wordAt data 1).toNat
  let z := ecdh (scalarOf a.ephemeral) a.hostKey
  { id := ch, owner := fld (wordAt data 4) 9 8, keyIn := channelKey "QORLON-H2M" ch a.salt z, keyOut := channelKey "QORLON-M2H" ch a.salt z
    lastAt := s.upNs }

/-- What a FINISH of an agreement answers. -/
def finishResult (ok : Bool) (ch : Nat) (key : List Byte) : List Word :=
  let head := [0x101, wd ch, 0, 0, wd (4 + (if ok then 0 else stRefused) * 2 ^ 16)]
  head ++ (gcmSeal key 0 true head []).2.toList

/-- The end of a pending agreement, with the channel that it opens. -/
def State.endAgreement (data : List Word) (a : Agreement) (s : State) : State :=
  let ch := (wordAt data 1).toNat
  let ok := s.finishSigned data a
  (s.onHif fun h => { h with
    agreements := h.agreements.filter fun x => x.id != ch
    channels := if ok then h.channels ++ [s.agreedChannel data a] else h.channels }).emit
      (.datagram ch (finishResult ok ch (s.agreedChannel data a).keyOut))

section
variable {s : State} {data : List Word} (hfw : s.crn.fwRuns = true)
include hfw

theorem exec_keyAgreementFinish_none
    (hnone : s.hif.agreements.find? (fun a => a.id == (wordAt data 1).toNat && !s.passed a.at_ (secs 2)) = none) :
    exec (.keyAgreementFinish data) s = .next s.discardDatagram := by
  change execKeyAgreementFinish data s = _
  unfold execKeyAgreementFinish
  simp only [hfw, Bool.not_true, Bool.false_eq_true, if_false, hnone]

variable {a : Agreement}
  (ha : s.hif.agreements.find? (fun a => a.id == (wordAt data 1).toNat && !s.passed a.at_ (secs 2)) = some a)
include ha

theorem exec_keyAgreementFinish_malformed (hform : ¬finishFormed data) :
    exec (.keyAgreementFinish data) s = .next s.discardDatagram := by
  change execKeyAgreementFinish data s = _
  unfold execKeyAgreementFinish
  simp only [hfw, Bool.not_true, Bool.false_eq_true, if_false, ha]
  rw [if_pos]
  unfold finishFormed at hform
  tauto

theorem exec_keyAgreementFinish_ends (hform : finishFormed data) : exec (.keyAgreementFinish data) s =
    .next (if s.finishSigned data a then s.endAgreement data a else (s.endAgreement data a).refuseAgreement) := by
  obtain ⟨hlen, hhead, hkind⟩ := hform
  change execKeyAgreementFinish data s = _
  unfold execKeyAgreementFinish
  simp only [hfw, Bool.not_true, Bool.false_eq_true, if_false, ha]
  rw [if_neg (by simp [hlen, hhead, hkind])]
  rfl

theorem keyAgreementFinish_spec (hform : finishFormed data) :
    let ch := (wordAt data 1).toNat
    let k := fld (wordAt data 4) 9 8
    let good := s.sec.usable k = true ∧ ecdsaVerify (Config.ownerKey (tabGet [] s.sec.ownerDigest k))
      (sha384 (wordsToBytes (a.init ++ a.resp))) (data.drop 5) = true
    ∃ (t : State) (w : List Word), exec (.keyAgreementFinish data) s = .next t ∧
      t = { s with hif := t.hif, flt := t.flt, draw := t.draw, out := s.out ++ [.datagram ch w] } ∧
      t.hif.agreements = s.hif.agreements.filter (fun x => x.id != ch) ∧ t.hif.sessions = s.hif.sessions ∧
      (good → t.flt = s.flt ∧ t.hif.channels = s.hif.channels ++ [s.agreedChannel data a]) ∧
      (¬good → t.hif.channels = s.hif.channels ∧ t.flt.evt = s.flt.evt ||| srcMask 1150) := by
  intro ch k good
  have hgood : s.finishSigned data a = true ↔ good := by simp [State.finishSigned, good, k]
  have hexec := exec_keyAgreementFinish_ends hfw ha hform
  cases hok : s.finishSigned data a with
  | true =>
    refine ⟨s.endAgreement data a, _, hexec.trans (by rw [hok]; rfl), rfl, rfl, rfl, fun _ => ⟨rfl, ?_⟩,
      fun hno => absurd (hgood.mp hok) hno⟩
    exact if_pos hok
  | false =>
    refine ⟨(s.endAgreement data a).refuseAgreement, finishResult (s.finishSigned data a) ch (s.agreedChannel data a).keyOut,
      hexec.trans (by rw [hok]; rfl), ?_, ?_, ?_, fun hyes => by simp [hgood.mpr hyes] at hok, fun _ => ⟨?_, ?_⟩⟩
    all_goals unfold State.refuseAgreement
    · rw [State.raiseByCore_eq]; rfl
    · rw [State.raiseByCore_hif]; rfl
    · rw [State.raiseByCore_hif]; rfl
    · rw [State.raiseByCore_hif]; exact if_neg (by simp [hok])
    · exact State.raiseByCore_evt (s := s.endAgreement data a) hfw

end

/-- Settles O47: the outcomes of a datagram in order, the lapse of a channel, and the three messages of a key agreement. -/
theorem remoteSessions : Obligations.RemoteSessions := by
  unfold Obligations.RemoteSessions
  refine ⟨⟨fun s data hfw => ⟨fun hc => ?noChannel, fun c hc => ⟨fun hform => ?form, fun hform hopen => ?sealed,
    fun hform m hopen => ⟨fun hold => ?old, fun hseq d hkept => ?answered, fun hseq hkept => ?repeated, fun hseq hkept => ?accepted⟩⟩⟩,
    fun s ch => ?lapse⟩, fun s src data hfw => ⟨fun hbad => ?refused, fun hgood => keyAgreementInit_spec hfw hgood⟩,
    fun s data a hfw ha => ⟨fun hform => ?malformed, fun hform => ?ends⟩, fun s data hfw hnone => ?none, fun s id => ?expiry⟩
  case noChannel => exact ⟨_, exec_remoteDatagram_noChannel hfw hc, State.discardDatagram_spec hfw⟩
  case form => exact ⟨_, exec_remoteDatagram_form hfw hc hform, State.discardDatagram_spec hfw⟩
  case sealed => exact ⟨_, exec_remoteDatagram_sealed hfw hc hform hopen, State.discardDatagram_spec hfw⟩
  case old => exact ⟨_, exec_remoteDatagram_old hfw hc hform hopen hold, State.discardDatagram_spec hfw⟩
  case answered => exact exec_remoteDatagram_answered hfw hc hform hopen hseq hkept
  case repeated => exact exec_remoteDatagram_repeated hfw hc hform hopen hseq hkept
  case accepted =>
    have hid : c.id = (wordAt data 1).toNat := by
      simpa using List.find?_some (p := fun x : Channel => x.id == (wordAt data 1).toNat) hc
    refine ⟨_, exec_remoteDatagram_accepted hfw hc hform hopen hseq hkept, rfl,
      Channel.accept s (join (wordAt data 2) (wordAt data 3)) m c, ?_, rfl, rfl, rfl, rfl, rfl, rfl,
      fun hidle => ⟨if_pos hidle, if_pos hidle, if_pos hidle, if_pos hidle⟩,
      fun hrun => ⟨if_neg hrun, if_neg hrun, if_neg hrun⟩⟩
    rw [State.onHif_hif, hid]
    exact find_updWhere_channel (f := Channel.accept s (join (wordAt data 2) (wordAt data 3)) m) (fun _ => rfl) hc
  case lapse =>
    obtain ⟨heq, hchannels, hsessions⟩ := s.closeChannels_spec fun c => c.id == ch && s.passed c.lastAt (secs 600)
    have hlapsed (c : Channel) :
        (c.id == ch && s.passed c.lastAt (secs 600)) = true ↔ c.id = ch ∧ c.lastAt + 600 * 10 ^ 9 ≤ s.upNs := by
      simp only [Bool.and_eq_true, beq_iff_eq, State.passed_secs]
    simp only [hlapsed] at hchannels hsessions
    exact ⟨_, rfl, heq, hchannels, hsessions⟩
  case refused =>
    exact ⟨_, exec_keyAgreementInit_discards hfw hbad, State.discard_raise hfw { src := 1150, reason := 1, cls := 0 }⟩
  case malformed => exact ⟨_, exec_keyAgreementFinish_malformed hfw ha hform, State.discardDatagram_spec hfw⟩
  case ends =>
    obtain ⟨t, w, hexec, heq, hagreements, hsessions, hgood, hbad⟩ := keyAgreementFinish_spec hfw ha hform
    refine ⟨t, w, hexec, heq, hagreements, hsessions, fun h => ?_, hbad⟩
    obtain ⟨hflt, hchannels⟩ := hgood h
    exact ⟨hflt, _, hchannels, rfl, rfl, rfl, rfl, rfl, rfl, rfl⟩
  case none => exact ⟨_, exec_keyAgreementFinish_none hfw hnone, State.discardDatagram_spec hfw⟩
  case expiry =>
    refine ⟨_, rfl, rfl, fun a => ?_⟩
    change a ∈ List.filter _ _ ↔ _
    simp only [List.mem_filter, Bool.not_eq_true', ← Bool.not_eq_true, Bool.and_eq_true, beq_iff_eq, State.passed_secs]

end Sys2Proof.Machine
end

section
/-!
PROOF of CellIsolation (O54). What responses and commits leave of FLT status, then the application of an epoch by a cell, the isolation
of one that has not applied it, and of one that fails (04 R139, R140; 16 R538, R549; 01 R25, R30).
-/

namespace Sys2Proof.Machine

open Sys2Proof

/-! ## FLT status and interrupts that later work leaves -/

/-- The bits of faults and fatal events. -/
def State.faults (s : State) : BitVec 1152 × BitVec 1152 := (s.flt.flt, s.flt.fatal)

theorem State.faults_congr {s t : State} (h : t.flt = s.flt) : t.faults = s.faults := by rw [State.faults, h]; rfl

/-- An event of a lower class sets neither bit. -/
@[simp] theorem State.raise_faults {e : Ev} (h : e.cls < 2) (s : State) : (s.raise e).faults = s.faults := by
  unfold State.raise
  split
  · exact Prod.ext (if_neg (by omega)) (if_neg (by omega))
  · rfl

@[simp] theorem State.onIf_faults {b : Bool} {f : State → State} {s : State} (h : ∀ a, (f a).faults = a.faults) :
    (s.onIf b f).faults = s.faults := State.onIf_keeps State.faults b f s (h s)

@[simp] theorem foldl_faults {β : Type} {f : State → β → State} {l : List β} {s : State}
    (h : ∀ a x, (f a x).faults = a.faults) : (l.foldl f s).faults = s.faults := foldl_keeps State.faults f h l s

@[simp] theorem State.onRng_faults (f : Rng → Rng) (s : State) : (s.onRng f).faults = s.faults := (rfl)
@[simp] theorem State.onRing_faults (i : Nat) (f : Ring → Ring) (s : State) : (s.onRing i f).faults = s.faults := (rfl)
@[simp] theorem State.onFrm_faults (f : Frm → Frm) (s : State) : (s.onFrm f).faults = s.faults := (rfl)
@[simp] theorem State.onFab_faults (f : Fab → Fab) (s : State) : (s.onFab f).faults = s.faults := (rfl)
@[simp] theorem State.onEgr_faults (f : Egr → Egr) (s : State) : (s.onEgr f).faults = s.faults := (rfl)
@[simp] theorem State.onCell_faults (c : Nat) (f : Cell → Cell) (s : State) : (s.onCell c f).faults = s.faults := (rfl)
@[simp] theorem State.onPmu_faults (f : Pmu → Pmu) (s : State) : (s.onPmu f).faults = s.faults := (rfl)
@[simp] theorem State.emit_faults (o : Out) (s : State) : (s.emit o).faults = s.faults := (rfl)
@[simp] theorem State.bump_faults (k i x n : Nat) (s : State) : (s.bump k i x n).faults = s.faults := (rfl)

@[simp] theorem State.pmuEvent_faults (b e n : Nat) (o : Occ) (s : State) : (s.pmuEvent b e n o).faults = s.faults := by
  rw [State.pmuEvent_eq]; rfl

@[simp] theorem State.onPort_faults (p : Nat) (f : Port → Port) (s : State) : (s.onPort p f).faults = s.faults := (rfl)
@[simp] theorem State.onFlo_faults (f : Flo → Flo) (s : State) : (s.onFlo f).faults = s.faults := (rfl)

/-! ## FLT status through the end of frames -/

@[simp] theorem State.finishDesc_faults (i k st n : Nat) (ts : Option Nat) (s : State) :
    (s.finishDesc i k st n ts).faults = s.faults := (rfl)

@[simp] theorem State.onFrame_faults (fid : Nat) (f : Frame → Frame) (s : State) : (s.onFrame fid f).faults = s.faults := by
  unfold State.onFrame; split <;> simp

@[simp] theorem State.hostDone_faults (x : Frame) (s : State) : (s.hostDone x).faults = s.faults := by
  unfold State.hostDone; (repeat' split) <;> simp

@[simp] theorem State.settle_faults (fid : Nat) (s : State) : (s.settle fid).faults = s.faults := by
  dsimp only [State.settle]; split <;> simp

@[simp] theorem State.bufAdd_faults (c r n : Nat) (s : State) : (s.bufAdd c r n).faults = s.faults := (rfl)
@[simp] theorem State.bufSub_faults (c r n : Nat) (s : State) : (s.bufSub c r n).faults = s.faults := (rfl)
@[simp] theorem State.onCopies_faults (t : Copy → Bool) (f : Copy → Copy) (s : State) : (s.onCopies t f).faults = s.faults := (rfl)
@[simp] theorem State.freeChunks_faults (s : State) : s.freeChunks.faults = s.faults := (rfl)
@[simp] theorem State.pullCopy_faults (fid p : Nat) (s : State) : (s.pullCopy fid p).faults = s.faults := (rfl)

@[simp] theorem State.endCopy_faults (c : Copy) (s : State) : (s.endCopy c).faults = s.faults := by
  dsimp only [State.endCopy]; split <;> simp

@[simp] theorem State.dropCopy_faults (c : Copy) (k i : Nat) (s : State) : (s.dropCopy c k i).faults = s.faults := by
  simp [State.dropCopy]

@[simp] theorem State.refuseCopy_faults (c : Copy) (k i st : Nat) (s : State) : (s.refuseCopy c k i st).faults = s.faults := by
  simp [State.refuseCopy]

@[simp] theorem State.badTail_faults (fid : Nat) (l : List Nat) (s : State) : (s.badTail fid l).faults = s.faults :=
  foldl_faults fun a p => by (repeat' split) <;> simp

@[simp] theorem State.closeChunk_faults (a b c : Nat) (s : State) : (s.closeChunk a b c).faults = s.faults := by
  unfold State.closeChunk; split <;> simp

@[simp] theorem State.openChunk_faults (a b c : Nat) (s : State) : (s.openChunk a b c).2.faults = s.faults := by
  unfold State.openChunk; split <;> simp

@[simp] theorem packBytes_faults (n src dst cls mask fid off len head : Nat) (last bad : Bool) (s : State) :
    (packBytes n src dst cls mask fid off len head last bad s).faults = s.faults := by
  induction n generalizing off len head s with
  | zero => rfl
  | succ n ih =>
    dsimp only [packBytes]
    (repeat' split) <;> simp [ih]

@[simp] theorem State.growCopies_faults (fid p n : Nat) (last : Bool) (s : State) : (s.growCopies fid p n last).faults = s.faults := by
  unfold State.growCopies; split <;> simp

@[simp] theorem State.landPiece_faults (c : Nat) (p : Piece) (s : State) : (s.landPiece c p).faults = s.faults := by
  dsimp only [State.landPiece]; (repeat' split) <;> simp

@[simp] theorem State.endPacked_faults (fid : Nat) (s : State) : (s.endPacked fid).faults = s.faults :=
  foldl_faults fun a c => by split <;> simp

@[simp] theorem State.ledger_faults (fid : Nat) (b : Bool) (s : State) : (s.ledger fid b).faults = s.faults := by
  dsimp only [State.ledger]; split <;> simp

@[simp] theorem State.cutPacked_faults (fid : Nat) (s : State) : (s.cutPacked fid).faults = s.faults := by
  simp [State.cutPacked]

@[simp] theorem State.packFrame_faults (fid : Nat) (s : State) : (s.packFrame fid).faults = s.faults := by
  dsimp only [State.packFrame]; (repeat' split) <;> simp

@[simp] theorem State.unpack_faults (fid : Nat) (s : State) : (s.unpack fid).faults = s.faults := by
  simp [State.unpack]

@[simp] theorem State.feedCol_faults (fid : Nat) (s : State) : (s.feedCol fid).faults = s.faults := by
  dsimp only [State.feedCol]
  split
  · exact foldl_faults fun a c => by (repeat' split) <;> simp
  · rfl

@[simp] theorem State.postVoid_faults (fid : Nat) (s : State) : (s.postVoid fid).faults = s.faults := by
  dsimp only [State.postVoid]
  split
  · rfl
  · split
    · simp
    · exact State.onFrame_faults fid _ s

@[simp] theorem State.closeFrame_faults (fid : Nat) (bad : Bool) (s : State) : (s.closeFrame fid bad).faults = s.faults := by
  dsimp only [State.closeFrame]; (repeat' split) <;> simp

@[simp] theorem State.endCopies_faults (fid : Nat) (bad : Bool) (s : State) : (s.endCopies fid bad).faults = s.faults :=
  foldl_faults fun a e => by (repeat' split) <;> simp

@[simp] theorem setTx_faults (p : Nat) (t : Option Tx) (s : State) : (setTx p t s).faults = s.faults := (rfl)
@[simp] theorem setHeld_faults (p : Nat) (t : Option Tx) (s : State) : (setHeld p t s).faults = s.faults := (rfl)

@[simp] theorem State.chargeShaper_faults (p b : Nat) (n : Int) (s : State) : (s.chargeShaper p b n).faults = s.faults := by
  dsimp only [State.chargeShaper, State.putShaper]; split <;> simp

@[simp] theorem State.chargeFrame_faults (p : Nat) (c : Copy) (n : Int) (s : State) : (s.chargeFrame p c n).faults = s.faults := by
  dsimp only [State.chargeFrame]; split <;> simp

@[simp] theorem State.endTx_faults (p : Nat) (t : Tx) (b : Bool) (s : State) : (s.endTx p t b).faults = s.faults := by
  dsimp only [State.endTx]; (repeat' split) <;> simp

@[simp] theorem State.dropLink_faults (p : Nat) (s : State) : (s.dropLink p).faults = s.faults := by
  dsimp only [State.dropLink]; (repeat' split) <;> simp

@[simp] theorem State.setLink_faults (p : Nat) (l : Link) (s : State) : (s.setLink p l).faults = s.faults := by
  dsimp only [State.setLink]; (repeat' split) <;> simp

@[simp] theorem State.isolatePorts_faults (c : Nat) (s : State) : (s.isolatePorts c).faults = s.faults :=
  foldl_faults fun a p => by split <;> simp

/-! ## Responses and commits -/

@[simp] theorem State.respond_faults (op : Nat) (r : Req) (st : Nat) (ws : List Word) (s : State) :
    (s.respond op r st ws).faults = s.faults := by
  have hdone : (s.onIf (s.answersNow r) State.countDone).faults = s.faults := State.faults_congr (by simp)
  rw [← hdone]
  dsimp only [State.respond]
  split
  · exact State.faults_congr (by simp)
  · split
    · rfl
    · split
      · exact (State.raise_faults (Nat.zero_lt_two) _).trans (State.faults_congr (by simp))
      · exact State.faults_congr (by simp)
  · split <;> rfl

@[simp] theorem State.answerDeferred_faults (p : DeferKind → Bool) (ws : DeferKind → List Word) (s : State) :
    (s.answerDeferred p ws).faults = s.faults :=
  foldl_keeps State.faults _ (fun a _ => State.respond_faults _ _ _ _ a) _ _

@[simp] theorem State.settleCommit_faults (s : State) : s.settleCommit.faults = s.faults := by
  unfold State.settleCommit
  split
  · exact (State.answerDeferred_faults _ _ _).trans (State.faults_congr (by simp))
  · rfl

/-- An interrupt that is set stays set. -/
theorem State.irq_irq_mono {n m : Nat} {s : State} (h : s.hif.irq.getLsbD m = true) : (s.irq n).hif.irq.getLsbD m = true := by
  rw [State.irq_hif, BitVec.getLsbD_or, h, Bool.true_or]

theorem State.respond_irq_mono {m : Nat} {s : State} (h : s.hif.irq.getLsbD m = true) (op : Nat) (r : Req) (st : Nat)
    (ws : List Word) : (s.respond op r st ws).hif.irq.getLsbD m = true := by
  have hdone : (s.onIf (s.answersNow r) State.countDone).hif.irq.getLsbD m = true := by rw [State.onIf_countDone_hif]; exact h
  have hwrite (n : Nat) (e : HeldRsp) (t : State) : (t.writeResponse n e).hif.irq = t.hif.irq := by
    unfold State.writeResponse
    dsimp only
    rw [State.onPair_hif, State.sendVector_hif, State.hostWrite_hif, State.onIf_keeps State.hif _ _ _ (by simp)]
  dsimp only [State.respond]
  split
  · exact State.irq_irq_mono hdone
  · split
    · exact hdone
    · split
      · rw [State.raise_hif]; exact State.irq_irq_mono hdone
      · rw [hwrite]; exact hdone
  · split <;> exact hdone

theorem State.answerDeferred_irq_mono {m : Nat} {s : State} (h : s.hif.irq.getLsbD m = true) (p : DeferKind → Bool)
    (ws : DeferKind → List Word) : (s.answerDeferred p ws).hif.irq.getLsbD m = true :=
  List.foldlRecOn (motive := fun a : State => a.hif.irq.getLsbD m = true) _ _ h fun _ ha _ _ => State.respond_irq_mono ha _ _ _ _

theorem State.settleCommit_irq_mono {m : Nat} {s : State} (h : s.hif.irq.getLsbD m = true) :
    s.settleCommit.hif.irq.getLsbD m = true := by
  unfold State.settleCommit
  split
  · exact State.answerDeferred_irq_mono (State.irq_irq_mono (by rw [State.dropReplaced_hif]; exact h)) _ _
  · exact h

/-- A commit that completes sets its interrupt. -/
theorem State.settleCommit_irq {s : State} (hp : s.hif.pend = true) (hdone : s.settleCommit.hif.pend = false) :
    s.settleCommit.hif.irq.getLsbD 1 = true := by
  rw [State.settleCommit_pend, hp, Bool.true_and, decide_eq_false_iff_not, not_not] at hdone
  unfold State.settleCommit
  rw [if_pos (by simp [hp, hdone])]
  exact State.answerDeferred_irq_mono (State.irq_getLsbD (by decide) _) _ _

/-! ## CELL_EPOCH_APPLY (04 R139; 01 R25) -/

/-- A cell that has not accepted the epoch sets its APPLIED bit, and the host interface changes no further. -/
theorem State.acceptEpoch_hif {c : Nat} {s : State} (h : s.hif.applied.getLsbD c = false) :
    (s.acceptEpoch c).hif = { s.hif with applied := s.hif.applied ||| BitVec.ofNat 64 (2 ^ c) } := by
  dsimp only [State.acceptEpoch]
  rw [if_neg (by simp [h])]
  exact foldl_keeps State.hif _ (fun a p => by simpa only [State.core_hif] using congrArg State.hif (State.applyPort_core _ p a)) _ _

theorem State.enactEpoch_hif (c : Nat) (s : State) : (s.enactEpoch c).hif = s.hif := by
  simpa only [State.core_hif] using congrArg State.hif (State.enactEpoch_core c s)

/-- The cell's controller applies epochs: the cell runs, or sleeps in Slumber, and is in service. -/
def State.mayApply (s : State) (c : Nat) : Prop :=
  s.hif.applied.getLsbD c = false ∧ s.inService c = true ∧
    ((s.cell c).st = .run ∨ (s.cell c).st = .slumber ∨ (s.cell c).st = .waking true)

theorem exec_cellEpochApply_waits {s : State} {c : Fin 64} (h : ¬s.mayApply c) (slots : BitVec 8) :
    exec (.cellEpochApply c slots) s = .next (s.sees slots) := by
  change execCellEpochApply c slots s = _
  unfold execCellEpochApply
  dsimp only
  refine congrArg Host.Outcome.next ?_
  split
  · rfl
  next hserves =>
    have hno : ¬((s.cell c).st = .run ∨ (s.cell c).st = .slumber ∨ (s.cell c).st = .waking true) := fun hst =>
      h ⟨Bool.eq_false_of_not_eq_true (not_or.mp hserves).1, by
        have hin := (not_or.mp hserves).2
        rwa [Bool.not_eq_true', Bool.not_eq_false] at hin, hst⟩
    simp only [not_or] at hno
    obtain ⟨hrun, hslumber, hwaking⟩ := hno
    split
    next hst => exact absurd hst hrun
    next hst => exact absurd hst hslumber
    next hst => exact absurd hst hwaking
    next => rfl

/-- The epoch is accepted, and a powered cell enacts it; the commit is settled then. -/
theorem exec_cellEpochApply_acts {s : State} {c : Fin 64} (h : s.mayApply c) (slots : BitVec 8) :
    ∃ v : State, exec (.cellEpochApply c slots) s = .next v.settleCommit ∧ v.hif = ((s.sees slots).acceptEpoch c).hif ∧
      v.anchor = ((s.sees slots).acceptEpoch c).anchor := by
  obtain ⟨happ, hserves, hst⟩ := h
  have hcond : ¬((s.sees slots).hif.applied.getLsbD c.val = true ∨ (!(s.sees slots).inService c.val) = true) := by
    have hin : (s.sees slots).inService c.val = true := hserves
    have hap : (s.sees slots).hif.applied.getLsbD c.val = false := happ
    rw [hin, hap]
    simp
  have hcell : ((s.sees slots).cell c.val).st = (s.cell c.val).st := rfl
  suffices hexec : ∃ v : State, (v = (s.sees slots).acceptEpoch c ∨ v = ((s.sees slots).acceptEpoch c).enactEpoch c) ∧
      exec (.cellEpochApply c slots) s = .next v.settleCommit by
    obtain ⟨v, rfl | rfl, hv⟩ := hexec
    · exact ⟨_, hv, rfl, rfl⟩
    · exact ⟨_, hv, State.enactEpoch_hif _ _, State.enactEpoch_anchor _ _⟩
  change ∃ v : State, _ ∧ execCellEpochApply c slots s = _
  unfold execCellEpochApply
  dsimp only
  rw [if_neg hcond, hcell]
  rcases hst with hst | hst | hst <;> rw [hst]
  · exact ⟨_, .inr rfl, rfl⟩
  · exact ⟨_, .inl rfl, rfl⟩
  · exact ⟨_, .inl rfl, rfl⟩

theorem cellEpochApply_spec {s : State} {c : Fin 64} (h : s.mayApply c) (slots : BitVec 8) :
    ∃ t, exec (.cellEpochApply c slots) s = .next t ∧
      t.hif.applied = s.hif.applied ||| BitVec.ofNat 64 (2 ^ c.val) ∧ t.hif.isolated = s.hif.isolated ∧ t.hif.epoch = s.hif.epoch ∧
      t.stg = s.stg ∧ t.crn = s.crn ∧ (t.cell c.val).st = (s.cell c.val).st ∧
      (t.hif.pend = true ↔ s.hif.pend = true ∧ (s.hif.applied ||| BitVec.ofNat 64 (2 ^ c.val)) ||| s.hif.isolated ≠ BitVec.allOnes 64) ∧
      (s.hif.pend = true → t.hif.pend = false → t.hif.irq.getLsbD 1 = true) := by
  obtain ⟨v, hexec, hhif, hanchor⟩ := exec_cellEpochApply_acts h slots
  rw [State.acceptEpoch_hif (s := s.sees slots) h.1] at hhif
  have hkept : v.settleCommit.anchor =
      { (s.sees slots).anchor with applied := s.hif.applied ||| BitVec.ofNat 64 (2 ^ c.val) } := by
    rw [State.settleCommit_anchor, hanchor, State.acceptEpoch_anchor]; rfl
  have hpend : v.hif.pend = s.hif.pend := by rw [hhif]; rfl
  refine ⟨_, hexec, congrArg Anchor.applied hkept, congrArg Anchor.isolated hkept, congrArg Anchor.epoch hkept,
    congrArg Anchor.stg hkept, congrArg Anchor.crn hkept, (congrArg Cell.st (congrFun (congrArg Anchor.cell hkept) c.val) :), ?_,
    fun hp hdone => State.settleCommit_irq (hpend.trans hp) hdone⟩
  rw [State.settleCommit_pend, hpend, hhif, Bool.and_eq_true, decide_eq_true_iff]
  rfl

/-! ## The ports of an isolated cell (06 R196) -/

/-- The ports of a list leave service where they are in use, and no other port changes. -/
theorem foldl_isolate_port (l : List Nat) (j : Nat) (s : State) :
    let t := l.foldl (fun a p => if (State.port a p).link = .disabled then a else a.setLink p .isolated) s
    (j ∉ l → t.port j = s.port j) ∧
      (j ∈ l → (t.port j).link = if (s.port j).link = .disabled then .disabled else .isolated) := by
  induction l generalizing s with
  | nil => simp
  | cons p l ih =>
    dsimp only at ih ⊢
    rw [List.foldl_cons]
    by_cases hj : j = p
    · subst hj
      have hlink : ((if (s.port j).link = .disabled then s else s.setLink j .isolated).port j).link =
          if (s.port j).link = .disabled then .disabled else .isolated := by
        split
        · assumption
        · exact State.setLink_link ..
      refine ⟨fun hno => absurd List.mem_cons_self hno, fun _ => ?_⟩
      by_cases hmem : j ∈ l
      · rw [(ih _).2 hmem, hlink]
        by_cases hd : (s.port j).link = .disabled <;> simp [hd]
      · rw [(ih _).1 hmem, hlink]
    · have hsame : (if (s.port p).link = .disabled then s else s.setLink p .isolated).port j = s.port j := by
        split
        · rfl
        · exact State.setLink_port_other hj ..
      refine ⟨fun hno => ?_, fun hmem => ?_⟩
      · rw [(ih _).1 (List.not_mem_of_not_mem_cons hno), hsame]
      · rw [(ih _).2 ((List.mem_cons.mp hmem).resolve_left hj), hsame]

theorem State.isolatePorts_port_other {c p : Nat} (h : p / 16 ≠ c) (s : State) : (s.isolatePorts c).port p = s.port p := by
  refine (foldl_isolate_port (cellPorts c) p s).1 fun hmem => h ?_
  obtain ⟨i, hi, rfl⟩ := List.mem_map.mp hmem
  have := List.mem_range.mp hi
  omega

theorem State.isolatePorts_link {c i : Nat} (h : i < 16) (s : State) : ((s.isolatePorts c).port (16 * c + i)).link =
    if (s.port (16 * c + i)).link = .disabled then .disabled else .isolated :=
  (foldl_isolate_port (cellPorts c) (16 * c + i) s).2 (List.mem_map_of_mem (List.mem_range.mpr h))

theorem State.isolatePorts_hif (c : Nat) (s : State) : (s.isolatePorts c).hif = s.hif := by
  simpa only [State.core_hif] using congrArg State.hif (State.isolatePorts_core c s)

/-! ## COMMIT_ISOLATION (04 R139, R140) -/

/-- The cell with its ports is isolated, and its event and its interrupt are raised. -/
def State.commitIsolates (c : Nat) (s : State) : State :=
  (((s.isolatePorts c).onHif fun h => { h with isolated := h.isolated ||| BitVec.ofNat 64 (2 ^ c) }).raise
    { src := 1024 + c, reason := 1, cls := 2, live := true }).irq 2

theorem exec_commitIsolation (c : Fin 64) (slots : BitVec 8) (s : State) : exec (.commitIsolation c slots) s = .next
    (if (!s.hif.pend) = true ∨ s.hif.applied.getLsbD c.val = true ∨ s.hif.isolated.getLsbD c.val = true then s.sees slots
    else ((s.sees slots).commitIsolates c).settleCommit) := rfl

/-- A live event that is seen joins the live conditions. -/
theorem State.mem_raise_live {e : Ev} {s : State} (hs : s.eventSeen e.src = true) (hl : e.live = true) :
    (e.src, e.reason) ∈ (s.raise e).flt.live := by
  rw [State.raise_live, if_pos hs, if_pos hl]
  split
  next hmem => simpa using hmem
  next => simp

theorem State.commitIsolates_spec {c : Nat} (hc : c < 64) (s : State) :
    let t := s.commitIsolates c
    t.hif.isolated = s.hif.isolated ||| BitVec.ofNat 64 (2 ^ c) ∧ t.hif.applied = s.hif.applied ∧ t.hif.pend = s.hif.pend ∧
      t.hif.irq.getLsbD 2 = true ∧ (s.fltRuns = true → (1024 + c, 1) ∈ t.flt.live ∧ t.flt.flt.getLsbD (1024 + c) = true) ∧
      t.prt = (s.isolatePorts c).prt ∧ t.stg = s.stg ∧ t.crn = s.crn := by
  have hcore := State.isolatePorts_core c s
  have hhif := State.isolatePorts_hif c s
  have hcrn : (s.isolatePorts c).crn = s.crn := by simpa only [State.core_crn] using congrArg State.crn hcore
  have hstg : (s.isolatePorts c).stg = s.stg := by simpa only [State.core_stg] using congrArg State.stg hcore
  have hirq : (s.commitIsolates c).hif = { s.hif with
      isolated := s.hif.isolated ||| BitVec.ofNat 64 (2 ^ c), irq := s.hif.irq ||| BitVec.ofNat 5 (2 ^ 2)
      msixPend := (s.commitIsolates c).hif.msixPend } := by
    unfold State.commitIsolates
    rw [State.irq_hif, State.raise_hif, State.onHif_hif, hhif]
  refine ⟨by rw [hirq], by rw [hirq], by rw [hirq], State.irq_getLsbD (by decide) _, fun hruns => ?_, ?_, ?_, ?_⟩
  · have hseen : ((s.isolatePorts c).onHif fun h =>
        { h with isolated := h.isolated ||| BitVec.ofNat 64 (2 ^ c) }).eventSeen (1024 + c) = true := by
      simpa [State.eventSeen, State.fltRuns, hcrn] using Or.inl (by simpa [State.fltRuns] using hruns)
    unfold State.commitIsolates
    rw [State.irq_flt]
    exact ⟨State.mem_raise_live (e := { src := 1024 + c, reason := 1, cls := 2, live := true }) hseen rfl,
      (State.raise_bits (e := { src := 1024 + c, reason := 1, cls := 2, live := true }) hseen (by simp only; omega)).2.1 (by simp)⟩
  · simp [State.commitIsolates]
  · simp [State.commitIsolates, hstg]
  · simp [State.commitIsolates, hcrn]

theorem commitIsolation_spec {s : State} {c : Fin 64} (hp : s.hif.pend = true) (happ : s.hif.applied.getLsbD c.val = false)
    (hiso : s.hif.isolated.getLsbD c.val = false) (slots : BitVec 8) :
    ∃ t, exec (.commitIsolation c slots) s = .next t ∧ t.hif.isolated = s.hif.isolated ||| BitVec.ofNat 64 (2 ^ c.val) ∧
      t.hif.applied = s.hif.applied ∧ t.hif.irq.getLsbD 2 = true ∧
      (s.fltRuns = true → (1024 + c.val, 1) ∈ t.flt.live ∧ t.flt.flt.getLsbD (1024 + c.val) = true) ∧
      (t.hif.pend = true ↔ s.hif.applied ||| (s.hif.isolated ||| BitVec.ofNat 64 (2 ^ c.val)) ≠ BitVec.allOnes 64) ∧
      (∀ i, i < 16 → (t.port (16 * c.val + i)).link = if (s.port (16 * c.val + i)).link = .disabled then .disabled else .isolated) ∧
      (∀ p, p / 16 ≠ c.val → t.port p = s.port p) ∧ t.stg = s.stg ∧ t.crn = s.crn := by
  obtain ⟨hisolated, happlied, hpend, hirq, hevent, hprt, hstg, hcrn⟩ := State.commitIsolates_spec c.isLt (s.sees slots)
  refine ⟨_, (exec_commitIsolation c slots s).trans (congrArg _ (if_neg (by rw [hp, happ, hiso]; simp))), ?_⟩
  generalize (s.sees slots).commitIsolates c.val = v at hisolated happlied hpend hirq hevent hprt hstg hcrn ⊢
  have hport (p : Nat) : v.settleCommit.port p = ((s.sees slots).isolatePorts c).port p := by
    rw [State.port, State.settleCommit_prt, hprt]; rfl
  have hfaults : v.settleCommit.flt.flt = v.flt.flt := congrArg Prod.fst v.settleCommit_faults
  refine ⟨(congrArg Anchor.isolated v.settleCommit_anchor).trans hisolated,
    (congrArg Anchor.applied v.settleCommit_anchor).trans happlied, State.settleCommit_irq_mono hirq, fun hruns => ?_, ?_,
    fun i hi => by rw [hport, State.isolatePorts_link hi]; rfl, fun p hne => by rw [hport, State.isolatePorts_port_other hne]; rfl,
    (State.settleCommit_stg v).trans hstg, (State.settleCommit_crn v).trans hcrn⟩
  · rw [State.settleCommit_live, hfaults]
    exact hevent hruns
  · rw [State.settleCommit_pend, hpend, happlied, hisolated, Bool.and_eq_true, decide_eq_true_iff]
    exact and_iff_right hp

/-! ## A cell's fatal isolation (16 R538, R549; 01 R30) -/

/-- What a wake leaves of a cell that does not sleep, and of the marks of its duty in every other. -/
theorem State.startWake_isolation (c d : Nat) (s : State) :
    ((s.startWake c).cell d).fatalIso = (s.cell d).fatalIso ∧ ((s.startWake c).cell d).isoSoon = (s.cell d).isoSoon := by
  by_cases hd : d = c
  · subst hd
    by_cases hdoze : (s.cell d).st = .doze
    · rw [State.startWake_cell_doze hdoze]; exact ⟨rfl, rfl⟩
    · by_cases hslumber : (s.cell d).st = .slumber
      · rw [State.startWake_cell_slumber hslumber]; exact ⟨rfl, rfl⟩
      · rw [State.startWake_awake hdoze hslumber]; exact ⟨rfl, rfl⟩
  · rw [State.startWake_cell_other hd]; exact ⟨rfl, rfl⟩

/-- What every wake leaves is left by the wakes of several cells. -/
theorem wakeSome_keeps {β : Type} (π : State → β) (h : ∀ c a, π (State.startWake c a) = π a) (n : Nat) (l : List Nat) (s : State) :
    π (wakeSome n l s) = π s := by
  induction l generalizing n s with
  | nil => cases n <;> rfl
  | cons c l ih =>
    cases n with
    | zero => rfl
    | succ n => rw [wakeSome, ih, h]

theorem State.wakeForDuty_keeps {β : Type} (π : State → β) (h : ∀ c a, π (State.startWake c a) = π a) (s : State) :
    π s.wakeForDuty = π s := wakeSome_keeps π h _ _ s

/-- A cell that is isolated already is left. -/
theorem State.isolateCell_again {c : Nat} {s : State} (h : (s.cell c).fatalIso = true) : s.isolateCell c = s := if_pos h

theorem State.isolateCell_keeps {β : Type} (π : State → β) (hw : ∀ c a, π (State.startWake c a) = π a)
    (hc : ∀ (a : State) x, π { a with cel := x } = π a) (hp : ∀ c a, π (State.isolatePorts c a) = π a) (c : Nat) (s : State) :
    π (s.isolateCell c) = π s := by
  unfold State.isolateCell
  split
  · rfl
  · rw [State.wakeForDuty_keeps π hw]
    exact (hc _ _).trans (hp c s)

/-- Cells with equal anchors are out of duty alike. -/
theorem State.cell_out_of_anchor {s t : State} (h : t.anchor = s.anchor) (c : Nat) : (t.cell c).out = (s.cell c).out := by
  have hbare : (t.cell c).bare = (s.cell c).bare := congrFun (congrArg Anchor.cell h) c
  exact (congrArg Cell.out hbare :)

/-- A cell that a fatal event isolates is out of duty at once, or leaves it at the next boundary. -/
theorem State.isolateCell_cell (c : Nat) (s : State) : ((s.isolateCell c).cell c).fatalIso = true ∧
    ((s.cell c).fatalIso = false → ((s.isolateCell c).cell c).isoSoon = !(s.cell c).out) := by
  by_cases hiso : (s.cell c).fatalIso = true
  · rw [State.isolateCell_again hiso]
    exact ⟨hiso, fun h => absurd hiso (by simp [h])⟩
  · have hout := State.cell_out_of_anchor (State.isolatePorts_anchor c s) c
    unfold State.isolateCell
    rw [if_neg hiso]
    refine ⟨?_, fun _ => ?_⟩
    · rw [State.wakeForDuty_keeps (fun a => (a.cell c).fatalIso) fun d a => (State.startWake_isolation d c a).1]
      rw [State.onCell_cell_same]
    · rw [State.wakeForDuty_keeps (fun a => (a.cell c).isoSoon) fun d a => (State.startWake_isolation d c a).2]
      rw [State.onCell_cell_same, hout]

/-- The ports of the isolated cell alone leave service. -/
theorem State.isolateCell_port {c : Nat} {s : State} (h : (s.cell c).fatalIso = false) (p : Nat) :
    (s.isolateCell c).port p = (s.isolatePorts c).port p := by
  unfold State.isolateCell
  rw [if_neg (by simp [h]), State.wakeForDuty_keeps (fun a => a.port p) fun d a => by rw [State.port, State.startWake_prt]; rfl,
    State.onCell_port]

/-- The isolation of a cell leaves Cairn, the configuration and the live conditions. -/
theorem State.isolateCell_core (c : Nat) (s : State) : (s.isolateCell c).core = s.core :=
  State.isolateCell_keeps State.core (fun _ _ => State.startWake_core _ _) (fun _ _ => rfl) (fun _ _ => State.isolatePorts_core _ _) c s

theorem State.isolateCell_live (c : Nat) (s : State) : (s.isolateCell c).flt.live = s.flt.live := by
  simpa only [State.core_live] using congrArg (fun x : State => x.flt.live) (State.isolateCell_core c s)

theorem State.isolateCell_crn (c : Nat) (s : State) : (s.isolateCell c).crn = s.crn := by
  simpa only [State.core_crn] using congrArg State.crn (State.isolateCell_core c s)

theorem State.isolateCell_stg (c : Nat) (s : State) : (s.isolateCell c).stg = s.stg := by
  simpa only [State.core_stg] using congrArg State.stg (State.isolateCell_core c s)

theorem State.isolateCell_faults (c : Nat) (s : State) : (s.isolateCell c).faults = s.faults :=
  State.isolateCell_keeps State.faults (fun _ _ => State.faults_congr (State.startWake_flt ..)) (fun _ _ => rfl)
    (fun _ _ => State.isolatePorts_faults _ _) c s

/-- A fatal event of a cell stays live and its FATAL bit set while the cell is isolated. -/
theorem State.raise_isolateCell_spec {c : Nat} (hc : c < 64) (n : Nat) (s : State) :
    let t := (s.raise { src := 1024 + c, reason := n, cls := 3, live := true }).isolateCell c
    (t.cell c).fatalIso = true ∧ ((s.cell c).fatalIso = false → (t.cell c).isoSoon = !(s.cell c).out) ∧
      (s.fltRuns = true → (1024 + c, n) ∈ t.flt.live ∧ t.flt.fatal.getLsbD (1024 + c) = true) ∧ t.crn = s.crn ∧ t.stg = s.stg := by
  intro t
  have hcell := State.isolateCell_cell c (s.raise { src := 1024 + c, reason := n, cls := 3, live := true })
  have hsame (e : Ev) : (s.raise e).cell c = s.cell c := by rw [State.cell, State.raise_cel]; rfl
  rw [hsame] at hcell
  have hfatal : t.flt.fatal = _ := congrArg Prod.snd (State.isolateCell_faults c _)
  refine ⟨hcell.1, hcell.2, fun hruns => ?_, (State.isolateCell_crn c _).trans (State.raise_crn _ s),
    (State.isolateCell_stg c _).trans (State.raise_stg _ s)⟩
  have hseen : s.eventSeen (1024 + c) = true := by simp [State.eventSeen, hruns]
  rw [hfatal, show t.flt.live = _ from State.isolateCell_live c _]
  exact ⟨State.mem_raise_live (e := { src := 1024 + c, reason := n, cls := 3, live := true }) hseen rfl,
    (State.raise_bits (e := { src := 1024 + c, reason := n, cls := 3, live := true }) hseen (by simp only; omega)).2.2 rfl⟩

theorem exec_cellWakeTimeout {s : State} {c : Fin 64} {b : Bool} (h : (s.cell c.val).st = .waking b) :
    exec (.cellWakeTimeout c) s = .next (if (s.cell c.val).wakeAt + 2600 ≤ s.upNs then
      (s.raise { src := 1024 + c.val, reason := 9, cls := 3, live := true }).isolateCell c else s) := by
  change execCellWakeTimeout c s = _
  unfold execCellWakeTimeout
  simp only [h, State.passed, decide_eq_true_eq]

theorem exec_cellIsolation {s : State} {c : Fin 64} (hst : (s.cell c.val).st ≠ .off)
    (hlive : (1024 + c.val, 9) ∈ s.flt.live ∨ (1024 + c.val, 10) ∈ s.flt.live) :
    exec (.cellIsolation c) s = .next (s.isolateCell c) :=
  congrArg Host.Outcome.next (if_pos ⟨hst, by simpa using hlive⟩)

theorem cellIsolation_spec {s : State} {c : Fin 64} (hst : (s.cell c.val).st ≠ .off)
    (hlive : (1024 + c.val, 9) ∈ s.flt.live ∨ (1024 + c.val, 10) ∈ s.flt.live) :
    ∃ t, exec (.cellIsolation c) s = .next t ∧ (t.cell c.val).fatalIso = true ∧ t.crn = s.crn ∧ t.stg = s.stg ∧
      ((s.cell c.val).fatalIso = true → t = s) ∧
      ((s.cell c.val).fatalIso = false → (t.cell c.val).isoSoon = (!(s.cell c.val).out) ∧ (∀ p, p / 16 ≠ c.val → t.port p = s.port p) ∧
        ∀ i, i < 16 → (t.port (16 * c.val + i)).link = if (s.port (16 * c.val + i)).link = .disabled then .disabled else .isolated) := by
  obtain ⟨hiso, hsoon⟩ := State.isolateCell_cell c.val s
  refine ⟨_, exec_cellIsolation hst hlive, hiso, State.isolateCell_crn _ s, State.isolateCell_stg _ s, State.isolateCell_again,
    fun h => ⟨hsoon h, fun p hp => ?_, fun i hi => ?_⟩⟩
  · rw [State.isolateCell_port h, State.isolatePorts_port_other hp]
  · rw [State.isolateCell_port h, State.isolatePorts_link hi]

/-! ## Failures of units (14 R485; 16 R540, R549) -/

/-- Who sees the failure of a unit: Cairn its rail and the flash, the FLT block every other. -/
def State.seesFailure (s : State) (u : SupplyUnit) : Bool :=
  match u with | .rail => s.cairnRuns | .flash => s.cairnRuns | _ => s.fltRuns

theorem exec_supplyFault_seen {s : State} {u : SupplyUnit} (h : s.seesFailure u = true) :
    exec (.supplyFault u) s = .next (s.unitFault u) := by
  refine congrArg Host.Outcome.next (if_pos ?_)
  cases u <;> exact h

theorem exec_supplyFault_unseen {s : State} {u : SupplyUnit} (h : s.seesFailure u = false) :
    exec (.supplyFault u) s = .next s := by
  refine congrArg Host.Outcome.next (if_neg ?_)
  cases u <;> exact Bool.eq_false_iff.mp h

/-- A failure that nobody sees. -/
theorem State.seesFailure_false {s : State} {u : SupplyUnit} (hf : s.fltRuns = false)
    (hc : s.cairnRuns = false ∨ u ≠ .rail ∧ u ≠ .flash) : s.seesFailure u = false := by
  cases u with
  | rail => exact hc.elim id fun h => absurd rfl h.1
  | flash => exact hc.elim id fun h => absurd rfl h.2
  | _ => exact hf

/-- While Cairn runs, the event of a source that it holds is seen. -/
theorem State.eventSeen_cairn {s : State} {n : Nat} (h : s.cairnRuns = true) (hn : cairnSource n = true) : s.eventSeen n = true := by
  unfold State.eventSeen
  rw [hn, Bool.true_and]
  exact Bool.or_eq_true_iff.mpr (.inr h)

/-- A degraded event that is seen sets EVT alone of the three status bits. -/
theorem State.raise_degraded {e : Ev} {s : State} (hs : s.eventSeen e.src = true) (hc : e.cls < 2) :
    (s.raise e).flt.evt = s.flt.evt ||| srcMask e.src ∧ (s.raise e).flt.flt = s.flt.flt := by
  refine ⟨?_, congrArg Prod.fst (State.raise_faults hc s)⟩
  unfold State.raise
  rw [if_pos hs]
  rfl

/-- A fatal event that is seen asks for the module fatal reset, of which the first keeps its place, and seals the journal. -/
theorem State.fatalEvent_spec {e : Ev} {s : State} (hs : s.eventSeen e.src = true) (hc : e.cls = 3) :
    let t := s.fatalEvent e
    t = { s with flt := t.flt, img := t.img, sup := t.sup, crn := t.crn } ∧
      t.crn = { s.crn with fatalTrig := t.crn.fatalTrig, fatalAt := t.crn.fatalAt } ∧
      (s.crn.fatalTrig = none → t.crn.fatalAt = s.upNs) ∧ t.crn.fatalTrig = some (s.crn.fatalTrig.getD (e.src, e.reason)) ∧
      t.flt.fatal = s.flt.fatal ||| srcMask e.src ∧ (s.crn.fwRuns = true → t.img.open_ = none) := by
  have hseal (u : State) : u.sealBegin = { u with img := u.sealBegin.img, sup := u.sealBegin.sup } := by
    unfold State.sealBegin; dsimp only; split <;> rfl
  have hclosed (u : State) : u.sealBegin.img.open_ = none := by
    unfold State.sealBegin
    dsimp only
    split
    next hnone => exact hnone
    next => rfl
  have hfatal : (s.raise e).flt.fatal = s.flt.fatal ||| srcMask e.src := by
    unfold State.raise
    rw [if_pos hs]
    exact if_pos hc
  generalize hu : (s.raise e).onIf s.crn.fwRuns State.sealBegin = u
  have hkept : u = { s with flt := (s.raise e).flt, img := u.img, sup := u.sup } := by
    rw [← hu]
    unfold State.onIf
    split
    · rw [hseal, State.raise_eq]
    · rw [State.raise_eq]
  have hcrn : u.crn = s.crn := by rw [hkept]
  have hfat : s.fatalEvent e = { u with crn := { s.crn with
      fatalTrig := some (s.crn.fatalTrig.getD (e.src, e.reason))
      fatalAt := if s.crn.fatalTrig = none then s.upNs else s.crn.fatalAt } } := by
    unfold State.fatalEvent
    rw [hu, State.onCrn, hcrn]
    cases htrig : s.crn.fatalTrig with
    | none => rfl
    | some x =>
      simp only [Option.getD_some, reduceCtorEq, if_false]
      rw [← htrig]
  rw [hfat]
  refine ⟨by rw [hkept], rfl, fun hnone => if_pos hnone, rfl, ?_, fun hfw => ?_⟩
  · rw [← hfatal, hkept]
  · rw [← hu, hfw]; exact hclosed _

/-- The units whose failure asks for the module fatal reset, with their source and reason. -/
def failsModule (u : SupplyUnit) (src n : Nat) : Prop :=
  (∃ r : Fin 8, u = .ridge r ∧ src = 1088 + r.val ∧ n = 4) ∨ (∃ g : Fin 16, u = .stackGroup g ∧ src = 1096 + g.val ∧ n = 3) ∨
    (∃ (k : Fin 16) (w : Nat), u = .core k w ∧ src = 1112 + k.val ∧ n = 1) ∨ (u = .crypto ∧ src = 1149 ∧ n = 1)

/-- Their failure is a fatal event that is seen. -/
theorem exec_supplyFault_fatal {s : State} {u : SupplyUnit} {src n : Nat}
    (h : failsModule u src n ∧ s.fltRuns = true ∨ u = .rail ∧ src = 1134 ∧ n = 1 ∧ s.cairnRuns = true) :
    ∃ e : Ev, exec (.supplyFault u) s = .next (s.fatalEvent e) ∧ e.src = src ∧ e.reason = n ∧ e.cls = 3 ∧
      s.eventSeen src = true := by
  have hflt (hruns : s.fltRuns = true) : s.eventSeen src = true := by simp [State.eventSeen, hruns]
  rcases h with ⟨⟨r, rfl, rfl, rfl⟩ | ⟨g, rfl, rfl, rfl⟩ | ⟨k, w, rfl, rfl, rfl⟩ | ⟨rfl, rfl, rfl⟩, hruns⟩ | ⟨rfl, rfl, rfl, hruns⟩
  · exact ⟨_, exec_supplyFault_seen (s := s) (u := .ridge r) hruns, rfl, rfl, rfl, hflt hruns⟩
  · exact ⟨_, exec_supplyFault_seen (s := s) (u := .stackGroup g) hruns, rfl, rfl, rfl, hflt hruns⟩
  · exact ⟨_, exec_supplyFault_seen (s := s) (u := .core k w) hruns, rfl, rfl, rfl, hflt hruns⟩
  · exact ⟨_, exec_supplyFault_seen (s := s) (u := .crypto) hruns, rfl, rfl, rfl, hflt hruns⟩
  · exact ⟨_, exec_supplyFault_seen (s := s) (u := .rail) hruns, rfl, rfl, rfl, State.eventSeen_cairn hruns (by decide)⟩

theorem supplyFault_fatal {s : State} {u : SupplyUnit} {src n : Nat}
    (h : failsModule u src n ∧ s.fltRuns = true ∨ u = .rail ∧ src = 1134 ∧ n = 1 ∧ s.cairnRuns = true) :
    ∃ t, exec (.supplyFault u) s = .next t ∧ t = { s with flt := t.flt, img := t.img, sup := t.sup, crn := t.crn } ∧
      t.crn = { s.crn with fatalTrig := t.crn.fatalTrig, fatalAt := t.crn.fatalAt } ∧
      (s.crn.fatalTrig = none → t.crn.fatalAt = s.upNs) ∧ t.crn.fatalTrig = some (s.crn.fatalTrig.getD (src, n)) ∧
      t.flt.fatal = s.flt.fatal ||| srcMask src ∧ (s.crn.fwRuns = true → t.img.open_ = none) := by
  obtain ⟨e, hexec, rfl, rfl, hcls, hseen⟩ := exec_supplyFault_fatal h
  exact ⟨_, hexec, State.fatalEvent_spec hseen hcls⟩

/-- The failure of a powered cell's supply isolates it. -/
theorem supplyFault_cell {s : State} (hruns : s.fltRuns = true) (c : Fin 64) :
    ((s.cell c.val).st = .off → exec (.supplyFault (.cell c)) s = .next s) ∧
      ((s.cell c.val).st ≠ .off → ∃ t, exec (.supplyFault (.cell c)) s = .next t ∧ (t.cell c.val).fatalIso = true ∧
        (1024 + c.val, 10) ∈ t.flt.live ∧ t.flt.fatal.getLsbD (1024 + c.val) = true ∧ t.crn = s.crn) := by
  have hexec := exec_supplyFault_seen (s := s) (u := .cell c) hruns
  refine ⟨fun hoff => hexec.trans (congrArg _ (if_pos hoff)), fun hon => ?_⟩
  obtain ⟨hiso, -, hevent, hcrn, -⟩ := State.raise_isolateCell_spec c.isLt 10 s
  obtain ⟨hlive, hfatal⟩ := hevent hruns
  exact ⟨_, hexec.trans (congrArg _ (if_neg hon)), hiso, hlive, hfatal, hcrn⟩

/-- An uncorrectable word of the PCI Express controller or of the flash raises a degraded event. -/
theorem supplyFault_degraded {s : State} {u : SupplyUnit} {src : Nat} (hu : u = .pcie ∧ src = 1144 ∨ u = .flash ∧ src = 1136)
    (hsees : s.seesFailure u = true) : ∃ t, exec (.supplyFault u) s = .next t ∧ t = { s with flt := t.flt } ∧
      t.flt.evt = s.flt.evt ||| srcMask src ∧ t.flt.flt = s.flt.flt := by
  refine ⟨_, exec_supplyFault_seen hsees, ?_⟩
  rcases hu with ⟨rfl, rfl⟩ | ⟨rfl, rfl⟩
  · have hseen : s.eventSeen 1144 = true := Bool.or_eq_true_iff.mpr (.inl hsees)
    exact ⟨State.raise_eq _ s, State.raise_degraded hseen (Nat.one_lt_two)⟩
  · exact ⟨State.raise_eq _ s, State.raise_degraded (State.eventSeen_cairn hsees (by decide)) Nat.one_lt_two⟩

/-- Settles O54: a cell applies the epoch or is isolated; then the cells and the other units that fail. -/
theorem cellIsolation : Obligations.CellIsolation := by
  unfold Obligations.CellIsolation
  refine ⟨⟨fun s c slots => ?apply, fun s c slots h => ?skips, fun s c slots hp happ hiso => commitIsolation_spec hp happ hiso slots⟩,
    fun s c b h => ?timeout, fun s c hst hlive => cellIsolation_spec hst hlive,
    fun s => ⟨fun u hf hc => exec_supplyFault_unseen (State.seesFailure_false hf hc), fun c hruns => supplyFault_cell hruns c,
      fun hruns => supplyFault_degraded (.inl ⟨rfl, rfl⟩) hruns, fun hruns => supplyFault_degraded (.inr ⟨rfl, rfl⟩) hruns,
      fun u src n h => supplyFault_fatal h⟩⟩
  case apply =>
    intro x acts
    by_cases h : acts
    · obtain ⟨t, hexec, hspec⟩ := cellEpochApply_spec (s := s) (c := c) h slots
      exact ⟨t, hexec, fun hno => absurd h hno, fun _ => hspec⟩
    · exact ⟨_, exec_cellEpochApply_waits (s := s) (c := c) h slots, fun _ => rfl, fun hyes => absurd hyes h⟩
  case skips =>
    exact (exec_commitIsolation c slots s).trans (congrArg _ (if_pos (by simpa using h)))
  case timeout =>
    have hexec := exec_cellWakeTimeout h
    refine ⟨fun hearly => hexec.trans (congrArg _ (if_neg (by omega))), fun hlate => ?_⟩
    exact ⟨_, hexec.trans (congrArg _ (if_pos hlate)), State.raise_isolateCell_spec c.isLt 9 s⟩

end Sys2Proof.Machine
end

section
/-!
REFUTATION of EpochsAndSnapshots (O7). Its first clause says what a COMMIT answers whatever the cut of power that comes with it. The
model asks of such a cut whether the command burned fuses, by comparing the two OTP tables entry by entry (15 R510); in a state whose table
of owner digests lists a slot twice the second entry never compares equal to what the slot reads, so that a COMMIT that is only answered
BUSY counts as a burn, and the cut leaves the module without power.
-/

namespace Sys2Proof.Machine

open Sys2Proof

/-- A loss of power before the last fuse of a burn leaves the module without power. -/
theorem interruptBurn_cut {b : Burn} {s t : State} {k : Nat} (hcut : b.cut = some k) (hk : k < s.sec.burned t.sec) :
    interruptBurn b s (.next t) = .next ({ s with sec := s.sec.partBurn t.sec k } : State).powerOff := by
  unfold interruptBurn
  rw [hcut]
  exact if_pos hk

/-- A COMMIT that finds another one pending is answered BUSY, unless a cut of power interrupts it. -/
theorem exec_commit_busy {s : State} {r q : Req} {b : Burn} (h : s.Accepts 0x0010 r q) (he : q.ExtSize 0) (hf : s.flt.fatal = 0)
    (hp : s.hif.pend = true) : exec (.commit r b) s = interruptBurn b s (.next (s.respond 0x0010 q stBusy [])) := by
  refine congrArg (interruptBurn b s) ((mailbox_accepted h rfl rfl (by simp) (by simpa using he) (fun _ => hf) rfl).trans ?_)
  exact congrArg Host.Outcome.next (if_pos (by simp [hp]))

/-- A module in Run in which a commit is pending, with a local session and a message taken on ring pair 0; its OTP lists slot 0 twice. -/
def doubledSlot : State :=
  { State.reset with
    crn := { mod := .run, fwRuns := true, pcieUp := true }
    hif := { ready := true, pend := true, sessions := [{ id := 1 }]
             mbx := [(0, { enable := true, idle := false, exec := some 0, log2size := 4 })] }
    sec := { ownerDigest := [(0, [1]), (0, [2])] } }

/-- The COMMIT that it has taken. -/
def takenCommit : Req := { via := .ring 0, session := 1, length := 4, words := [] }

theorem doubledSlot_accepts : doubledSlot.Accepts 0x0010 takenCommit takenCommit := by
  unfold State.Accepts; decide +kernel

/-- Between the OTP and itself one fuse seems burned, that of the second entry. -/
theorem doubledSlot_burned : doubledSlot.sec.burned doubledSlot.sec = 1 := by decide +kernel

/-- A cut before the first fuse therefore leaves the module without power. -/
theorem exec_commit_doubledSlot : exec (.commit takenCommit { cut := some 0 }) doubledSlot =
    .next ({ doubledSlot with sec := doubledSlot.sec.partBurn doubledSlot.sec 0 } : State).powerOff := by
  have hsec : (doubledSlot.respond 0x0010 takenCommit stBusy []).sec = doubledSlot.sec := State.respond_sec _ _ _ _ _
  rw [exec_commit_busy doubledSlot_accepts (by unfold Req.ExtSize; decide) rfl rfl,
    interruptBurn_cut rfl (by rw [hsec, doubledSlot_burned]; decide), hsec]

/-- Refutes O7: the COMMIT is to be answered BUSY, which leaves the module in Run, and the module is without power. -/
theorem not_epochsAndSnapshots : ¬ Obligations.EpochsAndSnapshots := by
  unfold Obligations.EpochsAndSnapshots
  intro h
  obtain ⟨hcommit, -⟩ := h
  obtain ⟨hbusy, -⟩ := hcommit doubledSlot takenCommit takenCommit { cut := some 0 } doubledSlot_accepts
    (by unfold Req.ExtSize; decide) rfl (by decide)
  have hsame := Host.Outcome.next.inj (exec_commit_doubledSlot.symm.trans (hbusy (.inl rfl)))
  have hmod := congrArg (fun t : State => t.crn.mod) hsame
  rw [State.respond_crn] at hmod
  exact absurd hmod (by decide)

end Sys2Proof.Machine
end

section
/-!
PROOF of EpochIsNeverZero (O56). CURRENT changes at a publish and at the loss of power alone (04 R137; 02 R71): every other
update of the state, and with them every other instruction, keeps it.
-/

namespace Sys2Proof.Machine

open Sys2Proof

/-! ## Outcomes that keep CURRENT, and outcomes that keep its range -/

/-- The outcome goes on to states with the CURRENT of `s` alone. -/
def Res.KeepsEpoch (s : State) (x : Res) : Prop := ∀ t, x = .next t → t.hif.epoch = s.hif.epoch

/-- The outcome goes on to states whose CURRENT is in its range alone. -/
def Res.EpochSound (x : Res) : Prop := ∀ t, x = .next t → t.EpochSound

theorem State.EpochSound.congr {s t : State} (h : s.EpochSound) (e : t.hif.epoch = s.hif.epoch) : t.EpochSound := by
  unfold State.EpochSound at h ⊢
  rwa [e]

theorem Res.EpochSound.next {s : State} (h : s.EpochSound) : Res.EpochSound (.next s) := by
  rintro t ⟨⟩
  exact h

theorem Res.KeepsEpoch.sound {s : State} {x : Res} (h : s.EpochSound) (hx : Res.KeepsEpoch s x) : Res.EpochSound x :=
  fun t ht => h.congr (hx t ht)

theorem Res.KeepsEpoch.next {s t : State} (h : t.hif.epoch = s.hif.epoch) : Res.KeepsEpoch s (.next t) := by
  rintro u ⟨⟩
  exact h

/-! ## Choices and folds -/

@[simp] theorem State.ite_epoch {p : Prop} [Decidable p] (s t : State) :
    (if p then s else t).hif.epoch = if p then s.hif.epoch else t.hif.epoch :=
  apply_ite (fun a : State => a.hif.epoch) p s t

theorem State.ite_epoch_eq {p : Prop} [Decidable p] {s t : State} {n : Nat} (hs : s.hif.epoch = n) (ht : t.hif.epoch = n) :
    (if p then s else t).hif.epoch = n := by
  split
  · exact hs
  · exact ht

theorem Ans.ite_epoch_eq {p : Prop} [Decidable p] {a b : Ans} {n : Nat} (ha : a.st.hif.epoch = n) (hb : b.st.hif.epoch = n) :
    (if p then a else b).st.hif.epoch = n := by
  split
  · exact ha
  · exact hb

@[simp] theorem State.snd_ite_epoch {α : Type} {p : Prop} [Decidable p] (x y : α × State) :
    (if p then x else y).2.hif.epoch = if p then x.2.hif.epoch else y.2.hif.epoch :=
  apply_ite (fun a : α × State => a.2.hif.epoch) p x y

@[simp] theorem State.onIf_epoch {b : Bool} {f : State → State} {s : State} (h : (f s).hif.epoch = s.hif.epoch) :
    (s.onIf b f).hif.epoch = s.hif.epoch :=
  State.onIf_keeps (·.hif.epoch) b f s h

@[simp] theorem State.foldl_epoch {β : Type} {f : State → β → State} {l : List β} {s : State}
    (h : ∀ a x, (f a x).hif.epoch = a.hif.epoch) : (l.foldl f s).hif.epoch = s.hif.epoch :=
  foldl_keeps (·.hif.epoch) f h l s

/-! ## Reductions of the state that keep CURRENT -/

theorem State.epoch_of_anchor {s t : State} (h : t.anchor = s.anchor) : t.hif.epoch = s.hif.epoch := congrArg Anchor.epoch h

theorem State.epoch_of_footing {s t : State} (h : t.footing = s.footing) : t.hif.epoch = s.hif.epoch := by
  rw [← State.footing_hif t, h, State.footing_hif]

theorem State.epoch_of_core {s t : State} (h : t.core = s.core) : t.hif.epoch = s.hif.epoch := by
  rw [← State.core_hif t, h, State.core_hif]

theorem State.epoch_of_apart {s t : State} (h : t.apart = s.apart) : t.hif.epoch = s.hif.epoch := by
  have hhif : t.apart.hif = s.apart.hif := by rw [h]
  exact congrArg Hif.epoch hhif

/-! ## Interrupts, events and the host's memory (04; 05; 16) -/

@[simp] theorem State.sendVector_epoch (v : Nat) (s : State) : (s.sendVector v).hif.epoch = s.hif.epoch :=
  State.epoch_of_anchor (State.sendVector_anchor ..)

@[simp] theorem State.irq_epoch (n : Nat) (s : State) : (s.irq n).hif.epoch = s.hif.epoch :=
  State.epoch_of_anchor (State.irq_anchor ..)

@[simp] theorem State.hostPut_epoch (addr : Nat) (data : List Byte) (s : State) :
    (s.hostPut addr data).hif.epoch = s.hif.epoch := by simp [State.hostPut]

@[simp] theorem State.signalRing_epoch (i : Nat) (s : State) : (s.signalRing i).hif.epoch = s.hif.epoch :=
  State.epoch_of_anchor (State.signalRing_anchor ..)

@[simp] theorem State.writeEntry_epoch (i size : Nat) (e : List Word) (s : State) :
    (s.writeEntry i size e).hif.epoch = s.hif.epoch := by simp [State.writeEntry]

@[simp] theorem State.writeEvent_epoch (i : Nat) (e : List Word) (s : State) :
    (s.writeEvent i e).hif.epoch = s.hif.epoch := State.epoch_of_anchor (State.writeEvent_anchor ..)

@[simp] theorem State.pushEvent_epoch (kind cls src time : Nat) (body : List Word) (own : Bool) (s : State) :
    (s.pushEvent kind cls src time body own).hif.epoch = s.hif.epoch :=
  State.epoch_of_anchor (State.pushEvent_anchor ..)

@[simp] theorem State.kindEvent_epoch (kind cls src : Nat) (body : List Word) (own : Bool) (s : State) :
    (s.kindEvent kind cls src body own).hif.epoch = s.hif.epoch := by simp [State.kindEvent]

/-! ## Performance counters and samples (17) -/

@[simp] theorem State.pmuSpan_epoch (b ev lo hi : Nat) (s : State) : (s.pmuSpan b ev lo hi).hif.epoch = s.hif.epoch := by
  simp [State.pmuSpan]

@[simp] theorem State.pmuOpen_epoch (b ev : Nat) (s : State) : (s.pmuOpen b ev).hif.epoch = s.hif.epoch := by
  simp [State.pmuOpen]

/-! ## The mailbox (04) -/

@[simp] theorem State.writeResponse_epoch (n : Nat) (e : HeldRsp) (s : State) :
    (s.writeResponse n e).hif.epoch = s.hif.epoch := State.epoch_of_anchor (State.writeResponse_anchor ..)

@[simp] theorem State.countDone_epoch (s : State) : s.countDone.hif.epoch = s.hif.epoch :=
  State.epoch_of_anchor (State.countDone_anchor ..)

/-- A command leaves the CURRENT that it found, or the one of the state that its own answer carries. -/
theorem State.finish_epoch (op : Nat) (r : Req) (s : State) (a : Ans) :
    (s.finish op r a).hif.epoch = s.hif.epoch ∨ (s.finish op r a).hif.epoch = a.st.hif.epoch := by
  unfold State.finish
  split
  · split
    · split <;> simp
    · (repeat' split) <;> simp
  · split <;> simp

theorem State.finish_epoch_eq {op : Nat} {r : Req} {s : State} {a : Ans} (h : a.st.hif.epoch = s.hif.epoch) :
    (s.finish op r a).hif.epoch = s.hif.epoch :=
  (State.finish_epoch op r s a).elim id (·.trans h)

theorem Res.KeepsEpoch.mailbox {op : Nat} {r : Req} {s : State} {chk : Req → Chk} {run : Req → Ans}
    (h : ∀ q, (run q).st.hif.epoch = s.hif.epoch) : Res.KeepsEpoch s (mailbox op r s chk run) := by
  refine .next ?_
  dsimp only
  split
  · rfl
  · split
    · exact State.finish_epoch_eq (h _)
    · exact State.respond_epoch _ _ _ _ s

theorem Res.KeepsEpoch.mailboxThen {op : Nat} {r : Req} {s : State} {chk : Req → Chk} {run : Req → Ans}
    {after : Req → State → State} (h : ∀ q, (run q).st.hif.epoch = s.hif.epoch)
    (ha : ∀ q t, (after q t).hif.epoch = t.hif.epoch) : Res.KeepsEpoch s (mailboxThen op r s chk run after) := by
  refine .next ?_
  dsimp only
  split
  · rfl
  · split
    · split
      · exact (ha _ _).trans (State.finish_epoch_eq (h _))
      · exact State.finish_epoch_eq (h _)
    · exact State.respond_epoch _ _ _ _ s

/-- A command keeps the range of CURRENT where the state that its own answer carries has it in range. -/
theorem Res.EpochSound.mailbox {op : Nat} {r : Req} {s : State} {chk : Req → Chk} {run : Req → Ans} (h : s.EpochSound)
    (hr : ∀ q, (run q).st.EpochSound) : Res.EpochSound (mailbox op r s chk run) := by
  refine .next ?_
  dsimp only
  split
  · exact h
  · split
    · exact (State.finish_epoch _ _ s _).elim h.congr (hr _).congr
    · exact h.congr (State.respond_epoch _ _ _ _ s)

@[simp] theorem State.snapTake_epoch (s : State) : s.snapTake.hif.epoch = s.hif.epoch := by simp [State.snapTake]

@[simp] theorem State.sees_epoch (slots : BitVec 8) (s : State) : (s.sees slots).hif.epoch = s.hif.epoch := (rfl)

@[simp] theorem State.answerDeferred_epoch (p : DeferKind → Bool) (ws : DeferKind → List Word) (s : State) :
    (s.answerDeferred p ws).hif.epoch = s.hif.epoch := State.epoch_of_anchor (State.answerDeferred_anchor ..)

/-! ## Staging, the journal and the publish of an epoch (04 R137 to R141; 14 R497 to R501) -/

@[simp] theorem State.settleCommit_epoch (s : State) : s.settleCommit.hif.epoch = s.hif.epoch :=
  State.epoch_of_anchor (State.settleCommit_anchor ..)

/-- A publish makes the next number CURRENT (04 R137). -/
theorem State.publish_epoch (on : Bool) (cfg : Cfg) (cmds : List (List Word)) (s : State) :
    (s.publish on cfg cmds).hif.epoch = nextEpoch s.hif.epoch := by
  simp [State.publish]

/-- The number after one in the range is in the range: 1 follows 0xFFFF. -/
theorem State.EpochSound.of_nextEpoch {s t : State} (h : s.EpochSound) (e : t.hif.epoch = nextEpoch s.hif.epoch) : t.EpochSound := by
  obtain ⟨hlow, hhigh⟩ := h
  unfold State.EpochSound
  rw [e, nextEpoch]
  split <;> omega

/-! ## Ports as the configuration has them -/

@[simp] theorem State.parkPort_epoch (p : Nat) (s : State) : (s.parkPort p).hif.epoch = s.hif.epoch := (rfl)

@[simp] theorem State.parkPorts_epoch (old : Cfg) (s : State) : (s.parkPorts old).hif.epoch = s.hif.epoch := by
  simp [State.parkPorts]

/-! ## Records of the flow store (09) -/

@[simp] theorem State.setRec_epoch (h : Nat) (r : Rec) (s : State) : (s.setRec h r).hif.epoch = s.hif.epoch := (rfl)

@[simp] theorem State.onRec_epoch (h : Nat) (f : Rec → Rec) (s : State) : (s.onRec h f).hif.epoch = s.hif.epoch := by
  unfold State.onRec
  split <;> simp

@[simp] theorem State.moveRec_epoch (v alt : Nat) (s : State) : (s.moveRec v alt).hif.epoch = s.hif.epoch := by
  unfold State.moveRec
  split <;> simp

@[simp] theorem State.placeFor_epoch (k : FKey) (s : State) : (s.placeFor k).2.hif.epoch = s.hif.epoch := by
  dsimp only [State.placeFor]
  split
  · rfl
  · rfl
  · split
    · exact State.foldl_epoch fun a x => State.moveRec_epoch _ _ a
    · rfl

@[simp] theorem State.countRefusal_epoch (e z st : Nat) (s : State) :
    (s.countRefusal e z st).hif.epoch = s.hif.epoch := by simp [State.countRefusal]

@[simp] theorem State.createRec_epoch (e : Nat) (r : Rec) (s : State) : (s.createRec e r).2.hif.epoch = s.hif.epoch := by
  have hplace := State.placeFor_epoch r.fkey s
  dsimp only [State.createRec]
  split
  · simp
  · split
    · simp
    · next heq =>
      rw [heq] at hplace
      simpa using hplace

/-- The state of a pair that is known. -/
theorem State.epoch_of_mk {α : Type} {x : α × State} {a : α} {s t : State} (h : x.2.hif.epoch = s.hif.epoch) (e : x = (a, t)) :
    t.hif.epoch = s.hif.epoch := by
  rw [e] at h
  exact h

theorem State.createRec_epoch_of_eq {e : Nat} {r : Rec} {s t : State} {x : Except Nat Nat} (h : s.createRec e r = (x, t)) :
    t.hif.epoch = s.hif.epoch :=
  State.epoch_of_mk (State.createRec_epoch e r s) h

@[simp] theorem State.sendCoh_epoch (kind h : Nat) (mask : BitVec 8) (s : State) :
    (s.sendCoh kind h mask).hif.epoch = s.hif.epoch := (rfl)

@[simp] theorem State.lockFor_epoch (kind h : Nat) (why : LockWhy) (s : State) :
    (s.lockFor kind h why).hif.epoch = s.hif.epoch := by
  unfold State.lockFor
  split <;> simp

@[simp] theorem State.natFree_epoch (e : Nat) (w : Word) (s : State) : (s.natFree e w).hif.epoch = s.hif.epoch := by
  simp [State.natFree]

@[simp] theorem State.natRelease_epoch (e natWord : Nat) (ws : List Word) (s : State) :
    (s.natRelease e natWord ws).hif.epoch = s.hif.epoch := by simp [State.natRelease]

@[simp] theorem State.queueExport_epoch (event : Bool) (e : Nat) (x : Export) (s : State) :
    (s.queueExport event e x).hif.epoch = s.hif.epoch := by simp [State.queueExport]

@[simp] theorem State.countFlush_epoch (z : Nat) (s : State) : (s.countFlush z).hif.epoch = s.hif.epoch := (rfl)

@[simp] theorem State.evict_epoch (h reason : Nat) (s : State) : (s.evict h reason).hif.epoch = s.hif.epoch := by
  unfold State.evict
  split <;> simp

@[simp] theorem State.evictSoon_epoch (h reason : Nat) (s : State) : (s.evictSoon h reason).hif.epoch = s.hif.epoch := by
  unfold State.evictSoon
  split <;> simp

@[simp] theorem State.quarantine_epoch (access who h : Nat) (s : State) :
    (s.quarantine access who h).hif.epoch = s.hif.epoch := by
  unfold State.quarantine
  split <;> simp

/-! ## Status and duty (16; 01 R30) -/

theorem State.dutyPlace_epoch {s t : State} (e : s.dutyPlace = some t) : t.hif.epoch = s.hif.epoch := by
  unfold State.dutyPlace at e
  split at e
  · cases e; rfl
  · obtain ⟨c, _, rfl⟩ := Option.map_eq_some_iff.mp e
    simp

theorem State.dutyPlaceIf_epoch {b : Bool} {s t : State} (e : (if b then some s else s.dutyPlace) = some t) :
    t.hif.epoch = s.hif.epoch := by
  split at e
  · cases e; rfl
  · exact State.dutyPlace_epoch e

/-! ## The policy in force (14 R496) -/

@[simp] theorem State.setQuotas_epoch (s : State) : s.setQuotas.hif.epoch = s.hif.epoch := (rfl)

@[simp] theorem State.usePolicy_epoch (b : Nat) (g : Slot) (s : State) : (s.usePolicy b g).hif.epoch = s.hif.epoch :=
  (rfl)

@[simp] theorem State.noPolicy_epoch (s : State) : s.noPolicy.hif.epoch = s.hif.epoch := (rfl)

@[simp] theorem State.fuseWrong_epoch (did : Bool) (s : State) : (s.fuseWrong did).hif.epoch = s.hif.epoch := by
  simp [State.fuseWrong]

@[simp] theorem State.commitPolicy_epoch (b : Burn) (s : State) : (s.commitPolicy b).hif.epoch = s.hif.epoch := by
  unfold State.commitPolicy
  split <;> simp

/-! ## Resets and the loss of power (03 R95 to R103; 02 R71) -/

@[simp] theorem State.dropStore_epoch (s : State) : s.dropStore.hif.epoch = s.hif.epoch := (rfl)

@[simp] theorem State.keepStore_epoch (s : State) : s.keepStore.hif.epoch = s.hif.epoch := (rfl)

@[simp] theorem State.resetFlt_epoch (s : State) : s.resetFlt.hif.epoch = s.hif.epoch := (rfl)

@[simp] theorem State.resetHif_epoch (keepMsix : Bool) (s : State) : (s.resetHif keepMsix).hif.epoch = s.hif.epoch :=
  (rfl)

@[simp] theorem State.resetJournal_epoch (s : State) : s.resetJournal.hif.epoch = s.hif.epoch := (rfl)

@[simp] theorem State.endTrial_epoch (s : State) : s.endTrial.hif.epoch = s.hif.epoch := by simp [State.endTrial]

@[simp] theorem State.pmuDrop_epoch (gone : Nat → Bool) (s : State) : (s.pmuDrop gone).hif.epoch = s.hif.epoch :=
  (rfl)

@[simp] theorem State.applyReset_epoch (k : ResetKind) (back : ModState) (keep : Bool) (s : State) :
    (s.applyReset k back keep).hif.epoch = s.hif.epoch := by simp [State.applyReset]

@[simp] theorem State.beginReset_epoch (k : ResetKind) (s : State) : (s.beginReset k).hif.epoch = s.hif.epoch := by
  simp [State.beginReset]

@[simp] theorem State.dropUnsealed_epoch (s : State) : s.dropUnsealed.hif.epoch = s.hif.epoch := by
  simp [State.dropUnsealed]

/-- Without power CURRENT is the 1 that reset leaves. -/
theorem State.powerOff_epochSound (s : State) : s.powerOff.EpochSound := by
  simp [State.EpochSound, State.powerOff]

theorem Res.EpochSound.interruptBurn {b : Burn} {s : State} {x : Res} (hx : Res.EpochSound x) :
    Res.EpochSound (interruptBurn b s x) := by
  unfold Machine.interruptBurn
  split
  · split
    · exact .next (State.powerOff_epochSound _)
    · exact hx
  · exact hx

/-! ## Sessions, commits and snapshots (04 R134 to R146) -/

theorem execSessionOpen_keepsEpoch {r : Req} {s : State} : Res.KeepsEpoch s (execSessionOpen r s) := by
  refine .mailbox fun _ => ?_
  dsimp only
  (repeat' split) <;> simp

@[simp] theorem State.closeSessions_epoch (p : Session → Bool) (s : State) :
    (s.closeSessions p).hif.epoch = s.hif.epoch := (rfl)

theorem execSessionClose_keepsEpoch {r : Req} {s : State} : Res.KeepsEpoch s (execSessionClose r s) :=
  .mailbox fun _ => rfl

theorem execCommit_epochSound {r : Req} {b : Burn} {s : State} (h : s.EpochSound) : Res.EpochSound (execCommit r b s) := by
  refine .interruptBurn (.mailbox h fun q => ?_)
  dsimp only
  split
  · exact h
  · split
    · exact h
    · exact h.of_nextEpoch (by simp [State.publish_epoch])

theorem execEpochStatus_keepsEpoch {r : Req} {s : State} : Res.KeepsEpoch s (execEpochStatus r s) :=
  .mailbox fun _ => rfl

@[simp] theorem State.discardStaged_epoch (s : State) : s.discardStaged.hif.epoch = s.hif.epoch := (rfl)

theorem execStageDiscard_keepsEpoch {r : Req} {s : State} : Res.KeepsEpoch s (execStageDiscard r s) :=
  .mailbox fun _ => rfl

theorem execStatsSnapshot_keepsEpoch {r : Req} {s : State} : Res.KeepsEpoch s (execStatsSnapshot r s) :=
  .mailbox fun q => by simp

theorem execSnapshotDone_keepsEpoch {slots : BitVec 8} {s0 : State} : Res.KeepsEpoch s0 (execSnapshotDone slots s0) := by
  refine .next ?_
  split
  · simp only [State.answerDeferred_epoch, State.irq_epoch, State.onHif_hif, State.snapTake_epoch, State.sees_epoch]
  · simp

theorem execUnknownOpcode_keepsEpoch {op : Nat} {r : Req} {s : State} : Res.KeepsEpoch s (execUnknownOpcode op r s) := by
  unfold execUnknownOpcode
  split
  · exact .next rfl
  · exact .mailbox fun _ => rfl

/-! ## Rings and buffers (05) -/

@[simp] theorem State.bpmRefusal_epoch (h : Word) (r : Nat) (own : Bool) (s : State) :
    (s.bpmRefusal h r own).hif.epoch = s.hif.epoch := by simp [State.bpmRefusal]

@[simp] theorem State.bpmFree_epoch (r : Nat) (h : Word) (own : Bool) (s : State) :
    (s.bpmFree r h own).2.hif.epoch = s.hif.epoch := by simp [State.bpmFree]

@[simp] theorem State.bpmTransfer_epoch (r dst : Nat) (h : Word) (own : Bool) (s : State) :
    (s.bpmTransfer r dst h own).2.2.hif.epoch = s.hif.epoch := by
  unfold State.bpmTransfer
  (repeat' split) <;> simp

@[simp] theorem State.access_epoch (off : Nat) {f : State → State} (s : State) (hf : ∀ t, (f t).hif.epoch = t.hif.epoch) :
    (s.access off f).hif.epoch = s.hif.epoch := by
  unfold State.access
  split
  · simp [hf]
  · rfl

theorem execBpmAllocReq_keepsEpoch {q : Fin 32} {v : Word} {s : State} : Res.KeepsEpoch s (execBpmAllocReq q v s) :=
  .next (by simp)

theorem execBpmFree_keepsEpoch {q : Fin 32} {v : Word} {own : Bool} {s : State} :
    Res.KeepsEpoch s (execBpmFree q v own s) := .next (by simp)

theorem execBpmXfer_keepsEpoch {q : Fin 32} {v : Word} {own : Bool} {s : State} :
    Res.KeepsEpoch s (execBpmXfer q v own s) := .next (by simp)

theorem execFirmwarePuntReceive_keepsEpoch {c : Fin 64} {s : State} :
    Res.KeepsEpoch s (execFirmwarePuntReceive c s) := by
  refine .next ?_
  split <;> simp

@[simp] theorem State.cqFlush_epoch (q n : Nat) (s : State) : (s.cqFlush q n).hif.epoch = s.hif.epoch := by
  simp [State.cqFlush]

@[simp] theorem State.rescan_epoch (l : List Scan) (s : State) : (s.rescan l).hif.epoch = s.hif.epoch := by
  simp [State.rescan]

@[simp] theorem State.flushNext_epoch (i : Nat) (s : State) : (s.flushNext i).hif.epoch = s.hif.epoch := by
  dsimp only [State.flushNext]
  (repeat' split) <;> simp

theorem execDescriptorDone_keepsEpoch {i : Fin 512} {own evOwn : Bool} {scans : List Scan} {s0 : State} :
    Res.KeepsEpoch s0 (execDescriptorDone i own evOwn scans s0) := by
  refine .next ?_
  split <;> simp

theorem execCompletionDoorbell_keepsEpoch {q : Fin 64} {free : Nat} {scans : List Scan} {s : State} :
    Res.KeepsEpoch s (execCompletionDoorbell q free scans s) := .next (by simp)

@[simp] theorem State.eqFlush_epoch (q n : Nat) (s : State) : (s.eqFlush q n).hif.epoch = s.hif.epoch := by
  simp [State.eqFlush]

theorem execEventDoorbell_keepsEpoch {q : Fin 32} {free : Nat} {s : State} :
    Res.KeepsEpoch s (execEventDoorbell q free s) := .next (by simp)

theorem execStallReread_keepsEpoch {i : Fin 96} {free : Nat} {scans : List Scan} {s : State} :
    Res.KeepsEpoch s (execStallReread i free scans s) := .next (by simp)

theorem execHoldoffExpiry_keepsEpoch {i : Fin 96} {s : State} : Res.KeepsEpoch s (execHoldoffExpiry i s) :=
  .next (by simp)

theorem execRingCtrlWrite_keepsEpoch {i : Fin 608} {v : Word} {s : State} :
    Res.KeepsEpoch s (execRingCtrlWrite i v s) := .next (by simp)

theorem execRingIdle_keepsEpoch {i : Fin 608} {s : State} : Res.KeepsEpoch s (execRingIdle i s) := .next (by simp)

theorem execRingDoorbell_keepsEpoch {i : Fin 512} {entries : List (List Word)} {s : State} :
    Res.KeepsEpoch s (execRingDoorbell i entries s) := .next (by simp)

theorem execRingInval_keepsEpoch {v : Word} {s : State} : Res.KeepsEpoch s (execRingInval v s) := .next (by simp)

theorem execInvalidationDone_keepsEpoch {s : State} : Res.KeepsEpoch s (execInvalidationDone s) := .next (by simp)

@[simp] theorem fillDescs_epoch (i : Nat) (p : Punt) (busOk : Bool) (l : List Desc) (sent : Nat) (s : State) :
    (fillDescs i p busOk l sent s).1.hif.epoch = s.hif.epoch := by
  induction l generalizing sent s with
  | nil => rfl
  | cons d l ih =>
    dsimp only [fillDescs]
    (repeat' split) <;> simp [ih]

theorem execPuntDelivery_keepsEpoch {q : Fin 256} {busOk : Bool} {scans : List Scan} {s : State} :
    Res.KeepsEpoch s (execPuntDelivery q busOk scans s) := by
  refine .next ?_
  split <;> simp

theorem execRingSetService_keepsEpoch {r : Req} {s : State} : Res.KeepsEpoch s (execRingSetService r s) :=
  .mailbox fun _ => rfl

theorem execRingPuntMap_keepsEpoch {r : Req} {s : State} : Res.KeepsEpoch s (execRingPuntMap r s) := by
  refine .mailbox fun _ => ?_
  split <;> rfl

theorem execRingEventRoute_keepsEpoch {r : Req} {s : State} : Res.KeepsEpoch s (execRingEventRoute r s) :=
  .mailbox fun _ => rfl

theorem execRingPuntLimit_keepsEpoch {r : Req} {s : State} : Res.KeepsEpoch s (execRingPuntLimit r s) :=
  .mailbox fun _ => rfl

/-! ## Flow programs (10) -/

@[simp] theorem writeOp_epoch (n : Nat) (v : Word) (p : Exec) : (writeOp n v p).2.hif.epoch = p.2.hif.epoch := by
  dsimp only [writeOp]
  (repeat' split) <;> simp

@[simp] theorem skipBy_epoch (n : Nat) (p : Exec) : (skipBy n p).2.hif.epoch = p.2.hif.epoch := (rfl)

@[simp] theorem endRun_epoch (p : Exec) : (endRun p).2.hif.epoch = p.2.hif.epoch := by
  dsimp only [endRun]
  (repeat' split) <;> simp

@[simp] theorem countProg_epoch (e i : Nat) (p : Exec) : (countProg e i p).2.hif.epoch = p.2.hif.epoch := (rfl)

@[simp] theorem instrSkip_epoch (w : Word) (p : Exec) : (instrSkip w p).2.hif.epoch = p.2.hif.epoch := by
  simp [instrSkip]

@[simp] theorem instrSkipi_epoch (w : Word) (p : Exec) : (instrSkipi w p).2.hif.epoch = p.2.hif.epoch := by
  simp [instrSkipi]

@[simp] theorem instrAdd_epoch (w : Word) (p : Exec) : (instrAdd w p).2.hif.epoch = p.2.hif.epoch := by
  simp [instrAdd]

@[simp] theorem instrSadd_epoch (w : Word) (p : Exec) : (instrSadd w p).2.hif.epoch = p.2.hif.epoch := by
  simp [instrSadd]

@[simp] theorem instrMin_epoch (w : Word) (p : Exec) : (instrMin w p).2.hif.epoch = p.2.hif.epoch := by
  simp [instrMin]

@[simp] theorem instrMax_epoch (w : Word) (p : Exec) : (instrMax w p).2.hif.epoch = p.2.hif.epoch := by
  simp [instrMax]

@[simp] theorem instrLdi_epoch (w : Word) (p : Exec) : (instrLdi w p).2.hif.epoch = p.2.hif.epoch := by
  simp [instrLdi]

@[simp] theorem instrExt_epoch (w : Word) (p : Exec) : (instrExt w p).2.hif.epoch = p.2.hif.epoch := by
  simp [instrExt]

@[simp] theorem instrIns_epoch (w : Word) (p : Exec) : (instrIns w p).2.hif.epoch = p.2.hif.epoch := by
  simp [instrIns]

@[simp] theorem instrKeyx_epoch (w : Word) (p : Exec) : (instrKeyx w p).2.hif.epoch = p.2.hif.epoch := by
  simp [instrKeyx]

@[simp] theorem instrTs_epoch (w : Word) (p : Exec) : (instrTs w p).2.hif.epoch = p.2.hif.epoch := by simp [instrTs]

@[simp] theorem instrSetsc_epoch (w : Word) (p : Exec) : (instrSetsc w p).2.hif.epoch = p.2.hif.epoch := by
  unfold instrSetsc
  split <;> simp

@[simp] theorem instrMeter_epoch (e : Nat) (w : Word) (p : Exec) : (instrMeter e w p).2.hif.epoch = p.2.hif.epoch := by
  dsimp only [instrMeter]
  split
  · exact writeOp_epoch _ _ p
  · simp only [countProg_epoch, writeOp_epoch]

@[simp] theorem instrNatalloc_epoch (e : Nat) (w : Word) (p : Exec) :
    (instrNatalloc e w p).2.hif.epoch = p.2.hif.epoch := by
  dsimp only [instrNatalloc]
  (repeat' split) <;> simp

@[simp] theorem instrNatfree_epoch (e : Nat) (w : Word) (p : Exec) :
    (instrNatfree e w p).2.hif.epoch = p.2.hif.epoch := by simp [instrNatfree]

@[simp] theorem instrLbsel_epoch (e : Nat) (w : Word) (p : Exec) : (instrLbsel e w p).2.hif.epoch = p.2.hif.epoch := by
  dsimp only [instrLbsel]
  (repeat' split) <;> simp

@[simp] theorem instrComp_epoch (e ctx : Nat) (w : Word) (p : Exec) :
    (instrComp e ctx w p).2.hif.epoch = p.2.hif.epoch := by
  dsimp only [instrComp]
  (repeat' split) <;> simp

theorem State.stage_epoch {stack : Nat} {r : List Word} {s t : State} (e : s.stage stack r = some t) :
    t.hif.epoch = s.hif.epoch := by
  dsimp only [State.stage] at e
  split at e
  · split at e
    · cases e; simp
    · cases e
  · cases e; rfl

@[simp] theorem instrEmit_epoch (e : Nat) (w : Word) (p : Exec) : (instrEmit e w p).2.hif.epoch = p.2.hif.epoch := by
  dsimp only [instrEmit]
  split
  · simp
  · split
    · simp
    · next heq => simp [State.stage_epoch heq]

@[simp] theorem instrSetact_epoch (w : Word) (p : Exec) : (instrSetact w p).2.hif.epoch = p.2.hif.epoch := (rfl)

@[simp] theorem instrOf_epoch (e ctx : Nat) (w : Word) (p : Exec) : (instrOf e ctx w p).2.hif.epoch = p.2.hif.epoch := by
  unfold instrOf
  split <;> simp

@[simp] theorem doInstr_epoch (e : Nat) (w : Word) {act : Exec → Exec} (p : Exec)
    (ha : ∀ q : Exec, (act q).2.hif.epoch = q.2.hif.epoch) : (doInstr e w act p).2.hif.epoch = p.2.hif.epoch := by
  unfold doInstr
  extract_lets o q
  have hq : q.2.hif.epoch = p.2.hif.epoch := (ha _).trans (by simp)
  refine (State.snd_ite_epoch _ _).trans ?_
  split
  · rfl
  · exact hq

@[simp] theorem runFrom_epoch (c : Cfg) (e ctx n : Nat) (p : Exec) : (runFrom c e ctx n p).2.hif.epoch = p.2.hif.epoch := by
  induction n generalizing p with
  | zero => rfl
  | succ n ih =>
    dsimp only [runFrom]
    split
    · rfl
    · simp [ih]

@[simp] theorem runProgram_epoch (c : Cfg) (e ctx : Nat) (x : Run) (s : State) :
    (runProgram c e ctx x s).2.hif.epoch = s.hif.epoch := by simp [runProgram]

@[simp] theorem State.instrRow_epoch (e : Fin 128) (k : Fin 16) (op : Nat) {act : Exec → Exec} (w : Word) (s : State)
    (ha : ∀ q : Exec, (act q).2.hif.epoch = q.2.hif.epoch) : (s.instrRow e k op act w).hif.epoch = s.hif.epoch := by
  dsimp only [State.instrRow]
  split
  · simp [ha]
  · rfl

theorem execSkip_keepsEpoch {e : Fin 128} {k : Fin 16} {w : Word} {s : State} : Res.KeepsEpoch s (execSkip e k w s) :=
  .next (by simp)

theorem execSkipi_keepsEpoch {e : Fin 128} {k : Fin 16} {w : Word} {s : State} :
    Res.KeepsEpoch s (execSkipi e k w s) := .next (by simp)

theorem execAdd_keepsEpoch {e : Fin 128} {k : Fin 16} {w : Word} {s : State} : Res.KeepsEpoch s (execAdd e k w s) :=
  .next (by simp)

theorem execSadd_keepsEpoch {e : Fin 128} {k : Fin 16} {w : Word} {s : State} : Res.KeepsEpoch s (execSadd e k w s) :=
  .next (by simp)

theorem execMin_keepsEpoch {e : Fin 128} {k : Fin 16} {w : Word} {s : State} : Res.KeepsEpoch s (execMin e k w s) :=
  .next (by simp)

theorem execMax_keepsEpoch {e : Fin 128} {k : Fin 16} {w : Word} {s : State} : Res.KeepsEpoch s (execMax e k w s) :=
  .next (by simp)

theorem execLdi_keepsEpoch {e : Fin 128} {k : Fin 16} {w : Word} {s : State} : Res.KeepsEpoch s (execLdi e k w s) :=
  .next (by simp)

theorem execExt_keepsEpoch {e : Fin 128} {k : Fin 16} {w : Word} {s : State} : Res.KeepsEpoch s (execExt e k w s) :=
  .next (by simp)

theorem execIns_keepsEpoch {e : Fin 128} {k : Fin 16} {w : Word} {s : State} : Res.KeepsEpoch s (execIns e k w s) :=
  .next (by simp)

theorem execKeyx_keepsEpoch {e : Fin 128} {k : Fin 16} {w : Word} {s : State} : Res.KeepsEpoch s (execKeyx e k w s) :=
  .next (by simp)

theorem execTs_keepsEpoch {e : Fin 128} {k : Fin 16} {w : Word} {s : State} : Res.KeepsEpoch s (execTs e k w s) :=
  .next (by simp)

theorem execSetsc_keepsEpoch {e : Fin 128} {k : Fin 16} {w : Word} {s : State} :
    Res.KeepsEpoch s (execSetsc e k w s) := .next (by simp)

theorem execMeter_keepsEpoch {e : Fin 128} {k : Fin 16} {w : Word} {s : State} :
    Res.KeepsEpoch s (execMeter e k w s) := .next (by simp)

theorem execNatalloc_keepsEpoch {e : Fin 128} {k : Fin 16} {w : Word} {s : State} :
    Res.KeepsEpoch s (execNatalloc e k w s) := .next (by simp)

theorem execNatfree_keepsEpoch {e : Fin 128} {k : Fin 16} {w : Word} {s : State} :
    Res.KeepsEpoch s (execNatfree e k w s) := .next (by simp)

theorem execLbsel_keepsEpoch {e : Fin 128} {k : Fin 16} {w : Word} {s : State} :
    Res.KeepsEpoch s (execLbsel e k w s) := .next (by simp)

theorem execComp_keepsEpoch {e : Fin 128} {k : Fin 16} {w : Word} {s : State} : Res.KeepsEpoch s (execComp e k w s) :=
  .next (by simp)

theorem execEmit_keepsEpoch {e : Fin 128} {k : Fin 16} {w : Word} {s : State} : Res.KeepsEpoch s (execEmit e k w s) :=
  .next (by simp)

theorem execSetact_keepsEpoch {e : Fin 128} {k : Fin 16} {w : Word} {s : State} :
    Res.KeepsEpoch s (execSetact e k w s) := .next (by simp)

theorem execProgLoad_keepsEpoch {r : Req} {s : State} : Res.KeepsEpoch s (execProgLoad r s) := .mailbox fun _ => rfl

theorem execProgRead_keepsEpoch {r : Req} {s : State} : Res.KeepsEpoch s (execProgRead r s) := by
  refine .mailbox fun _ => ?_
  dsimp only
  (repeat' split) <;> simp

theorem execProgMeterSet_keepsEpoch {r : Req} {s : State} : Res.KeepsEpoch s (execProgMeterSet r s) :=
  .mailbox fun _ => rfl

theorem execProgPoolSet_keepsEpoch {r : Req} {s : State} : Res.KeepsEpoch s (execProgPoolSet r s) := by
  refine .mailbox fun _ => ?_
  dsimp only
  split <;> simp

theorem execProgPoolStatus_keepsEpoch {r : Req} {s : State} : Res.KeepsEpoch s (execProgPoolStatus r s) := by
  refine .mailbox fun _ => ?_
  dsimp only
  split <;> simp

theorem execProgGroupSet_keepsEpoch {r : Req} {s : State} : Res.KeepsEpoch s (execProgGroupSet r s) := by
  refine .mailbox fun _ => ?_
  split <;> rfl

theorem execProgEmitSet_keepsEpoch {r : Req} {s : State} : Res.KeepsEpoch s (execProgEmitSet r s) :=
  .mailbox fun _ => by simp

theorem execProgStatsRead_keepsEpoch {r : Req} {s : State} : Res.KeepsEpoch s (execProgStatsRead r s) :=
  .mailbox fun _ => rfl

@[simp] theorem State.sendIpfix_epoch (templates : List (Nat × Nat × List IpfixField)) (records : List (List Word)) (s : State) :
    (s.sendIpfix templates records).hif.epoch = s.hif.epoch := by
  unfold State.sendIpfix
  split <;> simp

theorem execIpfixExport_keepsEpoch {stack : Fin 4} {s : State} : Res.KeepsEpoch s (execIpfixExport stack s) := by
  refine .next ?_
  dsimp only
  (repeat' split) <;> simp

theorem execIpfixTemplateTimer_keepsEpoch {s : State} : Res.KeepsEpoch s (execIpfixTemplateTimer s) := .next (by simp)

/-! ## Frames and their copies (07; 11) -/

@[simp] theorem State.onFrame_epoch (fid : Nat) (f : Frame → Frame) (s : State) :
    (s.onFrame fid f).hif.epoch = s.hif.epoch := State.epoch_of_anchor (State.onFrame_anchor ..)

@[simp] theorem State.newFrame_epoch (x : Frame) (s : State) : (s.newFrame x).2.hif.epoch = s.hif.epoch := (rfl)

@[simp] theorem State.hostDone_epoch (x : Frame) (s : State) : (s.hostDone x).hif.epoch = s.hif.epoch :=
  State.epoch_of_anchor (State.hostDone_anchor ..)

@[simp] theorem State.settle_epoch (fid : Nat) (s : State) : (s.settle fid).hif.epoch = s.hif.epoch :=
  State.epoch_of_anchor (State.settle_anchor ..)

@[simp] theorem State.bufAdd_epoch (c r n : Nat) (s : State) : (s.bufAdd c r n).hif.epoch = s.hif.epoch :=
  State.epoch_of_anchor (State.bufAdd_anchor ..)

@[simp] theorem State.bufSub_epoch (c r n : Nat) (s : State) : (s.bufSub c r n).hif.epoch = s.hif.epoch :=
  State.epoch_of_anchor (State.bufSub_anchor ..)

@[simp] theorem State.onCopies_epoch (t : Copy → Bool) (f : Copy → Copy) (s : State) :
    (s.onCopies t f).hif.epoch = s.hif.epoch := State.epoch_of_anchor (State.onCopies_anchor ..)

@[simp] theorem State.freeChunks_epoch (s : State) : s.freeChunks.hif.epoch = s.hif.epoch :=
  State.epoch_of_anchor (State.freeChunks_anchor ..)

@[simp] theorem State.endCopy_epoch (c : Copy) (s : State) : (s.endCopy c).hif.epoch = s.hif.epoch :=
  State.epoch_of_anchor (State.endCopy_anchor ..)

@[simp] theorem State.pullCopy_epoch (fid p : Nat) (s : State) : (s.pullCopy fid p).hif.epoch = s.hif.epoch :=
  State.epoch_of_anchor (State.pullCopy_anchor ..)

@[simp] theorem State.dropCopy_epoch (c : Copy) (kind idx : Nat) (s : State) :
    (s.dropCopy c kind idx).hif.epoch = s.hif.epoch := State.epoch_of_anchor (State.dropCopy_anchor ..)

@[simp] theorem State.badTail_epoch (fid : Nat) (ports : List Nat) (s : State) :
    (s.badTail fid ports).hif.epoch = s.hif.epoch := State.epoch_of_anchor (State.badTail_anchor ..)

@[simp] theorem State.closeChunk_epoch (src dst cls : Nat) (s : State) :
    (s.closeChunk src dst cls).hif.epoch = s.hif.epoch := State.epoch_of_anchor (State.closeChunk_anchor ..)

@[simp] theorem State.openChunk_epoch (src dst cls : Nat) (s : State) :
    (s.openChunk src dst cls).2.hif.epoch = s.hif.epoch := State.epoch_of_anchor (State.openChunk_anchor ..)

@[simp] theorem packBytes_epoch (n src dst cls mask fid off len head : Nat) (last bad : Bool) (s : State) :
    (packBytes n src dst cls mask fid off len head last bad s).hif.epoch = s.hif.epoch := by
  induction n generalizing off len head s with
  | zero => rfl
  | succ n ih =>
    dsimp only [packBytes]
    split
    · simp [ih]
    · split
      · simp [ih]
      · simp

@[simp] theorem State.growCopies_epoch (fid p n : Nat) (last : Bool) (s : State) :
    (s.growCopies fid p n last).hif.epoch = s.hif.epoch := State.epoch_of_anchor (State.growCopies_anchor ..)

@[simp] theorem State.landPiece_epoch (cell : Nat) (p : Piece) (s : State) :
    (s.landPiece cell p).hif.epoch = s.hif.epoch := State.epoch_of_anchor (State.landPiece_anchor ..)

@[simp] theorem State.endPacked_epoch (fid : Nat) (s : State) : (s.endPacked fid).hif.epoch = s.hif.epoch :=
  State.epoch_of_anchor (State.endPacked_anchor ..)

@[simp] theorem State.ledger_epoch (fid : Nat) (kept : Bool) (s : State) :
    (s.ledger fid kept).hif.epoch = s.hif.epoch := State.epoch_of_anchor (State.ledger_anchor ..)

@[simp] theorem State.cutPacked_epoch (fid : Nat) (s : State) : (s.cutPacked fid).hif.epoch = s.hif.epoch :=
  State.epoch_of_anchor (State.cutPacked_anchor ..)

@[simp] theorem State.packFrame_epoch (fid : Nat) (s : State) : (s.packFrame fid).hif.epoch = s.hif.epoch :=
  State.epoch_of_anchor (State.packFrame_anchor ..)

@[simp] theorem State.unpack_epoch (fid : Nat) (s : State) : (s.unpack fid).hif.epoch = s.hif.epoch :=
  State.epoch_of_anchor (State.unpack_anchor ..)

@[simp] theorem State.feedCol_epoch (fid : Nat) (s : State) : (s.feedCol fid).hif.epoch = s.hif.epoch :=
  State.epoch_of_anchor (State.feedCol_anchor ..)

@[simp] theorem State.postVoid_epoch (fid : Nat) (s : State) : (s.postVoid fid).hif.epoch = s.hif.epoch :=
  State.epoch_of_anchor (State.postVoid_anchor ..)

@[simp] theorem State.closeFrame_epoch (fid : Nat) (bad : Bool) (s : State) :
    (s.closeFrame fid bad).hif.epoch = s.hif.epoch := State.epoch_of_anchor (State.closeFrame_anchor ..)

@[simp] theorem State.endCopies_epoch (fid : Nat) (bad : Bool) (s : State) :
    (s.endCopies fid bad).hif.epoch = s.hif.epoch := State.epoch_of_anchor (State.endCopies_anchor ..)

/-! ## The classifier (07) -/

@[simp] theorem State.chargeMeter_epoch (c : Cfg) (cell m len : Nat) (s : State) :
    (s.chargeMeter c cell m len).2.hif.epoch = s.hif.epoch := (rfl)

theorem execClsParserSet_keepsEpoch {r : Req} {s : State} : Res.KeepsEpoch s (execClsParserSet r s) :=
  .mailbox fun _ => rfl

theorem execClsBankSet_keepsEpoch {r : Req} {s : State} : Res.KeepsEpoch s (execClsBankSet r s) := by
  refine .mailbox fun _ => ?_
  dsimp only
  (repeat' split) <;> simp

theorem execClsProfileSet_keepsEpoch {r : Req} {s : State} : Res.KeepsEpoch s (execClsProfileSet r s) :=
  .mailbox fun _ => rfl

theorem execClsPortSet_keepsEpoch {r : Req} {s : State} : Res.KeepsEpoch s (execClsPortSet r s) := by
  refine .mailbox fun _ => ?_
  dsimp only
  split <;> simp

theorem execClsMeterSet_keepsEpoch {r : Req} {s : State} : Res.KeepsEpoch s (execClsMeterSet r s) :=
  .mailbox fun _ => rfl

theorem execClsMirrorSet_keepsEpoch {r : Req} {s : State} : Res.KeepsEpoch s (execClsMirrorSet r s) := by
  refine .mailbox fun _ => ?_
  split <;> rfl

theorem execClsRuleWrite_keepsEpoch {r : Req} {s : State} : Res.KeepsEpoch s (execClsRuleWrite r s) := by
  refine .mailbox fun _ => ?_
  dsimp only
  (repeat' split) <;> simp

theorem execClsRuleDelete_keepsEpoch {r : Req} {s : State} : Res.KeepsEpoch s (execClsRuleDelete r s) := by
  refine .mailbox fun _ => ?_
  dsimp only
  split <;> simp

theorem execClsRuleRead_keepsEpoch {r : Req} {s : State} : Res.KeepsEpoch s (execClsRuleRead r s) :=
  .mailbox fun _ => rfl

theorem execClsStatsRead_keepsEpoch {r : Req} {s : State} : Res.KeepsEpoch s (execClsStatsRead r s) :=
  .mailbox fun _ => rfl

/-! ## Egress (12) -/

@[simp] theorem State.scheduleGates_epoch (p : Nat) (l : GateList) (s : State) :
    (s.scheduleGates p l).hif.epoch = s.hif.epoch := (rfl)

@[simp] theorem State.putShaper_epoch (p b : Nat) (x : Shaper) (s : State) :
    (s.putShaper p b x).hif.epoch = s.hif.epoch := (rfl)

@[simp] theorem State.chargeShaper_epoch (p b : Nat) (n : ℤ) (s : State) :
    (s.chargeShaper p b n).hif.epoch = s.hif.epoch := State.epoch_of_anchor (State.chargeShaper_anchor ..)

@[simp] theorem State.refuseCopy_epoch (c : Copy) (kind idx status : Nat) (s : State) :
    (s.refuseCopy c kind idx status).hif.epoch = s.hif.epoch := State.epoch_of_anchor (State.refuseCopy_anchor ..)

@[simp] theorem State.retag_epoch (p : Nat) (s : State) : (s.retag p).hif.epoch = s.hif.epoch := by simp [State.retag]

theorem execQueueAdmit_keepsEpoch {p : Fin 1024} {fid : Nat} {s : State} :
    Res.KeepsEpoch s (execQueueAdmit p fid s) := by
  refine .next ?_
  split <;> simp

@[simp] theorem State.putGate_epoch (p : Nat) (g : Gate) (s : State) : (s.putGate p g).hif.epoch = s.hif.epoch := by
  simp [State.putGate]

theorem execGateChange_keepsEpoch {p : Fin 1024} {s : State} : Res.KeepsEpoch s (execGateChange p s) :=
  .next (by simp)

theorem execGateListStart_keepsEpoch {p : Fin 1024} {s : State} : Res.KeepsEpoch s (execGateListStart p s) := by
  refine .next ?_
  split <;> simp

theorem execShaperRefill_keepsEpoch {p : Fin 1024} {s : State} : Res.KeepsEpoch s (execShaperRefill p s) :=
  .next (by simp)

@[simp] theorem setTx_epoch (p : Nat) (t : Option Tx) (s : State) : (setTx p t s).hif.epoch = s.hif.epoch := (rfl)

@[simp] theorem setHeld_epoch (p : Nat) (t : Option Tx) (s : State) : (setHeld p t s).hif.epoch = s.hif.epoch := (rfl)

@[simp] theorem State.chargeFrame_epoch (p : Nat) (c : Copy) (n : ℤ) (s : State) :
    (s.chargeFrame p c n).hif.epoch = s.hif.epoch := State.epoch_of_anchor (State.chargeFrame_anchor ..)

@[simp] theorem State.endTx_epoch (p : Nat) (t : Tx) (stomp : Bool) (s : State) :
    (s.endTx p t stomp).hif.epoch = s.hif.epoch := State.epoch_of_anchor (State.endTx_anchor ..)

@[simp] theorem State.chooseTx_epoch (p : Nat) (s : State) : (s.chooseTx p).hif.epoch = s.hif.epoch := by
  dsimp only [State.chooseTx]
  (repeat' split) <;> simp

theorem execTransmitSelect_keepsEpoch {p : Fin 1024} {sent : Nat} {s : State} :
    Res.KeepsEpoch s (execTransmitSelect p sent s) := by
  refine .next ?_
  split <;> simp

theorem execEgressStart_keepsEpoch {p : Fin 1024} {s : State} : Res.KeepsEpoch s (execEgressStart p s) := by
  refine .next ?_
  split <;> simp

theorem execEgrPortSet_keepsEpoch {r : Req} {s : State} : Res.KeepsEpoch s (execEgrPortSet r s) := by
  refine .mailbox fun _ => ?_
  dsimp only
  split <;> simp

theorem execEgrQueueSet_keepsEpoch {r : Req} {s : State} : Res.KeepsEpoch s (execEgrQueueSet r s) := by
  refine .mailbox fun _ => ?_
  dsimp only
  split <;> simp

theorem execEgrGateSet_keepsEpoch {r : Req} {s : State} : Res.KeepsEpoch s (execEgrGateSet r s) := by
  refine .mailbox fun _ => ?_
  dsimp only
  (repeat' split) <;> simp

theorem execEgrGateStatus_keepsEpoch {r : Req} {s : State} : Res.KeepsEpoch s (execEgrGateStatus r s) := by
  refine .mailbox fun _ => ?_
  dsimp only
  split <;> simp

theorem execEgrStatsRead_keepsEpoch {r : Req} {s : State} : Res.KeepsEpoch s (execEgrStatsRead r s) := by
  refine .mailbox fun _ => ?_
  dsimp only
  (repeat' split) <;> simp

/-! ## Forwarding tables (08) -/

@[simp] theorem State.touch_epoch (c : Cfg) (cell fid mac : Nat) (s : State) :
    (s.touch c cell fid mac).hif.epoch = s.hif.epoch := by
  unfold State.touch
  split <;> simp

@[simp] theorem State.rewrite_epoch (u table index : Nat) (s : State) :
    (s.rewrite u table index).hif.epoch = s.hif.epoch := State.epoch_of_anchor (State.rewrite_anchor ..)

@[simp] theorem State.rewriteAll_epoch (u table : Nat) (l : List Nat) (s : State) :
    (s.rewriteAll u table l).hif.epoch = s.hif.epoch := State.epoch_of_anchor (State.rewriteAll_anchor ..)

@[simp] theorem State.l2Put_epoch (i : Nat) (s : State) : (s.l2Put i).hif.epoch = s.hif.epoch :=
  State.epoch_of_apart (State.l2Put_apart ..)

@[simp] theorem State.dynFree_epoch (obj : Nat) (s : State) : (s.dynFree obj).hif.epoch = s.hif.epoch := by
  simp [State.dynFree]

@[simp] theorem State.dynMake_epoch (cell fid mac : Nat) (dest : Option Nat) (s : State) :
    (s.dynMake cell fid mac dest).2.hif.epoch = s.hif.epoch := State.epoch_of_anchor (State.dynMake_anchor ..)

@[simp] theorem State.dynWrite_epoch (cell fid mac : Nat) (dest : Option Nat) (ev : Nat × Nat × Nat) (s : State) :
    (s.dynWrite cell fid mac dest ev).2.hif.epoch = s.hif.epoch := by
  dsimp only [State.dynWrite]
  (repeat' split) <;> simp

@[simp] theorem State.report_epoch (r : Report) (s : State) : (s.report r).hif.epoch = s.hif.epoch := by
  simp [State.report]

theorem execLearnFilterExpiry_keepsEpoch {c : Fin 64} {fid : Fin 4096} {mac : Nat} {s : State} :
    Res.KeepsEpoch s (execLearnFilterExpiry c fid mac s) := .next rfl

@[simp] theorem State.learnEvent_epoch (ty cell fid mac new old cells outcome port : Nat) (own : Bool) (s : State) :
    (s.learnEvent ty cell fid mac new old cells outcome port own).hif.epoch = s.hif.epoch :=
  State.epoch_of_anchor (State.learnEvent_anchor ..)

@[simp] theorem State.putMaster_epoch (fid mac : Nat) (m : Master) (s : State) :
    (s.putMaster fid mac m).hif.epoch = s.hif.epoch := (rfl)

@[simp] theorem State.install_epoch (l : List Nat) (fid mac dest : Nat) (ev : Nat × Nat × Nat) (s : State) :
    (s.install l fid mac dest ev).2.2.hif.epoch = s.hif.epoch := by
  refine foldl_keeps (fun a : List Nat × Bool × State => a.2.2.hif.epoch) _ (fun a k => ?_) l _
  dsimp only
  split <;> simp

@[simp] theorem State.handleReport_epoch (r : Report) (own : Bool) (s : State) :
    (s.handleReport r own).hif.epoch = s.hif.epoch := by
  dsimp only [State.handleReport]
  (repeat' split) <;> simp

theorem execLearnReportHandle_keepsEpoch {own : Bool} {s : State} : Res.KeepsEpoch s (execLearnReportHandle own s) := by
  refine .next ?_
  split <;> simp

@[simp] theorem State.dropCopyOf_epoch (cell fid mac : Nat) (s : State) :
    (s.dropCopyOf cell fid mac).hif.epoch = s.hif.epoch := (rfl)

theorem execAgingPassRow_keepsEpoch {c : Fin 64} {fid : Fin 4096} {mac : Nat} {last own : Bool} {s : State} :
    Res.KeepsEpoch s (execAgingPassRow c fid mac last own s) := by
  refine .next ?_
  dsimp only
  (repeat' split) <;> simp

theorem execTblVlanSet_keepsEpoch {r : Req} {s : State} : Res.KeepsEpoch s (execTblVlanSet r s) := by
  refine .mailbox fun _ => ?_
  split <;> rfl

theorem execTblPortSet_keepsEpoch {r : Req} {s : State} : Res.KeepsEpoch s (execTblPortSet r s) := by
  refine .mailbox fun _ => ?_
  dsimp only
  split <;> simp

theorem execTblL2Write_keepsEpoch {r : Req} {s : State} : Res.KeepsEpoch s (execTblL2Write r s) := by
  refine .mailbox fun _ => ?_
  dsimp only
  (repeat' split) <;> simp

theorem execTblL2Flush_keepsEpoch {r : Req} {s : State} : Res.KeepsEpoch s (execTblL2Flush r s) :=
  .mailbox fun _ => by simp

theorem execTblL2Read_keepsEpoch {r : Req} {s : State} : Res.KeepsEpoch s (execTblL2Read r s) := by
  refine .mailbox fun _ => ?_
  dsimp only
  (repeat' split) <;> simp

theorem execTblAgeSet_keepsEpoch {r : Req} {s : State} : Res.KeepsEpoch s (execTblAgeSet r s) :=
  .mailbox fun _ => by simp

@[simp] theorem State.prefixPut_epoch (i : Nat) (s : State) : (s.prefixPut i).hif.epoch = s.hif.epoch :=
  State.epoch_of_apart (State.prefixPut_apart ..)

@[simp] theorem State.tidyWords_epoch (s : State) : s.tidyWords.hif.epoch = s.hif.epoch := (rfl)

@[simp] theorem State.placeRestored_epoch (s : State) : s.placeRestored.hif.epoch = s.hif.epoch :=
  State.epoch_of_apart (State.placeRestored_apart s)

theorem execTblRouteWrite_keepsEpoch {r : Req} {s : State} : Res.KeepsEpoch s (execTblRouteWrite r s) := by
  refine .mailbox fun q => ?_
  have hput (f : Nat → Nat) (l : List Nat) :
      (l.foldl (fun a k => a.prefixPut (f k)) (s.stageBy 0x0520 q (setRoute q))).hif.epoch = s.hif.epoch :=
    (State.foldl_epoch fun a k => State.prefixPut_epoch (f k) a).trans (congrArg Hif.epoch (State.stageBy_hif _ q _ s))
  refine Ans.ite_epoch_eq (Ans.ite_epoch_eq rfl (congrArg Hif.epoch (State.stageBy_hif _ q _ s))) ?_
  exact Ans.ite_epoch_eq rfl (Ans.ite_epoch_eq rfl (hput _ _))

theorem execTblNexthopSet_keepsEpoch {r : Req} {s : State} : Res.KeepsEpoch s (execTblNexthopSet r s) :=
  .mailbox fun _ => rfl

theorem execTblRouterMac_keepsEpoch {r : Req} {s : State} : Res.KeepsEpoch s (execTblRouterMac r s) :=
  .mailbox fun _ => rfl

theorem execTblGroupSet_keepsEpoch {r : Req} {s : State} : Res.KeepsEpoch s (execTblGroupSet r s) :=
  .mailbox fun _ => rfl

theorem execTblHashKey_keepsEpoch {r : Req} {s : State} : Res.KeepsEpoch s (execTblHashKey r s) :=
  .mailbox fun _ => rfl

theorem execTblMcastSet_keepsEpoch {r : Req} {s : State} : Res.KeepsEpoch s (execTblMcastSet r s) :=
  .mailbox fun _ => rfl

theorem execTblLookup_keepsEpoch {r : Req} {s : State} : Res.KeepsEpoch s (execTblLookup r s) := by
  refine .mailbox fun _ => ?_
  dsimp only
  split <;> simp

theorem execTblStatsRead_keepsEpoch {r : Req} {s : State} : Res.KeepsEpoch s (execTblStatsRead r s) :=
  .mailbox fun _ => rfl

/-! ## The flow store (09) -/

@[simp] theorem State.onOp_epoch (c tag : Nat) (f : Op → Option Op) (s : State) :
    (s.onOp c tag f).hif.epoch = s.hif.epoch := (rfl)

@[simp] theorem sampleReload_epoch (period : Nat) (s : State) : (sampleReload period s).2.hif.epoch = s.hif.epoch :=
  (rfl)

@[simp] theorem State.sampleOp_epoch (c prog : Nat) (s : State) : (s.sampleOp c prog).2.hif.epoch = s.hif.epoch := by
  simp [State.sampleOp]

@[simp] theorem State.stampVoids_epoch (o : Op) (s : State) : (s.stampVoids o).hif.epoch = s.hif.epoch := (rfl)

@[simp] theorem State.sendOp_epoch (c tag : Nat) (s : State) : (s.sendOp c tag).hif.epoch = s.hif.epoch := by
  unfold State.sendOp
  split <;> simp

@[simp] theorem State.sendOps_epoch (c : Nat) (s : State) : (s.sendOps c).hif.epoch = s.hif.epoch := by
  simp [State.sendOps]

@[simp] theorem State.postOp_epoch (c fid : Nat) (msg : List Word) (keyLen : Nat) (wait : Bool) (s : State) :
    (s.postOp c fid msg keyLen wait).2.hif.epoch = s.hif.epoch := by simp [State.postOp]

@[simp] theorem State.unpostOp_epoch (o : Op) (s : State) : (s.unpostOp o).hif.epoch = s.hif.epoch := (rfl)

theorem execCreditWaitExpiry_keepsEpoch {c : Fin 64} {tag : Fin 256} {s : State} :
    Res.KeepsEpoch s (execCreditWaitExpiry c tag s) := by
  refine .next ?_
  split <;> rfl

@[simp] theorem State.setCache_epoch (r : Nat) (l : List CacheEntry) (s : State) :
    (s.setCache r l).hif.epoch = s.hif.epoch := (rfl)

@[simp] theorem State.pushCoh_epoch (m : Coh) (s : State) : (s.pushCoh m).hif.epoch = s.hif.epoch := (rfl)

@[simp] theorem State.useEntry_epoch (r : Nat) (x : CacheEntry) (s : State) :
    (s.useEntry r x).hif.epoch = s.hif.epoch := by simp [State.useEntry]

@[simp] theorem State.grantEntry_epoch (r : Nat) (x : CacheEntry) (s : State) :
    (s.grantEntry r x).hif.epoch = s.hif.epoch := by
  dsimp only [State.grantEntry]
  (repeat' split) <;> simp

@[simp] theorem State.dropEntry_epoch (r : Nat) (x : CacheEntry) (scrub : Option Nat) (s : State) :
    (s.dropEntry r x scrub).hif.epoch = s.hif.epoch := by simp [State.dropEntry]

@[simp] theorem State.loseEntry_epoch (r : Nat) (k : FKey) (s : State) : (s.loseEntry r k).hif.epoch = s.hif.epoch := by
  unfold State.loseEntry
  split <;> simp

@[simp] theorem State.lookupOp_epoch (c tag : Nat) (bad : Bool) (s0 : State) :
    (s0.lookupOp c tag bad).hif.epoch = s0.hif.epoch := by
  dsimp only [State.lookupOp]
  (repeat' split) <;> simp

@[simp] theorem State.lookupVoid_epoch (c : Nat) (bad : Bool) (s0 : State) :
    (s0.lookupVoid c bad).hif.epoch = s0.hif.epoch := by
  dsimp only [State.lookupVoid]
  (repeat' split) <;> simp

theorem execCacheLookup_keepsEpoch {c : Fin 64} {tag : Fin 256} {void uncorrectable : Bool} {s : State} :
    Res.KeepsEpoch s (execCacheLookup c tag void uncorrectable s) := .next (by simp)

theorem State.takeRidge_epoch {kind r n : Nat} {s : State} {m : Coh} {t : State} (e : s.takeRidge kind r n = some (m, t)) :
    t.hif.epoch = s.hif.epoch := by
  unfold State.takeRidge at e
  split at e
  · split at e
    · cases e; rfl
    · cases e
  · cases e

theorem State.takeHome_epoch {kind r n : Nat} {s : State} {m : Coh} {t : State} (e : s.takeHome kind r n = some (m, t)) :
    t.hif.epoch = s.hif.epoch := by
  unfold State.takeHome at e
  split at e
  · split at e
    · cases e; rfl
    · cases e
  · cases e

@[simp] theorem State.ridgeAck_epoch (kind r h : Nat) (s : State) : (s.ridgeAck kind r h).hif.epoch = s.hif.epoch := by
  dsimp only [State.ridgeAck]
  split
  · rfl
  · next heq =>
    split
    · simp [State.takeRidge_epoch heq]
    · simp [State.takeRidge_epoch heq]

theorem execInvalidate_keepsEpoch {r : Fin 8} {h : Fin 268435456} {s : State} :
    Res.KeepsEpoch s (execInvalidate r h s) := .next (by simp)

theorem execCollect_keepsEpoch {r : Fin 8} {h : Fin 268435456} {s : State} : Res.KeepsEpoch s (execCollect r h s) :=
  .next (by simp)

@[simp] theorem State.answerFw_epoch (o : FwOp) (status h collected : Nat) (image : List Word) (s : State) :
    (s.answerFw o status h collected image).hif.epoch = s.hif.epoch := by simp [State.answerFw]

@[simp] theorem State.endFw_epoch (o : FwOp) (h : Nat) (collected : BitVec 8) (s : State) :
    (s.endFw o h collected).hif.epoch = s.hif.epoch := by
  unfold State.endFw
  split <;> simp

@[simp] theorem State.findEcc_epoch (k : FKey) (ecc : Option (Fin 268435456)) (s : State) :
    (s.findEcc k ecc).hif.epoch = s.hif.epoch := by
  unfold State.findEcc
  split <;> simp

@[simp] theorem State.slotEcc_epoch (slot : Nat) (ecc : Option (Fin 268435456)) (s : State) :
    (s.slotEcc slot ecc).hif.epoch = s.hif.epoch := by
  unfold State.slotEcc
  split <;> simp

@[simp] theorem State.startFw_epoch (e tag : Nat) (delete : Bool) (ecc : Option (Fin 268435456)) (fixed : Nat) (s0 : State) :
    (s0.startFw e tag delete ecc fixed).hif.epoch = s0.hif.epoch := by
  dsimp only [State.startFw]
  (repeat' split) <;> simp

theorem execRead_keepsEpoch {e : Fin 128} {tag : Fin 16} {ecc : Option (Fin 268435456)} {fixed : Nat} {slots : BitVec 8} {s : State} :
    Res.KeepsEpoch s (execRead e tag ecc fixed slots s) := .next (by simp)

theorem execDelete_keepsEpoch {e : Fin 128} {tag : Fin 16} {ecc : Option (Fin 268435456)} {fixed : Nat} {slots : BitVec 8} {s : State} :
    Res.KeepsEpoch s (execDelete e tag ecc fixed slots s) := .next (by simp)

@[simp] theorem State.unlock_epoch (h : Nat) (s : State) : (s.unlock h).hif.epoch = s.hif.epoch := by
  dsimp only [State.unlock]
  (repeat' split) <;> simp

@[simp] theorem State.applyCoh_epoch (m : Coh) (clear : Bool) (s : State) :
    (s.applyCoh m clear).hif.epoch = s.hif.epoch := by
  unfold State.applyCoh
  split <;> simp

theorem execAck_keepsEpoch {r : Fin 8} {h : Fin 268435456} {slots : BitVec 8} {s0 : State} :
    Res.KeepsEpoch s0 (execAck r h slots s0) := by
  refine .next ?_
  dsimp only
  split
  · simp
  · next heq => simp [State.takeHome_epoch heq]

@[simp] theorem State.writeFlush_epoch (r h : Nat) (s : State) : (s.writeFlush r h).hif.epoch = s.hif.epoch := by
  unfold State.writeFlush
  split <;> simp

theorem execFlush_keepsEpoch {r : Fin 8} {h : Fin 268435456} {slots : BitVec 8} {s0 : State} :
    Res.KeepsEpoch s0 (execFlush r h slots s0) := by
  refine .next ?_
  split
  · next heq => simp [State.takeHome_epoch heq]
  · simp

theorem execRelease_keepsEpoch {r : Fin 8} {h : Fin 268435456} {slots : BitVec 8} {s0 : State} :
    Res.KeepsEpoch s0 (execRelease r h slots s0) := by
  refine .next ?_
  split
  · next heq => simp [State.takeHome_epoch heq]
  · simp

@[simp] theorem State.endRecord_epoch (x : Run) (h : Nat) (s : State) : (s.endRecord x h).hif.epoch = s.hif.epoch := by
  unfold State.endRecord
  split <;> simp

@[simp] theorem State.failCompanion_epoch (e : Nat) (x : Run) (h : Nat) (s : State) :
    (s.failCompanion e x h).2.hif.epoch = s.hif.epoch := by simp [State.failCompanion]

@[simp] theorem State.sendResult_epoch (c tag status grant lease handle : Nat) (y : List Word) (ran : Option Ran) (s : State) :
    (s.sendResult c tag status grant lease handle y ran).hif.epoch = s.hif.epoch := (rfl)

@[simp] theorem State.endOperate_epoch (c tag : Nat) (x : Run) (h : Nat) (s : State) :
    (s.endOperate c tag x h).hif.epoch = s.hif.epoch := by simp [State.endOperate]

@[simp] theorem State.settleRun_epoch (c tag e k : Nat) (p : Exec) :
    (State.settleRun c tag e k p).hif.epoch = p.2.hif.epoch := by
  dsimp only [State.settleRun]
  (repeat' split) <;> simp

@[simp] theorem State.runOperate_epoch (c tag e : Nat) (x : Run) (s : State) :
    (s.runOperate c tag e x).hif.epoch = s.hif.epoch := by simp [State.runOperate]

@[simp] theorem State.resumeStalled_epoch (e : Nat) (s : State) : (s.resumeStalled e).hif.epoch = s.hif.epoch := by
  unfold State.resumeStalled
  split <;> simp

@[simp] theorem State.queueOp_epoch (c tag : Nat) (s : State) : (s.queueOp c tag).hif.epoch = s.hif.epoch := (rfl)

theorem execOperate_keepsEpoch {c : Fin 64} {tag : Fin 256} {ecc : Option (Fin 268435456)} {fixed : Nat} {s0 : State} :
    Res.KeepsEpoch s0 (execOperate c tag ecc fixed s0) := by
  refine .next ?_
  dsimp only
  split
  · rfl
  · split
    · rfl
    · split
      · split <;> simp
      · split
        · simp
        · split
          · simp
          · split
            · simp
            · split
              · simp
              · split
                · split
                  · next heq => simp [State.createRec_epoch_of_eq heq]
                  · next heq => simp [State.createRec_epoch_of_eq heq]
                · simp

theorem execVoid_keepsEpoch {c : Fin 64} {ecc : Option (Fin 268435456)} {fixed : Nat} {s0 : State} :
    Res.KeepsEpoch s0 (execVoid c ecc fixed s0) := by
  refine .next ?_
  dsimp only
  (repeat' split) <;> simp

@[simp] theorem State.compAnswer_epoch (m : CompMsg) (status h : Nat) (s : State) :
    (s.compAnswer m status h).hif.epoch = s.hif.epoch := (rfl)

@[simp] theorem State.runCompanion_epoch (m : CompMsg) (x : Run) (s : State) :
    (s.runCompanion m x).hif.epoch = s.hif.epoch := by
  dsimp only [State.runCompanion]
  (repeat' split) <;> simp

theorem execCompanion_keepsEpoch {e : Fin 128} {k : Fin 16} {ecc : Option (Fin 268435456)} {fixed : Nat} {s0 : State} :
    Res.KeepsEpoch s0 (execCompanion e k ecc fixed s0) := by
  refine .next ?_
  dsimp only
  split
  · rfl
  · split
    · rfl
    · split
      · simp
      · split
        · simp
        · split
          · simp
          · split
            · split
              · next heq => simp [State.createRec_epoch_of_eq heq]
              · next heq => simp [State.createRec_epoch_of_eq heq]
            · simp

theorem execCompanionResult_keepsEpoch {e : Fin 128} {k : Fin 16} {s : State} :
    Res.KeepsEpoch s (execCompanionResult e k s) := by
  refine .next ?_
  (repeat' split) <;> simp

@[simp] theorem State.visit_epoch (h : Nat) (ecc : EccSeen) (s : State) : (s.visit h ecc).hif.epoch = s.hif.epoch := by
  dsimp only [State.visit]
  (repeat' split) <;> simp

@[simp] theorem State.sweepReads_epoch (h : Nat) (s : State) : (s.sweepReads h).hif.epoch = s.hif.epoch := by
  dsimp only [State.sweepReads]
  rw [State.ite_epoch, State.pmuSpan_epoch, State.pmuSpan_epoch, State.pmuSpan_epoch, ite_self]

theorem execSweepVisit_keepsEpoch {h : Fin 268435456} {ecc : EccSeen} {s : State} :
    Res.KeepsEpoch s (execSweepVisit h ecc s) := .next (by simp)

@[simp] theorem State.dramEvent_epoch (stack burst : Nat) (s : State) :
    (s.dramEvent stack burst).hif.epoch = s.hif.epoch := by simp [State.dramEvent]

@[simp] theorem State.loseBurst_epoch (stack burst : Nat) (what : Burst) (s : State) :
    (s.loseBurst stack burst what).hif.epoch = s.hif.epoch := by
  unfold State.loseBurst
  split <;> simp

theorem execDramScrub_keepsEpoch {stack : Fin 4} {burst : Fin (2 ^ 29)} {what : Burst} {err : EccSeen} {s : State} :
    Res.KeepsEpoch s (execDramScrub stack burst what err s) := by
  refine .next ?_
  (repeat' split) <;> simp

theorem execExportWrite_keepsEpoch {e : Fin 128} {own : Bool} {s : State} :
    Res.KeepsEpoch s (execExportWrite e own s) := by
  refine .next ?_
  split <;> simp

theorem execArchiveWrite_keepsEpoch {e : Fin 128} {s : State} : Res.KeepsEpoch s (execArchiveWrite e s) := by
  refine .next ?_
  (repeat' split) <;> simp

theorem execFlowFormatDone_keepsEpoch {slots : BitVec 8} {s0 : State} :
    Res.KeepsEpoch s0 (execFlowFormatDone slots s0) := .next (by simp)

theorem execFlowTemplateSet_keepsEpoch {r : Req} {s : State} : Res.KeepsEpoch s (execFlowTemplateSet r s) :=
  .mailbox fun _ => rfl

theorem execFlowZoneSet_keepsEpoch {r : Req} {s : State} : Res.KeepsEpoch s (execFlowZoneSet r s) := by
  refine .mailbox fun _ => ?_
  dsimp only
  split <;> simp

theorem execFlowAgeSet_keepsEpoch {r : Req} {s : State} : Res.KeepsEpoch s (execFlowAgeSet r s) :=
  .mailbox fun _ => rfl

@[simp] theorem fwRun_epoch (s : State) (delete : Bool) (q : Req) : (fwRun s delete q).st.hif.epoch = s.hif.epoch := by
  unfold fwRun
  split <;> rfl

theorem execFlowRead_keepsEpoch {r : Req} {s : State} : Res.KeepsEpoch s (execFlowRead r s) :=
  .mailbox fun _ => by simp

theorem execFlowDelete_keepsEpoch {r : Req} {s : State} : Res.KeepsEpoch s (execFlowDelete r s) :=
  .mailbox fun _ => by simp

@[simp] theorem State.flushZone_epoch (z : Nat) (s : State) : (s.flushZone z).hif.epoch = s.hif.epoch := by
  simp [State.flushZone]

theorem execFlowZoneFlush_keepsEpoch {r : Req} {s : State} : Res.KeepsEpoch s (execFlowZoneFlush r s) := by
  refine .mailbox fun _ => ?_
  split <;> simp

theorem execZoneFlushDone_keepsEpoch {zone : Fin 4096} {slots : BitVec 8} {s0 : State} :
    Res.KeepsEpoch s0 (execZoneFlushDone zone slots s0) := .next (by simp)

theorem execFlowArchiveRead_keepsEpoch {r : Req} {s : State} : Res.KeepsEpoch s (execFlowArchiveRead r s) := by
  refine .mailbox fun _ => ?_
  (repeat' split) <;> simp

theorem execFlowStatsRead_keepsEpoch {r : Req} {s : State} : Res.KeepsEpoch s (execFlowStatsRead r s) :=
  .mailbox fun _ => rfl

/-! ## The fabric (11) -/

theorem execChunkClose_keepsEpoch {src dst : Fin 64} {cls : Fin 8} {s : State} :
    Res.KeepsEpoch s (execChunkClose src dst cls s) := .next (by simp)

theorem execFirstStageSlot_keepsEpoch {c t : Fin 64} {s : State} : Res.KeepsEpoch s (execFirstStageSlot c t s) := by
  refine .next ?_
  dsimp only
  split
  · rfl
  · rw [State.onFab_hif]
    refine State.foldl_epoch fun a p => ?_
    split
    · rfl
    · split <;> simp

theorem execAcceptMapPublish_keepsEpoch {c : Fin 64} {s : State} : Res.KeepsEpoch s (execAcceptMapPublish c s) :=
  .next rfl

@[simp] theorem State.measure_epoch (c : Nat) (sent : Bool) (s : State) :
    (s.measure c sent).hif.epoch = s.hif.epoch := by simp [State.measure]

theorem execSecondStageSlot_keepsEpoch {c t : Fin 64} {slow : BitVec 4} {s : State} :
    Res.KeepsEpoch s (execSecondStageSlot c t slow s) := by
  refine .next ?_
  dsimp only
  split
  · rfl
  · refine State.foldl_epoch fun a p => ?_
    split
    · rfl
    · simp

@[simp] theorem State.landChunk_epoch (c : Chunk) (s : State) : (s.landChunk c).hif.epoch = s.hif.epoch := by
  simp [State.landChunk]

@[simp] theorem State.losePieces_epoch (cell : Nat) (l : List Piece) (s : State) :
    (s.losePieces cell l).hif.epoch = s.hif.epoch := State.epoch_of_footing (State.losePieces_footing ..)

@[simp] theorem State.onPairOf_epoch (dst src : Nat) (f : Pair → Pair) (s : State) :
    (s.onPairOf dst src f).hif.epoch = s.hif.epoch := (rfl)

@[simp] theorem releaseRun_epoch (n dst src : Nat) (s : State) : (releaseRun n dst src s).hif.epoch = s.hif.epoch := by
  induction n generalizing s with
  | zero => rfl
  | succ n ih =>
    dsimp only [releaseRun]
    split
    · simp
    · simp [ih]

@[simp] theorem State.takeMissing_epoch (src dst seq pgen : Nat) (s : State) :
    (s.takeMissing src dst seq pgen).2.hif.epoch = s.hif.epoch := (rfl)

@[simp] theorem State.declareLost_epoch (dst src : Nat) (s : State) : (s.declareLost dst src).hif.epoch = s.hif.epoch := by
  dsimp only [State.declareLost]
  split
  · rfl
  · simp only [releaseRun_epoch, State.onPairOf_epoch, State.raise_hif, State.bump_hif, State.losePieces_epoch]
    refine foldl_keeps (fun a : List Piece × State => a.2.hif.epoch) _ (fun a i => ?_) _ _
    simp

theorem execReseqLost_keepsEpoch {d src : Fin 64} {s : State} : Res.KeepsEpoch s (execReseqLost d src s) :=
  .next (by simp)

@[simp] theorem forceRoom_epoch (n dst : Nat) (s : State) : (forceRoom n dst s).hif.epoch = s.hif.epoch := by
  induction n generalizing s with
  | zero => rfl
  | succ n ih =>
    dsimp only [forceRoom]
    split
    · rfl
    · split
      · rfl
      · simp [ih]

@[simp] theorem State.judgeChunk_epoch (c : Chunk) (s : State) : (s.judgeChunk c).hif.epoch = s.hif.epoch := by
  simp [State.judgeChunk]

@[simp] theorem State.resequence_epoch (c : Chunk) (s : State) : (s.resequence c).hif.epoch = s.hif.epoch := by
  simp [State.resequence]

theorem execChunkArrival_keepsEpoch {c : Fin 64} {crcOk : Bool} {s : State} :
    Res.KeepsEpoch s (execChunkArrival c crcOk s) := by
  refine .next ?_
  (repeat' split) <;> simp

@[simp] theorem State.bench_epoch (c : Nat) (s : State) : (s.bench c).2.hif.epoch = s.hif.epoch := by
  dsimp only [State.bench]
  split
  · rfl
  · next heq => simp [State.dutyPlaceIf_epoch heq]

theorem execBenchWindow_keepsEpoch {c : Fin 64} {s0 : State} : Res.KeepsEpoch s0 (execBenchWindow c s0) :=
  .next (by simp)

theorem execBenchStart_keepsEpoch {c : Fin 64} {s : State} : Res.KeepsEpoch s (execBenchStart c s) := .next (by simp)

theorem execDutyRejoin_keepsEpoch {c : Fin 64} {s : State} : Res.KeepsEpoch s (execDutyRejoin c s) := .next (by simp)

@[simp] theorem State.demote_epoch (fid : Nat) (s : State) : (s.demote fid).hif.epoch = s.hif.epoch := by
  simp [State.demote]

@[simp] theorem State.dropFrame_epoch (fid status : Nat) (s : State) :
    (s.dropFrame fid status).hif.epoch = s.hif.epoch := State.epoch_of_footing (State.dropFrame_footing ..)

@[simp] theorem State.takeChannels_epoch (fid n : Nat) (s : State) : (s.takeChannels fid n).hif.epoch = s.hif.epoch := by
  simp [State.takeChannels]

@[simp] theorem State.injectCol_epoch (fid p : Nat) (s : State) : (s.injectCol fid p).hif.epoch = s.hif.epoch := by
  simp [State.injectCol]

@[simp] theorem State.colPolice_epoch (x : Frame) (s : State) : (s.colPolice x).2.hif.epoch = s.hif.epoch := by
  simp [State.colPolice]

theorem execColInject_keepsEpoch {fid : Nat} {s : State} : Res.KeepsEpoch s (execColInject fid s) := by
  refine .next ?_
  split <;> simp

theorem execColHeldInject_keepsEpoch {c : Fin 64} {s : State} : Res.KeepsEpoch s (execColHeldInject c s) := by
  refine .next ?_
  (repeat' split) <;> simp

theorem execFabStatus_keepsEpoch {r : Req} {s : State} : Res.KeepsEpoch s (execFabStatus r s) := .mailbox fun _ => rfl

theorem execFabBench_keepsEpoch {r : Req} {s : State} : Res.KeepsEpoch s (execFabBench r s) := by
  refine .mailbox fun _ => ?_
  dsimp only
  (repeat' split) <;> simp

theorem execFabColPolicer_keepsEpoch {r : Req} {s : State} : Res.KeepsEpoch s (execFabColPolicer r s) := by
  refine .mailbox fun _ => ?_
  dsimp only
  split <;> simp

theorem execFabBufSet_keepsEpoch {r : Req} {s : State} : Res.KeepsEpoch s (execFabBufSet r s) := .mailbox fun _ => rfl

theorem execFabStatsRead_keepsEpoch {r : Req} {s : State} : Res.KeepsEpoch s (execFabStatsRead r s) :=
  .mailbox fun _ => rfl

/-! ## Ports and lanes (06) -/

@[simp] theorem State.dropLink_epoch (p : Nat) (s : State) : (s.dropLink p).hif.epoch = s.hif.epoch :=
  State.epoch_of_anchor (State.dropLink_anchor ..)

@[simp] theorem State.setLink_epoch (p : Nat) (l : Link) (s : State) : (s.setLink p l).hif.epoch = s.hif.epoch :=
  State.epoch_of_anchor (State.setLink_anchor ..)

theorem execLinkUp_keepsEpoch {p : Fin 1024} {deskew : Nat} {s : State} : Res.KeepsEpoch s (execLinkUp p deskew s) :=
  .next (by simp)

theorem execLinkDown_keepsEpoch {p : Fin 1024} {s : State} : Res.KeepsEpoch s (execLinkDown p s) := .next (by simp)

theorem execLossOfSignal_keepsEpoch {lane : Fin 1024} {s : State} : Res.KeepsEpoch s (execLossOfSignal lane s) :=
  .next (by simp)

theorem execLaneShutdown_keepsEpoch {p : Fin 1024} {s : State} : Res.KeepsEpoch s (execLaneShutdown p s) :=
  .next (by simp)

theorem execLpiEntry_keepsEpoch {p : Fin 1024} {rx : Bool} {s : State} : Res.KeepsEpoch s (execLpiEntry p rx s) :=
  .next (by simp)

theorem execLpiExit_keepsEpoch {p : Fin 1024} {s : State} : Res.KeepsEpoch s (execLpiExit p s) := .next (by simp)

theorem execPartnerLpiExit_keepsEpoch {p : Fin 1024} {s : State} : Res.KeepsEpoch s (execPartnerLpiExit p s) :=
  .next (by simp)

theorem execVerifyResult_keepsEpoch {p : Fin 1024} {ok : Bool} {s : State} :
    Res.KeepsEpoch s (execVerifyResult p ok s) := .next (by simp)

theorem execHoldBufferStore_keepsEpoch {p : Fin 1024} {data : List Byte} {pcsErr : Bool} {fragments : Nat} {s : State} :
    Res.KeepsEpoch s (execHoldBufferStore p data pcsErr fragments s) := .next (by simp)

theorem execPortSet_keepsEpoch {r : Req} {s : State} : Res.KeepsEpoch s (execPortSet r s) := by
  refine .mailbox fun _ => ?_
  dsimp only
  (repeat' split) <;> simp

theorem execPortStatus_keepsEpoch {r : Req} {s : State} : Res.KeepsEpoch s (execPortStatus r s) := by
  refine .mailbox fun _ => ?_
  dsimp only
  split <;> simp

theorem execPortStatsRead_keepsEpoch {r : Req} {s : State} : Res.KeepsEpoch s (execPortStatsRead r s) := by
  refine .mailbox fun _ => ?_
  dsimp only
  split <;> simp

/-! ## Lookups (08) -/

@[simp] theorem State.lookupRoute_epoch (k : Look) (s : State) : (s.lookupRoute k).2.hif.epoch = s.hif.epoch := by
  unfold State.lookupRoute
  split <;> simp

@[simp] theorem State.lookupSource_epoch (k : Look) (fid : Nat) (s : State) :
    (s.lookupSource k fid).2.hif.epoch = s.hif.epoch := by
  unfold State.lookupSource
  (repeat' split) <;> simp

@[simp] theorem State.lookupDest_epoch (k : Look) (fid : Nat) (s : State) :
    (s.lookupDest k fid).2.hif.epoch = s.hif.epoch := by
  unfold State.lookupDest
  split <;> simp

@[simp] theorem State.lookups_epoch (k : Look) (s : State) : (s.lookups k).2.hif.epoch = s.hif.epoch := by
  simp [State.lookups]

/-! ## The pipeline (07) -/

@[simp] theorem State.stopFrame_epoch (fid kind inst idx : Nat) (s : State) :
    (s.stopFrame fid kind inst idx).hif.epoch = s.hif.epoch := by simp [State.stopFrame]

@[simp] theorem State.arrive_epoch (fid : Nat) (l : List Byte) (s : State) :
    (s.arrive fid l).hif.epoch = s.hif.epoch := (rfl)

@[simp] theorem State.puntFrame_epoch (fid reason : Nat) (s : State) :
    (s.puntFrame fid reason).hif.epoch = s.hif.epoch := by simp [State.puntFrame]

@[simp] theorem State.issueFrame_epoch (fid : Nat) (s : State) : (s.issueFrame fid).hif.epoch = s.hif.epoch := by
  simp [State.issueFrame]

@[simp] theorem State.degrade_epoch (fid : Nat) (s : State) : (s.degrade fid).hif.epoch = s.hif.epoch := by
  simp [State.degrade]

@[simp] theorem State.holdAt_epoch (fid : Nat) (y : Stay) (s : State) : (s.holdAt fid y).hif.epoch = s.hif.epoch := by
  simp [State.holdAt]

@[simp] theorem State.postFlow_epoch (fid : Nat) (p : Parsed) (a : Action) (s : State) :
    (s.postFlow fid p a).hif.epoch = s.hif.epoch := by simp [State.postFlow]

@[simp] theorem State.mirror_epoch (fid session : Nat) (s : State) : (s.mirror fid session).hif.epoch = s.hif.epoch := by
  simp [State.mirror]

@[simp] theorem State.conclude_epoch (fid : Nat) (p : Parsed) (a : Action) (col : Bool) (v : Verdict) (s : State) :
    (s.conclude fid p a col v).hif.epoch = s.hif.epoch := by
  unfold State.conclude
  split <;> simp

@[simp] theorem State.decap_epoch (fid inner : Nat) (s : State) : (s.decap fid inner).hif.epoch = s.hif.epoch := by
  simp [State.decap]

@[simp] theorem State.decide_epoch (fid : Nat) (k : Look) (a : Action) (look : Verdict) (s : State) :
    (s.decide_ fid k a look).hif.epoch = s.hif.epoch := by
  unfold State.decide_
  (repeat' split) <;> simp

@[simp] theorem State.resolve_epoch (fid : Nat) (k : Look) (a : Action) (look : Verdict) (s : State) :
    (s.resolve fid k a look).hif.epoch = s.hif.epoch := by simp [State.resolve]

@[simp] theorem State.pass_epoch (fid : Nat) (s : State) : (s.pass fid).hif.epoch = s.hif.epoch := by
  simp [State.pass]

@[simp] theorem State.countLate_epoch (fid : Nat) (s : State) : (s.countLate fid).hif.epoch = s.hif.epoch := by
  simp [State.countLate]

@[simp] theorem State.tagFrame_epoch (fid : Nat) (s : State) : (s.tagFrame fid).hif.epoch = s.hif.epoch := by
  simp [State.tagFrame]

@[simp] theorem State.goOn_epoch (fid : Nat) (y : Stay) (s : State) : (s.goOn fid y).hif.epoch = s.hif.epoch := by
  unfold State.goOn
  split <;> simp

@[simp] theorem State.advance_epoch (fid : Nat) (s : State) : (s.advance fid).hif.epoch = s.hif.epoch := by
  unfold State.advance
  split <;> simp

@[simp] theorem State.finishFrame_epoch (fid : Nat) (rest : List Byte) (bad : Bool) (s : State) :
    (s.finishFrame fid rest bad).hif.epoch = s.hif.epoch := by
  dsimp only [State.finishFrame]
  (repeat' split) <;> simp

@[simp] theorem State.endFrame_epoch (fid : Nat) (rest : List Byte) (t : FrameTail) (s : State) :
    (s.endFrame fid rest t).hif.epoch = s.hif.epoch := by
  dsimp only [State.endFrame]
  (repeat' split) <;> simp

theorem execFrameEnd_keepsEpoch {fid : Nat} {rest : List Byte} {t : FrameTail} {s : State} :
    Res.KeepsEpoch s (execFrameEnd fid rest t s) := .next (by simp)

@[simp] theorem State.enterFrame_epoch (x : Frame) (s : State) : (s.enterFrame x).2.hif.epoch = s.hif.epoch := by
  simp [State.enterFrame]

@[simp] theorem State.countLine_epoch (p : Nat) (a : Arrival) (s : State) :
    (s.countLine p a).hif.epoch = s.hif.epoch := by simp [State.countLine]

@[simp] theorem State.receive_epoch (p : Nat) (a : Arrival) (ts : Nat) (s : State) :
    (s.receive p a ts).hif.epoch = s.hif.epoch := by simp [State.receive]

theorem execPipelineEntry_keepsEpoch {p : Fin 1024} {a : Arrival} {s : State} :
    Res.KeepsEpoch s (execPipelineEntry p a s) := .next (by simp)

theorem execLateKeyEntry_keepsEpoch {fid : Nat} {more : List Byte} {s : State} :
    Res.KeepsEpoch s (execLateKeyEntry fid more s) := .next (by simp)

theorem execRecirculationPass_keepsEpoch {fid : Nat} {s : State} : Res.KeepsEpoch s (execRecirculationPass fid s) :=
  .next (by simp)

theorem execHoldRelease_keepsEpoch {p : Fin 1024} {uncorrectable : Bool} {s : State} :
    Res.KeepsEpoch s (execHoldRelease p uncorrectable s) := by
  refine .next ?_
  split <;> simp

@[simp] theorem State.unpark_epoch (fid : Nat) (s : State) : (s.unpark fid).hif.epoch = s.hif.epoch :=
  State.epoch_of_footing (State.unpark_footing ..)

@[simp] theorem State.sampleResult_epoch (o : Op) (times : SampleTimes) (own : Bool) (s : State) :
    (s.sampleResult o times own).hif.epoch = s.hif.epoch := by simp [State.sampleResult]

@[simp] theorem State.applyResult_epoch (fid : Nat) (y : List Word) (s : State) :
    (s.applyResult fid y).hif.epoch = s.hif.epoch := by
  dsimp only [State.applyResult]
  (repeat' split) <;> simp

@[simp] theorem State.frameResult_epoch (fid : Nat) (r : List Word) (s : State) :
    (s.frameResult fid r).hif.epoch = s.hif.epoch := by simp [State.frameResult]

theorem execFlowResult_keepsEpoch {c : Fin 64} {tag : Fin 256} {times : SampleTimes} {own : Bool} {s : State} :
    Res.KeepsEpoch s (execFlowResult c tag times own s) := by
  refine .next ?_
  split <;> simp

@[simp] theorem State.giveUp_epoch (o : Op) (s : State) : (s.giveUp o).hif.epoch = s.hif.epoch := by
  simp [State.giveUp]

theorem execWaitLimitExpiry_keepsEpoch {c : Fin 64} {tag : Fin 256} {s : State} :
    Res.KeepsEpoch s (execWaitLimitExpiry c tag s) := by
  refine .next ?_
  split <;> simp

theorem execFlowFormat_keepsEpoch {r : Req} {s : State} : Res.KeepsEpoch s (execFlowFormat r s) := by
  refine .mailbox fun _ => ?_
  split <;> simp

/-! ## Cells: sleep, wakes, epochs, isolation and resets (03; 16 R549) -/

theorem execDozeEntry_keepsEpoch {c : Fin 64} {s : State} : Res.KeepsEpoch s (execDozeEntry c s) := .next (by simp)

theorem execSlumberEntry_keepsEpoch {c : Fin 64} {s : State} : Res.KeepsEpoch s (execSlumberEntry c s) :=
  .next (by simp)

@[simp] theorem State.applyLink_epoch (p : Nat) (s : State) : (s.applyLink p).hif.epoch = s.hif.epoch :=
  State.epoch_of_anchor (State.applyLink_anchor ..)

@[simp] theorem State.applyPreempt_epoch (p : Nat) (s : State) : (s.applyPreempt p).hif.epoch = s.hif.epoch := (rfl)

@[simp] theorem State.applyGate_epoch (p : Nat) (s : State) : (s.applyGate p).hif.epoch = s.hif.epoch :=
  State.epoch_of_anchor (State.applyGate_anchor ..)

@[simp] theorem State.applyPort_epoch (old : Cfg) (p : Nat) (s : State) :
    (s.applyPort old p).hif.epoch = s.hif.epoch := State.epoch_of_anchor (State.applyPort_anchor ..)

@[simp] theorem State.acceptEpoch_epoch (c : Nat) (s : State) : (s.acceptEpoch c).hif.epoch = s.hif.epoch :=
  (congrArg Anchor.epoch (State.acceptEpoch_anchor c s)).trans rfl

@[simp] theorem State.enactEpoch_epoch (c : Nat) (s : State) : (s.enactEpoch c).hif.epoch = s.hif.epoch :=
  State.epoch_of_anchor (State.enactEpoch_anchor ..)

theorem execCellEpochApply_keepsEpoch {c : Fin 64} {slots : BitVec 8} {s0 : State} :
    Res.KeepsEpoch s0 (execCellEpochApply c slots s0) := by
  refine .next ?_
  (repeat' split) <;> simp

@[simp] theorem State.isolatePorts_epoch (c : Nat) (s : State) : (s.isolatePorts c).hif.epoch = s.hif.epoch :=
  State.epoch_of_anchor (State.isolatePorts_anchor c s)

theorem execCommitIsolation_keepsEpoch {c : Fin 64} {slots : BitVec 8} {s0 : State} :
    Res.KeepsEpoch s0 (execCommitIsolation c slots s0) := .next (by simp)

theorem execCellWake_keepsEpoch {c : Fin 64} {t : WakeTrigger} {s : State} : Res.KeepsEpoch s (execCellWake c t s) := by
  refine .next ?_
  split <;> simp

@[simp] theorem State.makeHeld_epoch (c : Nat) (h : DynWrite) (s : State) :
    (s.makeHeld c h).2.hif.epoch = s.hif.epoch := State.epoch_of_anchor (State.makeHeld_anchor ..)

@[simp] theorem State.applyHeld_epoch (c : Nat) (l : List DynWrite) (own : List Bool) (s : State) :
    (s.applyHeld c l own).hif.epoch = s.hif.epoch := State.epoch_of_anchor (State.applyHeld_anchor ..)

@[simp] theorem State.reinitCell_epoch (c : Nat) (s : State) : (s.reinitCell c).hif.epoch = s.hif.epoch := (rfl)

theorem execWakeComplete_keepsEpoch {c : Fin 64} {own : List Bool} {slots : BitVec 8} {s0 : State} :
    Res.KeepsEpoch s0 (execWakeComplete c own slots s0) := by
  refine .next ?_
  split <;> simp

@[simp] theorem wakeSome_epoch (n : Nat) (l : List Nat) (s : State) : (wakeSome n l s).hif.epoch = s.hif.epoch := by
  induction l generalizing n s with
  | nil => cases n <;> rfl
  | cons c l ih =>
    cases n with
    | zero => rfl
    | succ n => simp [wakeSome, ih]

@[simp] theorem State.wakeForDuty_epoch (s : State) : s.wakeForDuty.hif.epoch = s.hif.epoch := by
  simp [State.wakeForDuty]

@[simp] theorem State.isolateCell_epoch (c : Nat) (s : State) : (s.isolateCell c).hif.epoch = s.hif.epoch := by
  simp [State.isolateCell]

theorem execCellWakeTimeout_keepsEpoch {c : Fin 64} {s : State} : Res.KeepsEpoch s (execCellWakeTimeout c s) := by
  refine .next ?_
  split <;> simp

theorem execCellIsolation_keepsEpoch {c : Fin 64} {s : State} : Res.KeepsEpoch s (execCellIsolation c s) :=
  .next (by simp)

@[simp] theorem State.fatalEvent_epoch (e : Ev) (s : State) : (s.fatalEvent e).hif.epoch = s.hif.epoch := by
  simp [State.fatalEvent]

@[simp] theorem State.unitFault_epoch (u : SupplyUnit) (s : State) : (s.unitFault u).hif.epoch = s.hif.epoch := by
  unfold State.unitFault
  split <;> simp

theorem execSupplyFault_keepsEpoch {u : SupplyUnit} {s : State} : Res.KeepsEpoch s (execSupplyFault u s) :=
  .next (by simp)

@[simp] theorem State.resetPort_epoch (p : Nat) (s : State) : (s.resetPort p).hif.epoch = s.hif.epoch :=
  State.epoch_of_core (State.resetPort_core ..)

@[simp] theorem State.loseFrame_epoch (fid : Nat) (s : State) : (s.loseFrame fid).hif.epoch = s.hif.epoch :=
  State.epoch_of_footing (State.loseFrame_footing ..)

@[simp] theorem State.resetChunks_epoch (c : Nat) (s : State) : (s.resetChunks c).hif.epoch = s.hif.epoch :=
  State.epoch_of_footing (State.resetChunks_footing ..)

@[simp] theorem State.startCellReset_epoch (c : Nat) (s : State) : (s.startCellReset c).hif.epoch = s.hif.epoch :=
  State.epoch_of_core (State.startCellReset_core ..)

@[simp] theorem State.clearIsolation_epoch (c : Nat) (s : State) : (s.clearIsolation c).hif.epoch = s.hif.epoch := by
  simp [State.clearIsolation]

theorem execResetCell_keepsEpoch {r : Req} {s : State} : Res.KeepsEpoch s (execResetCell r s) := by
  refine .mailbox fun q => ?_
  dsimp only
  split
  · rfl
  · split
    · simp
    · split
      · rfl
      · next heq => simp [State.dutyPlaceIf_epoch heq]

theorem execCellResetDone_keepsEpoch {c : Fin 64} {own : List Bool} {slots : BitVec 8} {s0 : State} :
    Res.KeepsEpoch s0 (execCellResetDone c own slots s0) := .next (by simp)

theorem execResetLane_keepsEpoch {r : Req} {s : State} : Res.KeepsEpoch s (execResetLane r s) := by
  refine .mailbox fun _ => ?_
  split <;> simp

theorem execPowerHoldAwake_keepsEpoch {r : Req} {s : State} : Res.KeepsEpoch s (execPowerHoldAwake r s) :=
  .mailbox fun _ => by simp

/-! ## Faults (16) -/

@[simp] theorem State.rearm_epoch (s : State) : s.rearm.hif.epoch = s.hif.epoch := (rfl)

theorem execFltEvtWrite_keepsEpoch {n : Fin 36} {v : Word} {s : State} : Res.KeepsEpoch s (execFltEvtWrite n v s) :=
  .next (by simp)

theorem execFfrValidWrite_keepsEpoch {v : Word} {s : State} : Res.KeepsEpoch s (execFfrValidWrite v s) :=
  .next (by simp)

theorem execFltStatus_keepsEpoch {r : Req} {s : State} : Res.KeepsEpoch s (execFltStatus r s) := .mailbox fun _ => rfl

theorem execFltRead_keepsEpoch {r : Req} {s : State} : Res.KeepsEpoch s (execFltRead r s) := .mailbox fun _ => rfl

theorem execFltClear_keepsEpoch {r : Req} {s : State} : Res.KeepsEpoch s (execFltClear r s) := by
  refine .mailbox fun _ => ?_
  dsimp only
  (repeat' split) <;> simp

theorem execFltFfrRearm_keepsEpoch {r : Req} {s : State} : Res.KeepsEpoch s (execFltFfrRearm r s) :=
  .mailbox fun _ => rfl

theorem execFltAlertSet_keepsEpoch {r : Req} {s : State} : Res.KeepsEpoch s (execFltAlertSet r s) :=
  .mailbox fun _ => rfl

theorem execFltInject_keepsEpoch {r : Req} {s : State} : Res.KeepsEpoch s (execFltInject r s) :=
  .mailbox fun _ => by simp

theorem execFltEntryWrite_keepsEpoch {own : Bool} {s : State} : Res.KeepsEpoch s (execFltEntryWrite own s) := by
  refine .next ?_
  split <;> simp

theorem execFirmwareLogLine_keepsEpoch {core : Fin 16} {sev : Fin 3} {id : Nat} {text : List Byte} {own : Bool} {s : State} :
    Res.KeepsEpoch s (execFirmwareLogLine core sev id text own s) := .next (by simp)

/-! ## Performance monitors (17) -/

@[simp] theorem State.slotTick_epoch (c : Nat) (s : State) : (s.slotTick c).hif.epoch = s.hif.epoch := by
  unfold State.slotTick
  split <;> simp

@[simp] theorem State.dropKeys_epoch (s : State) : s.dropKeys.hif.epoch = s.hif.epoch := (rfl)

@[simp] theorem State.pmuTick_epoch (b : Nat) (s : State) : (s.pmuTick b).hif.epoch = s.hif.epoch := by
  simp [State.pmuTick]

@[simp] theorem State.applyDueRate_epoch (s : State) : s.applyDueRate.hif.epoch = s.hif.epoch := by
  unfold State.applyDueRate
  split <;> simp

@[simp] theorem State.edge_epoch (f : Tim → Tim) (s : State) : (s.edge f).hif.epoch = s.hif.epoch := by
  simp [State.edge]

@[simp] theorem State.tick_epoch (s : State) : s.tick.hif.epoch = s.hif.epoch := by simp [State.tick]

theorem execPmuCntLoWrite_keepsEpoch {off : Nat} {v : Word} {s : State} :
    Res.KeepsEpoch s (execPmuCntLoWrite off v s) := by
  refine .next ?_
  split <;> simp

theorem execPmuCntHiWrite_keepsEpoch {off : Nat} {v : Word} {s : State} :
    Res.KeepsEpoch s (execPmuCntHiWrite off v s) := by
  refine .next ?_
  split <;> simp

theorem execCounterWrap_keepsEpoch {block : Fin 201} {item : Fin 9} {s : State} :
    Res.KeepsEpoch s (execCounterWrap block item s) := .next (by simp)

theorem execPmuSet_keepsEpoch {r : Req} {s : State} : Res.KeepsEpoch s (execPmuSet r s) := .mailbox fun _ => by simp

theorem execPmuRead_keepsEpoch {r : Req} {s : State} : Res.KeepsEpoch s (execPmuRead r s) := .mailbox fun _ => rfl

theorem execPmuSampleSet_keepsEpoch {r : Req} {s : State} : Res.KeepsEpoch s (execPmuSampleSet r s) :=
  .mailbox fun _ => by simp

theorem execSampleTrigger_keepsEpoch {c : Fin 64} {s : State} : Res.KeepsEpoch s (execSampleTrigger c s) :=
  .next (by simp)

/-! ## Network time (13) -/

theorem execTimeStep_keepsEpoch {r : Req} {s : State} : Res.KeepsEpoch s (execTimeStep r s) := by
  refine .mailbox fun _ => ?_
  split <;> simp

theorem execTimeRate_keepsEpoch {r : Req} {s : State} : Res.KeepsEpoch s (execTimeRate r s) := by
  refine .mailbox fun _ => ?_
  dsimp only
  (repeat' split) <;> simp

theorem execRateChangeApply_keepsEpoch {s : State} : Res.KeepsEpoch s (execRateChangeApply s) := .next (by simp)

theorem execTimeStatus_keepsEpoch {r : Req} {s : State} : Res.KeepsEpoch s (execTimeStatus r s) :=
  .mailbox fun _ => rfl

theorem execTimeUtcSet_keepsEpoch {r : Req} {s : State} : Res.KeepsEpoch s (execTimeUtcSet r s) :=
  .mailbox fun _ => rfl

@[simp] theorem State.clearGates_epoch (s : State) : s.clearGates.hif.epoch = s.hif.epoch := by
  simp [State.clearGates]

@[simp] theorem State.clearPulses_epoch (s : State) : s.clearPulses.hif.epoch = s.hif.epoch := by
  simp [State.clearPulses]

theorem execTimeReanchor_keepsEpoch {r : Req} {s : State} : Res.KeepsEpoch s (execTimeReanchor r s) :=
  .mailbox fun _ => by simp

theorem execTimePulseSet_keepsEpoch {r : Req} {s : State} : Res.KeepsEpoch s (execTimePulseSet r s) := by
  refine .mailbox fun _ => ?_
  dsimp only
  split <;> simp

theorem execPulseEdge_keepsEpoch {n : Fin 8} {s : State} : Res.KeepsEpoch s (execPulseEdge n s) := .next (by simp)

theorem execFollowerLock_keepsEpoch {r : Fin 8} {s : State} : Res.KeepsEpoch s (execFollowerLock r s) :=
  .next (by simp)

theorem execFollowerUnlock_keepsEpoch {r : Fin 8} {s : State} : Res.KeepsEpoch s (execFollowerUnlock r s) :=
  .next (by simp)

theorem execTimeTcSet_keepsEpoch {r : Req} {s : State} : Res.KeepsEpoch s (execTimeTcSet r s) := by
  refine .mailbox fun _ => ?_
  dsimp only
  split <;> simp

theorem execTimeTcStats_keepsEpoch {r : Req} {s : State} : Res.KeepsEpoch s (execTimeTcStats r s) := by
  refine .mailbox fun _ => ?_
  split <;> rfl

theorem execPeerDelayMeasurement_keepsEpoch {p : Fin 1024} {delay : Nat} {s : State} :
    Res.KeepsEpoch s (execPeerDelayMeasurement p delay s) := .next (by simp)

/-! ## The journal restored (03 R101, R103) -/

@[simp] theorem State.restoreJ_epoch (s : State) : s.restoreJ.hif.epoch = s.hif.epoch := by
  dsimp only [State.restoreJ]
  (repeat' split) <;> simp

/-! ## Images (14) -/

@[simp] theorem State.onInactive_epoch (policy : Bool) (f : Slot → Slot) (s : State) :
    (s.onInactive policy f).hif.epoch = s.hif.epoch := (rfl)

theorem execImgStatus_keepsEpoch {r : Req} {s : State} : Res.KeepsEpoch s (execImgStatus r s) := .mailbox fun _ => rfl

theorem execImgWrite_keepsEpoch {r : Req} {s : State} : Res.KeepsEpoch s (execImgWrite r s) := by
  refine .mailbox fun _ => ?_
  dsimp only
  split <;> simp

theorem execImgVerify_keepsEpoch {r : Req} {s : State} : Res.KeepsEpoch s (execImgVerify r s) := by
  refine .mailbox fun _ => ?_
  dsimp only
  split <;> simp

theorem execImgActivate_keepsEpoch {r : Req} {s : State} : Res.KeepsEpoch s (execImgActivate r s) := by
  refine .mailboxThen (fun q => ?_) fun q t => ?_
  · dsimp only
    split
    · rfl
    · split
      · split <;> rfl
      · rfl
  · simp

theorem execFwConfirm_epochSound {r : Req} {b : Burn} {s : State} (h : s.EpochSound) : Res.EpochSound (execFwConfirm r b s) := by
  refine Res.EpochSound.interruptBurn (Res.KeepsEpoch.sound h (.mailbox fun q => ?_))
  dsimp only
  split
  · rfl
  · split <;> simp

theorem execJournalSet_keepsEpoch {r : Req} {s : State} : Res.KeepsEpoch s (execJournalSet r s) :=
  .mailbox fun _ => by simp

/-! ## Identity and attestation (15) -/

@[simp] theorem State.authorize_epoch (op : Nat) (q : Req) (signer key : Nat) (s : State) :
    (s.authorize op q signer key).2.hif.epoch = s.hif.epoch := by
  unfold State.authorize
  split <;> simp

@[simp] theorem State.closeChannels_epoch (p : Channel → Bool) (s : State) :
    (s.closeChannels p).hif.epoch = s.hif.epoch := (rfl)

theorem execSecStatus_keepsEpoch {r : Req} {s : State} : Res.KeepsEpoch s (execSecStatus r s) := .mailbox fun _ => rfl

theorem execSecNonce_keepsEpoch {r : Req} {s : State} : Res.KeepsEpoch s (execSecNonce r s) := .mailbox fun _ => rfl

theorem execSecOwnerEnroll_epochSound {r : Req} {b : Burn} {s : State} (h : s.EpochSound) :
    Res.EpochSound (execSecOwnerEnroll r b s) := by
  refine Res.EpochSound.interruptBurn (Res.KeepsEpoch.sound h (.mailbox fun q => ?_))
  dsimp only
  (repeat' split) <;> simp

theorem execSecOwnerRevoke_epochSound {r : Req} {b : Burn} {s : State} (h : s.EpochSound) :
    Res.EpochSound (execSecOwnerRevoke r b s) := by
  refine Res.EpochSound.interruptBurn (Res.KeepsEpoch.sound h (.mailbox fun q => ?_))
  dsimp only
  (repeat' split) <;> simp

theorem execSecCertRead_keepsEpoch {r : Req} {s : State} : Res.KeepsEpoch s (execSecCertRead r s) :=
  .mailbox fun _ => rfl

theorem execSecAttest_keepsEpoch {r : Req} {s : State} : Res.KeepsEpoch s (execSecAttest r s) := .mailbox fun _ => rfl

theorem execSecDebugArm_keepsEpoch {r : Req} {s : State} : Res.KeepsEpoch s (execSecDebugArm r s) := by
  refine .mailbox fun _ => ?_
  dsimp only
  split <;> simp

@[simp] theorem State.lockDebug_epoch (s : State) : s.lockDebug.hif.epoch = s.hif.epoch := (rfl)

theorem execSecDebugLock_keepsEpoch {r : Req} {s : State} : Res.KeepsEpoch s (execSecDebugLock r s) :=
  .mailbox fun _ => rfl

theorem execNonceLapse_keepsEpoch {id : Nat} {s : State} : Res.KeepsEpoch s (execNonceLapse id s) := .next rfl

theorem execUnlockChallenge_keepsEpoch {s : State} : Res.KeepsEpoch s (execUnlockChallenge s) := .next (by simp)

theorem execUnlockResponse_keepsEpoch {scope : Nat} {key sig : List Word} {s : State} :
    Res.KeepsEpoch s (execUnlockResponse scope key sig s) := .next (by simp)

theorem execDebugNonceLapse_keepsEpoch {s : State} : Res.KeepsEpoch s (execDebugNonceLapse s) := by
  refine .next ?_
  split <;> simp

theorem execDebugArmEnd_keepsEpoch {s : State} : Res.KeepsEpoch s (execDebugArmEnd s) := .next (by simp)

@[simp] theorem State.discard_epoch (s : State) : s.discard.hif.epoch = s.hif.epoch := (rfl)

@[simp] theorem State.discardDatagram_epoch (s : State) : s.discardDatagram.hif.epoch = s.hif.epoch := by
  simp [State.discardDatagram]

theorem execRemoteDatagram_keepsEpoch {data : List Word} {s : State} : Res.KeepsEpoch s (execRemoteDatagram data s) := by
  refine .next ?_
  (repeat' split) <;> simp

theorem execRemoteSessionTimeout_keepsEpoch {ch : Nat} {s : State} :
    Res.KeepsEpoch s (execRemoteSessionTimeout ch s) := .next rfl

@[simp] theorem State.refuseAgreement_epoch (s : State) : s.refuseAgreement.hif.epoch = s.hif.epoch := by
  simp [State.refuseAgreement]

theorem execKeyAgreementInit_keepsEpoch {src data : List Word} {s : State} :
    Res.KeepsEpoch s (execKeyAgreementInit src data s) := .next (by simp)

theorem execKeyAgreementFinish_keepsEpoch {data : List Word} {s : State} :
    Res.KeepsEpoch s (execKeyAgreementFinish data s) := by
  refine .next ?_
  (repeat' split) <;> simp

theorem execPendingAgreementExpiry_keepsEpoch {id : Nat} {s : State} :
    Res.KeepsEpoch s (execPendingAgreementExpiry id s) := .next rfl

/-! ## Module states and boot (03; 14 R495) -/

theorem execPowerStatus_keepsEpoch {r : Req} {s : State} : Res.KeepsEpoch s (execPowerStatus r s) :=
  .mailbox fun _ => rfl

@[simp] theorem State.beginTrans_epoch (k : TransKind) (thermal : Bool) (s : State) :
    (s.beginTrans k thermal).hif.epoch = s.hif.epoch := by simp [State.beginTrans]

theorem execPowerSetState_keepsEpoch {r : Req} {s : State} : Res.KeepsEpoch s (execPowerSetState r s) := by
  refine .mailbox fun _ => ?_
  dsimp only
  (repeat' split) <;> simp

theorem execPowerSetPreserve_keepsEpoch {r : Req} {s : State} : Res.KeepsEpoch s (execPowerSetPreserve r s) :=
  .mailbox fun _ => rfl

theorem execResetWarm_keepsEpoch {r : Req} {s : State} : Res.KeepsEpoch s (execResetWarm r s) := by
  refine .mailboxThen (fun q => ?_) fun q t => ?_
  · split <;> rfl
  · simp

theorem execPowerJournalReplay_epochSound {r : Req} {s : State} (h : s.EpochSound) :
    Res.EpochSound (execPowerJournalReplay r s) := by
  refine .mailbox h fun q => ?_
  dsimp only
  split
  · exact h
  · split
    · exact h
    · split
      · exact h.congr (by simp)
      · exact h.of_nextEpoch (by simp [State.publish_epoch])

@[simp] theorem State.bootLine_epoch (line detail : Nat) (s : State) :
    (s.bootLine line detail).hif.epoch = s.hif.epoch := (rfl)

@[simp] theorem State.bankFails_epoch (b : Nat) (s : State) : (s.bankFails b).hif.epoch = s.hif.epoch := (rfl)

@[simp] theorem State.failTrial_epoch (s : State) : s.failTrial.hif.epoch = s.hif.epoch := by simp [State.failTrial]

@[simp] theorem State.pickBank_epoch (k : TransKind) (s : State) : (s.pickBank k).2.hif.epoch = s.hif.epoch := by
  simp [State.pickBank]

@[simp] theorem State.bootPolicy_epoch (s : State) : s.bootPolicy.hif.epoch = s.hif.epoch := by
  simp [State.bootPolicy]

@[simp] theorem State.restoreFfr_epoch (s : State) : s.restoreFfr.hif.epoch = s.hif.epoch := by
  unfold State.restoreFfr
  (repeat' split) <;> simp

@[simp] theorem State.raiseAbsent_epoch (s : State) : s.raiseAbsent.hif.epoch = s.hif.epoch := by
  simp [State.raiseAbsent]

@[simp] theorem State.startFirmware_epoch (b : Nat) (t : Trans) (s : State) :
    (s.startFirmware b t).hif.epoch = s.hif.epoch := by simp [State.startFirmware]

@[simp] theorem State.enterWatch_epoch (s : State) : s.enterWatch.hif.epoch = s.hif.epoch := (rfl)

theorem execBootImageVerified_keepsEpoch {s : State} : Res.KeepsEpoch s (execBootImageVerified s) := by
  refine .next ?_
  split
  · rfl
  · next t _ =>
    have hpick := State.pickBank_epoch t.kind s
    refine State.ite_epoch_eq rfl ?_
    split
    · next heq => simp [State.epoch_of_mk hpick heq]
    · next heq => simp [State.epoch_of_mk hpick heq]

@[simp] theorem State.phase_epoch (n : Nat) (s : State) : (s.phase n).hif.epoch = s.hif.epoch := (rfl)

@[simp] theorem State.atStandby_epoch (s : State) : s.atStandby.hif.epoch = s.hif.epoch := (rfl)

theorem execStacksTrained_keepsEpoch {s : State} : Res.KeepsEpoch s (execStacksTrained s) := by
  refine .next ?_
  split <;> simp

theorem execResetDone_keepsEpoch {s : State} : Res.KeepsEpoch s (execResetDone s) := by
  refine .next ?_
  split <;> simp

theorem execRunEntryCommit_epochSound {s : State} (h : s.EpochSound) : Res.EpochSound (execRunEntryCommit s) := by
  refine .next ?_
  split
  · dsimp only
    split
    · exact h.of_nextEpoch (by simp [State.publish_epoch])
    · exact h
  · exact h

@[simp] theorem State.reinstall_epoch (s : State) : s.reinstall.hif.epoch = s.hif.epoch := by simp [State.reinstall]

@[simp] theorem State.leaveRun_epoch (s : State) : s.leaveRun.hif.epoch = s.hif.epoch := by simp [State.leaveRun]

theorem execPowerTransitionDone_keepsEpoch {s : State} : Res.KeepsEpoch s (execPowerTransitionDone s) := by
  refine .next ?_
  (repeat' split) <;> simp

@[simp] theorem State.writeBack_epoch (s : State) : s.writeBack.hif.epoch = s.hif.epoch := by simp [State.writeBack]

theorem execDrainComplete_keepsEpoch {s : State} : Res.KeepsEpoch s (execDrainComplete s) := by
  refine .next ?_
  (repeat' split) <;> simp

theorem execWatchWake_keepsEpoch {s : State} : Res.KeepsEpoch s (execWatchWake s) := .next (by simp)

@[simp] theorem State.watchdogReset_epoch (s : State) : s.watchdogReset.hif.epoch = s.hif.epoch := by
  simp [State.watchdogReset]

theorem execWatchdogExpiry_keepsEpoch {s : State} : Res.KeepsEpoch s (execWatchdogExpiry s) := .next (by simp)

theorem execDeferredWatchdogReset_keepsEpoch {s : State} : Res.KeepsEpoch s (execDeferredWatchdogReset s) :=
  .next (by simp)

theorem execWatchdogRefresh_keepsEpoch {s : State} : Res.KeepsEpoch s (execWatchdogRefresh s) := .next (by simp)

theorem execJournalSeal_keepsEpoch {s : State} : Res.KeepsEpoch s (execJournalSeal s) := .next (by simp)

theorem execJournalSealDone_keepsEpoch {s : State} : Res.KeepsEpoch s (execJournalSealDone s) := .next (by simp)

theorem execPrstNAssert_keepsEpoch {s : State} : Res.KeepsEpoch s (execPrstNAssert s) := .next (by simp)

theorem execModuleReset_keepsEpoch {s : State} : Res.KeepsEpoch s (execModuleReset s) := .next (by simp)

theorem execPrstNRelease_keepsEpoch {s : State} : Res.KeepsEpoch s (execPrstNRelease s) := .next rfl

theorem execFatalFaultReset_keepsEpoch {s : State} : Res.KeepsEpoch s (execFatalFaultReset s) := by
  refine .next ?_
  split <;> simp

/-! ## The input supply and temperatures (02; 18) -/

theorem execStartThreshold_keepsEpoch {s : State} : Res.KeepsEpoch s (execStartThreshold s) := .next (by simp)

theorem execOvervoltageRestart_keepsEpoch {s : State} : Res.KeepsEpoch s (execOvervoltageRestart s) := .next (by simp)

theorem execCairnPowerUp_keepsEpoch {straps : Fin 4} {s : State} : Res.KeepsEpoch s (execCairnPowerUp straps s) :=
  .next (by simp)

theorem execFirstInputMeasurement_keepsEpoch {vin iin pin : Nat} {above : Bool} {s : State} :
    Res.KeepsEpoch s (execFirstInputMeasurement vin iin pin above s) := .next (by simp)

theorem execPowerFailWarning_keepsEpoch {s : State} : Res.KeepsEpoch s (execPowerFailWarning s) := .next (by simp)

theorem execPowerFailRelease_keepsEpoch {s : State} : Res.KeepsEpoch s (execPowerFailRelease s) := .next (by simp)

theorem execConverterStop_epochSound {ov : Bool} {s : State} (h : s.EpochSound) : Res.EpochSound (execConverterStop ov s) := by
  refine .next ?_
  split
  · exact h
  · exact (State.powerOff_epochSound s).congr rfl

theorem execVinSnsOpen_keepsEpoch {s : State} : Res.KeepsEpoch s (execVinSnsOpen s) := .next (by simp)

theorem execVinSnsConnected_keepsEpoch {s : State} : Res.KeepsEpoch s (execVinSnsConnected s) := .next (by simp)

theorem execSurge_keepsEpoch {g : SurgeSeen} {s : State} : Res.KeepsEpoch s (execSurge g s) := .next (by simp)

theorem execSysclkLost_keepsEpoch {s : State} : Res.KeepsEpoch s (execSysclkLost s) := .next (by simp)

theorem execSysclkReturn_keepsEpoch {s : State} : Res.KeepsEpoch s (execSysclkReturn s) := .next (by simp)

theorem execSdsrefLoss_keepsEpoch {r : Fin 8} {s : State} : Res.KeepsEpoch s (execSdsrefLoss r s) := .next (by simp)

theorem execSdsrefReturn_keepsEpoch {r : Fin 8} {s : State} : Res.KeepsEpoch s (execSdsrefReturn r s) :=
  .next (by simp)

@[simp] theorem State.linkLost_epoch (s : State) : s.linkLost.hif.epoch = s.hif.epoch := by simp [State.linkLost]

theorem execPerstNAssert_keepsEpoch {s : State} : Res.KeepsEpoch s (execPerstNAssert s) := .next (by simp)

@[simp] theorem State.cutRing_epoch (i : Nat) (s : State) : (s.cutRing i).hif.epoch = s.hif.epoch := by
  simp [State.cutRing]

@[simp] theorem State.endpointReset_epoch (s : State) : s.endpointReset.hif.epoch = s.hif.epoch := by
  simp [State.endpointReset]

theorem execPerstNRelease_keepsEpoch {s : State} : Res.KeepsEpoch s (execPerstNRelease s) := .next (by simp)

theorem execPcieLinkDown_keepsEpoch {s : State} : Res.KeepsEpoch s (execPcieLinkDown s) := .next (by simp)

theorem execPcieLinkUp_keepsEpoch {free : List Nat} {s : State} : Res.KeepsEpoch s (execPcieLinkUp free s) :=
  .next (by simp)

theorem execTemperatureSample_keepsEpoch {temps : List (Option ℤ)} {s : State} :
    Res.KeepsEpoch s (execTemperatureSample temps s) := .next (by simp)

theorem execThermalWarning_keepsEpoch {s : State} : Res.KeepsEpoch s (execThermalWarning s) := .next (by simp)

theorem execThermalLimit_keepsEpoch {s : State} : Res.KeepsEpoch s (execThermalLimit s) := .next (by simp)

theorem execThermalStandby_keepsEpoch {s : State} : Res.KeepsEpoch s (execThermalStandby s) := .next (by simp)

theorem execThermalConditionEnd_keepsEpoch {limit : Bool} {s : State} :
    Res.KeepsEpoch s (execThermalConditionEnd limit s) := .next (by simp)

theorem execThermalTrip_epochSound {s : State} (h : s.EpochSound) : Res.EpochSound (execThermalTrip s) := by
  refine .next ?_
  split
  · exact h
  · exact (State.powerOff_epochSound s).congr rfl

theorem execTripLatchClear_keepsEpoch {s : State} : Res.KeepsEpoch s (execTripLatchClear s) := .next rfl

theorem execHourlyFlashWrite_keepsEpoch {s : State} : Res.KeepsEpoch s (execHourlyFlashWrite s) := .next (by simp)

/-! ## The host interface (04) -/

theorem execLoReadLatch_keepsEpoch {master off : Nat} {s : State} : Res.KeepsEpoch s (execLoReadLatch master off s) :=
  .next (by simp)

@[simp] theorem State.writeMsix_epoch (k : Nat) (v : Word) (s : State) : (s.writeMsix k v).hif.epoch = s.hif.epoch := by
  simp [State.writeMsix]

@[simp] theorem State.writeMbxBase_epoch (off : Nat) (v : Word) (s : State) :
    (s.writeMbxBase off v).hif.epoch = s.hif.epoch := by
  unfold State.writeMbxBase
  split <;> simp

@[simp] theorem State.writeRingReg_epoch (off : Nat) (v : Word) (s : State) : (s.writeRingReg off v).hif.epoch = s.hif.epoch := by
  unfold State.writeRingReg
  extract_lets i g
  split
  · split <;> simp
  · split <;> simp
  · simp
  · rfl

@[simp] theorem State.bar0Write_epoch (off : Nat) (v : Word) (s : State) : (s.bar0Write off v).hif.epoch = s.hif.epoch := by
  unfold State.bar0Write
  refine State.ite_epoch_eq rfl (State.ite_epoch_eq (by simp) (State.ite_epoch_eq (by simp) (State.ite_epoch_eq (by simp) ?_)))
  refine State.ite_epoch_eq (State.writeMbxBase_epoch off v s) (State.ite_epoch_eq (State.writeMsix_epoch _ v s) ?_)
  refine State.ite_epoch_eq (State.writeRingReg_epoch off v s) (State.ite_epoch_eq (by simp) (State.ite_epoch_eq (by simp) ?_))
  refine State.ite_epoch_eq (by simp) (State.ite_epoch_eq (by simp) ?_)
  split
  · split <;> simp
  · rfl

theorem execRegisterWrite_keepsEpoch {off : Nat} {v : Word} {s : State} :
    Res.KeepsEpoch s (execRegisterWrite off v s) := .next (by simp)

theorem execReservedBar0Write_keepsEpoch {off : Nat} {_v : Word} {s : State} :
    Res.KeepsEpoch s (execReservedBar0Write off _v s) := .next (by simp)

theorem execBootMailboxGo_keepsEpoch {s : State} : Res.KeepsEpoch s (execBootMailboxGo s) := .next (by simp)

@[simp] theorem State.takeCommand_epoch (n : Nat) (head : Word) (s : State) :
    (s.takeCommand n head).hif.epoch = s.hif.epoch := by simp [State.takeCommand]

theorem execMailboxDoorbell_keepsEpoch {n : Fin 8} {head : Word} {s : State} :
    Res.KeepsEpoch s (execMailboxDoorbell n head s) := by
  refine .next (State.access_epoch _ s fun t => ?_)
  dsimp only
  split
  · split
    · simp
    · rfl
  · simp

theorem execMailboxCommandTake_keepsEpoch {n : Fin 8} {head : Word} {s : State} :
    Res.KeepsEpoch s (execMailboxCommandTake n head s) := .next (by simp)

theorem execMbxCtrlWrite_keepsEpoch {n : Fin 8} {v : Word} {s : State} : Res.KeepsEpoch s (execMbxCtrlWrite n v s) :=
  .next (by simp)

theorem execMbxIdle_keepsEpoch {n : Fin 8} {s : State} : Res.KeepsEpoch s (execMbxIdle n s) := .next (by simp)

theorem execI2cRead_keepsEpoch {dev off n : Nat} {input : InputSeen} {s : State} :
    Res.KeepsEpoch s (execI2cRead dev off n input s) := .next (by simp)

theorem execMgmtFrame_keepsEpoch {m : Fin 2} {data : List Byte} {s : State} :
    Res.KeepsEpoch s (execMgmtFrame m data s) := by
  refine .next ?_
  dsimp only
  (repeat' split) <;> simp

/-! ## Scrubs (09; 16) -/

@[simp] theorem State.emptyChunk_epoch (d : Chunk) (s : State) : (s.emptyChunk d).hif.epoch = s.hif.epoch := (rfl)

@[simp] theorem State.loseChunk_epoch (c n : Nat) (s : State) : (s.loseChunk c n).hif.epoch = s.hif.epoch := by
  unfold State.loseChunk
  (repeat' split) <;> simp

@[simp] theorem State.loseStaged_epoch (c n : Nat) (s : State) : (s.loseStaged c n).hif.epoch = s.hif.epoch := by
  dsimp only [State.loseStaged]
  (repeat' split) <;> simp

@[simp] theorem State.loseWord_epoch (u table index : Nat) (s : State) :
    (s.loseWord u table index).hif.epoch = s.hif.epoch := by simp [State.loseWord]

@[simp] theorem State.wordError_epoch (u table index : Nat) (s : State) :
    (s.wordError u table index).hif.epoch = s.hif.epoch := by
  unfold State.wordError
  (repeat' split) <;> simp

theorem execTableScrub_keepsEpoch {u : Fin 72} {table : Fin 16} {index : Nat} {err : EccSeen} {s : State} :
    Res.KeepsEpoch s (execTableScrub u table index err s) := by
  refine .next ?_
  (repeat' split) <;> simp

@[simp] theorem State.restoredEvent_epoch (cell obj dest : Nat) (own : Bool) (s : State) :
    (s.restoredEvent cell obj dest own).hif.epoch = s.hif.epoch := by simp [State.restoredEvent]

@[simp] theorem State.restoreL2_epoch (cell word : Nat) (own : Bool) (s : State) :
    (s.restoreL2 cell word own).hif.epoch = s.hif.epoch := by
  dsimp only [State.restoreL2]
  (repeat' split) <;> simp

theorem execTableWordRestore_keepsEpoch {u : Fin 72} {table : Fin 16} {index : Nat} {own : Bool} {s : State} :
    Res.KeepsEpoch s (execTableWordRestore u table index own s) := .next (by simp)

/-! ## Transmit service (05) -/

@[simp] theorem State.openRound_epoch (s : State) : s.openRound.hif.epoch = s.hif.epoch := by simp [State.openRound]

@[simp] theorem State.countStart_epoch (i : Nat) (s : State) : (s.countStart i).hif.epoch = s.hif.epoch := (rfl)

@[simp] theorem State.copyDesc_epoch (i : Nat) (d : Desc) (data : List Byte) (s : State) :
    (s.copyDesc i d data).hif.epoch = s.hif.epoch := by simp [State.copyDesc]

@[simp] theorem State.sendDesc_epoch (i : Nat) (d : Desc) (body : List Byte) (s : State) :
    (s.sendDesc i d body).hif.epoch = s.hif.epoch := by simp [State.sendDesc]

theorem State.deferStart_epoch {i : Nat} {d : Desc} {s t : State} (e : s.deferStart i d = some t) :
    t.hif.epoch = s.hif.epoch := by
  dsimp only [State.deferStart] at e
  split at e
  · split at e
    · cases e; rfl
    · split at e
      · cases e; simp
      · split at e
        · cases e
        · cases e; rfl
  · cases e

@[simp] theorem State.chargeHost_epoch (d : Desc) (s : State) : (s.chargeHost d).hif.epoch = s.hif.epoch := by
  simp [State.chargeHost]

theorem execTxDescriptorStart_keepsEpoch {i : Fin 256} {busOk : Bool} {data : List Byte} {scans : List Scan} {s0 : State} :
    Res.KeepsEpoch s0 (execTxDescriptorStart i busOk data scans s0) := by
  refine .next ?_
  dsimp only
  split
  · rfl
  · split
    · rfl
    · split
      · next heq => simp [State.deferStart_epoch heq]
      · split
        · simp
        · split
          · simp
          · split <;> simp

/-! ## The step -/

/-- Every instruction leaves a CURRENT in its range. -/
theorem exec_epochSound {i : Instr} {s : State} (h : s.EpochSound) : Res.EpochSound (exec i s) := by
  cases i with
  | sessionOpen _ => exact execSessionOpen_keepsEpoch.sound h
  | sessionClose _ => exact execSessionClose_keepsEpoch.sound h
  | commit _ _ => exact execCommit_epochSound h
  | epochStatus _ => exact execEpochStatus_keepsEpoch.sound h
  | stageDiscard _ => exact execStageDiscard_keepsEpoch.sound h
  | statsSnapshot _ => exact execStatsSnapshot_keepsEpoch.sound h
  | snapshotDone _ => exact execSnapshotDone_keepsEpoch.sound h
  | unknownOpcode _ _ => exact execUnknownOpcode_keepsEpoch.sound h
  | powerStatus _ => exact execPowerStatus_keepsEpoch.sound h
  | powerSetState _ => exact execPowerSetState_keepsEpoch.sound h
  | powerSetPreserve _ => exact execPowerSetPreserve_keepsEpoch.sound h
  | powerHoldAwake _ => exact execPowerHoldAwake_keepsEpoch.sound h
  | resetWarm _ => exact execResetWarm_keepsEpoch.sound h
  | resetCell _ => exact execResetCell_keepsEpoch.sound h
  | resetLane _ => exact execResetLane_keepsEpoch.sound h
  | powerJournalReplay _ => exact execPowerJournalReplay_epochSound h
  | ringSetService _ => exact execRingSetService_keepsEpoch.sound h
  | ringPuntMap _ => exact execRingPuntMap_keepsEpoch.sound h
  | ringEventRoute _ => exact execRingEventRoute_keepsEpoch.sound h
  | ringPuntLimit _ => exact execRingPuntLimit_keepsEpoch.sound h
  | portSet _ => exact execPortSet_keepsEpoch.sound h
  | portStatus _ => exact execPortStatus_keepsEpoch.sound h
  | portStatsRead _ => exact execPortStatsRead_keepsEpoch.sound h
  | clsParserSet _ => exact execClsParserSet_keepsEpoch.sound h
  | clsBankSet _ => exact execClsBankSet_keepsEpoch.sound h
  | clsProfileSet _ => exact execClsProfileSet_keepsEpoch.sound h
  | clsPortSet _ => exact execClsPortSet_keepsEpoch.sound h
  | clsRuleWrite _ => exact execClsRuleWrite_keepsEpoch.sound h
  | clsRuleDelete _ => exact execClsRuleDelete_keepsEpoch.sound h
  | clsRuleRead _ => exact execClsRuleRead_keepsEpoch.sound h
  | clsMeterSet _ => exact execClsMeterSet_keepsEpoch.sound h
  | clsMirrorSet _ => exact execClsMirrorSet_keepsEpoch.sound h
  | clsStatsRead _ => exact execClsStatsRead_keepsEpoch.sound h
  | tblVlanSet _ => exact execTblVlanSet_keepsEpoch.sound h
  | tblPortSet _ => exact execTblPortSet_keepsEpoch.sound h
  | tblL2Write _ => exact execTblL2Write_keepsEpoch.sound h
  | tblL2Flush _ => exact execTblL2Flush_keepsEpoch.sound h
  | tblL2Read _ => exact execTblL2Read_keepsEpoch.sound h
  | tblAgeSet _ => exact execTblAgeSet_keepsEpoch.sound h
  | tblRouteWrite _ => exact execTblRouteWrite_keepsEpoch.sound h
  | tblNexthopSet _ => exact execTblNexthopSet_keepsEpoch.sound h
  | tblRouterMac _ => exact execTblRouterMac_keepsEpoch.sound h
  | tblGroupSet _ => exact execTblGroupSet_keepsEpoch.sound h
  | tblHashKey _ => exact execTblHashKey_keepsEpoch.sound h
  | tblMcastSet _ => exact execTblMcastSet_keepsEpoch.sound h
  | tblLookup _ => exact execTblLookup_keepsEpoch.sound h
  | tblStatsRead _ => exact execTblStatsRead_keepsEpoch.sound h
  | flowFormat _ => exact execFlowFormat_keepsEpoch.sound h
  | flowTemplateSet _ => exact execFlowTemplateSet_keepsEpoch.sound h
  | flowZoneSet _ => exact execFlowZoneSet_keepsEpoch.sound h
  | flowAgeSet _ => exact execFlowAgeSet_keepsEpoch.sound h
  | flowRead _ => exact execFlowRead_keepsEpoch.sound h
  | flowDelete _ => exact execFlowDelete_keepsEpoch.sound h
  | flowZoneFlush _ => exact execFlowZoneFlush_keepsEpoch.sound h
  | flowArchiveRead _ => exact execFlowArchiveRead_keepsEpoch.sound h
  | flowStatsRead _ => exact execFlowStatsRead_keepsEpoch.sound h
  | progLoad _ => exact execProgLoad_keepsEpoch.sound h
  | progRead _ => exact execProgRead_keepsEpoch.sound h
  | progMeterSet _ => exact execProgMeterSet_keepsEpoch.sound h
  | progPoolSet _ => exact execProgPoolSet_keepsEpoch.sound h
  | progPoolStatus _ => exact execProgPoolStatus_keepsEpoch.sound h
  | progGroupSet _ => exact execProgGroupSet_keepsEpoch.sound h
  | progEmitSet _ => exact execProgEmitSet_keepsEpoch.sound h
  | progStatsRead _ => exact execProgStatsRead_keepsEpoch.sound h
  | fabStatus _ => exact execFabStatus_keepsEpoch.sound h
  | fabBench _ => exact execFabBench_keepsEpoch.sound h
  | fabColPolicer _ => exact execFabColPolicer_keepsEpoch.sound h
  | fabBufSet _ => exact execFabBufSet_keepsEpoch.sound h
  | fabStatsRead _ => exact execFabStatsRead_keepsEpoch.sound h
  | egrPortSet _ => exact execEgrPortSet_keepsEpoch.sound h
  | egrQueueSet _ => exact execEgrQueueSet_keepsEpoch.sound h
  | egrGateSet _ => exact execEgrGateSet_keepsEpoch.sound h
  | egrGateStatus _ => exact execEgrGateStatus_keepsEpoch.sound h
  | egrStatsRead _ => exact execEgrStatsRead_keepsEpoch.sound h
  | timeStep _ => exact execTimeStep_keepsEpoch.sound h
  | timeRate _ => exact execTimeRate_keepsEpoch.sound h
  | timeStatus _ => exact execTimeStatus_keepsEpoch.sound h
  | timeUtcSet _ => exact execTimeUtcSet_keepsEpoch.sound h
  | timeReanchor _ => exact execTimeReanchor_keepsEpoch.sound h
  | timePulseSet _ => exact execTimePulseSet_keepsEpoch.sound h
  | timeTcSet _ => exact execTimeTcSet_keepsEpoch.sound h
  | timeTcStats _ => exact execTimeTcStats_keepsEpoch.sound h
  | imgStatus _ => exact execImgStatus_keepsEpoch.sound h
  | imgWrite _ => exact execImgWrite_keepsEpoch.sound h
  | imgVerify _ => exact execImgVerify_keepsEpoch.sound h
  | imgActivate _ => exact execImgActivate_keepsEpoch.sound h
  | fwConfirm _ _ => exact execFwConfirm_epochSound h
  | journalSet _ => exact execJournalSet_keepsEpoch.sound h
  | secStatus _ => exact execSecStatus_keepsEpoch.sound h
  | secNonce _ => exact execSecNonce_keepsEpoch.sound h
  | secOwnerEnroll _ _ => exact execSecOwnerEnroll_epochSound h
  | secOwnerRevoke _ _ => exact execSecOwnerRevoke_epochSound h
  | secCertRead _ => exact execSecCertRead_keepsEpoch.sound h
  | secAttest _ => exact execSecAttest_keepsEpoch.sound h
  | secDebugArm _ => exact execSecDebugArm_keepsEpoch.sound h
  | secDebugLock _ => exact execSecDebugLock_keepsEpoch.sound h
  | fltStatus _ => exact execFltStatus_keepsEpoch.sound h
  | fltRead _ => exact execFltRead_keepsEpoch.sound h
  | fltClear _ => exact execFltClear_keepsEpoch.sound h
  | fltFfrRearm _ => exact execFltFfrRearm_keepsEpoch.sound h
  | fltAlertSet _ => exact execFltAlertSet_keepsEpoch.sound h
  | fltInject _ => exact execFltInject_keepsEpoch.sound h
  | pmuSet _ => exact execPmuSet_keepsEpoch.sound h
  | pmuRead _ => exact execPmuRead_keepsEpoch.sound h
  | pmuSampleSet _ => exact execPmuSampleSet_keepsEpoch.sound h
  | skip _ _ _ => exact execSkip_keepsEpoch.sound h
  | skipi _ _ _ => exact execSkipi_keepsEpoch.sound h
  | add _ _ _ => exact execAdd_keepsEpoch.sound h
  | sadd _ _ _ => exact execSadd_keepsEpoch.sound h
  | min _ _ _ => exact execMin_keepsEpoch.sound h
  | max _ _ _ => exact execMax_keepsEpoch.sound h
  | ldi _ _ _ => exact execLdi_keepsEpoch.sound h
  | ext _ _ _ => exact execExt_keepsEpoch.sound h
  | ins _ _ _ => exact execIns_keepsEpoch.sound h
  | keyx _ _ _ => exact execKeyx_keepsEpoch.sound h
  | ts _ _ _ => exact execTs_keepsEpoch.sound h
  | setsc _ _ _ => exact execSetsc_keepsEpoch.sound h
  | meter _ _ _ => exact execMeter_keepsEpoch.sound h
  | natalloc _ _ _ => exact execNatalloc_keepsEpoch.sound h
  | natfree _ _ _ => exact execNatfree_keepsEpoch.sound h
  | lbsel _ _ _ => exact execLbsel_keepsEpoch.sound h
  | comp _ _ _ => exact execComp_keepsEpoch.sound h
  | emit _ _ _ => exact execEmit_keepsEpoch.sound h
  | setact _ _ _ => exact execSetact_keepsEpoch.sound h
  | bootMailboxGo => exact execBootMailboxGo_keepsEpoch.sound h
  | mailboxDoorbell _ _ => exact execMailboxDoorbell_keepsEpoch.sound h
  | mailboxCommandTake _ _ => exact execMailboxCommandTake_keepsEpoch.sound h
  | mbxCtrlWrite _ _ => exact execMbxCtrlWrite_keepsEpoch.sound h
  | mbxIdle _ => exact execMbxIdle_keepsEpoch.sound h
  | ringCtrlWrite _ _ => exact execRingCtrlWrite_keepsEpoch.sound h
  | ringIdle _ => exact execRingIdle_keepsEpoch.sound h
  | ringDoorbell _ _ => exact execRingDoorbell_keepsEpoch.sound h
  | completionDoorbell _ _ _ => exact execCompletionDoorbell_keepsEpoch.sound h
  | eventDoorbell _ _ => exact execEventDoorbell_keepsEpoch.sound h
  | stallReread _ _ _ => exact execStallReread_keepsEpoch.sound h
  | ringInval _ => exact execRingInval_keepsEpoch.sound h
  | invalidationDone => exact execInvalidationDone_keepsEpoch.sound h
  | txDescriptorStart _ _ _ _ => exact execTxDescriptorStart_keepsEpoch.sound h
  | descriptorDone _ _ _ _ => exact execDescriptorDone_keepsEpoch.sound h
  | puntDelivery _ _ _ => exact execPuntDelivery_keepsEpoch.sound h
  | holdoffExpiry _ => exact execHoldoffExpiry_keepsEpoch.sound h
  | bpmAllocReq _ _ => exact execBpmAllocReq_keepsEpoch.sound h
  | bpmFree _ _ _ => exact execBpmFree_keepsEpoch.sound h
  | bpmXfer _ _ _ => exact execBpmXfer_keepsEpoch.sound h
  | fltEvtWrite _ _ => exact execFltEvtWrite_keepsEpoch.sound h
  | ffrValidWrite _ => exact execFfrValidWrite_keepsEpoch.sound h
  | pmuCntLoWrite _ _ => exact execPmuCntLoWrite_keepsEpoch.sound h
  | pmuCntHiWrite _ _ => exact execPmuCntHiWrite_keepsEpoch.sound h
  | loReadLatch _ _ => exact execLoReadLatch_keepsEpoch.sound h
  | reservedBar0Write _ v => exact (execReservedBar0Write_keepsEpoch (_v := v)).sound h
  | registerWrite _ _ => exact execRegisterWrite_keepsEpoch.sound h
  | i2cRead _ _ _ _ => exact execI2cRead_keepsEpoch.sound h
  | remoteDatagram _ => exact execRemoteDatagram_keepsEpoch.sound h
  | keyAgreementInit _ _ => exact execKeyAgreementInit_keepsEpoch.sound h
  | keyAgreementFinish _ => exact execKeyAgreementFinish_keepsEpoch.sound h
  | pendingAgreementExpiry _ => exact execPendingAgreementExpiry_keepsEpoch.sound h
  | remoteSessionTimeout _ => exact execRemoteSessionTimeout_keepsEpoch.sound h
  | nonceLapse _ => exact execNonceLapse_keepsEpoch.sound h
  | mgmtFrame _ _ => exact execMgmtFrame_keepsEpoch.sound h
  | unlockChallenge => exact execUnlockChallenge_keepsEpoch.sound h
  | unlockResponse _ _ _ => exact execUnlockResponse_keepsEpoch.sound h
  | debugNonceLapse => exact execDebugNonceLapse_keepsEpoch.sound h
  | debugArmEnd => exact execDebugArmEnd_keepsEpoch.sound h
  | startThreshold => exact execStartThreshold_keepsEpoch.sound h
  | cairnPowerUp _ => exact execCairnPowerUp_keepsEpoch.sound h
  | firstInputMeasurement _ _ _ _ => exact execFirstInputMeasurement_keepsEpoch.sound h
  | bootImageVerified => exact execBootImageVerified_keepsEpoch.sound h
  | stacksTrained => exact execStacksTrained_keepsEpoch.sound h
  | powerFailWarning => exact execPowerFailWarning_keepsEpoch.sound h
  | powerFailRelease => exact execPowerFailRelease_keepsEpoch.sound h
  | converterStop _ => exact execConverterStop_epochSound h
  | overvoltageRestart => exact execOvervoltageRestart_keepsEpoch.sound h
  | surge _ => exact execSurge_keepsEpoch.sound h
  | vinSnsOpen => exact execVinSnsOpen_keepsEpoch.sound h
  | sysclkLost => exact execSysclkLost_keepsEpoch.sound h
  | sysclkReturn => exact execSysclkReturn_keepsEpoch.sound h
  | sdsrefLoss _ => exact execSdsrefLoss_keepsEpoch.sound h
  | sdsrefReturn _ => exact execSdsrefReturn_keepsEpoch.sound h
  | prstNAssert => exact execPrstNAssert_keepsEpoch.sound h
  | moduleReset => exact execModuleReset_keepsEpoch.sound h
  | perstNAssert => exact execPerstNAssert_keepsEpoch.sound h
  | perstNRelease => exact execPerstNRelease_keepsEpoch.sound h
  | watchdogExpiry => exact execWatchdogExpiry_keepsEpoch.sound h
  | fatalFaultReset => exact execFatalFaultReset_keepsEpoch.sound h
  | drainComplete => exact execDrainComplete_keepsEpoch.sound h
  | resetDone => exact execResetDone_keepsEpoch.sound h
  | runEntryCommit => exact execRunEntryCommit_epochSound h
  | powerTransitionDone => exact execPowerTransitionDone_keepsEpoch.sound h
  | watchWake => exact execWatchWake_keepsEpoch.sound h
  | journalSeal => exact execJournalSeal_keepsEpoch.sound h
  | journalSealDone => exact execJournalSealDone_keepsEpoch.sound h
  | cellEpochApply _ _ => exact execCellEpochApply_keepsEpoch.sound h
  | commitIsolation _ _ => exact execCommitIsolation_keepsEpoch.sound h
  | dozeEntry _ => exact execDozeEntry_keepsEpoch.sound h
  | slumberEntry _ => exact execSlumberEntry_keepsEpoch.sound h
  | cellWake _ _ => exact execCellWake_keepsEpoch.sound h
  | wakeComplete _ _ _ => exact execWakeComplete_keepsEpoch.sound h
  | cellWakeTimeout _ => exact execCellWakeTimeout_keepsEpoch.sound h
  | dutyRejoin _ => exact execDutyRejoin_keepsEpoch.sound h
  | linkUp _ _ => exact execLinkUp_keepsEpoch.sound h
  | linkDown _ => exact execLinkDown_keepsEpoch.sound h
  | lossOfSignal _ => exact execLossOfSignal_keepsEpoch.sound h
  | laneShutdown _ => exact execLaneShutdown_keepsEpoch.sound h
  | cellIsolation _ => exact execCellIsolation_keepsEpoch.sound h
  | lpiEntry _ _ => exact execLpiEntry_keepsEpoch.sound h
  | lpiExit _ => exact execLpiExit_keepsEpoch.sound h
  | partnerLpiExit _ => exact execPartnerLpiExit_keepsEpoch.sound h
  | verifyResult _ _ => exact execVerifyResult_keepsEpoch.sound h
  | holdBufferStore _ _ _ _ => exact execHoldBufferStore_keepsEpoch.sound h
  | holdRelease _ _ => exact execHoldRelease_keepsEpoch.sound h
  | pipelineEntry _ _ => exact execPipelineEntry_keepsEpoch.sound h
  | lateKeyEntry _ _ => exact execLateKeyEntry_keepsEpoch.sound h
  | recirculationPass _ => exact execRecirculationPass_keepsEpoch.sound h
  | frameEnd _ _ _ => exact execFrameEnd_keepsEpoch.sound h
  | learnFilterExpiry _ _ _ => exact execLearnFilterExpiry_keepsEpoch.sound h
  | learnReportHandle _ => exact execLearnReportHandle_keepsEpoch.sound h
  | agingPassRow _ _ _ _ _ => exact execAgingPassRow_keepsEpoch.sound h
  | tableScrub _ _ _ _ => exact execTableScrub_keepsEpoch.sound h
  | tableWordRestore _ _ _ _ => exact execTableWordRestore_keepsEpoch.sound h
  | cacheLookup _ _ _ _ => exact execCacheLookup_keepsEpoch.sound h
  | creditWaitExpiry _ _ => exact execCreditWaitExpiry_keepsEpoch.sound h
  | operate _ _ _ _ => exact execOperate_keepsEpoch.sound h
  | void _ _ _ => exact execVoid_keepsEpoch.sound h
  | companion _ _ _ _ => exact execCompanion_keepsEpoch.sound h
  | companionResult _ _ => exact execCompanionResult_keepsEpoch.sound h
  | read _ _ _ _ _ => exact execRead_keepsEpoch.sound h
  | delete _ _ _ _ _ => exact execDelete_keepsEpoch.sound h
  | invalidate _ _ => exact execInvalidate_keepsEpoch.sound h
  | collect _ _ => exact execCollect_keepsEpoch.sound h
  | ack _ _ _ => exact execAck_keepsEpoch.sound h
  | flush _ _ _ => exact execFlush_keepsEpoch.sound h
  | release _ _ _ => exact execRelease_keepsEpoch.sound h
  | flowResult _ _ _ _ => exact execFlowResult_keepsEpoch.sound h
  | waitLimitExpiry _ _ => exact execWaitLimitExpiry_keepsEpoch.sound h
  | sweepVisit _ _ => exact execSweepVisit_keepsEpoch.sound h
  | dramScrub _ _ _ _ => exact execDramScrub_keepsEpoch.sound h
  | exportWrite _ _ => exact execExportWrite_keepsEpoch.sound h
  | archiveWrite _ => exact execArchiveWrite_keepsEpoch.sound h
  | ipfixExport _ => exact execIpfixExport_keepsEpoch.sound h
  | ipfixTemplateTimer => exact execIpfixTemplateTimer_keepsEpoch.sound h
  | sampleTrigger _ => exact execSampleTrigger_keepsEpoch.sound h
  | chunkClose _ _ _ => exact execChunkClose_keepsEpoch.sound h
  | firstStageSlot _ _ => exact execFirstStageSlot_keepsEpoch.sound h
  | secondStageSlot _ _ _ => exact execSecondStageSlot_keepsEpoch.sound h
  | acceptMapPublish _ => exact execAcceptMapPublish_keepsEpoch.sound h
  | chunkArrival _ _ => exact execChunkArrival_keepsEpoch.sound h
  | reseqLost _ _ => exact execReseqLost_keepsEpoch.sound h
  | benchWindow _ => exact execBenchWindow_keepsEpoch.sound h
  | benchStart _ => exact execBenchStart_keepsEpoch.sound h
  | egressStart _ => exact execEgressStart_keepsEpoch.sound h
  | queueAdmit _ _ => exact execQueueAdmit_keepsEpoch.sound h
  | colInject _ => exact execColInject_keepsEpoch.sound h
  | colHeldInject _ => exact execColHeldInject_keepsEpoch.sound h
  | transmitSelect _ _ => exact execTransmitSelect_keepsEpoch.sound h
  | shaperRefill _ => exact execShaperRefill_keepsEpoch.sound h
  | gateChange _ => exact execGateChange_keepsEpoch.sound h
  | gateListStart _ => exact execGateListStart_keepsEpoch.sound h
  | rateChangeApply => exact execRateChangeApply_keepsEpoch.sound h
  | pulseEdge _ => exact execPulseEdge_keepsEpoch.sound h
  | followerLock _ => exact execFollowerLock_keepsEpoch.sound h
  | followerUnlock _ => exact execFollowerUnlock_keepsEpoch.sound h
  | thermalWarning => exact execThermalWarning_keepsEpoch.sound h
  | thermalLimit => exact execThermalLimit_keepsEpoch.sound h
  | thermalStandby => exact execThermalStandby_keepsEpoch.sound h
  | thermalConditionEnd _ => exact execThermalConditionEnd_keepsEpoch.sound h
  | thermalTrip => exact execThermalTrip_epochSound h
  | supplyFault _ => exact execSupplyFault_keepsEpoch.sound h
  | pcieLinkDown => exact execPcieLinkDown_keepsEpoch.sound h
  | fltEntryWrite _ => exact execFltEntryWrite_keepsEpoch.sound h
  | counterWrap _ _ => exact execCounterWrap_keepsEpoch.sound h
  | prstNRelease => exact execPrstNRelease_keepsEpoch.sound h
  | pcieLinkUp _ => exact execPcieLinkUp_keepsEpoch.sound h
  | vinSnsConnected => exact execVinSnsConnected_keepsEpoch.sound h
  | watchdogRefresh => exact execWatchdogRefresh_keepsEpoch.sound h
  | deferredWatchdogReset => exact execDeferredWatchdogReset_keepsEpoch.sound h
  | tripLatchClear => exact execTripLatchClear_keepsEpoch.sound h
  | temperatureSample _ => exact execTemperatureSample_keepsEpoch.sound h
  | hourlyFlashWrite => exact execHourlyFlashWrite_keepsEpoch.sound h
  | flowFormatDone _ => exact execFlowFormatDone_keepsEpoch.sound h
  | zoneFlushDone _ _ => exact execZoneFlushDone_keepsEpoch.sound h
  | cellResetDone _ _ _ => exact execCellResetDone_keepsEpoch.sound h
  | firmwarePuntReceive _ => exact execFirmwarePuntReceive_keepsEpoch.sound h
  | peerDelayMeasurement _ _ => exact execPeerDelayMeasurement_keepsEpoch.sound h
  | firmwareLogLine _ _ _ _ _ => exact execFirmwareLogLine_keepsEpoch.sound h

/-- Settles O56, an instruction at a time: a publish goes to the next number, the loss of power to 1, and every other update
keeps CURRENT. -/
theorem epochIsNeverZero : Obligations.EpochIsNeverZero := by
  unfold Obligations.EpochIsNeverZero
  intro s t h hstep
  unfold step at hstep
  split at hstep
  · exact Res.EpochSound.next (h.congr (State.tick_epoch s)) t hstep
  · next rest _ => exact exec_epochSound (s := { s with pending := rest }) (h.congr rfl) t hstep

end Sys2Proof.Machine
end

section
/-!
PROOF of Buffers (O16): the search for a free buffer, and what an allocation, a free and a transfer leave (05 R175 to R180).
-/

namespace Sys2Proof.Machine

open Sys2Proof

/-! ## The search for a free buffer (log entry 15) -/

/-- An index of a pool from `i` on, past the buffers that a table of owners lists, for a table with rising keys. -/
def skipOwned (pool : Nat) (t : Tab Nat) (i : Nat) : Nat :=
  t.foldl (fun j e => if e.1 = bufKey pool j then j + 1 else j) i

/-- The search goes on from the start of the pool when it has passed the end. -/
theorem Bpm.pick_eq (b : Bpm) (pool start : Nat) : b.pick pool start =
    if skipOwned pool b.owner start < poolCount pool then skipOwned pool b.owner start else skipOwned pool b.owner 0 := rfl

theorem skipOwned_cons (pool : Nat) (e : Nat × Nat) (t : Tab Nat) (i : Nat) :
    skipOwned pool (e :: t) i = skipOwned pool t (if e.1 = bufKey pool i then i + 1 else i) := rfl

/-- The search answers where it starts, or an index behind a buffer that the table lists. -/
theorem skipOwned_eq_or_lt (pool : Nat) (t : Tab Nat) (i : Nat) :
    skipOwned pool t i = i ∨ ∃ e ∈ t, e.1 < bufKey pool (skipOwned pool t i) := by
  induction t generalizing i with
  | nil => exact .inl rfl
  | cons e t ih =>
    rw [skipOwned_cons]
    rcases ih (if e.1 = bufKey pool i then i + 1 else i) with hstop | ⟨x, hx, hlt⟩
    · rw [hstop]
      split
      next htaken => exact .inr ⟨e, List.mem_cons_self .., by rw [htaken, bufKey, bufKey]; omega⟩
      next => exact .inl rfl
    · exact .inr ⟨x, List.mem_cons_of_mem _ hx, hlt⟩

/-- The search over rising keys ends at a buffer that nobody owns. -/
theorem tabFind_skipOwned {t : Tab Nat} (ht : tabSorted t = true) (pool i : Nat) :
    tabFind t (bufKey pool (skipOwned pool t i)) = none := by
  induction t generalizing i with
  | nil => rfl
  | cons e t ih =>
    obtain ⟨htail, hrise⟩ := tabSorted_cons.mp ht
    rw [skipOwned_cons]
    have hstart : e.1 ≠ bufKey pool (if e.1 = bufKey pool i then i + 1 else i) := by
      unfold bufKey
      split <;> omega
    generalize (if e.1 = bufKey pool i then i + 1 else i) = j at hstart ⊢
    have hpast : e.1 ≠ bufKey pool (skipOwned pool t j) := by
      rcases skipOwned_eq_or_lt pool t j with hstop | ⟨x, hx, hlt⟩
      · rwa [hstop]
      · exact ((hrise x hx).trans hlt).ne
    rw [tabFind, if_neg hpast, ih htail]

/-- The buffer that an allocation takes was free. -/
theorem tabFind_pick {b : Bpm} (hb : tabSorted b.owner = true) (pool start : Nat) :
    tabFind b.owner (bufKey pool (b.pick pool start)) = none := by
  rw [Bpm.pick_eq]
  split <;> exact tabFind_skipOwned hb ..

/-- A state in which the performance counters have other values: an access of the host is counted (17 R567). -/
abbrev State.counted (m : Pmu) (s : State) : State := s.onPmu fun _ => m

/-! ## BPM_ALLOC_REQ (05 R176 to R178) -/

/-- The pool of a request that some buffer holds (05 R176, R177). -/
def fitPool (four : Bool) (size : Nat) : Nat :=
  if four = false then 1 else if size ≤ 256 then 0 else if size ≤ 2048 then 1 else if size ≤ 16384 then 2 else 3

theorem State.poolFor_invalid {s : State} {size : Nat} (h : size = 0 ∨ 131072 < size) : s.poolFor size = .error stInvalid :=
  if_pos h

theorem State.poolFor_fits {s : State} {size : Nat} (hmode : s.bpm.four = true ∨ size ≤ 2048) (hlo : 1 ≤ size)
    (hhi : size ≤ 131072) : s.poolFor size = .ok (fitPool s.bpm.four size) := by
  unfold State.poolFor fitPool
  rw [if_neg (by omega)]
  cases hfour : s.bpm.four with
  | true => rfl
  | false => rw [if_neg Bool.false_ne_true, if_neg (by simpa [hfour] using hmode)]; rfl

theorem State.poolFor_refused {s : State} {size : Nat} (hmode : s.bpm.four = false) (hlo : 2048 < size) (hhi : size ≤ 131072) :
    s.poolFor size = .error stRefused := by
  unfold State.poolFor
  rw [if_neg (by omega), if_neg (by simp [hmode]), if_pos hlo]

theorem State.bpmAlloc_error {s : State} {r size e : Nat} (h : s.poolFor size = .error e) : s.bpmAlloc r size = (e, 0, s) := by
  rw [State.bpmAlloc, h]

theorem State.bpmAlloc_spent {s : State} {r size p : Nat} (h : s.poolFor size = .ok p)
    (hspent : s.poolFree p = 0 ∨ s.bpmQuota r p ≤ s.bpmUsed r p) : s.bpmAlloc r size = (stNoSpace, 0, s) := by
  rw [State.bpmAlloc, h]
  exact if_pos hspent

/-- An allocation takes a buffer that was free, and no other. -/
theorem State.bpmAlloc_takes {s : State} {r size p : Nat} (h : s.poolFor size = .ok p)
    (hspent : ¬(s.poolFree p = 0 ∨ s.bpmQuota r p ≤ s.bpmUsed r p)) :
    ∃ k, (tabSorted s.bpm.owner = true → tabFind s.bpm.owner (bufKey p k) = none) ∧ s.bpmAlloc r size =
      (stOk, mkHandle p k r (tabGet 0 s.bpm.gen (bufKey p k)),
        s.drawNat.2.onBpm fun b => { b with owner := tabIns (bufKey p k) r b.owner }) := by
  rw [State.bpmAlloc, h]
  exact ⟨_, fun hs => tabFind_pick hs p _, if_neg hspent⟩

theorem State.bpmAlloc_quota (r size : Nat) (s : State) : (s.bpmAlloc r size).2.2.bpm.quota = s.bpm.quota := by
  dsimp only [State.bpmAlloc]; (repeat' split) <;> rfl

theorem State.bpmAlloc_gen (r size : Nat) (s : State) : (s.bpmAlloc r size).2.2.bpm.gen = s.bpm.gen := by
  dsimp only [State.bpmAlloc]; (repeat' split) <;> rfl

/-- The registers that give the result of an allocation of requester 32 + `q` (05 R183). -/
def State.allocGiven (q : Nat) (a : Nat × Word × State) : State :=
  a.2.2.onBpm fun b =>
    { b with allocStatus := tabPut 0 q a.1 b.allocStatus, allocHandle := tabPut 0 q a.2.1.toNat b.allocHandle }

theorem State.allocGiven_status (q : Nat) (a : Nat × Word × State) : tabGet 0 (State.allocGiven q a).bpm.allocStatus q = a.1 :=
  tabGet_tabPut_same ..

theorem State.allocGiven_handle (q : Nat) (a : Nat × Word × State) :
    tabGet 0 (State.allocGiven q a).bpm.allocHandle q = a.2.1.toNat := tabGet_tabPut_same ..

/-- Beside the counters, an allocation changes the buffer pools alone, and draws a value. -/
theorem State.allocGiven_eq (q r size : Nat) (m : Pmu) (s : State) :
    let t := State.allocGiven q ((s.counted m).bpmAlloc r size)
    t = { s with pmu := t.pmu, bpm := t.bpm, draw := t.draw } := by
  ext1 <;> simp [State.allocGiven]

/-- BPM_ALLOC_REQ as an allocation and its result, in a state whose counters show the access. -/
theorem exec_bpmAllocReq {s : State} (h : s.hostAccess = true) (q : Fin 32) (v : Word) :
    ∃ m, exec (.bpmAllocReq q v) s =
      .next (State.allocGiven q.val ((s.counted m).bpmAlloc (32 + q.val) (fld v 17 0))) :=
  ⟨_, congrArg Host.Outcome.next (State.access_runs h)⟩

/-! ## BPM_FREE and BPM_XFER (05 R179, R180) -/

/-- The generation of a freed buffer advances (05 R179). -/
theorem State.bpmRelease_gen (k : Nat) (s : State) : tabGet 0 (s.bpmRelease k).bpm.gen k = (tabGet 0 s.bpm.gen k + 1) % 8 :=
  tabGet_tabMod_same 0 k (fun g => (g + 1) % 8) s.bpm.gen

theorem State.bpmRefusal_evt (h : Word) (r : Nat) (own : Bool) (s : State) :
    (s.bpmRefusal h r own).flt.evt = s.flt.evt ||| srcMask 1145 := by
  simp [State.bpmRefusal, State.kindEvent, State.noteEvt]

theorem State.bpmFree_mine {s : State} {r : Nat} {h : Word} (hmine : s.ownsHandle r h = true) (own : Bool) :
    s.bpmFree r h own = (stOk, s.bpmRelease (hKey h)) := if_pos hmine

theorem State.bpmFree_refused {s : State} {r : Nat} {h : Word} (hmine : ¬s.ownsHandle r h = true) (own : Bool) :
    s.bpmFree r h own = (stRefused, s.bpmRefusal h r own) := if_neg hmine

/-- Requesters that no buffer goes to (05 R180). -/
abbrev badTarget (dst : Nat) : Prop := (28 ≤ dst ∧ dst < 32) ∨ 63 < dst

section
variable {s : State} {r dst : Nat} {h : Word} (own : Bool)

theorem State.bpmTransfer_invalid (hdst : badTarget dst) : s.bpmTransfer r dst h own = (stInvalid, 0, s) := if_pos hdst

theorem State.bpmTransfer_refused (hdst : ¬badTarget dst) (hmine : ¬s.ownsHandle r h = true) :
    s.bpmTransfer r dst h own = (stRefused, 0, s.bpmRefusal h r own) := by
  rw [State.bpmTransfer, if_neg hdst, if_pos (by simpa using hmine)]

theorem State.bpmTransfer_full (hdst : ¬badTarget dst) (hmine : s.ownsHandle r h = true)
    (hfull : s.bpmQuota dst (hPool h) ≤ s.bpmUsed dst (hPool h)) : s.bpmTransfer r dst h own = (stNoSpace, 0, s) := by
  rw [State.bpmTransfer, if_neg hdst, if_neg (by simp [hmine]), if_pos hfull]

theorem State.bpmTransfer_moves (hdst : ¬badTarget dst) (hmine : s.ownsHandle r h = true)
    (hroom : s.bpmUsed dst (hPool h) < s.bpmQuota dst (hPool h)) : s.bpmTransfer r dst h own =
      (stOk, mkHandle (hPool h) (hIndex h) dst (hGen h), s.onBpm fun b => { b with owner := tabIns (hKey h) dst b.owner }) := by
  rw [State.bpmTransfer, if_neg hdst, if_neg (by simp [hmine]), if_neg hroom.not_ge]

end

/-- A transfer leaves the generations. -/
theorem State.bpmTransfer_gen (r dst : Nat) (h : Word) (own : Bool) (s : State) :
    (s.bpmTransfer r dst h own).2.2.bpm.gen = s.bpm.gen := by
  dsimp only [State.bpmTransfer]; (repeat' split) <;> simp

/-- The registers that give the result of a free of requester 32 + `q` (05 R183). -/
def State.freeGiven (q : Nat) (a : Nat × State) : State := a.2.onBpm fun b => { b with opStatus := tabPut 0 q a.1 b.opStatus }

/-- The registers that give the result of a transfer of requester 32 + `q` (05 R183). -/
def State.xferGiven (q : Nat) (a : Nat × Word × State) : State :=
  a.2.2.onBpm fun b => { b with
    opStatus := tabPut 0 q a.1 b.opStatus
    opHandle := if a.1 = stOk then tabPut 0 q a.2.1.toNat b.opHandle else b.opHandle }

theorem State.freeGiven_status (q : Nat) (a : Nat × State) : tabGet 0 (State.freeGiven q a).bpm.opStatus q = a.1 :=
  tabGet_tabPut_same ..

theorem State.xferGiven_status (q : Nat) (a : Nat × Word × State) : tabGet 0 (State.xferGiven q a).bpm.opStatus q = a.1 :=
  tabGet_tabPut_same ..

theorem State.freeGiven_owner (q : Nat) (a : Nat × State) : (State.freeGiven q a).bpm.owner = a.2.bpm.owner := rfl
theorem State.freeGiven_gen (q : Nat) (a : Nat × State) : (State.freeGiven q a).bpm.gen = a.2.bpm.gen := rfl
theorem State.xferGiven_owner (q : Nat) (a : Nat × Word × State) : (State.xferGiven q a).bpm.owner = a.2.2.bpm.owner := rfl

theorem State.xferGiven_handle {q : Nat} {a : Nat × Word × State} (h : a.1 = stOk) :
    tabGet 0 (State.xferGiven q a).bpm.opHandle q = a.2.1.toNat := by
  simp [State.xferGiven, h]

/-- Beside the counters, a free changes the buffer pools, and with its event FLT status, a ring and what the host is sent. -/
theorem State.freeGiven_eq (q r : Nat) (h : Word) (own : Bool) (m : Pmu) (s : State) :
    let t := State.freeGiven q ((s.counted m).bpmFree r h own)
    t = { s with pmu := t.pmu, bpm := t.bpm, flt := t.flt, rng := t.rng, hif := t.hif, out := t.out } := by
  ext1 <;> simp [State.freeGiven]

theorem State.xferGiven_eq (q r dst : Nat) (h : Word) (own : Bool) (m : Pmu) (s : State) :
    let t := State.xferGiven q ((s.counted m).bpmTransfer r dst h own)
    t = { s with pmu := t.pmu, bpm := t.bpm, flt := t.flt, rng := t.rng, hif := t.hif, out := t.out } := by
  ext1 <;> simp [State.xferGiven]

/-- BPM_FREE as a free and its result. -/
theorem exec_bpmFree {s : State} (h : s.hostAccess = true) (q : Fin 32) (v : Word) (own : Bool) :
    ∃ m, exec (.bpmFree q v own) s = .next (State.freeGiven q.val ((s.counted m).bpmFree (32 + q.val) v own)) :=
  ⟨_, congrArg Host.Outcome.next (State.access_runs h)⟩

/-- BPM_XFER as a transfer and its result. -/
theorem exec_bpmXfer {s : State} (h : s.hostAccess = true) (q : Fin 32) (v : Word) (own : Bool) :
    ∃ m, exec (.bpmXfer q v own) s = .next (State.xferGiven q.val
      ((s.counted m).bpmTransfer (32 + q.val) (tabGet 0 s.bpm.xferTo q.val) v own)) :=
  ⟨_, congrArg Host.Outcome.next (State.access_runs h)⟩

/-- Settles O16, a register at a time and an outcome at a time. -/
theorem buffers : Obligations.Buffers := by
  unfold Obligations.Buffers
  refine ⟨?alloc, fun s q h own hhost => ⟨?free, ?transfer⟩⟩
  case alloc =>
    intro s q v hhost size r
    obtain ⟨m, hexec⟩ := exec_bpmAllocReq hhost q v
    refine ⟨_, hexec, State.allocGiven_eq .., fun hsize => ?_, fun hmode hlo hhi => ⟨fun hspent => ?_, fun hspent => ?_⟩,
      fun hmode hlo hhi hbig => ?_, State.bpmAlloc_quota .., State.bpmAlloc_gen ..⟩
    · rw [State.bpmAlloc_error (State.poolFor_invalid hsize)]
      exact ⟨State.allocGiven_status .., rfl⟩
    · rw [State.bpmAlloc_spent (s := s.counted m) (State.poolFor_fits hmode hlo hhi) hspent]
      exact ⟨State.allocGiven_status .., rfl⟩
    · obtain ⟨k, hfree, htakes⟩ := State.bpmAlloc_takes (s := s.counted m) (State.poolFor_fits hmode hlo hhi) hspent
      rw [htakes]
      exact ⟨State.allocGiven_status .., k, tabFind_tabIns_same .., hfree, fun j hj => tabFind_tabIns_other hj ..,
        State.allocGiven_handle ..⟩
    · rw [State.bpmAlloc_error (s := s.counted m) (State.poolFor_refused hmode hbig hhi)]
      exact ⟨State.allocGiven_status .., rfl⟩
  case free =>
    obtain ⟨m, hexec⟩ := exec_bpmFree hhost q h own
    refine ⟨_, hexec, State.freeGiven_eq .., fun hmine => ?_, fun hmine => ?_⟩
    · rw [State.bpmFree_mine (s := s.counted m) hmine]
      exact ⟨State.freeGiven_status .., tabFind_tabDel_same .., State.bpmRelease_gen .., rfl,
        fun k hk => tabFind_tabDel_other hk _⟩
    · rw [State.bpmFree_refused (s := s.counted m) hmine, State.freeGiven_owner, State.freeGiven_gen, State.bpmRefusal_bpm]
      exact ⟨State.freeGiven_status .., rfl, rfl, State.bpmRefusal_evt ..⟩
  case transfer =>
    obtain ⟨m, hexec⟩ := exec_bpmXfer hhost q h own
    refine ⟨_, hexec, State.xferGiven_eq .., State.bpmTransfer_gen .., fun hdst => ?_, fun hdst hmine => ?_,
      fun hdst hmine hfull => ?_, fun hdst hmine hroom => ?_⟩
    · rw [State.bpmTransfer_invalid (s := s.counted m) own hdst]
      exact ⟨State.xferGiven_status .., rfl⟩
    · rw [State.bpmTransfer_refused (s := s.counted m) own hdst hmine, State.xferGiven_owner, State.bpmRefusal_bpm]
      exact ⟨State.xferGiven_status .., rfl, State.bpmRefusal_evt ..⟩
    · rw [State.bpmTransfer_full (s := s.counted m) own hdst hmine hfull]
      exact ⟨State.xferGiven_status .., rfl⟩
    · rw [State.bpmTransfer_moves (s := s.counted m) own hdst hmine hroom]
      exact ⟨State.xferGiven_status .., tabFind_tabIns_same .., State.xferGiven_handle rfl⟩

end Sys2Proof.Machine
end

section
/-!
PROOF of RingServiceAndPunts (O15): the ring commands (05 R186 to R189), and the delivery of punts to firmware and to an RX
ring (05 R167).
-/

namespace Sys2Proof.Machine

open Sys2Proof

/-! ## Reads of a changed ring -/

@[simp] theorem State.onRing_ring_same (i : Nat) (f : Ring → Ring) (s : State) : (s.onRing i f).ring i = f (s.ring i) := by
  simp [State.ring]

theorem State.onRing_ring_other {i j : Nat} (h : j ≠ i) (f : Ring → Ring) (s : State) : (s.onRing i f).ring j = s.ring j :=
  tabGet_tabMod_other h ..

/-- A ring is read from the table of rings alone. -/
theorem State.ring_congr {s t : State} (h : t.rng.rings = s.rng.rings) (i : Nat) : t.ring i = s.ring i := by
  rw [State.ring, State.ring, h]

/-! ## RING_SET_SERVICE and RING_EVENT_ROUTE (05 R186, R188) -/

theorem exec_ringSetService {s : State} {r q : Req} (h : s.Accepts 0x0201 r q) (hrsv : q.f 4 31 23 = 0) (hweight : q.f 4 15 8 ≠ 0)
    (hlo : 1 ≤ q.f 4 22 16) (hhi : q.f 4 22 16 ≤ 64) (he : q.ExtSize 1) : exec (.ringSetService r) s =
      .next ((s.onRing (q.f 4 7 0) fun g => { g with weight := q.f 4 15 8, burst := q.f 4 22 16 }).respond 0x0201 q stOk []) := by
  refine (mailbox_runs h (by simp [Req.rsv, inRange, *]) rfl (by simp) (by simpa using he) (by simp) rfl rfl).trans ?_
  exact congrArg _ State.finish_ok

/-- The state in which a KIND has another route. -/
def State.routed (kind : Nat) (v : Bool × Nat × Nat) (s : State) : State :=
  s.onRng fun g => { g with route := tabPut (false, 0, 0) kind v g.route }

theorem exec_ringEventRoute {s : State} {r q : Req} (h : s.Accepts 0x0203 r q) (hrsv : q.f 4 31 12 = 0) (hkind : q.f 4 3 0 ≤ 5)
    (he : q.ExtSize 1) : exec (.ringEventRoute r) s =
      .next ((s.routed (q.f 4 3 0) ((q.w 4).getLsbD 9, q.f 4 8 4, q.f 4 11 10)).respond 0x0203 q stOk []) := by
  refine (mailbox_runs h (by simp [Req.rsv, hrsv, hkind]) rfl (by simp) (by simpa using he) (by simp) rfl rfl).trans ?_
  exact congrArg _ State.finish_ok

/-! ## RING_PUNT_LIMIT (05 R189) -/

/-- The punt limit of the listed cells is set, and of no other. -/
theorem tabGet_foldl_tabPut_const {α : Type} [DecidableEq α] (d v : α) (l : List Nat) (t : Tab α) (c : Nat) :
    tabGet d (l.foldl (fun t k => tabPut d k v t) t) c = if c ∈ l then v else tabGet d t c := by
  induction l generalizing t with
  | nil => simp
  | cons k l ih =>
    rw [List.foldl_cons, ih]
    by_cases hk : c = k
    · subst hk; simp
    · simp [hk, tabGet_tabPut_other hk]

/-- The cells that CELL of RING_PUNT_LIMIT names: one, or with 127 all. -/
def limitCells (c : Nat) : List Nat := if c = 127 then List.range 64 else [c]

theorem mem_limitCells {c k : Nat} (h : k < 64) : k ∈ limitCells c ↔ c = k ∨ c = 127 := by
  unfold limitCells
  split
  next hall => simp [hall, h]
  next hone => simp [hone, eq_comm]

/-- The state in which the listed cells have another punt limit. -/
def State.limited (l : List Nat) (rate : Nat) (s : State) : State :=
  s.onRng fun g => { g with puntLimit := l.foldl (fun t k => tabPut 1000 k rate t) g.puntLimit }

theorem exec_ringPuntLimit {s : State} {r q : Req} (h : s.Accepts 0x0204 r q) (hrsv : q.f 4 31 7 = 0) (hrsv5 : q.f 5 31 16 = 0)
    (hcell : q.f 4 6 0 < 64 ∨ q.f 4 6 0 = 127) (hrate : q.f 5 15 0 ≤ 1000) (he : q.ExtSize 2) : exec (.ringPuntLimit r) s =
      .next ((s.limited (limitCells (q.f 4 6 0)) (q.f 5 15 0)).respond 0x0204 q stOk []) := by
  have hrange : inRange (q.f 4 6 0) 64 126 = false := by
    rw [inRange, decide_eq_false_iff_not]
    omega
  refine (mailbox_runs h (by simp [Req.rsv, hrsv, hrsv5, hrange, hrate]) rfl (by simp) (by simpa using he) (by simp) rfl rfl).trans ?_
  exact congrArg _ State.finish_ok

/-! ## RING_PUNT_MAP (05 R187) -/

section
variable {op : Nat} {obj : Word → Nat} {ws : Word → List Word} {d : List Word} {l : List Word}

/-- Objects that no item names stay as they are. -/
theorem tabFind_foldl_cfgSet_other {k : Nat} (h : ∀ w ∈ l, k ≠ cfgKey op (obj w)) (c : Cfg) :
    tabFind (l.foldl (fun c w => cfgSet op (obj w) (ws w) d c) c) k = tabFind c k :=
  List.foldlRecOn (motive := fun c' => tabFind c' k = tabFind c k) l _ rfl
    fun _ ha w hw => (tabFind_cfgSet_other (h w hw) ..).trans ha

/-- Of items that name distinct objects each sets its own. -/
theorem cfgWords_foldl_cfgSet (hd : (l.map obj).Nodup) {w : Word} (hw : w ∈ l) (c : Cfg) :
    cfgWords (l.foldl (fun c w => cfgSet op (obj w) (ws w) d c) c) op (obj w) d = ws w := by
  induction l generalizing c with
  | nil => simp at hw
  | cons x l ih =>
    obtain ⟨hx, hl⟩ := List.nodup_cons.mp hd
    rcases List.mem_cons.mp hw with rfl | hmem
    · have hlast : ∀ y ∈ l, cfgKey op (obj w) ≠ cfgKey op (obj y) := fun y hy heq =>
        hx (List.mem_map.mpr ⟨y, hy, (Nat.add_left_cancel heq).symm⟩)
      rw [List.foldl_cons, cfgWords, cfgFind, tabFind_foldl_cfgSet_other hlast]
      exact cfgWords_cfgSet_same ..
    · exact ih hl hmem _

end

/-- The configuration in which the items of RING_PUNT_MAP have set their reasons' targets. -/
def puntMapped (q : Req) (c : Cfg) : Cfg :=
  (puntItems q).foldl (fun c w => cfgSet 0x0202 (fld w 5 0) [wd (fld w 16 8)] [0x100] c) c

theorem mem_puntItems {q : Req} {w : Word} : w ∈ puntItems q ↔ ∃ j, j < q.f 4 6 0 ∧ q.w (5 + j) = w := by
  simp [puntItems]

/-- Items whose reasons differ pairwise repeat none. -/
theorem nodup_puntItems {q : Req} (h : ∀ j k, j < k → k < q.f 4 6 0 → q.f (5 + j) 5 0 ≠ q.f (5 + k) 5 0) :
    ((puntItems q).map fun w => fld w 5 0).Nodup := by
  rw [puntItems, List.map_map]
  refine List.Nodup.map_on (fun j hj k hk heq => ?_) List.nodup_range
  rcases Nat.lt_trichotomy j k with hlt | rfl | hlt
  · exact absurd heq (h j k hlt (List.mem_range.mp hk))
  · rfl
  · exact absurd heq.symm (h k j hlt (List.mem_range.mp hj))

theorem exec_ringPuntMap {s : State} {r q : Req} (h : s.Accepts 0x0202 r q) (hrsv : q.f 4 31 7 = 0) (hlo : 1 ≤ q.f 4 6 0)
    (hhi : q.f 4 6 0 ≤ 64) (hsize : 1 + q.f 4 6 0 ≤ q.size) (he : q.ExtSize (1 + q.f 4 6 0))
    (hitems : ∀ j, j < q.f 4 6 0 →
      q.f (5 + j) 7 6 = 0 ∧ q.f (5 + j) 31 17 = 0 ∧ (q.f (5 + j) 16 8 ≤ 0x100 ∨ q.f (5 + j) 16 8 = 0x1FF))
    (hdist : ((puntItems q).map fun w => fld w 5 0).Nodup) :
    exec (.ringPuntMap r) s = .next ((s.stageBy 0x0202 q (puntMapped q)).respond 0x0202 q stOk []) := by
  have hgood : ((puntItems q).any fun w => fld w 7 6 != 0 || fld w 31 17 != 0 || inRange (fld w 16 8) 0x101 0x1FE) = false := by
    refine List.any_eq_false.mpr fun w hw => ?_
    obtain ⟨j, hj, rfl⟩ := mem_puntItems.mp hw
    obtain ⟨h6, h17, htarget⟩ := hitems j hj
    have hrange : inRange (fld (q.w (5 + j)) 16 8) 0x101 0x1FE = false := by
      rw [inRange, decide_eq_false_iff_not]
      simp only [Req.f] at htarget
      omega
    simp only [Req.f] at h6 h17
    simp [h6, h17, hrange]
  refine (mailbox_runs h ?_ rfl (by simp) (by simpa using he) (by simp) rfl rfl).trans ?_
  · simp [Req.rsv, hrsv, hhi, hsize, hgood, hdist]
  · rw [if_neg (by omega)]
    exact congrArg _ State.finish_ok

/-! ## Punts to firmware (05 R167) -/

/-- The end of a punt frees its buffer. -/
theorem State.endPunt_owner (p : Punt) (s : State) : tabFind (s.endPunt p).bpm.owner (hKey (wd p.handle)) = none :=
  tabFind_tabDel_same ..

theorem State.endPunt_rings (p : Punt) (s : State) : (s.endPunt p).rng.rings = s.rng.rings := rfl

/-- The end of a punt takes it from the waiting ones. -/
theorem State.endPunt_punts (p : Punt) (s : State) :
    (s.endPunt p).rng.punts = s.rng.punts.filter fun x => x.handle != p.handle := rfl

theorem exec_firmwarePuntReceive {s : State} {c : Fin 64} {p : Punt} (hfw : s.crn.fwRuns = true)
    (hp : s.rng.punts.find? (fun p => p.cell == c.val && p.target == 0x100) = some p) :
    exec (.firmwarePuntReceive c) s = .next (s.endPunt p) := by
  change execFirmwarePuntReceive c s = _
  rw [execFirmwarePuntReceive, hp]
  exact congrArg _ (if_pos hfw)

/-! ## Scans that go on (05 R162, R170) -/

/-- A scan changes the table of rings alone. -/
theorem State.scanRing_eq (i : Nat) (l : List (List Word)) (s : State) :
    s.scanRing i l = { s with rng := { s.rng with rings := (s.scanRing i l).rng.rings } } := by
  dsimp only [State.scanRing]; (repeat' split) <;> rfl

theorem State.scanRing_ring_other {i j : Nat} (h : j ≠ i) (l : List (List Word)) (s : State) :
    (s.scanRing i l).ring j = s.ring j := by
  dsimp only [State.scanRing]
  (repeat' split) <;> simp [State.onRing_ring_other h]

/-- A scan appends to the cache of its ring and leaves what is in progress. -/
theorem State.scanRing_ring_same (i : Nat) (l : List (List Word)) (s : State) :
    ∃ more, ((s.scanRing i l).ring i).cache = (s.ring i).cache ++ more ∧ ((s.scanRing i l).ring i).busy = (s.ring i).busy := by
  dsimp only [State.scanRing]
  split
  · exact ⟨[], by simp⟩
  split
  · exact ⟨[], by simp⟩
  · exact ⟨_, by rw [State.onRing_ring_same]; exact ⟨rfl, rfl⟩⟩

/-- Scans that go on change the table of rings alone. -/
theorem State.rescan_eq (l : List Scan) (s : State) :
    s.rescan l = { s with rng := { s.rng with rings := (s.rescan l).rng.rings } } := by
  refine List.foldlRecOn (motive := fun u : State => u = { s with rng := { s.rng with rings := u.rng.rings } }) l _ rfl
    fun a ha x _ => ?_
  split
  · rw [State.scanRing_eq, ha]
  · exact ha

theorem State.rescan_punts (l : List Scan) (s : State) : (s.rescan l).rng.punts = s.rng.punts := by rw [s.rescan_eq]

theorem State.rescan_bpm (l : List Scan) (s : State) : (s.rescan l).bpm = s.bpm := by rw [s.rescan_eq]

theorem State.rescan_out (l : List Scan) (s : State) : (s.rescan l).out = s.out := by rw [s.rescan_eq]

/-- What goes on of the scans appends to a ring's cache and leaves what is in progress. -/
theorem State.rescan_appends (l : List Scan) (i : Nat) (s : State) :
    ∃ more, ((s.rescan l).ring i).cache = (s.ring i).cache ++ more ∧ ((s.rescan l).ring i).busy = (s.ring i).busy := by
  refine List.foldlRecOn (motive := fun u : State => ∃ more, (u.ring i).cache = (s.ring i).cache ++ more ∧
    (u.ring i).busy = (s.ring i).busy) l _ ⟨[], by simp⟩ fun a ⟨more, hcache, hbusy⟩ x _ => ?_
  split
  · by_cases hi : i = x.ring.val
    · obtain ⟨new, hnew, hkept⟩ := State.scanRing_ring_same i x.entries a
      rw [← hi]
      exact ⟨more ++ new, by rw [hnew, hcache, List.append_assoc], hkept.trans hbusy⟩
    · rw [State.scanRing_ring_other hi]
      exact ⟨more, hcache, hbusy⟩
  · exact ⟨more, hcache, hbusy⟩

/-- A ring whose scan had not stopped short stays as it is. -/
theorem State.rescan_ring_done {i : Nat} {s : State} (h : (s.ring i).scan = false) (l : List Scan) :
    (s.rescan l).ring i = s.ring i := by
  refine List.foldlRecOn (motive := fun u : State => u.ring i = s.ring i) l _ rfl fun a ha x _ => ?_
  split
  next hscan =>
    have hi : i ≠ x.ring.val := fun hi => by rw [← hi, ha, h] at hscan; exact Bool.false_ne_true hscan
    rw [State.scanRing_ring_other hi, ha]
  next => exact ha

/-- Scans that go on append to a ring's cache where its scan had stopped short, and leave what is in progress. -/
theorem State.rescan_ring (l : List Scan) (i : Nat) (s : State) :
    (∃ more, ((s.rescan l).ring i).cache = (s.ring i).cache ++ more ∧ ((s.ring i).scan = false → more = [])) ∧
      ((s.rescan l).ring i).busy = (s.ring i).busy := by
  obtain ⟨more, hcache, hbusy⟩ := State.rescan_appends l i s
  refine ⟨⟨more, hcache, fun hdone => ?_⟩, hbusy⟩
  rw [State.rescan_ring_done hdone] at hcache
  exact List.self_eq_append_right.mp hcache

/-! ## Punts to an RX ring (05 R167) -/

/-- The oldest cached descriptor of a ring is in progress for completion ring `q`, with what is recorded in it. -/
def Ring.started (g : Ring) (q : Nat) (d : Desc) : Ring :=
  { g with cache := g.cache.drop 1, busy := g.busy ++ [{ d with cq := Fin.ofNat 64 q }] }

theorem Ring.started_cache {g : Ring} {first : Desc} {rest : List Desc} (h : g.cache = first :: rest) (q : Nat) (d : Desc) :
    (g.started q d).cache = rest := by
  rw [Ring.started, h, List.drop_one, List.tail_cons]

/-- Ring `i` starts its oldest cached descriptor, which may stall the completion ring (05 R169). -/
def State.takeCached (i : Nat) (d : Desc) (s : State) : State :=
  (s.onRing i fun g => g.started (s.ring i).cq d).cqStall (s.ring i).cq

/-- What is recorded in a descriptor whose buffer has taken a whole punt. -/
def Desc.punted (d : Desc) (p : Punt) : Desc :=
  { d with status := some 0, len := p.data.length, more := false, port := p.port, reason := p.reason, ts := some p.ts }

/-- A well-formed descriptor that holds the whole punt takes it. -/
theorem fillDescs_whole {i : Nat} {p : Punt} {d : Desc} {rest : List Desc} {s : State} (hroom : s.cqLoad (s.ring i).cq < 32)
    (hd : d.status = none) (hgood : rxBad d = false) (hcap : fld (wordAt d.data 0) 17 0 ≠ 0)
    (hfit : p.data.length ≤ fld (wordAt d.data 0) 17 0) : fillDescs i p true (d :: rest) 0 s =
      ((s.takeCached i (d.punted p)).hostPut (join (wordAt d.data 2) (wordAt d.data 3)) p.data, p.data.length, true) := by
  rw [fillDescs]
  simp only [hroom.not_ge, hd, hgood, hcap, hfit, Option.isSome_none, Bool.not_true, Bool.false_eq_true, if_false, List.drop_zero,
    List.take_of_length_le hfit, Nat.zero_add, decide_true, if_true]
  rfl

/-- A stall changes neither the rings nor the punts that wait. -/
theorem State.cqStall_rings (q : Nat) (s : State) : (s.cqStall q).rng.rings = s.rng.rings := by
  dsimp only [State.cqStall]
  split <;> simp

theorem State.cqStall_punts (q : Nat) (s : State) : (s.cqStall q).rng.punts = s.rng.punts := by
  dsimp only [State.cqStall]
  split <;> simp

/-- The descriptor that is in progress has left the cache. -/
theorem State.takeCached_ring (i : Nat) (d : Desc) (s : State) :
    (s.takeCached i d).ring i = (s.ring i).started (s.ring i).cq d := by
  rw [State.takeCached, State.ring_congr (State.cqStall_rings ..), State.onRing_ring_same]

theorem State.takeCached_punts (i : Nat) (d : Desc) (s : State) : (s.takeCached i d).rng.punts = s.rng.punts :=
  State.cqStall_punts ..

theorem State.takeCached_crn (i : Nat) (d : Desc) (s : State) : (s.takeCached i d).crn = s.crn := by simp [State.takeCached]

theorem State.takeCached_out (i : Nat) (d : Desc) (s : State) : (s.takeCached i d).out = s.out := by simp [State.takeCached]

/-- The state in which a punt has gone to the oldest cached descriptor of RX ring `i` and its buffer is free. -/
def State.puntDelivered (i : Nat) (p : Punt) (d : Desc) (s : State) : State :=
  ((s.takeCached i (d.punted p)).emit (.hostBytes (join (wordAt d.data 2) (wordAt d.data 3)) p.data)).endPunt p

section
variable (i : Nat) (p : Punt) (d : Desc) (s : State)

/-- A delivery changes rings and buffer pools, the host's memory, and FLT status where it stalls a completion ring. -/
theorem State.puntDelivered_eq : let t := s.puntDelivered i p d
    t = { s with rng := t.rng, bpm := t.bpm, flt := t.flt, out := t.out } := by
  ext1 <;> simp [State.puntDelivered, State.takeCached]

theorem State.puntDelivered_ring :
    (s.puntDelivered i p d).ring i = (s.ring i).started (s.ring i).cq (d.punted p) := by
  rw [State.puntDelivered, State.ring_congr (State.endPunt_rings ..), State.emit_ring, State.takeCached_ring]

theorem State.puntDelivered_punts :
    (s.puntDelivered i p d).rng.punts = s.rng.punts.filter fun x => x.handle != p.handle := by
  rw [State.puntDelivered, State.endPunt_punts, State.emit_rng, State.takeCached_punts]

theorem State.puntDelivered_out :
    (s.puntDelivered i p d).out = s.out ++ [.hostBytes (join (wordAt d.data 2) (wordAt d.data 3)) p.data] := by
  rw [State.puntDelivered, State.endPunt_out, State.emit_out, State.takeCached_out]

end

/-- A punt that the next cached descriptor holds is delivered, and scans that had stopped short go on. -/
theorem exec_puntDelivery {s : State} {q : Fin 256} {p : Punt} {d : Desc} {rest : List Desc} (scans : List Scan)
    (hp : s.rng.punts.find? (fun p => p.target == q.val) = some p) (hsent : p.sent = 0)
    (hcache : (s.ring (256 + q.val)).cache = d :: rest) (hstall : s.rng.cstall.getLsbD (s.ring (256 + q.val)).cq = false)
    (hroom : s.cqLoad (s.ring (256 + q.val)).cq < 32) (hd : d.status = none) (hgood : rxBad d = false)
    (hcap : fld (wordAt d.data 0) 17 0 ≠ 0) (hfit : p.data.length ≤ fld (wordAt d.data 0) 17 0) (hup : s.crn.pcieUp = true) :
    exec (.puntDelivery q true scans) s = .next ((s.puntDelivered (256 + q.val) p d).rescan scans) := by
  change execPuntDelivery q true scans s = _
  rw [execPuntDelivery, hp]
  simp only [hstall, hcache, hsent, fillDescs_whole hroom hd hgood hcap hfit, State.hostPut, State.takeCached_crn, hup,
    Bool.false_eq_true, if_false, if_true, State.puntDelivered]

/-- Settles O15, a command at a time, then the two ways a punt is taken. -/
theorem ringServiceAndPunts : Obligations.RingServiceAndPunts := by
  unfold Obligations.RingServiceAndPunts
  refine ⟨⟨?setService, ?puntMap, ?eventRoute, ?puntLimit⟩, ?firmware, ?delivery⟩
  case setService =>
    intro s r q h hrsv hweight hlo hhi he
    exact ⟨_, exec_ringSetService h hrsv hweight hlo hhi he, rfl, State.onRing_ring_same ..,
      fun i hi => State.onRing_ring_other hi ..⟩
  case puntMap =>
    intro s r q h hrsv hlo hhi hsize he hitems hdist
    have hnodup := nodup_puntItems hdist
    refine ⟨_, exec_ringPuntMap h hrsv hlo hhi hsize he hitems hnodup, ⟨rfl, rfl, fun k hk => ?_⟩, fun j hj => ?_⟩
    · refine tabFind_foldl_cfgSet_other (fun w hw heq => hk ?_) _
      obtain ⟨j, hj, rfl⟩ := mem_puntItems.mp hw
      exact ⟨j, hj, heq⟩
    · exact cfgWords_foldl_cfgSet hnodup (mem_puntItems.mpr ⟨j, hj, rfl⟩) _
  case eventRoute =>
    intro s r q h hrsv hkind he
    exact ⟨_, exec_ringEventRoute h hrsv hkind he, rfl, rfl, tabGet_tabPut_same .., fun k hk => tabGet_tabPut_other hk ..⟩
  case puntLimit =>
    intro s r q h hrsv hrsv5 hcell hrate he
    refine ⟨_, exec_ringPuntLimit h hrsv hrsv5 hcell hrate he, rfl, rfl, fun c hc => ?_⟩
    refine (tabGet_foldl_tabPut_const ..).trans ?_
    simp only [mem_limitCells hc]
  case firmware =>
    intro s c p hfw hp
    exact ⟨_, exec_firmwarePuntReceive hfw hp, rfl, State.endPunt_owner .., State.endPunt_punts .., State.endPunt_rings ..⟩
  case delivery =>
    intro s q scans p d rest i g hp hsent hcache hd hgood hstall hroom hfit hcap hup
    refine ⟨_, exec_puntDelivery scans hp hsent hcache hstall hroom hd hgood hcap hfit hup, ?_, ?_, ?_, ?_, ?_, ?_⟩
    · rw [State.rescan_eq, State.puntDelivered_eq]
    · rw [State.rescan_out, State.puntDelivered_out]
    · obtain ⟨more, hmore, hdone⟩ := (State.rescan_ring scans i (s.puntDelivered i p d)).1
      rw [State.puntDelivered_ring] at hmore hdone
      exact ⟨more, by rw [hmore, Ring.started_cache hcache], hdone⟩
    · rw [(State.rescan_ring ..).2, State.puntDelivered_ring]
      rfl
    · rw [State.rescan_punts, State.puntDelivered_punts]
    · rw [State.rescan_bpm]
      exact State.endPunt_owner ..

end Sys2Proof.Machine
end

section
/-!
PROOF of Ports (O17): what PORT_SET leaves of the settings of a port and of the lanes beside it, and what PORT_STATUS and
PORT_STATS_READ answer (06 R190, R216 to R219).
-/

namespace Sys2Proof.Machine

open Sys2Proof

/-! ## The settings of a port and of the lanes beside it (06 R217) -/

/-- The three lanes beside a port of four lanes. -/
def lanesBeside (p : Nat) : List Nat := [p + 1, p + 2, p + 3]

theorem mem_lanesBeside {p k : Nat} : k ∈ lanesBeside p ↔ p < k ∧ k < p + 4 := by
  simp only [lanesBeside, List.mem_cons, List.not_mem_nil, or_false]
  omega

theorem cfgKey_inj {op a b : Nat} : cfgKey op a = cfgKey op b ↔ a = b := Nat.add_left_cancel_iff

/-- Objects of one opcode that are removed are absent, and everything else stays. -/
theorem tabFind_foldl_cfgDel (op n : Nat) (l : List Nat) (c : Cfg) : tabFind (l.foldl (fun a k => cfgDel op k a) c) n =
    if n ∈ l.map (cfgKey op) then none else tabFind c n := by
  induction l generalizing c with
  | nil => rfl
  | cons k l ih =>
    rw [List.foldl_cons, ih]
    by_cases hk : n = cfgKey op k
    · have hgone : tabFind (cfgDel op k c) n = none := by rw [hk]; exact tabFind_tabDel_same ..
      rw [hgone, ite_self, if_pos (by simp [hk])]
    · simp only [List.map_cons, List.mem_cons, hk, false_or, tabFind_cfgDel_other hk]

/-- The objects that PORT_SET may change: the port, and in a four-lane mode the lanes beside it. -/
def portKeys (q : Req) (k : Nat) : Prop :=
  k = cfgKey 0x0301 (q.f 4 9 0) ∨
    (3 ≤ q.f 4 13 10 ∧ ∃ i, q.f 4 9 0 < i ∧ i < q.f 4 9 0 + 4 ∧ k = cfgKey 0x0301 i)

theorem fourMode_iff {m : Nat} (h : m ≤ 4) : fourMode m = true ↔ 3 ≤ m := by
  rw [fourMode, decide_eq_true_iff]
  omega

theorem tabFind_setPort_other {q : Req} {k : Nat} (hmode : q.f 4 13 10 ≤ 4) (h : ¬portKeys q k) (c : Cfg) :
    tabFind (setPort q c) k = tabFind c k := by
  obtain ⟨hport, hbeside⟩ := not_or.mp h
  refine (tabFind_cfgSet_other hport ..).trans ?_
  split
  next hfour =>
    refine (tabFind_foldl_cfgDel 0x0301 k (lanesBeside (q.f 4 9 0)) c).trans (if_neg fun hmem => hbeside ?_)
    obtain ⟨i, hi, rfl⟩ := List.mem_map.mp hmem
    obtain ⟨hlo, hhi⟩ := mem_lanesBeside.mp hi
    exact ⟨(fourMode_iff hmode).mp hfour, i, hlo, hhi, rfl⟩
  next => rfl

theorem portWords_setPort (q : Req) (c : Cfg) : portWords (setPort q c) (q.f 4 9 0) = [q.w 4, q.w 5, q.w 6, q.w 7] :=
  cfgWords_cfgSet_same ..

/-- A four-lane mode leaves the lanes beside the port at their cold-start settings. -/
theorem portWords_setPort_beside {q : Req} (hfour : fourMode (q.f 4 13 10) = true) {i : Nat} (hi : i ∈ lanesBeside (q.f 4 9 0))
    (c : Cfg) : portWords (setPort q c) i = portDefault i := by
  have hother : cfgKey 0x0301 i ≠ cfgKey 0x0301 (q.f 4 9 0) := fun heq => by
    have := (mem_lanesBeside.mp hi).1
    rw [cfgKey_inj] at heq
    omega
  have hgone : tabFind (setPort q c) (cfgKey 0x0301 i) = none := by
    refine (tabFind_cfgSet_other hother ..).trans ?_
    rw [if_pos hfour]
    exact (tabFind_foldl_cfgDel 0x0301 _ (lanesBeside (q.f 4 9 0)) c).trans (if_pos (List.mem_map_of_mem hi))
  rw [portWords, cfgWords, cfgFind, hgone]
  rfl

/-! ## PORT_SET (06 R190, R216) -/

/-- The settings that PORT_SET answers INVALID (06 R190, R216). -/
def badPort (q : Req) : Bool :=
  let m := q.f 4 13 10
  q.rsv [(4, 31, 23), (5, 31, 14), (7, 31, 10)] || decide (4 < m) || !fecAllowed m (q.f 4 15 14) ||
    (q.f 4 18 18 == 1 && (decide (m ≠ 1 ∧ m ≠ 2) || q.f 6 15 0 == 0 || q.f 6 31 16 == 0)) ||
    !inRange (q.f 5 13 0) 64 9216 || decide (1000 < q.f 7 9 0) || (fourMode m && q.f 4 9 0 % 4 != 0)

/-- Settings in their ranges are not INVALID. -/
theorem badPort_eq_false {q : Req} (h4 : q.f 4 31 23 = 0) (h5 : q.f 5 31 14 = 0) (h7 : q.f 7 31 10 = 0) (hmode : q.f 4 13 10 ≤ 4)
    (hfec : fecAllowed (q.f 4 13 10) (q.f 4 15 14) = true)
    (hlpi : q.f 4 18 18 = 1 → (q.f 4 13 10 = 1 ∨ q.f 4 13 10 = 2) ∧ q.f 6 15 0 ≠ 0 ∧ q.f 6 31 16 ≠ 0)
    (hlo : 64 ≤ q.f 5 13 0) (hhi : q.f 5 13 0 ≤ 9216) (hhold : q.f 7 9 0 ≤ 1000) (halign : 3 ≤ q.f 4 13 10 → q.f 4 9 0 % 4 = 0) :
    badPort q = false := by
  have haligned : (fourMode (q.f 4 13 10) && q.f 4 9 0 % 4 != 0) = false := by
    cases hm : fourMode (q.f 4 13 10) with
    | false => rfl
    | true => simpa using halign ((fourMode_iff hmode).mp hm)
  have hidle : (q.f 4 18 18 == 1 && (decide (q.f 4 13 10 ≠ 1 ∧ q.f 4 13 10 ≠ 2) || q.f 6 15 0 == 0 || q.f 6 31 16 == 0)) =
      false := by
    rw [Bool.and_eq_false_imp, beq_iff_eq]
    intro hl
    obtain ⟨hm | hm, hwake, hsleep⟩ := hlpi hl <;> simp [hm, hwake, hsleep]
  simp only [badPort, haligned, hidle]
  simp [Req.rsv, inRange, h4, h5, h7, hfec, hlo, hhi, hhold, hmode]

/-- An enabled port lies beside the port. -/
def portTaken (c : Cfg) (p : Nat) : Bool := (lanesBeside p).any fun k => isPort c k && portEnabled c k

theorem portTaken_iff {c : Cfg} {p : Nat} :
    portTaken c p = true ↔ ∃ k, p < k ∧ k < p + 4 ∧ isPort c k = true ∧ portEnabled c k = true := by
  simp only [portTaken, List.any_eq_true, mem_lanesBeside, Bool.and_eq_true, and_assoc]

/-- What an accepted PORT_SET answers. -/
def State.portSet (s : State) (q : Req) : Ans :=
  let p := q.f 4 9 0
  let four := fourMode (q.f 4 13 10)
  if four && portTaken s.stg.staged p then { status := stExists, st := s }
  else if !four && !isPort s.stg.staged p then { status := stRefused, st := s }
  else { st := s.stageBy 0x0301 q (setPort q) }

section
variable {s : State} {q : Req}

theorem State.portSet_exists (hfour : fourMode (q.f 4 13 10) = true) (htaken : portTaken s.stg.staged (q.f 4 9 0) = true) :
    s.portSet q = { status := stExists, st := s } := if_pos (by rw [hfour, htaken]; rfl)

theorem State.portSet_refused (hone : fourMode (q.f 4 13 10) = false) (hport : isPort s.stg.staged (q.f 4 9 0) = false) :
    s.portSet q = { status := stRefused, st := s } := by
  rw [State.portSet, hone, hport]
  rfl

theorem State.portSet_stages (hfree : fourMode (q.f 4 13 10) = true → ¬portTaken s.stg.staged (q.f 4 9 0) = true)
    (hport : ¬fourMode (q.f 4 13 10) = true → isPort s.stg.staged (q.f 4 9 0) = true) :
    s.portSet q = { st := s.stageBy 0x0301 q (setPort q) } := by
  unfold State.portSet
  cases hm : fourMode (q.f 4 13 10) with
  | true => simp [hfree hm]
  | false => simp [hport (by simp [hm])]

end

theorem exec_portSet {s : State} {r q : Req} (h : s.Accepts 0x0301 r q) (hgood : badPort q = false) (he : q.ExtSize 4) :
    exec (.portSet r) s = .next (s.finish 0x0301 q (s.portSet q)) :=
  mailbox_runs h hgood rfl (by simp) (by simpa using he) (by simp) rfl rfl

/-! ## PORT_STATUS (06 R218) -/

/-- Word 4 of PORT_STATUS: LINK, low-power idle of both directions, VERIFY, MODE and FEC. -/
def portStatusWord (link : Nat) (rx tx : Bool) (verify mode fec : Nat) : Word :=
  wd (link + b2n rx * 4 + b2n tx * 8 + verify * 2 ^ 4 + mode * 2 ^ 6 + fec * 2 ^ 10)

theorem portStatusWord_fields {link : Nat} (h : link ≤ 3) (rx tx : Bool) (verify mode fec : Nat) :
    fld (portStatusWord link rx tx verify mode fec) 1 0 = link ∧ fld (portStatusWord link rx tx verify mode fec) 5 4 = verify % 4 := by
  have hrx := b2n_le rx
  have htx := b2n_le tx
  simp only [fld, nfld, portStatusWord, BitVec.toNat_ofNat]
  omega

theorem linkCode_le (l : Link) : linkCode l ≤ 3 := by
  cases l <;> decide

theorem linkCode_eq (l : Link) : linkCode l = match l with | .disabled => 0 | .down => 1 | .up => 2 | .isolated => 3 := by
  cases l <;> rfl

theorem State.verifyCode_mod (s : State) (p : Nat) : s.verifyCode p % 4 =
    if preemptEn (s.portCfg p) p = false then 0 else if verifyDis (s.portCfg p) p then 2 else (s.port p).verify % 4 := by
  unfold State.verifyCode
  cases preemptEn (s.portCfg p) p <;> cases verifyDis (s.portCfg p) p <;> rfl

/-- The answer of PORT_STATUS for a port. -/
def State.portStatusWords (s : State) (p : Nat) : List Word :=
  [portStatusWord (linkCode (s.port p).link) (s.port p).rxLpi (s.port p).txLpi (s.verifyCode p) (portMode (s.portCfg p) p)
      (portFec (s.portCfg p) p),
    wd (if portLanes (s.portCfg p) p = 4 then (s.port p).deskew else 0)] ++ two (s.port p).lastChange

theorem exec_portStatus {s : State} {r q : Req} (h : s.Accepts 0x0302 r q) (hrsv : q.f 4 31 10 = 0) (he : q.ExtSize 1) :
    exec (.portStatus r) s = .next (s.finish 0x0302 q
      (if !isPort (s.portCfg (q.f 4 9 0)) (q.f 4 9 0) then { status := stNotFound, st := s }
      else { words := s.portStatusWords (q.f 4 9 0), st := s })) :=
  mailbox_runs h (by simp [Req.rsv, hrsv]) rfl (by simp) (by simpa using he) (by simp) rfl rfl

/-! ## PORT_STATS_READ (06 R219) -/

/-- Blocks of one length, one after the other, are found by block and place. -/
theorem getElem?_flatMap_of_length {α β : Type} {f : α → List β} {m : Nat} (hf : ∀ a, (f a).length = m) {j : Nat} (hj : j < m)
    (l : List α) (k : Nat) : (l.flatMap f)[m * k + j]? = l[k]?.bind fun a => (f a)[j]? := by
  induction l generalizing k with
  | nil => simp
  | cons a l ih =>
    rw [List.flatMap_cons]
    cases k with
    | zero => rw [List.getElem?_append_left (by rw [hf]; omega)]; simp
    | succ k =>
      rw [List.getElem?_append_right (by rw [hf, Nat.mul_succ]; omega), hf,
        show m * (k + 1) + j - m = m * k + j by rw [Nat.mul_succ]; omega, ih, List.getElem?_cons_succ]

theorem length_flatMap_of_length {α β : Type} {f : α → List β} {m : Nat} (hf : ∀ a, (f a).length = m) (l : List α) :
    (l.flatMap f).length = m * l.length := by
  rw [List.length_flatMap, funext hf, List.map_const', List.sum_replicate, smul_eq_mul, Nat.mul_comm]

/-- The counters that PORT_STATS_READ reads: live ones, or those of the snapshot. -/
def State.statsTab (s : State) (q : Req) : Tab Nat := if q.f 4 21 21 = 1 then s.shadow else s.ctr

/-- The 24 counters of a lane, 0 for one that is no port, behind its word. -/
def State.statsBlock (s : State) (q : Req) (p : Nat) : List Word :=
  wd (p + b2n (isPort (s.portCfg p) p) * 2 ^ 10) :: (List.range 24).flatMap fun j =>
    two (if isPort (s.portCfg p) p then tabGet 0 (s.statsTab q) (ckey 1 p j) else 0)

/-- The answer of PORT_STATS_READ. -/
def State.portStatsWords (s : State) (q : Req) : List Word :=
  [if q.f 4 21 21 = 1 then wd s.hif.snapId else 0, wd (q.f 4 20 10)] ++
    (List.range (q.f 4 20 10)).flatMap fun n => s.statsBlock q (q.f 4 9 0 + n)

theorem length_two (n : Nat) : (two n).length = 2 := rfl

theorem State.length_statsBlock (s : State) (q : Req) (p : Nat) : (s.statsBlock q p).length = 49 := by
  rw [State.statsBlock, List.length_cons, length_flatMap_of_length fun _ => length_two _, List.length_range]

theorem State.length_portStatsWords (s : State) (q : Req) : (s.portStatsWords q).length = 2 + 49 * q.f 4 20 10 := by
  rw [State.portStatsWords, List.length_append, length_flatMap_of_length fun _ => s.length_statsBlock q _, List.length_range]
  rfl

theorem State.statsBlock_counter {s : State} {q : Req} {p j : Nat} (hp : isPort (s.portCfg p) p = true) (hj : j < 24) :
    (s.statsBlock q p)[2 * j + 1]? = some (wd (tabGet 0 (s.statsTab q) (ckey 1 p j))) := by
  rw [State.statsBlock, List.getElem?_cons_succ, ← Nat.add_zero (2 * j),
    getElem?_flatMap_of_length (fun _ => length_two _) Nat.two_pos, List.getElem?_range hj, Option.bind_some, if_pos hp]
  rfl

/-- Counter `j` of the `n`th port that is named stands in its block. -/
theorem State.portStatsWords_counter {s : State} {q : Req} {n j : Nat} (hn : n < q.f 4 20 10) (hj : j < 24)
    (hp : isPort (s.portCfg (q.f 4 9 0 + n)) (q.f 4 9 0 + n) = true) :
    wordAt (s.portStatsWords q) (3 + 49 * n + 2 * j) = wd (tabGet 0 (s.statsTab q) (ckey 1 (q.f 4 9 0 + n) j)) := by
  have hplace : 3 + 49 * n + 2 * j = 49 * n + (2 * j + 1) + 1 + 1 := by omega
  rw [wordAt, List.getD_eq_getElem?_getD, State.portStatsWords, hplace, List.cons_append, List.getElem?_cons_succ, List.cons_append,
    List.getElem?_cons_succ, List.nil_append, getElem?_flatMap_of_length (fun _ => s.length_statsBlock q _) (by omega),
    List.getElem?_range hn, Option.bind_some, State.statsBlock_counter hp hj]
  rfl

theorem exec_portStatsRead {s : State} {r q : Req} (h : s.Accepts 0x0303 r q) (hrsv : q.f 4 31 22 = 0)
    (hfit : q.f 4 9 0 + q.f 4 20 10 ≤ 1024) (he : q.ExtSize 1) : exec (.portStatsRead r) s = .next (s.finish 0x0303 q
      (if q.f 4 21 21 = 1 ∧ !s.hif.snapOk then { status := stNotFound, st := s }
      else { words := s.portStatsWords q, st := s })) :=
  mailbox_runs h (by simp [Req.rsv, hrsv, hfit]) rfl (by simp) (by simpa using he) (by simp) rfl rfl

/-- Settles O17, a command at a time. -/
theorem ports : Obligations.Ports := by
  unfold Obligations.Ports
  refine ⟨?set, ?status, ?stats⟩
  case set =>
    intro s r q h h4 h5 h7 hmode hfec hlpi hlo hhi hhold halign he p c four taken
    have hexec := exec_portSet h (badPort_eq_false h4 h5 h7 hmode hfec hlpi hlo hhi hhold halign) he
    have hfour : four ↔ fourMode (q.f 4 13 10) = true := (fourMode_iff hmode).symm
    have htaken : taken ↔ portTaken c p = true := portTaken_iff.symm
    rw [hexec]
    refine ⟨fun hf ht => ?_, fun hf hp => ?_, fun hfree hp => ?_⟩
    · rw [State.portSet_exists (hfour.mp hf) (htaken.mp ht), State.finish_no (by decide) (by decide)]
    · rw [State.portSet_refused (Bool.eq_false_iff.mpr (mt hfour.mpr hf)) hp, State.finish_no (by decide) (by decide)]
    · rw [State.portSet_stages (fun hf ht => hfree (hfour.mpr hf) (htaken.mpr ht)) fun hf => hp fun h3 => hf (hfour.mp h3)]
      exact ⟨_, congrArg _ State.finish_ok, ⟨rfl, rfl, fun k hk => tabFind_setPort_other hmode hk _⟩, portWords_setPort ..,
        fun hf i hlo hhi => portWords_setPort_beside (hfour.mp hf) (mem_lanesBeside.mpr ⟨hlo, hhi⟩) _⟩
  case status =>
    intro s r q h hrsv he hroom p
    rw [exec_portStatus h hrsv he]
    refine ⟨fun hno => ?_, fun hp => ⟨s.portStatusWords p, ?_, rfl, ?_, ?_, rfl, rfl⟩⟩
    · rw [if_pos (by rw [hno]; rfl), State.finish_no (by decide) (by decide)]
    · rw [if_neg (by rw [hp]; decide)]
      exact congrArg _ (State.finish_done (.inl rfl) rfl rfl hroom)
    · exact (portStatusWord_fields (linkCode_le _) ..).1.trans (linkCode_eq _)
    · exact (portStatusWord_fields (linkCode_le _) ..).2.trans (s.verifyCode_mod p)
  case stats =>
    intro s r q h hrsv hfit he hroom sh
    rw [exec_portStatsRead h hrsv hfit he]
    refine ⟨fun hsh hno => ?_, fun hok => ⟨s.portStatsWords q, ?_, s.length_portStatsWords q, rfl, fun n j hn hj hp => ?_⟩⟩
    · rw [if_pos ⟨hsh, by rw [hno]; rfl⟩, State.finish_no (by decide) (by decide)]
    · rw [if_neg fun hno => by rw [hok hno.1] at hno; exact absurd hno.2 (by decide),
        State.finish_done (.inl rfl) rfl rfl ((s.length_portStatsWords q).trans_le hroom)]
    · exact State.portStatsWords_counter hn hj hp

end Sys2Proof.Machine
end

section
/-!
SUPPORT. FLT status through the work of frames and their copies: what leaves FLT alone, and that no EVT bit is cleared by the end of a
frame or the loss of a link (06 R197; 09 R338; 16 R538).
-/

namespace Sys2Proof.Machine

open Sys2Proof

/-! ## What leaves FLT alone -/

@[simp] theorem State.onIf_flt {b : Bool} {f : State → State} {s : State} (h : ∀ a, (f a).flt = a.flt) :
    (s.onIf b f).flt = s.flt := State.onIf_keeps State.flt b f s (h s)

@[simp] theorem foldl_flt {β : Type} {f : State → β → State} {l : List β} {s : State} (h : ∀ a x, (f a x).flt = a.flt) :
    (l.foldl f s).flt = s.flt := foldl_keeps State.flt f h l s

@[simp] theorem State.onFrame_flt (fid : Nat) (f : Frame → Frame) (s : State) : (s.onFrame fid f).flt = s.flt := by
  unfold State.onFrame; split <;> simp

@[simp] theorem State.hostDone_flt (x : Frame) (s : State) : (s.hostDone x).flt = s.flt := by
  unfold State.hostDone; (repeat' split) <;> simp

@[simp] theorem State.settle_flt (fid : Nat) (s : State) : (s.settle fid).flt = s.flt := by
  dsimp only [State.settle]; split <;> simp

@[simp] theorem State.bufAdd_flt (c r n : Nat) (s : State) : (s.bufAdd c r n).flt = s.flt := (rfl)
@[simp] theorem State.bufSub_flt (c r n : Nat) (s : State) : (s.bufSub c r n).flt = s.flt := (rfl)
@[simp] theorem State.onCopies_flt (t : Copy → Bool) (f : Copy → Copy) (s : State) : (s.onCopies t f).flt = s.flt := (rfl)
@[simp] theorem State.freeChunks_flt (s : State) : s.freeChunks.flt = s.flt := (rfl)
@[simp] theorem State.pullCopy_flt (fid p : Nat) (s : State) : (s.pullCopy fid p).flt = s.flt := (rfl)

@[simp] theorem State.endCopy_flt (c : Copy) (s : State) : (s.endCopy c).flt = s.flt := by
  dsimp only [State.endCopy]; split <;> simp

@[simp] theorem State.dropCopy_flt (c : Copy) (k i : Nat) (s : State) : (s.dropCopy c k i).flt = s.flt := by
  simp [State.dropCopy]

@[simp] theorem State.refuseCopy_flt (c : Copy) (k i st : Nat) (s : State) : (s.refuseCopy c k i st).flt = s.flt := by
  simp [State.refuseCopy]

@[simp] theorem State.badTail_flt (fid : Nat) (l : List Nat) (s : State) : (s.badTail fid l).flt = s.flt :=
  foldl_flt fun a p => by (repeat' split) <;> simp

@[simp] theorem State.closeChunk_flt (a b c : Nat) (s : State) : (s.closeChunk a b c).flt = s.flt := by
  unfold State.closeChunk; split <;> simp

@[simp] theorem State.openChunk_flt (a b c : Nat) (s : State) : (s.openChunk a b c).2.flt = s.flt := by
  unfold State.openChunk; split <;> simp

@[simp] theorem packBytes_flt (n src dst cls mask fid off len head : Nat) (last bad : Bool) (s : State) :
    (packBytes n src dst cls mask fid off len head last bad s).flt = s.flt := by
  induction n generalizing off len head s with
  | zero => rfl
  | succ n ih =>
    dsimp only [packBytes]
    (repeat' split) <;> simp [ih]

@[simp] theorem State.growCopies_flt (fid p n : Nat) (last : Bool) (s : State) : (s.growCopies fid p n last).flt = s.flt := by
  unfold State.growCopies; split <;> simp

@[simp] theorem State.landPiece_flt (c : Nat) (p : Piece) (s : State) : (s.landPiece c p).flt = s.flt := by
  dsimp only [State.landPiece]; (repeat' split) <;> simp

@[simp] theorem State.endPacked_flt (fid : Nat) (s : State) : (s.endPacked fid).flt = s.flt :=
  foldl_flt fun a c => by split <;> simp

@[simp] theorem State.ledger_flt (fid : Nat) (b : Bool) (s : State) : (s.ledger fid b).flt = s.flt := by
  dsimp only [State.ledger]; split <;> simp

@[simp] theorem State.cutPacked_flt (fid : Nat) (s : State) : (s.cutPacked fid).flt = s.flt := by
  simp [State.cutPacked]

@[simp] theorem State.packFrame_flt (fid : Nat) (s : State) : (s.packFrame fid).flt = s.flt := by
  dsimp only [State.packFrame]; (repeat' split) <;> simp

@[simp] theorem State.unpack_flt (fid : Nat) (s : State) : (s.unpack fid).flt = s.flt := by
  simp [State.unpack]

@[simp] theorem State.feedCol_flt (fid : Nat) (s : State) : (s.feedCol fid).flt = s.flt := by
  dsimp only [State.feedCol]
  split
  · exact foldl_flt fun a c => by (repeat' split) <;> simp
  · rfl

@[simp] theorem setTx_flt (p : Nat) (t : Option Tx) (s : State) : (setTx p t s).flt = s.flt := (rfl)
@[simp] theorem setHeld_flt (p : Nat) (t : Option Tx) (s : State) : (setHeld p t s).flt = s.flt := (rfl)

@[simp] theorem State.chargeShaper_flt (p b : Nat) (n : Int) (s : State) : (s.chargeShaper p b n).flt = s.flt := by
  dsimp only [State.chargeShaper, State.putShaper]; split <;> simp

@[simp] theorem State.chargeFrame_flt (p : Nat) (c : Copy) (n : Int) (s : State) : (s.chargeFrame p c n).flt = s.flt := by
  dsimp only [State.chargeFrame]; split <;> simp

@[simp] theorem State.endTx_flt (p : Nat) (t : Tx) (b : Bool) (s : State) : (s.endTx p t b).flt = s.flt := by
  dsimp only [State.endTx]; (repeat' split) <;> simp

/-! ## EVT bits that stay set -/

/-- Every EVT bit that is set in `s` is set in `t`. -/
def State.EvtStays (s t : State) : Prop := ∀ b, s.flt.evt.getLsbD b = true → t.flt.evt.getLsbD b = true

theorem State.EvtStays.of_flt {s t : State} (h : t.flt = s.flt) : s.EvtStays t := fun _ hb => by rwa [h]

theorem State.EvtStays.trans {s t u : State} (h : s.EvtStays t) (h' : t.EvtStays u) : s.EvtStays u := fun b hb => h' b (h b hb)

theorem State.EvtStays.foldl {β : Type} {f : State → β → State} (h : ∀ a x, State.EvtStays a (f a x)) (l : List β) (s : State) :
    s.EvtStays (l.foldl f s) :=
  List.foldlRecOn (motive := s.EvtStays) l f (.of_flt rfl) fun a ha x _ => ha.trans (h a x)

/-- An event sets EVT bits alone. -/
theorem State.raise_evtStays (e : Ev) (s : State) : s.EvtStays (s.raise e) := by
  intro b hb
  unfold State.raise
  split
  · rw [State.onFlt_flt, BitVec.getLsbD_or, hb, Bool.true_or]
  · exact hb

/-- The loss of a VOID is an event. -/
theorem State.postVoid_evtStays (fid : Nat) (s : State) : s.EvtStays (s.postVoid fid) := by
  dsimp only [State.postVoid]
  split
  · exact .of_flt rfl
  · split
    · refine State.EvtStays.trans (.of_flt ?_) (State.raise_evtStays _ _)
      rw [State.bump_flt, State.onFrame_flt]
    · exact .of_flt (State.onFrame_flt fid _ s)

theorem State.closeFrame_evtStays (fid : Nat) (bad : Bool) (s : State) : s.EvtStays (s.closeFrame fid bad) := by
  unfold State.closeFrame
  extract_lets y body t0 t x u v h
  have ht0 : s.EvtStays t0 := .of_flt (State.onFrame_flt ..)
  have ht : s.EvtStays t := by
    dsimp only [t]
    split
    · exact ht0.trans (State.postVoid_evtStays fid t0)
    · exact ht0
  have hv : v.flt = t.flt := by dsimp only [v]; split <;> simp [u]
  refine ht.trans (.of_flt ?_)
  split
  · split <;> simp
  · rw [State.settle_flt, hv]
  · split <;> simp

theorem State.endCopies_evtStays (fid : Nat) (bad : Bool) (s : State) : s.EvtStays (s.endCopies fid bad) := by
  refine State.EvtStays.foldl (fun a e => ?_) _ s
  have hclose {b : State} (h : b.flt = a.flt) (bad : Bool) : State.EvtStays a (b.closeFrame e.1 bad) :=
    (State.EvtStays.of_flt h).trans (State.closeFrame_evtStays _ _ b)
  split
  · split
    · exact hclose rfl _
    · dsimp only
      split
      · exact .of_flt (by simp)
      · exact hclose (State.onFrame_flt ..) _
  · exact hclose rfl _

/-- What a port that leaves Up gives up clears no EVT bit. -/
theorem State.dropLink_evtStays (p : Nat) (s : State) : s.EvtStays (s.dropLink p) := by
  unfold State.dropLink
  extract_lets a b waiting c cut
  have ha : a.flt = s.flt := by dsimp only [a]; (repeat' split) <;> simp
  have hb : b.flt = a.flt := by dsimp only [b]; split <;> simp
  have hc : c.flt = b.flt := foldl_flt fun x k => State.refuseCopy_flt ..
  refine (State.EvtStays.of_flt (hc.trans (hb.trans ha))).trans (.foldl (fun x fid => ?_) cut c)
  exact (State.EvtStays.of_flt (State.bump_flt ..)).trans
    ((State.endCopies_evtStays fid true _).trans (State.closeFrame_evtStays fid true _))

end Sys2Proof.Machine
end

section
/-!
PROOF of Links (O18): the link of a port, its low-power idle, its verification, and what its holding buffer keeps (06 R196, R197, R200 to
R204, R208).
-/

namespace Sys2Proof.Machine

open Sys2Proof

/-! ## Ports and counters after an update -/

@[simp] theorem State.onPort_port_same (p : Nat) (f : Port → Port) (s : State) : (s.onPort p f).port p = f (s.port p) :=
  tabGet_tabMod_same ..

theorem State.onPort_port_other {p k : Nat} (h : k ≠ p) (f : Port → Port) (s : State) : (s.onPort p f).port k = s.port k :=
  tabGet_tabMod_other h ..

theorem State.port_congr {s t : State} (h : t.prt = s.prt) (p : Nat) : t.port p = s.port p := by rw [State.port, h]; rfl

theorem State.bump_count_same (k i x n : Nat) (s : State) : (s.bump k i x n).count k i x = (s.count k i x + n) % 2 ^ 64 := by
  rw [State.count, State.bump_ctr, tabGet_tabMod_same]; rfl

/-- Another counter of the same unit stays. -/
theorem State.bump_count_other {k i x y : Nat} (h : y ≠ x) (n : Nat) (s : State) :
    (s.bump k i x n).count k i y = s.count k i y := by
  rw [State.count, State.bump_ctr, tabGet_tabMod_other (by simp only [ckey]; omega)]; rfl

/-! ## The status that an event leaves (16 R538) -/

theorem State.raise_evt {e : Ev} {s : State} (h : s.eventSeen e.src = true) :
    (s.raise e).flt.evt = s.flt.evt ||| srcMask e.src := by
  rw [State.raise, if_pos h]; rfl

/-- A fatal event that is seen sets FLT and FATAL. -/
theorem State.raise_fatal_faults {e : Ev} {s : State} (h : s.eventSeen e.src = true) (hc : e.cls = 3) :
    (s.raise e).faults = (s.flt.flt ||| srcMask e.src, s.flt.fatal ||| srcMask e.src) := by
  rw [State.raise, if_pos h]
  exact Prod.ext (if_pos (by omega)) (if_pos hc)

theorem State.eventSeen_of_fltRuns {s : State} (h : s.fltRuns = true) (n : Nat) : s.eventSeen n = true := by
  rw [State.eventSeen, h, Bool.true_or]

/-! ## LINK_UP (06 R196, R208) -/

/-- A port whose link comes up. -/
def Port.upAt (x : Port) (c : Cfg) (p d now : Nat) : Port :=
  { x with
    link := .up, lastChange := now, deskew := if portLanes c p = 4 then d % 65536 else 0
    verify := if !preemptEn c p then 0 else if verifyDis c p then 2 else 1, unverified := verifyDis c p }

theorem exec_linkUp {s : State} {p : Fin 1024} (hdown : (s.port p.val).link = .down) (hshut : (s.port p.val).shut = false)
    (hport : isPort (s.portCfg p.val) p.val = true) (hmod : s.crn.mod = .run) (hserv : s.inService (cellOf p.val) = true)
    (href : s.tim.sdsref.getLsbD (p.val / 128) = true) (d : Nat) : exec (.linkUp p d) s =
      .next ((s.onPort p.val fun y => y.upAt (s.portCfg p.val) p.val d s.now).raise { src := p.val, reason := 1, cls := 0 }) :=
  congrArg Host.Outcome.next (if_pos ⟨hdown, by rw [hshut]; rfl, hport, hmod, hserv, href⟩)

theorem Port.upAt_verify (x : Port) (c : Cfg) (p d now : Nat) :
    (x.upAt c p d now).verify = if preemptEn c p = false then 0 else if verifyDis c p then 2 else 1 := by
  unfold Port.upAt
  cases preemptEn c p <;> rfl

/-! ## LINK_DOWN (06 R196, R197) -/

theorem State.dropLink_crn (p : Nat) (s : State) : (s.dropLink p).crn = s.crn := by
  simpa only [State.footing_crn] using congrArg State.crn (State.dropLink_footing p s)

theorem State.dropLink_tim (p : Nat) (s : State) : (s.dropLink p).tim = s.tim := by
  simpa only [State.footing_tim] using congrArg State.tim (State.dropLink_footing p s)

/-- Where the link of a port changes, its time is noted, and low-power idle and verification end. -/
theorem State.setLink_port_same {p : Nat} {l : Link} {s : State} (h : (s.port p).link ≠ l) : (s.setLink p l).port p =
    { s.port p with link := l, lastChange := s.now, rxLpi := false, txLpi := false, txReadyAt := 0, verify := 0 } := by
  unfold State.setLink
  extract_lets old t
  have hport : t.port p = s.port p := State.port_congr (by dsimp only [t]; split <;> simp) p
  have hnow : t.now = s.now := by
    have htim : t.tim = s.tim := by
      dsimp only [t]
      split
      · rw [State.raise_tim, State.bump_tim, State.dropLink_tim]
      · rfl
    rw [State.now, htim]; rfl
  rw [if_neg h, State.onPort_port_same, hport, hnow]

/-- A port that leaves Up has its event, and no other EVT bit is cleared. -/
theorem State.setLink_evt {p : Nat} {l : Link} {s : State} (hup : (s.port p).link = .up) (hl : l ≠ .up) (hruns : s.fltRuns = true)
    {b : Nat} (hb : (s.flt.evt ||| srcMask p).getLsbD b = true) : (s.setLink p l).flt.evt.getLsbD b = true := by
  have hseen : ((s.dropLink p).bump 1 p 23 1).eventSeen p = true :=
    State.eventSeen_of_fltRuns (by rw [State.fltRuns, State.bump_crn, State.dropLink_crn]; exact hruns) p
  unfold State.setLink
  extract_lets old t
  rw [if_neg (by dsimp only [old]; rw [hup]; exact hl.symm), State.onPort_flt]
  dsimp only [t]
  rw [if_pos hup, State.raise_evt hseen, State.bump_flt, BitVec.getLsbD_or, Bool.or_eq_true]
  rw [BitVec.getLsbD_or, Bool.or_eq_true] at hb
  exact hb.imp_left (State.dropLink_evtStays p s b)

theorem exec_linkDown {s : State} {p : Fin 1024} (h : (s.port p.val).link = .up) :
    exec (.linkDown p) s = .next (s.setLink p.val .down) :=
  congrArg Host.Outcome.next (if_pos h)

/-! ## LOSS_OF_SIGNAL and LANE_SHUTDOWN (06 R196; 16 R538, R549) -/

theorem exec_lossOfSignal {s : State} {lane : Fin 1024}
    (hlink : (s.port (portOf (s.portCfg lane.val) lane.val)).link ≠ .disabled)
    (hshut : (s.port (portOf (s.portCfg lane.val) lane.val)).shut = false) :
    exec (.lossOfSignal lane) s = .next (s.raise { src := lane.val, reason := 3, cls := 0 }) :=
  congrArg Host.Outcome.next (if_neg (by simp [hlink, hshut]))

/-- The fatal event of a port. -/
abbrev laneFault (p : Nat) : Ev := { src := p, reason := 6, cls := 3, live := true }

/-- An Up port goes Down. -/
def State.takeDown (p : Nat) (s : State) : State := if (s.port p).link = .up then s.setLink p .down else s

theorem State.takeDown_link (p : Nat) (s : State) : ((s.takeDown p).port p).link ≠ .up := by
  unfold State.takeDown
  split
  · rw [State.setLink_link]; decide
  · assumption

theorem State.takeDown_faults (p : Nat) (s : State) : (s.takeDown p).faults = s.faults := by
  unfold State.takeDown
  split
  · exact State.setLink_faults ..
  · rfl

theorem State.takeDown_live (p : Nat) (s : State) : (s.takeDown p).flt.live = s.flt.live := by
  unfold State.takeDown
  split
  · simpa only [State.core_live] using congrArg (fun x : State => x.flt.live) (State.setLink_core p .down s)
  · rfl

theorem exec_laneShutdown {s : State} {p : Fin 1024} (hruns : s.fltRuns = true) (hport : isPort (s.portCfg p.val) p.val = true) :
    exec (.laneShutdown p) s = .next (((s.raise (laneFault p.val)).takeDown p.val).onPort p.val fun x => { x with shut := true }) :=
  congrArg Host.Outcome.next (if_pos ⟨hruns, hport⟩)

theorem laneShutdown_spec {s : State} {p : Fin 1024} (hruns : s.fltRuns = true) (hport : isPort (s.portCfg p.val) p.val = true) :
    ∃ t, exec (.laneShutdown p) s = .next t ∧ (t.port p.val).shut = true ∧ (t.port p.val).link ≠ .up ∧
      t.flt.fatal = s.flt.fatal ||| srcMask p.val ∧ t.flt.flt = s.flt.flt ||| srcMask p.val ∧ t.causeOf p.val = true := by
  have hseen := State.eventSeen_of_fltRuns hruns p.val
  have hfaults : ((s.raise (laneFault p.val)).takeDown p.val).faults = _ :=
    (State.takeDown_faults ..).trans (State.raise_fatal_faults (e := laneFault p.val) hseen rfl)
  have hlive : (p.val, 6) ∈ ((s.raise (laneFault p.val)).takeDown p.val).flt.live := by
    rw [State.takeDown_live]
    exact State.mem_raise_live (e := laneFault p.val) hseen rfl
  refine ⟨_, exec_laneShutdown hruns hport, ?_, ?_, congrArg Prod.snd hfaults, congrArg Prod.fst hfaults,
    List.any_eq_true.mpr ⟨_, hlive, beq_self_eq_true _⟩⟩
  · rw [State.onPort_port_same]
  · rw [State.onPort_port_same]
    exact State.takeDown_link p.val _

/-! ## Low-power idle (06 R200 to R202) -/

section
variable {s : State} {p : Fin 1024}

theorem exec_lpiEntry_rx (hup : (s.port p.val).link = .up) (hlpi : lpiPort (s.portCfg p.val) p.val = true) :
    exec (.lpiEntry p true) s = .next (s.onPort p.val fun y => { y with rxLpi := true }) :=
  congrArg Host.Outcome.next ((if_pos ⟨hup, hlpi⟩).trans (if_pos rfl))

theorem exec_lpiEntry_tx (hup : (s.port p.val).link = .up) (hlpi : lpiPort (s.portCfg p.val) p.val = true)
    (htx : (s.port p.val).txLpi = false) (hidle : s.portIdle p.val = true) : exec (.lpiEntry p false) s =
      .next (((s.onPort p.val fun y => { y with txLpi := true }).bump 1 p.val 22 1).emit (.lpi p.val true)) :=
  congrArg Host.Outcome.next ((if_pos ⟨hup, hlpi⟩).trans
    ((if_neg Bool.false_ne_true).trans (if_pos ⟨by rw [htx]; rfl, hidle⟩)))

theorem lpiEntry_spec {rx : Bool} (hup : (s.port p.val).link = .up) (hlpi : lpiPort (s.portCfg p.val) p.val = true)
    (hidle : rx = false → (s.port p.val).txLpi = false ∧ s.portIdle p.val = true) :
    ∃ t, exec (.lpiEntry p rx) s = .next t ∧ t = { s with prt := t.prt, ctr := t.ctr, out := t.out } ∧
      (rx = true → t.port p.val = { s.port p.val with rxLpi := true } ∧ t.ctr = s.ctr ∧ t.out = s.out) ∧
      (rx = false → t.port p.val = { s.port p.val with txLpi := true } ∧ t.out = s.out ++ [.lpi p.val true] ∧
        t.count 1 p.val 22 = (s.count 1 p.val 22 + 1) % 2 ^ 64) ∧ ∀ k, k ≠ p.val → t.port k = s.port k := by
  cases rx with
  | true =>
    exact ⟨_, exec_lpiEntry_rx hup hlpi, rfl, fun _ => ⟨State.onPort_port_same .., rfl, rfl⟩, fun h => absurd h (by decide),
      fun k hk => State.onPort_port_other hk ..⟩
  | false =>
    obtain ⟨htx, hquiet⟩ := hidle rfl
    refine ⟨_, exec_lpiEntry_tx hup hlpi htx hquiet, rfl, fun h => absurd h (by decide),
      fun _ => ⟨?_, rfl, State.bump_count_same ..⟩, fun k hk => ?_⟩
    · rw [State.emit_port, State.bump_port, State.onPort_port_same]
    · rw [State.emit_port, State.bump_port, State.onPort_port_other hk]

/-- The transmitter of a port has left low-power idle and waits LPI_TW. -/
def State.leaveLpi (p : Nat) (s : State) : State :=
  (s.onPort p fun y => { y with txLpi := false, txReadyAt := s.now + 10 * lpiTw (s.portCfg p) p }).emit (.lpi p false)

theorem exec_lpiExit (htx : (s.port p.val).txLpi = true) (hidle : s.portIdle p.val = false) : exec (.lpiExit p) s =
    .next (if (s.txOf p.val).isNone then (s.leaveLpi p.val).chooseTx p.val else s.leaveLpi p.val) :=
  congrArg Host.Outcome.next (if_pos ⟨htx, by rw [hidle]; rfl⟩)

theorem exec_partnerLpiExit (hrx : (s.port p.val).rxLpi = true) : exec (.partnerLpiExit p) s =
    .next ((s.onPort p.val fun y => { y with rxLpi := false }).startWake (cellOf p.val)) :=
  congrArg Host.Outcome.next (if_pos hrx)

/-! ## VERIFY_RESULT (06 R208; 16 R538) -/

theorem exec_verifyResult_good (hv : (s.port p.val).verify = 1) :
    exec (.verifyResult p true) s = .next ((s.onPort p.val fun y => { y with verify := 2 }).endLive p.val 4) :=
  congrArg Host.Outcome.next ((if_pos hv).trans (if_pos rfl))

theorem exec_verifyResult_bad (hv : (s.port p.val).verify = 1) : exec (.verifyResult p false) s =
    .next ((s.onPort p.val fun y => { y with verify := 3 }).raise { src := p.val, reason := 4, cls := 1, live := true }) :=
  congrArg Host.Outcome.next ((if_pos hv).trans (if_neg Bool.false_ne_true))

theorem verifyResult_spec {ok : Bool} (hv : (s.port p.val).verify = 1) (hruns : s.fltRuns = true) :
    ∃ t, exec (.verifyResult p ok) s = .next t ∧ t = { s with prt := t.prt, flt := t.flt } ∧
      t.port p.val = { s.port p.val with verify := if ok then 2 else 3 } ∧
      (ok = false → (p.val, 4) ∈ t.flt.live ∧ t.flt.evt = s.flt.evt ||| srcMask p.val) ∧
      (ok = true → (p.val, 4) ∉ t.flt.live) := by
  cases ok with
  | true =>
    refine ⟨_, exec_verifyResult_good hv, by ext1 <;> simp, ?_, fun h => absurd h (by decide), fun _ => State.endLive_not_live hruns⟩
    rw [State.port_congr (State.endLive_prt ..), State.onPort_port_same]
    rfl
  | false =>
    have hseen := State.eventSeen_of_fltRuns (s := s.onPort p.val fun y => { y with verify := 3 }) hruns p.val
    refine ⟨_, exec_verifyResult_bad hv, by ext1 <;> simp, ?_, fun _ => ⟨?_, State.raise_evt hseen⟩, fun h => absurd h (by decide)⟩
    · rw [State.port_congr (State.raise_prt ..), State.onPort_port_same]
      rfl
    · exact State.mem_raise_live (e := { src := p.val, reason := 4, cls := 1, live := true }) hseen rfl

end

/-! ## HOLD_BUFFER_STORE (06 R203, R204, R213) -/

/-- The cell of a port wakes for a frame, whose fragments are counted. -/
def State.wakeFor (p frags : Nat) (s : State) : State :=
  (s.startWake (cellOf p)).onIf (frags != 0) fun a => a.bump 1 p 10 frags

/-- What the holding buffer of a port keeps of a frame. -/
def State.heldFrame (s : State) (p : Nat) (data : List Byte) (bad : Bool) : HeldFrame :=
  { data := data, ts := s.firstByte p data.length, pcsErr := bad }

/-- The holding buffer of a port has room for so many bytes more. -/
def State.holdRoom (s : State) (p n : Nat) : Prop :=
  ((s.port p).hold.map (·.data.length)).sum + n ≤ 16384 * portLanes (s.portCfg p) p

section
variable (p frags : Nat) (s : State)

theorem State.wakeFor_eq :
    s.wakeFor p frags = { s with cel := (s.wakeFor p frags).cel, pmu := (s.wakeFor p frags).pmu, ctr := (s.wakeFor p frags).ctr } := by
  unfold State.wakeFor
  cases frags != 0 <;> ext1 <;> simp [State.onIf]

theorem State.wakeFor_prt : (s.wakeFor p frags).prt = s.prt := by rw [State.wakeFor_eq]

theorem State.wakeFor_ctr : (s.wakeFor p 0).ctr = s.ctr := State.startWake_ctr ..

theorem State.wakeFor_cell (c : Nat) : (s.wakeFor p frags).cell c = (s.startWake (cellOf p)).cell c := by
  unfold State.wakeFor
  cases frags != 0 <;> rfl

theorem State.startWake_count (c k i x : Nat) : (s.startWake c).count k i x = s.count k i x := by
  rw [State.count, State.startWake_ctr]; rfl

theorem State.wakeFor_count_other {x : Nat} (h : x ≠ 10) : (s.wakeFor p frags).count 1 p x = s.count 1 p x := by
  unfold State.wakeFor
  cases frags != 0
  · exact State.startWake_count ..
  · exact (State.bump_count_other h ..).trans (State.startWake_count ..)

variable {frags}

theorem State.wakeFor_count_fragments (h : frags ≠ 0) :
    (s.wakeFor p frags).count 1 p 10 = (s.count 1 p 10 + frags) % 2 ^ 64 := by
  have hcounts : (frags != 0) = true := bne_iff_ne.mpr h
  rw [State.wakeFor, hcounts]
  exact (State.bump_count_same ..).trans (by rw [State.startWake_count])

end

section
variable {s : State} {p : Fin 1024} {data : List Byte} (bad : Bool) (frags : Nat)

theorem exec_holdBufferStore_keeps (hup : (s.port p.val).link = .up) (hruns : s.running = true)
    (hcell : s.cellRuns (p.val / 16) = false) (hroom : s.holdRoom p.val data.length) : exec (.holdBufferStore p data bad frags) s =
      .next ((s.wakeFor p.val frags).onPort p.val fun y => { y with hold := y.hold ++ [s.heldFrame p.val data bad] }) :=
  congrArg Host.Outcome.next ((if_pos ⟨hup, hruns, by rw [cellOf, hcell]; rfl⟩).trans (if_neg (Nat.not_lt.mpr hroom)))

theorem exec_holdBufferStore_drops (hup : (s.port p.val).link = .up) (hruns : s.running = true)
    (hcell : s.cellRuns (p.val / 16) = false) (hfull : ¬s.holdRoom p.val data.length) :
    exec (.holdBufferStore p data bad frags) s = .next ((s.wakeFor p.val frags).bump 1 p.val 8 1) :=
  congrArg Host.Outcome.next ((if_pos ⟨hup, hruns, by rw [cellOf, hcell]; rfl⟩).trans (if_pos (Nat.not_le.mp hfull)))

end

theorem holdBufferStore_spec {s : State} {p : Fin 1024} {data : List Byte} {bad : Bool} {frags : Nat}
    (hup : (s.port p.val).link = .up) (hruns : s.running = true) (hcell : s.cellRuns (p.val / 16) = false) :
    ∃ t, exec (.holdBufferStore p data bad frags) s = .next t ∧
      t = { s with prt := t.prt, cel := t.cel, pmu := t.pmu, ctr := t.ctr } ∧
      ((s.cell (p.val / 16)).st = .slumber → (t.cell (p.val / 16)).st = .waking true) ∧
      (s.holdRoom p.val data.length → (t.port p.val).hold = (s.port p.val).hold ++ [s.heldFrame p.val data bad] ∧
        t.count 1 p.val 8 = s.count 1 p.val 8) ∧
      (frags = 0 → s.holdRoom p.val data.length → t.ctr = s.ctr) ∧
      (frags ≠ 0 → t.count 1 p.val 10 = (s.count 1 p.val 10 + frags) % 2 ^ 64) ∧
      (¬s.holdRoom p.val data.length → t.prt = s.prt ∧ t.count 1 p.val 8 = (s.count 1 p.val 8 + 1) % 2 ^ 64) := by
  have hwakes (h : (s.cell (p.val / 16)).st = .slumber) : ((s.wakeFor p.val frags).cell (p.val / 16)).st = .waking true := by
    rw [State.wakeFor_cell, cellOf, State.startWake_cell_slumber h]
  by_cases hroom : s.holdRoom p.val data.length
  · refine ⟨_, exec_holdBufferStore_keeps bad frags hup hruns hcell hroom, ?_, hwakes, fun _ => ⟨?_, ?_⟩, fun hnone _ => ?_,
      fun hsome => ?_, fun hfull => absurd hroom hfull⟩
    · rw [State.wakeFor_eq]; rfl
    · rw [State.onPort_port_same, State.port_congr (State.wakeFor_prt ..)]
    · exact State.wakeFor_count_other p.val frags s (by decide)
    · subst hnone
      exact State.wakeFor_ctr ..
    · exact State.wakeFor_count_fragments p.val s hsome
  · refine ⟨_, exec_holdBufferStore_drops bad frags hup hruns hcell hroom, ?_, hwakes, fun h => absurd h hroom,
      fun _ h => absurd h hroom, fun hsome => ?_, fun _ => ⟨State.wakeFor_prt .., ?_⟩⟩
    · rw [State.wakeFor_eq]; rfl
    · exact (State.bump_count_other (by decide) ..).trans (State.wakeFor_count_fragments p.val s hsome)
    · rw [State.bump_count_same, State.wakeFor_count_other p.val frags s (by decide)]

/-- Settles O18, an occurrence at a time. -/
theorem links : Obligations.Links := by
  unfold Obligations.Links
  refine ⟨⟨?up, ?down, ?signal, fun s p hruns hport => laneShutdown_spec hruns hport⟩,
    ⟨fun s p rx hup hlpi hidle => lpiEntry_spec hup hlpi hidle, ?exit, ?partner, fun s p ok hv hruns => verifyResult_spec hv hruns⟩,
    fun s p data bad frags hup hruns hcell => holdBufferStore_spec hup hruns hcell⟩
  case up =>
    intro s p d hdown hshut hport hmod hruns hserv href
    have hprt := State.raise_prt { src := p.val, reason := 1, cls := 0 }
      (s.onPort p.val fun y => y.upAt (s.portCfg p.val) p.val d s.now)
    have hsame := (State.port_congr hprt p.val).trans (State.onPort_port_same ..)
    refine ⟨_, exec_linkUp hdown hshut hport hmod hserv href d, by ext1 <;> simp, ?_, ?_, ?_, ?_,
      State.raise_evt (State.eventSeen_of_fltRuns hruns p.val), congrArg Prod.fst (State.raise_faults Nat.two_pos _),
      fun k hk => (State.port_congr hprt k).trans (State.onPort_port_other hk ..)⟩
    · rw [hsame]; rfl
    · rw [hsame]; rfl
    · rw [hsame]; rfl
    · rw [hsame, Port.upAt_verify]
  case down =>
    intro s p hup
    have hport := State.setLink_port_same (l := .down) (by rw [hup]; decide : (s.port p.val).link ≠ .down)
    have hcore := State.setLink_core p.val .down s
    refine ⟨_, exec_linkDown hup, ?_, ?_, ?_, ?_, ?_, ?_, ?_, fun hruns b hb => State.setLink_evt hup (by decide) hruns hb⟩
    · rw [hport]
    · rw [hport]
    · rw [hport]
    · simpa only [State.core_crn] using congrArg State.crn hcore
    · simpa only [State.core_tim] using congrArg State.tim hcore
    · simpa only [State.core_stg] using congrArg State.stg hcore
    · rw [hport]
  case signal =>
    intro s lane hruns p hlink hshut
    exact ⟨_, exec_lossOfSignal hlink hshut, State.raise_eq .., State.raise_evt (State.eventSeen_of_fltRuns hruns lane.val)⟩
  case exit =>
    intro s p htx hidle
    refine ⟨s.leaveLpi p.val, rfl, ?_, fun k hk => ?_, exec_lpiExit htx hidle⟩
    · rw [State.leaveLpi, State.emit_port, State.onPort_port_same]
    · rw [State.leaveLpi, State.emit_port, State.onPort_port_other hk]
  case partner =>
    intro s p hrx hdoze
    have hwakes := State.startWake_cell_doze (s := s.onPort p.val fun y => { y with rxLpi := false }) hdoze
    refine ⟨_, exec_partnerLpiExit hrx, ?_, ?_, congrArg Cell.st hwakes⟩
    · rw [State.startWake_eq]; rfl
    · rw [State.port_congr (State.startWake_prt ..), State.onPort_port_same]

end Sys2Proof.Machine
end

section
/-!
REFUTATION of FrameEnds (O39). Its first clause says by how much FRAME_END raises the counters of a frame's port, for a frame of any
port number. The model keeps every counter in one table, under a key of kind, unit and index that tells ports from other units for
port numbers below 2^32 alone. A frame of a port far beyond the module's 1,024 has, for its count of assembly errors, the key of its
cell's count of ingress staging drops (11 R418). The end of such a frame by an assembly error, its cell's staging full, is counted under
both, so that the counter rises by two.
-/

namespace Sys2Proof.Machine

open Sys2Proof

/-- A port number that no port of the module has. -/
def farPort : Nat := 59556879837

/-- One key for the port's assembly errors and for its cell's staging drops. -/
theorem ckey_farPort : ckey 1 farPort 11 = ckey 14 (cellOf farPort) 11 := by decide

/-- A frame of that port with one byte packed, which has left its cell, and one to pack. -/
def farFrame : Frame := { data := [0, 0], port := farPort, path := .fabric, packed := 1, plan := { copies := [(0, 1)] } }

/-- A module in Run that receives the frame, its cell's ingress staging full: 640 chunks of its own and the 5,248 of the pool. -/
def fullStaging : State :=
  { State.reset with
    crn := { mod := .run }
    cel := [(cellOf farPort, { buf := [(regIngress, 5888)] })]
    frm := { frames := [(0, farFrame)], next := 1 } }

theorem exec_frameEnd_fullStaging : exec (.frameEnd 0 [] .assemblyError) fullStaging =
    .next (fullStaging.endFrame 0 [] .assemblyError) :=
  congrArg Host.Outcome.next (if_pos (by decide))

/-- The assembly error and the drop of the frame's last byte are counted in one place. -/
theorem fullStaging_endFrame_count : (fullStaging.endFrame 0 [] .assemblyError).count 1 farPort 11 = 2 := by decide +kernel

/-- Refutes O39: the counter is to rise from 0 to 1, and it rises to 2. -/
theorem not_frameEnds : ¬ Obligations.FrameEnds := by
  unfold Obligations.FrameEnds
  intro h
  obtain ⟨hend, -⟩ := h
  obtain ⟨t, hexec, -, -, hcounted, -⟩ := hend fullStaging 0 [] .assemblyError farFrame rfl rfl rfl rfl rfl
  obtain rfl := Host.Outcome.next.inj (exec_frameEnd_fullStaging.symm.trans hexec)
  have hone : (fullStaging.endFrame 0 [] .assemblyError).count 1 farPort 11 = 1 := hcounted (by decide) rfl
  rw [fullStaging_endFrame_count] at hone
  exact absurd hone (by decide)

end Sys2Proof.Machine
end

section
/-!
SUPPORT. The work of the tables: what the writing of words anew leaves, and what dynamic writes do (08 R267, R272, R291); and what a
command that sets or deletes several objects leaves of a configuration (04 R137).
-/

namespace Sys2Proof.Machine

open Sys2Proof

/-! ## Objects set one after the other -/

section
variable {β : Type} {f : Cfg → β → Cfg} {l : List β} {k : Nat}

/-- What no item changes stays. -/
theorem tabFind_foldl_of_keeps (h : ∀ x ∈ l, ∀ c, tabFind (f c x) k = tabFind c k) (c : Cfg) :
    tabFind (l.foldl f c) k = tabFind c k :=
  List.foldlRecOn (motive := fun c' => tabFind c' k = tabFind c k) l f rfl fun _ ha x hx => (h x hx _).trans ha

/-- What one item sets and no other changes is as that item sets it. -/
theorem tabFind_foldl_of_sets {x : β} {v : Option (List Word)} (hx : x ∈ l) (hset : ∀ c, tabFind (f c x) k = v)
    (hkeep : ∀ y ∈ l, y ≠ x → ∀ c, tabFind (f c y) k = tabFind c k) (c : Cfg) : tabFind (l.foldl f c) k = v := by
  induction l generalizing c with
  | nil => simp at hx
  | cons y l ih =>
    rw [List.foldl_cons]
    by_cases hl : x ∈ l
    · exact ih hl (fun z hz => hkeep z (List.mem_cons_of_mem y hz)) _
    · obtain rfl : x = y := (List.mem_cons.mp hx).resolve_right hl
      rw [tabFind_foldl_of_keeps fun z hz => hkeep z (List.mem_cons_of_mem x hz) fun h => hl (h ▸ hz)]
      exact hset c

end

section
variable {op : Nat} {obj : Nat → Nat} {ws d : Nat → List Word} {l : List Nat}

/-- Objects that no item names stay. -/
theorem tabFind_foldl_cfgSet_of_not_named {k : Nat} (h : ¬∃ x ∈ l, k = cfgKey op (obj x)) (c : Cfg) :
    tabFind (l.foldl (fun c x => cfgSet op (obj x) (ws x) (d x) c) c) k = tabFind c k :=
  tabFind_foldl_of_keeps (fun x hx => tabFind_cfgSet_other (fun hk => h ⟨x, hx, hk⟩) _ _) c

theorem tabFind_foldl_cfgDel_of_not_named {k : Nat} (h : ¬∃ x ∈ l, k = cfgKey op (obj x)) (c : Cfg) :
    tabFind (l.foldl (fun c x => cfgDel op (obj x) c) c) k = tabFind c k :=
  tabFind_foldl_of_keeps (fun x hx => tabFind_cfgDel_other fun hk => h ⟨x, hx, hk⟩) c

/-- Each of several objects has its words. -/
theorem cfgFind_foldl_cfgSet (hinj : obj.Injective) {x : Nat} (hx : x ∈ l) (c : Cfg) :
    cfgFind (l.foldl (fun c x => cfgSet op (obj x) (ws x) (d x) c) c) op (obj x) = if ws x = d x then none else some (ws x) :=
  tabFind_foldl_of_sets (f := fun c x => cfgSet op (obj x) (ws x) (d x) c) hx
    (fun c => cfgFind_cfgSet_same op (obj x) (ws x) (d x) c) (fun _ _ hy => tabFind_cfgSet_other (fun hk => hy (hinj (cfgKey_inj.mp hk)).symm) _ _) c

theorem cfgWords_foldl_cfgSet_of_mem (hinj : obj.Injective) {x : Nat} (hx : x ∈ l) (c : Cfg) :
    cfgWords (l.foldl (fun c x => cfgSet op (obj x) (ws x) (d x) c) c) op (obj x) (d x) = ws x := by
  rw [cfgWords, cfgFind_foldl_cfgSet hinj hx]
  split
  next h => rw [h]; rfl
  next => rfl

/-- None of several deleted objects is held. -/
theorem cfgFind_foldl_cfgDel (hinj : obj.Injective) {x : Nat} (hx : x ∈ l) (c : Cfg) :
    cfgFind (l.foldl (fun c x => cfgDel op (obj x) c) c) op (obj x) = none :=
  tabFind_foldl_of_sets (f := fun c x => cfgDel op (obj x) c) hx (fun c => cfgFind_cfgDel_same op (obj x) c)
    (fun _ _ hy => tabFind_cfgDel_other fun hk => hy (hinj (cfgKey_inj.mp hk)).symm) c

end

section
variable {op : Nat} {obj : Nat → Nat} {l : List Nat} {f : Cfg → Cfg}

/-- A command that sets several objects stages each and no other. -/
theorem State.stages_sets {ws : Nat → List Word} (hf : ∀ c, f c = l.foldl (fun a k => cfgSet op (obj k) (ws k) [] a) c)
    (hinj : obj.Injective) (hws : ∀ k, ws k ≠ []) (q : Req) (s : State) :
    s.Stages (s.stageBy op q f) op q (fun k => ∃ c ∈ l, k = cfgKey op (obj c)) ∧
      ∀ c ∈ l, cfgFind (s.stageBy op q f).stg.staged op (obj c) = some (ws c) := by
  refine ⟨⟨rfl, rfl, fun k hk => ?_⟩, fun c hc => ?_⟩
  · exact (congrArg (tabFind · k) (hf _)).trans (tabFind_foldl_cfgSet_of_not_named (d := fun _ => []) hk _)
  · exact (congrArg (cfgFind · op (obj c)) (hf _)).trans
      ((cfgFind_foldl_cfgSet (d := fun _ => []) hinj hc _).trans (if_neg (hws c)))

theorem State.stages_deletes (hf : ∀ c, f c = l.foldl (fun a k => cfgDel op (obj k) a) c) (hinj : obj.Injective) (q : Req) (s : State) :
    s.Stages (s.stageBy op q f) op q (fun k => ∃ c ∈ l, k = cfgKey op (obj c)) ∧
      ∀ c ∈ l, cfgFind (s.stageBy op q f).stg.staged op (obj c) = none := by
  refine ⟨⟨rfl, rfl, fun k hk => ?_⟩, fun c hc => ?_⟩
  · exact (congrArg (tabFind · k) (hf _)).trans (tabFind_foldl_cfgDel_of_not_named hk _)
  · exact (congrArg (cfgFind · op (obj c)) (hf _)).trans (cfgFind_foldl_cfgDel hinj hc _)

/-- What a command that deletes several objects answers: NOT_FOUND where one is not held, else it deletes all. -/
def State.deleteObjs (s : State) (op : Nat) (obj : Nat → Nat) (l : List Nat) (q : Req) (f : Cfg → Cfg) : Ans :=
  if l.any (fun k => (cfgFind s.stg.staged op (obj k)).isNone) then { status := stNotFound, st := s }
  else { st := s.stageBy op q f }

theorem State.deleteObjs_missing {s : State} (h : ∃ c ∈ l, cfgFind s.stg.staged op (obj c) = none) (q : Req) :
    s.finish op q (s.deleteObjs op obj l q f) = s.respond op q stNotFound [] := by
  have hmissing : l.any (fun k => (cfgFind s.stg.staged op (obj k)).isNone) = true := by simpa using h
  rw [State.deleteObjs, if_pos hmissing, State.finish_no (by decide) (by decide)]

theorem State.deleteObjs_held {s : State} (h : ∀ c ∈ l, cfgFind s.stg.staged op (obj c) ≠ none) (q : Req) :
    s.finish op q (s.deleteObjs op obj l q f) = (s.stageBy op q f).respond op q stOk [] := by
  have hheld : ¬l.any (fun k => (cfgFind s.stg.staged op (obj k)).isNone) = true := by simpa using h
  rw [State.deleteObjs, if_neg hheld, State.finish_ok]

end

/-! ## What the work of the tables leaves -/

/-- The tables without the absent words; without the rows of L2 entries too; without the units of prefixes; without the dynamic entries and
their rows. -/
def Tbl.sansAbsent (m : Tbl) : Tbl := { m with absent := [] }
def Tbl.sansRows (m : Tbl) : Tbl := { m with absent := [], rowOf := [] }
def Tbl.sansUnits (m : Tbl) : Tbl := { m with absent := [], unitOf := [] }
def Tbl.sansDyn (m : Tbl) : Tbl := { m with absent := [], rowOf := [], dyn := [] }

/-- Work of the tables alone, which keeps `rest` of them: no word becomes absent, no EVT bit is cleared, no live condition begins, and while
no word is absent FLT status stays (08 R291). -/
structure State.TableWork (rest : Tbl → Tbl) (s t : State) : Prop where
  apart : t.apart = s.apart
  rest : rest t.tbl = rest s.tbl
  absent : t.tbl.absent ⊆ s.tbl.absent
  evt : s.EvtStays t
  live : t.flt.live ⊆ s.flt.live
  whole : s.tbl.absent = [] → t.flt = s.flt

section
variable {rest rest' : Tbl → Tbl} {s t u : State}

theorem State.TableWork.refl (s : State) : s.TableWork rest s :=
  ⟨rfl, rfl, List.Subset.refl _, .of_flt rfl, List.Subset.refl _, fun _ => rfl⟩

theorem State.TableWork.trans (h : s.TableWork rest t) (h' : t.TableWork rest u) : s.TableWork rest u where
  apart := h'.apart.trans h.apart
  rest := h'.rest.trans h.rest
  absent := List.Subset.trans h'.absent h.absent
  evt := h.evt.trans h'.evt
  live := List.Subset.trans h'.live h.live
  whole hnone := (h'.whole (List.subset_nil.mp (hnone ▸ h.absent))).trans (h.whole hnone)

theorem State.TableWork.foldl {β : Type} {f : State → β → State} (h : ∀ a x, State.TableWork rest a (f a x)) (l : List β) (s : State) :
    s.TableWork rest (l.foldl f s) :=
  List.foldlRecOn (motive := s.TableWork rest) l f (.refl s) fun a ha x _ => ha.trans (h a x)

/-- Work that keeps more keeps less. -/
theorem State.TableWork.weaken (h : s.TableWork rest t) (hrest : ∀ m, rest' (rest m) = rest' m) : s.TableWork rest' t :=
  { h with rest := by rw [← hrest, h.rest, hrest] }

/-- A change of what the work may change. -/
theorem State.TableWork.of_onTbl {f : Tbl → Tbl} (hrest : rest (f s.tbl) = rest s.tbl) (habsent : (f s.tbl).absent = s.tbl.absent) :
    s.TableWork rest (s.onTbl f) :=
  ⟨rfl, hrest, habsent ▸ List.Subset.refl _, .of_flt rfl, List.Subset.refl _, fun _ => rfl⟩

theorem State.TableWork.eq (h : s.TableWork rest t) : t = { s with tbl := t.tbl, flt := t.flt } := State.eq_of_apart h.apart

end

/-! ## Words that are written anew (08 R291) -/

theorem State.isAbsent_iff {s : State} {u table index : Nat} :
    s.isAbsent u table index = true ↔ (u, table, index) ∈ s.tbl.absent := List.contains_iff_mem

theorem State.endLive_evtStays (src reason : Nat) (s : State) : s.EvtStays (s.endLive src reason) := by
  unfold State.endLive
  split
  · exact State.raise_evtStays _ _
  · exact .of_flt rfl

/-- A word that is written anew is absent no more. -/
theorem State.rewrite_tbl (u table index : Nat) (s : State) : (s.rewrite u table index).tbl =
    { s.tbl with absent := s.tbl.absent.filter fun e => e != (u, table, index) } := by
  dsimp only [State.rewrite]
  split
  · split
    · rfl
    · rw [State.endLive_tbl]; rfl
  next habsent =>
    have hkept : s.tbl.absent.filter (fun e => e != (u, table, index)) = s.tbl.absent :=
      List.filter_eq_self.mpr fun e he => bne_iff_ne.mpr fun heq => habsent (State.isAbsent_iff.mpr (heq ▸ he))
    rw [hkept]

theorem State.rewrite_present {u table index : Nat} {s : State} (h : s.isAbsent u table index = false) :
    s.rewrite u table index = s := if_neg (by rw [h]; decide)

theorem State.rewrite_evtStays (u table index : Nat) (s : State) : s.EvtStays (s.rewrite u table index) := by
  dsimp only [State.rewrite]
  split
  · split
    · exact .of_flt rfl
    · exact (State.EvtStays.of_flt (State.onTbl_flt _ s)).trans (State.endLive_evtStays _ _ _)
  · exact .of_flt rfl

theorem State.rewrite_work (u table index : Nat) (s : State) : s.TableWork Tbl.sansAbsent (s.rewrite u table index) where
  apart := State.rewrite_apart u table index s
  rest := by rw [State.rewrite_tbl]; rfl
  absent := by rw [State.rewrite_tbl]; exact List.filter_subset_self _
  evt := State.rewrite_evtStays u table index s
  live := State.rewrite_live_subset u table index s
  whole hnone := by rw [State.rewrite_present (by rw [State.isAbsent, hnone]; rfl)]

theorem State.rewriteAll_work (u table : Nat) (l : List Nat) (s : State) : s.TableWork Tbl.sansAbsent (s.rewriteAll u table l) :=
  .foldl (fun a w => State.rewrite_work u table w a) l s

/-- Where none of the words is absent nothing changes. -/
theorem State.rewriteAll_present {u table : Nat} {l : List Nat} {s : State} (h : ∀ w ∈ l, s.isAbsent u table w = false) :
    s.rewriteAll u table l = s :=
  List.foldlRecOn (motive := fun a => a = s) l _ rfl fun a ha w hw => by rw [ha, State.rewrite_present (h w hw)]

/-! ## Entries and prefixes that come to stand in words (08 R267, R282, R285) -/

theorem State.l2Put_work (i : Nat) (s : State) : s.TableWork Tbl.sansRows (s.l2Put i) :=
  (State.TableWork.of_onTbl rfl rfl).trans ((State.rewriteAll_work ..).weaken fun _ => rfl)

theorem State.prefixPut_work (i : Nat) (s : State) : s.TableWork Tbl.sansUnits (s.prefixPut i) := by
  unfold State.prefixPut
  extract_lets place items used put t l
  have ht : s.TableWork Tbl.sansUnits t := .of_onTbl rfl rfl
  split
  · exact ht.trans ((State.TableWork.foldl (fun a r => State.rewriteAll_work (64 + r) tTrie l a) _ t).weaken fun _ => rfl)
  · exact ht.trans ((State.rewriteAll_work ..).weaken fun _ => rfl)

/-! ## Dynamic writes (08 R272) -/

theorem State.dynFree_work (obj : Nat) (s : State) : s.TableWork Tbl.sansDyn (s.dynFree obj) :=
  (State.TableWork.of_onTbl rfl rfl).trans ((State.rewriteAll_work ..).weaken fun _ => rfl)

/-- The entry has left. -/
theorem State.dynFree_dyn (obj : Nat) (s : State) : (s.dynFree obj).tbl.dyn = tabDel obj s.tbl.dyn :=
  congrArg Tbl.dyn (State.rewriteAll_work ..).rest

theorem State.dynMake_work (cell fid mac : Nat) (dest : Option Nat) (s : State) :
    s.TableWork Tbl.sansDyn (s.dynMake cell fid mac dest).2 := by
  dsimp only [State.dynMake]
  split
  · exact State.dynFree_work ..
  · split
    · split
      · exact (State.TableWork.of_onTbl rfl rfl).trans ((State.l2Put_work ..).weaken fun _ => rfl)
      · exact .refl s
    · exact (State.TableWork.of_onTbl rfl rfl).trans ((State.rewriteAll_work ..).weaken fun _ => rfl)

/-- Dynamic writes, made or held: Cairn, the configuration and the cells apart from what they store stay, of the tables all but the dynamic
entries and their words, and no EVT bit is cleared. -/
structure State.DynWork (s t : State) : Prop where
  anchor : t.anchor = s.anchor
  rest : t.tbl.sansDyn = s.tbl.sansDyn
  evt : s.EvtStays t

section
variable {s t u : State}

theorem State.DynWork.refl (s : State) : s.DynWork s := ⟨rfl, rfl, .of_flt rfl⟩

theorem State.DynWork.trans (h : s.DynWork t) (h' : t.DynWork u) : s.DynWork u :=
  ⟨h'.anchor.trans h.anchor, h'.rest.trans h.rest, h.evt.trans h'.evt⟩

theorem State.DynWork.foldl {β : Type} {f : State → β → State} (h : ∀ a x, State.DynWork a (f a x)) (l : List β) (s : State) :
    s.DynWork (l.foldl f s) :=
  List.foldlRecOn (motive := s.DynWork) l f (.refl s) fun a ha x _ => ha.trans (h a x)

theorem State.DynWork.stg (h : s.DynWork t) : t.stg = s.stg := congrArg Anchor.stg h.anchor
theorem State.DynWork.master (h : s.DynWork t) : t.tbl.master = s.tbl.master := (congrArg Tbl.master h.rest :)
theorem State.DynWork.reports (h : s.DynWork t) : t.tbl.reports = s.tbl.reports := (congrArg Tbl.reports h.rest :)

theorem State.DynWork.cell_st (h : s.DynWork t) (c : Nat) : (t.cell c).st = (s.cell c).st :=
  congrArg (fun a : Anchor => (a.cell c).st) h.anchor

theorem State.DynWork.cell_resetting (h : s.DynWork t) (c : Nat) : (t.cell c).resetting = (s.cell c).resetting :=
  congrArg (fun a : Anchor => (a.cell c).resetting) h.anchor

end

/-- What a cell holds for its wake changes. -/
theorem State.onCell_held_work (c : Nat) (f : List DynWrite → List DynWrite) (s : State) :
    s.DynWork (s.onCell c fun x => { x with held := f x.held }) :=
  ⟨State.onCell_anchor fun _ => rfl, rfl, .of_flt rfl⟩

/-- A dynamic write is left to firmware, held, or made. -/
theorem State.dynWrite_cases (cell fid mac : Nat) (dest : Option Nat) (ev : Nat × Nat × Nat) (s : State) :
    (s.dynWrite cell fid mac dest ev).2 = s ∨
      (∃ f : List DynWrite → List DynWrite, (s.dynWrite cell fid mac dest ev).2 = s.onCell cell fun x => { x with held := f x.held }) ∨
      (s.dynWrite cell fid mac dest ev).2 = (s.dynMake cell fid mac dest).2 := by
  let h : DynWrite := { fid := fid, mac := mac, dest := dest, ev := ev, late := decide (1024 ≤ (s.cell cell).held.length) }
  dsimp only [State.dynWrite]
  split
  · exact .inl rfl
  · exact .inr (.inl ⟨(· ++ [h]), rfl⟩)
  · exact .inr (.inl ⟨(· ++ [h]), rfl⟩)
  · split
    · exact .inr (.inl ⟨(· ++ [h]), rfl⟩)
    · exact .inr (.inr rfl)

/-- A cell that runs and is not in reset makes the write. -/
theorem State.dynWrite_run {cell : Nat} {s : State} (hst : (s.cell cell).st = .run) (hr : (s.cell cell).resetting = false)
    (fid mac : Nat) (dest : Option Nat) (ev : Nat × Nat × Nat) :
    s.dynWrite cell fid mac dest ev = s.dynMake cell fid mac dest := by
  dsimp only [State.dynWrite]
  rw [hst, hr]
  rfl

theorem State.dynWrite_work (cell fid mac : Nat) (dest : Option Nat) (ev : Nat × Nat × Nat) (s : State) :
    s.DynWork (s.dynWrite cell fid mac dest ev).2 := by
  rcases State.dynWrite_cases cell fid mac dest ev s with h | ⟨f, h⟩ | h
  · rw [h]; exact .refl s
  · rw [h]; exact State.onCell_held_work cell f s
  · rw [h]
    have hwork := State.dynMake_work cell fid mac dest s
    exact ⟨State.dynMake_anchor .., hwork.rest, hwork.evt⟩

theorem State.install_work (l : List Nat) (fid mac dest : Nat) (ev : Nat × Nat × Nat) (s : State) :
    s.DynWork (s.install l fid mac dest ev).2.2 := by
  refine List.foldlRecOn (motive := fun a : List Nat × Bool × State => s.DynWork a.2.2) l _ (.refl s) fun a ha k _ => ?_
  have hwrite := ha.trans (State.dynWrite_work k fid mac (some dest) ev a.2.2)
  dsimp only
  split
  · exact hwrite
  · exact hwrite
  · exact hwrite

/-! ## The KIND 0 event (08 R275) -/

section
variable (ty cell fid mac new old cells outcome port : Nat) (own : Bool) (s : State)

theorem State.learnEvent_tbl : (s.learnEvent ty cell fid mac new old cells outcome port own).tbl = s.tbl := State.kindEvent_tbl ..
theorem State.learnEvent_cel : (s.learnEvent ty cell fid mac new old cells outcome port own).cel = s.cel := State.kindEvent_cel ..
theorem State.learnEvent_stg : (s.learnEvent ty cell fid mac new old cells outcome port own).stg = s.stg := State.kindEvent_stg ..

/-- It sets EVT of its cell's source. -/
theorem State.learnEvent_evt : (s.learnEvent ty cell fid mac new old cells outcome port own).flt.evt =
    s.flt.evt ||| srcMask (1024 + cell) := by
  simp [State.learnEvent, State.kindEvent, State.noteEvt]

end

end Sys2Proof.Machine
end

section
/-!
PROOF of Tables (O20): what the commands of 08 R295, R300 and R301 stage, and the writes and deletes of L2 entries and prefixes (08 R284,
R296, R299).
-/

namespace Sys2Proof.Machine

open Sys2Proof

/-! ## Fields and operands -/

/-- The cells that a command names are well given: none with AUTO, some without. -/
theorem cells_given {auto cells : Nat} (hauto : auto = 1 → cells = 0) (hcells : auto ≠ 1 → cells ≠ 0) :
    (if (auto == 1) = true then cells != 0 else cells == 0) = false := by
  by_cases h : auto = 1
  · simp [h, hauto h]
  · simp [h, hcells h]

/-- Half-words of the words from word i on are half-words of the list. -/
theorem halves_congr {v w : List Word} {i j n : Nat} (h : ∀ k, k < (n + 1) / 2 → wordAt v (i + k) = wordAt w (j + k)) :
    halves v i n = halves w j n := by
  refine List.map_congr_left fun k hk => ?_
  rw [List.mem_range] at hk
  rw [h (k / 2) (by omega)]

/-- Word k of the words that a command copies from its payload. -/
theorem wordAt_map_range {f : Nat → Word} {k n : Nat} (h : k < n) : wordAt ((List.range n).map f) k = f k := by
  rw [wordAt, List.getD_eq_getElem?_getD, List.getElem?_map, List.getElem?_range h]
  rfl

/-! ## TBL_VLAN_SET, TBL_PORT_SET, TBL_NEXTHOP_SET and TBL_ROUTER_MAC (08 R295, R300) -/

section
variable {s : State} {r q : Req}

theorem exec_tblVlanSet (h : s.Accepts 0x0501 r q) (h4 : q.f 4 31 31 = 0) (h5 : q.f 5 31 18 = 0) (hlo : q.f 4 11 0 ≠ 0)
    (hhi : q.f 4 11 0 ≠ 4095) (hflood : q.f 5 1 0 ≠ 3) (hplace : q.f 5 3 2 ≠ 3) (he : q.ExtSize 2) :
    exec (.tblVlanSet r) s = .next (s.finish 0x0501 q
      (if !s.img.policy.placePermit.testBit (q.f 5 3 2) then { status := stRefused, st := s }
      else { st := s.stageBy 0x0501 q (setVlan q) })) :=
  mailbox_runs h (by simp [Req.rsv, *]) rfl (by simp) (by simpa using he) (by simp) rfl rfl

theorem exec_tblPortSet (h : s.Accepts 0x0502 r q) (h4 : q.f 4 31 23 = 0) (he : q.ExtSize 1) :
    exec (.tblPortSet r) s = .next (s.finish 0x0502 q
      (if !isPort s.stg.staged (q.f 4 9 0) then { status := stNotFound, st := s }
      else { st := s.stageBy 0x0502 q (setTblPort q) })) :=
  mailbox_runs h (by simp [Req.rsv, h4]) rfl (by simp) (by simpa using he) (by simp) rfl rfl

theorem exec_tblNexthopSet (h : s.Accepts 0x0521 r q) (h4 : q.f 4 31 17 = 0) (h5 : q.f 5 31 28 = 0) (h7 : q.f 7 31 16 = 0)
    (hkind : destKind (q.f 5 15 0) ≤ 1) (hdest : destInRange s.stg.staged (q.f 5 15 0) = true) (he : q.ExtSize 4) :
    exec (.tblNexthopSet r) s = .next ((s.stageBy 0x0521 q (setNexthop q)).respond 0x0521 q stOk []) :=
  (mailbox_runs h (by simp [Req.rsv, *]) rfl (by simp) (by simpa using he) (by simp) rfl rfl).trans
    (congrArg _ State.finish_ok)

theorem exec_tblRouterMac (h : s.Accepts 0x0522 r q) (h5 : q.f 5 31 16 = 0) (hgroup : (q.w 5).toNat / 256 % 2 = 0) (he : q.ExtSize 2) :
    exec (.tblRouterMac r) s = .next ((s.stageBy 0x0522 q (setRouterMac q)).respond 0x0522 q stOk []) :=
  (mailbox_runs h (by simp [Req.rsv, *]) rfl (by simp) (by simpa using he) (by simp) rfl rfl).trans
    (congrArg _ State.finish_ok)

end

/-- What is set for a port is read back. -/
theorem setTblPort_reads (q : Req) (c : Cfg) : pvid (setTblPort q c) (q.f 4 9 0) = q.f 4 21 10 ∧
    (portLearn (setTblPort q c) (q.f 4 9 0) = true ↔ q.f 4 22 22 = 1) := by
  have hwords : cfgWords (setTblPort q c) 0x0502 (q.f 4 9 0) (tblPortDefault (q.f 4 9 0)) = [q.w 4] := cfgWords_cfgSet_same ..
  constructor
  · rw [pvid, hwords]; rfl
  · rw [portLearn, hwords]; exact beq_iff_eq

theorem setRouterMac_reads (q : Req) (c : Cfg) : routerMac (setRouterMac q c) = q.f64 4 := by
  have hwords : cfgWords (setRouterMac q c) 0x0522 0 [0, 0] = [q.w 4, q.w 5] := cfgWords_cfgSet_same ..
  rw [routerMac, hwords]; rfl

/-! ## TBL_GROUP_SET, TBL_HASH_KEY and TBL_MCAST_SET (08 R300, R301) -/

section
variable {s : State} {r q : Req}

theorem exec_tblGroupSet (h : s.Accepts 0x0530 r q) (h4 : q.f 4 31 20 = 0) (h5 : q.f 5 31 8 = 0) (hlo : 1 ≤ q.f 4 19 13)
    (hhi : q.f 4 19 13 ≤ 64) (hridges : q.f 5 7 0 ≠ 0)
    (hports : q.f 4 12 12 = 1 → ∀ p ∈ halves q.payload 2 (q.f 4 19 13), isPort s.stg.staged p = true)
    (he : q.ExtSize (2 + (q.f 4 19 13 + 1) / 2)) :
    exec (.tblGroupSet r) s = .next ((s.stageBy 0x0530 q (setGroup q)).respond 0x0530 q stOk []) := by
  have hmembers : (q.f 4 12 12 == 1 && (halves q.payload 2 (q.f 4 19 13)).any fun p => !isPort s.stg.staged p) = false := by
    rw [Bool.and_eq_false_imp, beq_iff_eq]
    exact fun hlag => List.any_eq_false.mpr fun p hp => by simp [hports hlag p hp]
  refine (mailbox_runs h ?_ rfl (by simp) (by simpa using he) (by simp) rfl rfl).trans (congrArg _ State.finish_ok)
  dsimp only
  rw [hmembers]
  simp [Req.rsv, inRange, *]

theorem exec_tblHashKey (h : s.Accepts 0x0531 r q) (h6 : q.f 6 31 8 = 0) (hridges : q.f 6 7 0 ≠ 0) (he : q.ExtSize 3) :
    exec (.tblHashKey r) s = .next ((s.stageBy 0x0531 q (setHashKey q)).respond 0x0531 q stOk []) :=
  (mailbox_runs h (by simp [Req.rsv, *]) rfl (by simp) (by simpa using he) (by simp) rfl rfl).trans
    (congrArg _ State.finish_ok)

theorem exec_tblMcastSet (h : s.Accepts 0x0540 r q) (h4 : q.f 4 31 21 = 0) (hhi : q.f 4 20 14 ≤ 64)
    (he : q.ExtSize (1 + (q.f 4 20 14 + 1) / 2))
    (hmembers : ∀ d ∈ halves q.payload 1 (q.f 4 20 14), destKind d ≤ 1 ∧ destInRange s.stg.staged d = true ∧
      (destKind d = 1 → ∀ k, k < 8 → groupWords s.stg.staged (destId d) k = [] ∨ groupIsLag s.stg.staged (destId d) k = true)) :
    exec (.tblMcastSet r) s = .next ((s.stageBy 0x0540 q (setMcast q)).respond 0x0540 q stOk []) := by
  refine (mailbox_runs h ?_ rfl (by simp) (by simpa using he) (by simp) rfl rfl).trans (congrArg _ State.finish_ok)
  simp only [Req.rsv, List.any_cons, List.any_nil, h4, bne_self_eq_false, Bool.false_or, Bool.or_eq_false_iff, decide_eq_false_iff_not,
    not_lt, hhi, true_and, List.any_eq_false]
  intro d hd
  obtain ⟨hkind, hrange, hlag⟩ := hmembers d hd
  simp only [hrange, Bool.not_true, Bool.or_false, Bool.or_eq_true, decide_eq_true_eq, Bool.and_eq_true, beq_iff_eq, not_or, not_and,
    not_lt, hkind, true_and, List.any_eq_true, List.mem_range, not_exists, bne_iff_ne, ne_eq, Bool.not_eq_true', Bool.not_eq_false]
  exact fun h1 k hk => (hlag h1 k hk).resolve_left

end

/-- An object of a group in each ridge. -/
theorem groupObj_injective (g : Nat) : (groupObj g).Injective := fun a b h => by
  simp only [groupObj] at h
  omega

theorem setGroup_words {q : Req} {d : Nat} (hd : d < 8) (hridge : (q.f 5 7 0).testBit d = true) (c : Cfg) :
    groupWords (setGroup q c) (q.f 4 11 0) d =
      [q.w 4, wd (2 ^ d)] ++ (List.range ((q.f 4 19 13 + 1) / 2)).map fun i => q.w (6 + i) :=
  cfgWords_foldl_cfgSet_of_mem (d := fun _ => []) (groupObj_injective _) (mem_bitsOf.mpr ⟨hd, hridge⟩) c

theorem setGroup_reads {q : Req} {d : Nat} (hd : d < 8) (hridge : (q.f 5 7 0).testBit d = true) (c : Cfg) :
    (groupIsLag (setGroup q c) (q.f 4 11 0) d = true ↔ q.f 4 12 12 = 1) ∧
      groupMembers (setGroup q c) (q.f 4 11 0) d = halves q.payload 2 (q.f 4 19 13) := by
  have hwords := setGroup_words hd hridge c
  constructor
  · rw [groupIsLag, hwords]; exact beq_iff_eq
  · rw [groupMembers, hwords]
    refine halves_congr fun k hk => ?_
    rw [Nat.add_comm 2 k]
    exact (wordAt_map_range hk).trans (congrArg (wordAt q.payload) (by omega))

theorem setHashKey_reads {q : Req} {d : Nat} (hd : d < 8) (hridge : (q.f 6 7 0).testBit d = true) (c : Cfg) :
    hashKey (setHashKey q c) d = q.f64 4 := by
  have hwords : cfgWords (setHashKey q c) 0x0531 d (hashKeyDefault d) = [q.w 4, q.w 5, wd (2 ^ d)] :=
    cfgWords_foldl_cfgSet_of_mem (d := hashKeyDefault) (obj := id) Function.injective_id (mem_bitsOf.mpr ⟨hd, hridge⟩) c
  rw [hashKey, hwords]; rfl

theorem setMcast_reads (q : Req) (c : Cfg) : mcastMembers (setMcast q c) (q.f 4 13 0) = halves q.payload 1 (q.f 4 20 14) := by
  have hwords : cfgWords (setMcast q c) 0x0540 (q.f 4 13 0) (mcastDefault (q.f 4 13 0)) =
      q.w 4 :: (List.range ((q.f 4 20 14 + 1) / 2)).map fun i => q.w (5 + i) := cfgWords_cfgSet_same ..
  rw [mcastMembers, hwords]
  refine halves_congr fun k hk => ?_
  rw [Nat.add_comm 1 k]
  exact (wordAt_map_range hk).trans (congrArg (wordAt q.payload) (by omega))

/-- What names ridges sets its object in each of them and in no other. -/
theorem ridges_named {op : Nat} {obj : Nat → Nat} {m k : Nat} (h : ¬∃ d, d < 8 ∧ m.testBit d = true ∧ k = cfgKey op (obj d)) :
    ¬∃ d ∈ bitsOf 8 m, k = cfgKey op (obj d) := by
  rintro ⟨d, hd, hk⟩
  obtain ⟨hlt, hbit⟩ := mem_bitsOf.mp hd
  exact h ⟨d, hlt, hbit, hk⟩

/-! ## TBL_L2_WRITE (08 R296) -/

/-- The object of the entry that TBL_L2_WRITE names, in a cell, and the cells. -/
def l2Named (q : Req) (c : Nat) : Nat := l2Obj (q.f 4 11 0) (join (q.w 5) (q.w 6) % 2 ^ 48) c
def l2Cells (q : Req) : List Nat := namedCells (q.f 4 13 13 == 1) (q.f64 7)

theorem l2Named_injective (q : Req) : (l2Named q).Injective := fun _ _ h => Nat.add_left_cancel h

theorem setL2_delete {q : Req} (h : q.f 4 12 12 = 1) (c : Cfg) :
    setL2 q c = (l2Cells q).foldl (fun a k => cfgDel 0x0510 (l2Named q k) a) c := by
  simp only [setL2, h, if_true]; rfl

theorem setL2_write {q : Req} (h : q.f 4 12 12 = 0) (c : Cfg) : setL2 q c = (l2Cells q).foldl (fun a k =>
    cfgSet 0x0510 (l2Named q k) ([wd (q.f 4 11 0), q.w 5, q.w 6] ++ two (2 ^ k)) [] a) c := by
  simp only [setL2, h, Nat.zero_ne_one, if_false]; rfl

/-- What TBL_L2_WRITE answers to an entry that it is to write. -/
def State.l2Write (s : State) (q : Req) : Ans :=
  if (l2Cells q).any (fun k => (s.sides k).any fun c => (cfgFind c 0x0510 (l2Named q k)).isSome) then { status := stExists, st := s }
  else if (l2Cells q).any (fun k => !s.l2Room k (l2Item (l2Named q k) true)) then { status := stNoSpace, st := s }
  else { st := (l2Cells q).foldl (fun a k => a.l2Put (l2Item (l2Named q k) true)) (s.stageBy 0x0510 q (setL2 q)) }

section
variable {s : State} {r q : Req} (h : s.Accepts 0x0510 r q) (h4 : q.f 4 31 14 = 0) (hfid : q.f 4 11 0 ≠ 0)
  (hauto : q.f 4 13 13 = 1 → q.f64 7 = 0) (hcells : q.f 4 13 13 ≠ 1 → q.f64 7 ≠ 0) (he : q.ExtSize 5)
include h h4 hfid hauto hcells he

theorem exec_tblL2Write_delete (hdel : q.f 4 12 12 = 1) (hdest : q.f 6 31 16 = 0) : exec (.tblL2Write r) s =
    .next (s.finish 0x0510 q (s.deleteObjs 0x0510 (l2Named q) (l2Cells q) q (setL2 q))) := by
  refine (mailbox_runs h ?_ rfl (by simp) (by simpa using he) (by simp) rfl rfl).trans ?_
  · dsimp only
    rw [cells_given hauto hcells]
    simp [Req.rsv, h4, hfid, hdel, hdest]
  · exact congrArg (fun a => Host.Outcome.next (s.finish 0x0510 q a)) (if_pos hdel)

theorem exec_tblL2Write_write (hdel : q.f 4 12 12 = 0) (hdest : destInRange s.stg.staged (q.f 6 31 16) = true)
    (hlag : destKind (q.f 6 31 16) = 1 → ∀ c ∈ l2Cells q, groupIsLag s.stg.staged (destId (q.f 6 31 16)) (c / 8) = true) :
    exec (.tblL2Write r) s = .next (s.finish 0x0510 q (s.l2Write q)) := by
  have hgroups : (destKind (q.f 6 31 16) == 1 && (namedCells (q.f 4 13 13 == 1) (q.f64 7)).any fun k =>
      !groupIsLag s.stg.staged (destId (q.f 6 31 16)) (ridgeOf k)) = false := by
    rw [Bool.and_eq_false_imp, beq_iff_eq]
    exact fun hkind => List.any_eq_false.mpr fun c hc => by simp [ridgeOf, hlag hkind c hc]
  refine (mailbox_runs h ?_ rfl (by simp) (by simpa using he) (by simp) rfl rfl).trans ?_
  · dsimp only
    rw [cells_given hauto hcells, hgroups]
    simp [Req.rsv, h4, hfid, hdel, hdest]
  · exact congrArg (fun a => Host.Outcome.next (s.finish 0x0510 q a)) (if_neg (by rw [hdel]; decide))

end

section
variable {s : State} {q : Req}

theorem State.l2Write_exists (h : ∃ c ∈ l2Cells q, ∃ side ∈ s.sides c, cfgFind side 0x0510 (l2Named q c) ≠ none) :
    s.l2Write q = { status := stExists, st := s } := by
  obtain ⟨c, hc, side, hside, hheld⟩ := h
  exact if_pos (List.any_eq_true.mpr ⟨c, hc, List.any_eq_true.mpr ⟨side, hside, Option.isSome_iff_ne_none.mpr hheld⟩⟩)

/-- Below the guaranteed fill a new entry is staged and placed. -/
theorem State.l2Write_new (hnew : ∀ c ∈ l2Cells q, ¬∃ side ∈ s.sides c, cfgFind side 0x0510 (l2Named q c) ≠ none)
    (hroom : ∀ c ∈ l2Cells q, s.l2Count c < 58982) : s.l2Write q =
      { st := (l2Cells q).foldl (fun a k => a.l2Put (l2Item (l2Named q k) true)) (s.stageBy 0x0510 q (setL2 q)) } := by
  have hfree : (l2Cells q).any (fun k => (s.sides k).any fun c => (cfgFind c 0x0510 (l2Named q k)).isSome) = false :=
    List.any_eq_false.mpr fun c hc hany => by
      obtain ⟨side, hside, hheld⟩ := List.any_eq_true.mp hany
      exact hnew c hc ⟨side, hside, Option.isSome_iff_ne_none.mp hheld⟩
  have hfits : (l2Cells q).any (fun k => !s.l2Room k (l2Item (l2Named q k) true)) = false :=
    List.any_eq_false.mpr fun c hc => by simp [State.l2Room, Nat.succ_le_of_lt (hroom c hc)]
  rw [State.l2Write, hfree, hfits]
  rfl

end

/-! ## TBL_ROUTE_WRITE (08 R284, R299) -/

theorem routeAt_injective (q : Req) : (routeAt q).Injective := fun _ _ h => Nat.add_left_cancel h

theorem setRoute_delete {q : Req} (h : q.f 4 14 14 = 1) (c : Cfg) :
    setRoute q c = (routePlaces q).foldl (fun a k => cfgDel 0x0520 (routeAt q k) a) c := by
  simp only [setRoute, h, if_true]

theorem setRoute_write {q : Req} (h : q.f 4 14 14 = 0) (c : Cfg) :
    setRoute q c = (routePlaces q).foldl (fun a k => cfgSet 0x0520 (routeAt q k) (routeWords q k) [] a) c := by
  simp only [setRoute, h, Nat.zero_ne_one, if_false]

/-- The route that TBL_ROUTE_WRITE writes at a place, as what stands in words. -/
def routeItem (q : Req) (k : Nat) : Nat := prefixItem (routeAt q k) (routeWords q k)

/-- A ninth length under one index of a cell's length-presence map (08 R284). -/
def State.ninthLength (s : State) (q : Req) (k : Nat) : Bool :=
  let n := s.v6Lengths k (wordsNat [q.w 5, q.w 6, q.w 7, q.w 8] / 2 ^ 112)
  q.f 4 4 4 == 1 && !n.contains (q.f 4 12 5) && decide (8 ≤ n.length)

/-- No room for a route in some cell, or in the tries. -/
def State.routeFull (s : State) (q : Req) : Bool :=
  if longPrefix (q.f 4 4 4) (q.f 4 12 5) then (routePlaces q).any fun k => !s.longRoom k (routeItem q k) || s.ninthLength q k
  else decide (1048576 < s.trieUnits + 1 + q.f 4 4 4)

/-- What TBL_ROUTE_WRITE answers to a route that it is to write. -/
def State.routeWrite (s : State) (q : Req) : Ans :=
  if (routePlaces q).any (fun k => (cfgFind s.stg.staged 0x0520 (routeAt q k)).isSome) then { status := stExists, st := s }
  else if s.routeFull q then { status := stNoSpace, st := s }
  else { st := (routePlaces q).foldl (fun a k => a.prefixPut (routeItem q k)) (s.stageBy 0x0520 q (setRoute q)) }

section
variable {s : State} {r q : Req} (h : s.Accepts 0x0520 r q) (h4 : q.f 4 31 15 = 0) (h9 : q.f 9 31 19 = 0) (he : q.ExtSize 8)
  (hlen : q.f 4 12 5 ≤ famBits (q.f 4 4 4)) (hv4 : q.f 4 4 4 = 0 → wordsNat [q.w 5, q.w 6, q.w 7, q.w 8] < 2 ^ 32)
  (hhost : wordsNat [q.w 5, q.w 6, q.w 7, q.w 8] % 2 ^ (famBits (q.f 4 4 4) - q.f 4 12 5) = 0)
  (hauto : longPrefix (q.f 4 4 4) (q.f 4 12 5) = true → q.f 4 13 13 = 1 → q.f64 10 = 0)
  (hcells : longPrefix (q.f 4 4 4) (q.f 4 12 5) = true → q.f 4 13 13 ≠ 1 → q.f64 10 ≠ 0)
  (htries : ¬longPrefix (q.f 4 4 4) (q.f 4 12 5) = true → q.f64 10 = 0)
include h h4 h9 he hlen hv4 hhost hauto hcells htries

/-- A well-formed route is INVALID for its result alone. -/
theorem exec_tblRouteWrite (hty : q.f 9 2 0 ≤ 3)
    (hresult : (if q.f 4 14 14 = 1 then q.f 9 2 0 != 0 || q.f 9 18 3 != 0 else
      ((q.f 9 2 0 == 0 || q.f 9 2 0 == 3) && q.f 9 18 3 != 0) || (q.f 9 2 0 == 2 && decide (4095 < q.f 9 18 3))) = false) :
    exec (.tblRouteWrite r) s = .next (s.finish 0x0520 q
      (if q.f 4 14 14 = 1 then s.deleteObjs 0x0520 (routeAt q) (routePlaces q) q (setRoute q) else s.routeWrite q)) := by
  refine mailbox_runs h ?_ rfl (by simp) (by simpa using he) (by simp) rfl rfl
  have hbound : (q.f 4 4 4 == 0 && decide (2 ^ 32 ≤ wordsNat [q.w 5, q.w 6, q.w 7, q.w 8])) = false := by
    rw [Bool.and_eq_false_imp, beq_iff_eq]
    exact fun hfam => decide_eq_false (Nat.not_le.mpr (hv4 hfam))
  have hplaces : (if longPrefix (q.f 4 4 4) (q.f 4 12 5) = true then
      (if (q.f 4 13 13 == 1) = true then q.f64 10 != 0 else q.f64 10 == 0) else q.f64 10 != 0) = false := by
    split
    next hlong => exact cells_given (hauto hlong) (hcells hlong)
    next hlong => exact bne_eq_false_iff_eq.mpr (htries hlong)
  dsimp only
  rw [hplaces, hresult, hbound, hhost, decide_eq_false (Nat.not_lt.mpr hlen), decide_eq_false (Nat.not_lt.mpr hty)]
  simp [Req.rsv, h4, h9]

end

theorem wordsNat_four_lt (a b c d : Word) : wordsNat [a, b, c, d] < 2 ^ 128 := by
  simp only [wordsNat]
  omega

/-- The item of a route has its family. -/
theorem routeFam_routeItem (q : Req) {k : Nat} (hk : k < 128) : routeFam (itemRoute (routeItem q k)) = q.f 4 4 4 := by
  have hitem : itemRoute (routeItem q k) = routeAt q k := by
    simp only [itemRoute, routeItem, prefixItem]
    omega
  have haddr := wordsNat_four_lt (q.w 5) (q.w 6) (q.w 7) (q.w 8)
  have hlen : q.f 4 12 5 < 256 := Nat.mod_lt _ (by decide)
  have hfam : q.f 4 4 4 < 2 := Nat.mod_lt _ (by decide)
  rw [hitem, routeAt]
  generalize wordsNat [q.w 5, q.w 6, q.w 7, q.w 8] = addr at haddr
  simp only [routeFam, routeObj]
  omega

/-- Named cells are numbers of cells. -/
theorem namedCells_lt {auto : Bool} {m c : Nat} (h : c ∈ namedCells auto m) : c < 64 := by
  unfold namedCells at h
  split at h
  · exact List.mem_range.mp h
  · exact (mem_bitsOf.mp h).1

theorem routePlaces_lt {q : Req} {k : Nat} (h : k ∈ routePlaces q) : k < 128 := by
  unfold routePlaces at h
  split at h
  · exact (namedCells_lt h).trans (by decide)
  · rw [List.mem_singleton.mp h]; decide

section
variable {s : State} {q : Req}

theorem State.routeWrite_exists (h : ∃ c ∈ routePlaces q, cfgFind s.stg.staged 0x0520 (routeAt q c) ≠ none) :
    s.routeWrite q = { status := stExists, st := s } := by
  obtain ⟨c, hc, hheld⟩ := h
  exact if_pos (List.any_eq_true.mpr ⟨c, hc, Option.isSome_iff_ne_none.mpr hheld⟩)

/-- A route within the guaranteed fill has room. -/
theorem State.routeFull_eq_false (htrie : ¬longPrefix (q.f 4 4 4) (q.f 4 12 5) = true → s.trieUnits + 1 + q.f 4 4 4 ≤ 1048576)
    (hlong : longPrefix (q.f 4 4 4) (q.f 4 12 5) = true → ∀ c ∈ routePlaces q, s.longUnits c + 1 + q.f 4 4 4 ≤ 26214 ∧
      (q.f 4 4 4 = 1 → (s.v6Lengths c (wordsNat [q.w 5, q.w 6, q.w 7, q.w 8] / 2 ^ 112)).length < 8)) :
    s.routeFull q = false := by
  unfold State.routeFull
  split
  next hl =>
    refine List.any_eq_false.mpr fun c hc => ?_
    obtain ⟨hunits, hlengths⟩ := hlong hl c hc
    have hroom : s.longRoom c (routeItem q c) = true := by
      rw [State.longRoom, routeFam_routeItem q (routePlaces_lt hc), decide_eq_true hunits, Bool.true_or]
    have hninth : s.ninthLength q c = false := by
      dsimp only [State.ninthLength]
      by_cases hfam : q.f 4 4 4 = 1
      · rw [decide_eq_false (Nat.not_le.mpr (hlengths hfam)), Bool.and_false]
      · rw [beq_false_of_ne hfam, Bool.false_and, Bool.false_and]
    rw [hroom, hninth]
    decide
  next hl => exact decide_eq_false (Nat.not_lt.mpr (htrie hl))

/-- A new route with room is staged and placed. -/
theorem State.routeWrite_new (hnew : ∀ c ∈ routePlaces q, cfgFind s.stg.staged 0x0520 (routeAt q c) = none)
    (hroom : s.routeFull q = false) : s.routeWrite q =
      { st := (routePlaces q).foldl (fun a k => a.prefixPut (routeItem q k)) (s.stageBy 0x0520 q (setRoute q)) } := by
  have hfree : (routePlaces q).any (fun k => (cfgFind s.stg.staged 0x0520 (routeAt q k)).isSome) = false :=
    List.any_eq_false.mpr fun c hc => by simp [hnew c hc]
  rw [State.routeWrite, hfree, hroom]
  rfl

end

/-- Entries and prefixes that come to stand in words leave everything but those words, the words that were absent, and FLT. -/
theorem State.l2Puts_work (item : Nat → Nat) (l : List Nat) (s : State) :
    s.TableWork Tbl.sansRows (l.foldl (fun a k => a.l2Put (item k)) s) := .foldl (fun a k => State.l2Put_work (item k) a) l s

theorem State.prefixPuts_work (item : Nat → Nat) (l : List Nat) (s : State) :
    s.TableWork Tbl.sansUnits (l.foldl (fun a k => a.prefixPut (item k)) s) := .foldl (fun a k => State.prefixPut_work (item k) a) l s

section
variable {s t : State}

theorem State.TableWork.rows (h : s.TableWork Tbl.sansRows t) :
    t.tbl = { s.tbl with rowOf := t.tbl.rowOf, absent := t.tbl.absent } :=
  congrArg (fun m : Tbl => { m with rowOf := t.tbl.rowOf, absent := t.tbl.absent }) h.rest

theorem State.TableWork.units (h : s.TableWork Tbl.sansUnits t) :
    t.tbl = { s.tbl with unitOf := t.tbl.unitOf, absent := t.tbl.absent } :=
  congrArg (fun m : Tbl => { m with unitOf := t.tbl.unitOf, absent := t.tbl.absent }) h.rest

end

/-- A result of 0 in all its bits has TYPE 0 and INDEX 0. -/
theorem result_zero {q : Req} (h : q.f 9 18 0 = 0) : q.f 9 2 0 = 0 ∧ q.f 9 18 3 = 0 := by
  simp only [Req.f, fld, nfld] at h ⊢
  omega

/-- The result of a route is well given: an INDEX only where the TYPE has one, and a group's below 4,096. -/
theorem result_given {ty idx : Nat} (hplain : (ty = 0 ∨ ty = 3) → idx = 0) (hgroup : ty = 2 → idx ≤ 4095) :
    (((ty == 0 || ty == 3) && idx != 0) || (ty == 2 && decide (4095 < idx))) = false := by
  simp only [Bool.or_eq_false_iff, Bool.and_eq_false_imp, Bool.or_eq_true, beq_iff_eq, bne_eq_false_iff_eq, decide_eq_false_iff_not,
    not_lt]
  exact ⟨hplain, hgroup⟩

/-- Settles O20: the settings a command at a time, then the entries and the prefixes, deleted, held and new. -/
theorem tables : Obligations.Tables := by
  unfold Obligations.Tables
  refine ⟨⟨?vlan, ?port, ?nexthop, ?routerMac, ?group, ?hash, ?mcast⟩, ?l2, ?route⟩
  case vlan =>
    intro s r q h h4 h5 hlo hhi hflood hplace he
    rw [exec_tblVlanSet h h4 h5 hlo hhi hflood hplace he]
    refine ⟨fun hno => ?_, fun hok => ⟨s.stageBy 0x0501 q (setVlan q), ?_, ⟨rfl, rfl, fun k hk => tabFind_cfgSet_other hk ..⟩,
      cfgWords_cfgSet_same ..⟩⟩
    · rw [if_pos (by rw [hno]; rfl), State.finish_no (by decide) (by decide)]
    · rw [if_neg (by rw [hok]; decide), State.finish_ok]
  case port =>
    intro s r q h h4 he
    rw [exec_tblPortSet h h4 he]
    refine ⟨fun hno => ?_, fun hp => ⟨s.stageBy 0x0502 q (setTblPort q), ?_, ⟨rfl, rfl, fun k hk => tabFind_cfgSet_other hk ..⟩,
      setTblPort_reads q _⟩⟩
    · rw [if_pos (by rw [hno]; rfl), State.finish_no (by decide) (by decide)]
    · rw [if_neg (by rw [hp]; decide), State.finish_ok]
  case nexthop =>
    intro s r q h h4 h5 h7 hkind hdest he
    exact ⟨_, exec_tblNexthopSet h h4 h5 h7 hkind hdest he, ⟨rfl, rfl, fun k hk => tabFind_cfgSet_other hk ..⟩,
      cfgWords_cfgSet_same ..⟩
  case routerMac =>
    intro s r q h h5 hgroup he
    exact ⟨_, exec_tblRouterMac h h5 hgroup he, ⟨rfl, rfl, fun k hk => tabFind_cfgSet_other hk ..⟩, setRouterMac_reads q _⟩
  case group =>
    intro s r q h h4 h5 hlo hhi hridges hports he
    exact ⟨_, exec_tblGroupSet h h4 h5 hlo hhi hridges hports he,
      ⟨rfl, rfl, fun k hk => tabFind_foldl_cfgSet_of_not_named (ridges_named hk) _⟩, fun d hd hridge => setGroup_reads hd hridge _⟩
  case hash =>
    intro s r q h h6 hridges he
    exact ⟨_, exec_tblHashKey h h6 hridges he,
      ⟨rfl, rfl, fun k hk => tabFind_foldl_cfgSet_of_not_named (obj := id) (ridges_named (obj := id) hk) _⟩,
      fun d hd hridge => setHashKey_reads hd hridge _⟩
  case mcast =>
    intro s r q h h4 hhi he hmembers
    exact ⟨_, exec_tblMcastSet h h4 hhi he hmembers, ⟨rfl, rfl, fun k hk => tabFind_cfgSet_other hk ..⟩, setMcast_reads q _⟩
  case l2 =>
    intro s r q h h4 hfid hauto hcells he l d key
    refine ⟨fun hdel hdest => ?_, fun hdel hdest hlag => ?_⟩
    · rw [exec_tblL2Write_delete h h4 hfid hauto hcells he hdel hdest]
      exact ⟨fun hno => congrArg _ (State.deleteObjs_missing hno q), fun hall => ⟨_, congrArg _ (State.deleteObjs_held hall q),
        State.stages_deletes (setL2_delete hdel) (l2Named_injective q) q s⟩⟩
    · intro held
      rw [exec_tblL2Write_write h h4 hfid hauto hcells he hdel hdest hlag]
      refine ⟨fun hex => ?_, fun hnew hroom => ?_⟩
      · rw [State.l2Write_exists hex, State.finish_no (by decide) (by decide)]
      · have hwork := State.l2Puts_work (fun k => l2Item (l2Named q k) true) (l2Cells q) (s.stageBy 0x0510 q (setL2 q))
        obtain ⟨hstages, hwords⟩ := State.stages_sets (setL2_write hdel) (l2Named_injective q) (fun _ => List.cons_ne_nil _ _) q s
        rw [State.l2Write_new hnew hroom, State.finish_ok]
        exact ⟨s.stageBy 0x0510 q (setL2 q), _, rfl, hwork.eq, hwork.rows, hwork.whole, hstages, hwords⟩
  case route =>
    intro s r q h h4 h9 he fam len addr long l key hlen hv4 hhost hauto hcells htries
    have hexec := exec_tblRouteWrite h h4 h9 he hlen hv4 hhost hauto hcells htries
    refine ⟨fun hdel hzero => ?_, fun hdel hty hplain hgroup => ?_⟩
    · obtain ⟨htype, hindex⟩ := result_zero hzero
      rw [hexec (by omega) (by simp [hdel, htype, hindex]), if_pos hdel]
      exact ⟨fun hno => congrArg _ (State.deleteObjs_missing hno q), fun hall => ⟨_, congrArg _ (State.deleteObjs_held hall q),
        State.stages_deletes (setRoute_delete hdel) (routeAt_injective q) q s⟩⟩
    · have hwrite : ¬q.f 4 14 14 = 1 := by rw [hdel]; decide
      rw [hexec hty ((if_neg hwrite).trans (result_given hplain hgroup)), if_neg hwrite]
      refine ⟨fun hex => ?_, fun hnew htrie hlong => ?_⟩
      · rw [State.routeWrite_exists hex, State.finish_no (by decide) (by decide)]
      · have hwork := State.prefixPuts_work (routeItem q) (routePlaces q) (s.stageBy 0x0520 q (setRoute q))
        obtain ⟨hstages, hwords⟩ := State.stages_sets (setRoute_write hdel) (routeAt_injective q) (fun _ => List.cons_ne_nil _ _) q s
        rw [State.routeWrite_new hnew (State.routeFull_eq_false htrie hlong), State.finish_ok]
        exact ⟨s.stageBy 0x0520 q (setRoute q), _, rfl, hwork.eq, hwork.units, hwork.whole, hstages,
          fun c hc => ⟨routeWords q c, hwords c hc, rfl⟩⟩

end Sys2Proof.Machine
end

section
/-!
PROOF of TableUpkeep (O21): the reads, the flush and the aging setting (08 R297, R298, R302), learning and aging (08 R270, R271, R276, R277),
and the errors in words of the tables (08 R291; 16 R551).
-/

namespace Sys2Proof.Machine

open Sys2Proof

/-! ## TBL_L2_READ (08 R297) -/

/-- The cells in which an address is a static entry of CURRENT. -/
def State.l2Holders (s : State) (fid mac : Nat) : List Nat :=
  (List.range 64).filter fun k => (cfgFind s.stg.cur 0x0510 (l2Obj fid mac k)).isSome

theorem State.l2Holders_eq_nil {s : State} {fid mac : Nat} (h : ∀ c, c < 64 → cfgFind s.stg.cur 0x0510 (l2Obj fid mac c) = none) :
    s.l2Holders fid mac = [] :=
  List.filter_eq_nil_iff.mpr fun c hc => by rw [h c (List.mem_range.mp hc)]; decide

theorem State.l2Holders_ne_nil {s : State} {fid mac c : Nat} {w : List Word} (hc : c < 64)
    (h : cfgFind s.stg.cur 0x0510 (l2Obj fid mac c) = some w) : ∃ k l, s.l2Holders fid mac = k :: l :=
  List.exists_cons_of_ne_nil (List.ne_nil_of_mem (List.mem_filter.mpr ⟨List.mem_range.mpr hc, by rw [h]; rfl⟩))

/-- What a read of an address answers from the master. -/
def Master.words (m : Master) : List Word := [wd m.dest] ++ two m.cells.toNat ++ two m.moved

section
variable {s : State} {r q : Req} (h : s.Accepts 0x0512 r q) (h4 : q.f 4 31 12 = 0) (h6 : q.f 6 31 16 = 0) (he : q.ExtSize 3)
include h h4 h6 he

theorem exec_tblL2Read_master (hnone : s.l2Holders (q.f 4 11 0) (join (q.w 5) (q.w 6) % 2 ^ 48) = []) : exec (.tblL2Read r) s =
    .next (s.finish 0x0512 q (match s.master (q.f 4 11 0) (join (q.w 5) (q.w 6) % 2 ^ 48) with
      | some m => { words := m.words, st := s }
      | none => { status := stNotFound, st := s })) := by
  refine (mailbox_runs h (by simp [Req.rsv, *]) rfl (by simp) (by simpa using he) (by simp) rfl rfl).trans
    (congrArg (fun a => Host.Outcome.next (s.finish 0x0512 q a)) ?_)
  dsimp only
  rw [show (List.range 64).filter _ = [] from hnone]
  rfl

theorem exec_tblL2Read_static {k : Nat} {l : List Nat} (hholds : s.l2Holders (q.f 4 11 0) (join (q.w 5) (q.w 6) % 2 ^ 48) = k :: l) :
    ∃ dest cells moved, exec (.tblL2Read r) s =
      .next (s.finish 0x0512 q { words := [wd (fld dest 31 16 + 2 ^ 16)] ++ two cells ++ two moved, st := s }) := by
  have hrun := (mailbox_runs h (by simp [Req.rsv, *]) rfl (by simp) (by simpa using he) (by simp) rfl rfl :
    exec (.tblL2Read r) s = _)
  dsimp only at hrun
  rw [show (List.range 64).filter _ = k :: l from hholds] at hrun
  exact ⟨_, _, _, hrun⟩

end

/-- STATIC stands above the DEST. -/
theorem getLsbD_static (w : Word) : (wd (fld w 31 16 + 2 ^ 16)).getLsbD 16 = true := by
  have hdest : fld w 31 16 < 2 ^ 16 := Nat.mod_lt _ (by decide)
  rw [wd, BitVec.getLsbD_ofNat, Nat.add_comm, Nat.testBit_two_pow_add_eq, Nat.testBit_lt_two_pow hdest]
  rfl

/-! ## TBL_LOOKUP (08 R302) -/

/-- The address that TBL_LOOKUP looks up. -/
def lookupAddr (q : Req) : Nat := if q.f 4 10 10 = 1 then wordsNat [q.w 5, q.w 6, q.w 7, q.w 8] else (q.w 5).toNat

/-- A result that names neither a next hop nor a group selects no member. -/
theorem State.lookupMember_plain {ty : Nat} (h1 : ty ≠ 1) (h2 : ty ≠ 2) (s : State) (c : Cfg) (ridge i hash : Nat) :
    s.lookupMember c ridge ty i hash = none := by
  simp [State.lookupMember, h1, h2]

section
variable {s : State} {r q : Req} (h : s.Accepts 0x0550 r q) (h4 : q.f 4 31 11 = 0) (he : q.ExtSize 11)
include h h4 he

theorem exec_tblLookup_none
    (hfind : s.routeFind (s.cellCfg (q.f 4 5 0)) (q.f 4 5 0) (q.f 4 9 6) (q.f 4 10 10) (lookupAddr q) = none) :
    ∃ hash, exec (.tblLookup r) s = .next (s.finish 0x0550 q { words := [0, wd hash, 0x3F], st := s }) := by
  have hrun := (mailbox_runs h (by simp [Req.rsv, h4]) rfl (by simp) (by simpa using he) (by simp) rfl rfl :
    exec (.tblLookup r) s = _)
  dsimp only at hrun
  rw [lookupAddr] at hfind
  rw [hfind] at hrun
  exact ⟨_, hrun⟩

theorem exec_tblLookup_some {level len ty idx : Nat}
    (hfind : s.routeFind (s.cellCfg (q.f 4 5 0)) (q.f 4 5 0) (q.f 4 9 6) (q.f 4 10 10) (lookupAddr q) = some (level, len, ty, idx)) :
    ∃ hash, exec (.tblLookup r) s = .next (s.finish 0x0550 q
      { words := [wd (level + len * 2 ^ 2 + ty * 2 ^ 10 + idx * 2 ^ 13), wd hash,
          wd ((s.lookupMember (s.cellCfg (q.f 4 5 0)) (ridgeOf (q.f 4 5 0)) ty idx hash).getD 0x3F)], st := s }) := by
  have hrun := (mailbox_runs h (by simp [Req.rsv, h4]) rfl (by simp) (by simpa using he) (by simp) rfl rfl :
    exec (.tblLookup r) s = _)
  dsimp only at hrun
  rw [lookupAddr] at hfind
  rw [hfind] at hrun
  exact ⟨_, hrun⟩

end

/-! ## TBL_STATS_READ (08 R302) -/

/-- A counter of a cell, or of a ridge behind the cells. -/
def State.tblCount (s : State) (unit j : Nat) : Nat := if unit < 64 then s.count 6 unit j else s.count 7 (unit - 64) j

/-- The answer of TBL_STATS_READ. -/
def State.tblStatsWords (s : State) (q : Req) : List Word :=
  wd (q.f 4 15 11) :: (List.range (q.f 4 15 11)).flatMap fun j => two (s.tblCount (q.f 4 6 0) (q.f 4 10 7 + j))

theorem State.length_tblStatsWords (s : State) (q : Req) : (s.tblStatsWords q).length = 1 + 2 * q.f 4 15 11 := by
  rw [State.tblStatsWords, List.length_cons, length_flatMap_of_length fun _ => length_two _, List.length_range, Nat.add_comm]

theorem State.tblStatsWords_counter (s : State) {q : Req} {j : Nat} (hj : j < q.f 4 15 11) :
    wordAt (s.tblStatsWords q) (1 + 2 * j) = wd (s.tblCount (q.f 4 6 0) (q.f 4 10 7 + j)) := by
  rw [wordAt, List.getD_eq_getElem?_getD, State.tblStatsWords, Nat.add_comm, List.getElem?_cons_succ, ← Nat.add_zero (2 * j),
    getElem?_flatMap_of_length (fun _ => length_two _) Nat.two_pos, List.getElem?_range hj]
  rfl

theorem exec_tblStatsRead {s : State} {r q : Req} (h : s.Accepts 0x0560 r q) (h4 : q.f 4 31 16 = 0) (hunit : q.f 4 6 0 ≤ 71)
    (hfit : q.f 4 10 7 + q.f 4 15 11 ≤ (if q.f 4 6 0 < 64 then 16 else 3)) (he : q.ExtSize 1) :
    exec (.tblStatsRead r) s = .next (s.finish 0x0560 q { words := s.tblStatsWords q, st := s }) := by
  refine mailbox_runs h ?_ rfl (by simp) (by simpa using he) (by simp) rfl rfl
  dsimp only
  rw [decide_eq_false (Nat.not_lt.mpr hfit), decide_eq_false (Nat.not_lt.mpr hunit)]
  simp [Req.rsv, h4]

/-! ## TBL_L2_FLUSH (08 R297) -/

/-- The entries that TBL_L2_FLUSH names, by their address's number and DEST. -/
def flushHit (q : Req) (key dest : Nat) : Bool :=
  (q.f 4 12 12 == 1 || key / 2 ^ 48 == q.f 4 11 0) && (q.f 4 13 13 == 1 || dest == q.f 4 31 16)

/-- The listed dynamic entries are deleted in their cells, or their deletes held. -/
def State.flushRows (rows : Tab DynEntry) (s : State) : State :=
  rows.foldl (fun a e => (a.dynWrite (e.1 % 64) (e.1 / 64 / 2 ^ 48) (e.1 / 64 % 2 ^ 48) none (0, 0, 0)).2) s

/-- The writes that wait for cells and that a flush names are withdrawn. -/
def State.flushHeld (q : Req) (s : State) : State :=
  (List.range 64).foldl (fun a k => a.onCell k fun x => { x with
    held := x.held.filter fun h => !flushHit q (l2Key h.fid h.mac) (s.destAfter (l2Obj h.fid h.mac k) 0xC000) }) s

/-- The dynamic entries that a flush names, by the DEST that each is to hold. -/
def State.flushNamed (q : Req) (s : State) : Tab DynEntry := s.tbl.dyn.filter fun e => flushHit q (e.1 / 64) (s.destAfter e.1 e.2.dest)

/-- The state that a flush leaves. -/
def State.flushed (q : Req) (s : State) : State :=
  ((s.flushHeld q).flushRows (s.flushNamed q)).onTbl fun m => { m with master := m.master.filter fun e => !flushHit q e.1 e.2.dest }

theorem exec_tblL2Flush {s : State} {r q : Req} (h : s.Accepts 0x0511 r q) (h4 : q.f 4 15 14 = 0) (he : q.ExtSize 1) :
    exec (.tblL2Flush r) s = .next (s.finish 0x0511 q { words := [wd ((s.tbl.master.filter fun e => flushHit q e.1 e.2.dest).filter
      fun e => (s.staticMaster (e.1 / 2 ^ 48) (e.1 % 2 ^ 48)).isNone).length], st := s.flushed q }) :=
  mailbox_runs h (by simp [Req.rsv, h4]) rfl (by simp) (by simpa using he) (by simp) rfl rfl

theorem State.flushHeld_work (q : Req) (s : State) : s.DynWork (s.flushHeld q) :=
  .foldl (fun a k => State.onCell_held_work k (fun l => l.filter fun h =>
    !flushHit q (l2Key h.fid h.mac) (s.destAfter (l2Obj h.fid h.mac k) 0xC000)) a) _ s

theorem State.flushRows_work (rows : Tab DynEntry) (s : State) : s.DynWork (s.flushRows rows) :=
  .foldl (fun a _ => State.dynWrite_work _ _ _ none (0, 0, 0) a) rows s

theorem tabFind_tabDel_none {α : Type} {t : Tab α} {k : Nat} (h : tabFind t k = none) (n : Nat) : tabFind (tabDel n t) k = none := by
  by_cases hk : k = n
  · rw [hk, tabFind_tabDel_same]
  · rw [tabFind_tabDel_other hk, h]

/-- A delete brings no entry back. -/
theorem State.dynWrite_delete_none {s : State} {k : Nat} (h : tabFind s.tbl.dyn k = none) (cell fid mac : Nat) (ev : Nat × Nat × Nat) :
    tabFind (s.dynWrite cell fid mac none ev).2.tbl.dyn k = none := by
  rcases State.dynWrite_cases cell fid mac none ev s with hw | ⟨f, hw⟩ | hw
  · rw [hw, h]
  · rw [hw]; exact h
  · rw [hw]
    exact (congrArg (tabFind · k) (State.dynFree_dyn ..)).trans (tabFind_tabDel_none h _)

theorem State.flushRows_none {s : State} {k : Nat} (h : tabFind s.tbl.dyn k = none) (rows : Tab DynEntry) :
    tabFind (s.flushRows rows).tbl.dyn k = none :=
  List.foldlRecOn (motive := fun a : State => tabFind a.tbl.dyn k = none) rows _ h
    fun _ ha _ _ => State.dynWrite_delete_none ha _ _ _ _

/-- The object of an entry is that of its cell, FID and MAC. -/
theorem l2Obj_parts (k : Nat) : l2Obj (k / 64 / 2 ^ 48) (k / 64 % 2 ^ 48) (k % 64) = k := by
  simp only [l2Obj, l2Key]
  omega

/-- The listed entries of a cell that runs are gone. -/
theorem State.flushRows_gone {s : State} {rows : Tab DynEntry} {e : Nat × DynEntry} (he : e ∈ rows)
    (hst : (s.cell (e.1 % 64)).st = .run) (hr : (s.cell (e.1 % 64)).resetting = false) :
    tabFind (s.flushRows rows).tbl.dyn e.1 = none := by
  induction rows generalizing s with
  | nil => simp at he
  | cons x rows ih =>
    have hstep : s.flushRows (x :: rows) =
        State.flushRows rows (s.dynWrite (x.1 % 64) (x.1 / 64 / 2 ^ 48) (x.1 / 64 % 2 ^ 48) none (0, 0, 0)).2 := rfl
    have hwork := State.dynWrite_work (x.1 % 64) (x.1 / 64 / 2 ^ 48) (x.1 / 64 % 2 ^ 48) none (0, 0, 0) s
    rw [hstep]
    rcases List.mem_cons.mp he with rfl | hmem
    · refine State.flushRows_none ?_ rows
      rw [State.dynWrite_run hst hr]
      refine (congrArg (tabFind · e.1) (State.dynFree_dyn ..)).trans ?_
      rw [l2Obj_parts, tabFind_tabDel_same]
    · exact ih hmem ((hwork.cell_st _).trans hst) ((hwork.cell_resetting _).trans hr)

/-! ## TBL_AGE_SET (08 R298) -/

theorem exec_tblAgeSet {s : State} {r q : Req} (h : s.Accepts 0x0513 r q) (h4 : q.f 4 31 21 = 0) (hlo : 10 ≤ q.f 4 19 0)
    (hhi : q.f 4 19 0 ≤ 1000000) (he : q.ExtSize 1) :
    exec (.tblAgeSet r) s = .next ((s.setImm 0x0513 q (setAge q)).respond 0x0513 q stOk []) :=
  (mailbox_runs h (by simp [Req.rsv, inRange, *]) rfl (by simp) (by simpa using he) (by simp) rfl rfl).trans
    (congrArg _ State.finish_ok)

theorem State.setImm_stg (op : Nat) (q : Req) (f : Cfg → Cfg) (s : State) :
    (s.setImm op q f).stg = { s.stg with imm := f s.stg.imm } := State.appendJournal_stg ..

theorem State.setAge_ageWord (q : Req) (s : State) : (s.setImm 0x0513 q (setAge q)).ageWord = q.w 4 := by
  have hwords : cfgWords (setAge q s.stg.imm) 0x0513 0 [wd (300 + 2 ^ 20)] = [q.w 4] := cfgWords_cfgSet_same ..
  rw [State.ageWord, State.setImm_stg, hwords]
  rfl

/-! ## LEARN_REPORT_HANDLE (08 R271) -/

/-- The master takes an address that it did not hold, at the port it was seen at. -/
def State.learned (r : Report) (s : State) : State :=
  let x := s.install (placeCells (s.cellCfg r.cell) r) r.fid r.mac r.port (0, 0, r.port)
  x.2.2.putMaster r.fid r.mac { dest := r.port, cells := maskBits x.1, moved := r.time }

section
variable {s : State} {r : Report} (own : Bool) (hkind : r.kind = 0) (hmaster : s.master r.fid r.mac = none)
include hkind hmaster

/-- A new source that the placement permits and the table has room for is learned, and raises its event. -/
theorem State.handleReport_learns (hroom : s.masterCount < 4194304) (hplace : s.img.policy.placePermit.testBit r.place = true) :
    s.handleReport r own = (s.learned r).learnEvent 0 r.cell r.fid r.mac r.port 0 ((s.learned r).copies r.fid r.mac)
      (if (s.install (placeCells (s.cellCfg r.cell) r) r.fid r.mac r.port (0, 0, r.port)).2.1 then 2 else 0) r.port own := by
  unfold State.handleReport
  extract_lets c old ev after
  rw [hkind]
  dsimp only [old]
  rw [hmaster]
  dsimp only
  rw [if_neg (Nat.not_le.mpr hroom), if_neg (by rw [hplace]; decide)]
  rfl

/-- One that finds no room, or whose placement is not permitted, raises its event alone. -/
theorem State.handleReport_refuses (hno : 4194304 ≤ s.masterCount ∨ s.img.policy.placePermit.testBit r.place = false) :
    ∃ outcome, s.handleReport r own = s.learnEvent 0 r.cell r.fid r.mac r.port 0 0 outcome r.port own := by
  unfold State.handleReport
  extract_lets c old ev after
  rw [hkind]
  dsimp only [old]
  rw [hmaster]
  dsimp only
  by_cases hfull : 4194304 ≤ s.masterCount
  · exact ⟨1, if_pos hfull⟩
  · refine ⟨3, (if_neg hfull).trans (if_pos ?_)⟩
    rw [hno.resolve_left hfull]
    rfl

end

theorem exec_learnReportHandle {s : State} {r : Report} {rest : List Report} (hfw : s.crn.fwRuns = true)
    (hreports : s.tbl.reports = r :: rest) (own : Bool) : exec (.learnReportHandle own) s =
      .next ((s.onTbl fun m => { m with reports := rest }).handleReport r own) := by
  change execLearnReportHandle own s = _
  rw [execLearnReportHandle, hreports]
  exact congrArg _ (if_pos hfw)

/-- What is learned: a master entry at the port, with the time of the report; the reports that wait, the configuration and EVT bits stay. -/
theorem State.learned_spec (r : Report) (s : State) :
    (∃ cells, (s.learned r).master r.fid r.mac = some { dest := r.port, cells := cells, moved := r.time }) ∧
      (s.learned r).tbl.reports = s.tbl.reports ∧ (s.learned r).stg = s.stg ∧ s.EvtStays (s.learned r) := by
  have hwork := State.install_work (placeCells (s.cellCfg r.cell) r) r.fid r.mac r.port (0, 0, r.port) s
  exact ⟨⟨_, tabFind_tabIns_same ..⟩, hwork.reports, hwork.stg, hwork.evt⟩

/-! ## AGING_PASS_ROW (08 R276 to R279) -/

/-- A pass of a cell that has visited a row: at its first row it has taken the aging setting. -/
def Cell.aged (x : Cell) (age : Word) (last : Bool) : Cell :=
  let y := if x.ageRow = 0 then { x with ageTime := fld age 19 0, ageOn := bit age 20 } else x
  { y with ageRow := if y.ageOn && !last then y.ageRow + 1 else 0 }

/-- The entry of a row that has not been hit since the last pass leaves its cell and the master's mask. -/
def State.agedOut (c fid mac : Nat) (s : State) : State := (s.dynFree (l2Obj fid mac c)).dropCopyOf c fid mac

section
variable {s : State} {c : Fin 64} {fid : Fin 4096} {mac : Nat} {e : DynEntry}

theorem Cell.aged_ageRow {x : Cell} {age : Word} (h0 : x.ageRow = 0 → age.getLsbD 20 = true) (hlater : x.ageRow ≠ 0 → x.ageOn = true)
    (last : Bool) : (x.aged age last).ageRow = if last then 0 else x.ageRow + 1 := by
  unfold Cell.aged
  by_cases hrow : x.ageRow = 0
  · have hon : bit age 20 = true := h0 hrow
    cases last <;> simp [hrow, hon]
  · cases last <;> simp [hrow, hlater hrow]

variable (hst : (s.cell c.val).st = .run) (hfw : s.crn.fwRuns = true)
  (hfound : tabFind s.tbl.dyn (l2Obj fid.val mac c.val) = some e) (hhere : s.l2Gone (l2Obj fid.val mac c.val) false = false)
  (h0 : (s.cell c.val).ageRow = 0 → s.ageWord.getLsbD 20 = true) (hlater : (s.cell c.val).ageRow ≠ 0 → (s.cell c.val).ageOn = true)
include hst hfw hfound hhere h0 hlater

theorem exec_agingPassRow (last own : Bool) :
    let t := s.onCell c.val fun _ => (s.cell c.val).aged s.ageWord last
    exec (.agingPassRow c fid mac last own) s = .next (
      if e.act then t.onTbl fun m => { m with dyn := tabIns (l2Obj fid.val mac c.val) { e with act := false } m.dyn }
      else (t.agedOut c.val fid.val mac).learnEvent 2 c.val fid.val mac e.dest e.dest
        ((t.agedOut c.val fid.val mac).copies fid.val mac) 0 0 own) := by
  intro t
  change execAgingPassRow c fid mac last own s = _
  unfold execAgingPassRow
  extract_lets x awake y u v
  have hawake : ¬((!awake) = true ∨ (!s.crn.fwRuns) = true) := by simp [awake, x, hst, hfw]
  have hon : y.ageOn = true := by
    dsimp only [y]
    split
    next hrow => exact h0 hrow
    next hrow => exact hlater hrow
  rw [if_neg hawake, if_neg (by rw [hon]; decide), show u.l2Gone (l2Obj fid.val mac c.val) false = false from hhere, if_neg (by decide),
    show tabFind u.tbl.dyn (l2Obj fid.val mac c.val) = some e from hfound]
  rfl

end

/-- The cell's bit of an address's mask is gone (08 R279). -/
theorem dropMaskBit_cleared {key c : Nat} (hc : c < 64) {t : Tab Master} {m : Master}
    (h : tabFind (dropMaskBit key c t) key = some m) : m.cells.getLsbD c = false := by
  unfold dropMaskBit at h
  split at h
  next hnone => rw [hnone] at h; contradiction
  next x hx =>
    dsimp only at h
    split at h
    · rw [tabFind_tabDel_same] at h; contradiction
    · rw [tabFind_tabIns_same] at h
      obtain rfl := Option.some.inj h
      exact getLsbD_and_not_bit hc

/-- A row whose entry stands in no absent word is freed without an event of its own. -/
theorem State.dynFree_flt {s : State} {obj : Nat} (hhere : s.l2Gone obj false = false) : (s.dynFree obj).flt = s.flt := by
  rw [State.dynFree, State.rewriteAll_present]
  · rfl
  · exact fun w hw => Bool.eq_false_iff.mpr (List.any_eq_false.mp hhere w hw)

/-- The object of an entry of a cell names the cell. -/
theorem l2Obj_mod {fid mac c : Nat} (hc : c < 64) : l2Obj fid mac c % 64 = c := by
  rw [l2Obj]
  omega

section
variable {s : State} {c fid mac : Nat}

theorem State.agedOut_dyn : tabFind (s.agedOut c fid mac).tbl.dyn (l2Obj fid mac c) = none :=
  (congrArg (tabFind · (l2Obj fid mac c)) (State.dynFree_dyn ..)).trans (tabFind_tabDel_same ..)

theorem State.agedOut_master (hc : c < 64) {m : Master} (h : (s.agedOut c fid mac).master fid mac = some m) :
    m.cells.getLsbD c = false := dropMaskBit_cleared hc h

theorem State.agedOut_flt (hhere : s.l2Gone (l2Obj fid mac c) false = false) : (s.agedOut c fid mac).flt = s.flt :=
  State.dynFree_flt hhere

theorem State.agedOut_cell (d : Nat) : (s.agedOut c fid mac).cell d = s.cell d :=
  (congrArg (fun t : State => t.cell d) (State.dynFree_work (l2Obj fid mac c) s).eq :)

end

/-- What a pass does at a row whose entry can be read, and to itself. -/
theorem agingPassRow_spec {s : State} {c : Fin 64} {fid : Fin 4096} {mac : Nat} {e : DynEntry} (hst : (s.cell c.val).st = .run)
    (hfw : s.crn.fwRuns = true) (hfound : tabFind s.tbl.dyn (l2Obj fid.val mac c.val) = some e)
    (hhere : s.l2Gone (l2Obj fid.val mac c.val) false = false)
    (h0 : (s.cell c.val).ageRow = 0 → s.ageWord.getLsbD 20 = true) (hlater : (s.cell c.val).ageRow ≠ 0 → (s.cell c.val).ageOn = true)
    (last own : Bool) : ∃ t, exec (.agingPassRow c fid mac last own) s = .next t ∧
      (e.act = true → tabFind t.tbl.dyn (l2Obj fid.val mac c.val) = some { e with act := false } ∧ t.tbl.master = s.tbl.master) ∧
      (e.act = false → tabFind t.tbl.dyn (l2Obj fid.val mac c.val) = none ∧
        (∀ m, t.master fid.val mac = some m → m.cells.getLsbD c.val = false) ∧
        t.flt.evt = s.flt.evt ||| srcMask (1024 + c.val)) ∧
      (t.cell c.val).ageRow = if last then 0 else (s.cell c.val).ageRow + 1 := by
  have hexec := exec_agingPassRow hst hfw hfound hhere h0 hlater last own
  have hrow := Cell.aged_ageRow (x := s.cell c.val) h0 hlater last
  generalize hu : (s.onCell c.val fun _ => (s.cell c.val).aged s.ageWord last) = u at hexec
  have hcell : u.cell c.val = (s.cell c.val).aged s.ageWord last := by rw [← hu, State.onCell_cell_same]
  have hflt : u.flt = s.flt := by rw [← hu]; rfl
  have hgone : u.l2Gone (l2Obj fid.val mac c.val) false = false := by rw [← hu]; exact hhere
  have htbl : u.tbl = s.tbl := by rw [← hu]; rfl
  refine ⟨_, hexec, fun hact => ?_, fun hact => ?_, ?_⟩
  · rw [if_pos hact]
    exact ⟨tabFind_tabIns_same .., (congrArg Tbl.master htbl :)⟩
  · rw [if_neg (by rw [hact]; decide)]
    refine ⟨?_, fun m hm => ?_, ?_⟩
    · rw [State.learnEvent_tbl]; exact State.agedOut_dyn
    · rw [State.master, State.learnEvent_tbl] at hm; exact State.agedOut_master c.isLt hm
    · rw [State.learnEvent_evt, State.agedOut_flt hgone, hflt]
  · rw [← hrow, ← hcell]
    split
    · rfl
    · rw [State.cell, State.learnEvent_cel]; exact congrArg Cell.ageRow (State.agedOut_cell c.val)

end Sys2Proof.Machine
end

section
/-!
PROOF of TableUpkeep (O21), continued: the errors in words of the tables (08 R291; 16 R551), and the statement.
-/

namespace Sys2Proof.Machine

open Sys2Proof

/-! ## Uncorrectable errors (08 R291; 16 R551) -/

theorem State.fltRuns_congr {s t : State} (h : t.crn = s.crn) : t.fltRuns = s.fltRuns := by rw [State.fltRuns, h]; rfl

/-- The event of a lost word. -/
abbrev lostWord (u table index : Nat) : Ev :=
  { src := (eccEvent u).1, reason := (eccEvent u).2, cls := 1, live := true, access := 4, master := scrubberId, addr := tableWord table index }

/-- The table's absent words, one more among them. -/
def wordAbsent (u table index : Nat) (m : Tbl) : Tbl :=
  { m with absent := if m.absent.contains (u, table, index) then m.absent else m.absent ++ [(u, table, index)] }

section
variable (u table index : Nat) (s : State)

theorem State.loseWord_raise : s.loseWord u table index = (s.onTbl (wordAbsent u table index)).raise (lostWord u table index) := rfl

/-- Of the tables a lost word changes the absent words, and beside them FLT. -/
theorem State.loseWord_eq : let t := s.loseWord u table index
    t = { s with tbl := { s.tbl with absent := t.tbl.absent }, flt := t.flt } := by
  dsimp only
  rw [State.loseWord_raise, State.raise_tbl]
  exact State.raise_eq ..

theorem State.loseWord_absent : (s.loseWord u table index).isAbsent u table index = true := by
  have htbl : (s.loseWord u table index).tbl.absent =
      if s.tbl.absent.contains (u, table, index) then s.tbl.absent else s.tbl.absent ++ [(u, table, index)] :=
    congrArg Tbl.absent (State.raise_tbl (lostWord u table index) _)
  rw [State.isAbsent_iff, htbl]
  split
  next hmem => exact List.contains_iff_mem.mp hmem
  next => simp

variable {s} in
/-- A lost word is a live event of its unit, of the class degraded. -/
theorem State.loseWord_flt (hruns : s.fltRuns = true) : (s.loseWord u table index).causeOf (eccEvent u).1 = true ∧
    (s.loseWord u table index).flt.evt = s.flt.evt ||| srcMask (eccEvent u).1 ∧ (s.loseWord u table index).flt.flt = s.flt.flt := by
  have hseen (f : Tbl → Tbl) : (s.onTbl f).eventSeen (lostWord u table index).src = true :=
    State.eventSeen_of_fltRuns (s := s.onTbl f) hruns _
  exact ⟨List.any_eq_true.mpr ⟨_, State.mem_raise_live (e := lostWord u table index) (hseen _) rfl, beq_self_eq_true _⟩,
    State.raise_evt (hseen _), congrArg Prod.fst (State.raise_faults (e := lostWord u table index) Nat.one_lt_two _)⟩

/-! ### The chunk buffer and the staging of a Col frame -/

theorem State.losePieces_crn (cell : Nat) (l : List Piece) : (s.losePieces cell l).crn = s.crn := by
  simpa only [State.footing_crn] using congrArg State.crn (State.losePieces_footing cell l s)

theorem State.badTail_crn (fid : Nat) (l : List Nat) : (s.badTail fid l).crn = s.crn := by
  simpa only [State.footing_crn] using congrArg State.crn (State.badTail_footing fid l s)

theorem State.loseChunk_crn (c n : Nat) : (s.loseChunk c n).crn = s.crn := by
  unfold State.loseChunk
  split
  · exact State.losePieces_crn ..
  · split
    · exact foldl_keeps State.crn _ (fun a (p : Piece) => State.badTail_crn a p.fid _) _ s
    · rfl

theorem State.loseStaged_crn (c n : Nat) : (s.loseStaged c n).crn = s.crn := by
  dsimp only [State.loseStaged]
  split
  · exact State.badTail_crn ..
  · rfl

end

/-! ### TABLE_SCRUB -/

theorem exec_tableScrub {s : State} {u : Fin 72} {table : Fin 16} (hscrubs : s.scrubs u.val = true)
    (htable : unitTable u.val table.val = true) (index : Nat) (e : EccSeen) : exec (.tableScrub u table index e) s = .next (match e with
      | .clean => s
      | .corrected => if u.val < 64 then s.bump 6 u.val 11 1 else s.bump 7 (u.val - 64) 0 1
      | .uncorrectable => s.wordError u.val table.val index) := by
  change execTableScrub u table index e s = _
  unfold execTableScrub
  rw [hscrubs, htable]
  cases e <;> rfl

theorem exec_tableScrub_none {s : State} {u : Fin 72} {table : Fin 16} (h : s.scrubs u.val = false ∨ unitTable u.val table.val = false)
    (index : Nat) (e : EccSeen) : exec (.tableScrub u table index e) s = .next s :=
  congrArg Host.Outcome.next (if_pos (by rcases h with h | h <;> simp [h]))

/-- The counter of uncorrectable errors of a unit rises. -/
def State.countLost (u : Nat) (s : State) : State := if u < 64 then s.bump 6 u 12 1 else s.bump 7 (u - 64) 1 1

theorem State.countLost_eq (u : Nat) (s : State) : s.countLost u = { s with ctr := (s.countLost u).ctr } := by
  unfold State.countLost
  split <;> rfl

section
variable {u table : Nat} (index : Nat) (s : State)

theorem State.wordError_word (hchunk : table ≠ tChunk) (hstaging : table ≠ tStaging) (hhold : table ≠ tHold) (hsummit : table ≠ tSummit) :
    s.wordError u table index = (s.countLost u).loseWord u table index :=
  (if_neg hchunk).trans ((if_neg hstaging).trans ((if_neg hhold).trans (if_neg hsummit)))

theorem State.wordError_hold : s.wordError u tHold index = s := rfl

/-- The loss of an entry of a summit cache leaves the counters. -/
theorem State.dropEntry_ctr (r : Nat) (x : CacheEntry) (scrub : Option Nat) : (s.dropEntry r x scrub).ctr = s.ctr := by
  dsimp only [State.dropEntry]
  split
  · exact State.raise_ctr ..
  · exact (State.endLive_ctr ..).trans (State.raise_ctr ..)

theorem State.wordError_summit (hu : ¬u < 64) :
    (s.wordError u tSummit index).count 7 (u - 64) 1 = (s.count 7 (u - 64) 1 + 1) % 2 ^ 64 := by
  have hctr : (s.wordError u tSummit index).ctr = (s.bump 7 (u - 64) 1 1).ctr := by
    unfold State.wordError
    rw [if_neg (by decide), if_neg (by decide), if_neg (by decide), if_neg hu, if_pos rfl]
    split
    · exact State.dropEntry_ctr ..
    · rfl
  rw [State.count, hctr]
  exact State.bump_count_same ..

/-- An uncorrectable error in the chunk buffer or in a Col frame's staging sets EVT of the cell. -/
theorem State.wordError_buffer (hu : u < 64) (hruns : s.fltRuns = true) (htable : table = tChunk ∨ table = tStaging) :
    (s.wordError u table index).flt.evt.getLsbD (1024 + u) = true := by
  have hevent {t : State} (ht : t.crn = s.crn) (e : Ev) (he : e.src = 1024 + u) : (t.raise e).flt.evt.getLsbD (1024 + u) = true := by
    rw [State.raise_evt (State.eventSeen_of_fltRuns ((State.fltRuns_congr ht).trans hruns) _), BitVec.getLsbD_or, he,
      getLsbD_srcMask (by omega), Bool.or_true]
  unfold State.wordError
  rcases htable with rfl | rfl
  · exact hevent (State.loseChunk_crn ..) _ rfl
  · exact hevent (State.loseStaged_crn ..) _ rfl

end

/-- The chunk buffer, the staging and the holding buffer stand in cells, the summit cache in ridges (16 R548). -/
theorem unitTable_cell {u table : Nat} (h : unitTable u table = true) (ht : table = tChunk ∨ table = tStaging) : u < 64 := by
  by_contra hu
  rw [unitTable, if_neg hu] at h
  rcases ht with rfl | rfl <;> exact absurd h (by decide)

theorem unitTable_ridge {u : Nat} (h : unitTable u tSummit = true) : ¬u < 64 := by
  intro hu
  rw [unitTable, if_pos hu] at h
  exact absurd h (by decide)

/-- The source of a unit's events. -/
theorem eccEvent_src (u : Nat) : (eccEvent u).1 = if u < 64 then 1024 + u else 1088 + (u - 64) := by
  unfold eccEvent
  split <;> rfl

/-- What an uncorrectable error does to a word of a table: it is absent, it is counted, and its unit's event is live. -/
theorem State.wordLost_spec {u : Nat} {s : State} (hruns : s.fltRuns = true) (table index : Nat) :
    let t := (s.countLost u).loseWord u table index
    t = { s with ctr := t.ctr, tbl := t.tbl, flt := t.flt } ∧ t.isAbsent u table index = true ∧ t.causeOf (eccEvent u).1 = true ∧
      t.flt.evt = s.flt.evt ||| srcMask (eccEvent u).1 ∧ t.flt.flt = s.flt.flt ∧
      (u < 64 → t.count 6 u 12 = (s.count 6 u 12 + 1) % 2 ^ 64) ∧
      (64 ≤ u → t.count 7 (u - 64) 1 = (s.count 7 (u - 64) 1 + 1) % 2 ^ 64) := by
  intro t
  have hcount := State.countLost_eq u s
  have hlost : t = _ := State.loseWord_eq u table index (s.countLost u)
  have hctr : t.ctr = (s.countLost u).ctr := by rw [hlost]
  obtain ⟨hcause, hevt, hflt⟩ := State.loseWord_flt u table index (s := s.countLost u) (by rw [hcount]; exact hruns)
  refine ⟨?_, State.loseWord_absent .., hcause, hevt.trans (by rw [hcount]), hflt.trans (by rw [hcount]), fun hu => ?_, fun hu => ?_⟩
  · rw [hlost, hcount]
  · rw [State.count, hctr, State.countLost, if_pos hu]
    exact State.bump_count_same ..
  · rw [State.count, hctr, State.countLost, if_neg (Nat.not_lt.mpr hu)]
    exact State.bump_count_same ..

/-! ## TABLE_WORD_RESTORE (08 R291) -/

/-- The count of a ridge's restored words rises. -/
def State.countRestored (u : Nat) (s : State) : State := if u < 64 then s else s.bump 7 (u - 64) 2 1

theorem State.countRestored_tbl (u : Nat) (s : State) : (s.countRestored u).tbl = s.tbl := by
  unfold State.countRestored
  split <;> rfl

theorem State.countRestored_flt (u : Nat) (s : State) : (s.countRestored u).flt = s.flt := by
  unfold State.countRestored
  split <;> rfl

theorem exec_tableWordRestore {s : State} {u : Fin 72} {table : Fin 16} {index : Nat} (hfw : s.crn.fwRuns = true)
    (habsent : s.isAbsent u.val table.val index = true) (own : Bool) : exec (.tableWordRestore u table index own) s = .next
      (if u.val < 64 ∧ table.val = tL2 then
        ((s.rewrite u.val table.val index).countRestored u.val).restoreL2 u.val index own
      else (s.rewrite u.val table.val index).countRestored u.val) :=
  congrArg Host.Outcome.next (if_neg (by simp [hfw, habsent]))

/-- The restored contents of a word begin no live condition and make no word absent. -/
theorem State.restoreL2_leaves (cell word : Nat) (own : Bool) (s : State) :
    (s.restoreL2 cell word own).tbl.absent ⊆ s.tbl.absent ∧ (s.restoreL2 cell word own).flt.live ⊆ s.flt.live := by
  have hevent (t : State) (habsent : t.tbl.absent = s.tbl.absent) (hflt : t.flt = s.flt) (obj dest : Nat) :
      (t.restoredEvent cell obj dest own).tbl.absent ⊆ s.tbl.absent ∧ (t.restoredEvent cell obj dest own).flt.live ⊆ s.flt.live := by
    rw [State.restoredEvent, State.learnEvent_tbl, State.learnEvent_live, habsent, hflt]
    exact ⟨List.Subset.refl _, List.Subset.refl _⟩
  have hfree (obj : Nat) : (s.dynFree obj).tbl.absent ⊆ s.tbl.absent ∧ (s.dynFree obj).flt.live ⊆ s.flt.live :=
    ⟨(State.dynFree_work obj s).absent, (State.dynFree_work obj s).live⟩
  have hkept : s.tbl.absent ⊆ s.tbl.absent ∧ s.flt.live ⊆ s.flt.live := ⟨List.Subset.refl _, List.Subset.refl _⟩
  unfold State.restoreL2
  split
  · exact hkept
  · split <;> dsimp only
    · split
      · exact hevent s rfl rfl _ _
      · exact hkept
    · split
      · split
        · exact hevent (s.onTbl _) rfl rfl _ _
        · exact hfree _
      · exact hfree _

/-- The live condition of a unit ends with its last absent word. -/
theorem State.rewrite_ends {u table index : Nat} {s : State} (hruns : s.fltRuns = true) (habsent : s.isAbsent u table index = true)
    (hlast : ∀ e ∈ s.tbl.absent, e.1 = u → e = (u, table, index)) : eccEvent u ∉ (s.rewrite u table index).flt.live := by
  dsimp only [State.rewrite]
  rw [if_pos habsent]
  split
  next hany =>
    obtain ⟨e, he, heu⟩ := List.any_eq_true.mp hany
    obtain ⟨hmem, hne⟩ := List.mem_filter.mp he
    exact absurd (hlast e hmem (beq_iff_eq.mp heu)) (bne_iff_ne.mp hne)
  next => exact State.endLive_not_live hruns

theorem tableWordRestore_spec {s : State} {u : Fin 72} {table : Fin 16} {index : Nat} (hfw : s.crn.fwRuns = true)
    (habsent : s.isAbsent u.val table.val index = true) (own : Bool) :
    ∃ t, exec (.tableWordRestore u table index own) s = .next t ∧ t.isAbsent u.val table.val index = false ∧
      (∀ v x i, t.isAbsent v x i = true → s.isAbsent v x i = true) ∧
      (¬(u.val < 64 ∧ table.val = tL2) → ∀ v x i, (v, x, i) ≠ (u.val, table.val, index) → t.isAbsent v x i = s.isAbsent v x i) ∧
      ((∀ e ∈ s.tbl.absent, e.1 = u.val → e = (u.val, table.val, index)) → ∀ e ∈ t.flt.live, e ≠ eccEvent u.val) := by
  have hruns : s.fltRuns = true := by rw [State.fltRuns, hfw, Bool.true_or]
  generalize hw : (s.rewrite u.val table.val index).countRestored u.val = w
  have hpresent : w.tbl.absent = s.tbl.absent.filter fun e => e != (u.val, table.val, index) := by
    rw [← hw, State.countRestored_tbl, State.rewrite_tbl]
  have hends (hlast : ∀ e ∈ s.tbl.absent, e.1 = u.val → e = (u.val, table.val, index)) : eccEvent u.val ∉ w.flt.live := by
    rw [← hw, State.countRestored_flt]
    exact State.rewrite_ends hruns habsent hlast
  have hleft : ∀ t : State, t.tbl.absent ⊆ w.tbl.absent → t.isAbsent u.val table.val index = false ∧
      ∀ v x i, t.isAbsent v x i = true → s.isAbsent v x i = true := fun t ht => by
    refine ⟨Bool.eq_false_iff.mpr fun h => ?_, fun v x i h => ?_⟩
    · have hmem := ht (State.isAbsent_iff.mp h)
      rw [hpresent] at hmem
      exact bne_iff_ne.mp (List.mem_filter.mp hmem).2 rfl
    · have hmem := ht (State.isAbsent_iff.mp h)
      rw [hpresent] at hmem
      exact State.isAbsent_iff.mpr (List.mem_filter.mp hmem).1
  have hexec := exec_tableWordRestore hfw habsent own
  rw [hw] at hexec
  by_cases hl2 : u.val < 64 ∧ table.val = tL2
  · obtain ⟨hsub, hlive⟩ := State.restoreL2_leaves u.val index own w
    obtain ⟨hgone, hold⟩ := hleft _ hsub
    exact ⟨_, hexec.trans (congrArg _ (if_pos hl2)), hgone, hold, fun hno => absurd hl2 hno,
      fun hlast e he heq => hends hlast (hlive (heq ▸ he))⟩
  · obtain ⟨hgone, hold⟩ := hleft w (List.Subset.refl _)
    refine ⟨w, hexec.trans (congrArg _ (if_neg hl2)), hgone, hold, fun _ v x i hne => ?_,
      fun hlast e he heq => hends hlast (heq ▸ he)⟩
    rw [Bool.eq_iff_iff, State.isAbsent_iff, State.isAbsent_iff, hpresent, List.mem_filter]
    exact and_iff_left (bne_iff_ne.mpr hne)

/-- Settles O21: the reads, the flush and the setting; learning and aging; errors and their repair. -/
theorem tableUpkeep : Obligations.TableUpkeep := by
  unfold Obligations.TableUpkeep
  refine ⟨⟨?read, ?static, ?lookup, ?stats, ?flush, ?age⟩, ⟨?expiry, ?learns, ?refuses, ?aging⟩,
    fun s u table index h => exec_tableScrub_none h index, ?scrub, ?restore⟩
  case read =>
    intro s r q h h4 h6 he hroom fid mac hnone
    have hexec := exec_tblL2Read_master h h4 h6 he (State.l2Holders_eq_nil hnone)
    refine ⟨fun hm => hexec.trans (congrArg _ ?_), fun m hm => hexec.trans (congrArg _ ?_)⟩
    · rw [hm]
      exact State.finish_no (by decide) (by decide)
    · rw [hm]
      exact State.finish_done (.inl rfl) rfl rfl hroom
  case static =>
    intro s r q h h4 h6 he hroom c w hc hfind
    obtain ⟨k, l, hholds⟩ := State.l2Holders_ne_nil hc hfind
    obtain ⟨dest, cells, moved, hexec⟩ := exec_tblL2Read_static h h4 h6 he hholds
    exact ⟨_, hexec.trans (congrArg _ (State.finish_done (.inl rfl) rfl rfl hroom)), rfl, getLsbD_static dest⟩
  case lookup =>
    intro s r q h h4 he hroom c addr
    cases hfind : s.routeFind c (q.f 4 5 0) (q.f 4 9 6) (q.f 4 10 10) addr with
    | none =>
      obtain ⟨hash, hexec⟩ := exec_tblLookup_none h h4 he hfind
      exact ⟨_, hexec.trans (congrArg _ (State.finish_done (.inl rfl) rfl rfl hroom)), rfl, rfl, rfl⟩
    | some x =>
      obtain ⟨level, len, ty, idx⟩ := x
      obtain ⟨hash, hexec⟩ := exec_tblLookup_some h h4 he hfind
      refine ⟨_, hexec.trans (congrArg _ (State.finish_done (.inl rfl) rfl rfl hroom)), rfl, rfl, fun h1 h2 => ?_⟩
      rw [State.lookupMember_plain h1 h2]
      rfl
  case stats =>
    intro s r q h h4 hunit hfit he hroom
    exact ⟨s.tblStatsWords q, (exec_tblStatsRead h h4 hunit hfit he).trans
      (congrArg _ (State.finish_done (.inl rfl) rfl rfl ((s.length_tblStatsWords q).trans_le hroom))), s.length_tblStatsWords q,
      fun j hj => s.tblStatsWords_counter hj⟩
  case flush =>
    intro s r q h h4 he hroom hit
    have hwork := (State.flushHeld_work q s).trans (State.flushRows_work (s.flushNamed q) (s.flushHeld q))
    refine ⟨s.flushed q, (exec_tblL2Flush h h4 he).trans (congrArg _ (State.finish_done (.inl rfl) rfl rfl hroom)), ?_, hwork.stg,
      fun e hmem hhit hst hr => ?_⟩
    · exact congrArg (List.filter _) hwork.master
    · exact State.flushRows_gone (List.mem_filter.mpr ⟨hmem, hhit⟩) (((State.flushHeld_work q s).cell_st _).trans hst)
        (((State.flushHeld_work q s).cell_resetting _).trans hr)
  case age =>
    intro s r q h h4 hlo hhi he
    have hstg := State.setImm_stg 0x0513 q (setAge q) s
    exact ⟨_, exec_tblAgeSet h h4 hlo hhi he, by ext1 <;> simp, State.setAge_ageWord q s, by rw [hstg], by rw [hstg], by rw [hstg]⟩
  case expiry =>
    intro s c fid mac
    exact ⟨_, rfl, rfl, by rw [State.onCell_cell_same]; rfl, fun d hd => State.onCell_cell_other hd ..⟩
  case learns =>
    intro s own r rest hfw hreports hkind hmaster hroom hplace
    obtain ⟨⟨cells, hlearned⟩, hrest, hstg, hevt⟩ := State.learned_spec r (s.onTbl fun m => { m with reports := rest })
    refine ⟨_, { dest := r.port, cells := cells, moved := r.time }, (exec_learnReportHandle hfw hreports own).trans
      (congrArg _ (State.handleReport_learns (s := s.onTbl fun m => { m with reports := rest }) own hkind hmaster hroom hplace)),
      ?_, ?_, rfl, rfl, fun b hb => ?_, ?_⟩
    · rw [State.learnEvent_tbl, hrest]; rfl
    · rw [State.master, State.learnEvent_tbl]; exact hlearned
    · rw [BitVec.getLsbD_or, Bool.or_eq_true] at hb
      rw [State.learnEvent_evt, BitVec.getLsbD_or, Bool.or_eq_true]
      exact hb.imp_left (hevt b)
    · rw [State.learnEvent_stg, hstg]; rfl
  case refuses =>
    intro s own r rest hfw hreports hkind hmaster hno
    obtain ⟨outcome, hrefuses⟩ :=
      State.handleReport_refuses (s := s.onTbl fun m => { m with reports := rest }) own hkind hmaster hno
    exact ⟨_, (exec_learnReportHandle hfw hreports own).trans (congrArg _ hrefuses), State.learnEvent_tbl ..⟩
  case aging =>
    intro s c fid mac last own e hst hfw hfound hhere h0 hlater
    exact agingPassRow_spec hst hfw hfound hhere h0 hlater last own
  case scrub =>
    intro s u table index hscrubs htable hruns src
    have hsrc : (eccEvent u.val).1 = src := eccEvent_src u.val
    have hexec := exec_tableScrub hscrubs htable index
    refine ⟨hexec .clean, ⟨_, hexec .corrected, ?_, fun hu => ?_, fun hu => ?_⟩, _, hexec .uncorrectable, ?_, ?_, ?_, ?_⟩
    · dsimp only
      split <;> rfl
    · dsimp only
      rw [if_pos hu]
      exact State.bump_count_same ..
    · dsimp only
      rw [if_neg (Nat.not_lt.mpr hu)]
      exact State.bump_count_same ..
    · intro hchunk hstaging hhold hsummit
      dsimp only
      rw [State.wordError_word index s hchunk hstaging hhold hsummit, ← hsrc]
      exact State.wordLost_spec hruns table.val index
    · intro hhold
      dsimp only
      rw [hhold]
      exact State.wordError_hold index s
    · intro hsummit
      rw [hsummit] at htable
      dsimp only
      rw [hsummit]
      exact State.wordError_summit index s (unitTable_ridge htable)
    · intro hbuffer
      exact State.wordError_buffer index s (unitTable_cell htable hbuffer) hruns hbuffer
  case restore =>
    intro s u table index own hfw habsent
    exact tableWordRestore_spec hfw habsent own

end Sys2Proof.Machine
end

section
/-!
REFUTATION of Operate (O26). Of an OPERATE that creates its record it says by how much the creations of the engine and those of the zone
rise, for an engine of any number. The model keeps every counter in one table, under a key of kind, unit and index that tells engines from
zones for engine numbers below 2^32 alone. An engine far beyond the module's 128 has, for its count of creations, the key of the
zone's (09 R343). A creation there is counted under both, so that the counter rises by two.
-/

namespace Sys2Proof.Machine

open Sys2Proof

/-- An engine number that no engine of the module has. -/
def farEngine : Nat := 3 * 2 ^ 32

/-- One key for the engine's creations and for those of zone 0. -/
theorem ckey_farEngine : ckey 8 farEngine 1 = ckey 11 0 1 := by decide

/-- The configuration: zone 0 admits creations, and program 5 creates and runs no instruction. -/
def creatingCfg : Cfg := [(cfgKey 0x0603 0, [0, 1280, 1000, 128]), (cfgKey 0x0701 5, [wd (5 + 2 ^ 13), 0, 0])]

/-- An OPERATE of cell 0 for program 5 at that engine. -/
def farOperate : Op :=
  { cell := 0, tag := 0, msg := [wd (1 + 5 * 2 ^ 16)] ++ List.replicate 15 0, keyLen := 0, engine := farEngine, place := .home, fid := 0
    wait := true, program := 5, ready := 0 }

/-- A module with a formatted, empty flow store and that operation at its home. -/
def farHome : State :=
  { State.reset with stg := { cur := creatingCfg }, flo := { formatted := true, ops := [farOperate] } }

/-- The key that the operation carries. -/
def farKey : FKey := msgKey farOperate.msg farOperate.keyLen

theorem farHome_atHome : farHome.AtHome 0 0 farOperate := by
  unfold State.AtHome; decide +kernel

theorem farHome_epochCfg : farHome.epochCfg (msgEpoch farOperate.msg) = some creatingCfg := by decide +kernel

/-- What the operation leaves. -/
def farDone : State :=
  match execOperate 0 0 none 0 farHome with | .next t => t | _ => farHome

theorem exec_operate_farHome : exec (.operate 0 0 none 0) farHome = .next farDone := rfl

/-- The creation at the engine and that in the zone are counted in one place. -/
theorem farDone_count : farDone.count 8 farEngine 1 = 2 := by decide +kernel

theorem farHome_freeSlot : farHome.freeSlot (bucketA (farHome.hashKey farKey)) = some (bucketA (farHome.hashKey farKey)) := by
  decide +kernel

/-- Refutes O26: the count of the engine's creations is to rise from 0 to 1, and it rises to 2. -/
theorem not_operate : ¬ Obligations.Operate := by
  unfold Obligations.Operate
  intro h
  obtain ⟨-, hmiss⟩ := h
  obtain ⟨-, hcfg⟩ := hmiss farHome 0 0 0 farOperate farHome_atHome (by decide +kernel) (by decide +kernel)
  obtain ⟨-, hnone⟩ := hcfg creatingCfg farHome_epochCfg
  obtain ⟨-, -, hcreates⟩ := hnone rfl (by decide +kernel)
  obtain ⟨-, hfree, -⟩ := hcreates (by decide +kernel) (by decide +kernel)
  obtain ⟨t, hexec, -, -, -, -, hcounted, -⟩ := hfree _ (by decide +kernel) (.inl farHome_freeSlot) (by decide +kernel)
  obtain rfl := Host.Outcome.next.inj (exec_operate_farHome.symm.trans hexec)
  exact absurd (farDone_count.symm.trans hcounted) (by decide +kernel)

end Sys2Proof.Machine
end

section
/-!
PROOF of Exports (O29): the writers of exported and archive records (09 R334, R336, R337), and IPFIX (10 R382).
-/

namespace Sys2Proof.Machine

open Sys2Proof

/-! ## EXPORT_WRITE (09 R334 to R336) -/

/-- The body of the KIND 1 entry of an exported record: the archive record's words 0 and 2 to 11 about the handle, and whether the key is
longer than the entry holds. -/
def Export.body (x : Export) : List Word :=
  let a (i : Nat) : Word := wordAt x.archive i
  [wd ((a 0).toNat + b2n (decide (24 < fld (a 0) 29 24)) * 2 ^ 30), a 2, a 3, a 4, a 5, wd x.handle] ++ (x.archive.drop 6).take 6

theorem Export.length_body (x : Export) : x.body.length ≤ 12 := by
  simp [Export.body]; omega

theorem Export.body_key (x : Export) {i : Nat} (hi : i < 6) : wordAt x.body (6 + i) = wordAt x.archive (6 + i) := by
  have hpast : wordAt x.body (6 + i) = wordAt ((x.archive.drop 6).take 6) i := by rw [Nat.add_comm]; rfl
  rw [hpast, wordAt, wordAt, List.getD_eq_getElem?_getD, List.getD_eq_getElem?_getD, List.getElem?_take_of_lt hi, List.getElem?_drop]

/-- Word 0 keeps the fields of the record's, and its bit 30 tells of a cut key. -/
theorem word0_cut (w : Word) (cut : Bool) : fld (wd (w.toNat + b2n cut * 2 ^ 30)) 29 0 = fld w 29 0 ∧
    (w.toNat < 2 ^ 30 → bit (wd (w.toNat + b2n cut * 2 ^ 30)) 30 = cut) := by
  rw [bit_eq_fld]
  cases cut <;> simp only [fld, nfld, b2n, wd, BitVec.toNat_ofNat, if_true, Bool.false_eq_true, if_false, decide_eq_true_eq,
    decide_eq_false_iff_not] <;> omega

theorem exec_exportWrite {s : State} {e : Fin 128} {x : Export} {rest : List Export} (hfw : s.crn.fwRuns = true)
    (hqueue : tabGet [] s.flo.evq e.val = x :: rest) (own : Bool) : exec (.exportWrite e own) s = .next
      (((s.onFlo fun f => { f with evq := tabPut [] e.val rest f.evq }).noteEvt (stackSource e.val)).pushEvent 1 0
        (stackSource e.val) x.time x.body own) := by
  change execExportWrite e own s = _
  unfold execExportWrite
  rw [hqueue]
  exact congrArg Host.Outcome.next (if_neg (by rw [hfw]; decide))

/-! ## ARCHIVE_WRITE (09 R337) -/

theorem exec_archiveWrite {s : State} {e : Fin 128} {x : Export} {rest : List Export} (hruns : s.enginesRun = true)
    (hqueue : tabGet [] s.flo.arq e.val = x :: rest) (hgib : s.flo.archiveGib ≠ 0) :
    let n := tabGet 0 s.flo.head (e.val / 32)
    exec (.archiveWrite e) s = .next (s.onFlo fun f => { f with
      arq := tabPut [] e.val rest f.arq
      archive := tabIns (e.val / 32 * 2 ^ 32 + n % s.archiveCap) x.archive f.archive
      head := tabPut 0 (e.val / 32) (n + 1) f.head }) := by
  have hcap : s.archiveCap ≠ 0 := Nat.mul_ne_zero hgib (by decide)
  change execArchiveWrite e s = _
  unfold execArchiveWrite
  rw [hruns, hqueue]
  simp [hcap]

/-! ## IPFIX (10 R382) -/

/-- A template that is not listed takes the next ID. -/
theorem ipfixId_new {l : List (Nat × Nat × List IpfixField)} {k : Nat × Nat × List IpfixField} (h : k ∉ l) :
    ipfixId l k = 256 + l.length := by
  rw [ipfixId, List.findIdx_eq_length_of_false]
  intro x hx
  exact beq_eq_false_iff_ne.mpr fun hk => h (hk ▸ hx)

/-- Its ID stays once it is listed. -/
theorem ipfixId_listed (l : List (Nat × Nat × List IpfixField)) (k : Nat × Nat × List IpfixField) :
    ipfixId (if k ∈ l then l else l ++ [k]) k = ipfixId l k := by
  split
  · rfl
  next h =>
    rw [ipfixId_new h, ipfixId, List.findIdx_append, List.findIdx_eq_length_of_false]
    · simp
    · exact fun x hx => beq_eq_false_iff_ne.mpr fun hk => h (hk ▸ hx)

/-- What IPFIX_EXPORT leaves before it frees staging: the record sent, its template listed, the bucket at `b`. -/
def State.ipfixSent (stack : Nat) (r : List Word) (rest : List (List Word)) (b : Bucket) (s : State) : State :=
  let k := emitTemplate s.stg.cur r
  (s.sendIpfix (if k ∈ s.prg.templates then [] else [k]) [r]).onPrg fun g => { g with
    staging := tabPut [] stack rest g.staging
    ipfixBucket := b
    templates := if k ∈ s.prg.templates then g.templates else g.templates ++ [k] }

/-- With a collector, one message goes out. -/
theorem State.sendIpfix_some {s : State} {a : List Word} {udp m : Nat} (h : s.img.policy.collector = some (a, udp, m))
    (l : List (Nat × Nat × List IpfixField)) (records : List (List Word)) : s.sendIpfix l records = s.emit (.ipfix m a udp s.emitSet.2
      (l.map fun k => { id := ipfixId s.prg.templates k, fields := k.2.2 })
      (records.map fun r => ipfixRecord s.stg.cur (ipfixId s.prg.templates (emitTemplate s.stg.cur r)) s.tim.utc r)) := by
  rw [State.sendIpfix, h]

theorem State.onBpm_id (s : State) : s.onBpm id = s := rfl

/-- IPFIX_EXPORT sends the oldest record, and may free a buffer of the staging. -/
theorem exec_ipfixExport {s : State} {stack : Fin 4} {r : List Word} {rest : List (List Word)} (hfw : s.crn.fwRuns = true)
    (hstaged : tabGet [] s.prg.staging stack.val = r :: rest) (hcollector : s.img.policy.collector ≠ none)
    (htoken : (s.prg.ipfixBucket.draw 1000000 (1 + Config.rateDepth 7) 1 s.tim.up).1 = true) :
    ∃ b m, exec (.ipfixExport stack) s = .next ((s.ipfixSent stack.val r rest b).onBpm m) := by
  generalize hdraw : s.prg.ipfixBucket.draw 1000000 (1 + Config.rateDepth 7) 1 s.tim.up = draw at htoken
  have hready : ¬(s.img.policy.collector.isNone = true ∨ (!s.crn.fwRuns) = true ∨ (!draw.1) = true) := by
    rw [hfw, htoken, Option.isNone_iff_eq_none]; simpa using hcollector
  change ∃ b m, execIpfixExport stack s = _
  rw [execIpfixExport, hdraw]
  simp only [hstaged, if_neg hready]
  rw [show (s.sendIpfix _ [r]).onPrg _ = s.ipfixSent stack.val r rest draw.2 by simp [State.ipfixSent]]
  refine ⟨draw.2, ?_⟩
  split
  · split
    · exact ⟨_, rfl⟩
    · exact ⟨id, congrArg Host.Outcome.next (State.onBpm_id _).symm⟩
  · exact ⟨id, congrArg Host.Outcome.next (State.onBpm_id _).symm⟩

/-- The record's template is listed afterwards. -/
theorem mem_listed (l : List (Nat × Nat × List IpfixField)) (k : Nat × Nat × List IpfixField) : k ∈ if k ∈ l then l else l ++ [k] := by
  split
  · assumption
  · simp

/-- Settles O29: the exported record that firmware delivers, the archive writer, and the two IPFIX rows. -/
theorem exports : Obligations.Exports := by
  unfold Obligations.Exports
  refine ⟨⟨fun s e own x rest hfw hqueue => ?_, fun s e x rest hruns hqueue hgib => ?_⟩,
    fun s stack r rest a udp m hfw hstaged hcollector htoken => ?_, fun s a udp m hfw hlisted hcollector => ?_⟩
  · have hword0 := word0_cut (wordAt x.archive 0) (decide (24 < fld (wordAt x.archive 0) 29 24))
    refine ⟨_, x.body, exec_exportWrite hfw hqueue own, rfl, tabGet_tabPut_same .., fun j hj => tabGet_tabPut_other hj ..,
      x.length_body, hword0.1, rfl, fun hw => ?_, fun i hi => ?_, fun i hi => x.body_key hi⟩
    · exact (Bool.eq_iff_iff.mp (hword0.2 hw)).trans decide_eq_true_iff
    · match i, hi with
      | 0, _ | 1, _ | 2, _ | 3, _ => rfl
  · refine ⟨_, exec_archiveWrite hruns hqueue hgib, rfl, ?_, ?_, ?_, fun k hk => ?_⟩
    · exact tabGet_tabPut_same ([] : List Export) ..
    · simp only [State.onFlo, tabGet_tabPut_same]
    · exact congrArg (fun l : Option (List Word) => l.getD []) (tabFind_tabIns_same ..)
    · exact tabFind_tabIns_other hk ..
  · obtain ⟨bucket, freed, hexec⟩ := exec_ipfixExport hfw hstaged (by rw [hcollector]; simp) htoken
    have hsent := State.sendIpfix_some hcollector
      (if emitTemplate s.stg.cur r ∈ s.prg.templates then [] else [emitTemplate s.stg.cur r]) [r]
    refine ⟨_, hexec, ?_, ?_, ?_, ?_, ipfixId_new, ?_⟩ <;> simp only [State.ipfixSent, hsent]
    · rfl
    · exact tabGet_tabPut_same ..
    · exact mem_listed ..
    · exact ipfixId_listed ..
    · show s.out ++ [_] = _
      split <;> rfl
  · change execIpfixTemplateTimer s = _
    rw [execIpfixTemplateTimer, if_pos ⟨hfw, hlisted⟩, State.sendIpfix_some hcollector]
    rfl

end Sys2Proof.Machine
end

section
/-!
PROOF of RidgeCaches (O25): the summit caches, and the messages that keep them coherent (09 R319, R324 to R329).
-/

namespace Sys2Proof.Machine

open Sys2Proof

/-! ## The first of a list that a test names -/

/-- What it takes passes the test. -/
theorem takeFirst_holds {α : Type} {p : α → Bool} {x : α} {l rest : List α} (h : takeFirst p l = some (x, rest)) : p x = true := by
  induction l generalizing rest with
  | nil => simp [takeFirst] at h
  | cons y l ih =>
    rw [takeFirst] at h
    split at h
    · simp_all
    · obtain ⟨r, hr, heq⟩ := Option.map_eq_some_iff.mp h
      obtain ⟨rfl, -⟩ := Prod.mk.inj heq
      exact ih hr

theorem takeFirst_mem {α : Type} {p : α → Bool} {x : α} {l rest : List α} (h : takeFirst p l = some (x, rest)) : x ∈ l := by
  induction l generalizing rest with
  | nil => simp [takeFirst] at h
  | cons y l ih =>
    rw [takeFirst] at h
    split at h
    · simp_all
    · obtain ⟨r, hr, heq⟩ := Option.map_eq_some_iff.mp h
      obtain ⟨rfl, -⟩ := Prod.mk.inj heq
      exact List.mem_cons_of_mem _ (ih hr)

/-- One that follows all that fail the test is the first. -/
theorem takeFirst_append_last {α : Type} {p : α → Bool} {x : α} {l : List α} (hl : ∀ y ∈ l, p y = false) (hx : p x = true) :
    takeFirst p (l ++ [x]) = some (x, l) := by
  induction l with
  | nil => simp [takeFirst, hx]
  | cons y l ih =>
    obtain ⟨hy, hl⟩ := List.forall_mem_cons.mp hl
    simp [takeFirst, hy, ih hl]

/-! ## Caches -/

@[simp] theorem State.cacheOf_setCache_same (r : Nat) (l : List CacheEntry) (s : State) : (s.setCache r l).cacheOf r = l :=
  tabGet_tabPut_same ..

/-- A cache changes and a message leaves its ridge. -/
theorem State.pushCoh_setCache (r : Nat) (l : List CacheEntry) (m : Coh) (s : State) : (s.setCache r l).pushCoh m = { s with
    flo := { s.flo with cache := tabPut [] r l s.flo.cache, coh := s.flo.coh ++ [{ m with ord := s.flo.seq + 1 }], seq := s.flo.seq + 1 } } :=
  rfl

/-- An event of the performance monitor, with its counters named. -/
theorem State.pmuEvent_counted (b e n : Nat) (o : Occ) (s : State) : ∃ p, s.pmuEvent b e n o = { s with pmu := p } :=
  ⟨_, State.pmuEvent_eq b e n o s⟩

/-- The cache of a ridge with a used entry at its recent end. -/
def State.usedCache (s : State) (r : Nat) (x : CacheEntry) : List CacheEntry := ((s.cacheOf r).filter fun z => z.handle != x.handle) ++ [x]

/-- A used entry moves to the recent end, and at 65,536 packets its deltas leave in a FLUSH, which is not counted as a hit. -/
theorem State.useEntry_parts (r : Nat) (x : CacheEntry) (s : State) : ∃ l coh n p a, s.useEntry r x =
      { s with flo := { s.flo with cache := tabPut [] r l s.flo.cache, coh := coh, seq := n }, pmu := p, ctr := a } ∧
    tabGet 0 a (ckey 10 r 0) = s.count 10 r 0 ∧
    (x.dpkts < 65536 → l = s.usedCache r x ∧ coh = s.flo.coh) ∧
    (65536 ≤ x.dpkts → l = s.usedCache r x.zeroed ∧ coh = s.flo.coh ++ [{ x.deltas 4 r with ord := s.flo.seq + 1 }]) := by
  by_cases hmany : 65536 ≤ x.dpkts
  · obtain ⟨p, hp⟩ := State.pmuEvent_counted (64 + r) 6 1 { addr := some x.handle }
      (((s.setCache r (s.usedCache r x.zeroed)).pushCoh (x.deltas 4 r)).bump 10 r 3 1)
    have hused : s.useEntry r x = ((((s.setCache r (s.usedCache r x.zeroed)).pushCoh (x.deltas 4 r)).bump 10 r 3 1).pmuEvent
      (64 + r) 6 1 { addr := some x.handle }) := if_pos hmany
    have hparts : ∃ a, ((s.setCache r (s.usedCache r x.zeroed)).pushCoh (x.deltas 4 r)).bump 10 r 3 1 = { s with
        flo := { s.flo with cache := tabPut [] r (s.usedCache r x.zeroed) s.flo.cache
                            coh := s.flo.coh ++ [{ x.deltas 4 r with ord := s.flo.seq + 1 }], seq := s.flo.seq + 1 }, ctr := a } ∧
        tabGet 0 a (ckey 10 r 0) = s.count 10 r 0 :=
      ⟨_, congrArg (State.bump 10 r 3 1) (State.pushCoh_setCache ..),
        State.bump_count_other (k := 10) (i := r) (x := 3) (y := 0) (by decide) 1 s⟩
    obtain ⟨a, ha, hhits⟩ := hparts
    rw [ha] at hp hused
    exact ⟨_, _, _, p, a, hused.trans hp, hhits, fun h => absurd h (by omega), fun _ => ⟨rfl, rfl⟩⟩
  · rw [State.useEntry, if_neg hmany]
    exact ⟨_, _, _, _, _, rfl, rfl, fun _ => ⟨rfl, rfl⟩, fun h => absurd h hmany⟩

/-- Only the result of the cell's own operation is written. -/
theorem answered_of_mem {c tag : Nat} {words : Op → List Word} {l : List Op} {p : Op}
    (hp : p ∈ l.filterMap fun o : Op => if o.cell = c ∧ o.tag = tag then some { o with place := .done, result := words o } else some o)
    (hcell : p.cell = c) (htag : p.tag = tag) : ∃ o : Op, o.tag = tag ∧ p = { o with place := .done, result := words o } := by
  obtain ⟨o, -, ho⟩ := List.mem_filterMap.mp hp
  split at ho
  next h => exact ⟨o, h.2, (Option.some.inj ho).symm⟩
  next h => cases ho; exact absurd ⟨hcell, htag⟩ h

/-! ## CACHE_LOOKUP (09 R319, R324 to R326) -/

/-- The entries of a ridge that answer an operation. -/
def CacheEntry.answers (o : Op) (x : CacheEntry) : Bool :=
  x.holds (msgKey o.msg o.keyLen) && x.epoch == msgEpoch o.msg && x.program == msgProgram o.msg

/-- An entry that counts an operation. -/
def CacheEntry.counts (x : CacheEntry) (m : List Word) : CacheEntry :=
  { x with dpkts := x.dpkts + 1, dbytes := x.dbytes + msgLength m, latest := max x.latest (msgTime m) }

/-- An entry that takes a VOID back. -/
def CacheEntry.voids (x : CacheEntry) (m : List Word) : CacheEntry := { x with dpkts := x.dpkts - 1, dbytes := x.dbytes - msgLength m }

section
variable {s : State} {c : Fin 64} {tag : Fin 256} {o : Op}
  (hsent : (s.flo.ops.find? fun p => p.cell == c.val && p.tag == tag.val && decide (p.place = .cache)) = some o)
  (hnext : s.nextAtCache (ridgeOf c.val) (o.engine / 32) o.ord = true)
include hsent hnext

/-- An operation that no entry answers goes on to its home. -/
theorem exec_cacheLookup_miss (hmiss : (s.cacheOf (ridgeOf c.val)).find? (·.answers o) = none) :
    ∃ p, exec (.cacheLookup c tag false false) s = .next { s.onFlo fun f => { f with
      ops := (f.ops.filter fun p => !(p.cell == c.val && p.tag == tag.val)) ++ [{ o with place := .home, ord := f.seq + 1 }]
      seq := f.seq + 1 } with pmu := p } := by
  change ∃ p, Host.Outcome.next (s.lookupOp c.val tag.val false) = _
  unfold State.lookupOp
  simp only [hsent, hnext, State.onIf, Bool.not_true, Bool.false_eq_true, if_false]
  obtain ⟨p, hp⟩ := s.pmuEvent_counted (64 + ridgeOf c.val) 1 1
    { master := some c.val, cls := some 0, addr := some (s.cachedHandle (ridgeOf c.val) (msgKey o.msg o.keyLen)) }
  rw [hp]
  rw [State.cacheOf] at hmiss ⊢
  simp only [CacheEntry.answers] at hmiss
  simp only [hmiss]
  exact ⟨_, congrArg Host.Outcome.next (State.pmuEvent_eq ..)⟩

/-- One that an entry answers is counted there. -/
theorem exec_cacheLookup_hit {x : CacheEntry} (hhit : (s.cacheOf (ridgeOf c.val)).find? (·.answers o) = some x) :
    ∃ p q, exec (.cacheLookup c tag false false) s = .next { (((State.useEntry (ridgeOf c.val) (x.counts o.msg) { s with pmu := p }).onOp
      c.val tag.val fun o => some { o with place := .done, result := resultWords o.tag c.val 0 0 0 1 x.handle x.y }).bump
      10 (ridgeOf c.val) 0 1) with pmu := q } := by
  change ∃ p q, Host.Outcome.next (s.lookupOp c.val tag.val false) = _
  unfold State.lookupOp
  simp only [hsent, hnext, State.onIf, Bool.not_true, Bool.false_eq_true, if_false]
  obtain ⟨p, hp⟩ := s.pmuEvent_counted (64 + ridgeOf c.val) 1 1
    { master := some c.val, cls := some 0, addr := some (s.cachedHandle (ridgeOf c.val) (msgKey o.msg o.keyLen)) }
  rw [hp]
  rw [State.cacheOf] at hhit ⊢
  simp only [CacheEntry.answers] at hhit
  simp only [hhit]
  exact ⟨p, _, congrArg Host.Outcome.next (State.pmuEvent_eq ..)⟩

end

section
variable {s : State} {c : Fin 64} {v : VoidMsg} {rest : List VoidMsg}
  (htaken : takeFirst (fun v => v.cell == c.val && s.sentVoid v && s.nextAtCache (ridgeOf c.val) (s.voidHome v / 32) v.ord) s.flo.voids =
    some (v, rest))
include htaken

/-- A VOID whose key no entry holds goes on to its home. -/
theorem exec_cacheLookup_void_miss (tag : Fin 256)
    (hmiss : (s.cacheOf (ridgeOf c.val)).find? (fun x => x.holds (msgKey v.msg v.keyLen)) = none) :
    ∃ p, exec (.cacheLookup c tag true false) s = .next { s.onFlo fun f => { f with
      voids := rest ++ [{ v with passed := true, ord := f.seq + 1 }], seq := f.seq + 1 } with pmu := p } := by
  change ∃ p, Host.Outcome.next (s.lookupVoid c.val false) = _
  unfold State.lookupVoid
  simp only [htaken, State.onIf, Bool.false_eq_true, if_false]
  obtain ⟨p, hp⟩ := s.pmuEvent_counted (64 + ridgeOf c.val) 1 1
    { master := some c.val, cls := some 1, addr := some (s.cachedHandle (ridgeOf c.val) (msgKey v.msg v.keyLen)) }
  rw [hp]
  rw [State.cacheOf] at hmiss ⊢
  simp only [hmiss]
  exact ⟨_, congrArg Host.Outcome.next (State.pmuEvent_eq ..)⟩

/-- One whose key an entry holds is taken off it. -/
theorem exec_cacheLookup_void_hit (tag : Fin 256) {x : CacheEntry}
    (hhit : (s.cacheOf (ridgeOf c.val)).find? (fun x => x.holds (msgKey v.msg v.keyLen)) = some x) :
    ∃ p, exec (.cacheLookup c tag true false) s = .next (State.useEntry (ridgeOf c.val) (x.voids v.msg)
      { s.onFlo fun f => { f with voids := rest } with pmu := p }) := by
  change ∃ p, Host.Outcome.next (s.lookupVoid c.val false) = _
  unfold State.lookupVoid
  simp only [htaken, State.onIf, Bool.false_eq_true, if_false]
  obtain ⟨p, hp⟩ := s.pmuEvent_counted (64 + ridgeOf c.val) 1 1
    { master := some c.val, cls := some 1, addr := some (s.cachedHandle (ridgeOf c.val) (msgKey v.msg v.keyLen)) }
  rw [hp]
  rw [State.cacheOf] at hhit ⊢
  simp only [hhit]
  exact ⟨p, rfl⟩

end

/-! ## INVALIDATE and COLLECT at a ridge (09 R328) -/

section
variable {s : State} {r : Fin 8} {h : Fin 268435456} {m : Coh} {rest : List Coh}
  (htaken : takeFirst (fun m : Coh => m.ridge == r.val && m.handle / 2 ^ 26 == h.val / 2 ^ 26 && decide (m.kind < 2)) s.flo.coh =
    some (m, rest)) (hhandle : m.handle = h.val)
include htaken hhandle

/-- A ridge without an entry says so. -/
theorem State.ridgeAck_absent (habsent : ((s.cacheOf r.val).find? fun x => x.handle == h.val) = none) : ∃ p, s.ridgeAck m.kind r.val h.val =
    { (s.onFlo fun f => { f with coh := rest }).pushCoh { kind := 2, ridge := r.val, handle := h.val, empty := true } with pmu := p } := by
  unfold State.ridgeAck State.takeRidge
  simp only [htaken, hhandle, and_self, if_true]
  obtain ⟨p, hp⟩ := (s.onFlo fun f => { f with coh := rest }).pmuEvent_counted (64 + r.val) 5 1 { addr := some h.val }
  rw [hp]
  rw [State.cacheOf] at habsent ⊢
  simp only [State.onFlo, habsent]
  exact ⟨p, rfl⟩

/-- One with an entry answers with its deltas; it drops the entry or zeroes it. -/
theorem State.ridgeAck_held {x : CacheEntry} (hheld : ((s.cacheOf r.val).find? fun x => x.handle == h.val) = some x) :
    ∃ p, s.ridgeAck m.kind r.val h.val = { s with
      flo := { s.flo with
        cache := tabPut [] r.val (if m.kind = 0 then (s.cacheOf r.val).filter (fun y => y.handle != h.val)
          else (s.cacheOf r.val).map fun y => if y.handle = h.val then y.zeroed else y) s.flo.cache
        coh := rest ++ [{ x.deltas 2 r.val with ord := s.flo.seq + 1 }], seq := s.flo.seq + 1 }
      pmu := p } := by
  unfold State.ridgeAck State.takeRidge
  simp only [htaken, hhandle, and_self, if_true]
  obtain ⟨p, hp⟩ := (s.onFlo fun f => { f with coh := rest }).pmuEvent_counted (64 + r.val) 5 1 { addr := some h.val }
  rw [hp]
  rw [State.cacheOf] at hheld ⊢
  simp only [State.onFlo, hheld]
  exact ⟨p, State.pushCoh_setCache ..⟩

end

/-- The command that asks a ridge is the message's kind. -/
theorem exec_ridge {s : State} {r : Fin 8} {h : Fin 268435456} {m : Coh} {rest : List Coh}
    (htaken : takeFirst (fun m : Coh => m.ridge == r.val && m.handle / 2 ^ 26 == h.val / 2 ^ 26 && decide (m.kind < 2)) s.flo.coh =
      some (m, rest)) :
    exec (if m.kind = 0 then .invalidate r h else .collect r h) s = .next (s.ridgeAck m.kind r.val h.val) := by
  have hkind := takeFirst_holds htaken
  simp only [Bool.and_eq_true, decide_eq_true_eq] at hkind
  by_cases hk : m.kind = 0
  · rw [if_pos hk, hk]
    rfl
  · rw [if_neg hk, (by omega : m.kind = 1)]
    rfl

/-! ## ACK, FLUSH and RELEASE at the home (09 R326 to R330) -/

section
variable {s : State} {r h : Nat} {m : Coh} {rest : List Coh}
  (htaken : takeFirst (fun m : Coh => m.ridge == r && m.handle == h && decide (2 ≤ m.kind)) s.flo.coh = some (m, rest))
  (hclear : s.routeClear r (engineOf h) m.ord = true)
include htaken

theorem handle_of_taken : m.ridge = r ∧ m.handle = h := by
  have hm := takeFirst_holds htaken
  simp only [Bool.and_eq_true, beq_iff_eq] at hm
  exact hm.1

include hclear

/-- A message in its turn, about a record that waits for no ACK. -/
theorem State.takeHome_free (hfree : tabFind s.flo.locked h = none) :
    s.takeHome m.kind r h = some (m, s.onFlo fun f => { f with coh := rest }) := by
  have hrests : s.cohRests m = false := by simp [State.cohRests, (handle_of_taken htaken).2, hfree]
  unfold State.takeHome
  simp [htaken, hrests, hclear]

omit hclear in
/-- A message before its turn stays. -/
theorem State.takeHome_early (kind : Nat) (hearly : s.routeClear r (engineOf h) m.ord = false) : s.takeHome kind r h = none := by
  unfold State.takeHome
  simp [htaken, hearly]

/-- An ACK in its turn. -/
theorem State.takeHome_ack (hack : m.kind = 2) : s.takeHome 2 r h = some (m, s.onFlo fun f => { f with coh := rest }) := by
  have hrests : s.cohRests m = false := by simp [State.cohRests, hack]
  unfold State.takeHome
  simp [htaken, hrests, hclear, hack]

end

/-- What deltas do to a healthy record. -/
theorem State.applyCoh_healthy {s : State} {m : Coh} {q : Rec} (hrec : s.recOf m.handle = some q) (hq : q.quarantined = false) (clear : Bool) :
    s.applyCoh m clear = s.setRec m.handle (if clear then (q.absorb m).clearRidge m.ridge else q.absorb m) := by
  unfold State.applyCoh
  simp only [hrec, hq, Bool.false_eq_true, if_false]

/-- A record that waits for no ACK is not unlocked. -/
theorem State.unlock_free {s : State} {h : Nat} (hfree : tabFind s.flo.locked h = none) : s.unlock h = s := by
  unfold State.unlock
  simp only [hfree]

/-- One that waits for further ACKs stays. -/
theorem State.unlock_waits {s : State} {h : Nat} {k : Lock} (hlock : tabFind s.flo.locked h = some k) (hleft : k.left ≠ 0) :
    s.unlock h = s := by
  unfold State.unlock
  simp only [hlock, if_pos hleft]

/-- A write's lock ends with the last ACK. -/
theorem State.unlock_write {s : State} {h : Nat} {k : Lock} (hlock : tabFind s.flo.locked h = some k) (hleft : k.left = 0)
    (hwhy : k.why = .write) : s.unlock h = s.onFlo fun f => { f with locked := tabDel h f.locked } := by
  unfold State.unlock
  simp only [hlock, hwhy, hleft, ne_eq, not_true_eq_false, if_false]

/-- An ACK takes its ridge off the lock of the record. -/
def ackLock (r h : Nat) (l : Tab Lock) : Tab Lock :=
  l.map fun e => (e.1, if e.1 = h then { e.2 with left := e.2.left &&& ~~~ BitVec.ofNat 8 (2 ^ r) } else e.2)

theorem tabFind_ackLock (r h : Nat) (l : Tab Lock) :
    tabFind (ackLock r h l) h = (tabFind l h).map fun k => { k with left := k.left &&& ~~~ BitVec.ofNat 8 (2 ^ r) } := by
  induction l with
  | nil => rfl
  | cons e l ih =>
    rw [ackLock, List.map_cons, tabFind, ← ackLock, ih, tabFind]
    split <;> simp_all

/-- Whether an ACK clears its ridge's bit: not while the ridge keeps its entry for a READ, the sweeper or no lock. -/
def Coh.clears (m : Coh) (lock : Option Lock) : Bool :=
  !(match lock with
    | some k => (match k.why with | .read _ _ | .sweep => !m.empty | _ => false)
    | none => !m.empty)

/-- An ACK that is taken is applied; then the record may be unlocked. -/
theorem exec_ack {s t : State} {r : Fin 8} {h : Fin 268435456} {slots : BitVec 8} {m : Coh}
    (htake : (s.sees slots).takeHome 2 r.val h.val = some (m, t)) : exec (.ack r h slots) s = .next
      (((t.applyCoh m (m.clears (tabFind t.flo.locked h.val))).onFlo fun f => { f with locked := ackLock r.val h.val f.locked }).unlock h.val) := by
  change execAck r h slots s = _
  unfold execAck
  simp only [htake]
  rfl

theorem exec_release {s t : State} {r : Fin 8} {h : Fin 268435456} {slots : BitVec 8} {m : Coh}
    (htake : (s.sees slots).takeHome 3 r.val h.val = some (m, t)) : exec (.release r h slots) s = .next (t.applyCoh m true) := by
  change execRelease r h slots s = _
  unfold execRelease
  simp only [htake]

/-- A FLUSH on its way comes first. -/
theorem exec_flush {s t : State} {r : Fin 8} {h : Fin 268435456} {slots : BitVec 8} {m : Coh}
    (hway : (s.flo.coh.any fun m => m.ridge == r.val && m.handle == h.val && decide (2 ≤ m.kind)) = true)
    (htake : (s.sees slots).takeHome 4 r.val h.val = some (m, t)) : exec (.flush r h slots) s = .next (t.applyCoh m false) := by
  change execFlush r h slots s = _
  have hstays : (!((s.sees slots).flo.coh.any fun m => m.ridge == r.val && m.handle == h.val && decide (2 ≤ m.kind))) = false :=
    congrArg not hway
  unfold execFlush
  simp only [hstays, State.onIf, Bool.false_eq_true, if_false, htake]

/-- With none on its way the entry's deltas leave, and reach the home if it is their turn. -/
theorem exec_flush_writes {s : State} {r : Fin 8} {h : Fin 268435456} (slots : BitVec 8)
    (hnone : (s.flo.coh.any fun m => m.ridge == r.val && m.handle == h.val && decide (2 ≤ m.kind)) = false) :
    let u := (s.sees slots).writeFlush r.val h.val
    (u.takeHome 4 r.val h.val = none → exec (.flush r h slots) s = .next u) ∧
    ∀ m t, u.takeHome 4 r.val h.val = some (m, t) → exec (.flush r h slots) s = .next (t.applyCoh m false) := by
  have hleaves : (!((s.sees slots).flo.coh.any fun m => m.ridge == r.val && m.handle == h.val && decide (2 ≤ m.kind))) = true :=
    congrArg not hnone
  constructor
  · intro htake
    change execFlush r h slots s = _
    unfold execFlush
    simp only [hleaves, State.onIf, if_true, htake]
  · intro m t htake
    change execFlush r h slots s = _
    unfold execFlush
    simp only [hleaves, State.onIf, if_true, htake]

/-- A message comes after itself on its route. -/
theorem State.routeClear_last (s : State) (cache : Tab (List CacheEntry)) (m : Coh) (n : Nat) (slots : BitVec 8) (p : Pmu) (a : Tab Nat)
    (r e : Nat) : State.routeClear { s with
      hif := { s.hif with slotOwn := slots }, flo := { s.flo with cache := cache, coh := s.flo.coh ++ [m], seq := n }, pmu := p, ctr := a }
      r e m.ord = s.routeClear r e m.ord := by
  unfold State.routeClear
  rw [List.any_append]
  have hlast (q : Bool) (d : Bool) : (q && decide (2 ≤ m.kind ∧ m.ord < m.ord) && d) = false := by simp
  simp only [List.any_cons, List.any_nil, Bool.or_false, hlast]
  rfl

/-- What a ridge writes back. -/
theorem State.writeFlush_parts {s : State} {r h : Nat} {x : CacheEntry}
    (hdelta : ((s.cacheOf r).find? fun x => x.handle == h && decide (x.dpkts ≠ 0 ∨ x.dbytes ≠ 0 ∨ x.latest ≠ 0)) = some x) :
    ∃ p, s.writeFlush r h = { s with
      flo := { s.flo with
        cache := tabPut [] r ((s.cacheOf r).map fun y => if y.handle = h then y.zeroed else y) s.flo.cache
        coh := s.flo.coh ++ [{ x.deltas 4 r with ord := s.flo.seq + 1 }], seq := s.flo.seq + 1 }
      pmu := p, ctr := (s.bump 10 r 3 1).ctr } := by
  have hparts : ((s.setCache r ((s.cacheOf r).map fun y => if y.handle = h then y.zeroed else y)).pushCoh (x.deltas 4 r)).bump 10 r 3 1 =
    { s with
      flo := { s.flo with
        cache := tabPut [] r ((s.cacheOf r).map fun y => if y.handle = h then y.zeroed else y) s.flo.cache
        coh := s.flo.coh ++ [{ x.deltas 4 r with ord := s.flo.seq + 1 }], seq := s.flo.seq + 1 }
      ctr := (s.bump 10 r 3 1).ctr } := congrArg (State.bump 10 r 3 1) (State.pushCoh_setCache ..)
  unfold State.writeFlush
  simp only [hdelta]
  rw [hparts]
  exact State.pmuEvent_counted ..

/-- Settles O25: lookups of operations and VOIDs, the ridges' answers, and ACK, RELEASE and FLUSH at the home. -/
theorem ridgeCaches : Obligations.RidgeCaches := by
  unfold Obligations.RidgeCaches
  refine ⟨⟨fun s c tag o hsent hnext => ⟨fun hmiss => ?miss, fun x hhit => ?hit⟩,
    fun s c tag v rest htaken => ?void⟩,
    fun s r h m rest htaken hhandle => ?ridge,
    fun s r h slots m rest q htaken hrec hq hfree hclear hkind => ?home,
    fun s r h slots m rest q k htaken hack hrec hq hlock hwrite hclear => ?locked,
    fun s r h slots x q hnone hdelta hrec hq hfree => ?flush⟩
  case miss =>
    obtain ⟨p, hexec⟩ := exec_cacheLookup_miss hsent hnext hmiss
    exact ⟨_, hexec, rfl, rfl⟩
  case hit =>
    obtain ⟨p, q, hexec⟩ := exec_cacheLookup_hit hsent hnext hhit
    obtain ⟨l, coh, n, p', a, hused, hhits, hfew, hmany⟩ := State.useEntry_parts (ridgeOf c.val) (x.counts o.msg) { s with pmu := p }
    rw [hused] at hexec
    refine ⟨_, hexec, rfl, fun y hy hcell htag => ?_, ?_, fun h => ?_, fun h => ?_⟩
    · obtain ⟨o', htag', rfl⟩ := answered_of_mem hy hcell htag
      exact ⟨rfl, by rw [htag']⟩
    · exact (State.bump_count_same ..).trans (congrArg (fun v => (v + 1) % 2 ^ 64) hhits)
    · obtain ⟨rfl, rfl⟩ := hfew h
      exact ⟨tabGet_tabPut_same .., rfl⟩
    · obtain ⟨rfl, rfl⟩ := hmany h
      exact ⟨tabGet_tabPut_same .., rfl⟩
  case void =>
    intro r held
    cases hheld : held with
    | none =>
      obtain ⟨p, hexec⟩ := exec_cacheLookup_void_miss htaken tag hheld
      exact ⟨_, hexec, rfl, fun _ => ⟨rfl, rfl⟩, fun x hx => nomatch hx⟩
    | some x =>
      obtain ⟨p, hexec⟩ := exec_cacheLookup_void_hit htaken tag hheld
      obtain ⟨l, coh, n, p', a, hused, -, hfew, -⟩ := State.useEntry_parts r (x.voids v.msg)
        { s.onFlo fun f => { f with voids := rest } with pmu := p }
      rw [hused] at hexec
      refine ⟨_, hexec, rfl, fun h => (nomatch h), fun y hy hpkts => ⟨rfl, ?_⟩⟩
      cases hy
      obtain ⟨rfl, -⟩ := hfew (show x.dpkts - 1 < 65536 by omega)
      exact tabGet_tabPut_same ..
  case ridge =>
    intro i held
    have hexec : exec i s = .next (s.ridgeAck m.kind r.val h.val) := exec_ridge htaken
    cases hheld : held with
    | none =>
      obtain ⟨p, hack⟩ := State.ridgeAck_absent htaken hhandle hheld
      exact ⟨_, hexec.trans (congrArg Host.Outcome.next hack), rfl, fun _ => ⟨rfl, rfl⟩, fun x hx => nomatch hx⟩
    | some x =>
      obtain ⟨p, hack⟩ := State.ridgeAck_held htaken hhandle hheld
      refine ⟨_, hexec.trans (congrArg Host.Outcome.next hack), rfl, fun h => (nomatch h), fun y hy => ?_⟩
      cases hy
      exact ⟨rfl, tabGet_tabPut_same ..⟩
  case home =>
    obtain ⟨hridge, hhandle⟩ := handle_of_taken htaken
    have htake := State.takeHome_free (s := s.sees slots) htaken hclear hfree
    have happly (clear : Bool) : (State.onFlo (fun f => { f with coh := rest }) (s.sees slots)).applyCoh m clear = _ :=
      State.applyCoh_healthy (q := q) (by rw [hhandle]; exact hrec) hq clear
    rw [hhandle, hridge] at happly
    rcases (by have := takeFirst_holds htaken; simp only [Bool.and_eq_true, decide_eq_true_eq] at this; omega :
      m.kind = 2 ∨ m.kind = 3 ∨ m.kind = 4) with hk | hk | hk <;> rw [hk] at htake ⊢
    · have hexec := exec_ack htake
      rw [happly, State.unlock_free] at hexec
      · refine ⟨_, hexec, rfl, rfl, rfl, fun j hj => tabFind_tabIns_other hj .., (tabFind_tabIns_same ..).trans ?_⟩
        cases he : m.empty <;> simp [Coh.clears, he, hfree, State.onFlo, State.sees, State.onHif]
      · exact (tabFind_ackLock ..).trans (congrArg (Option.map _) hfree)
    · exact ⟨_, (exec_release htake).trans (congrArg Host.Outcome.next (happly true)), rfl, rfl, rfl, fun j hj => tabFind_tabIns_other hj ..,
        tabFind_tabIns_same ..⟩
    · have hway := List.any_eq_true.mpr ⟨m, takeFirst_mem htaken, takeFirst_holds htaken⟩
      exact ⟨_, (exec_flush hway htake).trans (congrArg Host.Outcome.next (happly false)),
        rfl, rfl, rfl, fun j hj => tabFind_tabIns_other hj .., tabFind_tabIns_same ..⟩
  case locked =>
    obtain ⟨hridge, hhandle⟩ := handle_of_taken htaken
    have htake := State.takeHome_ack (s := s.sees slots) htaken hclear hack
    have happly : (State.onFlo (fun f => { f with coh := rest }) (s.sees slots)).applyCoh m true = _ :=
      State.applyCoh_healthy (q := q) (by rw [hhandle]; exact hrec) hq true
    have hexec := exec_ack htake
    rw [show m.clears _ = true by simp [Coh.clears, State.onFlo, State.sees, State.onHif, hlock, hwrite], happly] at hexec
    rw [hhandle, hridge] at hexec
    intro left
    have hlock' : tabFind (ackLock r.val h.val s.flo.locked) h.val = some { k with left := left } :=
      (tabFind_ackLock r.val h.val s.flo.locked).trans (congrArg (Option.map _) hlock)
    by_cases hleft : left = 0
    · rw [State.unlock_write (k := { k with left := left }) hlock' hleft hwrite] at hexec
      exact ⟨_, hexec, rfl, rfl, tabFind_tabIns_same .., fun h => absurd hleft h, fun _ => tabFind_tabDel_same ..⟩
    · rw [State.unlock_waits (k := { k with left := left }) hlock' hleft] at hexec
      exact ⟨_, hexec, rfl, rfl, tabFind_tabIns_same .., fun _ => hlock', fun h => absurd h hleft⟩
  case flush =>
    have hway : (s.flo.coh.any fun m => m.ridge == r.val && m.handle == h.val && decide (2 ≤ m.kind)) = false := by
      simp only [List.any_eq_false, Bool.and_eq_true, beq_iff_eq, decide_eq_true_eq]
      exact fun m hm ⟨⟨hr, hh⟩, hk⟩ => absurd (hnone m hm hr hh) (by omega)
    obtain ⟨hwaits, htakes⟩ := exec_flush_writes slots hway
    obtain ⟨p, hp⟩ := State.writeFlush_parts (s := s.sees slots) hdelta
    rw [hp] at hwaits htakes
    have hhandle : x.handle = h.val := by
      have := List.find?_some hdelta
      simp only [Bool.and_eq_true, beq_iff_eq] at this
      exact this.1
    have htaken := takeFirst_append_last (p := fun m : Coh => m.ridge == r.val && m.handle == h.val && decide (2 ≤ m.kind))
      (x := { x.deltas 4 r.val with ord := s.flo.seq + 1 }) (by simpa using hway) (by simp [CacheEntry.deltas, hhandle])
    have hclear := s.routeClear_last (tabPut [] r.val ((s.cacheOf r.val).map fun y => if y.handle = h.val then y.zeroed else y) s.flo.cache)
      { x.deltas 4 r.val with ord := s.flo.seq + 1 } (s.flo.seq + 1) slots p (s.bump 10 r.val 3 1).ctr r.val (engineOf h.val)
    cases hturn : s.routeClear r.val (engineOf h.val) (s.flo.seq + 1) with
    | false =>
      exact ⟨_, hwaits (State.takeHome_early htaken 4 (hclear.trans hturn)), rfl, fun _ => ⟨rfl, rfl⟩, fun h => (nomatch h),
        tabGet_tabPut_same .., fun _ _ => rfl, State.bump_count_same ..⟩
    | true =>
      have htake := State.takeHome_free htaken (hclear.trans hturn) hfree
      have hexec := (htakes _ _ htake).trans
        (congrArg Host.Outcome.next (State.applyCoh_healthy (q := q) (by rw [← hhandle] at hrec; exact hrec) hq false))
      refine ⟨_, hexec, rfl, fun h => (nomatch h), fun _ => ⟨rfl, ?_⟩, tabGet_tabPut_same .., fun j hj => ?_, State.bump_count_same ..⟩
      · rw [← hhandle]
        exact tabFind_tabIns_same ..
      · rw [← hhandle] at hj
        exact tabFind_tabIns_other hj ..

end Sys2Proof.Machine
end

section
/-!
SUPPORT. What the shared operations of the flow store do to a record: its eviction, its lock and its quarantine (09 R329, R334 to R337, R340).
-/

namespace Sys2Proof.Machine

open Sys2Proof

/-! ## Counters of different numbers -/

/-- A counter keeps its value while one of another number counts, of whatever kind and unit. -/
theorem State.bump_count_index {x y : Nat} (hx : x < 2 ^ 16) (hy : y < 2 ^ 16) (h : y ≠ x) (k i k' i' n : Nat) (s : State) :
    (s.bump k i x n).count k' i' y = s.count k' i' y := by
  have hkey : ckey k' i' y ≠ ckey k i x := by unfold ckey; omega
  exact tabGet_tabMod_other hkey 0 (fun v => (v + n) % 2 ^ 64) s.ctr

/-- The counters that count no number of `l`. -/
def State.CountsOnly (l : List Nat) (s : State) (a : Tab Nat) : Prop :=
  ∀ k i x, x < 2 ^ 16 → x ∉ l → tabGet 0 a (ckey k i x) = s.count k i x

theorem State.countsOnly_refl (l : List Nat) (s : State) : s.CountsOnly l s.ctr := fun _ _ _ _ _ => rfl

theorem State.countsOnly_bump {l : List Nat} {s t : State} (h : s.CountsOnly l t.ctr) {x : Nat} (hx : x < 2 ^ 16) (hl : x ∈ l) (k i n : Nat) :
    s.CountsOnly l (t.bump k i x n).ctr := fun k' i' y hy hnot =>
  (State.bump_count_index hx hy (fun hyx => hnot (hyx ▸ hl)) k i k' i' n t).trans (h k' i' y hy hnot)

/-! ## Translation ports (10 R371) -/

/-- The release of a record's port touches the ports and counts alone. -/
theorem State.natRelease_parts (e n : Nat) (ws : List Word) (s : State) : ∃ nat freed a,
    s.natRelease e n ws = { s with prg := { s.prg with nat := nat, freed := freed }, ctr := a } ∧ s.CountsOnly [4, 5] a := by
  have hfive := State.countsOnly_bump (State.countsOnly_refl [4, 5] s) (x := 5) (by decide) (by decide) 12 e 1
  have hfour := State.countsOnly_bump (State.countsOnly_refl [4, 5] s) (x := 4) (by decide) (by decide) 12 e 1
  unfold State.natRelease State.natFree
  dsimp only
  split
  · split
    · exact ⟨_, _, _, rfl, hfour⟩
    · exact ⟨_, _, _, rfl, hfive⟩
  · exact ⟨_, _, _, rfl, s.countsOnly_refl _⟩

/-! ## Export (09 R334 to R336) -/

/-- An engine's queue of exports with one more, if it has room. -/
def exportTo (e : Nat) (x : Export) (t : Tab (List Export)) : Tab (List Export) :=
  if 1024 ≤ (tabGet [] t e).length then t else tabIns e (tabGet [] t e ++ [x]) t

theorem tabGet_exportTo (e : Nat) (x : Export) (t : Tab (List Export)) :
    tabGet [] (exportTo e x t) e = if (tabGet [] t e).length < 1024 then tabGet [] t e ++ [x] else tabGet [] t e := by
  unfold exportTo
  split
  · rw [if_neg (by omega)]
  · rw [if_pos (by omega)]
    exact congrArg (fun l : Option (List Export) => l.getD []) (tabFind_tabIns_same ..)

/-- An exported record that is queued where its destination has a queue, or is lost and counted. -/
theorem State.queueExport_parts (event wanted : Bool) (e : Nat) (x : Export) (s : State) : ∃ a,
    s.onIf wanted (fun t => t.queueExport event e x) = { s with
      flo := { s.flo with
        evq := if event && wanted then exportTo e x s.flo.evq else s.flo.evq
        arq := if !event && wanted then exportTo e x s.flo.arq else s.flo.arq }, ctr := a } ∧ s.CountsOnly [15] a := by
  cases wanted with
  | false => exact ⟨_, by simp [State.onIf], s.countsOnly_refl _⟩
  | true =>
    have hlost := State.countsOnly_bump (State.countsOnly_refl [15] s) (x := 15) (by decide) (by decide) 8 e 1
    cases event <;> simp only [State.onIf, State.queueExport, exportTo, Bool.not_true, Bool.not_false, Bool.and_true, Bool.false_eq_true,
      if_true, if_false] <;> split
    · exact ⟨_, rfl, hlost⟩
    · exact ⟨_, rfl, s.countsOnly_refl _⟩
    · exact ⟨_, rfl, hlost⟩
    · exact ⟨_, rfl, s.countsOnly_refl _⟩

/-- What an eviction exports. -/
def State.exportOf (s : State) (h reason : Nat) (r : Rec) : Export := { archive := r.archive reason, handle := h, time := s.now }

/-- Where a record's zone sends its exports: bit 0 to firmware, bit 1 to the archive. -/
def State.exportDest (s : State) (r : Rec) : Nat := (s.zoneSet r.zone).2.2.2

/-- The counter of an eviction's reason. -/
def evictIndex (reason : Nat) : Nat := if reason = 0 then 8 else if reason = 1 then 9 else 10

/-- An eviction exports the record, releases its port, and counts. -/
theorem State.evict_parts {s : State} {h : Nat} {r : Rec} (hrec : s.recOf h = some r) (reason : Nat) : ∃ nat freed a,
    s.evict h reason = State.onIf (reason == 3) (fun t => t.countFlush r.zone) { s with
      flo := { s.flo with
        recs := tabDel h s.flo.recs, locked := tabDel h s.flo.locked
        evq := if s.exportDest r % 2 == 1 then exportTo (engineOf h) (s.exportOf h reason r) s.flo.evq else s.flo.evq
        arq := if s.exportDest r / 2 % 2 == 1 && decide (s.flo.archiveGib ≠ 0) then exportTo (engineOf h) (s.exportOf h reason r) s.flo.arq
          else s.flo.arq }
      prg := { s.prg with nat := nat, freed := freed }, ctr := a } ∧
    tabGet 0 a (ckey 8 (engineOf h) (evictIndex reason)) = (s.count 8 (engineOf h) (evictIndex reason) + 1) % 2 ^ 64 := by
  have hindex : evictIndex reason = 8 ∨ evictIndex reason = 9 ∨ evictIndex reason = 10 := by unfold evictIndex; split_ifs <;> simp
  obtain ⟨a, hev, ha⟩ := State.queueExport_parts true (s.exportDest r % 2 == 1) (engineOf h) (s.exportOf h reason r)
    (s.onFlo fun f => { f with recs := tabDel h f.recs, locked := tabDel h f.locked })
  obtain ⟨b, har, hb⟩ := State.queueExport_parts false (s.exportDest r / 2 % 2 == 1 && decide (s.flo.archiveGib ≠ 0)) (engineOf h)
    (s.exportOf h reason r) (State.onIf (s.exportDest r % 2 == 1) (fun t => t.queueExport true (engineOf h) (s.exportOf h reason r))
      (s.onFlo fun f => { f with recs := tabDel h f.recs, locked := tabDel h f.locked }))
  rw [hev] at har hb
  obtain ⟨nat, freed, c, hnat, hc⟩ := State.natRelease_parts (engineOf h) (progNatWord s.stg.cur r.program) r.w
    { s with
      flo := { s.flo with
        recs := tabDel h s.flo.recs, locked := tabDel h s.flo.locked
        evq := if s.exportDest r % 2 == 1 then exportTo (engineOf h) (s.exportOf h reason r) s.flo.evq else s.flo.evq
        arq := if s.exportDest r / 2 % 2 == 1 && decide (s.flo.archiveGib ≠ 0) then exportTo (engineOf h) (s.exportOf h reason r) s.flo.arq
          else s.flo.arq }
      ctr := b }
  have hcount : tabGet 0 c (ckey 8 (engineOf h) (evictIndex reason)) = s.count 8 (engineOf h) (evictIndex reason) := by
    have hsmall : evictIndex reason < 2 ^ 16 := by omega
    have hexport : evictIndex reason ∉ [15] := by simp; omega
    have hport : evictIndex reason ∉ [4, 5] := by simp; omega
    exact (hc _ _ _ hsmall hport).trans ((hb _ _ _ hsmall hexport).trans (ha _ _ _ hsmall hexport))
  refine ⟨nat, freed, _, ?_, (State.bump_count_same 8 (engineOf h) (evictIndex reason) 1 { s with ctr := c }).trans
    (congrArg (fun v => (v + 1) % 2 ^ 64) hcount)⟩
  unfold State.evict
  simp only [hrec]
  refine congrArg (State.onIf (reason == 3) fun t => t.countFlush r.zone) ?_
  change State.bump 8 (engineOf h) (evictIndex reason) 1 (State.natRelease (engineOf h) (progNatWord s.stg.cur r.program) r.w
    (State.onIf (s.exportDest r / 2 % 2 == 1 && decide (s.flo.archiveGib ≠ 0)) (fun t => t.queueExport false (engineOf h) (s.exportOf h reason r))
      (State.onIf (s.exportDest r % 2 == 1) (fun t => t.queueExport true (engineOf h) (s.exportOf h reason r))
        (s.onFlo fun f => { f with recs := tabDel h f.recs, locked := tabDel h f.locked })))) = _
  rw [hev, har]
  exact congrArg (State.bump 8 (engineOf h) (evictIndex reason) 1) hnat

/-! ## Locks (09 R328, R329) -/

/-- The messages that ask ridges for a record. -/
def State.asks (s : State) (kind h : Nat) (mask : BitVec 8) : List Coh :=
  (bitsOf 8 mask.toNat).map fun r => { kind := kind, ridge := r, handle := h, ord := s.flo.seq + 1 }

theorem State.sendCoh_parts (kind h : Nat) (mask : BitVec 8) (s : State) : ∃ a, s.sendCoh kind h mask = { s with
    flo := { s.flo with coh := s.flo.coh ++ s.asks kind h mask, seq := s.flo.seq + 1 }, ctr := a } := ⟨_, rfl⟩

/-- A lock asks the ridges that hold the record, and waits for each. -/
theorem State.lockFor_parts {s : State} {h : Nat} {r : Rec} (hrec : s.recOf h = some r) (kind : Nat) (why : LockWhy) : ∃ a,
    s.lockFor kind h why = { s with
      flo := { s.flo with coh := s.flo.coh ++ s.asks kind h r.presence, seq := s.flo.seq + 1
                          locked := tabIns h { left := r.presence, all := r.presence, why := why } s.flo.locked }
      ctr := a } := by
  unfold State.lockFor
  simp only [hrec]
  exact ⟨_, rfl⟩

/-- Without a record nothing is locked. -/
theorem State.lockFor_absent {s : State} {h : Nat} (hrec : s.recOf h = none) (kind : Nat) (why : LockWhy) : s.lockFor kind h why = s := by
  unfold State.lockFor
  simp only [hrec]

/-- Without a record nothing is evicted. -/
theorem State.evict_absent {s : State} {h : Nat} (hrec : s.recOf h = none) (reason : Nat) : s.evict h reason = s := by
  unfold State.evict
  simp only [hrec]

/-- A record that no ridge holds leaves at once. -/
theorem State.evictSoon_free {s : State} {h : Nat} {r : Rec} (hrec : s.recOf h = some r) (hfree : r.presence = 0) (reason : Nat) :
    s.evictSoon h reason = s.evict h reason := by
  unfold State.evictSoon
  simp only [hrec, if_pos hfree]

/-- One that ridges hold is collected first. -/
theorem State.evictSoon_held {s : State} {h : Nat} {r : Rec} (hrec : s.recOf h = some r) (hheld : r.presence ≠ 0) (reason : Nat) :
    s.evictSoon h reason = s.lockFor 0 h (.evict reason) := by
  unfold State.evictSoon
  simp only [hrec, if_neg hheld]

theorem State.evictSoon_absent {s : State} {h : Nat} (hrec : s.recOf h = none) (reason : Nat) : s.evictSoon h reason = s := by
  unfold State.evictSoon
  simp only [hrec]

/-! ## Quarantine (09 R340) -/

/-- A degraded event of a source that Cairn does not hold sets EVT while the FLT block runs, and is lost otherwise. -/
theorem State.raise_evt_fltRuns {e : Ev} (hsrc : cairnSource e.src = false) (s : State) :
    (s.raise e).flt.evt = s.flt.evt ||| if s.fltRuns then srcMask e.src else 0 := by
  have hseen : s.eventSeen e.src = s.fltRuns := by simp [State.eventSeen, hsrc]
  cases hruns : s.fltRuns with
  | true => exact State.raise_evt (hseen.trans hruns)
  | false =>
    rw [State.raise, if_neg (by rw [hseen, hruns]; decide)]
    simp

/-- The sources of the stacks' groups are not Cairn's. -/
theorem cairnSource_stackSource {e : Nat} (he : e < 128) : cairnSource (stackSource e) = false := by
  unfold cairnSource stackSource
  exact decide_eq_false (by omega)

/-- A record that is lost is marked, and every ridge is to drop it. -/
theorem State.quarantine_raises {s : State} {h : Nat} {r : Rec} (hrec : s.recOf h = some r) (hq : r.quarantined = false) (access who : Nat) :
    ∃ lock a, s.quarantine access who h =
      State.raise { src := stackSource (engineOf h), reason := 1, cls := 1, access := access, master := who, addr := h }
      { s with
        flo := { s.flo with recs := tabIns h quarantinedRec s.flo.recs, coh := s.flo.coh ++ s.asks 0 h (BitVec.allOnes 8), seq := s.flo.seq + 1
                            locked := tabIns h lock s.flo.locked }
        ctr := a } := by
  unfold State.quarantine
  simp only [hrec, hq, Bool.false_eq_true, if_false]
  obtain ⟨a, ha⟩ := State.sendCoh_parts 0 h (BitVec.allOnes 8) (s.setRec h quarantinedRec)
  rw [ha]
  exact ⟨_, _, rfl⟩

/-- A degraded event tells of it. -/
theorem State.quarantine_parts {s : State} {h : Nat} {r : Rec} (hrec : s.recOf h = some r) (hq : r.quarantined = false) (access who : Nat) :
    ∃ lock a f, s.quarantine access who h = { s with
      flo := { s.flo with recs := tabIns h quarantinedRec s.flo.recs, coh := s.flo.coh ++ s.asks 0 h (BitVec.allOnes 8), seq := s.flo.seq + 1
                          locked := tabIns h lock s.flo.locked }
      flt := f, ctr := a } ∧
    (engineOf h < 128 → f.evt = s.flt.evt ||| if s.fltRuns then srcMask (stackSource (engineOf h)) else 0) := by
  obtain ⟨lock, a, hraises⟩ := State.quarantine_raises hrec hq access who
  exact ⟨lock, a, _, hraises.trans (State.raise_eq ..), fun he => State.raise_evt_fltRuns (cairnSource_stackSource he) _⟩

/-- A record that is lost already, or an empty slot, is not lost again. -/
theorem State.quarantine_none {s : State} {h : Nat} (hrec : ∀ r, s.recOf h = some r → r.quarantined = true) (access who : Nat) :
    s.quarantine access who h = s := by
  unfold State.quarantine
  split
  · rfl
  next r hr => rw [if_pos (hrec r hr)]

end Sys2Proof.Machine
end

section
/-!
PROOF of FlowUpkeep (O24): the flush of a zone, the sweeper, and the scrub of the DRAM (09 R331, R332, R334, R339, R340, R351).
-/

namespace Sys2Proof.Machine

open Sys2Proof

/-! ## Deletion from a table -/

theorem tabDel_sublist {α : Type} (n : Nat) (t : Tab α) : (tabDel n t).Sublist t := by
  induction t with
  | nil => exact List.Sublist.slnil
  | cons e t ih =>
    rw [tabDel]
    split
    · exact ih.cons _
    · exact ih.cons_cons _

/-- A listed key is found. -/
theorem tabFind_ne_none_of_mem {α : Type} {t : Tab α} {k : Nat} {v : α} (h : (k, v) ∈ t) : tabFind t k ≠ none := by
  induction t with
  | nil => simp at h
  | cons e t ih =>
    obtain ⟨j, w⟩ := e
    rw [tabFind]
    split
    · simp
    next hj =>
      rcases List.mem_cons.mp h with heq | hmem
      · exact absurd (Prod.mk.inj heq).1.symm hj
      · exact ih hmem

/-! ## The flush of a zone (09 R351) -/

/-- What the flush of the records of `l` keeps, and what it removes. -/
structure State.FlushedTo (s : State) (l : List Nat) (t : State) : Prop where
  frame : t = { s with hif := t.hif, flo := t.flo, prg := t.prg, ctr := t.ctr }
  flushing : t.flo.flushing = s.flo.flushing
  recs : t.flo.recs.Sublist s.flo.recs
  kept : ∀ j, j ∉ l → t.recOf j = s.recOf j ∧ t.recBusy j = s.recBusy j
  absent : ∀ j, s.recOf j = none → t.recOf j = none
  freed : ∀ j ∈ l, ∀ x, s.recOf j = some x → x.presence = 0 → s.recBusy j = false → t.recOf j = none

theorem State.FlushedTo.refl_of_busy {s : State} {h : Nat} (hbusy : s.recBusy h = true ∨ s.recOf h = none) : s.FlushedTo [h] s where
  frame := rfl
  flushing := rfl
  recs := List.Sublist.refl _
  kept := fun _ _ => ⟨rfl, rfl⟩
  absent := fun _ h => h
  freed := fun j hj x hrec _ hfree => by
    rw [List.mem_singleton.mp hj] at hrec hfree
    rcases hbusy with hb | hb
    · rw [hb] at hfree; contradiction
    · rw [hb] at hrec; contradiction

theorem State.FlushedTo.evict {s : State} {h : Nat} {r : Rec} (hrec : s.recOf h = some r) : s.FlushedTo [h] (s.evict h 3) := by
  obtain ⟨nat, freed, a, hevict, -⟩ := State.evict_parts hrec 3
  rw [hevict]
  refine ⟨rfl, rfl, tabDel_sublist .., fun j hj => ⟨?_, ?_⟩, fun j hj => tabFind_tabDel_none hj h, fun j hj _ _ _ _ => ?_⟩
  · exact tabFind_tabDel_other (by simpa using hj) ..
  · exact congrArg (fun o : Option Lock => o.isSome || _) (tabFind_tabDel_other (by simpa using hj) s.flo.locked)
  · rw [List.mem_singleton.mp hj]
    exact tabFind_tabDel_same ..

theorem State.FlushedTo.lock {s : State} {h : Nat} {r : Rec} (hrec : s.recOf h = some r) (hheld : r.presence ≠ 0) (kind : Nat) (why : LockWhy) :
    s.FlushedTo [h] (s.lockFor kind h why) := by
  obtain ⟨a, hlock⟩ := State.lockFor_parts hrec kind why
  rw [hlock]
  refine ⟨rfl, rfl, List.Sublist.refl _, fun j hj => ⟨rfl, ?_⟩, fun _ h => h, fun j hj x hx hfree _ => ?_⟩
  · exact congrArg (fun o : Option Lock => o.isSome || _) (tabFind_tabIns_other (by simpa using hj) ..)
  · rw [List.mem_singleton.mp hj, hrec] at hx
    cases hx
    contradiction

theorem State.FlushedTo.cons {s u t : State} {h : Nat} {l : List Nat} (hsu : s.FlushedTo [h] u) (hut : u.FlushedTo l t) : s.FlushedTo (h :: l) t where
  frame := by rw [hut.frame, hsu.frame]
  flushing := hut.flushing.trans hsu.flushing
  recs := hut.recs.trans hsu.recs
  kept := fun j hj => by
    obtain ⟨hjh, hjl⟩ : j ≠ h ∧ j ∉ l := by simpa using hj
    obtain ⟨hrec, hbusy⟩ := hut.kept j hjl
    obtain ⟨hrec', hbusy'⟩ := hsu.kept j (by simpa using hjh)
    exact ⟨hrec.trans hrec', hbusy.trans hbusy'⟩
  absent := fun j hj => hut.absent j (hsu.absent j hj)
  freed := fun j hj x hrec hx hfree => by
    by_cases hjh : j = h
    · exact hut.absent j (hsu.freed j (by simpa using hjh) x hrec hx hfree)
    · obtain ⟨hrec', hbusy'⟩ := hsu.kept j (by simpa using hjh)
      exact hut.freed j ((List.mem_cons.mp hj).resolve_left hjh) x (hrec'.trans hrec) hx (hbusy'.trans hfree)

/-- A record that is free leaves or is collected. -/
theorem State.FlushedTo.one (s : State) (h : Nat) : s.FlushedTo [h] (if s.recBusy h then s else s.evictSoon h 3) := by
  split
  next hbusy => exact .refl_of_busy (.inl hbusy)
  · cases hrec : s.recOf h with
    | none =>
      rw [State.evictSoon_absent hrec]
      exact .refl_of_busy (.inr hrec)
    | some r =>
      by_cases hfree : r.presence = 0
      · rw [State.evictSoon_free hrec hfree]
        exact .evict hrec
      · rw [State.evictSoon_held hrec hfree]
        exact .lock hrec hfree ..

theorem State.FlushedTo.all (l : List Nat) (s : State) : s.FlushedTo l (l.foldl (fun a h => if a.recBusy h then a else a.evictSoon h 3) s) := by
  induction l generalizing s with
  | nil => exact ⟨rfl, rfl, List.Sublist.refl _, fun _ _ => ⟨rfl, rfl⟩, fun _ h => h, fun _ h => nomatch h⟩
  | cons h l ih => exact (State.FlushedTo.one s h).cons (ih _)

theorem State.flushedTo_flushZone (z : Nat) (s : State) : s.FlushedTo (s.zoneRecords z) (s.flushZone z) := State.FlushedTo.all ..

/-- A flush adds no record to a zone. -/
theorem State.FlushedTo.zoneRecords_sublist {s t : State} {l : List Nat} (h : s.FlushedTo l t) (z : Nat) :
    (t.zoneRecords z).Sublist (s.zoneRecords z) := (h.recs.filter _).map _

/-- Where the flush removes every record of the zone, none is left. -/
theorem State.FlushedTo.zoneRecords_nil {s t : State} {z : Nat} (h : s.FlushedTo (s.zoneRecords z) t)
    (hall : ∀ j ∈ s.zoneRecords z, t.recOf j = none) : t.zoneRecords z = [] := by
  refine List.eq_nil_iff_forall_not_mem.mpr fun j hj => ?_
  obtain ⟨e, he, rfl⟩ := List.mem_map.mp hj
  exact tabFind_ne_none_of_mem (List.mem_filter.mp he).1 (hall _ ((h.zoneRecords_sublist z).subset hj))

/-- FLOW_ZONE_FLUSH of an accepted request. -/
theorem exec_flowZoneFlush {s : State} {r q : Req} (haccepts : s.Accepts 0x0612 r q) (hrsv : q.f 4 31 12 = 0) (hsize : q.ExtSize 1) :
    exec (.flowZoneFlush r) s = .next (s.finish 0x0612 q (if s.storeAway then { status := stRefused, st := s } else
      let z := q.f 4 11 0
      let t := (s.onFlo fun f => { f with flushing := if f.flushing.contains z then f.flushing else f.flushing ++ [z] }).flushZone z
      { wait := some (.zoneFlush z ((s.zoneRecords z).length - (t.zoneRecords z).length)), need := 1, st := t })) := by
  refine mailbox_runs haccepts ?_ rfl (fun n hn => nomatch hn) (fun n hn => ?_) (fun h => nomatch h) rfl rfl
  · simp [Req.rsv, hrsv]
  · cases hn; exact hsize

/-- A command that waits, with room for its answer. -/
theorem State.finish_waits_room {op n : Nat} {s t : State} {q : Req} {k : DeferKind} (h : n ≤ q.room) :
    s.finish op q { st := t, wait := some k, need := n } =
      t.onHif fun m => { m with deferred := m.deferred ++ [{ kind := k, op := op, req := q }] } := by
  simp [State.finish, Nat.not_lt.mpr h]

/-- Whether a deferred command waits for a zone's flush. -/
def DeferKind.flushes (z : Nat) : DeferKind → Bool
  | .zoneFlush y _ => y == z
  | _ => false

/-- What a flush answers. -/
def DeferKind.flushWords : DeferKind → List Word
  | .zoneFlush _ n => [wd n]
  | _ => []

/-- ZONE_FLUSH_DONE once no record of the zone is left. -/
theorem exec_zoneFlushDone {s : State} {z : Fin 4096} {slots : BitVec 8} (hflushing : s.flo.flushing.contains z.val = true)
    (hnone : ((s.sees slots).flushZone z.val).zoneRecords z.val = []) : exec (.zoneFlushDone z slots) s = .next
      ((((s.sees slots).flushZone z.val).onFlo fun f => { f with flushing := f.flushing.filter fun y => y != z.val }).answerDeferred
        (DeferKind.flushes z.val) DeferKind.flushWords) := by
  have hsees : (s.sees slots).flo.flushing.contains z.val = true := hflushing
  change execZoneFlushDone z slots s = _
  unfold execZoneFlushDone
  simp only [hsees, if_true, if_pos hnone]
  refine congrArg Host.Outcome.next (congrArg₂ (fun p w => State.answerDeferred p w _) ?_ ?_)
  · funext k; cases k <;> rfl
  · funext k; cases k <;> rfl

/-- The answer of the only command that waits. -/
theorem State.answerDeferred_single {s : State} {p : DeferKind → Bool} {d : Deferred} (hd : s.hif.deferred = [d]) (hp : p d.kind = true)
    (hlost : d.lost = false) (ws : DeferKind → List Word) :
    ∃ u : State, s.answerDeferred p ws = u.respond d.op (s.late d.req) stOk (ws d.kind) :=
  ⟨s.onHif fun h => { h with deferred := h.deferred.filter fun d => !p d.kind }, by simp [State.answerDeferred, hd, hp, hlost]⟩

/-- A queue of exports where its destination may want one more. -/
theorem tabGet_exportTo_if (wanted : Bool) (e : Nat) (x : Export) (t : Tab (List Export)) :
    tabGet [] (if wanted then exportTo e x t else t) e =
      if wanted = true ∧ (tabGet [] t e).length < 1024 then tabGet [] t e ++ [x] else tabGet [] t e := by
  cases wanted
  · simp
  · simp [tabGet_exportTo]

/-! ## The sweeper (09 R331 to R333, R339, R340) -/

theorem State.evict_sweep (h reason : Nat) (s : State) : (s.evict h reason).flo.sweep = s.flo.sweep := by
  cases hrec : s.recOf h with
  | none => rw [State.evict_absent hrec]
  | some r =>
    obtain ⟨nat, freed, a, hevict, -⟩ := State.evict_parts hrec reason
    rw [hevict]
    cases reason == 3 <;> rfl

theorem State.lockFor_sweep (kind h : Nat) (why : LockWhy) (s : State) : (s.lockFor kind h why).flo.sweep = s.flo.sweep := by
  cases hrec : s.recOf h with
  | none => rw [State.lockFor_absent hrec]
  | some r =>
    obtain ⟨a, hlock⟩ := State.lockFor_parts hrec kind why
    rw [hlock]

theorem State.quarantine_sweep (access who h : Nat) (s : State) : (s.quarantine access who h).flo.sweep = s.flo.sweep := by
  by_cases hlost : ∀ r, s.recOf h = some r → r.quarantined = true
  · rw [State.quarantine_none hlost]
  · push Not at hlost
    obtain ⟨r, hrec, hq⟩ := hlost
    obtain ⟨lock, a, f, hquarantine, -⟩ := State.quarantine_parts hrec (by simpa using hq) access who
    rw [hquarantine]

/-- A visit leaves the sweepers where they are. -/
theorem State.visit_sweep (h : Nat) (ecc : EccSeen) (s : State) : (s.visit h ecc).flo.sweep = s.flo.sweep := by
  have hfixed : (s.onIf (decide (ecc = .corrected)) fun a => a.bump 8 (engineOf h) 13 1).flo.sweep = s.flo.sweep :=
    State.onIf_keeps (fun a : State => a.flo.sweep) _ _ s rfl
  unfold State.visit
  rw [← hfixed]
  dsimp only
  generalize State.onIf _ _ s = t
  split
  · rfl
  · split_ifs
    · rfl
    · exact t.quarantine_sweep ..
    · exact t.evict_sweep ..
    · exact t.lockFor_sweep ..
    · rfl

theorem State.pmuSpan_counted (b ev lo hi : Nat) (s : State) : ∃ p, s.pmuSpan b ev lo hi = { s with pmu := p } := by
  unfold State.pmuSpan
  split
  · exact ⟨_, rfl⟩
  · refine List.foldlRecOn (motive := fun a : State => ∃ p, a = { s with pmu := p }) _ _ ⟨_, rfl⟩ fun a ha k _ => ?_
    obtain ⟨p, rfl⟩ := ha
    dsimp only
    split
    · exact ⟨_, rfl⟩
    · exact ⟨p, rfl⟩

/-- The sweeper's reads are counted, and nothing else. -/
theorem State.sweepReads_counted (h : Nat) (s : State) : ∃ p, s.sweepReads h = { s with pmu := p } := by
  unfold State.sweepReads
  dsimp only
  split
  · exact State.pmuSpan_counted ..
  · obtain ⟨p, hp⟩ := s.pmuSpan_counted (72 + engineOf h) 0x08 (engineOf h * 2 ^ 21 + tabGet 0 s.flo.sweep (engineOf h))
      (engineOf h * 2 ^ 21 + 2 ^ 21 - 1)
    rw [hp]
    exact State.pmuSpan_counted ..

/-- The sweeper's next slot. -/
def State.sweepTo (h : Nat) (s : State) : State :=
  s.onFlo fun f => { f with sweep := tabPut 0 (engineOf h) ((h % 2 ^ 21 + 1) % 2 ^ 21) f.sweep }

section
variable {s : State} {h : Fin 268435456} (hruns : s.enginesRun = true) (hformatted : s.flo.formatted = true) (hbusy : s.recBusy h.val = false)
include hruns hformatted hbusy

theorem exec_sweepVisit (ecc : EccSeen) : exec (.sweepVisit h ecc) s = .next ((((s.sweepWay h.val).foldl
    (fun a x => if a.recBusy x then a else a.visit x .clean) (s.sweepReads h.val)).visit h.val ecc).sweepTo h.val) :=
  congrArg Host.Outcome.next (if_pos ⟨hruns, hformatted, by simp [hbusy]⟩)

/-- With nothing to pass, the sweeper visits the slot. -/
theorem exec_sweepVisit_next (hway : s.sweepWay h.val = []) (ecc : EccSeen) :
    ∃ p, exec (.sweepVisit h ecc) s = .next ((State.visit h.val ecc { s with pmu := p }).sweepTo h.val) := by
  obtain ⟨p, hp⟩ := s.sweepReads_counted h.val
  rw [exec_sweepVisit hruns hformatted hbusy, hway, hp]
  exact ⟨p, rfl⟩

end

section
variable {s : State} {h : Nat} {r : Rec} (hrec : s.recOf h = some r) (hq : r.quarantined = false)
include hrec hq

/-- A visit of a record that no error hits. -/
theorem State.visit_clean : s.visit h .clean =
    if s.expired r then (if r.presence = 0 then s.evict h 0 else s.lockFor 1 h .sweep) else s := by
  unfold State.visit
  simp only [State.onIf, reduceCtorEq, decide_false, Bool.false_eq_true, if_false, hrec, hq]

/-- One whose error the stack corrects. -/
theorem State.visit_corrected (hexp : s.expired r = false) : s.visit h .corrected = s.bump 8 (engineOf h) 13 1 := by
  have hrec' : (s.bump 8 (engineOf h) 13 1).recOf h = some r := hrec
  have hexp' : (s.bump 8 (engineOf h) 13 1).expired r = false := hexp
  unfold State.visit
  simp only [State.onIf, decide_true, if_true, reduceCtorEq, Bool.false_eq_true, if_false, hrec', hq, hexp']

/-- One that an uncorrectable burst hits. -/
theorem State.visit_uncorrectable : s.visit h .uncorrectable = s.quarantine 4 (0x80 + engineOf h) h := by
  unfold State.visit
  simp only [State.onIf, reduceCtorEq, decide_false, Bool.false_eq_true, if_false, if_true, hrec, hq]

end

/-! ## The scrub of the DRAM (09 R339, R340) -/

section
variable {s : State} {stack : Fin 4} {burst : Fin (2 ^ 29)} {what : Burst} (hruns : s.enginesRun = true)
include hruns

/-- A corrected burst of a record is counted at its engine. -/
theorem exec_dramScrub_record (h : Fin 268435456) :
    exec (.dramScrub stack burst (.record h) .corrected) s = .next (s.bump 8 (engineOf h.val) 13 1) :=
  congrArg Host.Outcome.next (if_neg (by simp [hruns]))

/-- One that holds no record is counted at an engine of its stack. -/
theorem exec_dramScrub_corrected (hwhat : ∀ h, what ≠ .record h) : exec (.dramScrub stack burst what .corrected) s =
    .next (s.drawNat.2.bump 8 (32 * stack.val + s.drawNat.1 % 32) 13 1) := by
  refine congrArg Host.Outcome.next ((if_neg (by simp [hruns])).trans ?_)
  cases what with
  | record h => exact absurd rfl (hwhat h)
  | archive | buffer | master | other => rfl

theorem exec_dramScrub_uncorrectable :
    exec (.dramScrub stack burst what .uncorrectable) s = .next (s.loseBurst stack.val burst.val what) :=
  congrArg Host.Outcome.next (if_neg (by simp [hruns]))

end

/-- The event of a burst is that of a group of its stack. -/
theorem State.dramEvent_parts (stack burst : Nat) (s : State) : ∃ f k, s.dramEvent stack burst =
    { s with flt := f, draw := s.draw + 1 } ∧ k < 4 ∧ (s.fltRuns = true → f.evt = s.flt.evt ||| srcMask (1096 + 4 * stack + k)) := by
  refine ⟨_, s.drawNat.1 % 4, State.raise_eq _ s.drawNat.2, Nat.mod_lt _ (by decide), fun hflt => ?_⟩
  exact State.raise_evt (State.eventSeen_of_fltRuns (s := s.drawNat.2) hflt _)

/-- What lies in a burst that holds no record is lost, and an event tells of it. -/
theorem State.loseBurst_other {what : Burst} (hwhat : ∀ h, what ≠ .record h) (stack burst : Nat) (s : State) :
    ∃ u : State, s.loseBurst stack burst what = u.dramEvent stack burst ∧ u.flo.recs = s.flo.recs ∧ u.flt = s.flt ∧ u.crn = s.crn ∧
      (∀ n, what = .archive n → (tabFind s.flo.archive (stack * 2 ^ 32 + n)).isSome = true →
        tabFind u.flo.archive (stack * 2 ^ 32 + n) = some (List.replicate 16 0xFFFFFFFF)) ∧
      ∀ fid mac, what = .master fid mac → tabFind u.tbl.master (l2Key fid.val mac) = none := by
  cases what with
  | record h => exact absurd rfl (hwhat h)
  | archive n =>
    refine ⟨_, rfl, rfl, rfl, rfl, fun m hm hlisted => ?_, fun _ _ h => nomatch h⟩
    cases hm
    exact (congrArg (fun t => tabFind t (stack * 2 ^ 32 + n)) (if_pos hlisted)).trans (tabFind_tabIns_same ..)
  | buffer k off =>
    refine ⟨_, rfl, ?_, ?_, ?_, fun _ h => (nomatch h), fun _ _ h => nomatch h⟩
    · exact State.onIf_keeps (fun a : State => a.flo.recs) _ _ s (by simp)
    · exact State.onIf_keeps (fun a : State => a.flt) _ _ s (by simp)
    · exact State.onIf_keeps (fun a : State => a.crn) _ _ s (by simp)
  | master fid mac =>
    refine ⟨_, rfl, rfl, rfl, rfl, fun _ h => (nomatch h), fun f m h => ?_⟩
    cases h
    exact tabFind_tabDel_same ..
  | other => exact ⟨s, rfl, rfl, rfl, rfl, fun _ h => (nomatch h), fun _ _ h => nomatch h⟩

/-- Settles O24: the zone's flush, the sweeper's visit and the scrubber. -/
theorem flowUpkeep : Obligations.FlowUpkeep := by
  unfold Obligations.FlowUpkeep
  refine ⟨⟨fun s r q haccepts hrsv hsize hroom => ?flush, fun s z slots hflushing hall => ?done⟩, ?_⟩
  case flush =>
    have hexec := exec_flowZoneFlush haccepts hrsv hsize
    constructor
    · intro haway
      rw [hexec, if_pos haway, State.finish_no (by decide) (by decide)]
    · intro haway
      rw [if_neg (by simp [haway]), State.finish_waits_room hroom] at hexec
      have hflushed := State.flushedTo_flushZone (q.f 4 11 0) (s.onFlo fun f => { f with
        flushing := if f.flushing.contains (q.f 4 11 0) then f.flushing else f.flushing ++ [q.f 4 11 0] })
      refine ⟨_, _, hexec, ?_, ?_, List.getLast?_concat, ?_, fun h x hh hx hfree hbusy => hflushed.freed h hh x hx hfree hbusy,
        fun h hh => (hflushed.kept h hh).1⟩
      · generalize State.flushZone _ _ = u at hflushed
        rw [hflushed.frame]; rfl
      · refine (congrArg (fun l : List Nat => l.contains (q.f 4 11 0)) hflushed.flushing).trans ?_
        by_cases hin : q.f 4 11 0 ∈ s.flo.flushing <;> simp [State.onFlo, hin]
      · exact Nat.sub_add_cancel (hflushed.zoneRecords_sublist _).length_le
  case done =>
    have hflushed := State.flushedTo_flushZone z.val (s.sees slots)
    have hgone : ∀ j ∈ s.zoneRecords z.val, ((s.sees slots).flushZone z.val).recOf j = none := fun j hj => by
      obtain ⟨x, hrec, hfree, hbusy⟩ := hall j hj
      exact hflushed.freed j hj x hrec hfree hbusy
    have hexec := exec_zoneFlushDone hflushing (hflushed.zoneRecords_nil hgone)
    refine ⟨_, hexec, ?_, fun j hj => ?_, fun j hj => ?_, fun d hd n hkind => ?_, fun d n hd hkind hlost hnone => ?_⟩
    · rw [State.answerDeferred_flo]
      exact congrArg (List.filter fun y => y != z.val) hflushed.flushing
    · rw [State.recOf, State.answerDeferred_flo]
      exact hgone j hj
    · rw [State.recOf, State.answerDeferred_flo]
      exact (hflushed.kept j hj).1
    · rw [State.answerDeferred_deferred] at hd
      have hother := (List.mem_filter.mp hd).2
      simp [hkind, DeferKind.flushes] at hother
    · have hsame : (s.sees slots).flushZone z.val = s.sees slots :=
        congrArg (fun l => List.foldl (fun a h => if State.recBusy a h then a else a.evictSoon h 3) (s.sees slots) l) hnone
      rw [hsame]
      have hflushes : DeferKind.flushes z.val d.kind = true := by simp [hkind, DeferKind.flushes]
      obtain ⟨u, hu⟩ := State.answerDeferred_single (s := (s.sees slots).onFlo fun f => { f with
        flushing := f.flushing.filter fun y => y != z.val }) hd hflushes hlost DeferKind.flushWords
      refine ⟨u, hu.trans ?_⟩
      rw [hkind]
      rfl
  refine ⟨fun s h ecc hruns hformatted hbusy => ?goes, fun s h r hruns hformatted hbusy hway hrec hq =>
    ⟨fun hexp => ?stays, fun hexp => ?corrected, fun hexp hheld => ?collects, fun hexp hfree => ?leaves, ?lost⟩,
    fun s stack burst what hruns => ⟨?clean, ?fixed, fun h r hwhat hstack hrec hq => ?record, fun hwhat hflt => ?other⟩⟩
  case goes =>
    refine ⟨_, exec_sweepVisit hruns hformatted hbusy ecc, tabGet_tabPut_same .., fun e he => (tabGet_tabPut_other he ..).trans ?_⟩
    have hpass : ((s.sweepWay h.val).foldl (fun a x => if a.recBusy x then a else a.visit x .clean) (s.sweepReads h.val)).flo.sweep =
        s.flo.sweep := by
      refine (foldl_keeps (fun a : State => a.flo.sweep) _ (fun a x => ?_) _ _).trans ?_
      · split
        · rfl
        · exact a.visit_sweep ..
      · obtain ⟨p, hp⟩ := s.sweepReads_counted h.val
        rw [hp]
    rw [State.visit_sweep, hpass]
  case stays =>
    obtain ⟨p, hexec⟩ := exec_sweepVisit_next hruns hformatted hbusy hway .clean
    have hclean := State.visit_clean (s := { s with pmu := p }) hrec hq
    rw [if_neg (by rw [Bool.not_eq_true]; exact hexp)] at hclean
    rw [hclean] at hexec
    exact ⟨_, hexec, rfl⟩
  case corrected =>
    obtain ⟨p, hexec⟩ := exec_sweepVisit_next hruns hformatted hbusy hway .corrected
    rw [State.visit_corrected (s := { s with pmu := p }) hrec hq hexp] at hexec
    exact ⟨_, hexec, rfl, State.bump_count_same ..⟩
  case collects =>
    obtain ⟨p, hexec⟩ := exec_sweepVisit_next hruns hformatted hbusy hway .clean
    have hclean := State.visit_clean (s := { s with pmu := p }) hrec hq
    obtain ⟨a, hlock⟩ := State.lockFor_parts (s := { s with pmu := p }) hrec 1 .sweep
    rw [if_pos (by exact hexp), if_neg hheld, hlock] at hclean
    rw [hclean] at hexec
    exact ⟨_, hexec, rfl, tabFind_tabIns_same .., rfl⟩
  case leaves =>
    obtain ⟨p, hexec⟩ := exec_sweepVisit_next hruns hformatted hbusy hway .clean
    have hclean := State.visit_clean (s := { s with pmu := p }) hrec hq
    obtain ⟨nat, freed, a, hevict, hcount⟩ := State.evict_parts (s := { s with pmu := p }) hrec 0
    rw [if_pos (by exact hexp), if_pos hfree, hevict] at hclean
    rw [hclean] at hexec
    refine ⟨_, hexec, rfl, tabFind_tabDel_same .., fun j hj => tabFind_tabDel_other hj .., hcount, ?_, ?_⟩
    · exact (tabGet_exportTo_if ..).trans (if_congr (and_congr_left' beq_iff_eq) rfl rfl)
    · refine (tabGet_exportTo_if ..).trans (if_congr ?_ rfl rfl)
      rw [Bool.and_eq_true, beq_iff_eq, decide_eq_true_eq, and_assoc]
      exact Iff.rfl
  case lost =>
    obtain ⟨p, hexec⟩ := exec_sweepVisit_next hruns hformatted hbusy hway .uncorrectable
    obtain ⟨lock, a, f, hquarantine, hevt⟩ := State.quarantine_parts (s := { s with pmu := p }) hrec hq 4 (0x80 + engineOf h.val)
    rw [State.visit_uncorrectable (s := { s with pmu := p }) hrec hq, hquarantine] at hexec
    exact ⟨_, hexec, tabFind_tabIns_same .., fun j hj => tabFind_tabIns_other hj .., rfl, hevt (by unfold engineOf; omega)⟩
  case clean =>
    change execDramScrub stack burst what .clean s = _
    unfold execDramScrub
    rw [hruns]
    rfl
  case fixed =>
    by_cases hwhat : ∃ h, what = .record h
    · obtain ⟨h, rfl⟩ := hwhat
      exact ⟨_, engineOf h.val, exec_dramScrub_record hruns h, rfl, State.bump_count_same .., fun h' hh => by cases hh; rfl,
        fun hnone => absurd rfl (hnone h)⟩
    · push Not at hwhat
      exact ⟨_, 32 * stack.val + s.drawNat.1 % 32, exec_dramScrub_corrected hruns hwhat, rfl, State.bump_count_same ..,
        fun h hh => absurd hh (hwhat h), fun _ => by omega⟩
  case record =>
    subst hwhat
    obtain ⟨lock, a, f, hquarantine, -⟩ := State.quarantine_parts hrec hq 4 scrubberId
    have hlost : s.loseBurst stack.val burst.val (.record h) = s.quarantine 4 scrubberId h.val := if_pos hstack
    refine ⟨_, exec_dramScrub_uncorrectable hruns, ?_⟩
    rw [hlost, hquarantine]
    exact ⟨tabFind_tabIns_same .., fun j hj => tabFind_tabIns_other hj .., rfl⟩
  case other =>
    obtain ⟨u, hlost, hrecs, hfltSame, hcrn, harchive, hmaster⟩ := s.loseBurst_other hwhat stack.val burst.val
    obtain ⟨f, k, hevent, hk, hevt⟩ := u.dramEvent_parts stack.val burst.val
    refine ⟨_, k, exec_dramScrub_uncorrectable hruns, hk, ?_⟩
    rw [hlost, hevent]
    refine ⟨hrecs, ?_, harchive, hmaster⟩
    rw [← hfltSame]
    exact hevt (by rw [State.fltRuns, hcrn]; exact hflt)

end Sys2Proof.Machine
end

section
/-!
PROOF of HomeReadsAndDeletes (O23): FLOW_READ and FLOW_DELETE, and firmware's operations at the home engine (09 R320, R330, R341, R350).
-/

namespace Sys2Proof.Machine

open Sys2Proof

/-! ## Request words (09 R316) -/

/-- A TAG changes nothing above its field. -/
theorem putTag_word (w : Word) (tag : Nat) : (wd (w.toNat - fld w 10 3 * 2 ^ 3 + tag % 256 * 2 ^ 3)).toNat / 2 ^ 11 = w.toNat / 2 ^ 11 := by
  have hw := w.isLt
  simp only [fld, nfld, wd, BitVec.toNat_ofNat]
  omega

/-- Fields above the TAG. -/
theorem fld_of_div {v w : Word} (h : v.toNat / 2 ^ 11 = w.toNat / 2 ^ 11) {hi lo : Nat} (hlo : 11 ≤ lo) : fld v hi lo = fld w hi lo := by
  obtain ⟨k, rfl⟩ := Nat.exists_eq_add_of_le hlo
  simp only [fld, nfld, pow_add, ← Nat.div_div_eq_div_mul, h]

theorem wordAt_putTag (m : List Word) (tag i : Nat) :
    wordAt (putTag m tag) i = if i = 1 ∧ 1 < m.length then wd ((wordAt m 1).toNat - msgTag m * 2 ^ 3 + tag % 256 * 2 ^ 3) else wordAt m i := by
  simp only [putTag, wordAt, List.getD_eq_getElem?_getD, List.getElem?_set]
  by_cases hi : i = 1 <;> by_cases hl : 1 < m.length <;> simp [hi, hl, eq_comm]

/-- The key of a request stays when it gets a TAG. -/
@[simp] theorem msgKey_putTag (m : List Word) (tag len : Nat) : msgKey (putTag m tag) len = msgKey m len := by
  have habove : (wordAt (putTag m tag) 1).toNat / 2 ^ 11 = (wordAt m 1).toNat / 2 ^ 11 := by
    rw [wordAt_putTag]
    split
    · exact putTag_word ..
    · rfl
  have hbytes (i : Nat) : wordAt (putTag m tag) (2 + i) = wordAt m (2 + i) := by
    rw [wordAt_putTag, if_neg (by omega)]
  simp only [msgKey, hbytes, fld_of_div habove (hi := 22) (lo := 11) (by decide), fld_of_div habove (hi := 30) (lo := 23) (by decide)]

/-! ## FLOW_READ and FLOW_DELETE (09 R345, R350) -/

/-- Numbers that an engine's operations of firmware leave free. -/
def State.fwTagFree (s : State) (e t : Nat) : Bool := !(s.flo.fwOps.any fun o => o.engine == e && o.tag == t)

/-- One of the first 17 and as many as there are operations is free. -/
theorem State.exists_fwTagFree (s : State) (e : Nat) : ∃ t, t < 17 + s.flo.fwOps.length ∧ s.fwTagFree e t = true := by
  by_contra hnone
  push Not at hnone
  have hcover : List.range (17 + s.flo.fwOps.length) ⊆ s.flo.fwOps.map FwOp.tag := fun t ht => by
    have hused := hnone t (List.mem_range.mp ht)
    simp only [State.fwTagFree, ne_eq, Bool.not_eq_true', Bool.not_eq_false, List.any_eq_true, Bool.and_eq_true, beq_iff_eq] at hused
    obtain ⟨o, ho, -, htag⟩ := hused
    exact List.mem_map.mpr ⟨o, ho, htag⟩
  have hlength := (List.nodup_range.subperm hcover).length_le
  rw [List.length_range, List.length_map] at hlength
  omega

/-- The number that a READ or DELETE takes. -/
def State.fwTag (s : State) (e : Nat) : Nat := ((List.range (17 + s.flo.fwOps.length)).find? (s.fwTagFree e)).getD 0

theorem State.find?_fwTag (s : State) (e : Nat) : (List.range (17 + s.flo.fwOps.length)).find? (s.fwTagFree e) = some (s.fwTag e) := by
  obtain ⟨t, ht, hfree⟩ := s.exists_fwTagFree e
  have hfound : ((List.range (17 + s.flo.fwOps.length)).find? (s.fwTagFree e)).isSome = true :=
    List.find?_isSome.mpr ⟨t, List.mem_range.mpr ht, hfree⟩
  obtain ⟨x, hx⟩ := Option.isSome_iff_exists.mp hfound
  rw [State.fwTag, hx]; rfl

theorem State.fwTagFree_iff (s : State) (e t : Nat) : s.fwTagFree e t = true ↔ ∀ x ∈ s.flo.fwOps, ¬(x.engine = e ∧ x.tag = t) := by
  simp [State.fwTagFree]

/-- It is free. -/
theorem State.fwTag_free (s : State) (e : Nat) : s.fwTagFree e (s.fwTag e) = true := List.find?_some (s.find?_fwTag e)

/-- It is the least. -/
theorem State.fwTag_le {s : State} {e t : Nat} (hfree : s.fwTagFree e t = true) : s.fwTag e ≤ t := by
  by_contra hlt
  have hleast := (List.find?_range_eq_some.mp (s.find?_fwTag e)).2.2 t (by omega)
  rw [hfree] at hleast
  contradiction

/-- The request of a READ or DELETE before its TAG. -/
def fwMsg (s : State) (q : Req) (delete : Bool) : List Word :=
  [wd s.hif.epoch, wd ((if delete then 4 else 3) + q.f 5 11 0 * 2 ^ 11 + q.f 5 19 12 * 2 ^ 23)] ++
    (List.range 10).map (fun i => q.w (6 + i)) ++ [if q.f 4 0 0 == 1 then wd (q.f 5 27 0 + 2 ^ 31) else 0, 0, 0, 0]

/-- It holds the key of the command. -/
theorem msgKey_fwMsg (s : State) (q : Req) (delete : Bool) (len : Nat) : msgKey (fwMsg s q delete) len =
    { zone := q.f 5 11 0, keyType := q.f 5 19 12, keyLen := len, bytes := wordsToBytes ((List.range 10).map fun i => q.w (6 + i)) } := by
  have hkind : (if delete then 4 else 3) < 8 := by cases delete <;> decide
  have hzone : q.f 5 11 0 < 2 ^ 12 := Nat.mod_lt _ (by decide)
  have htype : q.f 5 19 12 < 2 ^ 8 := Nat.mod_lt _ (by decide)
  have hword : wordAt (fwMsg s q delete) 1 = wd ((if delete then 4 else 3) + q.f 5 11 0 * 2 ^ 11 + q.f 5 19 12 * 2 ^ 23) := rfl
  have hbytes : (List.range 10).map (fun i => wordAt (fwMsg s q delete) (2 + i)) = (List.range 10).map fun i => q.w (6 + i) := rfl
  unfold msgKey
  rw [hword, hbytes]
  generalize q.f 5 11 0 = zone at hzone ⊢
  generalize q.f 5 19 12 = type at htype ⊢
  generalize (if delete then 4 else 3) = kind at hkind ⊢
  congr 1 <;> simp only [fld, nfld, wd, BitVec.toNat_ofNat] <;> omega

/-- The operation's engine: that of its slot, or its key's home. -/
def fwEngine (s : State) (q : Req) (delete : Bool) : Nat :=
  if q.f 4 0 0 == 1 then engineOf (q.f 5 27 0) else homeOf (s.hashKey (msgKey (fwMsg s q delete) (typeLen s.stg.cur (q.f 5 19 12))))

theorem fwOpOf_eq (s : State) (q : Req) (delete : Bool) : fwOpOf s q delete =
    { engine := fwEngine s q delete, tag := s.fwTag (fwEngine s q delete), delete := delete, byHandle := q.f 4 0 0 == 1
      handle := q.f 5 27 0, msg := putTag (fwMsg s q delete) (s.fwTag (fwEngine s q delete))
      keyLen := typeLen s.stg.cur (q.f 5 19 12), req := q, ord := s.flo.seq + 1 } := rfl

/-- An operation without a TAG is not at its home. -/
theorem State.atHome_queueFw {s : State} {o : FwOp} (h : 16 ≤ o.tag) (n : Nat) :
    State.atHome { s with flo := { s.flo with fwOps := s.flo.fwOps ++ [o], seq := n } } = s.atHome := by
  have hlast : (s.flo.fwOps ++ [o]).filter (fun o => decide (o.tag < 16)) = s.flo.fwOps.filter fun o => decide (o.tag < 16) := by
    rw [List.filter_append, List.filter_singleton, decide_eq_false (by omega)]
    simp
  unfold State.atHome
  simp only [hlast]
  rfl

/-- A word of zero gives bytes of zero. -/
theorem wordsToBytes_zero {l : List Word} (h : ∀ w ∈ l, w = 0) : ∀ b ∈ wordsToBytes l, b = 0 := fun b hb => by
  obtain ⟨w, hw, hb⟩ := List.mem_flatMap.mp hb
  rw [h w hw] at hb
  simpa [wordBytes] using hb

theorem fwChk_good {s : State} {q : Req} (hrsv : q.f 4 31 1 = 0)
    (hhandle : q.f 4 0 0 = 1 → q.f 5 31 28 = 0 ∧ ∀ i, i < 10 → q.w (6 + i) = 0)
    (hkey : q.f 4 0 0 = 0 → q.f 5 31 20 = 0 ∧
      ∀ b ∈ (wordsToBytes ((List.range 10).map fun i => q.w (6 + i))).drop (typeLen s.stg.cur (q.f 5 19 12)), b = 0) :
    (fwChk s q).bad = false := by
  have hbit : q.f 4 0 0 < 2 := Nat.mod_lt _ (by decide)
  have hlow : q.rsv [(4, 31, 1)] = false := by simp [Req.rsv, hrsv]
  unfold fwChk
  simp only [hlow, Bool.false_or]
  split
  next hby =>
    obtain ⟨hhigh, hzero⟩ := hhandle (by simpa using hby)
    have hbytes := wordsToBytes_zero (l := (List.range 10).map fun i => q.w (6 + i)) fun w hw => by
      obtain ⟨i, hi, rfl⟩ := List.mem_map.mp hw
      exact hzero i (List.mem_range.mp hi)
    rw [hhigh]
    simpa using hbytes
  next hby =>
    have hone : q.f 4 0 0 ≠ 1 := by simpa using hby
    obtain ⟨hhigh, hzero⟩ := hkey (by omega)
    rw [hhigh]
    simpa using hzero

/-- An accepted FLOW_READ or FLOW_DELETE. -/
theorem exec_flowFw {s : State} {r q : Req} {delete : Bool} (haccepts : s.Accepts (if delete then 0x0611 else 0x0610) r q) (hsize : q.size = 12)
    (hgood : (fwChk s q).bad = false) : exec (if delete then .flowDelete r else .flowRead r) s =
      .next (s.finish (if delete then 0x0611 else 0x0610) q (fwRun s delete q)) := by
  cases delete <;>
  exact mailbox_runs haccepts hgood rfl (fun n hn => by cases hn; exact hsize) (fun n hn => nomatch hn) (fun h => nomatch h) rfl rfl

/-- With the store away it is refused. -/
theorem State.finish_fwRun_away {s : State} {q : Req} {delete : Bool} (haway : s.storeAway = true) (op : Nat) :
    s.finish op q (fwRun s delete q) = s.respond op q stRefused [] := by
  rw [fwRun, if_pos haway, State.finish_no (by decide) (by decide)]

/-- Else it is given to its engine. -/
theorem State.finish_fwRun {s : State} {q : Req} {delete : Bool} (haway : s.storeAway = false) (op : Nat) :
    s.finish op q (fwRun s delete q) =
      { s with flo := { s.flo with fwOps := s.flo.fwOps ++ [fwOpOf s q delete], seq := s.flo.seq + 1 } } := by
  rw [fwRun, if_neg (by simp [haway])]
  rfl

section
variable {s : State} {r q : Req} {delete : Bool} (haccepts : s.Accepts (if delete then 0x0611 else 0x0610) r q) (hsize : q.size = 12)
  (hgood : (fwChk s q).bad = false)
include haccepts hsize hgood

theorem flowFw_refused (haway : s.storeAway = true) : exec (if delete then .flowDelete r else .flowRead r) s =
    .next (s.respond (if delete then 0x0611 else 0x0610) q stRefused []) :=
  (exec_flowFw haccepts hsize hgood).trans (congrArg Host.Outcome.next (State.finish_fwRun_away haway _))

/-- The operation that a command asks for: its number is free, and at least 16 exactly where the engine's tags are out. -/
theorem flowFw_queued (haway : s.storeAway = false) : ∃ t o, exec (if delete then .flowDelete r else .flowRead r) s = .next t ∧
    t = { s with flo := { s.flo with fwOps := s.flo.fwOps ++ [o], seq := s.flo.seq + 1 } } ∧
    o.req = q ∧ o.delete = delete ∧ o.lost = false ∧ o.ord = s.flo.seq + 1 ∧
    (∀ x ∈ s.flo.fwOps, ¬(x.engine = o.engine ∧ x.tag = o.tag)) ∧
    ((∃ i, i < 16 ∧ ∀ x ∈ s.flo.fwOps, x.engine = o.engine → x.tag ≠ i) → o.tag < 16) ∧
    ((∀ i, i < 16 → ∃ x ∈ s.flo.fwOps, x.engine = o.engine ∧ x.tag = i) → 16 ≤ o.tag ∧ t.atHome = s.atHome) ∧
    (q.f 4 0 0 = 1 → o.byHandle = true ∧ o.handle = q.f 5 27 0 ∧ o.engine = q.f 5 27 0 / 2 ^ 21) ∧
    (q.f 4 0 0 = 0 → o.byHandle = false ∧ o.engine = homeOf (s.hashKey (msgKey o.msg o.keyLen)) ∧
      (msgKey o.msg o.keyLen).zone = q.f 5 11 0 ∧ (msgKey o.msg o.keyLen).keyType = q.f 5 19 12 ∧
      (msgKey o.msg o.keyLen).bytes = wordsToBytes ((List.range 10).map fun i => q.w (6 + i))) := by
  have hexec := (exec_flowFw haccepts hsize hgood).trans (congrArg Host.Outcome.next (State.finish_fwRun haway _))
  refine ⟨_, fwOpOf s q delete, hexec, rfl, rfl, rfl, rfl, rfl, ?_, fun ⟨i, hi, hfree⟩ => ?_, fun hused => ?_, fun hby => ?_, fun hby => ?_⟩
  · exact (s.fwTagFree_iff ..).mp (s.fwTag_free _)
  · have hle := State.fwTag_le ((s.fwTagFree_iff (fwEngine s q delete) i).mpr fun x hx ⟨he, ht⟩ => hfree x hx he ht)
    exact Nat.lt_of_le_of_lt hle hi
  · have hhigh : 16 ≤ (fwOpOf s q delete).tag := by
      by_contra hlow
      obtain ⟨x, hx, he, ht⟩ := hused _ (Nat.lt_of_not_le hlow)
      exact (s.fwTagFree_iff ..).mp (s.fwTag_free (fwEngine s q delete)) x hx ⟨he, ht⟩
    exact ⟨hhigh, State.atHome_queueFw hhigh _⟩
  · have hbit : (q.f 4 0 0 == 1) = true := by simp [hby]
    exact ⟨hbit, rfl, if_pos hbit⟩
  · have hbit : (q.f 4 0 0 == 1) = false := by simp [hby]
    have hmsg : msgKey (fwOpOf s q delete).msg (fwOpOf s q delete).keyLen =
        msgKey (fwMsg s q delete) (typeLen s.stg.cur (q.f 5 19 12)) := msgKey_putTag ..
    rw [hmsg]
    refine ⟨hbit, (if_neg (by simp [hbit])), ?_⟩
    rw [msgKey_fwMsg]
    exact ⟨rfl, rfl, rfl⟩

end

/-! ## READ and DELETE at the home (09 R330, R340, R341, R350) -/

/-- An event of firmware at a performance monitor. -/
theorem State.pmuFirmware_counted (b ev : Nat) (o : Occ) (s : State) : ∃ p d, s.pmuFirmware b ev o = { s with pmu := p, draw := d } := by
  unfold State.pmuFirmware
  split
  · exact ⟨_, _, rfl⟩
  · obtain ⟨p, hp⟩ := State.pmuEvent_counted b ev 1 { o with priv := some 1, master := some (0x48 + s.drawNat.1 % 16) } s.drawNat.2
    exact ⟨p, _, hp⟩

/-- The operations of firmware once `o` has ended: one that waited for its credit takes it. -/
def fwOpsAfter (o : FwOp) (n : Nat) (l : List FwOp) : List FwOp :=
  (l.filter fun x => !(x.engine == o.engine && x.tag == o.tag)).map fun x =>
    if x.engine = o.engine ∧ 16 ≤ x.tag then
      (if x.tag = 16 then { x with tag := o.tag, msg := putTag x.msg o.tag, ord := n } else { x with tag := x.tag - 1 }) else x

/-- The words of an answer to READ or DELETE. -/
def fwWords (status h collected : Nat) (image : List Word) : List Word :=
  if status = stOk then [wd h, wd collected] ++ image else if status = stNoSpace then [34] else []

/-- An answer to the command that waits for it. -/
theorem State.answerFw_answers {o : FwOp} (hlost : o.lost = false) (status h collected : Nat) (image : List Word) (s : State) :
    s.answerFw o status h collected image =
      State.respond (if o.delete then 0x0611 else 0x0610) (s.late o.req) status (fwWords status h collected image)
        (s.onFlo fun f => { f with fwOps := fwOpsAfter o (f.seq + 1) f.fwOps, seq := f.seq + 1 }) := by
  unfold State.answerFw
  rw [hlost]
  rfl

/-- The first that waits for a credit of the engine takes the number. -/
theorem mem_fwOpsAfter_first {o w : FwOp} {l : List FwOp} (n : Nat) (ho : o.tag < 16) (hw : w ∈ l) (he : w.engine = o.engine) (ht : w.tag = 16) :
    { w with tag := o.tag, msg := putTag w.msg o.tag, ord := n } ∈ fwOpsAfter o n l := by
  refine List.mem_map.mpr ⟨w, List.mem_filter.mpr ⟨hw, ?_⟩, ?_⟩
  · have hne : w.tag ≠ o.tag := by omega
    simp [hne]
  · rw [if_pos ⟨he, ht.ge⟩, if_pos ht]

/-- Operations of other engines stay. -/
theorem mem_fwOpsAfter_other {o w : FwOp} {l : List FwOp} (n : Nat) (hw : w ∈ l) (he : w.engine ≠ o.engine) : w ∈ fwOpsAfter o n l := by
  refine List.mem_map.mpr ⟨w, List.mem_filter.mpr ⟨hw, ?_⟩, ?_⟩
  · simp [he]
  · rw [if_neg (fun h => he h.1)]

/-- With none that waits the others stay as they are. -/
theorem fwOpsAfter_none {o : FwOp} {l : List FwOp} (n : Nat) (h : ∀ x ∈ l, x.engine = o.engine → x.tag < 16) :
    fwOpsAfter o n l = l.filter fun x => !(x.engine == o.engine && x.tag == o.tag) := by
  refine (List.map_congr_left fun x hx => ?_).trans (List.map_id _)
  have hx := h x (List.mem_filter.mp hx).1
  exact if_neg fun ⟨he, ht⟩ => absurd (hx he) (by omega)

/-- The record that an operation of firmware finds: that of its slot, or of its key. -/
def State.fwFinds (s : State) (o : FwOp) : Option Nat :=
  if o.byHandle then (s.recOf o.handle).map fun _ => o.handle else s.findRec (msgKey o.msg o.keyLen)

/-- Whether its record is busy. -/
def State.fwBusy (s : State) (o : FwOp) : Bool := if o.byHandle then s.recBusy o.handle else s.keyBusy (msgKey o.msg o.keyLen)

theorem State.fwBusy_found {s : State} {o : FwOp} {h : Nat} (hfound : s.fwFinds o = some h) : s.fwBusy o = s.recBusy h := by
  unfold State.fwFinds at hfound
  unfold State.fwBusy State.keyBusy
  split at hfound
  next hby =>
    obtain ⟨-, -, rfl⟩ := Option.map_eq_some_iff.mp hfound
    rw [if_pos hby]
  next hby => rw [if_neg hby, hfound]

theorem State.fwBusy_absent {s : State} {o : FwOp} (hfound : s.fwFinds o = none) (hslot : o.byHandle = true → s.recBusy o.handle = false) :
    s.fwBusy o = false := by
  unfold State.fwFinds at hfound
  unfold State.fwBusy State.keyBusy
  split at hfound
  next hby => rw [if_pos hby, hslot hby]
  next hby => rw [if_neg hby, hfound]

/-- What an operation of firmware does on its record, or without one. -/
def State.fwRuns (e tag : Nat) (delete : Bool) (o : FwOp) (s : State) : State :=
  match s.fwFinds o with
  | none => s.answerFw o (if !o.byHandle && s.poisoned (msgKey o.msg o.keyLen) then stPoison else stNotFound) 0 0 []
  | some h =>
    let r := (s.recOf h).getD {}
    if o.req.room < 34 ∧ (!r.quarantined || (o.delete && o.byHandle)) then s.answerFw o stNoSpace 0 0 []
    else if r.presence = 0 then s.endFw o h 0
    else s.lockFor (if delete then 0 else 1) h (if delete then .delete e tag else .read e tag)

/-- An operation of firmware that is seen: its corrected bursts are counted. -/
def State.fwSeen (e fixed : Nat) (p : Pmu) (d : Nat) (s : State) : State := { s.bump 8 e 13 fixed with pmu := p, draw := d }

section
variable {s : State} {e tag : Nat} {delete : Bool} {o : FwOp}
  (hop : (s.flo.fwOps.find? fun o => o.engine == e && o.tag == tag && o.delete == delete) = some o)
include hop

/-- It waits for its turn, a context and its record. -/
theorem State.startFw_waits (fixed : Nat) (hwaits : s.contextOpen e 0 = false ∨ ((s.fwKey o).any fun k => s.behind o.ord e k) = true ∨
    s.fwBusy o = true) : s.startFw e tag delete none fixed = s := by
  unfold State.startFw
  rcases hwaits with hclosed | hturn | hbusy
  · simp only [hop, hclosed, Bool.not_false, if_true]
  · simp only [hop, hturn, if_true, ite_self]
  · have hbusy : (if o.byHandle = true then s.recBusy o.handle else s.keyBusy (msgKey o.msg o.keyLen)) = true := hbusy
    simp only [hop, hbusy, if_true, ite_self]

/-- Then it runs. -/
theorem State.startFw_runs (fixed : Nat) (hopen : s.contextOpen e 0 = true) (hturn : ((s.fwKey o).any fun k => s.behind o.ord e k) = false)
    (hidle : s.fwBusy o = false) : ∃ p d, s.startFw e tag delete none fixed = (s.fwSeen e fixed p d).fwRuns e tag delete o := by
  have hslot : ¬(o.byHandle = true ∧ (s.bump 8 e 13 fixed).recBusy o.handle = true) := fun ⟨hby, hbusy⟩ => by
    rw [State.fwBusy, if_pos hby] at hidle
    exact absurd (hidle.symm.trans hbusy) (by decide)
  have hbusy : (if o.byHandle = true then s.recBusy o.handle else s.keyBusy (msgKey o.msg o.keyLen)) = false := hidle
  have hfound : (if o.byHandle then s.slotEcc o.handle none else s.findEcc (msgKey o.msg o.keyLen) none) = s := by split <;> rfl
  obtain ⟨p, d, hseen⟩ := (s.bump 8 e 13 fixed).pmuFirmware_counted (72 + e) 0x01 {
    cls := some (if delete then 4 else 3), addr := some (if o.byHandle then o.handle else (s.bump 8 e 13 fixed).keyHandle (msgKey o.msg o.keyLen)) }
  unfold State.startFw
  simp only [hop, hopen, hturn, hbusy, hfound, if_neg hslot, Bool.not_true, Bool.false_eq_true, if_false]
  rw [hseen]
  exact ⟨p, d, rfl⟩

end

section
variable {s : State} {o : FwOp} (e tag : Nat) (delete : Bool)

/-- An absent record. -/
theorem State.fwRuns_absent (hfound : s.fwFinds o = none) : s.fwRuns e tag delete o =
    s.answerFw o (if !o.byHandle && s.poisoned (msgKey o.msg o.keyLen) then stPoison else stNotFound) 0 0 [] := by
  unfold State.fwRuns
  simp only [hfound]

variable {h : Nat} {r : Rec} (hfound : s.fwFinds o = some h) (hrec : s.recOf h = some r)
include hfound hrec

/-- No room for the image. -/
theorem State.fwRuns_noSpace (hroom : o.req.room < 34) (hq : r.quarantined = false) :
    s.fwRuns e tag delete o = s.answerFw o stNoSpace 0 0 [] := by
  unfold State.fwRuns
  simp only [hfound, hrec, Option.getD_some, hq, hroom, Bool.not_false, Bool.true_or, and_self, if_true]

variable (hroom : 34 ≤ o.req.room ∨ (r.quarantined = true ∧ (o.delete = false ∨ o.byHandle = false)))
include hroom

omit hfound hrec in
theorem fwRoom : ¬(o.req.room < 34 ∧ (!r.quarantined || (o.delete && o.byHandle)) = true) := by
  rintro ⟨hlow, himage⟩
  rcases hroom with h | ⟨hq, hd | hb⟩
  · omega
  · simp [hq, hd] at himage
  · simp [hq, hb] at himage

/-- A record that no ridge holds. -/
theorem State.fwRuns_ends (hfree : r.presence = 0) : s.fwRuns e tag delete o = s.endFw o h 0 := by
  unfold State.fwRuns
  simp only [hfound, hrec, Option.getD_some, if_neg (fwRoom hroom), if_pos hfree]

/-- One that ridges hold. -/
theorem State.fwRuns_locks (hheld : r.presence ≠ 0) : s.fwRuns e tag delete o =
    s.lockFor (if delete then 0 else 1) h (if delete then .delete e tag else .read e tag) := by
  unfold State.fwRuns
  simp only [hfound, hrec, Option.getD_some, if_neg (fwRoom hroom), if_neg hheld]

end

section
variable {s : State} {h : Nat} {r : Rec} (hrec : s.recOf h = some r) (o : FwOp) (collected : BitVec 8)
include hrec

theorem State.endFw_read (hq : r.quarantined = false) (hdelete : o.delete = false) :
    s.endFw o h collected = s.answerFw o stOk h collected.toNat r.image := by
  unfold State.endFw
  simp only [hrec, hq, hdelete, Bool.false_eq_true, if_false]

theorem State.endFw_delete (hq : r.quarantined = false) (hdelete : o.delete = true) :
    s.endFw o h collected = (s.evict h 2).answerFw o stOk h collected.toNat r.image := by
  unfold State.endFw
  simp only [hrec, hq, hdelete, Bool.false_eq_true, if_false, if_true]

theorem State.endFw_poison (hq : r.quarantined = true) (hdelete : o.delete = false) : s.endFw o h collected = s.answerFw o stPoison 0 0 [] := by
  unfold State.endFw
  simp only [hrec, hq, hdelete, Bool.false_and, Bool.false_eq_true, if_false, if_true]

/-- DELETE by handle frees a quarantined slot. -/
theorem State.endFw_frees (hq : r.quarantined = true) (hdelete : o.delete = true) (hby : o.byHandle = true) :
    s.endFw o h collected = (s.onFlo fun f => { f with recs := tabDel h f.recs }).answerFw o stOk h 0 r.image := by
  unfold State.endFw
  simp only [hrec, hq, hdelete, hby, Bool.and_self, if_true]

end

/-- An operation of firmware reaches its engine. -/
theorem exec_fw (e : Fin 128) (tag : Fin 16) (fixed : Nat) (slots : BitVec 8) (delete : Bool) (s : State) :
    exec (if delete then .delete e tag none fixed slots else .read e tag none fixed slots) s =
      .next ((s.sees slots).startFw e.val tag.val delete none fixed) := by
  cases delete <;> rfl

/-- With its turn, a context and its record free, it runs. -/
theorem exec_fw_runs {s : State} {e : Fin 128} {tag : Fin 16} {delete : Bool} {o : FwOp}
    (hop : (s.flo.fwOps.find? fun o => o.engine == e.val && o.tag == tag.val && o.delete == delete) = some o) (slots : BitVec 8) (fixed : Nat)
    (hopen : s.contextOpen e.val 0 = true) (hturn : ∀ k, s.fwKey o = some k → s.behind o.ord e.val k = false) (hidle : s.fwBusy o = false) :
    ∃ p d, exec (if delete then .delete e tag none fixed slots else .read e tag none fixed slots) s =
      .next (((s.sees slots).fwSeen e.val fixed p d).fwRuns e.val tag.val delete o) := by
  have hany : (((s.sees slots).fwKey o).any fun k => (s.sees slots).behind o.ord e.val k) = false := by
    cases hkey : (s.sees slots).fwKey o with
    | none => rfl
    | some k => exact hturn k hkey
  obtain ⟨p, d, hruns⟩ := State.startFw_runs (s := s.sees slots) hop fixed hopen hany hidle
  exact ⟨p, d, (exec_fw e tag fixed slots delete s).trans (congrArg Host.Outcome.next hruns)⟩

/-- An absent record's answer has no words. -/
theorem fwWords_absent (b : Bool) : fwWords (if b then stPoison else stNotFound) 0 0 [] = [] := by cases b <;> rfl

/-- Settles O23: the commands, and READ and DELETE at the home, from those that wait to those that lock their record. -/
theorem homeReadsAndDeletes : Obligations.HomeReadsAndDeletes := by
  unfold Obligations.HomeReadsAndDeletes
  constructor
  · intro s delete r q op c haccepts hsize hrsv hhandle hkey
    exact ⟨flowFw_refused haccepts hsize (fwChk_good hrsv hhandle hkey), flowFw_queued haccepts hsize (fwChk_good hrsv hhandle hkey)⟩
  intro s e tag fixed slots delete o c rq op k at_ hop hdelete hlost credit
  subst hdelete
  have htag : o.tag < 16 := by
    have hnamed := List.find?_some hop
    simp only [Bool.and_eq_true, beq_iff_eq] at hnamed
    omega
  have hcredit (u : State) (hu : u.flo.fwOps = fwOpsAfter o (s.flo.seq + 1) s.flo.fwOps) : credit u := by
    refine ⟨fun w hw he ht => ?_, fun w hw he => ?_⟩ <;> rw [hu]
    · exact mem_fwOpsAfter_first _ htag hw he ht
    · exact mem_fwOpsAfter_other _ hw he
  refine ⟨?waits, fun hturn hopen => ⟨?absent, fun h r hfound hrec hbusy => ?found⟩⟩
  case waits =>
    intro hwaits
    refine (exec_fw e tag fixed slots o.delete s).trans (congrArg Host.Outcome.next (State.startFw_waits (s := s.sees slots) hop fixed ?_))
    rcases hwaits with ⟨k, hk, hbehind⟩ | hclosed | ⟨h, hfound, hbusy⟩
    · refine .inr (.inl ?_)
      rw [show (s.sees slots).fwKey o = some k from hk]
      exact hbehind
    · exact .inl hclosed
    · exact .inr (.inr ((State.fwBusy_found (s := s.sees slots) hfound).trans hbusy))
  case absent =>
    intro hfound hslot
    obtain ⟨p, d, hexec⟩ := exec_fw_runs hop slots fixed hopen hturn (State.fwBusy_absent hfound hslot)
    rw [State.fwRuns_absent (s := (s.sees slots).fwSeen e.val fixed p d) _ _ _ hfound, State.answerFw_answers hlost, fwWords_absent] at hexec
    have hstatus : (if (!o.byHandle && State.poisoned ((s.sees slots).fwSeen e.val fixed p d) k) = true then stPoison else stNotFound) =
        if o.byHandle = false ∧ s.poisoned k = true then stPoison else stNotFound := by
      refine if_congr ?_ rfl rfl
      rw [Bool.and_eq_true, Bool.not_eq_true']
      exact Iff.rfl
    rw [hstatus] at hexec
    exact ⟨_, hexec, rfl, hcredit _ rfl, fun hnone => fwOpsAfter_none _ hnone⟩
  case found =>
    obtain ⟨p, d, hexec⟩ := exec_fw_runs hop slots fixed hopen hturn ((State.fwBusy_found hfound).trans hbusy)
    have hfound' : ((s.sees slots).fwSeen e.val fixed p d).fwFinds o = some h := hfound
    have hrec' : ((s.sees slots).fwSeen e.val fixed p d).recOf h = some r := hrec
    refine ⟨fun hroom hq => ?noSpace, fun hroom hfree hq => ?whole, fun hfree hq hby hread => ?poison, fun hroom hfree hq hby hdel => ?frees,
      fun hroom hheld => ?locks⟩
    case noSpace =>
      rw [State.fwRuns_noSpace _ _ _ hfound' hrec' hroom hq, State.answerFw_answers hlost] at hexec
      exact ⟨_, hexec, rfl, hcredit _ rfl⟩
    case whole =>
      rw [State.fwRuns_ends _ _ _ hfound' hrec' (.inl hroom) hfree] at hexec
      cases hdel : o.delete with
      | false =>
        rw [State.endFw_read hrec' _ _ hq hdel, State.answerFw_answers hlost] at hexec
        exact ⟨_, hexec, rfl, fun _ => ⟨rfl, rfl, rfl⟩, fun h => nomatch h⟩
      | true =>
        obtain ⟨nat, freed, a, hevict, hcount⟩ := State.evict_parts hrec' 2
        rw [State.endFw_delete hrec' _ _ hq hdel, hevict, State.answerFw_answers hlost] at hexec
        refine ⟨_, hexec, rfl, fun h => (nomatch h), fun _ => ⟨tabFind_tabDel_same .., fun j hj => tabFind_tabDel_other hj ..,
          hcount.trans ?_⟩⟩
        exact congrArg (fun v => (v + 1) % 2 ^ 64)
          (State.bump_count_index (x := 13) (by decide) (by decide) (by decide) 8 e.val 8 (engineOf h) fixed s)
    case poison =>
      rw [State.fwRuns_ends _ _ _ hfound' hrec' (.inr ⟨hq, .inl hread⟩) hfree, State.endFw_poison hrec' _ _ hq hread,
        State.answerFw_answers hlost] at hexec
      exact ⟨_, hexec, rfl⟩
    case frees =>
      rw [State.fwRuns_ends _ _ _ hfound' hrec' (.inl hroom) hfree, State.endFw_frees hrec' _ _ hq hdel hby,
        State.answerFw_answers hlost] at hexec
      exact ⟨_, hexec, tabFind_tabDel_same ..⟩
    case locks =>
      rw [State.fwRuns_locks _ _ _ hfound' hrec' (.inl hroom) hheld] at hexec
      obtain ⟨a, hlock⟩ := State.lockFor_parts hrec' (if o.delete then 0 else 1) (if o.delete then .delete e.val tag.val else .read e.val tag.val)
      rw [hlock] at hexec
      exact ⟨_, hexec, rfl, rfl, ⟨_, tabFind_tabIns_same .., rfl, rfl⟩, rfl⟩

end Sys2Proof.Machine
end

section
/-!
PROOF of VoidsAndCompanions (O27): VOID at the home, COMPANION and its result (09 R311, R318, R338; 10 R355, R374, R375).
-/

namespace Sys2Proof.Machine

open Sys2Proof

/-! ## Runs keep the contexts (10 R355) -/

@[simp] theorem State.onRec_prg (h : Nat) (f : Rec → Rec) (s : State) : (s.onRec h f).prg = s.prg := by
  unfold State.onRec; split <;> rfl

@[simp] theorem writeOp_prg (n : Nat) (v : Word) (p : Exec) : (writeOp n v p).2.prg = p.2.prg := by
  unfold writeOp
  dsimp only
  split
  · split
    · exact State.onRec_prg ..
    · rfl
  · split_ifs <;> rfl

@[simp] theorem endRun_prg (p : Exec) : (endRun p).2.prg = p.2.prg := by
  unfold endRun
  dsimp only
  split
  · exact State.onRec_prg ..
  · rfl

theorem instrMeter_prg (e : Nat) (w : Word) (p : Exec) : (instrMeter e w p).2.prg = p.2.prg := by
  unfold instrMeter
  dsimp only
  split
  · exact writeOp_prg ..
  · simp [countProg]

theorem instrNatalloc_ctx (e : Nat) (w : Word) (p : Exec) : (instrNatalloc e w p).2.prg.ctx = p.2.prg.ctx := by
  unfold instrNatalloc
  dsimp only
  split
  · simp
  · split
    · simp [countProg]
    · simp [countProg, State.onPrg]

theorem State.natFree_ctx (e : Nat) (w : Word) (s : State) : (s.natFree e w).prg.ctx = s.prg.ctx := by
  unfold State.natFree
  dsimp only
  split <;> rfl

theorem instrLbsel_prg (e : Nat) (w : Word) (p : Exec) : (instrLbsel e w p).2.prg = p.2.prg := by
  unfold instrLbsel
  dsimp only
  split <;> simp [countProg]

theorem instrComp_ctx (e ctx : Nat) (w : Word) (p : Exec) : (instrComp e ctx w p).2.prg.ctx = p.2.prg.ctx := by
  unfold instrComp
  dsimp only
  split
  · rfl
  · split
    · rfl
    · split <;> rfl

theorem State.stage_ctx {stack : Nat} {r : List Word} {s t : State} (h : s.stage stack r = some t) : t.prg.ctx = s.prg.ctx := by
  unfold State.stage at h
  dsimp only at h
  split at h
  · split at h
    · cases h; simp [State.onPrg]
    · contradiction
  · cases h; rfl

theorem instrEmit_ctx (e : Nat) (w : Word) (p : Exec) : (instrEmit e w p).2.prg.ctx = p.2.prg.ctx := by
  unfold instrEmit
  dsimp only
  split
  · rfl
  · split
    · rfl
    next t ht =>
      have hstage := State.stage_ctx ht
      simpa [countProg] using hstage

/-- An instruction touches no context. -/
theorem instrOf_ctx (e ctx : Nat) (w : Word) (p : Exec) : (instrOf e ctx w p).2.prg.ctx = p.2.prg.ctx := by
  have hskip (n : Nat) : (skipBy n p).2.prg.ctx = p.2.prg.ctx := rfl
  have hwrite (n : Nat) (v : Word) : (writeOp n v p).2.prg.ctx = p.2.prg.ctx := congrArg Prg.ctx (writeOp_prg ..)
  unfold instrOf
  split
  · unfold instrSkip; split <;> rfl
  · unfold instrSkipi; split <;> rfl
  · exact hwrite ..
  · exact hwrite ..
  · exact hwrite ..
  · exact hwrite ..
  · exact hwrite ..
  · exact hwrite ..
  · exact hwrite ..
  · exact hwrite ..
  · exact hwrite ..
  · unfold instrSetsc; split
    · rfl
    · exact congrArg Prg.ctx (State.onRec_prg ..)
  · exact congrArg Prg.ctx (instrMeter_prg ..)
  · exact instrNatalloc_ctx ..
  · exact State.natFree_ctx ..
  · exact congrArg Prg.ctx (instrLbsel_prg ..)
  · exact instrComp_ctx ..
  · exact instrEmit_ctx ..
  · exact hwrite ..
  · rfl

theorem doInstr_ctx (e ctx : Nat) (w : Word) (p : Exec) : (doInstr e w (instrOf e ctx w) p).2.prg.ctx = p.2.prg.ctx := by
  unfold doInstr
  extract_lets o q
  split
  · rfl
  · refine (instrOf_ctx ..).trans ?_
    simp

/-- A run touches no context. -/
theorem runFrom_ctx (c : Cfg) (e ctx n : Nat) (p : Exec) : (runFrom c e ctx n p).2.prg.ctx = p.2.prg.ctx := by
  induction n generalizing p with
  | zero => rfl
  | succ n ih =>
    rw [runFrom]
    split
    · rfl
    · exact (ih _).trans (doInstr_ctx ..)

/-! ## The end of an operation (09 R318, R324, R329; 10 R358, R375) -/

/-- What ends an operation keeps: the contexts, the operations, and every other record. -/
structure State.KeepsFlow (s : State) (h : Nat) (t : State) : Prop where
  ctx : t.prg.ctx = s.prg.ctx
  ops : t.flo.ops = s.flo.ops
  recs : ∀ j, j ≠ h → t.recOf j = s.recOf j

theorem State.KeepsFlow.refl (s : State) (h : Nat) : s.KeepsFlow h s := ⟨rfl, rfl, fun _ _ => rfl⟩

theorem State.KeepsFlow.trans {s t u : State} {h : Nat} (hst : s.KeepsFlow h t) (htu : t.KeepsFlow h u) : s.KeepsFlow h u :=
  ⟨htu.ctx.trans hst.ctx, htu.ops.trans hst.ops, fun j hj => (htu.recs j hj).trans (hst.recs j hj)⟩

theorem State.keepsFlow_evict (h reason : Nat) (s : State) : s.KeepsFlow h (s.evict h reason) := by
  cases hrec : s.recOf h with
  | none =>
    rw [State.evict_absent hrec]
    exact .refl s h
  | some r =>
    obtain ⟨nat, freed, a, hevict, -⟩ := State.evict_parts hrec reason
    rw [hevict]
    cases reason == 3 <;> exact ⟨rfl, rfl, fun j hj => tabFind_tabDel_other hj ..⟩

/-- A lock keeps the record as well. -/
theorem State.lockFor_recs (kind h : Nat) (why : LockWhy) (s : State) : (s.lockFor kind h why).flo.recs = s.flo.recs := by
  cases hrec : s.recOf h with
  | none => rw [State.lockFor_absent hrec]
  | some r =>
    obtain ⟨a, hlock⟩ := State.lockFor_parts hrec kind why
    rw [hlock]

theorem State.keepsFlow_lockFor (kind h : Nat) (why : LockWhy) (s : State) : s.KeepsFlow h (s.lockFor kind h why) := by
  refine ⟨?_, ?_, fun j _ => congrArg (fun l => tabFind l j) (s.lockFor_recs kind h why)⟩ <;> cases hrec : s.recOf h with
  | none => rw [State.lockFor_absent hrec]
  | some r =>
    obtain ⟨a, hlock⟩ := State.lockFor_parts hrec kind why
    rw [hlock]

theorem State.keepsFlow_evictSoon (h reason : Nat) (s : State) : s.KeepsFlow h (s.evictSoon h reason) := by
  unfold State.evictSoon
  split
  · exact .refl s h
  · split
    · exact s.keepsFlow_evict h reason
    · exact s.keepsFlow_lockFor ..

theorem State.keepsFlow_endRecord (x : Run) (h : Nat) (s : State) : s.KeepsFlow h (s.endRecord x h) := by
  unfold State.endRecord
  split
  · exact .refl s h
  · split_ifs
    · exact .refl s h
    · exact s.keepsFlow_evictSoon ..
    · exact s.keepsFlow_lockFor ..
    · exact .refl s h

theorem State.keepsFlow_onRec (h : Nat) (f : Rec → Rec) (s : State) : s.KeepsFlow h (s.onRec h f) := by
  unfold State.onRec
  split
  · exact ⟨rfl, rfl, fun j hj => tabFind_tabIns_other hj ..⟩
  · exact .refl s h

theorem State.keepsFlow_bump (k i x n h : Nat) (s : State) : s.KeepsFlow h (s.bump k i x n) := ⟨rfl, rfl, fun _ _ => rfl⟩

theorem State.keepsFlow_natRelease (e n h : Nat) (ws : List Word) (s : State) : s.KeepsFlow h (s.natRelease e n ws) := by
  obtain ⟨nat, freed, a, hnat, -⟩ := s.natRelease_parts e n ws
  rw [hnat]
  exact ⟨rfl, rfl, fun _ _ => rfl⟩

theorem State.keepsFlow_failCompanion (e : Nat) (x : Run) (h : Nat) (s : State) : s.KeepsFlow h (s.failCompanion e x h).2 := by
  exact (s.keepsFlow_natRelease ..).trans ((State.keepsFlow_onRec ..).trans (State.keepsFlow_bump ..))

/-- A grant touches the caches and what they send. -/
theorem State.grantEntry_parts (r : Nat) (x : CacheEntry) (s : State) : ∃ l coh n p a, s.grantEntry r x =
    { s with flo := { s.flo with cache := l, coh := coh, seq := n }, pmu := p, ctr := a } := by
  unfold State.grantEntry
  dsimp only
  split
  · exact ⟨_, _, _, _, _, rfl⟩
  · split
    · split
      · rw [State.pushCoh_setCache]
        obtain ⟨p, hp⟩ := State.pmuEvent_counted (64 + r) 0x06 1 _ _
        exact ⟨_, _, _, p, _, hp⟩
      · exact ⟨_, _, _, _, _, rfl⟩
    · exact ⟨_, _, _, _, _, rfl⟩

/-- A grant of an entry at a ridge marks its record. -/
def State.grant (r h mask : Nat) (lease : Bool) (entry : CacheEntry) (s : State) : State :=
  (((s.onRec h fun q => { q with
    presence := q.presence ||| BitVec.ofNat 8 (2 ^ r), leaseMask := if lease then q.leaseMask ||| mask else q.leaseMask }).grantEntry r entry).bump
      10 r 1 1).pmuEvent (64 + r) 0x04 1 { addr := some h }

theorem State.onRec_parts (h : Nat) (f : Rec → Rec) (s : State) :
    s.onRec h f = { s with flo := { s.flo with recs := (s.onRec h f).flo.recs } } := by
  unfold State.onRec; split <;> rfl

theorem State.onRec_count (h : Nat) (f : Rec → Rec) (k i x : Nat) (s : State) : (s.onRec h f).count k i x = s.count k i x := by
  unfold State.onRec; split <;> rfl

theorem State.onRec_same {s : State} {h : Nat} {r : Rec} (hrec : s.recOf h = some r) (f : Rec → Rec) : (s.onRec h f).recOf h = some (f r) := by
  unfold State.onRec
  simp only [hrec]
  exact tabFind_tabIns_same ..

theorem State.grant_parts (r h mask : Nat) (lease : Bool) (entry : CacheEntry) (s : State) : ∃ recs l coh n p a,
    s.grant r h mask lease entry = { s with
      flo := { s.flo with recs := recs, cache := l, coh := coh, seq := n }, pmu := p, ctr := a } ∧
    (∀ j, j ≠ h → tabFind recs j = s.recOf j) ∧
    ∀ q, s.recOf h = some q → ∃ q', tabFind recs h = some q' ∧ q'.w = q.w ∧ q'.state = q.state ∧ q'.quarantined = q.quarantined := by
  unfold State.grant
  generalize hf : (fun q : Rec => { q with
    presence := q.presence ||| BitVec.ofNat 8 (2 ^ r), leaseMask := if lease then q.leaseMask ||| mask else q.leaseMask }) = f
  have hkeeps := s.keepsFlow_onRec h f
  rw [State.onRec_parts]
  obtain ⟨l, coh, n, p, a, hgrant⟩ := State.grantEntry_parts r entry { s with flo := { s.flo with recs := (s.onRec h f).flo.recs } }
  rw [hgrant]
  obtain ⟨p', hp'⟩ := State.pmuEvent_counted (64 + r) 0x04 1 { addr := some h } (State.bump 10 r 1 1 { s with
    flo := { s.flo with recs := (s.onRec h f).flo.recs, cache := l, coh := coh, seq := n }, pmu := p, ctr := a })
  refine ⟨_, _, _, _, _, _, hp', hkeeps.recs, fun q hq => ⟨_, State.onRec_same hq f, ?_⟩⟩
  rw [← hf]
  exact ⟨rfl, rfl, rfl⟩

/-- An operation that ends may be granted an entry; its result leaves, and its record may follow. -/
theorem State.endOperate_cases (c tag : Nat) (x : Run) (h : Nat) (s : State) : ∃ t yes lease,
    s.endOperate c tag x h = (t.sendResult c tag x.inStatus yes lease h x.y (some x.ran)).endRecord x h ∧
    (t = s ∨ ((s.recOf h).getD {}).state ≠ 0xE ∧ ∃ mask lease entry, t = s.grant (ridgeOf c) h mask lease entry) := by
  unfold State.endOperate
  extract_lets cfg r rec1 yes lease k entry u t
  refine ⟨t, b2n yes, b2n (yes && lease), rfl, ?_⟩
  cases hyes : yes with
  | false => exact .inl (if_neg (by simp [hyes]))
  | true =>
    have hopen : rec1.state ≠ 0xE := by
      simp only [yes, Bool.and_eq_true, bne_iff_ne] at hyes
      exact hyes.1.2
    exact .inr ⟨hopen, _, _, _, if_pos hyes⟩

/-- Only the results of a cell's own operation are written. -/
theorem State.mem_onOp {c tag : Nat} {f : Op → Option Op} {s : State} {p : Op} (hp : p ∈ (s.onOp c tag f).flo.ops) (hcell : p.cell = c)
    (htag : p.tag = tag) : ∃ o ∈ s.flo.ops, (o.cell = c ∧ o.tag = tag) ∧ f o = some p := by
  obtain ⟨o, ho, hfo⟩ := List.mem_filterMap.mp hp
  split at hfo
  next h => exact ⟨o, ho, h, hfo⟩
  next h => cases hfo; exact absurd ⟨hcell, htag⟩ h

theorem State.answered_sendResult (c tag st grant lease h : Nat) (y : List Word) (ran : Option Ran) (s : State) :
    (s.sendResult c tag st grant lease h y ran).Answered c tag st h y := fun p hp hcell htag => by
  obtain ⟨o, -, ⟨-, hot⟩, heq⟩ := State.mem_onOp hp hcell htag
  cases heq
  exact ⟨rfl, grant, lease, by rw [hot]⟩

theorem State.KeepsFlow.answered {s t : State} {h : Nat} (hst : s.KeepsFlow h t) {c tag st k : Nat} {y : List Word}
    (hs : s.Answered c tag st k y) : t.Answered c tag st k y := fun p hp => hs p (hst.ops ▸ hp)

/-- An operation that ends is answered; the contexts and the other records stay. -/
theorem State.endOperate_keeps (c tag : Nat) (x : Run) (h : Nat) (s : State) :
    (s.endOperate c tag x h).Answered c tag x.inStatus h x.y ∧ (s.endOperate c tag x h).prg.ctx = s.prg.ctx ∧
      ∀ j, j ≠ h → (s.endOperate c tag x h).recOf j = s.recOf j := by
  obtain ⟨t, yes, lease, hend, hgrant⟩ := s.endOperate_cases c tag x h
  have ht : t.prg.ctx = s.prg.ctx ∧ ∀ j, j ≠ h → t.recOf j = s.recOf j := by
    rcases hgrant with rfl | ⟨-, mask, l, entry, rfl⟩
    · exact ⟨rfl, fun _ _ => rfl⟩
    · obtain ⟨recs, _, _, _, _, _, hparts, hrecs, -⟩ := s.grant_parts (ridgeOf c) h mask l entry
      rw [hparts]
      exact ⟨rfl, hrecs⟩
  have hkeeps := (t.sendResult c tag x.inStatus yes lease h x.y (some x.ran)).keepsFlow_endRecord x h
  rw [hend]
  exact ⟨hkeeps.answered (State.answered_sendResult c tag x.inStatus yes lease h x.y (some x.ran) t), hkeeps.ctx.trans ht.1,
    fun j hj => (hkeeps.recs j hj).trans (ht.2 j hj)⟩

/-- A record that stays open keeps its words. -/
theorem State.endOperate_open {s : State} {h : Nat} {r : Rec} (hrec : s.recOf h = some r) (hq : r.quarantined = false) (hopen : r.state ≠ 0xE)
    (c tag : Nat) (x : Run) : ∃ q, (s.endOperate c tag x h).recOf h = some q ∧ q.w = r.w := by
  obtain ⟨t, yes, lease, hend, hgrant⟩ := s.endOperate_cases c tag x h
  have ht : ∃ q, t.recOf h = some q ∧ q.w = r.w ∧ q.state = r.state ∧ q.quarantined = r.quarantined := by
    rcases hgrant with rfl | ⟨-, mask, l, entry, rfl⟩
    · exact ⟨r, hrec, rfl, rfl, rfl⟩
    · obtain ⟨recs, _, _, _, _, _, hparts, -, hmarked⟩ := s.grant_parts (ridgeOf c) h mask l entry
      rw [hparts]
      exact hmarked r hrec
  obtain ⟨q, hqrec, hw, hstate, hquar⟩ := ht
  refine ⟨q, ?_, hw⟩
  have hsent : (t.sendResult c tag x.inStatus yes lease h x.y (some x.ran)).recOf h = some q := hqrec
  rw [hend]
  unfold State.endRecord
  simp only [hsent, hquar.trans hq, Bool.false_eq_true, if_false, if_neg (fun h => hopen (hstate.symm.trans h))]
  split
  · exact (congrArg (fun l => tabFind l h) (State.lockFor_recs ..)).trans hsent
  · exact hsent

/-- A closed record that no ridge holds leaves. -/
theorem State.endOperate_closed {s : State} {h : Nat} {r : Rec} (hrec : s.recOf h = some r) (hq : r.quarantined = false) (hclosed : r.state = 0xE)
    (hfree : r.presence = 0) (c tag : Nat) (x : Run) : (s.endOperate c tag x h).recOf h = none := by
  obtain ⟨t, yes, lease, hend, hgrant⟩ := s.endOperate_cases c tag x h
  have ht : t = s := by
    rcases hgrant with rfl | ⟨hopen, -⟩
    · rfl
    · rw [hrec] at hopen
      exact absurd hclosed hopen
  subst ht
  have hsent : (t.sendResult c tag x.inStatus yes lease h x.y (some x.ran)).recOf h = some r := hrec
  rw [hend]
  unfold State.endRecord
  simp only [hsent, hq, Bool.false_eq_true, if_false, if_pos hclosed]
  obtain ⟨nat, freed, a, hevict, -⟩ := State.evict_parts hsent 1
  rw [State.evictSoon_free hsent hfree, hevict]
  exact tabFind_tabDel_same ..

/-! ## Stalled contexts (10 R374; log entry 146) -/

/-- What the end of a run leaves of its context: nothing, or the context that holds for its companion. -/
theorem State.settleRun_ctx (c tag e k : Nat) (p : Exec) :
    (State.settleRun c tag e k p).prg.ctx = p.2.prg.ctx ∨
    p.1.handle.isSome = true ∧ (State.settleRun c tag e k p).prg.ctx = tabIns (ctxKey e k) { p.1 with holds := some (c, tag) } p.2.prg.ctx := by
  unfold State.settleRun
  dsimp only
  split
  · exact .inl rfl
  next h hh =>
    split_ifs
    · exact .inr ⟨by rw [hh]; rfl, rfl⟩
    · exact .inl ((State.endOperate_keeps ..).2.1.trans (State.keepsFlow_failCompanion ..).ctx)
    · exact .inl (State.endOperate_keeps ..).2.1

/-- A context that stalls before its COMP. -/
def State.stalledAt (s : State) (e k : Nat) : Bool :=
  match tabFind s.prg.ctx (ctxKey e k) with | some x => x.stall && x.holds.isSome | none => false

/-- With none stalled, or eight held, none goes on. -/
theorem State.resumeStalled_none {s : State} {e : Nat}
    (h : (∀ i y, i < 12 → tabFind s.prg.ctx (ctxKey e i) = some y → y.stall = false) ∨ 8 ≤ s.heldContexts e) : s.resumeStalled e = s := by
  unfold State.resumeStalled
  rcases h with hnone | hheld
  · have hfind : (List.range 12).find? (s.stalledAt e) = none := by
      refine List.find?_eq_none.mpr fun i hi => ?_
      unfold State.stalledAt
      split
      next y hy => simp [hnone i y (List.mem_range.mp hi) hy]
      · simp
    split
    next k hk => exact absurd (hfind.symm.trans hk) (by simp)
    · rfl
  · split
    · exact if_pos hheld
    · rfl

/-- Else the lowest goes on. -/
theorem State.resumeStalled_runs {s : State} {e i : Nat} {y : Run} {ct : Nat × Nat} (hi : i < 12) (hctx : tabFind s.prg.ctx (ctxKey e i) = some y)
    (hstall : y.stall = true) (hholds : y.holds = some ct)
    (hfirst : ∀ j z, j < i → tabFind s.prg.ctx (ctxKey e j) = some z → z.stall = false) (hheld : s.heldContexts e < 8) :
    s.resumeStalled e = State.settleRun ct.1 ct.2 e i (runFrom (y.cfg s) e i 12
      ({ y with stall := false, holds := none }, s.onPrg fun g => { g with ctx := tabDel (ctxKey e i) g.ctx })) := by
  have hfind : (List.range 12).find? (s.stalledAt e) = some i := by
    refine List.find?_range_eq_some.mpr ⟨?_, List.mem_range.mpr hi, fun j hj => ?_⟩
    · simp [State.stalledAt, hctx, hstall, hholds]
    · unfold State.stalledAt
      split
      next z hz => simp [hfirst j z hj hz]
      · rfl
  have hrun : tabGet {} s.prg.ctx (ctxKey e i) = y := congrArg (fun o : Option Run => o.getD {}) hctx
  unfold State.resumeStalled
  split
  next k hk =>
    obtain rfl : i = k := Option.some.inj (hfind.symm.trans hk)
    simp only [hrun, hholds, Option.getD_some, if_neg (Nat.not_le.mpr hheld)]
  next hk => exact absurd (hfind.symm.trans hk) (by simp)

/-! ## VOID at its home (09 R338) -/

theorem takeFirst_none {α : Type} {p : α → Bool} {l : List α} (h : ∀ x ∈ l, p x = false) : takeFirst p l = none := by
  induction l with
  | nil => rfl
  | cons x l ih =>
    obtain ⟨hx, hl⟩ := List.forall_mem_cons.mp h
    simp [takeFirst, hx, ih hl]

/-- A VOID at its home, once it is seen. -/
def State.voidSeen (v : VoidMsg) (rest : List VoidMsg) (fixed : Nat) (p : Pmu) (s : State) : State :=
  { (s.onFlo fun f => { f with voids := rest }).bump 8 (s.voidHome v) 13 fixed with pmu := p }

theorem State.voidSeen_counted (c : Fin 64) (v : VoidMsg) (rest : List VoidMsg) (fixed : Nat) (s : State) :
    let found := (s.onFlo fun f => { f with voids := rest }).bump 8 (s.voidHome v) 13 fixed
    ∃ p, found.pmuEvent (72 + s.voidHome v) 0x01 1 { priv := some v.priv, master := some c.val, cls := some 1
                                                     addr := some (found.keyHandle (msgKey v.msg v.keyLen)) } =
      s.voidSeen v rest fixed p := State.pmuEvent_counted ..

theorem State.voidSeen_fixed (v : VoidMsg) (rest : List VoidMsg) (fixed : Nat) (p : Pmu) (s : State) :
    (s.voidSeen v rest fixed p).count 8 (s.voidHome v) 13 = (s.count 8 (s.voidHome v) 13 + fixed) % 2 ^ 64 :=
  State.bump_count_same 8 (s.voidHome v) 13 fixed s

theorem State.voidSeen_count_other {i : Nat} (hi : i ≠ 13) (v : VoidMsg) (rest : List VoidMsg) (fixed : Nat) (p : Pmu) (s : State) :
    (s.voidSeen v rest fixed p).count 8 (s.voidHome v) i = s.count 8 (s.voidHome v) i :=
  State.bump_count_other (k := 8) (i := s.voidHome v) hi fixed s

/-- A record from which a VOID takes its frame. -/
def Rec.voids (m : List Word) (r : Rec) : Rec :=
  { r with packets := unsigned64 ((r.packets : Int) - 1), bytes := unsigned64 ((r.bytes : Int) - msgLength m), voided := true }

section
variable {s : State} {c : Fin 64} {v : VoidMsg} {rest : List VoidMsg}
  (htaken : takeFirst (fun v => v.cell == c.val && s.voidReady v) s.flo.voids = some (v, rest)) (fixed : Nat)
include htaken

/-- One that finds no record is counted. -/
theorem exec_void_absent (habsent : s.findRec (msgKey v.msg v.keyLen) = none) : ∃ p, exec (.void c none fixed) s =
    .next ((s.voidSeen v rest fixed p).bump 8 (s.voidHome v) 12 1) := by
  obtain ⟨p, hp⟩ := s.voidSeen_counted c v rest fixed
  have hseen : (s.voidSeen v rest fixed p).findRec (msgKey v.msg v.keyLen) = none := habsent
  change ∃ p, execVoid c none fixed s = _
  unfold execVoid
  simp only [htaken, State.findEcc, hp, hseen]
  exact ⟨p, rfl⟩

/-- One that finds its record takes its frame off it. -/
theorem exec_void_found {h : Nat} (hfound : s.findRec (msgKey v.msg v.keyLen) = some h) : ∃ p, exec (.void c none fixed) s =
    .next (((s.voidSeen v rest fixed p).onRec h (Rec.voids v.msg)).bump 8 (s.voidHome v) 11 1) := by
  obtain ⟨p, hp⟩ := s.voidSeen_counted c v rest fixed
  have hseen : (s.voidSeen v rest fixed p).findRec (msgKey v.msg v.keyLen) = some h := hfound
  change ∃ p, execVoid c none fixed s = _
  unfold execVoid
  simp only [htaken, State.findEcc, hp, hseen]
  exact ⟨p, rfl⟩

end

/-! ## COMPANION at its home (10 R374, R375) -/

theorem Run.cfg_of {x : Run} {s : State} {cfg : Cfg} (h : s.epochCfg (msgEpoch x.msg) = some cfg) : x.cfg s = cfg :=
  congrArg (fun o : Option Cfg => o.getD s.stg.cur) h

/-- A program without instructions only counts its run. -/
theorem runProgram_empty {c : Cfg} {x : Run} (hlength : progLength c x.program = 0) (e ctx : Nat) (s : State) :
    runProgram c e ctx x s = (x, s.bump 12 e 0 1) := by
  unfold runProgram
  rw [runFrom, if_pos (.inr (.inr (by rw [hlength]; exact Nat.zero_le _)))]

/-- A run that wrote nothing leaves an open record as it is. -/
theorem State.endRecord_untouched {s : State} {x : Run} {h : Nat} {r : Rec} (hrec : s.recOf h = some r) (hopen : r.state ≠ 0xE)
    (hwrote : x.wrote = 0) : s.endRecord x h = s := by
  unfold State.endRecord
  simp only [hrec, hwrote, Nat.and_zero, ne_eq, not_true_eq_false, and_false, if_false, if_neg hopen, ite_self]

/-- A companion of a program without instructions answers at once. -/
theorem State.runCompanion_empty {s : State} {x : Run} {h st : Nat} {r : Rec} {cfg : Cfg} (hhandle : x.handle = some h)
    (hstatus : x.inStatus = st) (hwrote : x.wrote = 0) (hrec : s.recOf h = some r) (hopen : r.state ≠ 0xE)
    (hepoch : s.epochCfg (msgEpoch x.msg) = some cfg) (hlength : progLength cfg x.program = 0) (m : CompMsg) :
    s.runCompanion m x = (s.bump 12 m.home 0 1).compAnswer m st h := by
  have hrun : runProgram (x.cfg s) m.home 12 { x with companionRun := true } s = ({ x with companionRun := true }, s.bump 12 m.home 0 1) := by
    refine runProgram_empty ?_ m.home 12 s
    rw [Run.cfg_of hepoch]
    exact hlength
  have hrec' : ((s.bump 12 m.home 0 1).compAnswer m st h).recOf h = some r := hrec
  unfold State.runCompanion
  simp only [hrun]
  simp only [hhandle, Option.getD_some, hstatus]
  exact State.endRecord_untouched hrec' hopen hwrote

/-- The answer reaches the context that waits. -/
theorem State.compAnswer_result (m : CompMsg) (st h : Nat) (s : State) :
    ((s.compAnswer m st h).ctxRun m.engine m.context).compResult = some (st, h) := by
  unfold State.ctxRun State.compAnswer
  exact congrArg Run.compResult (tabGet_tabMod_same {} (ctxKey m.engine m.context) (fun x => { x with compResult := some (st, h) }) s.prg.ctx)

/-- The slot that a new record takes, where its zone lets it and its first bucket has one. -/
theorem State.createRec_ok {s : State} {e h : Nat} {r : Rec} (hzone : (s.zoneJudge e r.zone).1 = 0)
    (hfree : s.freeSlot (bucketA (s.hashKey r.fkey)) = some h) : ∃ b a, s.createRec e r = (.ok h, { s with
      flo := { s.flo with recs := tabIns h r s.flo.recs, zoneBucket := b }, ctr := a }) := by
  have hplace : s.placeFor r.fkey = (some h, s) := by
    unfold State.placeFor
    simp only [hfree]
  refine ⟨tabPut {} (e * 4096 + r.zone) (s.zoneJudge e r.zone).2 s.flo.zoneBucket, ((s.bump 8 e 1 1).bump 11 r.zone 1 1).ctr, ?_⟩
  unfold State.createRec
  simp only [hzone, ne_eq, not_true_eq_false, if_false, hplace]
  rfl

section
variable {s : State} {e : Fin 128} {k : Fin 16} {m : CompMsg} {cfg : Cfg}
  (hsent : (s.prg.comps.find? fun m => m.engine == e.val && m.context == k.val) = some m)
  (hepoch : s.epochCfg (msgEpoch m.msg) = some cfg)
  (hturn : s.behind m.ord m.home (msgKey m.msg m.keyLen) = false) (hidle : s.keyBusy (msgKey m.msg m.keyLen) = false) (fixed : Nat)

/-- A companion at its home, once it is seen. -/
def State.compSeen (m : CompMsg) (fixed : Nat) (p : Pmu) (s : State) : State := { s.bump 8 m.home 13 fixed with pmu := p }

theorem State.compSeen_counted (m : CompMsg) (fixed : Nat) (s : State) : let found := s.bump 8 m.home 13 fixed
    ∃ p, found.pmuEvent (72 + m.home) 0x01 1 { priv := some m.priv, master := some (0x80 + m.engine), cls := some 2
                                               addr := some (found.keyHandle (msgKey m.msg m.keyLen)) } =
      s.compSeen m fixed p := State.pmuEvent_counted ..

include hsent hepoch hturn hidle

/-- A companion that finds its record runs on it. -/
theorem exec_companion_found {h : Nat} {r : Rec} (hfound : s.findRec (msgKey m.msg m.keyLen) = some h) (hrec : s.recOf h = some r) :
    ∃ t : State, (t.flo = s.flo ∧ t.prg = s.prg ∧ t.epochCfg (msgEpoch m.msg) = some cfg) ∧
      exec (.companion e k none fixed) s = .next (t.runCompanion m
      { msg := m.msg, keyLen := m.keyLen, program := msgProgram m.msg, priv := m.priv, handle := some h, lastBefore := some r.last }) := by
  obtain ⟨p, hp⟩ := s.compSeen_counted m fixed
  have hepoch : (s.compSeen m fixed p).epochCfg (msgEpoch m.msg) = some cfg := hepoch
  have hfound : (s.compSeen m fixed p).findRec (msgKey m.msg m.keyLen) = some h := hfound
  have hrec : (s.compSeen m fixed p).recOf h = some r := hrec
  refine ⟨(s.compSeen m fixed p).bump 8 m.home 0 1, ⟨rfl, rfl, hepoch⟩, ?_⟩
  change execCompanion e k none fixed s = _
  unfold execCompanion
  simp only [hsent, State.findEcc, hp, hturn, hidle, Bool.or_self, Bool.false_eq_true, if_false, hepoch, hfound, hrec, Option.getD_some]

/-- One that may creates its record, and runs on it. -/
theorem exec_companion_created {h : Nat} (habsent : s.findRec (msgKey m.msg m.keyLen) = none)
    (hpoison : s.poisoned (msgKey m.msg m.keyLen) = false) (hcreate : progCreate cfg (msgProgram m.msg) = true)
    (hzone : (s.zoneJudge m.home (msgKey m.msg m.keyLen).zone).1 = 0)
    (hfree : s.freeSlot (bucketA (s.hashKey (msgKey m.msg m.keyLen))) = some h) :
    ∃ t : State, (t.flo.recs = tabIns h (newRec (msgKey m.msg m.keyLen) m.msg true) s.flo.recs ∧ t.epochCfg (msgEpoch m.msg) = some cfg) ∧
      exec (.companion e k none fixed) s = .next (t.runCompanion m
        { msg := m.msg, keyLen := m.keyLen, program := msgProgram m.msg, priv := m.priv, handle := some h, inStatus := 1 }) := by
  obtain ⟨p, hp⟩ := s.compSeen_counted m fixed
  have hepoch : (s.compSeen m fixed p).epochCfg (msgEpoch m.msg) = some cfg := hepoch
  have habsent : (s.compSeen m fixed p).findRec (msgKey m.msg m.keyLen) = none := habsent
  have hpoison : (s.compSeen m fixed p).poisoned (msgKey m.msg m.keyLen) = false := hpoison
  obtain ⟨b, a, hcreated⟩ := State.createRec_ok (s := s.compSeen m fixed p) (r := newRec (msgKey m.msg m.keyLen) m.msg true) hzone hfree
  refine ⟨{ s.compSeen m fixed p with
    flo := { s.flo with recs := tabIns h (newRec (msgKey m.msg m.keyLen) m.msg true) s.flo.recs, zoneBucket := b }, ctr := a },
    ⟨rfl, hepoch⟩, ?_⟩
  change execCompanion e k none fixed s = _
  unfold execCompanion
  simp only [hsent, State.findEcc, hp, hturn, hidle, Bool.or_self, Bool.false_eq_true, if_false, hepoch, habsent, hpoison, hcreate, if_true,
    hcreated]
  rfl

variable (hlength : progLength cfg (msgProgram m.msg) = 0)
include hlength

/-- With a program without instructions, a companion that finds its record answers at once. -/
theorem exec_companion_found_empty {h : Nat} {r : Rec} (hfound : s.findRec (msgKey m.msg m.keyLen) = some h) (hrec : s.recOf h = some r)
    (hopen : r.state ≠ 0xE) : ∃ t : State, (t.flo.recs = s.flo.recs ∧ t.prg = s.prg) ∧
      exec (.companion e k none fixed) s = .next (t.compAnswer m 0 h) := by
  obtain ⟨t, ⟨hflo, hprg, hcfg⟩, hexec⟩ := exec_companion_found hsent hepoch hturn hidle fixed hfound hrec
  have hfound : t.recOf h = some r := (congrArg (fun f : Flo => tabFind f.recs h) hflo).trans hrec
  refine ⟨t.bump 12 m.home 0 1, ⟨congrArg Flo.recs hflo, hprg⟩, hexec.trans (congrArg Host.Outcome.next ?_)⟩
  refine State.runCompanion_empty (x := {
    msg := m.msg, keyLen := m.keyLen, program := msgProgram m.msg, priv := m.priv, handle := some h, lastBefore := some r.last })
    (cfg := cfg) (r := r) rfl rfl rfl hfound hopen hcfg ?_ m
  exact hlength

/-- With a program without instructions, a companion that creates its record answers at once. -/
theorem exec_companion_created_empty {h : Nat} (habsent : s.findRec (msgKey m.msg m.keyLen) = none)
    (hpoison : s.poisoned (msgKey m.msg m.keyLen) = false) (hcreate : progCreate cfg (msgProgram m.msg) = true)
    (hzone : (s.zoneJudge m.home (msgKey m.msg m.keyLen).zone).1 = 0)
    (hfree : s.freeSlot (bucketA (s.hashKey (msgKey m.msg m.keyLen))) = some h) :
    ∃ t : State, t.flo.recs = tabIns h (newRec (msgKey m.msg m.keyLen) m.msg true) s.flo.recs ∧
      exec (.companion e k none fixed) s = .next (t.compAnswer m 1 h) := by
  obtain ⟨t, ⟨hrecs, hcfg⟩, hexec⟩ := exec_companion_created hsent hepoch hturn hidle fixed habsent hpoison hcreate hzone hfree
  have hrec : t.recOf h = some (newRec (msgKey m.msg m.keyLen) m.msg true) :=
    (congrArg (fun l => tabFind l h) hrecs).trans (tabFind_tabIns_same ..)
  refine ⟨t.bump 12 m.home 0 1, hrecs, hexec.trans (congrArg Host.Outcome.next ?_)⟩
  refine State.runCompanion_empty (x := {
    msg := m.msg, keyLen := m.keyLen, program := msgProgram m.msg, priv := m.priv, handle := some h, inStatus := 1 })
    (cfg := cfg) (r := newRec (msgKey m.msg m.keyLen) m.msg true) rfl rfl rfl hrec (by decide : (1 : Nat) ≠ 0xE) hcfg ?_ m
  exact hlength

end

/-! ## COMPANION_RESULT (10 R375) -/

section
variable {s : State} {e : Fin 128} {k : Fin 16} {x : Run} {st h2 c tag h : Nat} {r : Rec}
  (hctx : tabFind s.prg.ctx (ctxKey e.val k.val) = some x) (hresult : x.compResult = some (st, h2)) (hholds : x.holds = some (c, tag))
  (hhandle : x.handle = some h) (hrec : s.recOf h = some r) (hq : r.quarantined = false)

/-- The state without the context that a companion's result ends. -/
def State.released (e k : Nat) (s : State) : State := s.onPrg fun g => { g with ctx := tabDel (ctxKey e k) g.ctx }

/-- The run, and the state, with the companion's handle in the word that the program names. -/
def handedOver (x : Run) (h2 : Nat) (s : State) : Exec :=
  if progHandleWord (x.cfg s) x.program < 10 then writeOp (progHandleWord (x.cfg s) x.program) (wd h2) (x, s) else (x, s)

include hctx hresult hholds hhandle hrec hq

/-- A companion that was found or created. -/
theorem exec_companionResult_done (hst : st ≤ 1) : exec (.companionResult e k) s = .next (State.resumeStalled e.val
    (State.endOperate c tag (handedOver x h2 (s.released e.val k.val)).1 h (handedOver x h2 (s.released e.val k.val)).2)) := by
  have hrec' : (s.onPrg fun g => { g with ctx := tabDel (ctxKey e.val k.val) g.ctx }).recOf h = some r := hrec
  change execCompanionResult e k s = _
  unfold execCompanionResult handedOver State.released
  simp only [hctx, hresult, hholds, hhandle, hrec', hq, if_pos hst, Bool.not_false, Bool.and_true, decide_eq_true_eq]

/-- A companion that failed. -/
theorem exec_companionResult_failed (hst : 1 < st) : exec (.companionResult e k) s = .next (State.resumeStalled e.val
    (State.endOperate c tag ((s.released e.val k.val).failCompanion e.val x h).1 h ((s.released e.val k.val).failCompanion e.val x h).2)) := by
  have hrec' : (s.onPrg fun g => { g with ctx := tabDel (ctxKey e.val k.val) g.ctx }).recOf h = some r := hrec
  change execCompanionResult e k s = _
  unfold execCompanionResult State.released
  simp only [hctx, hresult, hholds, hhandle, hrec', hq, if_neg (Nat.not_le.mpr hst), Bool.not_false, if_true]

end

/-- What is handed over leaves the run's answer, and puts the handle into the record's word. -/
theorem handedOver_parts {s : State} {x : Run} {h : Nat} {r : Rec} (hhandle : x.handle = some h) (hrec : s.recOf h = some r) (h2 : Nat) :
    (handedOver x h2 s).1.inStatus = x.inStatus ∧ (handedOver x h2 s).1.y = x.y ∧ (handedOver x h2 s).2.prg = s.prg ∧
    (handedOver x h2 s).2.recOf h = some { r with
      w := if progHandleWord (x.cfg s) x.program < 10 then r.w.set (progHandleWord (x.cfg s) x.program) (wd h2) else r.w } := by
  unfold handedOver
  by_cases hword : progHandleWord (x.cfg s) x.program < 10
  · simp only [if_pos hword, writeOp, hhandle]
    exact ⟨trivial, trivial, State.onRec_prg .., State.onRec_same hrec _⟩
  · simp only [if_neg hword, hrec, and_self]

/-- A companion that failed closes the record. -/
theorem State.failCompanion_closes {s : State} {h : Nat} {r : Rec} (hrec : s.recOf h = some r) (e : Nat) (x : Run) :
    (s.failCompanion e x h).1 = { x with y := overflowY (x.cfg s) (msgProgram x.msg) } ∧
    (s.failCompanion e x h).2.recOf h = some { r with state := 0xE } := by
  refine ⟨rfl, ?_⟩
  unfold State.failCompanion
  extract_lets c ws t
  obtain ⟨nat, freed, a, hnat, -⟩ := s.natRelease_parts e (progNatWord c x.program) ws
  have hreleased : (s.natRelease e (progNatWord c x.program) ws).recOf h = some r := by
    rw [hnat]
    exact hrec
  exact State.onRec_same hreleased _

/-! ## The obligation -/

/-- Settles O27: by the meaning of each operation at its home, and by what ends an operation keeps (`State.endOperate_keeps`). -/
theorem voidsAndCompanions : Obligations.VoidsAndCompanions := by
  unfold Obligations.VoidsAndCompanions
  refine ⟨?noVoid, ?void, ?companion, ?resumeNone, ?resume, ?result⟩
  case noVoid =>
    intro s c fixed hnone
    have htaken : takeFirst (fun v => v.cell == c.val && s.voidReady v) s.flo.voids = none := takeFirst_none fun v hv => by
      by_cases hcell : v.cell = c.val
      · simp [hnone v hv hcell]
      · simp [hcell]
    change execVoid c none fixed s = _
    unfold execVoid
    simp only [htaken]
  case void =>
    intro s c fixed v rest htaken k e
    have he : e = s.voidHome v := rfl
    clear_value e
    subst he
    refine ⟨fun habsent => ?_, fun h r hfound hrec => ⟨?_, ?_⟩⟩
    · obtain ⟨p, hexec⟩ := exec_void_absent htaken fixed habsent
      refine ⟨_, hexec, rfl, ?_, ?_⟩
      · exact (State.bump_count_other (by decide) 1 _).trans (State.voidSeen_fixed v rest fixed p s)
      · rw [State.bump_count_same, State.voidSeen_count_other (by decide)]
    · have hready := takeFirst_holds htaken
      simp only [Bool.and_eq_true, State.voidReady, Bool.not_eq_true'] at hready
      obtain ⟨-, ⟨-, hidle⟩, -⟩ := hready
      exact (congrArg (fun o : Option Nat => match o with | some h => s.recBusy h | none => false) hfound).symm.trans hidle
    · obtain ⟨p, hexec⟩ := exec_void_found htaken fixed hfound
      have hkeeps := (s.voidSeen v rest fixed p).keepsFlow_onRec h (Rec.voids v.msg)
      refine ⟨_, hexec, ?_, State.onRec_same (s := s.voidSeen v rest fixed p) hrec _, hkeeps.recs, ?_⟩
      · rw [State.onRec_parts]
        rfl
      · rw [State.bump_count_same, State.onRec_count, State.voidSeen_count_other (by decide)]
  case companion =>
    intro s e k fixed m cfg hsent hepoch hlength key hturn hidle
    obtain ⟨hengine, hcontext⟩ : m.engine = e.val ∧ m.context = k.val := by
      simpa only [Bool.and_eq_true, beq_iff_eq] using List.find?_some hsent
    rw [← hengine, ← hcontext]
    refine ⟨fun h r hfound hrec hopen => ?_, fun h habsent hpoison hcreate hzone hfree => ?_⟩
    · obtain ⟨t, ⟨hrecs, hprg⟩, hexec⟩ := exec_companion_found_empty hsent hepoch hturn hidle fixed hlength hfound hrec hopen
      exact ⟨_, hexec, hrecs, State.compAnswer_result .., congrArg (fun g : Prg => g.comps.filter _) hprg⟩
    · obtain ⟨t, hrecs, hexec⟩ := exec_companion_created_empty hsent hepoch hturn hidle fixed hlength habsent hpoison hcreate hzone hfree
      have hrecOf (j : Nat) : (t.compAnswer m 1 h).recOf j = tabFind (tabIns h (newRec key m.msg true) s.flo.recs) j :=
        congrArg (fun l => tabFind l j) hrecs
      exact ⟨_, newRec key m.msg true, hexec, State.compAnswer_result .., (hrecOf h).trans (tabFind_tabIns_same ..), rfl, rfl, rfl, rfl, rfl,
        fun j hj => (hrecOf j).trans (tabFind_tabIns_other hj ..)⟩
  case resumeNone => exact fun s e h => State.resumeStalled_none h
  case resume =>
    intro s e i y hi hctx hstall hholds hfirst hheld
    obtain ⟨ct, hct⟩ := Option.isSome_iff_exists.mp hholds
    rw [State.resumeStalled_runs hi hctx hstall hct hfirst hheld]
    generalize hp : runFrom (y.cfg s) e i 12
      ({ y with stall := false, holds := none }, s.onPrg fun g => { g with ctx := tabDel (ctxKey e i) g.ctx }) = p
    have hran : p.2.prg.ctx = tabDel (ctxKey e i) s.prg.ctx := by
      rw [← hp]
      exact runFrom_ctx ..
    rcases State.settleRun_ctx ct.1 ct.2 e i p with hended | ⟨hhandle, hholding⟩
    · rw [hended, hran]
      exact ⟨.inl (tabFind_tabDel_same ..), fun n hn => tabFind_tabDel_other hn ..⟩
    · rw [hholding, hran]
      exact ⟨.inr ⟨_, tabFind_tabIns_same .., hct.symm, hhandle⟩,
        fun n hn => (tabFind_tabIns_other hn ..).trans (tabFind_tabDel_other hn ..)⟩
  case result =>
    intro s e k x st h2 c tag h r hctx hresult hholds hhandle hrec hq
    have hgone : tabFind (s.released e.val k.val).prg.ctx (ctxKey e.val k.val) = none := tabFind_tabDel_same ..
    have hrec' : (s.released e.val k.val).recOf h = some r := hrec
    refine ⟨fun hst hopen => ?_, fun hst hfree => ?_⟩
    · obtain ⟨hstatus, hy, hprg, hword⟩ := handedOver_parts hhandle hrec' h2
      obtain ⟨hanswered, hends, -⟩ := State.endOperate_keeps c tag (handedOver x h2 (s.released e.val k.val)).1 h
        (handedOver x h2 (s.released e.val k.val)).2
      obtain ⟨q, hq', hw⟩ := State.endOperate_open hword hq hopen c tag (handedOver x h2 (s.released e.val k.val)).1
      rw [hstatus, hy] at hanswered
      refine ⟨_, q, exec_companionResult_done hctx hresult hholds hhandle hrec hq hst, ?_, hanswered, hq', hw⟩
      rw [hends, hprg]
      exact hgone
    · obtain ⟨hrun, hclosed⟩ := State.failCompanion_closes hrec' e.val x
      have hkeeps := (s.released e.val k.val).keepsFlow_failCompanion e.val x h
      obtain ⟨hanswered, hends, hrecs⟩ := State.endOperate_keeps c tag ((s.released e.val k.val).failCompanion e.val x h).1 h
        ((s.released e.val k.val).failCompanion e.val x h).2
      refine ⟨_, exec_companionResult_failed hctx hresult hholds hhandle hrec hq hst, ?_, hanswered,
        State.endOperate_closed hclosed rfl rfl hfree .., fun j hj => (hrecs j hj).trans (hkeeps.recs j hj)⟩
      rw [hends, hkeeps.ctx]
      exact hgone

end Sys2Proof.Machine
end

section
/-!
SUPPORT. The work of a frame, from its decision to its chunks, copies and punt (07; 11 R394 to R396, R405, R418): what it leaves alone,
and which counters it counts.
-/

namespace Sys2Proof.Machine

open Sys2Proof

/-- What the work of a frame leaves alone: the epochs, times and settings, the mailbox, the tables, the flow store but for its VOIDs, and the
frames that are parked. -/
def State.still (s : State) : Crn × Tim × Stg × Tbl × Hif × Flo × List Park :=
  (s.crn, s.tim, s.stg, s.tbl, s.hif, { s.flo with voids := [], seq := 0 }, s.frm.parked)

theorem State.still_parked {s t : State} (h : t.still = s.still) : t.frm.parked = s.frm.parked :=
  congrArg (fun x : Crn × Tim × Stg × Tbl × Hif × Flo × List Park => x.2.2.2.2.2.2) h

theorem State.still_ops {s t : State} (h : t.still = s.still) : t.flo.ops = s.flo.ops :=
  congrArg (fun x : Crn × Tim × Stg × Tbl × Hif × Flo × List Park => x.2.2.2.2.2.1.ops) h

/-- The numbers of the counters that the work of a frame counts. -/
def frameCounters : List Nat := [0, 4, 9, 10, 11, 13]

/-- The second state follows from the first by the work of frames. -/
structure State.FrameWork (s t : State) : Prop where
  still : t.still = s.still
  counts : s.CountsOnly frameCounters t.ctr

namespace State.FrameWork

theorem refl (s : State) : s.FrameWork s := ⟨rfl, s.countsOnly_refl _⟩

theorem parked {s t : State} (h : s.FrameWork t) : t.frm.parked = s.frm.parked := State.still_parked h.still

theorem ops {s t : State} (h : s.FrameWork t) : t.flo.ops = s.flo.ops := State.still_ops h.still

/-- A counter of another number keeps its value. -/
theorem count {s t : State} (h : s.FrameWork t) {x : Nat} (hx : x < 2 ^ 16) (hnot : x ∉ frameCounters) (k i : Nat) :
    t.count k i x = s.count k i x := h.counts k i x hx hnot

theorem of_eq {s t u : State} (h : s.FrameWork t) (hstill : u.still = t.still) (hctr : u.ctr = t.ctr) : s.FrameWork u :=
  ⟨hstill.trans h.still, fun k i x hx hnot => (congrArg (tabGet 0 · (ckey k i x)) hctr).trans (h.counts k i x hx hnot)⟩

section
variable {s t : State} (h : s.FrameWork t)
include h

theorem ite {p : Prop} [Decidable p] {u : State} (hu : s.FrameWork u) : s.FrameWork (if p then t else u) := by
  split
  · exact h
  · exact hu

theorem foldl {α : Type} {f : State → α → State} {l : List α} (hf : ∀ (t : State) (a : α), s.FrameWork t → s.FrameWork (f t a)) :
    s.FrameWork (l.foldl f t) := by
  induction l generalizing t with
  | nil => exact h
  | cons a l ih => exact ih (hf t a h)

theorem onIf {b : Bool} {f : State → State} (hf : ∀ t : State, s.FrameWork t → s.FrameWork (f t)) : s.FrameWork (t.onIf b f) :=
  ite (hf t h) h

theorem bump {k i x n : Nat} (hx : x ∈ frameCounters := by decide) : s.FrameWork (t.bump k i x n) := by
  have hsmall : ∀ y ∈ frameCounters, y < 2 ^ 16 := by decide
  exact ⟨h.still, State.countsOnly_bump h.counts (hsmall x hx) hx k i n⟩

/-! ## Frames and buffers -/

theorem onFrame {fid : Nat} {f : Frame → Frame} : s.FrameWork (t.onFrame fid f) := by
  unfold State.onFrame
  split
  · exact h.of_eq rfl rfl
  · exact h

theorem onFab {f : Fab → Fab} : s.FrameWork (t.onFab f) := h.of_eq rfl rfl

theorem onEgr {f : Egr → Egr} : s.FrameWork (t.onEgr f) := h.of_eq rfl rfl

theorem onCell {c : Nat} {f : Cell → Cell} : s.FrameWork (t.onCell c f) := h.of_eq rfl rfl

theorem hostDone {x : Frame} : s.FrameWork (t.hostDone x) := by
  unfold State.hostDone
  split
  · exact h
  · split
    · exact h
    · exact h.of_eq (by simp [State.still]) (by simp)

theorem settle {fid : Nat} : s.FrameWork (t.settle fid) := by
  dsimp only [State.settle]
  refine FrameWork.ite ?_ h
  exact h.hostDone.of_eq rfl rfl

theorem pmuEvent {b e n : Nat} {o : Occ} : s.FrameWork (t.pmuEvent b e n o) := h.of_eq (by simp [State.still]) (by simp)

theorem raise {e : Ev} : s.FrameWork (t.raise e) := h.of_eq (by simp [State.still]) (by simp)

theorem startWake {c : Nat} : s.FrameWork (t.startWake c) := h.of_eq (by simp [State.still]) (by simp)

theorem ledger {fid : Nat} {kept : Bool} : s.FrameWork (t.ledger fid kept) := h.pmuEvent.onFrame.ite h

theorem dropFrame {fid status : Nat} : s.FrameWork (t.dropFrame fid status) := h.onFrame.settle

/-! ## Copies -/

theorem onCopies {p : Copy → Bool} {f : Copy → Copy} : s.FrameWork (t.onCopies p f) := by
  dsimp only [State.onCopies]
  exact h.onEgr

theorem endCopy {c : Copy} : s.FrameWork (t.endCopy c) := (h.ite h.onCell).onFrame.onFab.settle

/-- A copy of a bad frame is dropped. -/
theorem dropCopy {c : Copy} : s.FrameWork (t.dropCopy c 14 10) := h.onEgr.endCopy.bump

theorem badTail {fid : Nat} {ports : List Nat} : s.FrameWork (t.badTail fid ports) := by
  refine h.foldl fun a p ha => ha.onCopies.ite ?_
  split
  · exact ha.dropCopy
  · exact ha

/-! ## Chunks -/

theorem closeChunk {src dst cls : Nat} : s.FrameWork (t.closeChunk src dst cls) := by
  unfold State.closeChunk
  split
  · exact h
  · exact h.onFab

theorem openChunk {src dst cls : Nat} : s.FrameWork (t.openChunk src dst cls).2 := by
  unfold State.openChunk
  split
  · exact h
  · exact h.onCell

theorem packBytes {n src dst cls mask fid off len head : Nat} {last bad : Bool} :
    s.FrameWork (packBytes n src dst cls mask fid off len head last bad t) := by
  induction n generalizing off len head t with
  | zero => exact h
  | succ n ih =>
    dsimp only [Machine.packBytes]
    have hpacked (f : Fab → Fab) := h.openChunk (src := src) (dst := dst) (cls := cls) |>.onFab (f := f)
    split
    · exact ih h.closeChunk
    · split
      · exact ih ((hpacked _).closeChunk.ite (hpacked _))
      · exact (hpacked _).closeChunk.ite (hpacked _)

theorem growCopies {fid p n : Nat} {last : Bool} : s.FrameWork (t.growCopies fid p n last) := by
  unfold State.growCopies
  split
  · exact h
  · exact (h.onIf fun _ h => h.onCell).onCopies

theorem landPiece {cell : Nat} {p : Piece} : s.FrameWork (t.landPiece cell p) := by
  have hlanded := (h.onEgr (f := fun e => { e with
    arriving := e.arriving ++ (maskPorts cell p.mask).map fun k => { fid := p.fid, port := k, got := p.len, len := p.hlen, whole := p.last } })).ite
      (p := p.first = true) (h.foldl (l := maskPorts cell p.mask) fun a k ha => ha.growCopies (fid := p.fid) (p := k) (n := p.len) (last := p.last))
  exact hlanded.badTail.ite hlanded

theorem endPacked {fid : Nat} : s.FrameWork (t.endPacked fid) := h.onFab.foldl fun _ _ ha => ha.ite ha.landPiece

theorem cutPacked {fid : Nat} : s.FrameWork (t.cutPacked fid) := by
  exact (h.onFrame.endPacked.ledger.onFrame.bump.onIf fun _ ha => ha.bump).settle

theorem packFrame {fid : Nat} : s.FrameWork (t.packFrame fid) := by
  have hlost := h.bump (k := 14) (i := cellOf (t.frame fid).port) (x := 11) (n := 1)
  unfold State.packFrame
  refine h.ite ((h.onIf fun _ ha => ha.endPacked).ite (h.cutPacked.ite (hlost.ledger.onFrame.settle.ite ?_)))
  exact (h.foldl fun _ _ ha => ha.packBytes).onFrame

/-! ## What becomes of a frame -/

theorem issueFrame {fid : Nat} : s.FrameWork (t.issueFrame fid) := by
  unfold State.issueFrame
  refine h.ledger.dropFrame.ite (FrameWork.ite ?_ ?_)
  · exact h.onFrame.of_eq rfl rfl
  · exact h.onFrame.packFrame.onIf fun _ ha => ha.ledger

theorem punt {c port reason : Nat} {data : List Byte} {ts : Nat} : s.FrameWork (t.punt c port reason data ts) := by
  have hrng (f : Rng → Rng) : s.FrameWork (t.onRng f) := h.of_eq rfl rfl
  have hdrop {u : State} (hu : s.FrameWork u) : s.FrameWork (u.bump 16 c 0 1) := hu.bump
  dsimp only [State.punt]
  refine (hdrop h).ite ((hdrop (hrng _)).ite ((hdrop (hrng _)).ite (h.of_eq ?_ ?_)))
  · simp [State.still]
  · simp

theorem puntFrame {fid reason : Nat} : s.FrameWork (t.puntFrame fid reason) := h.ledger.punt.dropFrame.ite h.ledger.onFrame

theorem postVoid {fid : Nat} : s.FrameWork (t.postVoid fid) := by
  unfold State.postVoid
  dsimp only
  split
  · exact h
  · refine FrameWork.ite ?_ (h.onFrame.of_eq rfl rfl)
    exact h.onFrame.bump.raise

end

end State.FrameWork

/-- The end of a frame's way counts nothing. -/
theorem State.ledger_ctr (fid : Nat) (kept : Bool) (s : State) : (s.ledger fid kept).ctr = s.ctr := by
  unfold State.ledger State.onFrame
  dsimp only
  (repeat' split) <;> simp

theorem State.dropFrame_ctr (fid status : Nat) (s : State) : (s.dropFrame fid status).ctr = s.ctr := by
  unfold State.dropFrame State.settle State.hostDone State.onFrame
  dsimp only
  (repeat' split) <;> simp

/-- A frame that stops under a counter. -/
theorem State.stopFrame_count (fid kind inst idx : Nat) (s : State) :
    (s.stopFrame fid kind inst idx).count kind inst idx = (s.count kind inst idx + 1) % 2 ^ 64 := by
  have hctr : (s.stopFrame fid kind inst idx).ctr = (s.bump kind inst idx 1).ctr := (State.dropFrame_ctr ..).trans (State.ledger_ctr ..)
  exact (congrArg (tabGet 0 · (ckey kind inst idx)) hctr).trans (State.bump_count_same ..)

theorem State.stopFrame_still (fid kind inst idx : Nat) (s : State) : (s.stopFrame fid kind inst idx).still = s.still :=
  (FrameWork.refl (s.bump kind inst idx 1)).ledger.dropFrame.still

/-! ## A frame that waits no longer (09 R321, R323) -/

/-- A frame that leaves parking gives its chunks back. -/
theorem State.unpark_parts (fid : Nat) (s : State) : ∃ cel, s.unpark fid =
    { s with cel := cel, frm := { s.frm with parked := s.frm.parked.filter fun k => k.fid != fid } } := by
  unfold State.unpark
  split
  next hnone =>
    have hstay : (s.frm.parked.filter fun k => k.fid != fid) = s.frm.parked :=
      List.filter_eq_self.mpr fun k hk => by simpa using List.find?_eq_none.mp hnone k hk
    exact ⟨s.cel, by rw [hstay]⟩
  · exact ⟨_, rfl⟩

theorem tabFind_map_at {α : Type} (n : Nat) (f : α → α) (t : Tab α) :
    tabFind (t.map fun e => (e.1, if e.1 = n then f e.2 else e.2)) n = (tabFind t n).map f := by
  induction t with
  | nil => rfl
  | cons e t ih =>
    obtain ⟨k, v⟩ := e
    rw [List.map_cons, tabFind, tabFind]
    by_cases hk : k = n
    · simp [hk]
    · simp only [if_neg hk]
      exact ih

/-- An operation that is taken back leaves its frame without one. -/
theorem State.unpostOp_frame (o : Op) (s : State) : (s.unpostOp o).frame o.fid = { s.frame o.fid with op := none } := by
  unfold State.frame tabGet
  refine (congrArg (fun x : Option Frame => x.getD {}) (tabFind_map_at o.fid (fun x : Frame => { x with op := none }) s.frm.frames)).trans ?_
  cases tabFind s.frm.frames o.fid <;> rfl

/-- The degraded action counts once under its own number. -/
theorem State.degrade_work (fid : Nat) (s : State) :
    (s.bump 9 (s.frame fid).cell (if progDegradedDrop (s.frameCfg (s.frame fid)) (s.frame fid).plan.program then 2 else 1) 1).FrameWork
      (s.degrade fid) := by
  unfold State.degrade
  dsimp only
  split
  · exact (FrameWork.refl _).ledger.dropFrame
  · exact (FrameWork.refl _).issueFrame

theorem State.degrade_count (fid : Nat) (s : State) :
    (s.degrade fid).count 9 (s.frame fid).cell (if progDegradedDrop (s.frameCfg (s.frame fid)) (s.frame fid).plan.program then 2 else 1) =
      (s.count 9 (s.frame fid).cell (if progDegradedDrop (s.frameCfg (s.frame fid)) (s.frame fid).plan.program then 2 else 1) + 1) % 2 ^ 64 := by
  have hnumber (b : Bool) : (if b then 2 else 1) < 2 ^ 16 ∧ (if b then 2 else 1) ∉ frameCounters := by cases b <;> decide
  exact ((s.degrade_work fid).count (hnumber _).1 (hnumber _).2 ..).trans (State.bump_count_same ..)

/-- A frame leaves parking, and its operation is taken back if it was not sent. -/
def State.letGo (o : Op) (s : State) : State := (s.unpark o.fid).onIf (!o.out) fun a => a.unpostOp o

theorem State.letGo_parts (o : Op) (s : State) : ∃ cel frames voids, s.letGo o = { s with
    cel := cel, frm := { s.frm with frames := frames, parked := s.frm.parked.filter fun k => k.fid != o.fid }
    flo := { s.flo with ops := if o.place = .credit then s.flo.ops.filter (fun p => !(p.cell == o.cell && p.tag == o.tag)) else s.flo.ops
                        voids := voids } } := by
  obtain ⟨cel, hout⟩ := s.unpark_parts o.fid
  unfold State.letGo
  rw [hout]
  by_cases hplace : o.place = .credit
  · simp only [Op.out, hplace, ne_eq, not_true_eq_false, decide_false, Bool.not_false, if_true]
    exact ⟨_, _, _, rfl⟩
  · simp only [Op.out, hplace, ne_eq, not_false_eq_true, decide_true, Bool.not_true, if_false]
    exact ⟨_, _, _, rfl⟩

/-- What is left of the frame, but for its operation. -/
theorem State.letGo_frame (o : Op) (s : State) : ∃ y, (s.letGo o).frame o.fid = { s.frame o.fid with op := y } := by
  obtain ⟨cel, hout⟩ := s.unpark_parts o.fid
  have hframe : (s.unpark o.fid).frame o.fid = s.frame o.fid := by rw [hout]; rfl
  unfold State.letGo
  cases !o.out
  · exact ⟨_, hframe⟩
  · exact ⟨none, ((s.unpark o.fid).unpostOp_frame o).trans (congrArg (fun x : Frame => { x with op := none }) hframe)⟩

/-- Giving up is the work of frames beside. -/
theorem State.giveUp_still (o : Op) (s : State) : (s.giveUp o).still = (s.letGo o).still := by
  unfold State.giveUp
  extract_lets parked t x
  split
  · rfl
  · split
    · exact (FrameWork.refl t).postVoid.ledger.onFrame.dropFrame.still
    · exact (t.degrade_work o.fid).still

/-- A parked frame that is not bad takes the degraded action. -/
theorem State.giveUp_degrades {o : Op} {s : State} (hparked : (s.frm.parked.any fun k => k.fid == o.fid) = true)
    (hgood : ((s.frame o.fid).ended && (s.frame o.fid).bad) = false) : s.giveUp o = (s.letGo o).degrade o.fid := by
  obtain ⟨y, hframe⟩ := s.letGo_frame o
  have hgood' : (((s.letGo o).frame o.fid).ended && ((s.letGo o).frame o.fid).bad) = false := by
    rw [hframe]
    exact hgood
  unfold State.giveUp
  extract_lets parked t x
  rw [if_neg (by rw [show parked = true from hparked]; decide)]
  exact if_neg (by rw [show (x.ended && x.bad) = false from hgood']; decide)

end Sys2Proof.Machine
end

section
/-!
PROOF of FlowResults (O28): the result of an operation at its cell, and the waits that end without one (09 R320 to R322; 10 R368).
-/

namespace Sys2Proof.Machine

open Sys2Proof

/-! ## The operations that stay (09 R320) -/

/-- The state without an operation of a cell. -/
def State.endedOp (c tag : Nat) (s : State) : State :=
  { s with flo := { s.flo with ops := s.flo.ops.filter fun p => !(p.cell == c && p.tag == tag) } }

theorem State.onOp_none (c tag : Nat) (s : State) : s.onOp c tag (fun _ => none) = s.endedOp c tag := by
  have hguard : (fun o : Op => if o.cell = c ∧ o.tag = tag then none else some o) = Option.guard fun p => !(p.cell == c && p.tag == tag) := by
    funext o
    by_cases h : o.cell = c ∧ o.tag = tag <;> simp [Option.guard, h]
  unfold State.onOp State.endedOp State.onFlo
  simp only [hguard, List.filterMap_eq_filter]

/-- Where no operation of a cell waits for credits, none is sent. -/
theorem State.sendOps_none {c : Nat} {s : State} (h : ∀ p ∈ s.flo.ops, p.cell = c → p.place ≠ .credit) : s.sendOps c = s := by
  have hnone : s.flo.ops.filter (fun o => o.cell == c && !o.out) = [] := List.filter_eq_nil_iff.mpr fun p hp => by
    by_cases hcell : p.cell = c
    · simp [Op.out, h p hp hcell]
    · simp [hcell]
  unfold State.sendOps
  simp only [hnone, List.map_nil, List.foldl_nil]

/-! ## What becomes of a frame by its result (10 R368) -/

/-- A next hop drops a frame under a counter that a frame's work counts. -/
theorem State.viaHop_drop {s : State} {k : Look} {i j : Nat} (h : s.viaHop k i = .drop (some j)) : j ∈ frameCounters := by
  unfold State.viaHop State.viaLag at h
  dsimp only at h
  split_ifs at h
  · cases h; decide
  · cases h; decide
  · cases h; decide
  · split at h
    · contradiction
    · cases h; decide

section
variable {fid : Nat} {y : List Word} {s : State}

/-- DISP 1 and 3 drop the frame. -/
theorem State.applyResult_stops (h : fld (wordAt y 0) 1 0 = 1 ∨ fld (wordAt y 0) 1 0 = 3) :
    s.applyResult fid y = s.stopFrame fid 13 (s.frame fid).cell 0 := by
  unfold State.applyResult
  exact if_pos h

/-- DISP 2 punts it. -/
theorem State.applyResult_punts (h : fld (wordAt y 0) 1 0 = 2) :
    s.applyResult fid y = (s.bump 13 (s.frame fid).cell 1 1).puntFrame fid 5 := by
  unfold State.applyResult
  dsimp only
  rw [if_neg (by omega), if_pos h]

/-- A result with a next hop counts it, and else is the work of its frame. -/
theorem State.applyResult_hops (hdisp : fld (wordAt y 0) 1 0 = 0) (hhop : bit (wordAt y 0) 2 = true)
    (hrw : rwBits (wordAt y 0) = 0 ∨ (s.parsed (s.frame fid)).fmt = 1) :
    (s.bump 13 (s.frame fid).cell 3 1).FrameWork (s.applyResult fid y) := by
  have hcounted := State.FrameWork.refl (s.bump 13 (s.frame fid).cell 3 1)
  unfold State.applyResult
  extract_lets x c p y2 cell disp rw k t
  have hnot (n : Nat) (hn : n ≠ 0) : disp ≠ n := fun h => hn (h.symm.trans hdisp)
  rw [if_neg (not_or.mpr ⟨hnot 1 (by decide), hnot 3 (by decide)⟩), if_neg (hnot 2 (by decide)), if_neg fun h => hrw.elim h.1 h.2, if_pos hhop]
  split
  next i hi => exact (hcounted.bump (State.viaHop_drop hi)).ledger.dropFrame
  · exact hcounted.ledger.dropFrame
  · exact hcounted.puntFrame
  · exact (hcounted.onFrame.foldl fun _ _ h => h.startWake).onFrame.issueFrame

/-- A result leaves what the work of frames leaves. -/
theorem State.applyResult_still (fid : Nat) (y : List Word) (s : State) : (s.applyResult fid y).still = s.still := by
  have hself := State.FrameWork.refl s
  by_cases hstop : fld (wordAt y 0) 1 0 = 1 ∨ fld (wordAt y 0) 1 0 = 3
  · rw [State.applyResult_stops hstop]
    exact s.stopFrame_still ..
  by_cases hpunt : fld (wordAt y 0) 1 0 = 2
  · rw [State.applyResult_punts hpunt]
    exact (State.FrameWork.refl (s.bump 13 (s.frame fid).cell 1 1)).puntFrame.still
  have hdisp : fld (wordAt y 0) 1 0 = 0 := by
    have hlt : fld (wordAt y 0) 1 0 < 4 := Nat.mod_lt _ (by decide)
    omega
  by_cases hrw : rwBits (wordAt y 0) ≠ 0 ∧ (s.parsed (s.frame fid)).fmt ≠ 1
  · unfold State.applyResult
    dsimp only
    rw [if_neg hstop, if_neg hpunt, if_pos hrw]
    exact s.stopFrame_still ..
  by_cases hhop : bit (wordAt y 0) 2 = true
  · exact (State.applyResult_hops hdisp hhop (by omega)).still
  · unfold State.applyResult
    dsimp only
    rw [if_neg hstop, if_neg hpunt, if_neg hrw, if_neg hhop]
    exact hself.onFrame.issueFrame.still

end

/-- A parked frame that is not bad takes the degraded action where its operation found no store, else its result. -/
theorem State.frameResult_degrades {fid : Nat} {r : List Word} {s : State} (hgood : ((s.frame fid).ended && (s.frame fid).bad) = false)
    (h : resultStatus r = 6 ∨ resultStatus r = 7) : s.frameResult fid r = s.degrade fid := by
  unfold State.frameResult
  simp only [hgood, Bool.false_eq_true, if_false, if_pos h]

theorem State.frameResult_applies {fid : Nat} {r : List Word} {s : State} (hgood : ((s.frame fid).ended && (s.frame fid).bad) = false)
    (h : ¬(resultStatus r = 6 ∨ resultStatus r = 7)) : s.frameResult fid r = s.applyResult fid (r.drop 2) := by
  unfold State.frameResult
  simp only [hgood, Bool.false_eq_true, if_false, if_neg h]

theorem State.frameResult_still {fid : Nat} {r : List Word} {s : State} (hgood : ((s.frame fid).ended && (s.frame fid).bad) = false) :
    (s.frameResult fid r).still = s.still := by
  by_cases h : resultStatus r = 6 ∨ resultStatus r = 7
  · rw [State.frameResult_degrades hgood h]
    exact (s.degrade_work fid).still
  · rw [State.frameResult_applies hgood h]
    exact s.applyResult_still ..

/-! ## FLOW_RESULT (09 R321; 10 R368) -/

section
variable {s : State} {c : Fin 64} {tag : Fin 256} {o : Op}
  (hfind : (s.flo.ops.find? fun o => o.cell == c.val && o.tag == tag.val && decide (o.place = .done)) = some o) (hruns : s.cellRuns c.val = true)
  (hsent : ∀ p ∈ s.flo.ops, p.cell = c.val → p.tag ≠ tag.val → p.place ≠ .credit) (hplain : o.sampled = false)
  (times : SampleTimes) (own : Bool)

include hsent hplain in
/-- Without one that waits for credits and without a sample, the result just ends its operation. -/
theorem State.sampleResult_endedOp : (((s.onOp c.val tag.val fun _ => none).sendOps c.val).sampleResult o times own) = s.endedOp c.val tag.val := by
  have hnone : ∀ p ∈ (s.endedOp c.val tag.val).flo.ops, p.cell = c.val → p.place ≠ .credit := fun p hp hcell => by
    obtain ⟨hmem, hother⟩ := List.mem_filter.mp hp
    exact hsent p hmem hcell fun htag => by simp [hcell, htag] at hother
  unfold State.sampleResult
  rw [State.onOp_none, State.sendOps_none hnone, hplain, Bool.not_false, if_pos rfl]

include hfind hruns hsent hplain

/-- A result that its frame does not wait for ends its operation. -/
theorem exec_flowResult_gone (hgone : (s.frm.parked.any fun k => k.fid == o.fid) = false) :
    exec (.flowResult c tag times own) s = .next (s.endedOp c.val tag.val) := by
  change execFlowResult c tag times own s = _
  unfold execFlowResult
  simp only [hfind, hruns, hgone, State.sampleResult_endedOp hsent hplain times own, Bool.not_true, Bool.false_and, Bool.false_eq_true, if_false]

/-- A result whose frame waits, and is in, ends its operation and goes to the frame. -/
theorem exec_flowResult_parked (hparked : (s.frm.parked.any fun k => k.fid == o.fid) = true) (hended : (s.frame o.fid).ended = true) :
    exec (.flowResult c tag times own) s = .next (((s.endedOp c.val tag.val).unpark o.fid).frameResult o.fid o.result) := by
  change execFlowResult c tag times own s = _
  unfold execFlowResult
  simp only [hfind, hruns, hparked, hended, State.sampleResult_endedOp hsent hplain times own, Bool.not_true, Bool.and_false, Bool.false_and,
    Bool.false_eq_true, if_false, if_true]

end

/-! ## The obligation -/

/-- Settles O28: what becomes of the frame leaves parking, the operations and the counters of a result alone (`State.FrameWork`). -/
theorem flowResults : Obligations.FlowResults := by
  unfold Obligations.FlowResults
  refine ⟨?result, ?wait, ?credit⟩
  case result =>
    intro s c tag times own o hfind hruns hsent hplain x parked y2
    refine ⟨fun hgone => ⟨_, exec_flowResult_gone hfind hruns hsent hplain times own hgone, rfl⟩, fun hparked hended hgood => ?_⟩
    obtain ⟨cel, hout⟩ := (s.endedOp c.val tag.val).unpark_parts o.fid
    have hexec := exec_flowResult_parked hfind hruns hsent hplain times own hparked hended
    generalize (s.endedOp c.val tag.val).unpark o.fid = u at hexec hout
    have hframe : u.frame o.fid = x := by rw [hout]; rfl
    have hcfg : s.frameCfg x = u.frameCfg x := by rw [hout]; rfl
    have hparsed : s.parsed x = u.parsed x := by rw [hout]; rfl
    have hcount (i j : Nat) : s.count i x.cell j = u.count i x.cell j := by rw [hout]; rfl
    have hword : wordAt (o.result.drop 2) 0 = y2 := by simp [wordAt, y2]
    have hgood' : ((u.frame o.fid).ended && (u.frame o.fid).bad) = false := by rw [hframe, hgood, Bool.and_false]
    have hstill : (u.frameResult o.fid o.result).still = u.still := State.frameResult_still hgood'
    refine ⟨_, hexec, ?_, fun p hp hits => ?_, fun hdegraded => ?_, fun hnot6 hnot7 => ?_⟩
    · refine (State.still_parked hstill).trans ?_
      rw [hout]
      rfl
    · rw [State.still_ops hstill, hout] at hp
      obtain ⟨-, hother⟩ := List.mem_filter.mp hp
      simp [hits] at hother
    · dsimp only
      rw [State.frameResult_degrades hgood' hdegraded, hcfg, hcount, ← hframe]
      exact u.degrade_count o.fid
    · rw [State.frameResult_applies hgood' (not_or.mpr ⟨hnot6, hnot7⟩), hcount, hcount, hcount, ← hframe, ← hword]
      refine ⟨fun hstop => ?_, fun hpunt => ?_, fun hdisp hhop hrw => ?_⟩
      · rw [State.applyResult_stops hstop]
        exact u.stopFrame_count ..
      · rw [State.applyResult_punts hpunt]
        exact ((State.FrameWork.refl _).puntFrame.count (by decide) (by decide) ..).trans (State.bump_count_same ..)
      · rw [hframe, hparsed, ← hframe] at hrw
        exact ((State.applyResult_hops hdisp hhop hrw).count (by decide) (by decide) ..).trans (State.bump_count_same ..)
  case wait =>
    intro s c tag o hfind x hgood hframe i
    have hparked : (s.frm.parked.any fun k => k.fid == o.fid) = true := by
      have hhit := List.find?_some hfind
      simp only [Bool.and_eq_true] at hhit
      exact hhit.2
    have hexec : exec (.waitLimitExpiry c tag) s = .next (s.giveUp o) := by
      change execWaitLimitExpiry c tag s = _
      unfold execWaitLimitExpiry
      simp only [hfind]
    have hstay : (x.ended && x.bad) = false := hgood.elim (fun h => by rw [h]; rfl) (fun h => by rw [h, Bool.and_false])
    obtain ⟨cel, frames, voids, hparts⟩ := s.letGo_parts o
    obtain ⟨y, hleft⟩ := s.letGo_frame o
    have hstill := s.giveUp_still o
    have hops := State.still_ops hstill
    rw [hparts] at hops
    refine ⟨_, hexec, ?_, ?_, fun hplace => ?_, fun hplace => ?_⟩
    · refine (State.still_parked hstill).trans ?_
      rw [hparts]
    · have hcount := (s.letGo o).degrade_count o.fid
      rw [← State.giveUp_degrades hparked hstay, hleft] at hcount
      rw [hparts] at hcount
      exact hcount
    · exact hops.trans (if_neg hplace)
    · exact hops.trans (if_pos hplace)
  case credit =>
    intro s c tag o hfind
    have hcell : o.cell = c.val := by
      have hhit := List.find?_some hfind
      simp only [Bool.and_eq_true, beq_iff_eq] at hhit
      exact hhit.1.1.1
    refine ⟨(s.unpostOp o).bump 9 c.val 3 1, ?_, rfl, rfl, State.bump_count_same .., ?_⟩
    · change execCreditWaitExpiry c tag s = _
      unfold execCreditWaitExpiry
      simp only [hfind]
    · exact congrArg Frame.op (s.unpostOp_frame o)

end Sys2Proof.Machine
end

section
/-!
PROOF of FlowStoreSettings (O22): the flow store's format, templates, zones, aging, archive and statistics (09 R309, R315, R337, R343,
R345 to R349, R352, R353).
-/

namespace Sys2Proof.Machine

open Sys2Proof

/-! ## Operations that a format takes back (09 R323, R346) -/

/-- The state without some operations, and without their frames in parking. -/
def State.without (l : List Op) (s : State) : State := { s with
  flo := { s.flo with ops := s.flo.ops.filter fun p => !l.any fun o => p.cell == o.cell && p.tag == o.tag }
  frm := { s.frm with parked := s.frm.parked.filter fun k => !l.any fun o => k.fid == o.fid } }

theorem State.without_nil (s : State) : s.without [] = s := by simp [State.without]

theorem State.without_without (l m : List Op) (s : State) : (s.without l).without m = s.without (l ++ m) := by
  simp [State.without, List.filter_filter, Bool.and_comm]

theorem State.without_still {s t : State} (h : t.still = s.still) (l : List Op) : (t.without l).still = (s.without l).still :=
  congrArg (fun x : Crn × Tim × Stg × Tbl × Hif × Flo × List Park => (x.1, x.2.1, x.2.2.1, x.2.2.2.1, x.2.2.2.2.1,
    { x.2.2.2.2.2.1 with ops := x.2.2.2.2.2.1.ops.filter fun p => !l.any fun o => p.cell == o.cell && p.tag == o.tag },
    x.2.2.2.2.2.2.filter fun k => !l.any fun o => k.fid == o.fid)) h

/-- An operation that waits for credits is taken out, and beside that frames are worked on. -/
theorem State.giveUp_without {o : Op} (ho : o.place = .credit) (s : State) : (s.giveUp o).still = (s.without [o]).still := by
  obtain ⟨cel, frames, voids, hparts⟩ := s.letGo_parts o
  rw [s.giveUp_still o, hparts, if_pos ho]
  simp [State.still, State.without, bne]

/-- So are all that wait for credits, one after another. -/
theorem State.foldl_giveUp {l : List Op} (hl : ∀ o ∈ l, o.place = .credit) (s : State) :
    (l.foldl (fun a o => a.giveUp o) s).still = (s.without l).still := by
  induction l generalizing s with
  | nil => rw [State.without_nil]; rfl
  | cons o l ih =>
    obtain ⟨ho, hrest⟩ := List.forall_mem_cons.mp hl
    calc (l.foldl (fun a o => a.giveUp o) (s.giveUp o)).still
      _ = ((s.giveUp o).without l).still := ih hrest _
      _ = ((s.without [o]).without l).still := State.without_still (s.giveUp_without ho) l
      _ = (s.without (o :: l)).still := by rw [State.without_without]; rfl

/-! ## FLOW_FORMAT and its end (09 R345, R346) -/

section
variable {s : State} {r q : Req} (h : s.Accepts 0x0601 r q) (hrsv : q.f 4 31 7 = 0) (hmax : q.f 4 5 0 ≤ 48) (hfour : q.f 4 5 0 % 4 = 0)
  (hsalt : q.f 4 6 6 = 0 → q.f64 5 = 0 ∧ q.f64 7 = 0) (he : q.ExtSize 5) (hfatal : s.flt.fatal = 0) (hpend : s.hif.pend = false)
  (hidle : s.flo.formatting = false)

/-- The state after the draw of a salt, where a format is given none. -/
def State.salted (q : Req) (s : State) : State := if q.f 4 6 6 = 1 then s else (State.drawWords 4 s).2

theorem State.salted_still (q : Req) (s : State) : (s.salted q).still = s.still := by
  unfold State.salted
  split
  · rfl
  · simp [State.still]

/-- The operations that wait for credits. -/
def State.creditOps (s : State) : List Op := s.flo.ops.filter fun o => !o.out

/-- The salt that a format puts in force. -/
def State.formatSalt (q : Req) (s : State) : Nat :=
  let l := if q.f 4 6 6 = 1 then [q.w 5, q.w 6, q.w 7, q.w 8] else (State.drawWords 4 s).1
  join (wordAt l 0) (wordAt l 1) + 2 ^ 64 * join (wordAt l 2) (wordAt l 3)

theorem State.formatSalt_given {q : Req} (h : q.f 4 6 6 = 1) (s : State) : s.formatSalt q = q.f64 5 + 2 ^ 64 * q.f64 7 := by
  unfold State.formatSalt
  rw [if_pos h]
  rfl

/-- The state in which a format runs. -/
def State.formatBegun (q : Req) (s : State) : State :=
  (s.creditOps.foldl (fun a o => a.giveUp o) (s.salted q)).onFlo fun f => { f with formatting := true, next := (s.formatSalt q, q.f 4 5 0) }

theorem State.formatBegun_still (q : Req) (s : State) : (s.formatBegun q).still =
    ((s.without s.creditOps).onFlo fun f => { f with formatting := true, next := (s.formatSalt q, q.f 4 5 0) }).still := by
  have hcredit : ∀ o ∈ s.creditOps, o.place = .credit := fun o ho => by simpa [Op.out] using (List.mem_filter.mp ho).2
  have hbegun := (State.foldl_giveUp hcredit (s.salted q)).trans (State.without_still (s.salted_still q) s.creditOps)
  exact congrArg (fun x : Crn × Tim × Stg × Tbl × Hif × Flo × List Park => (x.1, x.2.1, x.2.2.1, x.2.2.2.1, x.2.2.2.2.1,
    { x.2.2.2.2.2.1 with formatting := true, next := (s.formatSalt q, q.f 4 5 0) }, x.2.2.2.2.2.2)) hbegun

include h hrsv hmax hfour hsalt he hfatal hpend hidle in
theorem exec_flowFormat : exec (.flowFormat r) s = .next (s.finish 0x0601 q (if !s.inRun || s.pfwLow then { status := stRefused, st := s }
    else { wait := some .format, need := 1, st := s.formatBegun q })) := by
  have hplain : (q.f 4 6 6 == 0 && (q.f64 5 != 0 || q.f64 7 != 0)) = false := by
    rw [Bool.and_eq_false_imp, beq_iff_eq]
    exact fun h0 => by simp [(hsalt h0).1, (hsalt h0).2]
  refine (mailbox_runs h ?_ rfl (by simp) (by simpa using he) (fun _ => hfatal) ?_ rfl).trans ?_
  · dsimp only
    rw [hplain]
    simp [Req.rsv, hrsv, hmax, hfour]
  · dsimp only
    rw [hpend, hidle]
    rfl
  · rfl

end

/-- The store as a format leaves it, with what the response slots show. -/
def State.formatEnded (slots : BitVec 8) (s : State) : State :=
  ((s.sees slots).onFlo fun f => { f with
    formatted := true, formatting := false, formatId := s.flo.formatId + 1, salt := f.next.1, archiveGib := f.next.2
    recs := [], locked := [], cache := [], archive := [], head := [] }).onPrg fun g => { g with nat := [], freed := [] }

/-- The answer of the only command of a kind that waits and was not lost. -/
theorem State.answerDeferred_one {s : State} {p : DeferKind → Bool} {d : Deferred}
    (hd : (s.hif.deferred.filter fun d => p d.kind && !d.lost) = [d]) (ws : DeferKind → List Word) : s.answerDeferred p ws =
      (s.onHif fun m => { m with deferred := m.deferred.filter fun d => !p d.kind }).respond d.op (s.late d.req) stOk (ws d.kind) := by
  unfold State.answerDeferred
  rw [hd]
  rfl

/-- A format ends once nothing is in flight: no operation without its result, no message and no context. -/
theorem exec_flowFormatDone {s : State} (hformat : s.flo.formatting = true) (hops : ∀ o ∈ s.flo.ops, o.place = .done) (hvoids : s.flo.voids = [])
    (hfw : s.flo.fwOps = []) (hcoh : s.flo.coh = []) (hcomps : s.prg.comps = []) (hctx : s.prg.ctx = []) (slots : BitVec 8) :
    exec (.flowFormatDone slots) s =
      .next ((s.formatEnded slots).answerDeferred (fun k => decide (k = .format)) fun _ => [wd (s.flo.formatId + 1)]) := by
  have hdone : (s.flo.ops.all fun o => decide (o.place = .done)) = true := List.all_eq_true.mpr fun o ho => decide_eq_true (hops o ho)
  have hquiet : (s.flo.formatting && s.flo.ops.all (fun o => decide (o.place = .done)) && s.flo.voids.isEmpty &&
      s.flo.fwOps.isEmpty && s.flo.coh.isEmpty && s.prg.comps.isEmpty && s.prg.ctx.isEmpty) = true := by
    rw [hformat, hdone, hvoids, hfw, hcoh, hcomps, hctx]
    rfl
  exact congrArg Host.Outcome.next (if_pos hquiet)

/-! ## Settings (09 R309, R315, R347 to R349) -/

/-- A command with bad operands is INVALID. -/
theorem mailbox_bad {op : Nat} {r q : Req} {s : State} {chk : Req → Chk} {run : Req → Ans} (h : s.Accepts op r q)
    (ho : (chk q).opens = false) (hb : (chk q).bad = true) : mailbox op r s chk run = .next (s.respond op q stInvalid []) := by
  obtain ⟨hreq, hopen, -, -⟩ := h
  have hinvalid : s.preStatus q (chk q) = stInvalid := by
    unfold State.preStatus
    rw [ho, hopen, hb, Bool.not_true, Bool.and_false, Bool.or_true, Bool.true_or, Bool.true_or]
    rfl
  rw [mailbox_status hreq (by rw [hinvalid]; decide), hinvalid]

section
variable {s : State} {r q : Req}

theorem exec_flowTemplateSet_long (h : s.Accepts 0x0602 r q) (hlong : 40 < templateLen (q.f 4 17 5) 2) :
    exec (.flowTemplateSet r) s = .next (s.respond 0x0602 q stInvalid []) :=
  mailbox_bad h rfl (by simp [hlong])

theorem exec_flowTemplateSet (h : s.Accepts 0x0602 r q) (hrsv : q.f 4 31 18 = 0) (hsome : q.f 4 17 5 ≠ 0) (he : q.ExtSize 1)
    (hfits : templateLen (q.f 4 17 5) 2 ≤ 40) :
    exec (.flowTemplateSet r) s = .next ((s.stageBy 0x0602 q (setTemplate q)).respond 0x0602 q stOk []) :=
  (mailbox_runs h (by simp [Req.rsv, hrsv, hsome, hfits]) rfl (by simp) (by simpa using he) (by simp) rfl rfl).trans
    (congrArg Host.Outcome.next State.finish_ok)

theorem exec_flowZoneSet (h : s.Accepts 0x0603 r q) (h4 : q.f 4 31 14 = 0) (h5 : q.f 5 31 29 = 0) (h7 : q.f 7 31 24 = 0)
    (hquota : q.f 5 28 0 ≤ 268435456) (hrate : (q.w 6).toNat ≤ 1280000000) (hburst : 128 ≤ q.f 7 23 0)
    (harchive : s.flo.archiveGib = 0 → q.f 4 13 12 < 2) (he : q.ExtSize 4) : exec (.flowZoneSet r) s = .next (s.finish 0x0603 q
      (if s.img.policy.quotaMax < q.f 5 28 0 ∨ s.img.policy.rateMax < (q.w 6).toNat ∨ s.img.policy.burstMax < q.f 7 23 0
      then { status := stRefused, st := s } else { st := s.stageBy 0x0603 q (setZone s.stg q) })) := by
  have hroom : (s.flo.archiveGib == 0 && decide (2 ≤ q.f 4 13 12)) = false := by
    rw [Bool.and_eq_false_imp, beq_iff_eq]
    exact fun h0 => decide_eq_false (Nat.not_le.mpr (harchive h0))
  refine mailbox_runs h ?_ rfl (by simp) (by simpa using he) (by simp) rfl rfl
  dsimp only
  rw [hroom]
  simp [Req.rsv, h4, h5, h7, hquota, hrate, hburst]

theorem exec_flowAgeSet (h : s.Accepts 0x0604 r q) (h4 : q.f 4 31 4 = 0) (h5 : q.f 5 31 17 = 0) (hlo : 1 ≤ q.f 5 16 0) (hhi : q.f 5 16 0 ≤ 86400)
    (he : q.ExtSize 2) : exec (.flowAgeSet r) s = .next ((s.stageBy 0x0604 q (setAging s.stg q)).respond 0x0604 q stOk []) :=
  (mailbox_runs h (by simp [Req.rsv, inRange, h4, h5, hlo, hhi]) rfl (by simp) (by simpa using he) (by simp) rfl rfl).trans
    (congrArg Host.Outcome.next State.finish_ok)

end

theorem setTemplate_reads (q : Req) (c : Cfg) : templateFields (setTemplate q c) (q.f 4 4 0) = q.f 4 17 5 := by
  have hwords : cfgWords (setTemplate q c) 0x0602 (q.f 4 4 0) [wd (q.f 4 4 0 + 0x19C0 * 2 ^ 5)] = [q.w 4] := cfgWords_cfgSet_same ..
  rw [templateFields, hwords]
  rfl

/-! ## FLOW_ARCHIVE_READ (09 R337, R352) -/

/-- The archive records of the numbers asked for that are still held. -/
def State.archiveHeld (s : State) (q : Req) : List (List Word) :=
  ((List.range (q.f 4 14 2)).filter fun i =>
    decide (max (q.f64 5) (tabGet 0 s.flo.head (q.f 4 1 0) - s.archiveCap) ≤ q.f64 5 + i ∧ q.f64 5 + i < tabGet 0 s.flo.head (q.f 4 1 0))).map
    fun i => tabGet [] s.flo.archive (q.f 4 1 0 * 2 ^ 32 + (q.f64 5 + i) % s.archiveCap)

/-- A list of those items that hold, each by its image. -/
theorem filterMap_if_eq_map_filter {α β : Type} (p : α → Prop) [DecidablePred p] (f : α → β) (l : List α) :
    (l.filterMap fun a => if p a then some (f a) else none) = (l.filter fun a => decide (p a)).map f := by
  induction l with
  | nil => rfl
  | cons a l ih =>
    by_cases h : p a <;> simp [h, ih]

section
variable {s : State} {r q : Req} (h : s.Accepts 0x0620 r q) (hrsv : q.f 4 31 15 = 0) (hmany : q.f 4 14 2 ≤ 4096) (he : q.ExtSize 3)
include h hrsv hmany he

theorem exec_flowArchiveRead : exec (.flowArchiveRead r) s = .next (s.finish 0x0620 q
    (if s.storeAway then { status := stRefused, st := s }
    else if s.flo.archiveGib = 0 then { status := stNotFound, st := s }
    else { words := wd (s.archiveHeld q).length :: (two (tabGet 0 s.flo.head (q.f 4 1 0)) ++ (if s.archiveHeld q = [] then (State.drawWords 2 s).1
              else two (max (q.f64 5) (tabGet 0 s.flo.head (q.f 4 1 0) - s.archiveCap))) ++ (s.archiveHeld q).flatten)
           st := (State.drawWords 2 s).2 })) := by
  refine (mailbox_runs h (by simp [Req.rsv, hrsv, hmany]) rfl (by simp) (by simpa using he) (by simp) rfl rfl).trans ?_
  simp only [filterMap_if_eq_map_filter]
  rfl

end

/-! ## FLOW_STATS_READ (09 R343, R353) -/

/-- The answer of FLOW_STATS_READ. -/
def State.flowStatsWords (s : State) (q : Req) : List Word :=
  wd (q.f 4 24 20) :: (List.range (q.f 4 24 20)).flatMap fun j => two (s.flowItem (q.f 4 2 0) (q.f 4 14 3) (q.f 4 19 15 + j))

theorem State.length_flowStatsWords (s : State) (q : Req) : (s.flowStatsWords q).length = 1 + 2 * q.f 4 24 20 := by
  rw [State.flowStatsWords, List.length_cons, length_flatMap_of_length fun _ => length_two _, List.length_range, Nat.add_comm]

/-- Word i of an item behind the count. -/
theorem State.flowStatsWords_item (s : State) {q : Req} {i j : Nat} (hj : j < q.f 4 24 20) (hi : i < 2) :
    wordAt (s.flowStatsWords q) (1 + (2 * j + i)) = wordAt (two (s.flowItem (q.f 4 2 0) (q.f 4 14 3) (q.f 4 19 15 + j))) i := by
  rw [wordAt, List.getD_eq_getElem?_getD, State.flowStatsWords, Nat.add_comm, List.getElem?_cons_succ,
    getElem?_flatMap_of_length (fun _ => length_two _) hi, List.getElem?_range hj, wordAt, List.getD_eq_getElem?_getD]
  rfl

theorem exec_flowStatsRead {s : State} {r q : Req} (h : s.Accepts 0x0630 r q) (hrsv : q.f 4 31 25 = 0) (hkind : q.f 4 2 0 ≤ 4)
    (hid : q.f 4 14 3 < [128, 64, 8, 4096, 1].getD (q.f 4 2 0) 0)
    (hitems : q.f 4 19 15 + q.f 4 24 20 ≤ [20, 5, 4, 4, 3].getD (q.f 4 2 0) 0) (he : q.ExtSize 1) :
    exec (.flowStatsRead r) s = .next (s.finish 0x0630 q { words := s.flowStatsWords q, st := s }) := by
  refine mailbox_runs h ?_ rfl (by simp) (by simpa using he) (by simp) rfl rfl
  dsimp only
  rw [decide_eq_false (Nat.not_lt.mpr hkind), decide_eq_false (Nat.not_le.mpr hid), decide_eq_false (Nat.not_lt.mpr hitems)]
  simp [Req.rsv, hrsv]

/-! ## The obligation -/

/-- Settles O22, a command at a time; what a format takes back is the work of frames beside (`State.foldl_giveUp`). -/
theorem flowStoreSettings : Obligations.FlowStoreSettings := by
  unfold Obligations.FlowStoreSettings
  refine ⟨⟨?format, ?formatDone⟩, ⟨?template, ?zone, ?age⟩, ?archive, ?stats⟩
  case format =>
    intro s r q h hrsv hmax hfour hsalt he hroom hfatal hpend hidle
    rw [exec_flowFormat h hrsv hmax hfour hsalt he hfatal hpend hidle]
    refine ⟨fun haway => ?_, fun hrun hpower => ?_⟩
    · rw [if_pos (by rcases haway with h | h <;> simp [h]), State.finish_no (by decide) (by decide)]
    · rw [if_neg (by simp [hrun, hpower]), State.finish_waits_room hroom]
      have hstill := s.formatBegun_still q
      refine ⟨_, rfl, congrArg (·.1) hstill, congrArg (·.2.1) hstill, congrArg (·.2.2.1) hstill, congrArg (·.2.2.2.1) hstill,
        congrArg (fun m : Hif => m.deferred ++ [{ kind := .format, op := 0x0601, req := q }]) (congrArg (·.2.2.2.2.1) hstill), rfl,
        congrArg (·.2.2.2.2.2.1.formatted) hstill, congrArg (·.2.2.2.2.2.1.recs) hstill, congrArg (·.2.2.2.2.2.1.cache) hstill, rfl,
        fun hgiven => State.formatSalt_given hgiven s, ?_, fun o ho hplace k hk => ?_⟩
      · refine (State.still_ops hstill).trans (List.filter_congr fun p _ => ?_)
        simp [State.creditOps, Op.out, List.any_filter, Bool.and_assoc]
      · have hparked : k ∈ (s.without s.creditOps).frm.parked := (State.still_parked hstill) ▸ hk
        have hnone := (List.mem_filter.mp hparked).2
        have hcredit : o ∈ s.creditOps := List.mem_filter.mpr ⟨ho, by simp [Op.out, hplace]⟩
        simp only [Bool.not_eq_true', List.any_eq_false, beq_iff_eq] at hnone
        exact hnone o hcredit
  case formatDone =>
    intro s slots hformat hops hvoids hfw hcoh hcomps hctx
    refine ⟨_, exec_flowFormatDone hformat hops hvoids hfw hcoh hcomps hctx slots, ?_, ?_, ?_, fun d hd => ?_⟩
    · ext1 <;> simp [State.formatEnded, State.sees]
    · rw [State.answerDeferred_flo]
      rfl
    · rw [State.answerDeferred_prg]
      rfl
    · refine ⟨(s.formatEnded slots).onHif fun m => { m with deferred := m.deferred.filter fun d => !decide (d.kind = .format) },
        State.answerDeferred_one hd _, ?_, rfl⟩
      rw [State.answerDeferred_flo]
      rfl
  case template =>
    intro s r q h hrsv hsome he
    exact ⟨exec_flowTemplateSet_long h, fun hfits => ⟨s.stageBy 0x0602 q (setTemplate q), exec_flowTemplateSet h hrsv hsome he hfits,
      ⟨rfl, rfl, fun k hk => tabFind_cfgSet_other hk ..⟩, setTemplate_reads q _⟩⟩
  case zone =>
    intro s r q h h4 h5 h7 hquota hrate hburst harchive he p within
    rw [exec_flowZoneSet h h4 h5 h7 hquota hrate hburst harchive he]
    refine ⟨fun hbeyond => ?_, fun hwithin => ⟨s.stageBy 0x0603 q (setZone s.stg q), ?_,
      ⟨rfl, rfl, fun k hk => tabFind_cfgSet_other hk ..⟩, cfgWords_cfgSet_same ..⟩⟩
    · rw [if_pos (by simpa only [within, not_and_or, Nat.not_le] using hbeyond), State.finish_no (by decide) (by decide)]
    · obtain ⟨hq, hr, hb⟩ := hwithin
      rw [if_neg (not_or.mpr ⟨Nat.not_lt.mpr hq, not_or.mpr ⟨Nat.not_lt.mpr hr, Nat.not_lt.mpr hb⟩⟩), State.finish_ok]
  case age =>
    intro s r q h h4 h5 hlo hhi he
    exact ⟨_, exec_flowAgeSet h h4 h5 hlo hhi he, ⟨rfl, rfl, fun k hk => tabFind_cfgSet_other hk ..⟩, cfgWords_cfgSet_same ..⟩
  case archive =>
    intro s r q h hrsv hmany he
    rw [exec_flowArchiveRead h hrsv hmany he]
    refine ⟨fun haway => ?_, fun hhere hnone => ?_, fun hhere hsome => ?_⟩
    · rw [if_pos haway, State.finish_no (by decide) (by decide)]
    · rw [if_neg (by rw [hhere]; decide), if_pos hnone, State.finish_no (by decide) (by decide)]
    · intro k head first l hroom
      rw [if_neg (by rw [hhere]; decide), if_neg hsome]
      have hfirst : (if l = [] then (State.drawWords 2 s).1 else two first).length = 2 := by
        split
        · exact State.length_drawWords 2 s
        · rfl
      refine ⟨(State.drawWords 2 s).2, if l = [] then (State.drawWords 2 s).1 else two first, congrArg Host.Outcome.next ?_,
        State.drawWords_eq 2 s, hfirst, fun hl => if_neg hl⟩
      refine State.finish_done (.inl rfl) rfl rfl ?_
      change (wd l.length :: (two head ++ (if l = [] then (State.drawWords 2 s).1 else two first) ++ l.flatten)).length ≤ q.room
      rw [List.length_cons, List.length_append, List.length_append, hfirst, length_two]
      omega
  case stats =>
    intro s r q h hrsv hkind hid hitems he hroom
    refine ⟨s.flowStatsWords q, ?_, s.length_flowStatsWords q, fun j hj =>
      ⟨s.flowStatsWords_item hj Nat.two_pos, ?_⟩⟩
    · rw [exec_flowStatsRead h hrsv hkind hid hitems he,
        State.finish_done (.inl rfl) rfl rfl ((s.length_flowStatsWords q).trans_le hroom)]
    · rw [show 2 + 2 * j = 1 + (2 * j + 1) by omega]
      exact s.flowStatsWords_item hj (by decide)

end Sys2Proof.Machine
end
